-- ==== Sys2Proof/Word.lean ====
section
/-! DEFINITION. The plain types of the SB416: bytes, station, region and chunk numbers, the maps the
part sends as numbers with one bit a position (Table 11-1), and the stamp pair (R2). -/

namespace Sys2Proof

/-- One byte, as sent on the Host Port and on the Mirror Line. -/
abbrev Byte := BitVec 8

/-- A station number, 0–15 (scope 4.2). -/
abbrev Station := Fin 16

/-- A region number, 0–63 (R1). -/
abbrev Region := Fin 64

/-- A chunk number within a region, 0–15 (R1). -/
abbrev Chunk := Fin 16

/-- A station map: bit n stands for station n (Table 11-1). -/
abbrev StationMap := BitVec 16

/-- A region map: bit r stands for region r (Table 11-1). -/
abbrev RegionMap := BitVec 64

/-- A set of the chunks of one region: bit k stands for chunk k. -/
abbrev ChunkSet := BitVec 16

/-- The epoch of a stamp, 0–65535 (R2). -/
abbrev Epoch := BitVec 16

/-- The version of a stamp, 0 to 2^48−1 (R2). -/
abbrev Version := BitVec 48

/-- A stamp, the pair (epoch, version) kept with each region's copy (R2). -/
structure Stamp where
  epoch : Epoch
  version : Version
deriving DecidableEq, Repr

/-- Whether position `i` belongs to the map `m`. -/
def inMap {n : Nat} (m : BitVec n) (i : Fin n) : Bool := m.getLsbD i.val

/-- The map `m` with position `i` added. -/
def addBit {n : Nat} (m : BitVec n) (i : Fin n) : BitVec n := m ||| BitVec.twoPow n i.val

/-- The map `m` without position `i`. -/
def dropBit {n : Nat} (m : BitVec n) (i : Fin n) : BitVec n := m &&& ~~~ BitVec.twoPow n i.val

/-- The number of positions in the map `m`. -/
def countBits {n : Nat} (m : BitVec n) : Nat := (List.finRange n).countP (inMap m)

/-- The map of the positions for which `p` holds. -/
def mapOf {n : Nat} (p : Fin n → Bool) : BitVec n :=
  (List.finRange n).foldl (fun m i => if p i then addBit m i else m) 0

end Sys2Proof
end

