-- ==== Sys2Proof/Syntax.lean ====
section
/-! DEFINITION. The commands of the block: one constructor of `Instr` for each row of
spec/opcode_table.json, with the operands the spec gives that row, and the frames of the Mirror Line that the
reception rows carry (Table 2-2). A command is what reaches the part from outside it (a Host Port transaction, a
frame, a pin) or comes about inside it at a moment the rest of the part does not choose (an array completion, a
timer expiry). Input pins that a check samples (GUARD#, the straps) are operands of the commands that sample
them (log 8). -/

namespace Sys2Proof

/-- The mode field of a BEACON (Table 11-3). -/
inductive BeaconMode
  | joining | active | isolated | dozing | leaving
deriving DecidableEq, Repr

/-- One census entry of a BEACON: a region its sender owns, with the sender's stamp (R50). -/
structure CensusEntry where
  region : Region
  stamp : Stamp
deriving DecidableEq, Repr

/-- A BEACON frame (Table 2-2). -/
structure BeaconFrame where
  origin : Station
  mode : BeaconMode
  members : StationMap
  census : List CensusEntry
deriving DecidableEq, Repr

/-- A CLAIM frame: the region and the claimant's copy stamp (Table 2-2). -/
structure ClaimFrame where
  origin : Station
  region : Region
  stamp : Stamp
deriving DecidableEq, Repr

/-- A PULL frame: the region, the requester's stamp and the force flag (Table 2-2). -/
structure PullFrame where
  origin : Station
  region : Region
  stamp : Stamp
  force : Bool
deriving DecidableEq, Repr

/-- An UPDATE frame (Table 2-2). Its length field is the length of `data`. -/
structure UpdateFrame where
  origin : Station
  region : Region
  ownerEpoch : Epoch
  base : Version
  result : Version
  offset : Nat
  data : List Byte
deriving DecidableEq, Repr

/-- An IMAGE frame: one chunk of a region at one stamp, for the stations of the target map (Table 2-2). -/
structure ImageFrame where
  origin : Station
  region : Region
  stamp : Stamp
  chunk : Chunk
  targets : StationMap
  data : List Byte
deriving DecidableEq, Repr

/-- A frame of one of the five kinds (R24). -/
inductive Frame
  | beacon (b : BeaconFrame)
  | claim (c : ClaimFrame)
  | pull (p : PullFrame)
  | update (u : UpdateFrame)
  | image (i : ImageFrame)
deriving DecidableEq, Repr

/-- The line rate the LRATE strap gives (R201). -/
inductive LineRate
  | mbit1 | mbit4
deriving DecidableEq, Repr

/-- What drives an input pin that has an internal pull-up: a level from outside, or nothing (R201). -/
inductive Pin
  | low | high | unconnected
deriving DecidableEq, Repr

/-- Whether an input pin with a pull-up reads high: one left open does (R201). -/
def Pin.readsHigh : Pin → Bool
  | .low => false
  | .high | .unconnected => true

/-- Whether an active-low input pin is asserted: GUARD# and RESET# are while they read low, so that an open GUARD# is not
asserted and an open RESET# does not hold the part in reset (R201, Table 11-14). -/
def Pin.asserted (p : Pin) : Bool := !p.readsHigh

/-- The strap pins as they stand when a reset samples them (R150, R201). -/
structure Straps where
  st3 : Pin
  st2 : Pin
  st1 : Pin
  st0 : Pin
  lrate : Pin
deriving DecidableEq, Repr

/-- The station number that the straps ST3–ST0 give, ST3 its most significant bit (R201). -/
def Straps.number (p : Straps) : Station :=
  ⟨8 * p.st3.readsHigh.toNat + 4 * p.st2.readsHigh.toNat + 2 * p.st1.readsHigh.toNat + p.st0.readsHigh.toNat, by
    have h3 := p.st3.readsHigh.toNat_le
    have h2 := p.st2.readsHigh.toNat_le
    have h1 := p.st1.readsHigh.toNat_le
    have h0 := p.st0.readsHigh.toNat_le
    omega⟩

/-- Straps left open (R201). -/
def Straps.unconnected : Straps := ⟨.unconnected, .unconnected, .unconnected, .unconnected, .unconnected⟩

/-- The line rate that LRATE gives: low for 1 Mbit/s, high for 4 Mbit/s (R201). -/
def Straps.rate (p : Straps) : LineRate := if p.lrate.readsHigh then .mbit4 else .mbit1

/-- A run of `bits` bits of a poll, between which nothing else comes about. With `held` the host keeps CS# low after them, and a
POLL that comes next, after whatever came about in between, goes on with the same transaction; without it CS# rises (R176, log
36). -/
structure PollRun where
  bits : Nat
  held : Bool
deriving DecidableEq, Repr

/-- Where in its own frame the transmitter reads back a wrong cell (R36, R196): in the tail, which is the ack lead and the end
delimiter, or before it, in the start cell, the header, the payload or the CRC. -/
inductive FaultPlace
  | content | tail
deriving DecidableEq, Repr

/-- The commands, one constructor for each row of spec/opcode_table.json, in the table's order. `guardPin`
is whether GUARD# is asserted at the moment the row samples it (R19). `ack` is the complete ack map as it has been read from
the line, all 16 slots of it (R34). -/
inductive Instr
  /-- PUT_REFUSED_BY_PORT (R173): a put that reaches its CS# rise in WORKING or ANSWER. -/
  | putRefusedByPort
  /-- INCOMPLETE_PUT (R174): a put whose CS# rises before its command block is complete. -/
  | incompletePut
  /-- UNKNOWN_COMMAND_CODE (R174): a complete put whose code is none of the seventeen. -/
  | unknownCommandCode (code : Byte)
  /-- UNKNOWN_SELECTOR (R170): a transaction whose selector is none of the three. -/
  | unknownSelector (selector : Byte)
  /-- TAKE (R175): a take in which `bits` bits are clocked after the selector until CS# rises. -/
  | take (bits : Nat)
  /-- POLL (R176): a run of bits of a poll is clocked out. -/
  | poll (run : PollRun)
  /-- READ (R138): region, offset and length as the block carries them. -/
  | read (region : Byte) (offset length : BitVec 16)
  /-- WRITE (R60): the fixed part, the data part, and GUARD#. -/
  | write (region : Byte) (offset length : BitVec 16) (data : List Byte) (guardPin : Bool)
  /-- CLAIM (R87). -/
  | claim (region : Byte) (guardPin : Bool)
  /-- RELEASE (R102). -/
  | release (region : Byte) (guardPin : Bool)
  /-- KEEP (R102). -/
  | keep (region : Byte)
  /-- FENCE (R82). -/
  | fence
  /-- REGION (R178). -/
  | region (region : Byte) (guardPin : Bool)
  /-- ROSTER (R179). -/
  | roster
  /-- STATUS (R180). -/
  | status (guardPin : Bool)
  /-- EVENT (R181). -/
  | event
  /-- IDENT (R182). -/
  | ident
  /-- SETUP (R153): member set and guard set. -/
  | setup (members : StationMap) (guardSet : RegionMap) (guardPin : Bool)
  /-- FORMAT (R154). -/
  | format (guardPin : Bool)
  /-- JOIN (R155). -/
  | join
  /-- LEAVE (R163). -/
  | leave
  /-- DOZE (R159). -/
  | doze
  /-- WAKE (R161). -/
  | wake
  /-- SETUP_RECORD_WRITTEN (R153). -/
  | setupRecordWritten
  /-- FORMAT_STEP_DONE (R143). -/
  | formatStepDone
  /-- READ_PIECE_DONE (R139). -/
  | readPieceDone
  /-- WRITE_ARRAY_DONE (R63). -/
  | writeArrayDone
  /-- APPLY_WRITE_DONE (R141). -/
  | applyWriteDone
  /-- CHUNK_READ_DONE (R123). -/
  | chunkReadDone
  /-- LINE_IDLE (R25). -/
  | lineIdle
  /-- LOST_ARBITRATION (R28). -/
  | lostArbitration
  /-- LINE_FAULT (R36), with the place of the wrong cell; where none is written, one before the tail. -/
  | lineFault (place : FaultPlace := .content)
  /-- FRAME_DISCARDED (R29). -/
  | frameDiscarded
  /-- STRANGER_FRAME (R31): an intact frame from a non-member. -/
  | strangerFrame (origin : Station)
  /-- BEACON_RECEIVED (R53). -/
  | beaconReceived (frame : BeaconFrame)
  /-- CLAIM_FRAME_RECEIVED (R91). -/
  | claimFrameReceived (frame : ClaimFrame) (guardPin : Bool)
  /-- PULL_RECEIVED (R120). -/
  | pullReceived (frame : PullFrame)
  /-- UPDATE_RECEIVED (R71). -/
  | updateReceived (frame : UpdateFrame)
  /-- IMAGE_RECEIVED (R130). -/
  | imageReceived (frame : ImageFrame)
  /-- BEACON_FRAME_END (R51). -/
  | beaconFrameEnd (ack : StationMap)
  /-- CLAIM_FRAME_END (R95). -/
  | claimFrameEnd (ack : StationMap)
  /-- PULL_FRAME_END (R116). -/
  | pullFrameEnd (ack : StationMap)
  /-- UPDATE_FRAME_END (R78). -/
  | updateFrameEnd (ack : StationMap)
  /-- IMAGE_FRAME_END (R125). -/
  | imageFrameEnd (ack : StationMap)
  /-- FRAME_END_LOST (R35): with `none`, the frame whose ack point has passed loses its end; with `some f`, the
  frame `f` is found intact and loses its end before this station's own ack point. -/
  | frameEndLost (early : Option Frame)
  /-- SILENCE_TIMER_24MS (R41) of station `n`. -/
  | silenceTimer24ms (n : Station)
  /-- SILENCE_TIMER_48MS (R41) of station `n`. -/
  | silenceTimer48ms (n : Station)
  /-- STRANGER_TIMER_EXPIRY (R31) of station `n`. -/
  | strangerTimerExpiry (n : Station)
  /-- BEACON_TIMER_EXPIRY (R47). -/
  | beaconTimerExpiry
  /-- LISTEN_EXPIRY (R158). -/
  | listenExpiry
  /-- LEAVE_DRAIN_CUT (R165). -/
  | leaveDrainCut
  /-- LEAVE_FINAL_EXPIRY (R166). -/
  | leaveFinalExpiry
  /-- ANSWER_TIMER_EXPIRY (R118) of the pull of region `r`. -/
  | answerTimerExpiry (r : Region)
  /-- POWER_ON_RESET (R146), with the straps sampled. -/
  | powerOnReset (straps : Straps)
  /-- RESET_ASSERTED (R147). -/
  | resetAsserted
  /-- RESET_RELEASED (R147), with the straps sampled. -/
  | resetReleased (straps : Straps)
  /-- POWER_LOST (R134). -/
  | powerLost
deriving DecidableEq, Repr

end Sys2Proof
end

