-- ==== Sys2Proof/Decode.lean ====
section
/-! DEFINITION. The layouts of Chapter 11 read and written: bit and byte order (R195), the frames with their ranges
and CRC (R197, R198), the cells of the Mirror Line as they are sent, read and read back (R196), and the transactions of
the Host Port (R199). The opcode table gives no row any bits, so `decodeTableWord` answers none; what reaches the part
is read by `readCells`, `attemptCommand` and `transactionOfBits`, which give the rows of the table. -/

namespace Sys2Proof

/-! ### Bit and byte order (R195) -/

/-- The bits of a byte in the order in which they are sent: most significant first (R195). -/
def byteBits (b : Byte) : List Bool := [7, 6, 5, 4, 3, 2, 1, 0].map (fun i => b.getLsbD i)

/-- The byte that eight bits spell, the first of them the most significant (R195). -/
def byteOfBits (b7 b6 b5 b4 b3 b2 b1 b0 : Bool) : Byte :=
  BitVec.ofBool b7 ++ BitVec.ofBool b6 ++ BitVec.ofBool b5 ++ BitVec.ofBool b4 ++ BitVec.ofBool b3 ++ BitVec.ofBool b2
    ++ BitVec.ofBool b1 ++ BitVec.ofBool b0

/-- The whole bytes that a run of bits spells, most significant bit first; fewer than eight bits at the end are no byte
(R195, R199). -/
def bytesOfBits : List Bool → List Byte
  | b7 :: b6 :: b5 :: b4 :: b3 :: b2 :: b1 :: b0 :: rest => byteOfBits b7 b6 b5 b4 b3 b2 b1 b0 :: bytesOfBits rest
  | _ => []

/-- The low `n` bytes of `x`, most significant first. -/
def bytesBE : Nat → Nat → List Byte
  | 0, _ => []
  | n + 1, x => BitVec.ofNat 8 (x / 256 ^ n) :: bytesBE n x

/-- The number that the bytes spell, most significant first. -/
def natBE (bytes : List Byte) : Nat := bytes.foldl (fun acc b => acc * 256 + b.toNat) 0

/-- A stamp in eight bytes: epoch in bytes 0–1, version in bytes 2–7 (Table 11-1). -/
def stampBytes (s : Stamp) : List Byte := bytesBE 2 s.epoch.toNat ++ bytesBE 6 s.version.toNat

/-- The stamp that eight bytes spell. -/
def stampOfBytes (bytes : List Byte) : Stamp :=
  ⟨BitVec.ofNat 16 (natBE (bytes.take 2)), BitVec.ofNat 48 (natBE (bytes.drop 2))⟩

/-- The region a byte names: 00h–3Fh, other values out of range (Table 11-1). -/
def regionOfByte (b : Byte) : Option Region :=
  if h : b.toNat < 64 then some ⟨b.toNat, h⟩ else none

/-- The chunk a byte names: 00h–0Fh (Table 11-7). -/
def chunkOfByte (b : Byte) : Option Chunk :=
  if h : b.toNat < 16 then some ⟨b.toNat, h⟩ else none

/-! ### Ranges of the frame fields (R29, R197) -/

/-- An update span: even offset, even length of 2–256, within one chunk of the region (R1). -/
def updateSpanOk (offset length : Nat) : Bool :=
  offset % 2 == 0 && length % 2 == 0 && 2 ≤ length && length ≤ 256 && offset < 4096
    && offset / 256 == (offset + length - 1) / 256

/-- The ranges of Table 11-3: the origin's own bit set, at most four census entries, none in a LEAVING
beacon, no region twice. -/
def BeaconFrame.inRange (b : BeaconFrame) : Bool :=
  inMap b.members b.origin && b.census.length ≤ 4 && (b.mode != .leaving || b.census.isEmpty)
    && decide (b.census.map (·.region)).Nodup

/-- The range of Table 11-4: a claim epoch of 0–65534. -/
def ClaimFrame.inRange (c : ClaimFrame) : Bool := c.stamp.epoch != 0xFFFF

/-- The ranges of Table 11-6: base below result, and an update span. -/
def UpdateFrame.inRange (u : UpdateFrame) : Bool :=
  decide (u.base.toNat < u.result.toNat) && updateSpanOk u.offset u.data.length

/-- The ranges of Table 11-7: a target map that is not empty and leaves out the origin, and 256 data bytes. -/
def ImageFrame.inRange (i : ImageFrame) : Bool :=
  i.targets != 0 && !inMap i.targets i.origin && i.data.length == 256

/-- A frame every field of which lies in the range its table gives (R197). -/
def Frame.inRange : Frame → Bool
  | .beacon b => b.inRange
  | .claim c => c.inRange
  | .pull _ => true
  | .update u => u.inRange
  | .image i => i.inRange

/-! ### The priority key (R27) -/

/-- The kind priority of Table 2-2. -/
def Frame.kindPriority : Frame → Nat
  | .beacon _ => 0
  | .claim _ => 1
  | .pull _ => 2
  | .update _ => 3
  | .image _ => 4

/-- The station number in the header. -/
def Frame.origin : Frame → Station
  | .beacon b => b.origin
  | .claim c => c.origin
  | .pull p => p.origin
  | .update u => u.origin
  | .image i => i.origin

/-- The header byte: kind priority in bits 7–4 and origin in bits 3–0 (R197). It is also the priority key. -/
def Frame.header (f : Frame) : Byte := BitVec.ofNat 8 (f.kindPriority * 16 + f.origin.val)

/-- Whether the frame `f` wins contention against `g`: the lower key wins (R27). -/
def Frame.beats (f g : Frame) : Bool :=
  decide (f.kindPriority < g.kindPriority)
    || (f.kindPriority == g.kindPriority && decide (f.origin.val < g.origin.val))

/-! ### The CRC (R198) -/

/-- One bit through the CRC register, polynomial x^16+x^15+x^2+1. -/
def crcBit (crc : BitVec 16) (bit : Bool) : BitVec 16 :=
  if Bool.xor (crc.getLsbD 15) bit then (crc <<< 1) ^^^ 0x8005#16 else crc <<< 1

/-- One byte through the CRC register, most significant bit first. -/
def crcByte (crc : BitVec 16) (b : Byte) : BitVec 16 := (byteBits b).foldl crcBit crc

/-- The CRC over the header and payload bytes: initial value FFFFh, no final inversion. -/
def crc16 (bytes : List Byte) : BitVec 16 := bytes.foldl crcByte 0xFFFF#16

/-! ### Frame content (R197) -/

/-- The mode byte of a beacon (Table 11-3). -/
def modeByte : BeaconMode → Byte
  | .joining => 0
  | .active => 1
  | .isolated => 2
  | .dozing => 3
  | .leaving => 4

/-- The mode a byte names. -/
def modeOfByte (b : Byte) : Option BeaconMode :=
  if b = 0 then some .joining else if b = 1 then some .active else if b = 2 then some .isolated
  else if b = 3 then some .dozing else if b = 4 then some .leaving else none

/-- A byte holding a region or chunk number. -/
def numByte {n : Nat} (i : Fin n) : Byte := BitVec.ofNat 8 i.val

/-- One census entry in nine bytes (Table 11-3). -/
def censusBytes (e : CensusEntry) : List Byte := numByte e.region :: stampBytes e.stamp

/-- The payload bytes of Tables 11-3 to 11-7. -/
def Frame.payload : Frame → List Byte
  | .beacon b => modeByte b.mode :: bytesBE 2 b.members.toNat
      ++ BitVec.ofNat 8 b.census.length :: b.census.flatMap censusBytes
  | .claim c => numByte c.region :: stampBytes c.stamp
  | .pull p => numByte p.region :: stampBytes p.stamp ++ [if p.force then 1 else 0]
  | .update u => numByte u.region :: bytesBE 2 u.ownerEpoch.toNat ++ bytesBE 6 u.base.toNat
      ++ bytesBE 6 u.result.toNat ++ bytesBE 2 u.offset ++ bytesBE 2 u.data.length ++ u.data
  | .image i => numByte i.region :: stampBytes i.stamp ++ numByte i.chunk :: bytesBE 2 i.targets.toNat ++ i.data

/-- The content bytes of a frame: header, payload and CRC, most significant byte of the CRC first. -/
def encodeFrame (f : Frame) : List Byte :=
  let body := f.header :: f.payload
  body ++ bytesBE 2 (crc16 body).toNat

/-- The `k` census entries that fill the bytes to their end. -/
def censusOfBytes : Nat → List Byte → Option (List CensusEntry)
  | 0, [] => some []
  | 0, _ :: _ => none
  | _ + 1, [] => none
  | k + 1, r :: rest =>
    if 8 ≤ rest.length then
      match regionOfByte r, censusOfBytes k (rest.drop 8) with
      | some region, some es => some (⟨region, stampOfBytes (rest.take 8)⟩ :: es)
      | _, _ => none
    else none

/-- The payload of a BEACON from `o` (Table 11-3). -/
def beaconOfPayload (o : Station) : List Byte → Option Frame
  | m :: s1 :: s0 :: k :: rest =>
    match modeOfByte m, censusOfBytes k.toNat rest with
    | some mode, some es => some (.beacon ⟨o, mode, BitVec.ofNat 16 (natBE [s1, s0]), es⟩)
    | _, _ => none
  | _ => none

/-- The payload of a CLAIM from `o` (Table 11-4). -/
def claimOfPayload (o : Station) : List Byte → Option Frame
  | r :: rest =>
    match regionOfByte r with
    | some region => if rest.length = 8 then some (.claim ⟨o, region, stampOfBytes rest⟩) else none
    | none => none
  | [] => none

/-- The payload of a PULL from `o` (Table 11-5): bits 7–1 of the flags byte are 0. -/
def pullOfPayload (o : Station) : List Byte → Option Frame
  | r :: rest =>
    match regionOfByte r, rest.drop 8 with
    | some region, [flags] =>
      if flags = 0 then some (.pull ⟨o, region, stampOfBytes (rest.take 8), false⟩)
      else if flags = 1 then some (.pull ⟨o, region, stampOfBytes (rest.take 8), true⟩)
      else none
    | _, _ => none
  | [] => none

/-- The payload of an UPDATE from `o` (Table 11-6): the data is as long as the length field says. -/
def updateOfPayload (o : Station) : List Byte → Option Frame
  | r :: rest =>
    match regionOfByte r with
    | some region =>
      if 18 ≤ rest.length ∧ natBE ((rest.drop 16).take 2) = (rest.drop 18).length then
        some (.update ⟨o, region, BitVec.ofNat 16 (natBE (rest.take 2)),
          BitVec.ofNat 48 (natBE ((rest.drop 2).take 6)), BitVec.ofNat 48 (natBE ((rest.drop 8).take 6)),
          natBE ((rest.drop 14).take 2), rest.drop 18⟩)
      else none
    | none => none
  | [] => none

/-- The payload of an IMAGE from `o` (Table 11-7). -/
def imageOfPayload (o : Station) : List Byte → Option Frame
  | r :: rest =>
    match regionOfByte r, rest.drop 8 with
    | some region, k :: t1 :: t0 :: data =>
      match chunkOfByte k with
      | some chunk => some (.image ⟨o, region, stampOfBytes (rest.take 8), chunk, BitVec.ofNat 16 (natBE [t1, t0]), data⟩)
      | none => none
    | _, _ => none
  | [] => none

/-- The frame a header and payload spell, by the kind priority in the header (R197). -/
def frameOfBody : List Byte → Option Frame
  | [] => none
  | h :: payload =>
    let o : Station := ⟨h.toNat % 16, Nat.mod_lt _ (by decide)⟩
    match h.toNat / 16 with
    | 0 => beaconOfPayload o payload
    | 1 => claimOfPayload o payload
    | 2 => pullOfPayload o payload
    | 3 => updateOfPayload o payload
    | 4 => imageOfPayload o payload
    | _ => none

/-- The frame that the content bytes spell, when it is intact: the CRC is good and the frame is well formed
(R29, R197, R198). -/
def decodeFrame (content : List Byte) : Option Frame :=
  let body := content.take (content.length - 2)
  if content.drop (content.length - 2) = bytesBE 2 (crc16 body).toNat then
    match frameOfBody body with
    | some f => if f.inRange then some f else none
    | none => none
  else none

/-- The reception row of a frame's kind. `guardPin` is whether GUARD# is asserted at the ack point (R19, R24). -/
def receptionOf (guardPin : Bool) : Frame → Instr
  | .beacon b => .beaconReceived b
  | .claim c => .claimFrameReceived c guardPin
  | .pull p => .pullReceived p
  | .update u => .updateReceived u
  | .image i => .imageReceived i

/-- The frame-end row of a frame's kind, with the ack map (R34, Table 2-3). -/
def frameEndOf (ack : StationMap) : Frame → Instr
  | .beacon _ => .beaconFrameEnd ack
  | .claim _ => .claimFrameEnd ack
  | .pull _ => .pullFrameEnd ack
  | .update _ => .updateFrameEnd ack
  | .image _ => .imageFrameEnd ack

/-- The reception command that content bytes read from the line give: the row of the frame's kind, or
FRAME_DISCARDED where the frame is not intact (R29). `guardPin` is whether GUARD# is asserted at the ack point. -/
def receptionCommand (content : List Byte) (guardPin : Bool) : Instr :=
  match decodeFrame content with
  | some f => receptionOf guardPin f
  | none => .frameDiscarded

/-! ### Cells of the Mirror Line as they are sent (R196) -/

/-- One line state held for one bit time. -/
inductive LineCell
  | dominant | recessive
deriving DecidableEq, Repr

/-- The cell of one content bit: the dominant state carries the bit 0. -/
def bitCell (bit : Bool) : LineCell := if bit then .recessive else .dominant

/-- The bit that a cell carries. -/
def LineCell.bit : LineCell → Bool
  | .dominant => false
  | .recessive => true

/-- The state of the line where two stations drive it: dominant where either does (R196). -/
def LineCell.over : LineCell → LineCell → LineCell
  | .dominant, _ => .dominant
  | .recessive, c => c

/-- What the line pins MLP and MLN do for a cell: the dominant state is driven as an active difference between them, the
recessive state is left to the termination (R201). -/
inductive LinePins
  | difference | released
deriving DecidableEq, Repr

/-- The line pins for a cell (R201). -/
def LineCell.pins : LineCell → LinePins
  | .dominant => .difference
  | .recessive => .released

/-- The content group of one byte: eight content cells, most significant bit first, then a dominant marker. -/
def groupCells (b : Byte) : List LineCell := (byteBits b).map bitCell ++ [.dominant]

/-- The cell of one ack slot: a slot driven dominant is a set bit. -/
def slotCell (ack : StationMap) (n : Nat) : LineCell := if ack.getLsbD n then .dominant else .recessive

/-- The ack field with its two markers, the slots as `ack` gives them and the markers as `marker`. -/
def ackCells (marker : LineCell) (ack : StationMap) : List LineCell :=
  [0, 1, 2, 3, 4, 5, 6, 7].map (slotCell ack) ++ [marker] ++ [8, 9, 10, 11, 12, 13, 14, 15].map (slotCell ack) ++ [marker]

/-- The cells that the receiver `own` drives in an ack field, its bit as decided: its own slot alone, and only where the bit
is set; the other slots and the markers are left to their drivers (R33, R196). -/
def receiverCells (own : Station) (bit : Bool) : List LineCell := ackCells .recessive (if bit then addBit 0 own else 0)

/-- The end delimiter. -/
def delimiterCells : List LineCell := [.recessive, .dominant, .dominant, .dominant]

/-- The cells of a frame: start cell, content groups, ack lead, ack field with its two markers, end delimiter. -/
def frameCells (content : List Byte) (ack : StationMap) : List LineCell :=
  [.dominant] ++ content.flatMap groupCells ++ [.dominant, .dominant] ++ ackCells .dominant ack ++ delimiterCells

/-- The idle gap, in recessive cells. -/
def idleGapCells : Nat := 10

/-- The cells read so far end with the idle gap: the line is idle, and LINE_IDLE comes about (R23, R196). -/
def endsIdle (cells : List LineCell) : Bool :=
  decide (idleGapCells ≤ cells.length) && (cells.drop (cells.length - idleGapCells)).all (fun c => c == .recessive)

/-! ### Cells of the Mirror Line as a receiver reads them (R29, R35, R196, R197) -/

/-- One content group read: its byte and the cells after it; none where its marker is read recessive or the cells end. -/
def readGroup : List LineCell → Option (Byte × List LineCell)
  | c7 :: c6 :: c5 :: c4 :: c3 :: c2 :: c1 :: c0 :: .dominant :: rest =>
    some (byteOfBits c7.bit c6.bit c5.bit c4.bit c3.bit c2.bit c1.bit c0.bit, rest)
  | _ => none

/-- Several content groups read in turn. -/
def readGroups : Nat → List LineCell → Option (List Byte × List LineCell)
  | 0, cells => some ([], cells)
  | n + 1, cells =>
    match readGroup cells with
    | none => none
    | some (b, rest) =>
      match readGroups n rest with
      | none => none
      | some (bs, rest') => some (b :: bs, rest')

/-- The content bytes of a frame whose first bytes are these, from the header and, for the two kinds whose length varies, the
census count or the length field (R197). Fewer bytes than the kind needs to tell, or a count out of range, give none. -/
def contentLength : List Byte → Option Nat
  | [] => none
  | h :: rest =>
    match h.toNat / 16 with
    | 0 => (rest[3]?).bind (fun k => if k.toNat ≤ 4 then some (7 + 9 * k.toNat) else none)
    | 1 => some 12
    | 2 => some 13
    | 3 =>
      if 19 ≤ rest.length then
        let len := natBE ((rest.drop 17).take 2)
        if len ≤ 256 then some (22 + len) else none
      else none
    | 4 => some 271
    | _ => none

/-- The content bytes by which a kind's length is known: 1, or up to the census count or the length field (R197). -/
def lengthKnownAt (header : Byte) : Nat :=
  match header.toNat / 16 with
  | 0 => 5
  | 3 => 20
  | _ => 1

/-- The content of the frame whose start cell has been read, with the cells after it (R196, R197): none where a marker is read
recessive in its place or the length fields put no end to it. -/
def readContent (cells : List LineCell) : Option (List Byte × List LineCell) :=
  match readGroup cells with
  | none => none
  | some (h, _) =>
    match readGroups (lengthKnownAt h) cells with
    | none => none
    | some (first, _) => (contentLength first).bind (fun n => readGroups n cells)

/-- The map of an ack field read from its eighteen cells. -/
def mapOfSlots (cells : List LineCell) : StationMap :=
  mapOf fun n : Station => cells[if n.val < 8 then n.val else n.val + 1]? == some .dominant

/-- What a receiver reads of a frame, from its start cell on. -/
inductive Reading
  /-- The frame is not intact: it is discarded (R29). -/
  | discarded
  /-- Intact, and the end lost in the ack lead, before the ack point, which the model puts after the lead (R33, R35, log 39). -/
  | lostEarly (f : Frame)
  /-- Intact, and the end lost in the ack field or the end delimiter, after the ack point (R35). -/
  | lostLate (f : Frame)
  /-- Intact to the end delimiter, with the complete ack map (R34). -/
  | complete (f : Frame) (ack : StationMap)
deriving DecidableEq, Repr

/-- The ack lead, the markers of the ack field and the end delimiter read in their places, after an intact content (R35, R196).
A run of ten recessive cells in them meets a cell that is dominant in its place. R33 and R196 leave open where in the two cells of
the lead the ack point falls: the model puts it after both, so that a wrong cell of the lead loses the end before it (DESIGN
CHOICE, log 39). A frame with a good CRC in its place whose content goes on where the lead was expected, which R197 discards and
R196 with R35 takes for a loss of the end, loses its end (DESIGN CHOICE, log 40). -/
def readTail (f : Frame) (cells : List LineCell) : Reading :=
  let ack := (cells.drop 2).take 18
  if cells.take 2 ≠ [.dominant, .dominant] then .lostEarly f
  else if ack[8]? = some .dominant ∧ ack[17]? = some .dominant ∧ (cells.drop 20).take 4 = delimiterCells then
    .complete f (mapOfSlots ack)
  else .lostLate f

/-- What a receiver reads of the frame that starts with these cells (R196). -/
def readCells (cells : List LineCell) : Reading :=
  match cells with
  | .dominant :: rest =>
    match readContent rest with
    | none => .discarded
    | some (content, tail) =>
      match decodeFrame content with
      | none => .discarded
      | some f => readTail f tail
  | _ => .discarded

/-- The rows that a reading brings about at a receiver, in order (R29, R33 to R35). -/
def Reading.commands (guardPin : Bool) : Reading → List Instr
  | .discarded => [.frameDiscarded]
  | .lostEarly f => [.frameEndLost (some f)]
  | .lostLate f => [receptionOf guardPin f, .frameEndLost none]
  | .complete f ack => [receptionOf guardPin f, frameEndOf ack f]

/-! ### The transmitter's readback (R27, R28, R36, R196) -/

/-- How a cell that the transmitter drives is checked: in the arbitration field against a dominant cell read recessive, which
no other station can cause; elsewhere in both directions, in its place of the frame; the ack field not at all (R36). -/
inductive CellCheck
  | arbitration | unchecked
  | both (place : FaultPlace)
deriving DecidableEq, Repr

/-- The checks of the cells of a frame with `n` content bytes: start cell and header group; the other groups; the ack lead; the
ack field with its markers; the end delimiter (R196). -/
def cellChecks (n : Nat) : List CellCheck :=
  List.replicate 10 .arbitration ++ List.replicate (9 * (n - 1)) (.both .content) ++ List.replicate 2 (.both .tail)
    ++ List.replicate 18 .unchecked ++ List.replicate 4 (.both .tail)

/-- The first cell read back wrong ends the attempt: a line fault, or in the arbitration field a lower key met (R28, R36). -/
def readback : List CellCheck → List LineCell → List LineCell → Option Instr
  | check :: checks, driven :: ds, read :: rs =>
    match check, driven, read with
    | .arbitration, .dominant, .recessive => some (.lineFault .content)
    | .arbitration, .recessive, .dominant => some .lostArbitration
    | .both place, .dominant, .recessive => some (.lineFault place)
    | .both place, .recessive, .dominant => some (.lineFault place)
    | _, _, _ => readback checks ds rs
  | _, _, _ => none

/-- The row that ends an attempt to send `f` whose cells were read back as these: LOST_ARBITRATION, LINE_FAULT, or the frame end
with the ack map read (R26, R34). -/
def attemptCommand (f : Frame) (read : List LineCell) : Instr :=
  let content := encodeFrame f
  match readback (cellChecks content.length) (frameCells content 0) read with
  | some c => c
  | none => frameEndOf (mapOfSlots ((read.drop (9 * content.length + 3)).take 18)) f

/-! ### Command blocks of the Host Port (R199) -/

/-- Whether a command code is one of the seventeen of Table 11-8. -/
def knownCode (code : Byte) : Bool := decide (1 ≤ code.toNat) && decide (code.toNat ≤ 17)

/-- The selectors of put, take and poll (R199). -/
def knownSelector (b : Byte) : Bool := b == 0x5A || b == 0x6B || b == 0x7C

/-- The command that a put gives: the bytes clocked in after the selector up to the CS# rise (Table 11-8).
Bytes after the fixed part of a command other than WRITE are ignored, and a block whose fixed part is not
whole is INCOMPLETE_PUT (R174). -/
def putCommand (guardPin : Bool) : List Byte → Instr
  | [] => .incompletePut
  | code :: rest =>
    match code.toNat, rest with
    | 0x01, r :: o1 :: o0 :: l1 :: l0 :: _ =>
      .read r (BitVec.ofNat 16 (natBE [o1, o0])) (BitVec.ofNat 16 (natBE [l1, l0]))
    | 0x02, r :: o1 :: o0 :: l1 :: l0 :: data =>
      .write r (BitVec.ofNat 16 (natBE [o1, o0])) (BitVec.ofNat 16 (natBE [l1, l0])) data guardPin
    | 0x03, r :: _ => .claim r guardPin
    | 0x04, r :: _ => .release r guardPin
    | 0x05, r :: _ => .keep r
    | 0x06, _ => .fence
    | 0x07, r :: _ => .region r guardPin
    | 0x08, _ => .roster
    | 0x09, _ => .status guardPin
    | 0x0A, _ => .event
    | 0x0B, m1 :: m0 :: g7 :: g6 :: g5 :: g4 :: g3 :: g2 :: g1 :: g0 :: _ =>
      .setup (BitVec.ofNat 16 (natBE [m1, m0])) (BitVec.ofNat 64 (natBE [g7, g6, g5, g4, g3, g2, g1, g0])) guardPin
    | 0x0C, _ => .format guardPin
    | 0x0D, _ => .join
    | 0x0E, _ => .leave
    | 0x0F, _ => .doze
    | 0x10, _ => .wake
    | 0x11, _ => .ident
    | _, _ => if knownCode code then .incompletePut else .unknownCommandCode code

/-- The command that one transaction gives, from the bytes clocked in whole and the number of all the bits clocked between its CS#
fall and its CS# rise (R170, R199): none where CS# rises before a whole selector byte has been clocked. A take or a poll ignores
what is clocked in after its selector, and drives a bit for each bit clocked, those of a byte cut short too. -/
def transactionCommand (guardPin : Bool) (bits : Nat) : List Byte → Option Instr
  | [] => none
  | selector :: rest =>
    if selector = 0x5A then some (putCommand guardPin rest)
    else if selector = 0x6B then some (.take (bits - 8))
    else if selector = 0x7C then some (.poll ⟨bits - 8, false⟩)
    else some (.unknownSelector selector)

/-- The command of a transaction from the levels sampled on serial data in at the rising edges of the serial clock, most
significant bit of each byte first, and from the GUARD# pin at the CS# rise (R195, R199, R201). -/
def transactionOfBits (guardPin : Pin) (sdi : List Bool) : Option Instr :=
  transactionCommand guardPin.asserted sdi.length (bytesOfBits sdi)

/-! ### The opcode table -/

/-- The command that a word spells by the opcode table's bits. The table gives no row any bits, so no word spells
a command. -/
def decodeTableWord (_nbits _w : Nat) : Option Instr := none

end Sys2Proof
end

