-- ==== Sys2Proof/Config.lean ====
section
/-! DEFINITION. What the manual fixes as a number for every part (limits, timer lengths, identity codes), and
the free values: constants WITHOUT A BODY that stand for what the manual leaves unstated. Nothing can be
proved of a free value, so a claim that holds of the model holds whatever the value is. -/

namespace Sys2Proof.Config

/-! ### Free values -/

/-- FREE VALUE (log 4). What a byte of the span of an array write cut by loss of power holds: "each of them
may hold the old value, the new value or neither" (R134). Applied to the free-value counter of State. -/
opaque freeByte : Nat → Byte

/-- FREE VALUE. Which of two outcomes the manual allows comes about, applied to the free-value counter of State: whether a setup
record write that loss of power cuts had changed the record, which "reads either as it was before the change or as it was after
it" (R134, R153, log 5); whether a CHUNK write that completes while a pin reset waits makes its pull's bookkeeping (R147 against
R133, log 28); and whether the answer timer runs after a fault in the tail of the own PULL (R21 against R117, log 38). -/
opaque freeBit : Nat → Bool

/-- FREE VALUE (log 6). The revision code of IDENT (R182): R199 gives its place and length
and the manual states no value for it. -/
opaque revision : Byte

/-! ### Sizes and limits -/

/-- Bytes of the store array (R1). -/
def arrayBytes : Nat := 262144
/-- Bytes of one region (R1). -/
def regionBytes : Nat := 4096
/-- Bytes of one chunk (R1). -/
def chunkBytes : Nat := 256
/-- UPDATE entries the Outbox holds at most (R65). -/
def updateLimit : Nat := 10
/-- PULL entries the Outbox holds at most (R65). -/
def pullEntryLimit : Nat := 2
/-- IMAGE entries the Outbox holds at most (R65). -/
def imageLimit : Nat := 2
/-- Entries of the Apply Queue at most (R140). -/
def applyLimit : Nat := 8
/-- Open pull records at most (R114). -/
def pullLimit : Nat := 2
/-- Serving records at most (R122). -/
def servingLimit : Nat := 2
/-- Census entries of one beacon at most (R50), and regions of the census front list (R52). -/
def censusLimit : Nat := 4
/-- Records after which the event queue takes only an OVERFLOW record (R185). -/
def eventLimit : Nat := 15
/-- The count at which an OVERFLOW record stays (R185). -/
def overflowLimit : Nat := 255
/-- Consecutive line faults that halt the station (R37). -/
def faultLimit : Nat := 16
/-- The value at which the arbiter's two counts stay (R137). -/
def arbiterLimit : Nat := 4
/-- The retry count at which an UPDATE is settled short (R78). -/
def retryLimit : Nat := 3
/-- Attempts of one pull (R118). -/
def attemptLimit : Nat := 3
/-- The restart count at which write hold is set (R128). -/
def restartLimit : Nat := 3

/-! ### Timers, in milliseconds -/

/-- The silence timer's first threshold (R41). -/
def silentMs : Nat := 24
/-- The silence timer's expiry (R41). -/
def absentMs : Nat := 48
/-- The stranger timer (R31). -/
def strangerMs : Nat := 48
/-- The beacon period (R47). -/
def beaconMs : Nat := 8
/-- The listen window (R149). -/
def listenMs : Nat := 16
/-- Each of the two phases of LEAVING (R149). -/
def leaveMs : Nat := 250
/-- The answer timer of a pull (R117). -/
def answerMs : Nat := 32

/-! ### Identity (R182, Table of result data under R199) -/

/-- The vendor code of Zamirel. -/
def vendorCode : BitVec 16 := 0x3E21
/-- The part code of the SB416. -/
def partCode : BitVec 16 := 0x0416

/-! ### Ceilings of a stamp (R2) -/

/-- The version that cannot advance, 2^48−1. -/
def versionCeiling : Version := 0xFFFFFFFFFFFF
/-- The epoch that cannot advance, 65535. -/
def epochCeiling : Epoch := 0xFFFF

end Sys2Proof.Config
end

