-- ==== Sys2Proof/Machine/State.lean ====
section
/-! DEFINITION. The state of one SB416, block by block as Table 3-1 of the scope lists them, the two reasons a
step can stop, and the machine right after reset. State is plain data. A value the manual calls optional is an
`Option`; a register that two blocks show is stored once and read through an accessor of Machine/Ops.lean. -/

namespace Sys2Proof.Machine

/-! ### Station Controller (R149) -/

/-- The seven station states (Table 8-1). -/
inductive StationState
  | offline | listening | active | isolated | dozing | leaving | halted
deriving DecidableEq, Repr

/-- The two phases of LEAVING (R149). -/
inductive LeavePhase
  | drain | final
deriving DecidableEq, Repr

/-- The state the Station Controller owns: station state, working setup record, sampled straps, timers and due
beacon. A timer is `none` while stopped, else its elapsed milliseconds. -/
structure Controller where
  /-- The station state (R149). -/
  state : StationState
  /-- The station number sampled at the last reset (R150). -/
  number : Station
  /-- The line rate sampled at the last reset (R150). -/
  rate : LineRate
  /-- The working member set (R145). -/
  members : StationMap
  /-- The working guard set: the guarded field of every region entry (R18). -/
  guardSet : RegionMap
  /-- The beacon timer, in its period of 8 ms (R47). -/
  beaconTimer : Option Nat
  /-- Whether a beacon is due and waits (R48). -/
  beaconDue : Bool
  /-- First-beacon mode: beacons carry JOINING until one has reached frame end (R48). -/
  joining : Bool
  /-- The listen timer (R149). -/
  listenTimer : Option Nat
  /-- The leave timer (R149). In LEAVING it is stopped once it has expired. -/
  leaveTimer : Option Nat
  /-- The leaving phase, meaningful in LEAVING (R149). -/
  leavePhase : LeavePhase
  /-- The duplicate-heard mark (R157). -/
  duplicateHeard : Bool
  /-- The number of entries the cut has removed, reported by LEFT (R165). -/
  discarded : Nat
deriving DecidableEq, Repr

/-! ### Region Table (Chapter 1) -/

/-- The stale causes (R6). -/
inductive Cause
  | behind | damaged
deriving DecidableEq, Repr

/-- The copy states (R5). A STALE copy has its cause; a FETCHING copy keeps the cause it had (R7). -/
inductive CopyState
  | current
  | stale (cause : Cause)
  | fetching (kept : Cause)
deriving DecidableEq, Repr

/-- A recorded owner with the epoch under which it holds the region (R9). -/
structure Owner where
  station : Station
  epoch : Epoch
deriving DecidableEq, Repr

/-- A region entry (Table 1-3). Its guarded field is `Controller.guardSet`. -/
structure RegionEntry where
  stamp : Stamp
  copy : CopyState
  /-- The owner and owner epoch; `none` is UNKNOWN (R9). -/
  owner : Option Owner
  held : Bool
  yieldReady : Bool
  votePending : Bool
  writeHold : Bool
deriving DecidableEq, Repr

/-! ### Array Controller and retained state (Chapter 7) -/

/-- The store array, as the addresses that do not hold 0 with what they hold, addresses rising (log 3). -/
abbrev Memory := List Host.Cell

/-- The retained fields of one region (R144). -/
structure NvRegion where
  stamp : Stamp
  /-- The retained copy state: CURRENT, or STALE with its cause. -/
  stale : Option Cause
  /-- The in-flight mark. -/
  inFlight : Bool
  held : Bool
deriving DecidableEq, Repr

/-- The setup record (R144). -/
structure SetupRecord where
  written : Bool
  members : StationMap
  guardSet : RegionMap
deriving DecidableEq, Repr

/-- The kinds of the intent record (R142). -/
inductive IntentKind
  | write | apply | chunk | format
deriving DecidableEq, Repr

/-- A valid intent record (R142). -/
structure Intent where
  kind : IntentKind
  region : Region
deriving DecidableEq, Repr

/-- The retained state of the part (R144). -/
structure Retained where
  array : Memory
  regions : Vector NvRegion 64
  setup : SetupRecord
  /-- The intent record; `none` is valid = no. -/
  intent : Option Intent
deriving DecidableEq, Repr

/-- The array operation in progress (R134). The span of a host operation stands in the command buffer and that
of an apply in the head of the Apply Queue. -/
inductive ArrayOp
  | readPiece
  | hostWrite
  | formatStep
  | apply
  /-- An image chunk read with the stamp at its grant; `live` is no once its record has ended (R123). -/
  | chunkRead (region : Region) (chunk : Chunk) (stamp : Stamp) (live : Bool)
deriving DecidableEq, Repr

/-- The array arbiter: the operation in progress and the two counts (R137). -/
structure Arbiter where
  op : Option ArrayOp
  hostStreak : Nat
  imageWait : Nat
deriving DecidableEq, Repr

/-- What an Apply Queue entry writes (R140). -/
inductive ApplyBody
  | update (offset : Nat) (data : List Byte)
  /-- A chunk with its stamp and the pull record it belongs to. -/
  | chunk (index : Chunk) (data : List Byte) (stamp : Stamp) (pull : Nat)
deriving DecidableEq, Repr

/-- An Apply Queue entry (R140). `seq` is the model's own mark of when the entry was taken (log 9). -/
structure ApplyEntry where
  seq : Nat
  region : Region
  body : ApplyBody
deriving DecidableEq, Repr

/-! ### Host Port (Chapter 9) -/

/-- The result codes (Table 9-6). -/
inductive ResultCode
  | done | accepted | none | busy | full | notOwner | notCurrent | notReady | guarded | isolated | held
  | exhausted | badArgument | wrongState
deriving DecidableEq, Repr

/-- An answer block: the code of the command answered, the result and the result data (R175). -/
structure Answer where
  code : Byte
  result : ResultCode
  data : List Byte
deriving DecidableEq, Repr

/-- A READ being carried out: what it recorded at its taking, where the next piece begins, how much is left and
the data read so far (R138, R139). `before` marks its taking among the Apply Queue entries (log 9). -/
structure ReadWork where
  region : Region
  stamp : Stamp
  copy : CopyState
  pos : Nat
  left : Nat
  data : List Byte
  before : Nat
deriving DecidableEq, Repr

/-- A WRITE being carried out: its span and data (R62). -/
structure WriteWork where
  region : Region
  offset : Nat
  data : List Byte
  before : Nat
deriving DecidableEq, Repr

/-- The command buffer while the port is WORKING (R172). -/
inductive Work
  | read (w : ReadWork)
  | write (w : WriteWork)
  | setup (members : StationMap) (guardSet : RegionMap)
  /-- FORMAT, with the region and chunk of its current step (R143). -/
  | format (region : Region) (chunk : Chunk)
deriving DecidableEq, Repr

/-- The port state, with the command buffer in WORKING and the answer buffer in ANSWER (R171). -/
inductive PortState
  | idle
  | working (work : Work)
  | answer (answer : Answer)
deriving DecidableEq, Repr

/-- How the Host Port stands to CS# between two commands. -/
inductive ChipSelect
  /-- CS# is high: the next transaction begins at its fall (R170). -/
  | high
  /-- A poll is under way, its CS# held low by the host, and `byte` is the poll byte taken last (R176). -/
  | polling (byte : Byte)
  /-- CS# has not been seen high since a reset ended the transaction or kept it from beginning: the serial clock is ignored
  (R193). -/
  | ignored
deriving DecidableEq, Repr

/-- What a reset makes of a transaction under way: it is ended, and the serial clock is ignored until CS# has been seen high
(R193). -/
def ChipSelect.cut : ChipSelect → ChipSelect
  | .high => .high
  | .polling _ | .ignored => .ignored

/-- The Host Port. `sdo` holds the bits that the last transaction has driven on serial data out after its selector, in their order,
none for a put or an ignored one (R199), and `cs` how the port stands to CS#; both are the model's own (log 10, log 36). -/
structure Port where
  state : PortState
  refused : Bool
  sdo : List Bool
  cs : ChipSelect
deriving DecidableEq, Repr

/-- The port as a reset leaves it: IDLE, the refused flag no, and a transaction under way ended (R193, Table 9-8). What the
transaction had driven stands as driven. -/
def Port.cleared (p : Port) : Port := ⟨.idle, false, p.sdo, p.cs.cut⟩

/-- The causes of RESET_DONE (R188). -/
inductive ResetCause
  | power | pin
deriving DecidableEq, Repr

/-- The roster statuses (R40). -/
inductive Presence
  | absent | present | dozing | silent
deriving DecidableEq, Repr

/-- The source of a CLAIM entry (R64). -/
inductive ClaimSource
  | host | sweep
deriving DecidableEq, Repr

/-- The reason of a lost claim (Table 9-7). -/
inductive LostReason
  | refused | notCurrent | exhausted
deriving DecidableEq, Repr

/-- The causes of HALTED (R167). -/
inductive HaltCause
  | duplicate | lineFault
deriving DecidableEq, Repr

/-- The event records (Table 9-7). -/
inductive Event
  | resetDone (cause : ResetCause) (damaged : RegionMap)
  | joined
  | left (discarded : Nat)
  /-- ISOLATION, ENTERED or LEFT. -/
  | isolation (entered : Bool)
  /-- WOKEN: with `none` the cause is HOST, with a region it is COINCIDENCE. -/
  | woken (region : Option Region)
  | station (n : Station) (status : Presence)
  | membersDiffer (n : Station)
  | stranger (n : Station)
  /-- CLAIM_DONE: WON where the reason is absent, LOST with its reason. -/
  | claimDone (region : Region) (ack : StationMap) (source : ClaimSource) (lost : Option LostReason)
  /-- OWNERSHIP_LOST, SPLIT or YIELDED. -/
  | ownershipLost (region : Region) (split : Bool)
  | fenceDone (missing : StationMap) (lost : Nat)
  | short (region : Region) (missing : StationMap)
  | regionStale (region : Region) (cause : Cause)
  | regionCurrent (region : Region)
  | pullFailed (region : Region)
  | stampAhead (region : Region) (n : Station)
  | halted (cause : HaltCause)
  | overflow (count : Nat)
deriving DecidableEq, Repr

/-! ### Line Interface (Chapter 2) -/

/-- The transmit slot while it is filled (R26): the frame being sent, and for a beacon the last region its census
took in the walk (R51). -/
structure TxSlot where
  frame : Frame
  walkLast : Option Region
deriving DecidableEq, Repr

/-- A frame found intact whose end has not been reached: this station's bit, and whether the station made an ack
point for it (R33, R158). -/
structure RxFrame where
  frame : Frame
  bit : Bool
  acked : Bool
deriving DecidableEq, Repr

/-- The Line Interface. -/
structure Line where
  slot : Option TxSlot
  rx : Option RxFrame
  /-- Yes from entry to LISTENING until one idle gap has been read (R23). -/
  syncing : Bool
  /-- The consecutive line-fault count (R37). -/
  faults : Nat
  /-- The stranger timers (R31). -/
  strangers : Vector (Option Nat) 16
deriving DecidableEq, Repr

/-! ### Roster Unit (Chapter 3) -/

/-- A roster entry of another station (R40). Its member field is `Controller.members`. -/
structure RosterEntry where
  status : Presence
  timer : Option Nat
  differs : Bool
deriving DecidableEq, Repr

/-- The Roster Unit: the entries, the census cursor (`none` is START), the census front list and the last beacon
ack map. The own entry shows the station state and its three fields here stay at their cleared values. -/
structure Roster where
  entries : Vector RosterEntry 16
  cursor : Option Region
  front : List Region
  lastAck : StationMap
deriving DecidableEq, Repr

/-! ### Outbox (Chapter 4) -/

/-- The fields of an UPDATE entry (R64), with the hold of R61. -/
structure UpdateEntry where
  offset : Nat
  data : List Byte
  base : Version
  result : Version
  ownerEpoch : Epoch
  retries : Nat
  sealed : Bool
  inFence : Bool
  held : Bool
deriving DecidableEq, Repr

/-- The fields of an IMAGE entry (R123). -/
structure ImageEntry where
  stamp : Stamp
  chunk : Chunk
  targets : StationMap
  data : List Byte
deriving DecidableEq, Repr

/-- The kind of an Outbox entry with the fields of its kind (R64). -/
inductive EntryBody
  | update (u : UpdateEntry)
  | claim (source : ClaimSource)
  | pull (force : Bool)
  | image (i : ImageEntry)
deriving DecidableEq, Repr

/-- A removal asked for while the entry is SENDING, applied at the end of the attempt (R26, R67): none, a discard,
or the LEAVE cut. -/
inductive Doom
  | none | discard | cut
deriving DecidableEq, Repr

/-- An Outbox entry: SENDING or WAITING, at its place in the list (R64). -/
structure OutEntry where
  region : Region
  body : EntryBody
  sending : Bool
  doom : Doom
deriving DecidableEq, Repr

/-- An open fence record (R83). -/
structure Fence where
  missing : StationMap
  lost : Nat
deriving DecidableEq, Repr

/-- The phases of the reclaim sweep (R103). -/
inductive SweepPhase
  | inactive | running | paused
deriving DecidableEq, Repr

/-- The reclaim sweep (R103). -/
structure Sweep where
  phase : SweepPhase
  position : Region
  outstanding : Option Region
deriving DecidableEq, Repr

/-- The Outbox: entries in arrival order, the slot reserved for a WRITE (R61), the fence record, the host claim
(R88) and the reclaim sweep. -/
structure Outbox where
  entries : List OutEntry
  reserved : Option Region
  fence : Option Fence
  hostClaim : Option Region
  sweep : Sweep
deriving DecidableEq, Repr

/-! ### Catch-up Unit and Image Server (Chapter 6) -/

/-- A pull record (Table 6-1). `id` is the identity a CHUNK entry names (R130), `taken` the chunk taken flag, and
`owed` the model's own mark of a PULL entry that waits for room in its kind (log 20). -/
structure PullRecord where
  id : Nat
  region : Region
  target : Station
  attempts : Nat
  timer : Option Nat
  collecting : Option Stamp
  collected : ChunkSet
  written : ChunkSet
  taken : Bool
  owed : Bool
deriving DecidableEq, Repr

/-- The Catch-up Unit: the catch-up list, the parked set and the open pull records. -/
structure Catchup where
  list : List Region
  parked : RegionMap
  pulls : List PullRecord
deriving DecidableEq, Repr

/-- The chunk read of a serving record (Table 6-2). `order` marks when it was requested (log 9). -/
inductive ChunkRead
  | none
  | requested (chunk : Chunk) (order : Nat)
  | inProgress
deriving DecidableEq, Repr

/-- A target of a serving record (Table 6-2). -/
structure Target where
  station : Station
  needed : ChunkSet
  noProgress : Nat
deriving DecidableEq, Repr

/-- A serving record (Table 6-2). Its IMAGE entry is the one of its region in the Outbox. -/
structure ServingRecord where
  region : Region
  stamp : Stamp
  targets : List Target
  next : Chunk
  restarts : Nat
  read : ChunkRead
deriving DecidableEq, Repr

/-! ### The machine -/

/-- Supply and RESET#: running; RESET# asserted while an array operation completes (with the straps where RESET# has
been released meanwhile); held in reset; without power (R147). -/
inductive Power
  | on
  | resetPending (released : Option Straps)
  | inReset
  | off
deriving DecidableEq, Repr

/-- Why a command has no next state although it has a meaning. -/
inductive Fault
  /-- Raised by READ_PIECE_DONE, WRITE_ARRAY_DONE and APPLY_WRITE_DONE where the span in the command buffer or in
  the head of the Apply Queue reaches outside the 4096 bytes of its region: an array address the manual says does not
  exist (R1, R134). No checked command and no intact frame gives such a span. Safe: the model stops. -/
  | arrayAddress
deriving DecidableEq, Repr

/-- Why a command has no meaning. -/
inductive Refusal
  /-- Raised by the dispatch for a row that has no meaning yet; every row has one. Safe: the model stops. -/
  | notModelled (mnemonic : String)
deriving DecidableEq, Repr

/-- The state of the part and of its queue of waiting commands. -/
structure State where
  power : Power
  nv : Retained
  port : Port
  /-- The event queue, oldest first (R184). ATTN# is asserted while it is not empty (R186). -/
  events : List Event
  ctl : Controller
  line : Line
  roster : Roster
  table : Vector RegionEntry 64
  out : Outbox
  /-- The Apply Queue, head first (R140). -/
  applyQ : List ApplyEntry
  /-- The model's own mark of the regions that had an Apply Queue entry cleared unwritten by FORMAT: they stay retained as
  with the entry (R8, R143, log 35). -/
  unsaved : RegionMap
  catchup : Catchup
  /-- The serving table (R122). -/
  serving : List ServingRecord
  arb : Arbiter
  /-- The model's own counter that orders takings, requests and pull identities (log 9). -/
  serial : Nat
  /-- The model's own counter of free values used (log 4). -/
  free : Nat
  /-- The commands that wait, first in first out. -/
  pending : List Instr
deriving DecidableEq, Repr

/-! ### One update for each block -/

def State.setPower (s : State) (x : Power) : State := { s with power := x }
def State.setNv (s : State) (x : Retained) : State := { s with nv := x }
def State.setPort (s : State) (x : Port) : State := { s with port := x }
def State.setEvents (s : State) (x : List Event) : State := { s with events := x }
def State.setCtl (s : State) (x : Controller) : State := { s with ctl := x }
def State.setLine (s : State) (x : Line) : State := { s with line := x }
def State.setRoster (s : State) (x : Roster) : State := { s with roster := x }
def State.setTable (s : State) (x : Vector RegionEntry 64) : State := { s with table := x }
def State.setOut (s : State) (x : Outbox) : State := { s with out := x }
def State.setApplyQ (s : State) (x : List ApplyEntry) : State := { s with applyQ := x }
def State.setUnsaved (s : State) (x : RegionMap) : State := { s with unsaved := x }
def State.setCatchup (s : State) (x : Catchup) : State := { s with catchup := x }
def State.setServing (s : State) (x : List ServingRecord) : State := { s with serving := x }
def State.setArb (s : State) (x : Arbiter) : State := { s with arb := x }
def State.setSerial (s : State) (x : Nat) : State := { s with serial := x }
def State.setFree (s : State) (x : Nat) : State := { s with free := x }
def State.setPending (s : State) (x : List Instr) : State := { s with pending := x }

/-! ### One change of each block from what it holds -/

def State.mapNv (s : State) (f : Retained → Retained) : State := s.setNv (f s.nv)
def State.mapPort (s : State) (f : Port → Port) : State := s.setPort (f s.port)
def State.mapCtl (s : State) (f : Controller → Controller) : State := s.setCtl (f s.ctl)
def State.mapLine (s : State) (f : Line → Line) : State := s.setLine (f s.line)
def State.mapRoster (s : State) (f : Roster → Roster) : State := s.setRoster (f s.roster)
def State.mapOut (s : State) (f : Outbox → Outbox) : State := s.setOut (f s.out)
def State.mapCatchup (s : State) (f : Catchup → Catchup) : State := s.setCatchup (f s.catchup)

/-! ### The machine right after reset -/

/-- A region entry as it comes up in a new part: (0, 0) CURRENT (log 2), owner UNKNOWN, every flag no (Table 1-3). -/
def RegionEntry.fresh : RegionEntry := ⟨⟨0, 0⟩, .current, none, false, false, false, false⟩

/-- A roster entry as a clearing leaves it (R46). -/
def RosterEntry.cleared : RosterEntry := ⟨.absent, none, false⟩

/-- The machine after a power-on reset of a part never set up, never written and with its straps open: every field
at the value its block's reset table gives (Tables 1-3, 2-4, 3-2, 4-3, 6-3, 7-1, 8-4, 9-8 and section 5.8). The
retained values the manual gives no first value for are DESIGN CHOICES (log 2), and the strap levels are those of
open pins (`Straps.unconnected`, R201, log 1). -/
def State.reset : State where
  power := .on
  nv :=
    { array := []
      regions := Vector.replicate 64 ⟨⟨0, 0⟩, none, false, false⟩
      setup := ⟨false, 0, 0⟩
      intent := none }
  port := ⟨.idle, false, [], .high⟩
  events := [.resetDone .power 0]
  ctl :=
    { state := .offline, number := 15, rate := .mbit4, members := 0x8000, guardSet := 0
      beaconTimer := none, beaconDue := false, joining := true, listenTimer := none, leaveTimer := none
      leavePhase := .drain, duplicateHeard := false, discarded := 0 }
  line := ⟨none, none, false, 0, Vector.replicate 16 none⟩
  roster := ⟨Vector.replicate 16 RosterEntry.cleared, none, [], 0⟩
  table := Vector.replicate 64 RegionEntry.fresh
  out := ⟨[], none, none, none, ⟨.inactive, 0, none⟩⟩
  applyQ := []
  unsaved := 0
  catchup := ⟨[], 0, []⟩
  serving := []
  arb := ⟨none, 0, 0⟩
  serial := 0
  free := 0
  pending := []

end Sys2Proof.Machine
end

