-- ==== Sys2Proof/Machine/Ops.lean ====
section
/-! DEFINITION. The named operations that several commands share, over one block each: stamps, the store array,
readings of the state, the event queue, region entries with their retained image, the Apply Queue, the answer
buffer and the leaving of Outbox entries. The manual gives the part no exception entry; a condition the host must
hear of is an event record (R184) or an answer (R183). -/

namespace Sys2Proof.Machine

/-! ### Stamps (R2) -/

/-- Stamp order: first by epoch and, for equal epochs, by version. -/
def stampLower (a b : Stamp) : Bool :=
  decide (a.epoch.toNat < b.epoch.toNat) || (a.epoch == b.epoch && decide (a.version.toNat < b.version.toNat))

/-- The stamp after one completed host WRITE. A version at its ceiling cannot advance (R2). -/
def nextVersion (a : Stamp) : Stamp :=
  if a.version = Config.versionCeiling then a else ⟨a.epoch, a.version + 1⟩

/-- The stamp after an effective claim. An epoch at its ceiling cannot advance (R2). -/
def nextEpoch (a : Stamp) : Stamp :=
  if a.epoch = Config.epochCeiling then a else ⟨a.epoch + 1, a.version⟩

/-! ### The store array (R1, R134) -/

/-- The byte at an address: the listed one, else 0 (log 3). -/
def memRead : Memory → Nat → Byte
  | [], _ => 0
  | (x, v) :: rest, a => if a = x then v else memRead rest a

/-- The array with one byte written; a byte of 0 is not listed. -/
def memWrite : Memory → Nat → Byte → Memory
  | [], a, b => if b = 0 then [] else [(a, b)]
  | (x, v) :: rest, a, b =>
    if a < x then (if b = 0 then (x, v) :: rest else (a, b) :: (x, v) :: rest)
    else if a = x then (if b = 0 then rest else (a, b) :: rest)
    else (x, v) :: memWrite rest a b

/-- The array with consecutive bytes written from address `a`. -/
def memWriteBytes : Memory → Nat → List Byte → Memory
  | m, _, [] => m
  | m, a, b :: bs => memWriteBytes (memWrite m a b) (a + 1) bs

/-- The `n` bytes from address `a`. -/
def memReadBytes (m : Memory) (a n : Nat) : List Byte := (List.range n).map (fun i => memRead m (a + i))

/-- The canonical form: addresses strictly rising and inside the array, no byte of 0 listed. -/
def Memory.wf (m : Memory) : Bool :=
  decide (m.Pairwise (fun x y => x.1 < y.1)) && m.all (fun c => decide (c.1 < Config.arrayBytes) && c.2 != 0)

/-- The array byte of offset `k` of region `r` (R1). -/
def arrayAddr (r : Region) (k : Nat) : Nat := Config.regionBytes * r.val + k

/-- Whether `n` bytes from offset `k` lie in one region. -/
def inRegion (k n : Nat) : Bool := decide (k + n ≤ Config.regionBytes)

/-! ### Readings of the state -/

/-- The station's own number (R150). -/
def State.own (s : State) : Station := s.ctl.number

/-- Whether `n` is in the working member set. -/
def State.isMember (s : State) (n : Station) : Bool := inMap s.ctl.members n

/-- M, the size of the member set. -/
def State.groupSize (s : State) : Nat := countBits s.ctl.members

/-- Q, ⌊M/2⌋+1 (R55). -/
def State.quorum (s : State) : Nat := s.groupSize / 2 + 1

/-- The roster status of another station (R40). -/
def State.statusOf (s : State) (n : Station) : Presence := s.roster.entries[n].status

/-- PRESENT or DOZING: counted for quorum, claims and pulls (Table 3-1). -/
def Presence.counted : Presence → Bool
  | .present | .dozing => true
  | .absent | .silent => false

/-- The other members that the roster shows PRESENT or DOZING. -/
def State.counted (s : State) (n : Station) : Bool := n != s.own && s.isMember n && (s.statusOf n).counted

/-- The quorum count (R55). -/
def State.quorumCount (s : State) : Nat := 1 + (List.finRange 16).countP s.counted

/-- The receiver is on (Table 2-1). -/
def StationState.receives : StationState → Bool
  | .listening | .active | .isolated | .dozing | .leaving => true
  | .offline | .halted => false

/-- The station makes ack points and has its transmitter on (R20, Table 2-1). -/
def StationState.onLine : StationState → Bool
  | .active | .isolated | .dozing | .leaving => true
  | .offline | .listening | .halted => false

/-- ACTIVE or ISOLATED: pulls open and regions are listed (R113, R6). -/
def StationState.working : StationState → Bool
  | .active | .isolated => true
  | _ => false

/-- Whether the station is the recorded owner of `r` (R9). -/
def State.owns (s : State) (r : Region) : Bool :=
  match s.table[r].owner with
  | some o => o.station == s.own
  | none => false

/-- The region's guarded field (R18). -/
def State.guarded (s : State) (r : Region) : Bool := inMap s.ctl.guardSet r

/-- Whether `r` is protected at a moment at which GUARD# is sampled as `guardPin` (R19). -/
def State.protectedNow (s : State) (r : Region) (guardPin : Bool) : Bool := guardPin && s.guarded r

/-- Orphaned: the recorded owner is another station with status ABSENT (R12). -/
def State.orphaned (s : State) (r : Region) : Bool :=
  match s.table[r].owner with
  | some o => o.station != s.own && s.statusOf o.station == .absent
  | none => false

/-- Whether the copy of `r` counts data that the array does not hold: the Apply Queue holds an entry for `r`, or FORMAT has
cleared one unwritten (R8, log 35). -/
def State.unwritten (s : State) (r : Region) : Bool := s.applyQ.any (fun e => e.region == r) || inMap s.unsaved r

/-- Whether the Apply Queue holds an entry for `r` taken before the mark `before` (R135). -/
def State.queuedBefore (s : State) (r : Region) (before : Nat) : Bool :=
  s.applyQ.any (fun e => e.region == r && decide (e.seq < before))

/-- An UPDATE entry. -/
def OutEntry.isUpdate (e : OutEntry) : Bool := match e.body with | .update _ => true | _ => false
/-- A CLAIM entry. -/
def OutEntry.isClaim (e : OutEntry) : Bool := match e.body with | .claim _ => true | _ => false
/-- A CLAIM entry with source SWEEP. -/
def OutEntry.isSweep (e : OutEntry) : Bool := match e.body with | .claim .sweep => true | _ => false
/-- A PULL entry. -/
def OutEntry.isPull (e : OutEntry) : Bool := match e.body with | .pull _ => true | _ => false
/-- An IMAGE entry. -/
def OutEntry.isImage (e : OutEntry) : Bool := match e.body with | .image _ => true | _ => false
/-- An in-fence UPDATE entry. -/
def OutEntry.inFence (e : OutEntry) : Bool := match e.body with | .update u => u.inFence | _ => false
/-- An UPDATE entry held for a WRITE in progress (R61). -/
def OutEntry.heldBack (e : OutEntry) : Bool := match e.body with | .update u => u.held | _ => false
/-- The kind priority of the entry's frame (Table 2-2). -/
def OutEntry.priority (e : OutEntry) : Nat :=
  match e.body with
  | .claim _ => 1
  | .pull _ => 2
  | .update _ => 3
  | .image _ => 4

/-- An UPDATE entry for `r`. -/
def OutEntry.updates (r : Region) (e : OutEntry) : Bool := e.isUpdate && e.region == r

/-- The entry with its UPDATE fields changed by `f`. -/
def OutEntry.mapUpdate (f : UpdateEntry → UpdateEntry) (e : OutEntry) : OutEntry :=
  match e.body with
  | .update u => { e with body := .update (f u) }
  | _ => e

/-- The list with its youngest UPDATE entry for `r` changed by `f`. -/
def mapYoungest (r : Region) (f : UpdateEntry → UpdateEntry) : List OutEntry → List OutEntry
  | [] => []
  | e :: rest =>
    if rest.any (OutEntry.updates r) then e :: mapYoungest r f rest
    else if e.updates r then e.mapUpdate f :: rest
    else e :: rest

/-- The list with the first entry that `p` names changed by `f`. -/
def mapFirst (p : OutEntry → Bool) (f : OutEntry → OutEntry) : List OutEntry → List OutEntry
  | [] => []
  | e :: rest => if p e then f e :: rest else e :: mapFirst p f rest

/-- The number of UPDATE entries, a reserved slot counted (R61, R64). -/
def Outbox.updateCount (o : Outbox) : Nat :=
  o.entries.countP OutEntry.isUpdate + (if o.reserved.isSome then 1 else 0)

/-- Whether the Outbox has an UPDATE for `r`, a reserved slot counted (R61). -/
def Outbox.hasUpdate (o : Outbox) (r : Region) : Bool :=
  o.entries.any (OutEntry.updates r) || o.reserved == some r

/-- The youngest UPDATE entry for `r`. -/
def Outbox.youngest (o : Outbox) (r : Region) : Option UpdateEntry :=
  match (o.entries.filter (OutEntry.updates r)).getLast? with
  | some ⟨_, .update u, _, _⟩ => some u
  | _ => none

/-- Whether a coalescing candidate exists for a write of this span: the youngest UPDATE entry for `r`, with the same
offset and length, not sealed (R61, R68). -/
def Outbox.candidate (o : Outbox) (r : Region) (offset length : Nat) : Bool :=
  match o.youngest r with
  | some u => u.offset == offset && u.data.length == length && !u.sealed
  | none => false

/-- The open pull record of `r`. -/
def State.pullOf (s : State) (r : Region) : Option PullRecord := s.catchup.pulls.find? (fun p => p.region == r)

/-- The serving record of `r`. -/
def State.servingOf (s : State) (r : Region) : Option ServingRecord := s.serving.find? (fun v => v.region == r)

/-- Whether `n` is a target of the serving record of `r`. -/
def State.serves (s : State) (r : Region) (n : Station) : Bool :=
  match s.servingOf r with
  | some v => v.targets.any (fun t => t.station == n)
  | none => false

/-! ### The event queue (R184, R185) -/

/-- The queue with one event posted: a post that finds an OVERFLOW record is counted into it, and one that finds 15
records without it is dropped for a new OVERFLOW record. -/
def postTo (q : List Event) (e : Event) : List Event :=
  match q.getLast? with
  | some (.overflow n) => q.dropLast ++ [.overflow (min (n + 1) Config.overflowLimit)]
  | _ => if q.length < Config.eventLimit then q ++ [e] else q ++ [.overflow 1]

/-- Post an event. -/
def State.post (s : State) (e : Event) : State := s.setEvents (postTo s.events e)

/-! ### Region entries and their retained image (R8, R144) -/

/-- The retained image of a region entry: STALE DAMAGED with the in-flight mark while the copy is FETCHING or counts data that
the array does not hold, else as the working entry. The mark is yes only where one of these two differences is what makes
the retained state STALE DAMAGED. -/
def nvImage (e : RegionEntry) (unwritten : Bool) : NvRegion :=
  match e.copy with
  | .fetching _ => ⟨e.stamp, some .damaged, true, e.held⟩
  | .stale .damaged => ⟨e.stamp, some .damaged, false, e.held⟩
  | .stale .behind => if unwritten then ⟨e.stamp, some .damaged, true, e.held⟩ else ⟨e.stamp, some .behind, false, e.held⟩
  | .current => if unwritten then ⟨e.stamp, some .damaged, true, e.held⟩ else ⟨e.stamp, none, false, e.held⟩

/-- Write a working entry, and its retained image with it. -/
def State.setEntry (s : State) (r : Region) (e : RegionEntry) : State :=
  { s with
    table := s.table.set r e
    nv := { s.nv with regions := s.nv.regions.set r (nvImage e (s.unwritten r)) } }

/-- Change a working entry from what it holds, and its retained image with it. -/
def State.mapEntry (s : State) (r : Region) (f : RegionEntry → RegionEntry) : State := s.setEntry r (f s.table[r])

/-- Write the retained image of `r` again after a change of the Apply Queue. -/
def State.retain (s : State) (r : Region) : State := s.mapEntry r id

/-- The copy state that a retained region comes up with (R146 step 1). -/
def NvRegion.copy (n : NvRegion) : CopyState :=
  match n.stale with
  | some c => .stale c
  | none => .current

/-- The working entry that a retained region comes up with (R146 step 1, Table 1-3). -/
def NvRegion.working (n : NvRegion) : RegionEntry := ⟨n.stamp, n.copy, none, n.held, false, false, false⟩

/-! ### The Apply Queue (R140) -/

/-- The counter that orders takings and requests moves on (log 9). -/
def State.countSerial (s : State) : State := s.setSerial (s.serial + 1)

/-- Append an entry to the Apply Queue, marked with the counter. -/
def State.appendApply (s : State) (r : Region) (b : ApplyBody) : State := s.setApplyQ (s.applyQ ++ [⟨s.serial, r, b⟩])

/-- Take an entry at the tail: the retained image of its region follows (R8, R140). -/
def State.takeApply (s : State) (r : Region) (b : ApplyBody) : State := ((s.appendApply r b).countSerial).retain r

/-- The entries that stay when the queue is cleared: the head while its write is in progress (R141, R143). -/
def State.applyInProgress (s : State) : List ApplyEntry :=
  if s.arb.op = some .apply then s.applyQ.take 1 else []

/-- The entries that a clearing removes. -/
def State.applyCleared (s : State) : List ApplyEntry :=
  if s.arb.op = some .apply then s.applyQ.drop 1 else s.applyQ

/-! ### Answers (R172, R183) -/

/-- Place an answer: the port goes to ANSWER. -/
def State.answer (s : State) (code : Byte) (result : ResultCode) (data : List Byte) : State :=
  s.mapPort ({ · with state := .answer ⟨code, result, data⟩ })

/-- Put the port in WORKING with the command's block in the command buffer. -/
def State.work (s : State) (w : Work) : State := s.mapPort ({ · with state := .working w })

/-! ### Entries leaving the Outbox (R67, R81, R84) -/

/-- Put the Outbox's entries. -/
def State.setEntries (s : State) (es : List OutEntry) : State := s.mapOut ({ · with entries := es })

/-- The fence completes when no in-fence entry remains (R84). -/
def State.checkFence (s : State) : State :=
  match s.out.fence with
  | some f =>
    if s.out.entries.any OutEntry.inFence then s
    else (s.mapOut ({ · with fence := none })).post (.fenceDone f.missing f.lost)
  | none => s

/-- The Outbox after a discarded entry: an in-fence entry raises the fence's lost count, a host claim closes without
CLAIM_DONE, and a SWEEP entry is no longer outstanding (R81, R88, R165). -/
def Outbox.without (o : Outbox) (e : OutEntry) : Outbox :=
  match e.body with
  | .update u => if u.inFence then { o with fence := o.fence.map (fun f => { f with lost := f.lost + 1 }) } else o
  | .claim .host => { o with hostClaim := none }
  | .claim .sweep => { o with sweep := { o.sweep with outstanding := none } }
  | .pull _ => o
  | .image _ => o

/-- One more entry that the cut has removed (R165). -/
def Controller.countCut (c : Controller) (cut : Bool) : Controller :=
  if cut then { c with discarded := c.discarded + 1 } else c

/-- What a discarded entry leaves behind; the cut counts it (R165). -/
def State.departed (s : State) (cut : Bool) (e : OutEntry) : State :=
  (s.mapCtl (·.countCut cut)).mapOut (·.without e)

/-- What several discarded entries leave behind, oldest first. -/
def State.departAll (s : State) (cut : Bool) (gone : List OutEntry) : State :=
  gone.foldl (fun t e => t.departed cut e) s

/-- A WAITING entry that `p` names leaves at once. -/
def goesNow (p : OutEntry → Bool) (e : OutEntry) : Bool := p e && !e.sending

/-- An entry that stays: one that is SENDING and that `p` names is marked for its removal, unless it is marked already. -/
def OutEntry.markedBy (p : OutEntry → Bool) (cut : Bool) (e : OutEntry) : OutEntry :=
  if p e && e.doom == .none then { e with doom := if cut then .cut else .discard } else e

/-- The entries that stay when those that `p` names are discarded. -/
def keptEntries (p : OutEntry → Bool) (cut : Bool) (es : List OutEntry) : List OutEntry :=
  (es.filter (fun e => !goesNow p e)).map (OutEntry.markedBy p cut)

/-- Ask for the removal of every entry that `p` names: a WAITING entry leaves at once, a SENDING entry at the end of
its attempt (R26, R67). A removal asked for earlier stands (log 17). -/
def State.discardEntries (s : State) (p : OutEntry → Bool) (cut : Bool) : State :=
  ((s.setEntries (keptEntries p cut s.out.entries)).departAll cut (s.out.entries.filter (goesNow p))).checkFence

/-- The entry being sent. -/
def State.sendingEntry (s : State) : Option OutEntry := s.out.entries.find? OutEntry.sending

/-- Take the entry being sent out of the list. -/
def State.removeSending (s : State) : State :=
  s.mapOut fun o => { o with entries := o.entries.filter (fun e => !e.sending) }

/-- An attempt of an entry ends without a frame end: the entry returns to WAITING in its place, or leaves where its
removal has been asked for (R26, R67). -/
def State.returnSending (s : State) : State :=
  match s.sendingEntry with
  | none => s
  | some e =>
    if e.doom == .none then
      s.mapOut fun o => { o with entries := o.entries.map (fun x => if x.sending then { x with sending := false } else x) }
    else (s.removeSending.departed (e.doom == .cut) e).checkFence

/-- Give up the reserved slot, or the hold on the candidate (R61, R63). -/
def State.releaseHold (s : State) : State :=
  s.mapOut fun o =>
    { o with reserved := none, entries := o.entries.map (OutEntry.mapUpdate fun u => { u with held := false }) }

end Sys2Proof.Machine
end

