-- ==== Sys2Proof/Machine/Operands.lean ====
section
/-! DEFINITION. The operand checks of the commands (the argument steps of their check orders), the pieces a READ is
cut into, and the encodings of the fields that answers and event records carry (Tables 11-1, 11-9, 11-13). -/

namespace Sys2Proof.Machine

/-! ### Arguments of the commands -/

/-- The argument step of READ (R138): region 0–63, offset 0–4095, length 1–4096, offset + length ≤ 4096. -/
def readArgs (region : Byte) (offset length : BitVec 16) : Option Region :=
  if offset.toNat < 4096 ∧ 1 ≤ length.toNat ∧ offset.toNat + length.toNat ≤ 4096 then regionOfByte region else none

/-- The argument step of WRITE (Table 4-1 step 1): a region, an update span, and a data part of the stated length. -/
def writeArgs (region : Byte) (offset length : BitVec 16) (data : List Byte) : Option Region :=
  if updateSpanOk offset.toNat length.toNat ∧ data.length = length.toNat then regionOfByte region else none

/-- The length of the READ piece that begins at `pos` with `left` bytes to read: to the end of its chunk or of the
span, whichever comes first (R139). -/
def pieceLength (pos left : Nat) : Nat := min left (Config.chunkBytes - pos % Config.chunkBytes)

/-! ### Field encodings -/

/-- Result codes (Table 11-9). -/
def ResultCode.byte : ResultCode → Byte
  | .done => 0x00
  | .accepted => 0x01
  | .none => 0x02
  | .busy => 0x03
  | .full => 0x04
  | .notOwner => 0x05
  | .notCurrent => 0x06
  | .notReady => 0x07
  | .guarded => 0x08
  | .isolated => 0x09
  | .held => 0x0A
  | .exhausted => 0x0B
  | .badArgument => 0x0C
  | .wrongState => 0x0D

/-- Station state (Table 11-1). -/
def StationState.byte : StationState → Byte
  | .offline => 0
  | .listening => 1
  | .active => 2
  | .isolated => 3
  | .dozing => 4
  | .leaving => 5
  | .halted => 6

/-- Roster status (Table 11-1). -/
def Presence.byte : Presence → Byte
  | .absent => 0
  | .present => 1
  | .dozing => 2
  | .silent => 3

/-- Copy state (Table 11-1). -/
def CopyState.byte : CopyState → Byte
  | .current => 0
  | .stale _ => 1
  | .fetching _ => 2

/-- Stale cause (Table 11-1). -/
def Cause.byte : Cause → Byte
  | .behind => 1
  | .damaged => 2

/-- The stale cause as reported: 0 unless STALE (Table 11-10). -/
def CopyState.causeByte : CopyState → Byte
  | .stale c => c.byte
  | _ => 0

/-- Sweep phase (Table 11-12). -/
def SweepPhase.byte : SweepPhase → Byte
  | .inactive => 0
  | .running => 1
  | .paused => 2

/-- A byte with the given bits set, bit 7 first. -/
def flagsByte (b7 b6 b5 b4 b3 b2 b1 b0 : Bool) : Byte :=
  byteOfBits b7 b6 b5 b4 b3 b2 b1 b0

/-- A count in one byte. -/
def countByte (n : Nat) : Byte := BitVec.ofNat 8 n

/-- A station map in two bytes. -/
def stationMapBytes (m : StationMap) : List Byte := bytesBE 2 m.toNat

/-- A region map in eight bytes. -/
def regionMapBytes (m : RegionMap) : List Byte := bytesBE 8 m.toNat

/-- A flag in one byte. -/
def boolByte (b : Bool) : Byte := if b then 1 else 0

/-- An optional region: FFh for none (Table 11-1). -/
def optRegionByte : Option Region → Byte
  | some r => numByte r
  | none => 0xFF

/-- The kind code and the fields of an event record (Table 11-13). -/
def Event.fields : Event → List Byte
  | .resetDone c m => 0x01 :: (match c with | .power => 0 | .pin => 1) :: regionMapBytes m
  | .joined => [0x02]
  | .left n => [0x03, countByte n]
  | .isolation entered => [0x04, boolByte (!entered)]
  | .woken r => [0x05, boolByte r.isSome, optRegionByte r]
  | .station n st => [0x06, numByte n, st.byte]
  | .membersDiffer n => [0x07, numByte n]
  | .stranger n => [0x08, numByte n]
  | .claimDone r ack source lost =>
    0x09 :: numByte r :: boolByte lost.isSome :: stationMapBytes ack
      ++ [(match source with | .host => 0 | .sweep => 1),
          (match lost with | none => 0xFF | some .refused => 1 | some .notCurrent => 2 | some .exhausted => 3)]
  | .ownershipLost r split => [0x0A, numByte r, boolByte split]
  | .fenceDone missing lost => 0x0B :: stationMapBytes missing ++ [countByte lost]
  | .short r missing => 0x0C :: numByte r :: stationMapBytes missing
  | .regionStale r c => [0x0D, numByte r, c.byte]
  | .regionCurrent r => [0x0E, numByte r]
  | .pullFailed r => [0x0F, numByte r]
  | .stampAhead r n => [0x10, numByte r, numByte n]
  | .halted c => [0x11, (match c with | .duplicate => 0 | .lineFault => 1)]
  | .overflow n => [0x12, countByte n]

/-- An event record in ten bytes: the bytes after a kind's last field are 00h (R200). -/
def Event.record (e : Event) : List Byte := e.fields ++ List.replicate (10 - e.fields.length) 0

/-- An answer block: command code, result code, length of the result data, result data (R199). -/
def Answer.block (a : Answer) : List Byte := a.code :: a.result.byte :: bytesBE 2 a.data.length ++ a.data

/-- The block that a take in IDLE or WORKING receives: no command, NONE, no data (R199). -/
def noneBlock : List Byte := [0x00, 0x02, 0x00, 0x00]

/-- The first `n` bits of a block with its fill of 00h, most significant bit of each byte first (R195, R199). -/
def clockedOut (block : List Byte) (n : Nat) : List Bool := ((block ++ List.replicate n 0).flatMap byteBits).take n

end Sys2Proof.Machine
end

