-- ==== Sys2Proof/Machine/Flags.lean ====
section
/-! DEFINITION. What the part shows of itself: ATTN#, the poll byte (R176), and the result data of REGION, ROSTER,
STATUS and IDENT (Tables 11-10 to 11-12). -/

namespace Sys2Proof.Machine

/-- ATTN# is asserted while the event queue holds a record (R186). -/
def State.attn (s : State) : Bool := !s.events.isEmpty

/-- The poll byte (Table 9-2, R199): bit 3 is always 0. -/
def State.pollByte (s : State) : Byte :=
  flagsByte (match s.port.state with | .answer _ => true | _ => false)
    (match s.port.state with | .working _ => true | _ => false) s.attn s.port.refused
    false false false false ||| s.ctl.state.byte

/-- What the ATTN# output does: an open drain that pulls low while asserted and else leaves the line to its pull-up (R186,
R201). -/
inductive OpenDrain
  | pullsLow | released
deriving DecidableEq, Repr

/-- The ATTN# output (R186, R201). -/
def State.attnPin (s : State) : OpenDrain := if s.attn then .pullsLow else .released

/-- The level of serial data out at bit `i` after the selector byte: where no bit is driven the pull-up holds the line high
(R199, R201). -/
def Port.sdoLevel (p : Port) (i : Nat) : Bool := (p.sdo[i]?).getD true

/-- The `n` bytes that the host reads on serial data out in the last transaction, that of the selector first: undriven bits read
high, and undriven bytes FFh (R199). -/
def Port.hostReads (p : Port) (n : Nat) : List Byte :=
  ((0xFF : Byte) :: bytesOfBits ((List.range (8 * n)).map p.sdoLevel)).take n

/-- The cells that the part drives on the Mirror Line for the frame in its transmit slot, with no ack slot set. -/
def State.lineCells (s : State) : List LineCell :=
  match s.line.slot with
  | some t => frameCells (encodeFrame t.frame) 0
  | none => []

/-- The cells that the part drives in the ack field of the frame it receives, once its ack point has passed (R33, R196). -/
def State.slotCells (s : State) : List LineCell :=
  match s.line.rx with
  | some ⟨_, bit, _⟩ => receiverCells s.own bit
  | none => []

/-- The catch-up field of REGION with the list position: NONE, LISTED, PARKED or PULLING (Table 11-10). -/
def State.catchupBytes (s : State) (r : Region) : List Byte :=
  if (s.pullOf r).isSome then [3, 0]
  else if s.catchup.list.contains r then [1, countByte (s.catchup.list.idxOf r + 1)]
  else if inMap s.catchup.parked r then [2, 0]
  else [0, 0]

/-- The pull fields of REGION (Table 11-10). -/
def State.pullBytes (s : State) (r : Region) : List Byte :=
  match s.pullOf r with
  | some p => numByte p.target :: countByte p.attempts :: boolByte p.collecting.isSome
      :: stampBytes (p.collecting.getD ⟨0, 0⟩) ++ [countByte (countBits p.collected), countByte (countBits p.written)]
  | none => 0xFF :: 0 :: 0 :: stampBytes ⟨0, 0⟩ ++ [0, 0]

/-- The serving fields of REGION (Table 11-10). -/
def State.servingBytes (s : State) (r : Region) : List Byte :=
  match s.servingOf r with
  | some v => [1, countByte v.targets.length, countByte v.restarts]
  | none => [0, 0, 0]

/-- The flag byte of REGION. A field meaningful only when owner = self is reported no otherwise (R4, R178). -/
def State.regionFlags (s : State) (r : Region) (guardPin : Bool) : Byte :=
  let e := s.table[r]
  flagsByte (s.orphaned r) e.held (s.owns r && e.yieldReady) (s.owns r && e.votePending) (s.owns r && e.writeHold)
    (s.guarded r) (s.protectedNow r guardPin) false

/-- The UPDATE entries queued for a region, a reserved slot counted (Table 9-4). -/
def State.updatesQueued (s : State) (r : Region) : Nat :=
  s.out.entries.countP (OutEntry.updates r) + (if s.out.reserved = some r then 1 else 0)

/-- The REGION answer's result data (Table 11-10). -/
def State.regionData (s : State) (r : Region) (guardPin : Bool) : List Byte :=
  let e := s.table[r]
  numByte r :: stampBytes e.stamp
    ++ [e.copy.byte, e.copy.causeByte, (match e.owner with | some o => numByte o.station | none => 0xFF)]
    ++ (match e.owner with | some o => bytesBE 2 o.epoch.toNat | none => [0, 0])
    ++ [s.regionFlags r guardPin, countByte (s.updatesQueued r)]
    ++ s.catchupBytes r ++ s.pullBytes r ++ s.servingBytes r

/-- One roster entry of the ROSTER answer: bit 7 member, bit 6 own entry, bits 2–0 the status or the station state
(Table 11-11). -/
def State.rosterByte (s : State) (n : Station) : Byte :=
  flagsByte (s.isMember n || n == s.own) (n == s.own) false false false false false false
    ||| (if n = s.own then s.ctl.state.byte else (s.statusOf n).byte)

/-- The ROSTER answer's result data (Table 11-11). -/
def State.rosterData (s : State) : List Byte :=
  numByte s.own :: (List.finRange 16).map s.rosterByte
    ++ stationMapBytes (mapOf (fun n : Station => s.roster.entries[n].differs))
    ++ stationMapBytes s.roster.lastAck ++ [countByte s.quorumCount]

/-- The leaving phase of the STATUS answer: 0 when not LEAVING (Table 11-12). -/
def State.phaseByte (s : State) : Byte :=
  match s.ctl.state, s.ctl.leavePhase with
  | .leaving, .drain => 1
  | .leaving, .final => 2
  | _, _ => 0

/-- The STATUS answer's result data (Table 11-12). -/
def State.statusData (s : State) (guardPin : Bool) : List Byte :=
  [s.ctl.state.byte, s.phaseByte, countByte s.groupSize, countByte s.quorum, countByte s.quorumCount,
   countByte s.out.updateCount, countByte (s.out.entries.countP OutEntry.isClaim),
   countByte (s.out.entries.countP OutEntry.isPull), countByte (s.out.entries.countP OutEntry.isImage),
   countByte s.applyQ.length, countByte s.events.length,
   flagsByte s.out.fence.isSome s.out.hostClaim.isSome guardPin false false false false false,
   optRegionByte s.out.hostClaim, s.out.sweep.phase.byte, countByte s.catchup.pulls.length,
   countByte s.serving.length, countByte s.line.faults]

/-- The IDENT answer's result data (R182, R199): the revision code is a free value (log 6). -/
def State.identData (s : State) : List Byte :=
  bytesBE 2 Config.vendorCode.toNat ++ bytesBE 2 Config.partCode.toNat ++ [Config.revision, numByte s.own]

/-- The result data of a READ's DONE (R199): stamp, copy state, stale cause, data. -/
def ReadWork.answerData (w : ReadWork) (data : List Byte) : List Byte :=
  stampBytes w.stamp ++ [w.copy.byte, w.copy.causeByte] ++ data

end Sys2Proof.Machine
end

