-- ==== Sys2Proof/Machine/Protocol.lean ====
section
/-! DEFINITION. The operations that the line protocols share: serving records, the host WRITE given up, the reclaim
sweep, pulls and the catch-up list, the STALE mark, a change of owner, roster status and quorum, owner learning,
conflict resolution, the claim decision, wake, halt and the end of LEAVING. -/

namespace Sys2Proof.Machine

/-! ### Serving records (R122 to R128) -/

/-- Put the serving record of its region. -/
def State.putServing (s : State) (v : ServingRecord) : State :=
  s.setServing (s.serving.map (fun x => if x.region = v.region then v else x))

/-- The data of a chunk read in progress for `r` is to be discarded at its completion (R123). -/
def State.dropRead (s : State) (r : Region) : State :=
  match s.arb.op with
  | some (.chunkRead r' k st _) =>
    if r' = r then s.setArb { s.arb with op := some (.chunkRead r' k st false) } else s
  | _ => s

/-- The IMAGE entry of `r`. -/
def imageOf (r : Region) (e : OutEntry) : Bool := e.isImage && e.region == r

/-- The serving table without the record of `r`. -/
def State.dropServing (s : State) (r : Region) : State := s.setServing (s.serving.filter (fun v => v.region != r))

/-- End the serving record of `r`: its read is withdrawn or its data discarded, its IMAGE entry is discarded and write
hold is cleared (R127). -/
def State.endServing (s : State) (r : Region) : State :=
  match s.servingOf r with
  | none => s
  | some _ => (((s.dropServing r).dropRead r).discardEntries (imageOf r) false).mapEntry r ({ · with writeHold := false })

/-- Put the targets of a serving record, ending it where none remains (R126, R127). -/
def State.putTargets (s : State) (v : ServingRecord) (ts : List Target) : State :=
  if ts.isEmpty then s.endServing v.region else s.putServing { v with targets := ts }

/-- The target `n` leaves the serving record of `r` (R126). -/
def State.dropTarget (s : State) (r : Region) (n : Station) : State :=
  match s.servingOf r with
  | some v => if s.serves r n then s.putTargets v (v.targets.filter (fun t => t.station != n)) else s
  | none => s

/-- The target `n` leaves every serving record (R44, R126). -/
def State.dropTargets (s : State) (n : Station) : State :=
  (s.serving.map (·.region)).foldl (fun t r => t.dropTarget r n) s

/-- Every serving record ends (R127). -/
def State.endAllServing (s : State) : State := (s.serving.map (·.region)).foldl State.endServing s

/-- The union of the needed sets of a record's targets. -/
def ServingRecord.needed (v : ServingRecord) : ChunkSet := v.targets.foldl (fun m t => m ||| t.needed) 0

/-- The lowest needed chunk, counting upward from the next chunk index and wrapping (R123). -/
def ServingRecord.nextNeeded (v : ServingRecord) : Option Chunk :=
  ((List.finRange 16).map (fun i => v.next + i)).find? (fun k => inMap v.needed k)

/-- Whether a record has a chunk read requested or in progress. -/
def ServingRecord.reading (v : ServingRecord) : Bool := v.read != .none

/-- A serving record with no IMAGE entry in the Outbox and no chunk read requested or in progress requests the next
chunk its targets need (R123). A request that could lead to a third IMAGE entry waits (R65, log 19). -/
def State.requestRead (s : State) (r : Region) : State :=
  match s.servingOf r with
  | none => s
  | some v =>
    if v.reading || s.out.entries.any (imageOf r)
        || decide (Config.imageLimit ≤ s.out.entries.countP OutEntry.isImage + s.serving.countP ServingRecord.reading) then s
    else
      match v.nextNeeded with
      | none => s
      | some k => (s.putServing { v with read := .requested k s.serial }).countSerial

/-- Every serving record makes the request that R123 calls for. -/
def State.requestReads (s : State) : State := (s.serving.map (·.region)).foldl State.requestRead s

/-- All 16 chunks. -/
def allChunks : ChunkSet := 0xFFFF

/-- Serve requester `q` for `r`: it stays a target with its count set to 0, joins with all 16 chunks needed, opens a new
record, or is ignored where two other records are open (R121, Table 6-2). -/
def State.serve (s : State) (r : Region) (q : Station) : State :=
  match s.servingOf r with
  | some v =>
    if s.serves r q then
      s.putServing { v with targets := v.targets.map (fun t => if t.station = q then { t with noProgress := 0 } else t) }
    else s.putServing { v with targets := v.targets ++ [⟨q, allChunks, 0⟩] }
  | none =>
    if s.serving.length < Config.servingLimit then
      s.setServing (s.serving ++ [⟨r, s.table[r].stamp, [⟨q, allChunks, 0⟩], 0, 0, .none⟩])
    else s

/-- A serving record restarted at a new stamp (R128 steps 3 to 6). -/
def ServingRecord.restarted (v : ServingRecord) (stamp : Stamp) : ServingRecord :=
  { v with
    stamp := stamp
    targets := v.targets.map (fun t => { t with needed := allChunks, noProgress := 0 })
    next := 0
    restarts := min (v.restarts + 1) Config.restartLimit
    read := .none }

/-- Restart the serving record of `r` at the owner's new stamp; at the third restart write hold is set (R128). -/
def State.restartServing (s : State) (r : Region) : State :=
  match s.servingOf r with
  | none => s
  | some v =>
    (((s.discardEntries (imageOf r) false).dropRead r).putServing (v.restarted s.table[r].stamp)).mapEntry r fun e =>
      { e with writeHold := e.writeHold || (v.restarted s.table[r].stamp).restarts == Config.restartLimit }

/-! ### A WRITE whose region is lost (R17) -/

/-- A WRITE of `r` that is taken and not yet granted the array is abandoned: it answers NOT_OWNER and gives up its slot
or hold (R17). -/
def State.abandonWrite (s : State) (r : Region) : State :=
  match s.port.state with
  | .working (.write w) =>
    if w.region = r ∧ s.arb.op ≠ some .hostWrite then s.releaseHold.answer 0x02 .notOwner [] else s
  | _ => s

/-! ### The reclaim sweep (R103 to R105) -/

/-- Put the sweep. -/
def State.setSweep (s : State) (w : Sweep) : State := s.mapOut ({ · with sweep := w })

/-- The sweep's position moves past `r`; after region 63 the sweep is INACTIVE. An INACTIVE sweep does not move
(R105). That the position stays where it is after region 63 is the model's choice (DESIGN CHOICE, log 42): r+1 is no region
there, and R103 and R105 name no position. -/
def Sweep.pass (w : Sweep) (r : Region) : Sweep :=
  if w.phase = .inactive then w
  else if r = 63 then { w with phase := .inactive } else { w with position := r + 1 }

/-- Clear the held flag of `r`. -/
def State.dropHeld (s : State) (r : Region) : State := s.mapEntry r ({ · with held := false })

/-- Append an Outbox entry, WAITING. -/
def State.appendEntry (s : State) (r : Region) (b : EntryBody) : State :=
  s.mapOut fun o => { o with entries := o.entries ++ [⟨r, b, false, .none⟩] }

/-- What the sweep does at its position: the state after, and whether it walks on (R104). -/
def State.sweepAct (s : State) : State × Bool :=
  let r := s.out.sweep.position
  let e := s.table[r]
  if !e.held || s.owns r || s.out.hostClaim == some r then (s.setSweep (s.out.sweep.pass r), true)
  else if e.copy ≠ .current then
    (((s.setSweep (s.out.sweep.pass r)).dropHeld r).post (.claimDone r 0 .sweep (some .notCurrent)), true)
  else if e.stamp.epoch = Config.epochCeiling then
    (((s.setSweep (s.out.sweep.pass r)).dropHeld r).post (.claimDone r 0 .sweep (some .exhausted)), true)
  else ((s.setSweep { s.out.sweep with outstanding := some r }).appendEntry r (.claim .sweep), false)

/-- The sweep walks from its position, at most `fuel` regions, while it is RUNNING (R104). -/
def State.sweepFrom : Nat → State → State
  | 0, s => s
  | fuel + 1, s =>
    if s.out.sweep.phase = .running then
      if s.sweepAct.2 then State.sweepFrom fuel s.sweepAct.1 else s.sweepAct.1
    else s

/-- While RUNNING with no SWEEP entry outstanding, the sweep walks (R104). -/
def State.sweepWalk (s : State) : State :=
  if s.out.sweep.phase = .running ∧ s.out.sweep.outstanding = none then s.sweepFrom 64 else s

/-- The sweep pauses (R103). -/
def Sweep.pause (w : Sweep) : Sweep := if w.phase = .running then { w with phase := .paused } else w

/-- The sweep resumes (R103). -/
def Sweep.resume (w : Sweep) : Sweep := if w.phase = .paused then { w with phase := .running } else w

/-! ### The catch-up list and pulls (R110 to R119) -/

/-- Place `r` at the tail of the catch-up list unless it is listed, out of the parked set (R110, R111). -/
def State.listRegion (s : State) (r : Region) : State :=
  s.mapCatchup fun u =>
    { u with list := if u.list.contains r then u.list else u.list ++ [r], parked := dropBit u.parked r }

/-- The copy state that a pull's closure leaves: the kept cause, or DAMAGED where a chunk was taken (R119). -/
def closedCopy (taken : Bool) : CopyState → CopyState
  | .fetching kept => .stale (if taken then .damaged else kept)
  | c => c

/-- The PULL entry of `r`. -/
def pullEntryOf (r : Region) (e : OutEntry) : Bool := e.isPull && e.region == r

/-- The pull records without the one of `r`. -/
def State.dropPull (s : State) (r : Region) : State :=
  s.mapCatchup fun u => { u with pulls := u.pulls.filter (fun q => q.region != r) }

/-- Post REGION_STALE for a STALE region with its cause. -/
def State.postStale (s : State) (r : Region) : State :=
  match s.table[r].copy with
  | .stale c => s.post (.regionStale r c)
  | _ => s

/-- Park `r` (R111). -/
def State.parkRegion (s : State) (r : Region) : State := s.mapCatchup fun u => { u with parked := addBit u.parked r }

/-- A pull closed in ACTIVE or ISOLATED is posted as a change to STALE, and its region parked or listed (R119). -/
def State.afterClosure (s : State) (r : Region) (park : Bool) : State :=
  if s.ctl.state.working then
    if park then (s.postStale r).parkRegion r else (s.postStale r).listRegion r
  else s

/-- Close the pull record of `r` without success (R119): its PULL entry is discarded and its copy goes back to STALE. In
ACTIVE or ISOLATED this is posted, and the region is listed at the tail, or parked. -/
def State.closePull (s : State) (r : Region) (park : Bool) : State :=
  match s.pullOf r with
  | none => s
  | some p =>
    (((s.dropPull r).discardEntries (pullEntryOf r) false).mapEntry r
      (fun e => { e with copy := closedCopy p.taken e.copy })).afterClosure r park

/-- Every pull record closes without success (R119). -/
def State.closeAllPulls (s : State) : State :=
  (s.catchup.pulls.map (·.region)).foldl (fun t r => t.closePull r false) s

/-- The force flag of a pull (R115). -/
def State.pullForce (s : State) (p : PullRecord) : Bool := s.table[p.region].copy == .fetching .damaged || p.taken

/-- Queue the PULL entry of a record that is owed one, where its kind has room (R65, R115, log 20). -/
def State.queuePull (s : State) (p : PullRecord) : State :=
  if p.owed && decide (s.out.entries.countP OutEntry.isPull < Config.pullEntryLimit) then
    (s.appendEntry p.region (.pull (s.pullForce p))).mapCatchup fun u =>
      { u with pulls := u.pulls.map (fun q => if q.region = p.region then { q with owed := false } else q) }
  else s

/-- Queue every PULL entry owed. -/
def State.queuePulls (s : State) : State := s.catchup.pulls.foldl State.queuePull s

/-- A listed STALE region whose recorded owner is another station, PRESENT or DOZING (R113). -/
def State.pullable (s : State) (r : Region) : Bool :=
  match s.table[r].copy, s.table[r].owner with
  | .stale _, some o => o.station != s.own && (s.statusOf o.station).counted
  | _, _ => false

/-- A new pull record for `r` toward `n`, as at its opening; `r` leaves the list (R114, Table 6-1). -/
def State.addPull (s : State) (r : Region) (n : Station) : State :=
  s.mapCatchup fun u =>
    { u with list := u.list.erase r, pulls := u.pulls ++ [⟨s.serial, r, n, 1, none, none, 0, 0, false, true⟩] }

/-- Open a pull for `r` toward `n` (R114). -/
def State.openPull (s : State) (r : Region) (n : Station) (kept : Cause) : State :=
  (((s.addPull r n).countSerial).mapEntry r ({ · with copy := .fetching kept })).queuePulls

/-- The pull that a listed STALE region's entry calls for: the region, its owner and the cause to keep. -/
def State.pullFor (s : State) (r : Region) : Option (Region × Station × Cause) :=
  match s.table[r].copy, s.table[r].owner with
  | .stale c, some o => some (r, o.station, c)
  | _, _ => none

/-- The next pull to open: for the oldest listed region that qualifies, in ACTIVE or ISOLATED with a record free (R113). -/
def State.nextPull (s : State) : Option (Region × Station × Cause) :=
  if s.ctl.state.working ∧ s.catchup.pulls.length < Config.pullLimit then
    (s.catchup.list.find? s.pullable).bind s.pullFor
  else none

/-- Open at most `fuel` pulls (R113). -/
def State.openPullsFrom : Nat → State → State
  | 0, s => s
  | fuel + 1, s =>
    match s.nextPull with
    | some p => State.openPullsFrom fuel (s.openPull p.1 p.2.1 p.2.2)
    | none => s

/-- Open the pulls whose conditions hold, and queue the PULL entries owed (R113). -/
def State.openPulls (s : State) : State := (s.openPullsFrom Config.pullLimit).queuePulls

/-! ### The STALE mark (R6) -/

/-- The copy state after a STALE mark (R6). -/
def markedCopy : CopyState → Cause → CopyState
  | .current, c => .stale c
  | .stale .behind, .damaged => .stale .damaged
  | x, _ => x

/-- A mark that changed the entry is posted in ACTIVE, ISOLATED and LISTENING, and its region listed in the first two
(R6). -/
def State.reportMark (s : State) (r : Region) (c : Cause) : State :=
  if s.ctl.state.working then (s.post (.regionStale r c)).listRegion r
  else if s.ctl.state = .listening then s.post (.regionStale r c)
  else s

/-- A parked region touched in ACTIVE or ISOLATED is listed again (R6, R11, R111). -/
def State.unpark (s : State) (r : Region) : State :=
  if s.ctl.state.working && inMap s.catchup.parked r then s.listRegion r else s

/-- Mark the copy of `r` STALE with a cause; a mark that changes the entry is reported, and one that does not still lists a
parked region (R6). -/
def State.markStale (s : State) (r : Region) (c : Cause) : State :=
  if markedCopy s.table[r].copy c = s.table[r].copy then s.unpark r
  else (s.mapEntry r (fun e => { e with copy := markedCopy e.copy c })).reportMark r c

/-! ### A change of owner (R9, R11, R17) -/

/-- The working flags of an owner cleared (R17). -/
def RegionEntry.clearFlags (e : RegionEntry) : RegionEntry :=
  { e with yieldReady := false, votePending := false, writeHold := false }

/-- Region `r` leaves the census front list (R52). -/
def State.dropFront (s : State) (r : Region) : State :=
  s.mapRoster fun t => { t with front := t.front.filter (fun x => x != r) }

/-- The station ceases to be owner of `r`: its serving record ends, its working flags are cleared, it leaves the census
front list, and a WRITE not yet granted is abandoned (R11, R17, R52). -/
def State.surrender (s : State) (r : Region) : State :=
  (((s.endServing r).mapEntry r RegionEntry.clearFlags).dropFront r).abandonWrite r

/-- The flags of a region of which the station becomes owner (R13, R14). -/
def State.assume (s : State) (r : Region) : State := s.mapEntry r (fun e => { e.clearFlags with held := true })

/-- The former owner's part of a change of owner, where the station was the owner (R11). -/
def State.partOld (s : State) (r : Region) (self : Bool) : State := if self then s.surrender r else s

/-- The new owner's part of a change of owner, where the station becomes the owner (R11). -/
def State.partNew (s : State) (r : Region) (self : Bool) : State := if self then s.assume r else s

/-- Whether an owner field holds this station's number. -/
def State.isSelf (s : State) (o : Option Owner) : Bool := o.any (fun w => w.station == s.own)

/-- Record the owner of `r` and, where the owner field changes, hand the change on (R11): an open pull is closed, a
parked region is listed again, the flags of a former or new owner follow. -/
def State.changeOwner (s : State) (r : Region) (o : Option Owner) : State :=
  if s.table[r].owner.map (·.station) = o.map (·.station) then s.mapEntry r ({ · with owner := o })
  else
    (((((s.mapEntry r ({ · with owner := o })).closePull r false).unpark r).partOld r
      (s.isSelf s.table[r].owner)).partNew r (s.isSelf o))

/-! ### Roster status and quorum (R41 to R46, R55 to R57) -/

/-- Put the station state. -/
def State.setState (s : State) (st : StationState) : State := s.mapCtl ({ · with state := st })

/-- Compare the quorum count with Q at a change of a member's status (R56); the sweep pauses or resumes with it
(R103). -/
def State.quorumCheck (s : State) : State :=
  if s.ctl.state = .active ∧ s.quorumCount < s.quorum then
    ((s.setState .isolated).setSweep s.out.sweep.pause).post (.isolation true)
  else if s.ctl.state = .isolated ∧ s.quorum ≤ s.quorumCount then
    (((s.setState .active).setSweep s.out.sweep.resume).post (.isolation false)).sweepWalk
  else s

/-- Change a roster entry from what it holds. -/
def State.mapRosterEntry (s : State) (n : Station) (f : RosterEntry → RosterEntry) : State :=
  s.mapRoster fun t => { t with entries := t.entries.set n (f t.entries[n]) }

/-- A serving target that falls SILENT or ABSENT leaves its records (R44 step 4, R126). -/
def State.targetsFollow (s : State) (n : Station) (st : Presence) : State :=
  if st.counted then s else s.dropTargets n

/-- Members-differ seen is cleared as station `n` becomes ABSENT, from any status (R44 step 5, R45). -/
def State.differsFollows (s : State) (n : Station) (st : Presence) : State :=
  s.mapRosterEntry n (fun e => { e with differs := e.differs && st != .absent })

/-- A status change of station `n`, handed on in the order of R44. -/
def State.statusChange (s : State) (n : Station) (st : Presence) : State :=
  if s.statusOf n = st then s else
    (((((s.mapRosterEntry n ({ · with status := st })).post (.station n st)).quorumCheck).targetsFollow n st).openPulls).differsFollows
      n st

/-- Clear the roster: every other entry ABSENT with its timer stopped and members-differ seen no, and the census front
list empty; nothing is posted (R46). -/
def State.clearRoster (s : State) : State :=
  s.mapRoster ({ · with entries := Vector.replicate 16 RosterEntry.cleared, front := [] })

/-- The status that a frame sets at its handing on: by the mode of a beacon, else PRESENT; a LEAVING beacon acts at frame
end (R42, R43). -/
def framePresence : Frame → Option Presence
  | .beacon b =>
    match b.mode with
    | .leaving => none
    | .dozing => some .dozing
    | .joining | .active | .isolated => some .present
  | .claim _ | .pull _ | .update _ | .image _ => some .present

/-- The sender's status follows its frame (R42, R43). -/
def State.followFrame (s : State) (f : Frame) : State :=
  match framePresence f with
  | some st => s.statusChange f.origin st
  | none => s

/-- The member-set check of a beacon (R45). -/
def State.checkMembers (s : State) (f : Frame) : State :=
  match f with
  | .beacon b =>
    if b.members != s.ctl.members && !s.roster.entries[b.origin].differs then
      (s.post (.membersDiffer b.origin)).mapRosterEntry b.origin ({ · with differs := true })
    else s
  | .claim _ | .pull _ | .update _ | .image _ => s

/-- What the Roster Unit does with an intact frame from a member: the silence timer starts again, the status follows the
kind and mode, and a beacon's member set is checked (R41, R42, R43, R45). -/
def State.rosterHandoff (s : State) (f : Frame) : State :=
  ((s.mapRosterEntry f.origin ({ · with timer := some 0 })).followFrame f).checkMembers f

/-! ### Owner learning (R10) -/

/-- Whether a frame from `o` under epoch `e` is learned for `r` as a change of the owner fields (R10). -/
def State.learns (s : State) (r : Region) (e : Epoch) : Bool :=
  match s.table[r].owner with
  | none => true
  | some w => s.statusOf w.station == .absent || decide (w.epoch.toNat < e.toNat)

/-- Owner learning with sender `o` and epoch `e` (R10): the owner fields after it. It is applied where the station is not
itself the recorded owner. -/
def State.learnOwner (s : State) (r : Region) (o : Station) (e : Epoch) : State :=
  if s.learns r e then s.changeOwner r (some ⟨o, e⟩) else s

/-- The recorded owner of `r` is `o`. -/
def State.ownedBy (s : State) (r : Region) (o : Station) : Bool := s.table[r].owner.any (fun w => w.station == o)

/-! ### Conflict resolution (R106 to R108) -/

/-- Whether this station wins region `r` against `o` at `stamp` (R106). -/
def State.winsConflict (s : State) (r : Region) (o : Station) (stamp : Stamp) : Bool :=
  stampLower stamp s.table[r].stamp || (stamp == s.table[r].stamp && decide (s.own.val < o.val))

/-- Region `r` joins the census front list, unless it is listed or the list is full (R52). -/
def State.addFront (s : State) (r : Region) : State :=
  s.mapRoster fun t =>
    { t with front := if t.front.contains r || decide (Config.censusLimit ≤ t.front.length) then t.front else t.front ++ [r] }

/-- The loser of conflict resolution gives the region up in the order of R108. -/
def State.loseConflict (s : State) (r : Region) (o : Station) (stamp : Stamp) : State :=
  ((((s.changeOwner r (some ⟨o, stamp.epoch⟩)).discardEntries (fun e => e.region == r) false).dropHeld r).markStale r
    .damaged).post (.ownershipLost r true)

/-- Conflict resolution of an owned region against `o` at `stamp` (R106): the winner adds the region to its census front
list (R107), the loser gives it up (R108). -/
def State.resolveConflict (s : State) (r : Region) (o : Station) (stamp : Stamp) : State :=
  if s.winsConflict r o stamp then s.addFront r else s.loseConflict r o stamp

/-! ### The claim decision (R95 to R98) -/

/-- Whether a claim by `c` with this ack map is effective at the station (R95). -/
def State.claimEffective (s : State) (c : Station) (ack : StationMap) : Bool :=
  (List.finRange 16).all (fun n => !((s.counted n || n == s.own) && n != c) || inMap ack n)
    && decide (s.quorum ≤ (List.finRange 16).countP (fun n => inMap ack n && s.isMember n) + 1)

/-- The copy at an effective claim: raised in epoch where it stands at the claim stamp, else marked STALE (R96 step 1). -/
def State.claimCopy (s : State) (r : Region) (stamp : Stamp) : State :=
  if s.table[r].stamp = stamp then s.mapEntry r ({ · with stamp := nextEpoch stamp }) else s.markStale r .behind

/-- The former owner's part of an effective claim beyond the change of owner (R98). -/
def State.yielded (s : State) (r : Region) (former : Bool) : State :=
  if former then (s.dropHeld r).post (.ownershipLost r false) else s

/-- The owner at an effective claim: a change of owner is handed on, and an open pull of the region is closed also where the
claimant was the recorded owner already (R96 step 2). -/
def State.claimOwner (s : State) (c : Station) (r : Region) (stamp : Stamp) : State :=
  (s.changeOwner r (some ⟨c, (nextEpoch stamp).epoch⟩)).closePull r false

/-- The changes of an effective claim by `c` for `r` at `stamp`: copy stamp, owner, and the former owner's part (R96,
R98). -/
def State.applyClaim (s : State) (c : Station) (r : Region) (stamp : Stamp) : State :=
  ((s.claimCopy r stamp).claimOwner c r stamp).yielded r (s.owns r && c != s.own)

/-! ### Stale regions, wake, halt, the end of LEAVING -/

/-- The STALE regions in ascending order. -/
def State.staleRegions (s : State) : List Region :=
  (List.finRange 64).filter (fun r => match s.table[r].copy with | .stale _ => true | _ => false)

/-- Post REGION_STALE for several regions in order (R162). -/
def State.postStales (s : State) (rs : List Region) : State := rs.foldl State.postStale s

/-- The state that the quorum count gives a station that joins or wakes (R57). -/
def State.quorumState (s : State) : StationState := if s.quorum ≤ s.quorumCount then .active else .isolated

/-- The STALE regions that a wake adds to the catch-up list (R162 step 2). -/
def State.unlisted (s : State) : List Region := s.staleRegions.filter (fun r => !s.catchup.list.contains r)

/-- The sweep after a wake or a JOIN into `st`: RUNNING in ACTIVE (R162 step 3). -/
def Sweep.wakeInto (w : Sweep) (st : StationState) : Sweep := if st = .active then w.resume else w

/-- ISOLATION(entered) where the station entered ISOLATED (R57). -/
def State.postIsolation (s : State) : State := if s.ctl.state = .isolated then s.post (.isolation true) else s

/-- A wake, for either cause, in the order of R162. -/
def State.wakeUp (s : State) (coincidence : Option Region) : State :=
  (((((s.setState s.quorumState).mapCatchup
    (fun u => { u with list := u.list ++ s.unlisted, parked := 0 })).setSweep
      (s.out.sweep.wakeInto s.quorumState)).post (.woken coincidence)).postIsolation.postStales s.unlisted).sweepWalk

/-- Vote pending is cleared at the end of a CLAIM for which it may have been set (R15). -/
def State.endVote (s : State) (r : Region) : State := s.mapEntry r ({ · with votePending := false })

/-- A frame under way is abandoned at this station: vote pending set for it is cleared (R21, R35). -/
def State.dropFrame (s : State) : State :=
  match s.line.rx with
  | some ⟨.claim c, _, true⟩ => (s.mapLine ({ · with rx := none })).endVote c.region
  | _ => s.mapLine ({ · with rx := none })

/-- Receiver and transmitter are switched off: the frame under way is abandoned, the transmit slot is empty, and the
stranger timers stop (R22, R31). -/
def State.lineOff (s : State) : State :=
  s.dropFrame.mapLine ({ · with slot := none, syncing := false, strangers := Vector.replicate 16 none })

/-- A station that owned a region cleared at the halt owns it no more (R167 step 5). -/
def State.disown (s : State) (r : Region) : State := if s.owns r then s.changeOwner r none else s

/-- A region that had an Apply Queue entry cleared at the halt: STALE DAMAGED, and no longer owned (R141, R167 step 5). -/
def State.haltRegion (s : State) (r : Region) : State := (s.mapEntry r ({ · with copy := .stale .damaged })).disown r

/-- Clear the Apply Queue but for a write in progress, marking each region that had a cleared entry STALE DAMAGED; one
that the station owns becomes UNKNOWN (R141, R167 step 5). -/
def State.haltApply (s : State) : State :=
  (s.applyCleared.map (·.region)).foldl State.haltRegion (s.setApplyQ s.applyInProgress)

/-- The timers of the Station Controller stop and no beacon is due (R167 step 2). -/
def State.stopTimers (s : State) : State :=
  s.mapCtl ({ · with beaconTimer := none, beaconDue := false, listenTimer := none, leaveTimer := none })

/-- The Outbox is cleared with its fence, host claim and sweep (R167 step 3). -/
def State.clearOutbox (s : State) : State :=
  s.mapOut fun o => ⟨[], none, none, none, { o.sweep with phase := .inactive, outstanding := none }⟩

/-- Entry to HALTED, in the order of R167. -/
def State.halt (s : State) (c : HaltCause) : State :=
  ((((s.setState .halted).lineOff.stopTimers.clearOutbox.closeAllPulls.setCatchup
    ⟨[], 0, []⟩).endAllServing.haltApply).clearRoster).post (.halted c)

/-- Every owner field UNKNOWN, the working flags cleared, held and the copies kept (R166 step 3). -/
def State.forgetOwners (s : State) : State :=
  s.setTable (Vector.ofFn fun r : Region => { s.table[r].clearFlags with owner := none })

/-- The return to OFFLINE at the end of phase FINAL, in the order of R166. -/
def State.goOffline (s : State) : State :=
  ((((s.setState .offline).lineOff.mapCtl
    ({ · with leaveTimer := none, leavePhase := .drain, beaconDue := false })).clearRoster).forgetOwners).post
      (.left s.ctl.discarded)

/-- The drain ends when the last entry has left the Outbox: phase FINAL, the LEAVING beacon falls due and the leave timer
starts again (R164, R166). -/
def State.drainEnd (s : State) : State :=
  if s.ctl.state = .leaving ∧ s.ctl.leavePhase = .drain ∧ s.out.entries = [] then
    s.mapCtl ({ · with leavePhase := .final, beaconDue := true, leaveTimer := some 0 })
  else s

/-- Phase FINAL ends once the leave timer has expired and no attempt is under way (R166). -/
def State.finalEnd (s : State) : State :=
  if s.ctl.state = .leaving ∧ s.ctl.leavePhase = .final ∧ s.ctl.leaveTimer = none ∧ s.line.slot = none then s.goOffline
  else s

end Sys2Proof.Machine
end

