-- ==== Sys2Proof/Machine/Arbiter.lean ====
section
/-! DEFINITION. The array arbiter (R135 to R137) and what follows every command: the pulls that may open, the reads that
the Image Server requests, and the grant of a free array. -/

namespace Sys2Proof.Machine

/-- The Host Port waits for the arbiter: a READ piece, the array write of a WRITE or a FORMAT step, not held back by an
Apply Queue entry for its region taken before it (R135, R136). -/
def State.hostWaits (s : State) : Bool :=
  match s.port.state with
  | .working (.read w) => !s.queuedBefore w.region w.before
  | .working (.write w) => !s.queuedBefore w.region w.before
  | .working (.format _ _) => true
  | _ => false

/-- The head of the Apply Queue is held back by a READ of its region taken before it (R139). -/
def State.headHeld (s : State) (e : ApplyEntry) : Bool :=
  match s.port.state with
  | .working (.read w) => w.region == e.region && decide (w.before ≤ e.seq)
  | _ => false

/-- The head of the Apply Queue waits for the arbiter (R136). -/
def State.headWaits (s : State) : Bool :=
  match s.applyQ with
  | e :: _ => !s.headHeld e
  | [] => false

/-- The order mark of a serving record's read that waits for the arbiter (R135, R136). -/
def State.readWaits (s : State) (v : ServingRecord) : Option Nat :=
  match v.read with
  | .requested _ order => if s.queuedBefore v.region order then none else some order
  | _ => none

/-- The older of two waiting reads. -/
def olderRead (s : State) (a : Option ServingRecord) (v : ServingRecord) : Option ServingRecord :=
  match s.readWaits v, a with
  | none, _ => a
  | some _, none => some v
  | some n, some w => if n < (s.readWaits w).getD 0 then some v else some w

/-- The older waiting Image Server read (R136). -/
def State.waitingRead (s : State) : Option ServingRecord := s.serving.foldl (olderRead s) none

/-- What the arbiter can grant (R136). -/
inductive Grant
  | none | host | head | image (v : ServingRecord)
deriving DecidableEq, Repr

/-- The first line of R136's table that applies. -/
def State.choice (s : State) : Grant :=
  match s.waitingRead with
  | some v =>
    if s.arb.imageWait = Config.arbiterLimit then .image v
    else if s.headWaits && (!s.hostWaits || s.arb.hostStreak == Config.arbiterLimit) then .head
    else if s.hostWaits then .host
    else .image v
  | none =>
    if s.headWaits && (!s.hostWaits || s.arb.hostStreak == Config.arbiterLimit) then .head
    else if s.hostWaits then .host
    else .none

/-- A count that rises by 1 up to 4. -/
def bump (n : Nat) : Nat := min (n + 1) Config.arbiterLimit

/-- Put the intent record. -/
def State.setIntent (s : State) (i : Option Intent) : State := s.mapNv ({ · with intent := i })

/-- The operation that a grant to the Host Port begins, with the intent record it sets: none for a READ piece, and no
operation for a SETUP, whose record is not in the array (R134, R142, R143). -/
def hostGrant (current : Option Intent) : Work → Option (ArrayOp × Option Intent)
  | .read _ => some (.readPiece, current)
  | .write w => some (.hostWrite, some ⟨.write, w.region⟩)
  | .format r _ => some (.formatStep, some ⟨.format, r⟩)
  | .setup _ _ => none

/-- The kind of the intent record for an Apply Queue entry (R141). -/
def ApplyBody.intent : ApplyBody → IntentKind
  | .update _ _ => .apply
  | .chunk _ _ _ _ => .chunk

/-- The grant to the Host Port, with the counts of R137 and the intent record. -/
def State.grantHost (s : State) : State :=
  match s.port.state with
  | .working w =>
    match hostGrant s.nv.intent w with
    | some (op, intent) =>
      (s.setArb ⟨some op, if s.headWaits then bump s.arb.hostStreak else 0,
        if s.waitingRead.isSome then bump s.arb.imageWait else 0⟩).setIntent intent
    | none => s
  | _ => s

/-- The grant to the Apply Queue head, with the counts of R137 and the intent record (R141). -/
def State.grantHead (s : State) : State :=
  match s.applyQ with
  | e :: _ =>
    (s.setArb ⟨some .apply, 0, if s.waitingRead.isSome then bump s.arb.imageWait else 0⟩).setIntent
      (some ⟨e.body.intent, e.region⟩)
  | [] => s

/-- The grant to the Image Server: the read goes in progress at the owner's stamp of that moment (R123, R137). -/
def State.grantImage (s : State) (v : ServingRecord) : State :=
  match v.read with
  | .requested k _ =>
    (s.setArb ⟨some (.chunkRead v.region k s.table[v.region].stamp true), if s.headWaits then s.arb.hostStreak else 0,
      0⟩).putServing { v with read := .inProgress }
  | _ => s

/-- The arbiter makes a grant whenever the array is not busy and some requester waits (R136). -/
def State.arbitrate (s : State) : State :=
  if s.arb.op.isSome then s else
    match s.choice with
    | .none => s
    | .host => s.grantHost
    | .head => s.grantHead
    | .image v => s.grantImage v

/-- What follows at once where an array operation, a pull or a serving record may have gone on: pulls open, chunk reads are
requested, and the arbiter grants a free array (R113, R123, R136). -/
def State.resume (s : State) : State := s.openPulls.requestReads.arbitrate

/-- What follows at once where Outbox entries may have left: the drain ends where its condition holds, and the rest goes
on. -/
def State.settle (s : State) : State := s.drainEnd.resume

/-- What follows at once where an attempt of this station has ended, or the leave timer has expired in phase FINAL: the drain
and phase FINAL end where their conditions hold, and the rest goes on. -/
def State.afterAttempt (s : State) : State := s.drainEnd.finalEnd.resume

/-- A command that acts while the part runs. Without power, in reset, and while RESET# waits for an array operation, the
port, the line and the timers do nothing (R147, R193, log 12). -/
def State.whenOn (s : State) (f : State → State) : State := if s.power = .on then f s else s

end Sys2Proof.Machine
end

