-- ==== Sys2Proof/Machine/HostPort.lean ====
section
/-! DEFINITION. Family HOST PORT: the transactions that are no command of Table 11-8 (R170 to R177). -/

namespace Sys2Proof.Machine

/-- Set the refused flag: a put refused by the port (R173). -/
def State.refusePut (s : State) : State := s.mapPort ({ · with refused := true })

/-- A transaction that does not drive serial data out: a put, one whose selector is none of the three, or one that a part
without power or in reset ignores. CS# is high after it (R170, R193, R199). -/
def State.undriven (s : State) : State := s.mapPort ({ · with sdo := [], cs := .high })

/-- A complete put: dealt with by `f` in IDLE, refused by the port in WORKING and ANSWER (R172, R173). -/
def State.onPut (s : State) (f : State → State) : State :=
  s.undriven.whenOn fun s =>
    match s.port.state with
    | .idle => f s
    | .working _ | .answer _ => s.refusePut

/-- PUT_REFUSED_BY_PORT (R173): the block is not examined; in IDLE a put is not refused by the port (log 11). -/
def execPutRefusedByPort (s : State) : Host.Outcome State Fault Refusal := .next (s.onPut id)

/-- INCOMPLETE_PUT (R174): no effect in any port state; serial data out was not driven. -/
def execIncompletePut (s : State) : Host.Outcome State Fault Refusal := .next s.undriven

/-- UNKNOWN_COMMAND_CODE (R174): refused BAD_ARGUMENT, the answer naming the code as received. -/
def execUnknownCommandCode (code : Byte) (s : State) : Host.Outcome State Fault Refusal :=
  .next (if knownCode code then s else s.onPut fun s => s.answer code .badArgument [code])

/-- UNKNOWN_SELECTOR (R170): the transaction is ignored to its end, and serial data out is not driven. -/
def execUnknownSelector (_selector : Byte) (s : State) : Host.Outcome State Fault Refusal := .next s.undriven

/-! ### TAKE (R175) -/

/-- A take of `bits` bits: in ANSWER the block is clocked out, and released once its final byte is out whole; in IDLE and WORKING
the NONE block is clocked out (R175). Serial data out is driven until CS# rises, in a byte that is cut short too (R199). -/
def State.takeBits (s : State) (bits : Nat) : State :=
  match s.port.state with
  | .answer a =>
    s.mapPort ({ · with
      state := if 8 * a.block.length ≤ bits then .idle else .answer a
      sdo := clockedOut a.block bits
      cs := .high })
  | .idle | .working _ => s.mapPort ({ · with sdo := clockedOut noneBlock bits, cs := .high })

/-- TAKE (R175, R177). -/
def execTake (bits : Nat) (s : State) : Host.Outcome State Fault Refusal :=
  .next (if s.power = .on then s.takeBits bits else s.undriven)

/-! ### POLL (R176) -/

/-- The poll byte of which the next bit is driven: taken afresh at its first bit, with `now` the byte of that moment (R176). -/
def Port.byteNow (p : Port) (now : Byte) : Byte :=
  match p.cs with
  | .polling b => if p.sdo.length % 8 = 0 then now else b
  | .high | .ignored => now

/-- One more bit of `b` is clocked out, most significant first; the refused flag is cleared with the last bit of a byte that shows
it set (R176, R195). -/
def Port.clockBit (p : Port) (b : Byte) : Port :=
  { p with
    sdo := p.sdo ++ [b.getLsbD (7 - p.sdo.length % 8)]
    cs := .polling b
    refused := p.refused && !(p.sdo.length % 8 == 7 && b.getLsbD 4) }

/-- One bit of a poll is clocked out (R176). -/
def State.pollBit (s : State) : State := s.mapPort fun p => p.clockBit (p.byteNow s.pollByte)

/-- Several bits of a poll are clocked out, between which nothing else comes about. -/
def State.pollBits : Nat → State → State
  | 0, s => s
  | n + 1, s => State.pollBits n s.pollBit

/-- The poll that this run is of: the one under way where the host has held CS# low, and else a new one (log 36). -/
def Port.beginPoll (p : Port) (now : Byte) : Port :=
  match p.cs with
  | .polling _ => p
  | .high | .ignored => { p with sdo := [], cs := .polling now }

/-- The end of a run: the host holds CS# low, or it rises. -/
def Port.endRun (p : Port) (held : Bool) : Port := if held then p else { p with cs := .high }

/-- A run of a poll that the port ignores: nothing is driven in it, and no flag cleared (R193). -/
def Port.ignoreRun (p : Port) (held : Bool) : Port :=
  { p with sdo := if p.cs = .high then [] else p.sdo, cs := if held then .ignored else .high }

/-- A run of a poll, in a part that runs: ignored while CS# has not been seen high since a reset (R193). -/
def State.pollRun (s : State) (run : PollRun) : State :=
  if s.port.cs = .ignored then s.mapPort (·.ignoreRun run.held)
  else ((s.mapPort (·.beginPoll s.pollByte)).pollBits run.bits).mapPort (·.endRun run.held)

/-- POLL (R176, R193). -/
def execPoll (run : PollRun) (s : State) : Host.Outcome State Fault Refusal :=
  .next (if s.power = .on then s.pollRun run else s.mapPort (·.ignoreRun run.held))

end Sys2Proof.Machine
end

