-- ==== Sys2Proof/Machine/HostCommands.lean ====
section
/-! DEFINITION. Family HOST COMMANDS: the seventeen commands of Table 9-3, each with its check order; the first check that
fails gives the answer (R172). -/

namespace Sys2Proof.Machine

/-! ### READ and WRITE -/

/-- READ after its argument step: a FETCHING copy is NOT_READY; else the READ records stamp, copy state and cause and is
WORKING (R138). -/
def State.startRead (s : State) (r : Region) (offset length : Nat) : State :=
  match s.table[r].copy with
  | .fetching _ => s.answer 0x01 .notReady []
  | c => (s.work (.read ⟨r, s.table[r].stamp, c, offset, length, [], s.serial⟩)).arbitrate

/-- READ (R138). -/
def execRead (region : Byte) (offset length : BitVec 16) (s : State) : Host.Outcome State Fault Refusal :=
  .next (s.onPut fun s =>
    match readArgs region offset length with
    | none => s.answer 0x01 .badArgument []
    | some r => s.startRead r offset.toNat length.toNat)

/-- The answer of a command that only ACTIVE may run: ISOLATED in ISOLATED, else WRONG_STATE (Table 8-2). -/
def StationState.activeOnly : StationState → Option ResultCode
  | .active => none
  | .isolated => some .isolated
  | .offline | .listening | .dozing | .leaving | .halted => some .wrongState

/-- The check order of WRITE after its argument step (Table 4-1 steps 2 to 7). -/
def State.writeRefusal (s : State) (r : Region) (offset length : Nat) (guardPin : Bool) : Option ResultCode :=
  match s.ctl.state.activeOnly with
  | some c => some c
  | none =>
    if !s.owns r || s.table[r].votePending then some .notOwner
    else if s.protectedNow r guardPin then some .guarded
    else if s.table[r].writeHold then some .held
    else if s.table[r].stamp.version = Config.versionCeiling then some .exhausted
    else if s.out.updateCount < Config.updateLimit || s.out.candidate r offset length then none
    else some .full

/-- The room a taken WRITE takes: a reserved slot below ten UPDATE entries, else the hold on its candidate (R61). -/
def State.takeRoom (s : State) (r : Region) : State :=
  if s.out.updateCount < Config.updateLimit then s.mapOut ({ · with reserved := some r })
  else s.mapOut fun o => { o with entries := mapYoungest r (fun u => { u with held := true }) o.entries }

/-- WRITE (R60 to R62). -/
def execWrite (region : Byte) (offset length : BitVec 16) (data : List Byte) (guardPin : Bool) (s : State) :
    Host.Outcome State Fault Refusal :=
  .next (s.onPut fun s =>
    match writeArgs region offset length data with
    | none => s.answer 0x02 .badArgument []
    | some r =>
      match s.writeRefusal r offset.toNat length.toNat guardPin with
      | some c => s.answer 0x02 c []
      | none => ((s.takeRoom r).work (.write ⟨r, offset.toNat, data, s.serial⟩)).arbitrate)

/-! ### CLAIM, RELEASE, KEEP -/

/-- The check order of CLAIM after steps 1 to 3 (Table 5-1 steps 4 to 7). -/
def State.claimRefusal (s : State) (r : Region) (guardPin : Bool) : Option ResultCode :=
  if s.table[r].copy ≠ .current then some .notCurrent
  else if s.protectedNow r guardPin then some .guarded
  else if s.table[r].stamp.epoch = Config.epochCeiling then some .exhausted
  else if s.out.hostClaim.isSome || s.out.entries.any (fun e => e.isSweep && e.region == r) then some .busy
  else none

/-- CLAIM after its argument step (R87). -/
def State.startClaim (s : State) (r : Region) (guardPin : Bool) : State :=
  match s.ctl.state.activeOnly with
  | some c => s.answer 0x03 c []
  | none =>
    if s.owns r then s.answer 0x03 .done (stampBytes s.table[r].stamp)
    else
      match s.claimRefusal r guardPin with
      | some c => s.answer 0x03 c []
      | none => ((s.appendEntry r (.claim .host)).mapOut ({ · with hostClaim := some r })).answer 0x03 .accepted []

/-- CLAIM (R87). -/
def execClaim (region : Byte) (guardPin : Bool) (s : State) : Host.Outcome State Fault Refusal :=
  .next (s.onPut fun s =>
    match regionOfByte region with
    | none => s.answer 0x03 .badArgument []
    | some r => s.startClaim r guardPin)

/-- Set or clear yield-ready and answer DONE (R102). -/
def State.setYield (s : State) (code : Byte) (r : Region) (yes : Bool) : State :=
  (s.mapEntry r ({ · with yieldReady := yes })).answer code .done []

/-- RELEASE (R102). -/
def execRelease (region : Byte) (guardPin : Bool) (s : State) : Host.Outcome State Fault Refusal :=
  .next (s.onPut fun s =>
    match regionOfByte region with
    | none => s.answer 0x04 .badArgument []
    | some r =>
      if !s.ctl.state.onLine then s.answer 0x04 .wrongState []
      else if !s.owns r then s.answer 0x04 .notOwner []
      else if s.protectedNow r guardPin then s.answer 0x04 .guarded []
      else s.setYield 0x04 r true)

/-- KEEP (R102). -/
def execKeep (region : Byte) (s : State) : Host.Outcome State Fault Refusal :=
  .next (s.onPut fun s =>
    match regionOfByte region with
    | none => s.answer 0x05 .badArgument []
    | some r =>
      if !s.ctl.state.onLine then s.answer 0x05 .wrongState []
      else if !s.owns r then s.answer 0x05 .notOwner []
      else s.setYield 0x05 r false)

/-! ### FENCE -/

/-- Open the fence: every UPDATE entry is sealed and in-fence (R83). -/
def State.openFence (s : State) : State :=
  s.mapOut fun o => { o with
    fence := some ⟨0, 0⟩
    entries := o.entries.map (OutEntry.mapUpdate fun u => { u with sealed := true, inFence := true }) }

/-- FENCE (R82 to R84): a fence over no UPDATE entry completes right after its answer. -/
def execFence (s : State) : Host.Outcome State Fault Refusal :=
  .next (s.onPut fun s =>
    if !s.ctl.state.onLine then s.answer 0x06 .wrongState []
    else if s.out.fence.isSome then s.answer 0x06 .busy []
    else (s.openFence.answer 0x06 .accepted []).checkFence)

/-! ### Reporting commands -/

/-- REGION (R178). -/
def execRegion (region : Byte) (guardPin : Bool) (s : State) : Host.Outcome State Fault Refusal :=
  .next (s.onPut fun s =>
    match regionOfByte region with
    | none => s.answer 0x07 .badArgument []
    | some r => s.answer 0x07 .done (s.regionData r guardPin))

/-- ROSTER (R179). -/
def execRoster (s : State) : Host.Outcome State Fault Refusal := .next (s.onPut fun s => s.answer 0x08 .done s.rosterData)

/-- STATUS (R180). -/
def execStatus (guardPin : Bool) (s : State) : Host.Outcome State Fault Refusal :=
  .next (s.onPut fun s => s.answer 0x09 .done (s.statusData guardPin))

/-- EVENT (R181): the oldest record leaves the queue at the taking. -/
def execEvent (s : State) : Host.Outcome State Fault Refusal :=
  .next (s.onPut fun s =>
    match s.events with
    | [] => s.answer 0x0A .none []
    | e :: rest => (s.setEvents rest).answer 0x0A .done (countByte rest.length :: e.record))

/-- IDENT (R182). -/
def execIdent (s : State) : Host.Outcome State Fault Refusal := .next (s.onPut fun s => s.answer 0x11 .done s.identData)

/-! ### SETUP, FORMAT -/

/-- SETUP (R153). -/
def execSetup (members : StationMap) (guardSet : RegionMap) (guardPin : Bool) (s : State) :
    Host.Outcome State Fault Refusal :=
  .next (s.onPut fun s =>
    if s.ctl.state ≠ .offline then s.answer 0x0B .wrongState []
    else if !inMap members s.own then s.answer 0x0B .badArgument []
    else if guardPin then s.answer 0x0B .guarded []
    else s.work (.setup members guardSet))

/-- FORMAT clears every Apply Queue entry not being written (R143 step 1). What a cleared entry held never reaches the array, so
its region stays retained as with the entry (R8, log 35). -/
def State.formatClear (s : State) : State :=
  (s.setApplyQ s.applyInProgress).setUnsaved
    (mapOf fun r : Region => inMap s.unsaved r || s.applyCleared.any (fun e => e.region == r))

/-- The intent record is set for a FORMAT at its taking, but after an apply in progress is complete (R143 step 2, log 27). -/
def State.formatIntent (s : State) : State :=
  if s.arb.op = some .apply then s else s.setIntent (some ⟨.format, 0⟩)

/-- FORMAT (R154, R143). -/
def execFormat (guardPin : Bool) (s : State) : Host.Outcome State Fault Refusal :=
  .next (s.onPut fun s =>
    if s.ctl.state ≠ .offline then s.answer 0x0C .wrongState []
    else if guardPin && s.ctl.guardSet != 0 then s.answer 0x0C .guarded []
    else (s.formatClear.formatIntent.work (.format 0 0)).arbitrate)

/-! ### JOIN, LEAVE, DOZE, WAKE -/

/-- The changes of a JOIN that is taken, in the order of R155. -/
def State.startListening (s : State) : State :=
  (((s.mapCtl ({ · with duplicateHeard := false, state := .listening, listenTimer := some 0 })).clearRoster).mapRoster
    ({ · with cursor := none, lastAck := 0 })).mapLine ({ · with syncing := true, faults := 0 })

/-- JOIN (R155). -/
def execJoin (s : State) : Host.Outcome State Fault Refusal :=
  .next (s.onPut fun s =>
    if s.ctl.state ≠ .offline then s.answer 0x0D .wrongState []
    else s.startListening.answer 0x0D .accepted [])

/-- The changes of a LEAVE that is taken, in the order of R163. -/
def State.startLeaving (s : State) : State :=
  (((((s.mapCtl ({ · with
      state := .leaving, leavePhase := .drain, beaconTimer := none, beaconDue := false, discarded := 0 })).setSweep
    { s.out.sweep with phase := .inactive }).endAllServing.closeAllPulls).mapCatchup
      ({ · with list := [], parked := 0 })).mapCtl ({ · with leaveTimer := some 0 }))

/-- LEAVE (R163). -/
def execLeave (s : State) : Host.Outcome State Fault Refusal :=
  .next (s.onPut fun s =>
    match s.ctl.state with
    | .active | .isolated | .dozing => (s.startLeaving.answer 0x0E .accepted []).drainEnd
    | .offline | .listening | .leaving | .halted => s.answer 0x0E .wrongState [])

/-- The work that forbids a DOZE (R159 step 2). -/
def State.dozeBusy (s : State) : Bool :=
  s.out.entries.any (fun e => e.isUpdate || e.isImage) || s.out.fence.isSome || !s.catchup.pulls.isEmpty
    || !s.serving.isEmpty

/-- DOZE (R159). -/
def execDoze (s : State) : Host.Outcome State Fault Refusal :=
  .next (s.onPut fun s =>
    if s.ctl.state ≠ .active then s.answer 0x0F .wrongState []
    else if s.dozeBusy then s.answer 0x0F .busy []
    else ((s.setState .dozing).setSweep s.out.sweep.pause).answer 0x0F .done [])

/-- WAKE (R161). -/
def execWake (s : State) : Host.Outcome State Fault Refusal :=
  .next (s.onPut fun s =>
    match s.ctl.state with
    | .dozing => ((s.wakeUp none).answer 0x10 .done []).openPulls
    | .active | .isolated => s.answer 0x10 .done []
    | .offline | .listening | .leaving | .halted => s.answer 0x10 .wrongState [])

end Sys2Proof.Machine
end

