-- ==== Sys2Proof/Machine/Recovery.lean ====
section
/-! DEFINITION. What both resets share: the clearing of the working state, the recovery from the retained state (R144 to
R147), and the end of an array operation, at which a waiting pin reset takes effect. -/

namespace Sys2Proof.Machine

/-- The working entries that the retained regions come up with (R146 step 1). -/
def Retained.table (nv : Retained) : Vector RegionEntry 64 := Vector.ofFn fun r : Region => nv.regions[r].working

/-- The working state of every block cleared, with the retained state, the sampled straps and the member and guard sets kept
(R147). The working entries show the retained fields. -/
def State.clearWorking (s : State) (p : Power) : State :=
  { State.reset with
    power := p
    nv := s.nv
    port := s.port.cleared
    events := []
    table := s.nv.table
    ctl := { State.reset.ctl with
      number := s.ctl.number, rate := s.ctl.rate, members := s.ctl.members, guardSet := s.ctl.guardSet }
    free := s.free
    pending := s.pending }

/-- Whether recovery marks region `r` DAMAGED from the intent record (R146 step 3). -/
def intentMarks (i : Option Intent) (r : Region) : Bool :=
  match i with
  | none => false
  | some ⟨.format, f⟩ => decide (f.val ≤ r.val)
  | some ⟨.write, f⟩ => f == r
  | some ⟨.apply, f⟩ => f == r
  | some ⟨.chunk, f⟩ => f == r

/-- The damaged map of RESET_DONE (R146 step 5). -/
def Retained.damaged (nv : Retained) : RegionMap :=
  mapOf fun r : Region => intentMarks nv.intent r || nv.regions[r].inFlight

/-- The retained state after recovery: the marks of the intent record made, the record cleared, the in-flight marks set to
no (R146 steps 3 to 5). -/
def Retained.recover (nv : Retained) : Retained :=
  { nv with
    regions := Vector.ofFn fun r : Region =>
      { nv.regions[r] with
        stale := if intentMarks nv.intent r then some .damaged else nv.regions[r].stale
        inFlight := false }
    intent := none }

/-- The working member set: the retained one with the own number, or {own number} where the record was never written
(R145). -/
def SetupRecord.membersOf (r : SetupRecord) (own : Station) : StationMap :=
  addBit (if r.written then r.members else 0) own

/-- The working guard set: empty where the record was never written (R18). -/
def SetupRecord.guardOf (r : SetupRecord) : RegionMap := if r.written then r.guardSet else 0

/-- The part comes up from its retained state (R146, R147, R188). -/
def State.recover (s : State) (c : ResetCause) (straps : Straps) : State :=
  { s.clearWorking .on with
    nv := s.nv.recover
    table := s.nv.recover.table
    ctl := { State.reset.ctl with
      number := straps.number
      rate := straps.rate
      members := s.nv.setup.membersOf straps.number
      guardSet := s.nv.setup.guardOf }
    events := [.resetDone c s.nv.damaged] }

/-- What follows the end of an array operation: a waiting pin reset takes effect, and the part comes up where RESET# has been
released meanwhile (R147); else the arbiter goes on. -/
def State.finishOp (s : State) : State :=
  match s.power with
  | .resetPending none => s.clearWorking .inReset
  | .resetPending (some straps) => (s.clearWorking .inReset).recover .pin straps
  | .on => s.resume
  | .inReset => s
  | .off => s

/-- The array is no longer busy. -/
def State.endOp (s : State) : State := s.setArb { s.arb with op := none }

/-- Write bytes of region `r` from offset `k` into the array. -/
def State.writeArray (s : State) (r : Region) (k : Nat) (data : List Byte) : State :=
  s.mapNv fun n => { n with array := memWriteBytes n.array (arrayAddr r k) data }

/-- The `n` array bytes of region `r` from offset `k`. -/
def State.readArray (s : State) (r : Region) (k n : Nat) : List Byte := memReadBytes s.nv.array (arrayAddr r k) n

/-- The offset at which a chunk begins (R1). -/
def chunkOffset (k : Chunk) : Nat := Config.chunkBytes * k.val

end Sys2Proof.Machine
end

