-- ==== Sys2Proof/Machine/ArrayEvents.lean ====
section
/-! DEFINITION. Family ARRAY EVENTS: the completions of the setup record write, of FORMAT steps, READ pieces, host WRITEs,
Apply Queue writes and image chunk reads. A completion of an operation that is not in progress does not arise and
changes nothing (log 11). -/

namespace Sys2Proof.Machine

/-- SETUP_RECORD_WRITTEN (R153): the record holds the new sets in one change, and the working state follows it at once. -/
def State.setupWritten (s : State) (members : StationMap) (guardSet : RegionMap) : State :=
  ((s.mapNv ({ · with setup := ⟨true, members, guardSet⟩ })).mapCtl
    ({ · with members := members, guardSet := guardSet })).answer 0x0B .done []

/-- SETUP_RECORD_WRITTEN (R153). -/
def execSetupRecordWritten (s : State) : Host.Outcome State Fault Refusal :=
  .next (s.whenOn fun s =>
    match s.port.state with
    | .working (.setup m g) => s.setupWritten m g
    | _ => s)

/-- Region `r` is zeroed: working and retained entry (0, 0), CURRENT, held no, and the intent record moves on (R143). -/
def State.formatRegionDone (s : State) (r : Region) : State :=
  ((s.setUnsaved (dropBit s.unsaved r)).mapEntry r ({ · with stamp := ⟨0, 0⟩, copy := .current, held := false })).setIntent
    (if r = 63 then none else some ⟨.format, r + 1⟩)

/-- The step after the one of chunk `k` of region `r`, or the answer DONE (R143). -/
def State.formatNext (s : State) (r : Region) (k : Chunk) : State :=
  if k = 15 then
    if r = 63 then (s.formatRegionDone r).answer 0x0C .done [] else (s.formatRegionDone r).work (.format (r + 1) 0)
  else s.work (.format r (k + 1))

/-- A FORMAT step of chunk `k` of region `r` completes (R143). -/
def State.formatStep (s : State) (r : Region) (k : Chunk) : State :=
  ((s.writeArray r (chunkOffset k) (List.replicate Config.chunkBytes 0)).endOp).formatNext r k

/-- FORMAT_STEP_DONE (R143). -/
def execFormatStepDone (s : State) : Host.Outcome State Fault Refusal :=
  match s.arb.op, s.port.state with
  | some .formatStep, .working (.format r k) => .next (s.formatStep r k).finishOp
  | _, _ => .next s

/-- A READ piece completes: the next one is presented, or DONE is placed with the recorded values (R139). -/
def State.readPiece (s : State) (w : ReadWork) : State :=
  let n := pieceLength w.pos w.left
  if w.left ≤ n then s.endOp.answer 0x01 .done (w.answerData (w.data ++ s.readArray w.region w.pos n))
  else
    s.endOp.work
      (.read { w with pos := w.pos + n, left := w.left - n, data := w.data ++ s.readArray w.region w.pos n })

/-- READ_PIECE_DONE (R139). -/
def execReadPieceDone (s : State) : Host.Outcome State Fault Refusal :=
  match s.arb.op, s.port.state with
  | some .readPiece, .working (.read w) =>
    if inRegion w.pos (pieceLength w.pos w.left) then .next (s.readPiece w).finishOp else .fault .arrayAddress
  | _, _ => .next s

/-- The Outbox after a completed WRITE of the owner: the candidate is coalesced, or an UPDATE entry is appended (R63, R68). -/
def Outbox.afterWrite (o : Outbox) (w : WriteWork) (epoch : Epoch) (base result : Version) : List OutEntry :=
  if o.candidate w.region w.offset w.data.length then
    mapYoungest w.region (fun u => { u with data := w.data, result := result }) o.entries
  else
    o.entries ++ [⟨w.region, .update ⟨w.offset, w.data, base, result, epoch, 0, false, false, false⟩, false, .none⟩]

/-- The Outbox takes a WRITE completed on an entry that stood as `e`; in HALTED no entry is made (R63). -/
def State.queueWrite (s : State) (w : WriteWork) (e : RegionEntry) : State :=
  if s.ctl.state = .halted then s
  else
    s.mapOut fun o =>
      { o with
        entries := o.afterWrite w (match e.owner with | some x => x.epoch | none => e.stamp.epoch) e.stamp.version
          (nextVersion e.stamp).version }

/-- The owner's part of a WRITE's completion: stamp, Outbox, serving record, answer (R63, R128). HALTED makes no entry. -/
def State.ownerWrote (s : State) (w : WriteWork) : State :=
  let new := nextVersion s.table[w.region].stamp
  (((((s.mapEntry w.region ({ · with stamp := new })).queueWrite w s.table[w.region]).releaseHold).restartServing
    w.region).setIntent none).answer 0x02 .done (stampBytes new)

/-- The completion of a host WRITE after its bytes are in the array (R63). -/
def State.concludeWrite (s : State) (w : WriteWork) : State :=
  if s.owns w.region then s.ownerWrote w else (s.releaseHold.setIntent none).answer 0x02 .notOwner []

/-- The array write of a host WRITE completes (R63). -/
def State.writeDone (s : State) (w : WriteWork) : State :=
  ((s.writeArray w.region w.offset w.data).endOp).concludeWrite w

/-- WRITE_ARRAY_DONE (R63). -/
def execWriteArrayDone (s : State) : Host.Outcome State Fault Refusal :=
  match s.arb.op, s.port.state with
  | some .hostWrite, .working (.write w) =>
    if inRegion w.offset w.data.length then .next (s.writeDone w).finishOp else .fault .arrayAddress
  | _, _ => .next s

/-- The offset and data that an Apply Queue entry writes (R141). -/
def ApplyBody.span : ApplyBody → Nat × List Byte
  | .update offset data => (offset, data)
  | .chunk k data _ _ => (chunkOffset k, data)

/-- A record whose PULL has not been answered: the answer timer starts from zero, unless all 16 chunks are collected (R116). -/
def PullRecord.awaitAnswer (p : PullRecord) : PullRecord :=
  { p with timer := if p.collected = allChunks then none else some 0 }

/-- Put a pull record in the place of the one of its region. -/
def State.putPull (s : State) (p : PullRecord) : State :=
  s.mapCatchup fun u => { u with pulls := u.pulls.map (fun q => if q.region = p.region then p else q) }

/-- A pull completes at the stamp it collected (R131). A collecting stamp below the copy stamp leaves the copy stamp, which
never decreases (R3, log 22). -/
def State.completePull (s : State) (p : PullRecord) (collecting : Stamp) : State :=
  (((s.mapEntry p.region fun e =>
    { e with stamp := if stampLower collecting e.stamp then e.stamp else collecting, copy := .current }).dropPull
      p.region).discardEntries (pullEntryOf p.region) false).post (.regionCurrent p.region)

/-- A CHUNK entry's write is handed to the Catch-up Unit: its index joins the written set of the record it names, where the
record is still open and collects that stamp (R131). -/
def State.chunkWritten (s : State) (k : Chunk) (stamp : Stamp) (pull : Nat) : State :=
  match s.catchup.pulls.find? (fun p => p.id == pull && p.collecting == some stamp) with
  | none => s
  | some p =>
    if addBit p.written k = allChunks then (s.putPull { p with written := addBit p.written k }).completePull p stamp
    else s.putPull { p with written := addBit p.written k }

/-- The bookkeeping of a chunk write that completes while a pin reset waits: made where the record is still open by R147, and not
made by R133. The manual does not say which of the two holds, and a free value decides (log 28). -/
def State.chunkWrittenInReset (s : State) (k : Chunk) (stamp : Stamp) (pull : Nat) : State :=
  (if Config.freeBit s.free then s.chunkWritten k stamp pull else s).setFree (s.free + 1)

/-- The Catch-up Unit's part of a completed apply: none for an UPDATE entry (R141 step 2, R133, R147). -/
def State.applied (s : State) (b : ApplyBody) : State :=
  match s.power, b with
  | .on, .chunk k _ stamp pull => s.chunkWritten k stamp pull
  | .resetPending _, .chunk k _ stamp pull => s.chunkWrittenInReset k stamp pull
  | _, _ => s

/-- The intent record after an apply: cleared (R141 step 4), and then set for a FORMAT that waited for the write (R143 step 2);
a pin reset that waits drops the FORMAT (R147). -/
def State.intentAfterApply (s : State) : Option Intent :=
  match s.power, s.port.state with
  | .on, .working (.format r _) => some ⟨.format, r⟩
  | _, _ => none

/-- The array write of the Apply Queue head completes, in the order of R141. -/
def State.applyDone (s : State) (e : ApplyEntry) (rest : List ApplyEntry) : State :=
  ((((((s.writeArray e.region e.body.span.1 e.body.span.2).endOp).setApplyQ rest).applied e.body).retain
    e.region).setIntent s.intentAfterApply)

/-- APPLY_WRITE_DONE (R141). -/
def execApplyWriteDone (s : State) : Host.Outcome State Fault Refusal :=
  match s.arb.op, s.applyQ with
  | some .apply, e :: rest =>
    if inRegion e.body.span.1 e.body.span.2.length then .next (s.applyDone e rest).finishOp else .fault .arrayAddress
  | _, _ => .next s

/-- The targets of a record that need chunk `k`. -/
def ServingRecord.needing (v : ServingRecord) (k : Chunk) : StationMap :=
  mapOf fun n : Station => v.targets.any (fun t => t.station == n && inMap t.needed k)

/-- An image chunk read completes: an IMAGE entry for the targets that still need the chunk, or none (R123). The data of a
read whose record has ended is discarded. That the next chunk index stays as it was where no entry is made is the model's choice
(DESIGN CHOICE, log 43). -/
def State.chunkRead (s : State) (r : Region) (k : Chunk) (stamp : Stamp) (live : Bool) : State :=
  match s.servingOf r with
  | some v =>
    if !live then s.endOp
    else if v.needing k = 0 then s.endOp.putServing { v with read := .none }
    else (s.endOp.putServing { v with read := .none, next := k + 1 }).appendEntry r
      (.image ⟨stamp, k, v.needing k, s.readArray r (chunkOffset k) Config.chunkBytes⟩)
  | none => s.endOp

/-- CHUNK_READ_DONE (R123). -/
def execChunkReadDone (s : State) : Host.Outcome State Fault Refusal :=
  match s.arb.op with
  | some (.chunkRead r k stamp live) => .next (s.chunkRead r k stamp live).finishOp
  | _ => .next s

end Sys2Proof.Machine
end

