-- ==== Sys2Proof/Machine/LineEvents.lean ====
section
/-! DEFINITION. Family LINE EVENTS: line idle and the offer of a frame (R23 to R26), lost arbitration (R28), line faults
(R36, R37), frames that are discarded (R29) or come from strangers (R31). -/

namespace Sys2Proof.Machine

/-! ### The beacon (R48 to R50) -/

/-- A region that the census may name: owned, and with no UPDATE in the Outbox (R50). -/
def State.announces (s : State) (r : Region) : Bool := s.owns r && !s.out.hasUpdate r

/-- The regions of the census walk, in order: after the cursor, wrapping, ending with the cursor region itself; with the
cursor at START, 0 to 63 (R50). -/
def walkOrder : Option Region → List Region
  | none => List.finRange 64
  | some c => (List.finRange 64).map (fun i => c + 1 + i)

/-- The regions of a beacon's census by pass: the census front list, then the walk (R50). -/
def State.censusPasses (s : State) : List Region × List Region :=
  let first := (s.roster.front.filter s.announces).take Config.censusLimit
  let walk := (walkOrder s.roster.cursor).filter (fun r => s.announces r && !first.contains r)
  (first, walk.take (Config.censusLimit - first.length))

/-- The mode of a beacon composed now (R48, R49). -/
def State.beaconMode (s : State) : BeaconMode :=
  match s.ctl.state with
  | .leaving => .leaving
  | .dozing => .dozing
  | .isolated => if s.ctl.joining then .joining else .isolated
  | .active | .offline | .listening | .halted => if s.ctl.joining then .joining else .active

/-- The two passes of a beacon composed now; the LEAVING beacon carries no census (R49, R50). -/
def State.beaconPasses (s : State) : List Region × List Region :=
  if s.beaconMode = .leaving then ([], []) else s.censusPasses

/-- The beacon as composed now, with the last region of its walk (R49, R51). -/
def State.composeBeacon (s : State) : TxSlot :=
  ⟨.beacon ⟨s.own, s.beaconMode, s.ctl.members,
      (s.beaconPasses.1 ++ s.beaconPasses.2).map (fun r => (⟨r, s.table[r].stamp⟩ : CensusEntry))⟩,
    s.beaconPasses.2.getLast?⟩

/-- The beacon is composed and its transmission starts (R49). -/
def State.sendBeacon (s : State) : State :=
  (s.mapLine ({ · with slot := some s.composeBeacon })).mapCtl ({ · with beaconDue := false })

/-! ### Outbox entries at their offer (R25, R70, R89, R115, R124) -/

/-- An entry that may be offered: WAITING and not held for a WRITE (R25, R61). -/
def OutEntry.offerable (e : OutEntry) : Bool := !e.sending && !e.heldBack

/-- The entry to offer: the lowest kind priority number, and among entries of that kind the oldest (R25). -/
def pickEntry (es : List OutEntry) : Option OutEntry :=
  [1, 2, 3, 4].findSome? (fun p => es.find? (fun e => e.offerable && e.priority == p))

/-- Why a CLAIM entry for `r` is withdrawn at its offer, or none where it is offered (R89). -/
def State.withdrawReason (s : State) (r : Region) : Option LostReason :=
  let e := s.table[r]
  let later := match e.owner with
    | some o => o.station != s.own && decide (e.stamp.epoch.toNat < o.epoch.toNat)
    | none => false
  if e.copy ≠ .current ∨ later = true then some .notCurrent
  else if e.stamp.epoch = Config.epochCeiling then some .exhausted
  else none

/-- Held is cleared where a sweep claim is lost (R105). -/
def State.unheldUnless (s : State) (won : Bool) (r : Region) : State := if won then s else s.dropHeld r

/-- The outcome of a CLAIM entry by its source: a host claim closes; a SWEEP entry is no longer outstanding, held is cleared
where the claim is lost, and the sweep moves past the region and walks on (R88, R105). -/
def State.claimOver (s : State) (r : Region) (source : ClaimSource) (won : Bool) : State :=
  match source with
  | .host => s.mapOut ({ · with hostClaim := none })
  | .sweep => ((s.unheldUnless won r).setSweep { s.out.sweep.pass r with outstanding := none }).sweepWalk

/-- A CLAIM entry is withdrawn at its offer (R89). -/
def State.withdraw (s : State) (e : OutEntry) (source : ClaimSource) (why : LostReason) : State :=
  ((s.mapOut fun o => { o with entries := o.entries.eraseP (fun x => x.offerable && x.priority == 1) }).post
    (.claimDone e.region 0 source (some why))).claimOver e.region source false

/-- The frame of an entry as it is composed at its offer (R70, R89, R115, R124). -/
def State.frameOf (s : State) (e : OutEntry) : Frame :=
  match e.body with
  | .update u => .update ⟨s.own, e.region, u.ownerEpoch, u.base, u.result, u.offset, u.data⟩
  | .claim _ => .claim ⟨s.own, e.region, s.table[e.region].stamp⟩
  | .pull force =>
    .pull ⟨s.own, e.region, s.table[e.region].stamp,
      match s.pullOf e.region with | some p => s.pullForce p | none => force⟩
  | .image i => .image ⟨s.own, e.region, i.stamp, i.chunk, i.targets, i.data⟩

/-- The entry as its transmission starts: SENDING, an UPDATE sealed, a PULL with the force flag it carries (R26, R69, R115). -/
def State.startSending (s : State) (e : OutEntry) : OutEntry :=
  match e.body with
  | .update u => { e with sending := true, body := .update { u with sealed := true } }
  | .pull force =>
    { e with sending := true, body := .pull (match s.pullOf e.region with | some p => s.pullForce p | none => force) }
  | .claim _ => { e with sending := true }
  | .image _ => { e with sending := true }

/-- Fill the transmit slot from an entry and start its transmission (R26). -/
def State.sendEntry (s : State) (e : OutEntry) : State :=
  (s.mapLine ({ · with slot := some ⟨s.frameOf e, none⟩ })).mapOut fun o =>
    { o with entries := mapFirst (fun x => x.offerable && x.priority == e.priority) s.startSending o.entries }

/-- The states in which Outbox entries are offered (Table 2-1). -/
def StationState.offersEntries : StationState → Bool
  | .active | .isolated | .leaving => true
  | .offline | .listening | .dozing | .halted => false

/-- What the choice at an idle comes to (R25, R89). -/
inductive Offer
  | nothing
  | beacon
  | entry (e : OutEntry)
  | withdrawn (e : OutEntry) (source : ClaimSource) (why : LostReason)
deriving DecidableEq, Repr

/-- An entry chosen: offered, or a CLAIM entry that no longer applies withdrawn (R89). -/
def State.offerOf (s : State) (e : OutEntry) : Offer :=
  match e.body with
  | .claim source =>
    match s.withdrawReason e.region with
    | some why => .withdrawn e source why
    | none => .entry e
  | .update _ | .pull _ | .image _ => .entry e

/-- The choice at an idle: a due beacon first, else an Outbox entry in the states that offer them (R25, Table 2-1). -/
def State.nextOffer (s : State) : Offer :=
  if s.ctl.beaconDue && s.ctl.state.onLine then .beacon
  else if s.ctl.state.offersEntries then
    match pickEntry s.out.entries with
    | none => .nothing
    | some e => s.offerOf e
  else .nothing

/-- Choose a frame and offer it, at most `fuel` choices at one idle; a withdrawn CLAIM entry makes the choice anew (R25,
R89). -/
def State.offerFrom : Nat → State → State
  | 0, s => s
  | fuel + 1, s =>
    match s.nextOffer with
    | .nothing => s
    | .beacon => s.sendBeacon
    | .entry e => s.sendEntry e
    | .withdrawn e source why => State.offerFrom fuel (s.withdraw e source why).drainEnd

/-- The offer at one idle. Each choice but the last takes a CLAIM entry away; the sweep may append one in its place, of a region
held, which is held no more once that one is withdrawn: no choice is cut short (`State.offer_withdrawn`). -/
def State.offer (s : State) : State := s.offerFrom (66 * s.out.entries.length + 1)

/-- LINE_IDLE (R23, R25): a frame whose end has not been read is lost (R35); the idle gap after entry to LISTENING has been
read; one frame is offered. A frame that becomes ready while the line is idle already waits for the next LINE_IDLE, which may
come at any time (DESIGN CHOICE, log 37). -/
def execLineIdle (s : State) : Host.Outcome State Fault Refusal :=
  .next (s.whenOn fun s =>
    if s.ctl.state.receives && s.line.slot.isNone then (s.dropFrame.mapLine ({ · with syncing := false })).offer
    else s)

/-! ### Attempts that do not reach frame end -/

/-- A beacon in the transmit slot returns to due, except one that was in the slot as LEAVE was taken (R26, R163). -/
def State.returnBeacon (s : State) (b : BeaconFrame) : State :=
  if s.ctl.state = .leaving ∧ b.mode ≠ .leaving then s else s.mapCtl ({ · with beaconDue := true })

/-- The attempt in the transmit slot ends without a frame end (R26). -/
def State.attemptLost (s : State) (t : TxSlot) : State :=
  match t.frame with
  | .beacon b => (s.mapLine ({ · with slot := none })).returnBeacon b
  | .claim _ | .pull _ | .update _ | .image _ => (s.mapLine ({ · with slot := none })).returnSending

/-- LOST_ARBITRATION (R28). -/
def execLostArbitration (s : State) : Host.Outcome State Fault Refusal :=
  .next (s.whenOn fun s =>
    match s.line.slot with
    | some t => (s.attemptLost t).afterAttempt
    | none => s)

/-- The consecutive line-fault count advances; at 16 the station halts (R37). -/
def State.countFault (s : State) : State :=
  if s.line.faults + 1 < Config.faultLimit then s.mapLine fun l => { l with faults := l.faults + 1 }
  else (s.mapLine ({ · with faults := Config.faultLimit })).halt .lineFault

/-- The record whose PULL is being sent, its discard not asked for. -/
def State.pullBeingSent (s : State) : Option PullRecord :=
  match s.sendingEntry with
  | some ⟨r, .pull _, _, .none⟩ => s.pullOf r
  | _ => none

/-- The answer timer at a line fault of the own PULL. Before the tail it stays stopped (R36, R115, R117). In the tail R21, which R36
applies there, lets it run, as with the owner's bit clear, and R115 and R117 keep it stopped while the entry is in the Outbox; the
manual does not say which of the two holds, and a free value decides (DESIGN CHOICE, log 38). -/
def State.answerAfterFault (s : State) (place : FaultPlace) (f : Frame) : State :=
  match place, f, s.pullBeingSent with
  | .tail, .pull _, some p => (if Config.freeBit s.free then s.putPull p.awaitAnswer else s).setFree (s.free + 1)
  | _, _, _ => s

/-- LINE_FAULT (R36, R37). At the sixteenth fault of an attempt whose entry was to be removed, the removal with its fence bookkeeping
and any FENCE_DONE comes first, and the halt after it closes a fence still open without FENCE_DONE: R26 and R167 put both at the
fault and give no order (DESIGN CHOICE, log 41). -/
def execLineFault (s : State) (place : FaultPlace := .content) : Host.Outcome State Fault Refusal :=
  .next (s.whenOn fun s =>
    match s.line.slot with
    | some t => ((s.answerAfterFault place t.frame).attemptLost t).countFault.afterAttempt
    | none => s)

/-! ### Frames that go no further than the Line Interface -/

/-- FRAME_DISCARDED (R29): no ack, nothing handed on, no roster entry refreshed, no event. -/
def execFrameDiscarded (s : State) : Host.Outcome State Fault Refusal := .next s

/-- The station can receive a frame now: its receiver is on and in step with the line, and neither a frame of its own nor
another received frame is under way (R23, R29, log 25). -/
def State.canReceive (s : State) : Bool :=
  s.ctl.state.receives && !s.line.syncing && s.line.slot.isNone && s.line.rx.isNone

/-- STRANGER is posted where the timer of `n` is not running (R31). -/
def State.postStranger (s : State) (n : Station) : State :=
  if s.line.strangers[n].isNone then s.post (.stranger n) else s

/-- An intact frame from the non-member `n`: STRANGER is posted where its timer is not running, and the timer starts (R31). -/
def State.strangerHeard (s : State) (n : Station) : State :=
  (s.postStranger n).mapLine fun l => { l with strangers := l.strangers.set n (some 0) }

/-- STRANGER_FRAME (R31): a member's frame is none (log 11). -/
def execStrangerFrame (origin : Station) (s : State) : Host.Outcome State Fault Refusal :=
  .next (s.whenOn fun s =>
    if s.canReceive && !s.isMember origin && origin != s.own then s.strangerHeard origin else s)

end Sys2Proof.Machine
end

