-- ==== Sys2Proof/Machine/Reception.lean ====
section
/-! DEFINITION. Family RECEPTION: the delivery of an intact frame (R29 to R32), what a listening station does with it
(R156), and the ack-point decision of each kind (R33, Table 1-7). The frame that has been found intact stands in
`Line.rx` with this station's bit until its end. -/

namespace Sys2Proof.Machine

/-! ### Finding a frame intact (R30 to R32) -/

/-- An intact IMAGE that names this station restarts the answer timer of its pull while that timer runs (R117). -/
def State.imageHeard (s : State) (i : ImageFrame) : State :=
  match s.pullOf i.region with
  | some p => if inMap i.targets s.own && p.timer.isSome then s.putPull { p with timer := some 0 } else s
  | none => s

/-- The stamp comparison of a census entry from `o` (R54). -/
def State.compareStamp (s : State) (o : Station) (e : CensusEntry) : State :=
  if stampLower s.table[e.region].stamp e.stamp then s.markStale e.region .behind
  else if stampLower e.stamp s.table[e.region].stamp then s.post (.stampAhead e.region o)
  else s

/-- The stamp comparison where `o` is the recorded owner (R53). -/
def State.compareIfOwner (s : State) (o : Station) (e : CensusEntry) : State :=
  if s.ownedBy e.region o then s.compareStamp o e else s

/-- What one census entry from `o` does at the Region Table: conflict resolution for an owned region, else owner learning and,
where the entry is learned or `o` is the recorded owner, the stamp comparison (R53). -/
def State.censusCase (s : State) (o : Station) (e : CensusEntry) : State :=
  if s.owns e.region then s.resolveConflict e.region o e.stamp
  else (s.learnOwner e.region o e.stamp.epoch).compareIfOwner o e

/-- One census entry from `o` (R53), after which the pulls that may now open do so, before the next entry (R113, log 16). -/
def State.censusEntry (o : Station) (s : State) (e : CensusEntry) : State := (s.censusCase o e).openPulls

/-- The census entries of a beacon from `o`, one at a time in list order (R53). -/
def State.censusList (s : State) (o : Station) (es : List CensusEntry) : State := es.foldl (State.censusEntry o) s

/-- A listening station marks a copy below the result stamp of its owner's UPDATE (R156). -/
def State.markIfBehind (s : State) (u : UpdateFrame) : State :=
  if s.ownedBy u.region u.origin && stampLower s.table[u.region].stamp ⟨u.ownerEpoch, u.result⟩ then
    s.markStale u.region .behind
  else s

/-- What a listening station does with an intact frame from a member, beyond the roster (R156). -/
def State.listen (s : State) (f : Frame) : State :=
  match f with
  | .beacon b => s.censusList b.origin b.census
  | .update u => (s.learnOwner u.region u.origin u.ownerEpoch).markIfBehind u
  | .image i => s.learnOwner i.region i.origin i.stamp.epoch
  | .claim _ => s
  | .pull _ => s

/-- The answer timer that an IMAGE restarts (R117). -/
def State.restartAnswer (s : State) (f : Frame) : State :=
  match f with
  | .image i => s.imageHeard i
  | .beacon _ | .claim _ | .pull _ | .update _ => s

/-- The Region Table's part in LISTENING (R32, R156). -/
def State.listenIfListening (s : State) (f : Frame) : State := if s.ctl.state = .listening then s.listen f else s

/-- An intact frame from a member is handed on at the moment it is found intact: to the Roster Unit, to the answer timer an
IMAGE restarts, and in LISTENING to the Region Table (R32, R117, R156). -/
def State.handOn (s : State) (f : Frame) : State :=
  ((s.rosterHandoff f).restartAnswer f).listenIfListening f

/-- A frame that bears the station's own number (R30, R157). -/
def State.ownNumberHeard (s : State) (f : Frame) : State :=
  if s.ctl.state = .listening then
    match f with
    | .beacon _ => s.mapCtl ({ · with duplicateHeard := true })
    | .claim _ | .pull _ | .update _ | .image _ => s
  else (s.halt .duplicate).arbitrate

/-- A frame found intact: the duplicate check, the member check, and the handing on of a member's frame, after which `k`
goes on (R30, R31, R32). A frame out of range is not intact and goes no further (R29). -/
def State.found (s : State) (f : Frame) (k : State → State) : State :=
  if !(s.canReceive && f.inRange) then s
  else if f.origin = s.own then s.ownNumberHeard f
  else if !s.isMember f.origin then s.strangerHeard f.origin
  else k (s.handOn f)

/-- The frame stands as received with this station's bit (R33). -/
def State.holdFrame (s : State) (f : Frame) (bit acked : Bool) : State :=
  s.mapLine ({ · with rx := some ⟨f, bit, acked⟩ })

/-- Reception of an intact frame up to and past this station's ack point, whose decision is `act`; a listening station
makes none (R32, R33). -/
def State.receive (s : State) (f : Frame) (act : State → Bool × State) : State :=
  s.found f fun t =>
    if t.ctl.state.onLine then ((act t).2.holdFrame f (act t).1 true).settle
    else t.holdFrame f false false

/-! ### Ack points -/

/-- The ack point of a BEACON: the census entries in list order; the bit is set whatever they did (R20, R53). -/
def State.beaconAct (b : BeaconFrame) (s : State) : Bool × State :=
  (true, s.censusList b.origin b.census)

/-- The owner's conditions for a vote (R92). -/
def State.ownerAgrees (s : State) (r : Region) : Bool :=
  s.table[r].yieldReady && !s.out.hasUpdate r && s.ctl.state != .dozing

/-- The recorded owner is another station whose status is SILENT (R93). -/
def State.ownerSilent (s : State) (r : Region) : Bool :=
  match s.table[r].owner with
  | some o => o.station != s.own && s.statusOf o.station == .silent
  | none => false

/-- The vote on a claim for `r` at `stamp`: the four conditions of R91. -/
def State.votes (s : State) (r : Region) (stamp : Stamp) (guardPin : Bool) : Bool :=
  !stampLower stamp s.table[r].stamp && (!s.owns r || s.ownerAgrees r) && !s.protectedNow r guardPin
    && !s.ownerSilent r

/-- An owner that agrees sets vote pending (R94). -/
def State.holdVote (s : State) (r : Region) (bit : Bool) : State :=
  if s.owns r && bit then s.mapEntry r ({ · with votePending := true }) else s

/-- A dozing station wakes at a CLAIM or PULL for a region it owns (R161). -/
def State.wakeIfAsked (s : State) (r : Region) : State :=
  if s.owns r && s.ctl.state == .dozing then s.wakeUp (some r) else s

/-- The ack point of a CLAIM: an owner that agrees sets vote pending (R94); a dozing owner wakes after its vote (R92). -/
def State.claimAct (c : ClaimFrame) (guardPin : Bool) (s : State) : Bool × State :=
  (s.votes c.region c.stamp guardPin,
    ((s.holdVote c.region (s.votes c.region c.stamp guardPin)).wakeIfAsked c.region))

/-- The owner's decision on a PULL of `r` from `q` (R120). An owner in LEAVING serves none and posts nothing. -/
def State.decidePull (s : State) (p : PullFrame) : Bool × State :=
  if stampLower s.table[p.region].stamp p.stamp then
    (false, if s.ctl.state = .leaving then s else s.post (.stampAhead p.region p.origin))
  else if p.stamp = s.table[p.region].stamp ∧ p.force = false then (true, s.dropTarget p.region p.origin)
  else (false, if s.ctl.state = .leaving then s else s.serve p.region p.origin)

/-- The ack point of a PULL: only the recorded owner acts, and a dozing one wakes first (R120, R161). -/
def State.pullAct (p : PullFrame) (s : State) : Bool × State :=
  if s.owns p.region then (s.wakeIfAsked p.region).decidePull p else (false, s)

/-- An in-sequence UPDATE is taken into the Apply Queue, the copy stamp with it, where there is room (R74). -/
def State.takeUpdate (s : State) (u : UpdateFrame) : Bool × State :=
  if s.applyQ.length < Config.applyLimit then
    (true, (s.takeApply u.region (.update u.offset u.data)).mapEntry u.region
      ({ · with stamp := ⟨u.ownerEpoch, u.result⟩ }))
  else (false, s)

/-- An UPDATE from the recorded owner or one just learned: the cases of R72 to R75. -/
def State.compareUpdate (s : State) (u : UpdateFrame) : Bool × State :=
  if stampLower ⟨u.ownerEpoch, u.result⟩ s.table[u.region].stamp then (false, s)
  else if ⟨u.ownerEpoch, u.result⟩ = s.table[u.region].stamp then
    (s.table[u.region].copy == .current || s.table[u.region].copy == .stale .behind, s)
  else if s.ctl.state = .dozing then (false, s.markStale u.region .behind)
  else if s.table[u.region].copy = .current ∧ s.table[u.region].stamp = ⟨u.ownerEpoch, u.base⟩ then s.takeUpdate u
  else (false, s.markStale u.region .behind)

/-- The cases of R72 to R75 where the origin is the recorded owner, else the frame is discarded (R71 case 2). -/
def State.updateIfOwner (s : State) (u : UpdateFrame) : Bool × State :=
  if s.ownedBy u.region u.origin then s.compareUpdate u else (false, s)

/-- The ack point of an UPDATE (R71): an owner goes to conflict resolution with its bit clear; else owner learning, and the
comparison where it is learned. -/
def State.updateAct (u : UpdateFrame) (s : State) : Bool × State :=
  if s.owns u.region then (false, s.resolveConflict u.region u.origin ⟨u.ownerEpoch, u.result⟩)
  else (s.learnOwner u.region u.origin u.ownerEpoch).updateIfOwner u

/-- Whether the pull of `r` has its PULL entry in the Outbox, or waits for room for it (R117, log 20). -/
def State.asking (s : State) (p : PullRecord) : Bool :=
  p.owed || s.out.entries.any (fun e => e.isPull && e.region == p.region)

/-- A record that meets a chunk of a higher stamp collects anew (R130 case 2). -/
def State.recollect (s : State) (p : PullRecord) (stamp : Stamp) : PullRecord :=
  if p.collecting = some stamp then p
  else { p with
    collecting := some stamp
    collected := 0
    written := 0
    timer := if p.timer.isNone && p.collected == allChunks && !s.asking p then some 0 else p.timer }

/-- A record that has taken chunk `k`: its timer stops with the last of the 16 (R130 case 4). -/
def PullRecord.withChunk (p : PullRecord) (k : Chunk) : PullRecord :=
  { p with
    collected := addBit p.collected k
    taken := true
    timer := if addBit p.collected k = allChunks then none else p.timer }

/-- A chunk for a record that collects its stamp (R130 cases 3 to 5). -/
def State.takeChunk (s : State) (p : PullRecord) (i : ImageFrame) : Bool × State :=
  if inMap p.collected i.chunk then (true, s.putPull p)
  else if s.applyQ.length < Config.applyLimit then
    (true, (s.putPull (p.withChunk i.chunk)).takeApply i.region (.chunk i.chunk i.data i.stamp p.id))
  else (false, s.putPull p)

/-- The cases of R130 for a station with an open pull toward the origin. -/
def State.collect (s : State) (p : PullRecord) (i : ImageFrame) : Bool × State :=
  if stampLower i.stamp s.table[i.region].stamp || p.collecting.any (stampLower i.stamp) then (false, s)
  else s.takeChunk (s.recollect p i.stamp) i

/-- The collection, for a station named in the target map whose open pull targets the origin (R130). -/
def State.collectIfAsked (s : State) (i : ImageFrame) : Bool × State :=
  match s.pullOf i.region with
  | some p => if inMap i.targets s.own && p.target == i.origin then s.collect p i else (false, s)
  | none => (false, s)

/-- The ack point of an IMAGE (R130): owner learning at every receiver that is not the owner, then the collection. -/
def State.imageAct (i : ImageFrame) (s : State) : Bool × State :=
  if s.owns i.region then (false, s) else (s.learnOwner i.region i.origin i.stamp.epoch).collectIfAsked i

/-! ### The commands -/

/-- BEACON_RECEIVED (R53). -/
def execBeaconReceived (b : BeaconFrame) (s : State) : Host.Outcome State Fault Refusal :=
  .next (s.whenOn fun s => s.receive (.beacon b) (State.beaconAct b))

/-- CLAIM_FRAME_RECEIVED (R91). -/
def execClaimFrameReceived (c : ClaimFrame) (guardPin : Bool) (s : State) : Host.Outcome State Fault Refusal :=
  .next (s.whenOn fun s => s.receive (.claim c) (State.claimAct c guardPin))

/-- PULL_RECEIVED (R120). -/
def execPullReceived (p : PullFrame) (s : State) : Host.Outcome State Fault Refusal :=
  .next (s.whenOn fun s => s.receive (.pull p) (State.pullAct p))

/-- UPDATE_RECEIVED (R71). -/
def execUpdateReceived (u : UpdateFrame) (s : State) : Host.Outcome State Fault Refusal :=
  .next (s.whenOn fun s => s.receive (.update u) (State.updateAct u))

/-- IMAGE_RECEIVED (R130). -/
def execImageReceived (i : ImageFrame) (s : State) : Host.Outcome State Fault Refusal :=
  .next (s.whenOn fun s => s.receive (.image i) (State.imageAct i))

/-- FRAME_END_LOST (R35): a frame under way is given up, with vote pending cleared where it was set for it (R21); or a frame
is found intact and its end lost before this station's ack point, and then its roster refresh stands alone. -/
def execFrameEndLost (early : Option Frame) (s : State) : Host.Outcome State Fault Refusal :=
  .next (s.whenOn fun s =>
    match early with
    | none => if s.line.rx.isSome then s.dropFrame else s
    | some f => s.found f State.settle)

end Sys2Proof.Machine
end

