-- ==== Sys2Proof/Machine/FrameEnds.lean ====
section
/-! DEFINITION. Family FRAME ENDS: what each kind's frame end does at its origin and at a receiver (R34, Table 2-3). The
`ack` operand is the complete ack map that the ack collector has read, all 16 slots of it; every station that found the frame
intact reads the same map (R34). A frame end with no such frame under way does not arise (log 11). -/

namespace Sys2Proof.Machine

/-! ### The ends of an attempt and of a reception -/

/-- An attempt of this station reaches frame end: the transmit slot is freed and the fault count is 0 (R34, R37). -/
def State.attemptDone (s : State) : State := s.mapLine ({ · with slot := none, faults := 0 })

/-- The reception of the frame under way ends. -/
def State.receptionDone (s : State) : State := s.mapLine ({ · with rx := none })

/-! ### BEACON (R42, R51, R166) -/

/-- The Roster Unit's three changes at the frame end of an own beacon (R51), after which beacons no longer carry JOINING
(R48). -/
def State.beaconSent (s : State) (b : BeaconFrame) (walkLast : Option Region) (ack : StationMap) : State :=
  (s.mapRoster fun t => { t with
    lastAck := ack
    front := t.front.filter (fun r => !b.census.any (fun e => e.region == r))
    cursor := if walkLast.isSome then walkLast else t.cursor }).mapCtl ({ · with joining := false })

/-- The frame end of an own beacon; that of the LEAVING beacon ends phase FINAL (R166). -/
def State.ownBeaconEnd (s : State) (b : BeaconFrame) (walkLast : Option Region) (ack : StationMap) : State :=
  if b.mode = .leaving ∧ s.ctl.state = .leaving then (s.attemptDone.beaconSent b walkLast ack).goOffline
  else s.attemptDone.beaconSent b walkLast ack

/-- The frame end of a received beacon: a LEAVING beacon makes its sender ABSENT, whatever its status was, stops its timer and
clears members-differ seen (R42, R45). -/
def State.beaconHeard (s : State) (b : BeaconFrame) : State :=
  if b.mode = .leaving then
    (s.statusChange b.origin .absent).mapRosterEntry b.origin ({ · with timer := none, differs := false })
  else s

/-- BEACON_FRAME_END (R51, R42). -/
def execBeaconFrameEnd (ack : StationMap) (s : State) : Host.Outcome State Fault Refusal :=
  .next (s.whenOn fun s =>
    match s.line.slot, s.line.rx with
    | some ⟨.beacon b, walkLast⟩, _ => (s.ownBeaconEnd b walkLast ack).afterAttempt
    | _, some ⟨.beacon b, _, _⟩ => (s.receptionDone.beaconHeard b).resume
    | _, _ => s)

/-! ### CLAIM (R95 to R99) -/

/-- The claimant decides, removes its entry, posts CLAIM_DONE and closes the claim (R90, R97, R99). -/
def State.claimDecided (s : State) (c : ClaimFrame) (source : ClaimSource) (ack : StationMap) : State :=
  if s.claimEffective s.own ack then
    (((s.removeSending.applyClaim s.own c.region c.stamp)).post (.claimDone c.region ack source none)).claimOver
      c.region source true
  else
    (s.removeSending.post (.claimDone c.region ack source (some .refused))).claimOver c.region source false

/-- The frame end of an own CLAIM. A removal asked for meanwhile does not undo the decision (R165). -/
def State.ownClaimEnd (s : State) (c : ClaimFrame) (ack : StationMap) : State :=
  match s.sendingEntry with
  | some ⟨_, .claim source, _, _⟩ => s.attemptDone.claimDecided c source ack
  | _ => s.attemptDone

/-- The decision of a station that is not the claimant (R95, R96, R99). -/
def State.decideClaim (s : State) (c : ClaimFrame) (m : StationMap) : State :=
  if s.claimEffective c.origin m then s.applyClaim c.origin c.region c.stamp else s

/-- The frame end of a received CLAIM: vote pending is cleared, and an effective claim makes its changes (R95, R96, R99).
A frame found intact while LISTENING has no decision (R158). -/
def State.claimHeard (s : State) (acked : Bool) (c : ClaimFrame) (ack : StationMap) : State :=
  if acked then (s.endVote c.region).decideClaim c ack else s

/-- CLAIM_FRAME_END (R95). -/
def execClaimFrameEnd (ack : StationMap) (s : State) : Host.Outcome State Fault Refusal :=
  .next (s.whenOn fun s =>
    match s.line.slot, s.line.rx with
    | some ⟨.claim c, _⟩, _ => (s.ownClaimEnd c ack).afterAttempt
    | _, some ⟨.claim c, _, acked⟩ => (s.receptionDone.claimHeard acked c ack).resume
    | _, _ => s)

/-! ### PULL (R116) -/

/-- The requester reads the bit of the owner targeted: the copy is current, or the answer timer starts (R116). -/
def State.pullAnswered (s : State) (p : PullRecord) (ack : StationMap) : State :=
  if inMap ack p.target then
    ((s.mapEntry p.region ({ · with copy := .current })).dropPull p.region).post (.regionCurrent p.region)
  else s.putPull p.awaitAnswer

/-- The frame end of an own PULL: the entry ends; with its discard asked for, no bit is read (R119). -/
def State.ownPullEnd (s : State) (ack : StationMap) : State :=
  match s.sendingEntry with
  | some ⟨r, .pull _, _, doom⟩ =>
    match doom, s.pullOf r with
    | .none, some p => s.attemptDone.removeSending.pullAnswered p ack
    | _, _ => s.attemptDone.removeSending
  | _ => s.attemptDone

/-- PULL_FRAME_END (R116). -/
def execPullFrameEnd (ack : StationMap) (s : State) : Host.Outcome State Fault Refusal :=
  .next (s.whenOn fun s =>
    match s.line.slot, s.line.rx with
    | some ⟨.pull _, _⟩, _ => (s.ownPullEnd ack).afterAttempt
    | _, some ⟨.pull _, _, _⟩ => s.receptionDone
    | _, _ => s)

/-! ### UPDATE (R77, R78, R81) -/

/-- The expected set of an UPDATE for `r`: members PRESENT, without this station and its serving targets (R77). -/
def State.expected (s : State) (r : Region) : StationMap :=
  mapOf fun n : Station => n != s.own && s.isMember n && s.statusOf n == .present && !s.serves r n

/-- An entry settled short: SHORT is posted, and for an in-fence entry the missing set joins the fence's map (R78, R84). -/
def State.settledShort (s : State) (r : Region) (u : UpdateEntry) (missing : StationMap) : State :=
  (s.post (.short r missing)).mapOut fun o =>
    if u.inFence then { o with fence := o.fence.map (fun f => { f with missing := f.missing ||| missing }) } else o

/-- The entry being sent returns to WAITING with one more retry (R78). -/
def State.retryUpdate (s : State) : State :=
  s.mapOut fun o => { o with entries := o.entries.map (fun x =>
    if x.sending then
      { x.mapUpdate (fun u => { u with retries := u.retries + 1 }) with sending := false }
    else x) }

/-- The settling of an UPDATE entry from its missing set (R78), with a removal asked for while it was being sent (R67). -/
def State.settleUpdate (s : State) (r : Region) (u : UpdateEntry) (doom : Doom) (missing : StationMap) : State :=
  if missing = 0 then s.removeSending.checkFence
  else
    match doom with
    | .cut => (s.removeSending.departed true ⟨r, .update u, true, doom⟩).checkFence
    | .discard => (s.removeSending.departed false ⟨r, .update u, true, doom⟩).checkFence
    | .none =>
      if u.retries < Config.retryLimit then s.retryUpdate
      else (s.removeSending.settledShort r u missing).checkFence

/-- The frame end of an own UPDATE (R77). -/
def State.ownUpdateEnd (s : State) (ack : StationMap) : State :=
  match s.sendingEntry with
  | some ⟨r, .update u, _, doom⟩ =>
    s.attemptDone.settleUpdate r u doom (s.expected r &&& ~~~ ack)
  | _ => s.attemptDone

/-- UPDATE_FRAME_END (R78). -/
def execUpdateFrameEnd (ack : StationMap) (s : State) : Host.Outcome State Fault Refusal :=
  .next (s.whenOn fun s =>
    match s.line.slot, s.line.rx with
    | some ⟨.update _, _⟩, _ => (s.ownUpdateEnd ack).afterAttempt
    | _, some ⟨.update _, _, _⟩ => s.receptionDone
    | _, _ => s)

/-! ### IMAGE (R125, R126) -/

/-- A target named in the entry's map: with its bit set the chunk leaves its needed set, else its no-progress count
rises (R125). -/
def Target.heard (t : Target) (i : ImageEntry) (ack : StationMap) : Target :=
  if inMap i.targets t.station then
    if inMap ack t.station then { t with needed := dropBit t.needed i.chunk, noProgress := 0 }
    else { t with noProgress := t.noProgress + 1 }
  else t

/-- A target stays while it needs a chunk and its no-progress count is below twice the number it needs (R126). -/
def Target.stays (t : Target) : Bool := t.needed != 0 && decide (t.noProgress < 2 * countBits t.needed)

/-- The serving record applies the ack map, and targets that are done or make no progress leave (R125, R126). -/
def State.imageAcked (s : State) (v : ServingRecord) (i : ImageEntry) (ack : StationMap) : State :=
  s.putTargets v ((v.targets.map (fun t => t.heard i ack)).filter Target.stays)

/-- The frame end of an own IMAGE: the entry ends; with its discard asked for, the map is not applied (R124). -/
def State.ownImageEnd (s : State) (ack : StationMap) : State :=
  match s.sendingEntry with
  | some ⟨r, .image i, _, doom⟩ =>
    match doom, s.servingOf r with
    | .none, some v => s.attemptDone.removeSending.imageAcked v i ack
    | _, _ => s.attemptDone.removeSending
  | _ => s.attemptDone

/-- IMAGE_FRAME_END (R125). -/
def execImageFrameEnd (ack : StationMap) (s : State) : Host.Outcome State Fault Refusal :=
  .next (s.whenOn fun s =>
    match s.line.slot, s.line.rx with
    | some ⟨.image _, _⟩, _ => (s.ownImageEnd ack).afterAttempt
    | _, some ⟨.image _, _, _⟩ => s.receptionDone
    | _, _ => s)

end Sys2Proof.Machine
end

