-- ==== Sys2Proof/Machine/Timers.lean ====
section
/-! DEFINITION. Family TIMERS: the expiries of the part's timers, each at the moment its timer reaches the threshold, and
the millisecond tick that brings them about while no command waits (log 7). An expiry of a timer that is not running
does not arise (log 11). -/

namespace Sys2Proof.Machine

/-! ### Silence and stranger timers (R31, R41) -/

/-- Station `n` has a silence timer that runs: a member other than the own number (R41). -/
def State.silenceRuns (s : State) (n : Station) : Bool :=
  n != s.own && s.isMember n && s.roster.entries[n].timer.isSome

/-- PRESENT and DOZING become SILENT (R41). -/
def State.silence (s : State) (n : Station) : State :=
  if (s.statusOf n).counted then s.statusChange n .silent else s

/-- The silence timer of `n` reaches 24 ms: PRESENT and DOZING become SILENT, and the timer runs on (R41). -/
def State.fallSilent (s : State) (n : Station) : State :=
  (s.mapRosterEntry n fun e => { e with timer := e.timer.map (fun t => max t Config.silentMs) }).silence n

/-- SILENCE_TIMER_24MS (R41). -/
def execSilenceTimer24ms (n : Station) (s : State) : Host.Outcome State Fault Refusal :=
  .next (s.whenOn fun s => if s.silenceRuns n then (s.fallSilent n).resume else s)

/-- The silence timer of `n` reaches 48 ms: the entry becomes ABSENT, whatever its status was, the timer stops and members-differ
seen is cleared (R41, R45). -/
def State.fallAbsent (s : State) (n : Station) : State :=
  ((s.mapRosterEntry n ({ · with timer := none })).statusChange n .absent).differsFollows n .absent

/-- SILENCE_TIMER_48MS (R41). -/
def execSilenceTimer48ms (n : Station) (s : State) : Host.Outcome State Fault Refusal :=
  .next (s.whenOn fun s => if s.silenceRuns n then (s.fallAbsent n).resume else s)

/-- STRANGER_TIMER_EXPIRY (R31): the timer stops. -/
def execStrangerTimerExpiry (n : Station) (s : State) : Host.Outcome State Fault Refusal :=
  .next (s.whenOn fun s => s.mapLine fun l => { l with strangers := l.strangers.set n none })

/-! ### The beacon timer (R47, R48) -/

/-- BEACON_TIMER_EXPIRY (R47): one beacon is due afterwards, and the period starts again. -/
def execBeaconTimerExpiry (s : State) : Host.Outcome State Fault Refusal :=
  .next (s.whenOn fun s =>
    if s.ctl.beaconTimer.isSome then s.mapCtl ({ · with beaconTimer := some 0, beaconDue := true }) else s)

/-! ### The listen timer (R157, R158) -/

/-- The sweep at JOIN completion: from region 0, RUNNING in ACTIVE and PAUSED in ISOLATED (R103). -/
def Sweep.start (st : StationState) : Sweep := ⟨if st = .active then .running else .paused, 0, none⟩

/-- JOIN completes, in the order of R158. -/
def State.joinComplete (s : State) : State :=
  (((((s.mapCtl ({ · with
      state := s.quorumState, listenTimer := none, beaconTimer := some 0, beaconDue := true, joining := true })).mapCatchup
    ({ · with list := s.staleRegions, parked := 0 })).setSweep (Sweep.start s.quorumState)).post
      .joined).postIsolation).sweepWalk

/-- LISTEN_EXPIRY: HALTED where a duplicate was heard (R157), else the JOIN completes (R158). -/
def execListenExpiry (s : State) : Host.Outcome State Fault Refusal :=
  .next (s.whenOn fun s =>
    if s.ctl.state = .listening ∧ s.ctl.listenTimer.isSome then
      if s.ctl.duplicateHeard then (s.halt .duplicate).arbitrate else s.joinComplete.resume
    else s)

/-! ### The leave timer (R165, R166) -/

/-- The cut: every entry that remains is discarded and counted (R165). -/
def State.cut (s : State) : State :=
  (s.mapCtl ({ · with leaveTimer := none })).discardEntries (fun _ => true) true

/-- LEAVE_DRAIN_CUT (R165). -/
def execLeaveDrainCut (s : State) : Host.Outcome State Fault Refusal :=
  .next (s.whenOn fun s =>
    if s.ctl.state = .leaving ∧ s.ctl.leavePhase = .drain ∧ s.ctl.leaveTimer.isSome then s.cut.drainEnd else s)

/-- LEAVE_FINAL_EXPIRY (R166): phase FINAL ends, at once or at the end of the attempt under way. -/
def execLeaveFinalExpiry (s : State) : Host.Outcome State Fault Refusal :=
  .next (s.whenOn fun s =>
    if s.ctl.state = .leaving ∧ s.ctl.leavePhase = .final ∧ s.ctl.leaveTimer.isSome then
      (s.mapCtl ({ · with leaveTimer := none })).afterAttempt
    else s)

/-! ### The answer timers (R118) -/

/-- The PULL entry of `r` stands in the Outbox, its discard not asked for. -/
def State.pullStands (s : State) (r : Region) : Bool := s.out.entries.any (fun e => pullEntryOf r e && e.doom == .none)

/-- The answer timer of a pull expires: a further attempt, or after the third the closure with the region parked (R118). A record
has at most one PULL entry (R115): where its entry still stands, that one is the further attempt (log 38). -/
def State.answerExpired (s : State) (p : PullRecord) : State :=
  if p.attempts < Config.attemptLimit then
    (s.putPull { p with attempts := p.attempts + 1, timer := none, owed := !s.pullStands p.region }).queuePulls
  else (s.closePull p.region true).post (.pullFailed p.region)

/-- ANSWER_TIMER_EXPIRY (R118). -/
def execAnswerTimerExpiry (r : Region) (s : State) : Host.Outcome State Fault Refusal :=
  .next (s.whenOn fun s =>
    match s.pullOf r with
    | some p => if p.timer.isSome then (s.answerExpired p).resume else s
    | none => s)

/-! ### The tick (log 7) -/

/-- A running timer one millisecond on, staying at its threshold. -/
def advance (limit : Nat) (t : Option Nat) : Option Nat := t.map (fun n => min (n + 1) limit)

/-- Whether a timer that has just been advanced stands at `threshold`. -/
def reached (threshold : Nat) (t : Option Nat) : Bool := t == some threshold

/-- Every running timer one millisecond on. -/
def State.advanceTimers (s : State) : State :=
  { s with
    ctl := { s.ctl with
      beaconTimer := advance Config.beaconMs s.ctl.beaconTimer
      listenTimer := advance Config.listenMs s.ctl.listenTimer
      leaveTimer := advance Config.leaveMs s.ctl.leaveTimer }
    line := { s.line with
      strangers := Vector.ofFn fun n : Station => advance Config.strangerMs s.line.strangers[n] }
    roster := { s.roster with
      entries := Vector.ofFn fun n : Station =>
        { s.roster.entries[n] with timer := advance Config.absentMs s.roster.entries[n].timer } }
    catchup := { s.catchup with
      pulls := s.catchup.pulls.map (fun p => { p with timer := advance Config.answerMs p.timer }) } }

/-- The command of the leave timer's expiry in the phase that runs. -/
def Controller.leaveExpiry (c : Controller) : Instr :=
  match c.leavePhase with
  | .drain => .leaveDrainCut
  | .final => .leaveFinalExpiry

/-- The expiries that stand at their thresholds, in the order the model gives expiries of one millisecond (log 7). -/
def State.expiries (s : State) : List Instr :=
  ((List.finRange 16).filter (fun n : Station => reached Config.silentMs s.roster.entries[n].timer)).map
      Instr.silenceTimer24ms
    ++ ((List.finRange 16).filter (fun n : Station => reached Config.absentMs s.roster.entries[n].timer)).map
      Instr.silenceTimer48ms
    ++ ((List.finRange 16).filter (fun n : Station => reached Config.strangerMs s.line.strangers[n])).map
      Instr.strangerTimerExpiry
    ++ (if reached Config.beaconMs s.ctl.beaconTimer then [.beaconTimerExpiry] else [])
    ++ (if reached Config.listenMs s.ctl.listenTimer then [.listenExpiry] else [])
    ++ (if reached Config.leaveMs s.ctl.leaveTimer then [s.ctl.leaveExpiry] else [])
    ++ (s.catchup.pulls.filter (fun p => reached Config.answerMs p.timer)).map
      (fun p => Instr.answerTimerExpiry p.region)

/-- A millisecond in which no command comes: every running timer advances, and the expiries it brings about wait as commands
(log 7). A part without power, in reset or waiting for a reset has no running timer. -/
def State.tick (s : State) : State :=
  s.whenOn fun s => s.advanceTimers.setPending s.advanceTimers.expiries

end Sys2Proof.Machine
end

