-- ==== Sys2Proof/Machine/Resets.lean ====
section
/-! DEFINITION. Family RESETS: power-on reset, the assertion and release of RESET#, and the loss of power (R134, R146,
R147). -/

namespace Sys2Proof.Machine

/-- The span of the array write in progress: a host WRITE, a FORMAT step or an apply (R134). -/
def State.writeSpan (s : State) : Option (Region × Nat × Nat) :=
  match s.arb.op, s.port.state, s.applyQ with
  | some .hostWrite, .working (.write w), _ => some (w.region, w.offset, w.data.length)
  | some .formatStep, .working (.format r k), _ => some (r, chunkOffset k, Config.chunkBytes)
  | some .apply, _, e :: _ => some (e.region, e.body.span.1, e.body.span.2.length)
  | _, _, _ => none

/-- The bytes that a cut write leaves: free values, one for each byte (log 4). -/
def State.cutBytes (s : State) (n : Nat) : List Byte := (List.range n).map (fun i => Config.freeByte (s.free + i))

/-- A write operation that loss of power cuts leaves its span in no stated state (R134). -/
def State.cutWrite (s : State) : State :=
  match s.writeSpan with
  | some (r, k, n) => if inRegion k n then (s.writeArray r k (s.cutBytes n)).setFree (s.free + n) else s
  | none => s

/-- A setup record write that loss of power cuts: the record as before or as after, by a free value (R134, R153, log 5). -/
def State.cutSetup (s : State) : State :=
  match s.power, s.port.state with
  | .on, .working (.setup m g) =>
    (s.mapNv fun n => if Config.freeBit s.free then { n with setup := ⟨true, m, g⟩ } else n).setFree (s.free + 1)
  | _, _ => s

/-- The part without power: its retained state, with the operation in progress cut. -/
def State.losePower (s : State) : State :=
  if s.power = .off then s else s.cutSetup.cutWrite.clearWorking .off

/-- POWER_ON_RESET (R146): the part comes up from its retained state. In a part with power it stands for loss and return of
power (log 13). -/
def execPowerOnReset (straps : Straps) (s : State) : Host.Outcome State Fault Refusal :=
  .next (s.losePower.recover .power straps)

/-- RESET# is asserted: the line is let go and a transaction of the Host Port ended at once, and the reset takes effect now or at
the end of the array operation in progress (R39, R147, R193). -/
def State.assertReset (s : State) : State :=
  match s.power with
  | .on =>
    if s.arb.op.isSome then
      ((s.mapLine ({ · with slot := none, rx := none })).mapPort fun p => { p with cs := p.cs.cut }).setPower (.resetPending none)
    else s.clearWorking .inReset
  | .resetPending _ => s.setPower (.resetPending none)
  | .inReset => s
  | .off => s

/-- RESET_ASSERTED (R147). -/
def execResetAsserted (s : State) : Host.Outcome State Fault Refusal := .next s.assertReset

/-- RESET# is released: the part comes up with the straps sampled, or does so once the operation in progress is complete
(R147, R150). -/
def State.releaseReset (s : State) (straps : Straps) : State :=
  match s.power with
  | .inReset => s.recover .pin straps
  | .resetPending none => s.setPower (.resetPending (some straps))
  | .resetPending (some _) => s
  | .on => s
  | .off => s

/-- RESET_RELEASED (R147). -/
def execResetReleased (straps : Straps) (s : State) : Host.Outcome State Fault Refusal := .next (s.releaseReset straps)

/-- POWER_LOST (R134). -/
def execPowerLost (s : State) : Host.Outcome State Fault Refusal := .next s.losePower

end Sys2Proof.Machine
end

