-- ==== Sys2Proof/Machine/Dispatch.lean ====
section
/-! DEFINITION. The dispatch: one arm for each command of the opcode table, in the table's order. -/

namespace Sys2Proof.Machine

/-- The effect of a command on everything but the queue of waiting commands. -/
def exec (i : Instr) (s : State) : Host.Outcome State Fault Refusal :=
  match i with
  | .putRefusedByPort => Sys2Proof.Machine.execPutRefusedByPort s
  | .incompletePut => Sys2Proof.Machine.execIncompletePut s
  | .unknownCommandCode code => Sys2Proof.Machine.execUnknownCommandCode code s
  | .unknownSelector selector => Sys2Proof.Machine.execUnknownSelector selector s
  | .take bits => Sys2Proof.Machine.execTake bits s
  | .poll run => Sys2Proof.Machine.execPoll run s
  | .read region offset length => Sys2Proof.Machine.execRead region offset length s
  | .write region offset length data guardPin => Sys2Proof.Machine.execWrite region offset length data guardPin s
  | .claim region guardPin => Sys2Proof.Machine.execClaim region guardPin s
  | .release region guardPin => Sys2Proof.Machine.execRelease region guardPin s
  | .keep region => Sys2Proof.Machine.execKeep region s
  | .fence => Sys2Proof.Machine.execFence s
  | .region region guardPin => Sys2Proof.Machine.execRegion region guardPin s
  | .roster => Sys2Proof.Machine.execRoster s
  | .status guardPin => Sys2Proof.Machine.execStatus guardPin s
  | .event => Sys2Proof.Machine.execEvent s
  | .ident => Sys2Proof.Machine.execIdent s
  | .setup members guardSet guardPin => Sys2Proof.Machine.execSetup members guardSet guardPin s
  | .format guardPin => Sys2Proof.Machine.execFormat guardPin s
  | .join => Sys2Proof.Machine.execJoin s
  | .leave => Sys2Proof.Machine.execLeave s
  | .doze => Sys2Proof.Machine.execDoze s
  | .wake => Sys2Proof.Machine.execWake s
  | .setupRecordWritten => Sys2Proof.Machine.execSetupRecordWritten s
  | .formatStepDone => Sys2Proof.Machine.execFormatStepDone s
  | .readPieceDone => Sys2Proof.Machine.execReadPieceDone s
  | .writeArrayDone => Sys2Proof.Machine.execWriteArrayDone s
  | .applyWriteDone => Sys2Proof.Machine.execApplyWriteDone s
  | .chunkReadDone => Sys2Proof.Machine.execChunkReadDone s
  | .lineIdle => Sys2Proof.Machine.execLineIdle s
  | .lostArbitration => Sys2Proof.Machine.execLostArbitration s
  | .lineFault place => Sys2Proof.Machine.execLineFault s place
  | .frameDiscarded => Sys2Proof.Machine.execFrameDiscarded s
  | .strangerFrame origin => Sys2Proof.Machine.execStrangerFrame origin s
  | .beaconReceived frame => Sys2Proof.Machine.execBeaconReceived frame s
  | .claimFrameReceived frame guardPin => Sys2Proof.Machine.execClaimFrameReceived frame guardPin s
  | .pullReceived frame => Sys2Proof.Machine.execPullReceived frame s
  | .updateReceived frame => Sys2Proof.Machine.execUpdateReceived frame s
  | .imageReceived frame => Sys2Proof.Machine.execImageReceived frame s
  | .beaconFrameEnd ack => Sys2Proof.Machine.execBeaconFrameEnd ack s
  | .claimFrameEnd ack => Sys2Proof.Machine.execClaimFrameEnd ack s
  | .pullFrameEnd ack => Sys2Proof.Machine.execPullFrameEnd ack s
  | .updateFrameEnd ack => Sys2Proof.Machine.execUpdateFrameEnd ack s
  | .imageFrameEnd ack => Sys2Proof.Machine.execImageFrameEnd ack s
  | .frameEndLost early => Sys2Proof.Machine.execFrameEndLost early s
  | .silenceTimer24ms n => Sys2Proof.Machine.execSilenceTimer24ms n s
  | .silenceTimer48ms n => Sys2Proof.Machine.execSilenceTimer48ms n s
  | .strangerTimerExpiry n => Sys2Proof.Machine.execStrangerTimerExpiry n s
  | .beaconTimerExpiry => Sys2Proof.Machine.execBeaconTimerExpiry s
  | .listenExpiry => Sys2Proof.Machine.execListenExpiry s
  | .leaveDrainCut => Sys2Proof.Machine.execLeaveDrainCut s
  | .leaveFinalExpiry => Sys2Proof.Machine.execLeaveFinalExpiry s
  | .answerTimerExpiry r => Sys2Proof.Machine.execAnswerTimerExpiry r s
  | .powerOnReset straps => Sys2Proof.Machine.execPowerOnReset straps s
  | .resetAsserted => Sys2Proof.Machine.execResetAsserted s
  | .resetReleased straps => Sys2Proof.Machine.execResetReleased straps s
  | .powerLost => Sys2Proof.Machine.execPowerLost s

end Sys2Proof.Machine
end

