-- ==== Sys2Proof/Safety.lean ====
section
/-! DEFINITION. What counts as a safe run: a command that is given its effect, and the invariants of the part that claims
speak of. Each invariant is a property of one state; a claim says that every step keeps it. -/

namespace Sys2Proof.Machine

/-- The command is given its effect: the part goes on to a next state. -/
def Runs (c : Instr) (s : State) : Prop := ∃ t, exec c s = .next t

/-- A put reaches its CS# rise in IDLE and is dealt with (R172). -/
def State.takesPut (s : State) : Prop := s.power = .on ∧ s.port.state = .idle

/-- The rows that are complete puts, in any port state (R172, R173). -/
def isPut : Instr → Bool
  | .putRefusedByPort | .read _ _ _ | .write _ _ _ _ _ | .claim _ _ | .release _ _ | .keep _ | .fence | .region _ _
  | .roster | .status _ | .event | .ident | .setup _ _ _ | .format _ | .join | .leave | .doze | .wake => true
  | .unknownCommandCode code => !knownCode code
  | .incompletePut | .unknownSelector _ | .take _ | .poll _ | .setupRecordWritten | .formatStepDone | .readPieceDone
  | .writeArrayDone | .applyWriteDone | .chunkReadDone | .lineIdle | .lostArbitration | .lineFault _ | .frameDiscarded
  | .strangerFrame _ | .beaconReceived _ | .claimFrameReceived _ _ | .pullReceived _ | .updateReceived _
  | .imageReceived _ | .beaconFrameEnd _ | .claimFrameEnd _ | .pullFrameEnd _ | .updateFrameEnd _ | .imageFrameEnd _
  | .frameEndLost _ | .silenceTimer24ms _ | .silenceTimer48ms _ | .strangerTimerExpiry _ | .beaconTimerExpiry
  | .listenExpiry | .leaveDrainCut | .leaveFinalExpiry | .answerTimerExpiry _ | .powerOnReset _ | .resetAsserted
  | .resetReleased _ | .powerLost => false

/-- The station finds the frame `f` intact and delivers it: it can receive, `f` lies in its ranges, and its origin is
another member (R29 to R32). -/
def State.hears (s : State) (f : Frame) : Prop :=
  s.power = .on ∧ s.canReceive = true ∧ f.inRange = true ∧ f.origin ≠ s.own ∧ s.isMember f.origin = true

/-- The working state of every block at the values of the reset tables, but for straps, member set and guard set (R147,
Tables 1-3, 2-4, 3-2, 4-3, 6-3, 7-1, 8-4, 9-8, section 5.8); no transaction of the Host Port is under way (R193). -/
def State.cleared (s : State) : Prop :=
  s.port.state = .idle ∧ s.port.refused = false ∧ (∀ b, s.port.cs ≠ .polling b)
    ∧ s.ctl.state = .offline ∧ s.ctl.beaconTimer = none ∧ s.ctl.beaconDue = false ∧ s.ctl.joining = true
    ∧ s.ctl.listenTimer = none ∧ s.ctl.leaveTimer = none ∧ s.ctl.leavePhase = .drain ∧ s.ctl.duplicateHeard = false
    ∧ s.line.slot = none ∧ s.line.rx = none ∧ s.line.faults = 0 ∧ (∀ n : Station, s.line.strangers[n] = none)
    ∧ (∀ n : Station, s.roster.entries[n] = ⟨.absent, none, false⟩) ∧ s.roster.cursor = none ∧ s.roster.front = []
    ∧ s.roster.lastAck = 0
    ∧ (∀ r : Region, s.table[r].owner = none ∧ s.table[r].yieldReady = false ∧ s.table[r].votePending = false
        ∧ s.table[r].writeHold = false)
    ∧ s.out.entries = [] ∧ s.out.reserved = none ∧ s.out.fence = none ∧ s.out.hostClaim = none
    ∧ s.out.sweep.phase = .inactive ∧ s.out.sweep.position = 0 ∧ s.out.sweep.outstanding = none
    ∧ s.applyQ = [] ∧ s.unsaved = 0 ∧ s.catchup = ⟨[], 0, []⟩ ∧ s.serving = [] ∧ s.arb = ⟨none, 0, 0⟩

/-- Region `r` is marked by recovery from the intent record: it is the one named, or a FORMAT names it or a lower one (R146
step 3). -/
def Retained.named (n : Retained) (r : Region) : Prop :=
  ∃ i, n.intent = some i ∧ (i.region = r ∨ (i.kind = .format ∧ i.region.val ≤ r.val))

/-- Whether a record is an OVERFLOW record. -/
def Event.isOverflow : Event → Bool
  | .overflow _ => true
  | _ => false

/-- A record whose count, where it has one, lies in 1 to 255 (R185). -/
def Event.countOk : Event → Bool
  | .overflow n => decide (1 ≤ n) && decide (n ≤ Config.overflowLimit)
  | _ => true

/-- The form of the event queue (R184, R185): at most 15 records and then, as the newest alone, an OVERFLOW record. -/
def eventsOk (q : List Event) : Bool :=
  decide (q.dropLast.length ≤ Config.eventLimit) && q.dropLast.all (fun e => !e.isOverflow) && q.all Event.countOk
    && decide (q.length ≤ Config.eventLimit ∨ q.getLast?.any Event.isOverflow)

/-- The part is powered and out of reset; a pin reset may wait for an array operation (R147). -/
def State.running (s : State) : Prop := s.power = .on ∨ ∃ x, s.power = .resetPending x

/-- The retained image of every region follows its working entry while the part runs, with the differences of R8, and with one
of the model's own: a region of which FORMAT has cleared an entry unwritten stays as with the entry (DESIGN CHOICE, log 35). -/
def State.retainedOk (s : State) : Prop :=
  s.running → ∀ r : Region, s.nv.regions[r] = nvImage s.table[r] (s.unwritten r)

/-- The copy stamp of every region stands in the retained image. -/
def State.stampsRetained (s : State) : Prop := ∀ r : Region, s.nv.regions[r].stamp = s.table[r].stamp

/-- The limits of the counted stores: Apply Queue, pull records, serving records, census front list with no region twice,
arbiter counts, fault count and PULL entries (R140, R114, R122, R52, R137, R37, R65). -/
def State.limitsOk (s : State) : Prop :=
  s.applyQ.length ≤ Config.applyLimit ∧ s.catchup.pulls.length ≤ Config.pullLimit
    ∧ s.serving.length ≤ Config.servingLimit ∧ (s.roster.front.length ≤ Config.censusLimit ∧ s.roster.front.Nodup)
    ∧ s.arb.hostStreak ≤ Config.arbiterLimit ∧ s.arb.imageWait ≤ Config.arbiterLimit
    ∧ s.line.faults ≤ Config.faultLimit ∧ s.out.entries.countP OutEntry.isPull ≤ Config.pullEntryLimit

/-- The span that a command in the command buffer has yet to touch lies in its region (R1). -/
def Work.spanOk : Work → Bool
  | .read w => inRegion w.pos w.left
  | .write w => inRegion w.offset w.data.length
  | .setup _ _ => true
  | .format _ _ => true

/-- Every span that waits for the array lies in its region: the command buffer's and the Apply Queue's (R1, R134). -/
def State.spansOk (s : State) : Prop :=
  (∀ e ∈ s.applyQ, inRegion e.body.span.1 e.body.span.2.length = true)
    ∧ (∀ w, s.port.state = .working w → w.spanOk = true)

/-- FETCHING. -/
def CopyState.isFetching : CopyState → Bool
  | .fetching _ => true
  | .current | .stale _ => false

/-- A copy is FETCHING exactly while the Catch-up Unit holds an open pull record for its region (R7). -/
def State.fetchingOk (s : State) : Prop :=
  ∀ r : Region, s.table[r].copy.isFetching = s.catchup.pulls.any (fun p => p.region == r)

/-- A copy is FETCHING exactly while its region has an open pull record (R7); pull records are open only in ACTIVE and ISOLATED
(R113, R119, R159); FORMAT runs only in OFFLINE (R154); and the transmit slot is filled only with the transmitter on (Table
2-1). -/
def State.pullsOk (s : State) : Prop :=
  s.fetchingOk ∧ (s.catchup.pulls ≠ [] → s.ctl.state.working = true)
    ∧ (∀ r k, s.port.state = .working (.format r k) → s.ctl.state = .offline)
    ∧ (s.line.slot ≠ none → s.ctl.state.onLine = true)

/-- What entry to HALTED leaves (R167): line off, timers stopped, Outbox, catch-up, serving table and roster cleared. -/
def State.haltedClear (s : State) : Prop :=
  s.ctl.state = .halted ∧ s.line.slot = none ∧ s.line.rx = none ∧ (∀ n : Station, s.line.strangers[n] = none)
    ∧ s.ctl.beaconTimer = none ∧ s.ctl.beaconDue = false ∧ s.ctl.listenTimer = none ∧ s.ctl.leaveTimer = none
    ∧ s.out.entries = [] ∧ s.out.reserved = none ∧ s.out.fence = none ∧ s.out.hostClaim = none
    ∧ s.out.sweep.phase = .inactive ∧ s.out.sweep.outstanding = none ∧ s.catchup = ⟨[], 0, []⟩ ∧ s.serving = []
    ∧ (∀ n : Station, s.roster.entries[n] = ⟨.absent, none, false⟩) ∧ s.roster.front = []

/-- What entry to HALTED does to the regions, the Apply Queue and the Host Port, from `s` to `t` (R167 steps 1, 4 and 5, R119,
R141, R17): a write in progress stays and every other Apply Queue entry is cleared; a region with a cleared entry is STALE
DAMAGED, and one that the station owned is UNKNOWN with its flags no; the copy of any other cleared pull is STALE; stamps and held
stay. -/
def State.haltedFrom (s t : State) : Prop :=
  let writing := if s.arb.op = some .apply then 1 else 0
  let cleared := fun r : Region => ∃ e ∈ s.applyQ.drop writing, e.region = r
  t.applyQ = s.applyQ.take writing
    ∧ (∀ r : Region, t.table[r].stamp = s.table[r].stamp ∧ t.table[r].held = s.table[r].held
        ∧ (cleared r → t.table[r].copy = .stale .damaged)
        ∧ (¬ cleared r → ∀ k p, s.table[r].copy = .fetching k → s.pullOf r = some p →
          t.table[r].copy = .stale (if p.taken then .damaged else k))
        ∧ (¬ cleared r → (∀ k, s.table[r].copy ≠ .fetching k) → t.table[r].copy = s.table[r].copy)
        ∧ (cleared r → s.owns r = true → t.table[r].owner = none ∧ t.table[r].yieldReady = false
          ∧ t.table[r].votePending = false ∧ t.table[r].writeHold = false)
        ∧ (¬ cleared r ∨ s.owns r = false → t.table[r].owner = s.table[r].owner
          ∧ t.table[r].yieldReady = s.table[r].yieldReady
          ∧ t.table[r].writeHold = (s.table[r].writeHold && !(s.servingOf r).isSome)
          ∧ ((∀ c bit, s.line.rx = some ⟨.claim c, bit, true⟩ → c.region ≠ r) →
            t.table[r].votePending = s.table[r].votePending)))
    ∧ (∀ c bit, s.line.rx = some ⟨.claim c, bit, true⟩ → t.table[c.region].votePending = false)
    ∧ (∀ w, s.port.state = .working (.write w) → cleared w.region → s.owns w.region = true → s.arb.op ≠ some .hostWrite →
        t.port.state = .answer ⟨0x02, .notOwner, []⟩)
    ∧ ((∀ w, s.port.state = .working (.write w) → ¬ cleared w.region ∨ s.owns w.region = false ∨ s.arb.op = some .hostWrite) →
        t.port.state = s.port.state)
    ∧ t.nv.array = s.nv.array

/-- The states and phases in which the Outbox may hold entries (R86, R112, R164, R166). -/
def Controller.mayHoldEntries (c : Controller) : Bool :=
  match c.state with
  | .active | .isolated | .dozing => true
  | .leaving => c.leavePhase == .drain
  | .offline | .listening | .halted => false

/-- A CLAIM entry with source HOST. -/
def OutEntry.isHost (e : OutEntry) : Bool := match e.body with | .claim .host => true | _ => false

/-- At most one CLAIM entry of each source, the host claim's and the sweep's outstanding one (R88, R104). -/
def State.claimsOk (s : State) : Prop :=
  (∀ e ∈ s.out.entries, (e.body = .claim .host → s.out.hostClaim = some e.region)
      ∧ (e.body = .claim .sweep → s.out.sweep.outstanding = some e.region))
    ∧ s.out.entries.countP OutEntry.isHost ≤ 1 ∧ s.out.entries.countP OutEntry.isSweep ≤ 1

/-- A WRITE in progress has its room: a reserved slot, a place below the limit, or the candidate held for it; and an UPDATE entry
being sent is sealed (R61, R69). -/
def State.roomOk (s : State) : Prop :=
  (∀ w, s.port.state = .working (.write w) → s.out.reserved.isSome = true ∨ s.out.updateCount < Config.updateLimit
      ∨ ∃ u, s.out.youngest w.region = some u ∧ u.offset = w.offset ∧ u.data.length = w.data.length ∧ u.sealed = false
        ∧ u.held = true)
    ∧ (∀ e ∈ s.out.entries, e.sending = true → ∀ u, e.body = .update u → u.sealed = true)

/-- IMAGE entries and chunk reads under way are two at most together, a region has one serving record at most, and a live chunk
read is its record's (R65, R122, R123). -/
def State.imagesOk (s : State) : Prop :=
  s.out.entries.countP OutEntry.isImage + s.serving.countP ServingRecord.reading ≤ Config.imageLimit
    ∧ (s.serving.map (·.region)).Nodup
    ∧ (∀ r k stamp, s.arb.op = some (.chunkRead r k stamp true) → ∃ v ∈ s.serving, v.region = r ∧ v.reading = true)

/-- The station states in which the Outbox holds entries, regions are served, the sweep runs and a WRITE is in progress, and what
LEAVING does to beacons (R86, R103, R120, R159, R163, R166). -/
def State.phasesOk (s : State) : Prop :=
  (s.out.entries ≠ [] → s.ctl.mayHoldEntries = true) ∧ (s.serving ≠ [] → s.ctl.state.working = true)
    ∧ (s.out.sweep.phase = .running → s.ctl.state = .active)
    ∧ (∀ w, s.port.state = .working (.write w) → s.ctl.state.working = true ∨ s.ctl.state = .halted)
    ∧ (∀ b w, s.line.slot = some ⟨.beacon b, w⟩ → b.mode = .leaving → s.ctl.state = .leaving ∧ s.ctl.leavePhase = .final)
    ∧ (s.ctl.state = .leaving → s.ctl.beaconTimer = none)
    ∧ (s.ctl.state = .leaving → s.ctl.leavePhase = .drain → s.ctl.beaconDue = false)

/-- The Outbox within its limits by kind: 10 UPDATE entries with a reserved slot counted, 2 CLAIM and 2 IMAGE (R65), with what the
blocks that add entries keep to (R61, R88, R104, R123). -/
def State.outboxOk (s : State) : Prop :=
  s.out.updateCount ≤ Config.updateLimit ∧ s.out.entries.countP OutEntry.isClaim ≤ 2
    ∧ s.out.entries.countP OutEntry.isImage ≤ Config.imageLimit
    ∧ s.claimsOk ∧ s.roomOk ∧ s.imagesOk ∧ s.phasesOk

/-- A region that the station owns is CURRENT with its owner epoch equal to the copy epoch (R5, R9); the station owns none in
OFFLINE; it claims, with one CLAIM entry a region, only regions that it does not own; a CLAIM being sent is that of a SENDING
entry, at the stamp of a CURRENT copy (R89, R97); and no frame under way bears its own number (R30). -/
def State.ownershipOk (s : State) : Prop :=
  (∀ r : Region, s.owns r = true → s.table[r].copy = .current
      ∧ ∃ o, s.table[r].owner = some o ∧ o.epoch = s.table[r].stamp.epoch)
    ∧ (s.ctl.state = .offline → ∀ r : Region, s.owns r = false)
    ∧ (∀ e ∈ s.out.entries, e.isClaim = true → s.owns e.region = false)
    ∧ ((s.out.entries.filter OutEntry.isClaim).map (·.region)).Nodup
    ∧ (∀ c w, s.line.slot = some ⟨.claim c, w⟩ → s.table[c.region].copy = .current ∧ s.table[c.region].stamp = c.stamp
        ∧ ∃ e ∈ s.out.entries, e.isClaim = true ∧ e.sending = true ∧ e.region = c.region)
    ∧ (∀ f bit acked, s.line.rx = some ⟨f, bit, acked⟩ → f.origin ≠ s.own)

/-- STALE. -/
def CopyState.isStale : CopyState → Bool
  | .stale _ => true
  | .current | .fetching _ => false

/-- The catch-up list holds each region at most once and only STALE ones (R110); a parked region is STALE and not listed (R111);
and both are empty but in ACTIVE, ISOLATED and DOZING (R112). -/
def State.catchupOk (s : State) : Prop :=
  s.catchup.list.Nodup ∧ (∀ r ∈ s.catchup.list, s.table[r].copy.isStale = true)
    ∧ (∀ r : Region, inMap s.catchup.parked r = true → s.table[r].copy.isStale = true ∧ r ∉ s.catchup.list)
    ∧ (s.ctl.state.working = false → s.ctl.state ≠ .dozing → s.catchup.list = [] ∧ s.catchup.parked = 0)

/-- The entries es after the removal of those that hit names: a WAITING one is gone, and a SENDING one stays, marked for its
discard at the end of its attempt unless it is marked already (R26, R67). -/
def removalAsked (hit : OutEntry → Bool) (es : List OutEntry) : List OutEntry :=
  (es.filter (fun x => !(hit x && !x.sending))).map
    (fun x => if hit x = true ∧ x.doom = .none then { x with doom := .discard } else x)

/-- The arbiter after the end of the serving records of the regions that ended names: the data of a chunk read in progress of
one of them is discarded at its completion (R127). -/
def State.arbAfterServing (s : State) (ended : Region → Bool) : Arbiter :=
  { s.arb with op := s.arb.op.map (fun x => match x with
      | .chunkRead q k stamp live => .chunkRead q k stamp (live && !ended q)
      | y => y) }

/-- The first two steps of the handing on of a status change: the Roster Unit records the new status of station n and posts
STATION (R44). -/
def State.statusTold (s : State) (n : Station) (st : Presence) : State :=
  { s with
    roster := { s.roster with entries := s.roster.entries.set n { s.roster.entries[n] with status := st } }
    events := postTo s.events (.station n st) }

/-- The entries es after the ownership of region r has gone: a WRITE to r that waits for its grant is answered, and with it ends
the hold on the entry that it was to merge into (R17, R61). -/
def State.turnedAway (s : State) (r : Region) (es : List OutEntry) : List OutEntry :=
  match s.port.state with
  | .working (.write w) =>
    if w.region = r ∧ s.arb.op ≠ some .hostWrite then es.map (OutEntry.mapUpdate fun u => { u with held := false }) else es
  | _ => es

/-- The ack-point decision of a frame's kind (Table 1-7): the bit and the state after. -/
def ackPoint (guardPin : Bool) : Frame → State → Bool × State
  | .beacon b => State.beaconAct b
  | .claim c => State.claimAct c guardPin
  | .pull p => State.pullAct p
  | .update u => State.updateAct u
  | .image i => State.imageAct i

/-- The working member set, and one that a SETUP is about to write, hold the station's own number (section 4.4, R153). -/
def State.selfMember (s : State) : Prop :=
  s.isMember s.own = true ∧ ∀ m g, s.port.state = .working (.setup m g) → inMap m s.own = true

/-- Stamp order, as "not lower". -/
def stampUpTo (a b : Stamp) : Prop := stampLower b a = false

end Sys2Proof.Machine
end

