-- ==== Sys2Proof/Certificates/Slice0/Obligations.lean ====
section
/-! DEFINITION. The statements for the provers. Each is a proposition about the machine as it stands; its docstring names the
rule it formalises, and where it rests on a choice of the model, the log entry. -/

open Sys2Proof Sys2Proof.Machine

/-! ### The queue of commands -/

/-- A step takes the command at the front of the queue and runs it with the rest of the queue. -/
def Obligations.StepRunsFrontCommand : Prop :=
  ∀ (s : State) (c : Instr) (rest : List Instr), s.pending = c :: rest → step s = exec c { s with pending := rest }

/-- With no command waiting a millisecond passes (the model's choice, log 7): every running timer goes on, no farther than its
last threshold; the expiries that stand at a threshold wait as commands; and nothing else changes. A part without power or in
reset does nothing. -/
def Obligations.EmptyQueueLetsTimePass : Prop :=
  ∀ s : State, s.pending = [] →
    (s.power ≠ .on → step s = .next s) ∧
    (s.power = .on → ∃ t, step s = .next t
      ∧ t.ctl = { s.ctl with
          beaconTimer := s.ctl.beaconTimer.map (fun n => min (n + 1) 8)
          listenTimer := s.ctl.listenTimer.map (fun n => min (n + 1) 16)
          leaveTimer := s.ctl.leaveTimer.map (fun n => min (n + 1) 250) }
      ∧ (∀ n : Station, t.line.strangers[n] = s.line.strangers[n].map (fun k => min (k + 1) 48))
      ∧ t.line.slot = s.line.slot ∧ t.line.rx = s.line.rx ∧ t.line.syncing = s.line.syncing ∧ t.line.faults = s.line.faults
      ∧ (∀ n : Station, t.roster.entries[n] =
          { s.roster.entries[n] with timer := s.roster.entries[n].timer.map (fun k => min (k + 1) 48) })
      ∧ t.roster.cursor = s.roster.cursor ∧ t.roster.front = s.roster.front ∧ t.roster.lastAck = s.roster.lastAck
      ∧ t.catchup = { s.catchup with
          pulls := s.catchup.pulls.map (fun p => { p with timer := p.timer.map (fun k => min (k + 1) 32) }) }
      ∧ t.power = s.power ∧ t.nv = s.nv ∧ t.port = s.port ∧ t.events = s.events ∧ t.table = s.table ∧ t.out = s.out
      ∧ t.applyQ = s.applyQ ∧ t.unsaved = s.unsaved ∧ t.serving = s.serving ∧ t.arb = s.arb ∧ t.serial = s.serial
      ∧ t.free = s.free
      ∧ (∀ c ∈ t.pending,
          (∃ n : Station, c = .silenceTimer24ms n ∧ t.roster.entries[n].timer = some 24)
          ∨ (∃ n : Station, c = .silenceTimer48ms n ∧ t.roster.entries[n].timer = some 48)
          ∨ (∃ n : Station, c = .strangerTimerExpiry n ∧ t.line.strangers[n] = some 48)
          ∨ (c = .beaconTimerExpiry ∧ t.ctl.beaconTimer = some 8)
          ∨ (c = .listenExpiry ∧ t.ctl.listenTimer = some 16)
          ∨ (c = .leaveDrainCut ∧ t.ctl.leavePhase = .drain ∧ t.ctl.leaveTimer = some 250)
          ∨ (c = .leaveFinalExpiry ∧ t.ctl.leavePhase = .final ∧ t.ctl.leaveTimer = some 250)
          ∨ (∃ p ∈ t.catchup.pulls, c = .answerTimerExpiry p.region ∧ p.timer = some 32))
      ∧ (∀ n : Station, t.roster.entries[n].timer = some 24 → .silenceTimer24ms n ∈ t.pending)
      ∧ (∀ n : Station, t.roster.entries[n].timer = some 48 → .silenceTimer48ms n ∈ t.pending)
      ∧ (∀ n : Station, t.line.strangers[n] = some 48 → .strangerTimerExpiry n ∈ t.pending)
      ∧ (t.ctl.beaconTimer = some 8 → .beaconTimerExpiry ∈ t.pending)
      ∧ (t.ctl.listenTimer = some 16 → .listenExpiry ∈ t.pending)
      ∧ (t.ctl.leaveTimer = some 250 → t.ctl.leavePhase = .drain → .leaveDrainCut ∈ t.pending)
      ∧ (t.ctl.leaveTimer = some 250 → t.ctl.leavePhase = .final → .leaveFinalExpiry ∈ t.pending)
      ∧ (∀ p ∈ t.catchup.pulls, p.timer = some 32 → .answerTimerExpiry p.region ∈ t.pending))

/-- No command's effect touches the queue of waiting commands. -/
def Obligations.ExecKeepsQueue : Prop :=
  ∀ (c : Instr) (s t : State), exec c s = .next t → t.pending = s.pending

/-! ### Resets and power (R134, R146, R147) -/

/-- The machine right after reset: OFFLINE, every block at the values of its reset table, no intent record, and RESET_DONE with
cause POWER and an empty map as the one event. The strap levels and the retained values of a new part are the model's choices
(log 1, log 2) and are not stated here, but that an unwritten setup record gives the member set {own number} and an empty guard
set (R18, R145). -/
def Obligations.ResetState : Prop :=
  State.reset.power = .on ∧ State.reset.cleared ∧ State.reset.events = [.resetDone .power 0]
    ∧ State.reset.nv.intent = none ∧ (∀ r : Region, State.reset.nv.regions[r].inFlight = false)
    ∧ State.reset.nv.setup.written = false ∧ State.reset.ctl.guardSet = 0
    ∧ (∀ n : Station, inMap State.reset.ctl.members n = (n == State.reset.ctl.number))
    ∧ State.reset.pending = []

/-- The part comes up from its retained state at a power-on reset of a part without power, and at the release of RESET# of a
part held in reset (R146 steps 1 to 6, R145, R147, R188): working entries as retained, the setup record loaded, the regions that
the intent record names STALE DAMAGED in both images, the record and the in-flight marks cleared, the damaged map in RESET_DONE,
and every other block at its reset values. Where the host still holds CS# low the port goes on ignoring the serial clock (R193). -/
def Obligations.ComesUpFromRetainedState : Prop :=
  ∀ (s : State) (straps : Straps) (c : Instr) (cause : ResetCause),
    (s.power = .off ∧ c = .powerOnReset straps ∧ cause = .power
      ∨ s.power = .inReset ∧ c = .resetReleased straps ∧ cause = .pin) →
    ∃ t m, exec c s = .next t ∧ t.power = .on ∧ t.cleared
      ∧ t.ctl.number = straps.number ∧ t.ctl.rate = straps.rate
      ∧ (∀ n : Station, inMap t.ctl.members n = (n == straps.number || (s.nv.setup.written && inMap s.nv.setup.members n)))
      ∧ (∀ r : Region, inMap t.ctl.guardSet r = (s.nv.setup.written && inMap s.nv.setup.guardSet r))
      ∧ (∀ r : Region, t.table[r].stamp = s.nv.regions[r].stamp ∧ t.table[r].held = s.nv.regions[r].held
          ∧ (s.nv.named r → t.table[r].copy = .stale .damaged ∧ t.nv.regions[r].stale = some .damaged)
          ∧ (¬ s.nv.named r → t.nv.regions[r].stale = s.nv.regions[r].stale
              ∧ (s.nv.regions[r].stale = none → t.table[r].copy = .current)
              ∧ (∀ k, s.nv.regions[r].stale = some k → t.table[r].copy = .stale k))
          ∧ t.nv.regions[r].stamp = s.nv.regions[r].stamp ∧ t.nv.regions[r].held = s.nv.regions[r].held
          ∧ t.nv.regions[r].inFlight = false)
      ∧ t.nv.array = s.nv.array ∧ t.nv.setup = s.nv.setup ∧ t.nv.intent = none
      ∧ t.events = [.resetDone cause m]
      ∧ (∀ r : Region, inMap m r = true ↔ s.nv.named r ∨ s.nv.regions[r].inFlight = true)
      ∧ (s.port.cs ≠ .high → t.port.cs = .ignored)
      ∧ t.pending = s.pending

/-- RESET# asserted (R39, R147, R193): with no array operation in progress the working state is cleared and the part is in reset;
with one in progress the line is let go at once and the reset waits. In both cases a transaction of the Host Port is ended, and the
serial clock is ignored until CS# has been seen high. RESET# released meanwhile is remembered with the straps sampled
then. The retained state is as it was. At the completion of an array operation a waiting pin reset takes effect, with the
retained state as the completion left it, and the part stays in reset or, where RESET# has been released, comes up with cause
PIN, as at a release of RESET# in the cleared state; without a waiting reset the arbiter and what waits on it go on (R147). -/
def Obligations.PinReset : Prop :=
  (∀ s : State,
     (s.power = .on → s.arb.op = none → ∃ t, exec .resetAsserted s = .next t ∧ t.power = .inReset ∧ t.cleared
       ∧ t.nv = s.nv ∧ t.events = [] ∧ t.port.cs = (if s.port.cs = .high then .high else .ignored) ∧ t.pending = s.pending)
     ∧ (s.power = .on → s.arb.op ≠ none →
         exec .resetAsserted s = .next { s with
           power := .resetPending none
           line := { s.line with slot := none, rx := none }
           port := { s.port with cs := if s.port.cs = .high then .high else .ignored } })
     ∧ (∀ straps, s.power = .resetPending none →
         exec (.resetReleased straps) s = .next { s with power := .resetPending (some straps) })) ∧
  (∀ s : State,
     (s.power = .on → s.finishOp = s.resume)
     ∧ (s.power = .resetPending none → s.finishOp.power = .inReset ∧ s.finishOp.cleared ∧ s.finishOp.nv = s.nv
         ∧ s.finishOp.events = [] ∧ s.finishOp.pending = s.pending)
     ∧ (∀ straps, s.power = .resetPending (some straps) → s.finishOp.power = .on ∧ s.finishOp.cleared
         ∧ s.finishOp.ctl.number = straps.number ∧ s.finishOp.nv.array = s.nv.array ∧ s.finishOp.nv.setup = s.nv.setup
         ∧ s.finishOp.nv.intent = none
         ∧ (∃ m, s.finishOp.events = [.resetDone .pin m]
           ∧ ∀ r : Region, inMap m r = true ↔ s.nv.named r ∨ s.nv.regions[r].inFlight = true)
         ∧ s.finishOp.pending = s.pending
         ∧ ∃ u, u.power = .inReset ∧ u.cleared ∧ u.nv = s.nv ∧ u.events = [] ∧ u.pending = s.pending
           ∧ u.port.cs = (if s.port.cs = .high then .high else .ignored) ∧ exec (.resetReleased straps) u = .next s.finishOp))

/-- Loss of power (R134, R142): the working state is gone; the retained regions and the intent record stand; every array byte
outside the span of a write in progress stands; and the setup record reads as before, or as a SETUP being written would have it.
-/
def Obligations.PowerLossKeepsRetainedState : Prop :=
  ∀ s : State, Memory.wf s.nv.array = true → s.power ≠ .off →
    ∃ t, exec .powerLost s = .next t ∧ t.power = .off ∧ t.cleared ∧ t.events = []
      ∧ t.nv.regions = s.nv.regions ∧ t.nv.intent = s.nv.intent
      ∧ (t.nv.setup = s.nv.setup ∨ ∃ m g, s.port.state = .working (.setup m g) ∧ t.nv.setup = ⟨true, m, g⟩)
      ∧ (∀ a, (∀ r k n, s.writeSpan = some (r, k, n) → a < 4096 * r.val + k ∨ 4096 * r.val + k + n ≤ a) →
          memRead t.nv.array a = memRead s.nv.array a)
      ∧ t.pending = s.pending

/-! ### The Host Port -/

/-- INCOMPLETE_PUT and UNKNOWN_SELECTOR drive nothing on serial data out, on which the host then reads FFh throughout, and change
no state of the part (R174, R170, R199); that CS# is high after them is the model's own mark (log 36). FRAME_DISCARDED changes
nothing (R29). A put in IDLE whose command code is none of the seventeen is refused BAD_ARGUMENT, the answer carrying the code
(R174). The field of driven bits is the model's own (DESIGN CHOICE, log 10). -/
def Obligations.RowsWithoutEffectAndUnknownCode : Prop :=
  (∀ (s : State) (selector : Byte),
     exec .incompletePut s = .next { s with port := { s.port with sdo := [], cs := .high } }
     ∧ exec (.unknownSelector selector) s = .next { s with port := { s.port with sdo := [], cs := .high } }
     ∧ (∀ (p : Port) (n : Nat), p.sdo = [] → p.hostReads n = List.replicate n 0xFF ∧ p.sdoLevel n = true)
     ∧ exec .frameDiscarded s = .next s) ∧
  (∀ (s : State) (code : Byte), s.takesPut → (code.toNat = 0 ∨ 17 < code.toNat) →
     exec (.unknownCommandCode code) s
       = .next { s with port := ⟨.answer ⟨code, .badArgument, [code]⟩, s.port.refused, [], .high⟩ })

/-- A complete put in WORKING or ANSWER sets the refused flag and does nothing else to the part, whatever its command, and bit 4
of the poll byte shows it (R173). What serial data out does in it is no clause here. -/
def Obligations.PutRefusedByPort : Prop :=
  ∀ (s : State) (c : Instr), isPut c = true → s.power = .on → s.port.state ≠ .idle →
    ∃ t, exec c s = .next t
      ∧ t = { s with port := ⟨s.port.state, true, t.port.sdo, t.port.cs⟩ }
      ∧ t.pollByte.getLsbD 4 = true

/-- A take clocks the answer block out from its first byte, most significant bit first, with fill of 00h after it, and releases it
once its final byte is out whole; in IDLE and WORKING it clocks out the block of no command and NONE (R175, R199). A poll clocks
out poll bytes, with answer ready in bit 7, working in bit 6, events pending in bit 5, last put refused in bit 4, 0 in bit 3 and
the station state in bits 2 to 0; each is taken at its own first bit, and the refused flag is cleared with the last bit of a byte
that shows it (R176, R199). Serial data out is driven bit by bit until CS# rises, in a byte cut short too; nothing is driven, and
no flag cleared, in a part without power or in reset and in a poll whose CS# has been low since a reset (R193). That a poll whose
CS# the host holds low goes on in a later POLL is how the model gives the bits between which something comes about (log 36). The
field of driven bits is the model's own (DESIGN CHOICE, log 10), and what the rows do to it outside normal operation its reading
(DEDUCED, log 12). -/
def Obligations.TakeAndPoll : Prop :=
  let clocked := fun (block : List Byte) (bits : Nat) =>
    (List.range bits).map (fun i => (block.getD (i / 8) 0).getLsbD (7 - i % 8))
  (∀ (s : State) (bits : Nat),
     (s.power = .on → ∀ a, s.port.state = .answer a → exec (.take bits) s = .next { s with port := { s.port with
         state := if 8 * (4 + a.data.length) ≤ bits then .idle else .answer a
         sdo := clocked (a.code :: a.result.byte :: bytesBE 2 a.data.length ++ a.data) bits
         cs := .high } })
     ∧ (s.power = .on → (∀ a, s.port.state ≠ .answer a) → exec (.take bits) s = .next { s with port := { s.port with
         sdo := clocked [0x00, 0x02, 0x00, 0x00] bits
         cs := .high } })
     ∧ (s.power ≠ .on → exec (.take bits) s = .next { s with port := { s.port with sdo := [], cs := .high } })) ∧
  (∀ (s : State) (n : Nat) (held : Bool),
     let later := ({ s with port := { s.port with refused := false } } : State).pollByte
     let drives := fun (b : Byte) => { s with port := { s.port with
       sdo := s.port.sdo ++ [b.getLsbD (7 - s.port.sdo.length % 8)]
       cs := .polling b
       refused := s.port.refused && !(s.port.sdo.length % 8 == 7 && b.getLsbD 4) } }
     (s.power = .on → s.port.cs = .high → exec (.poll ⟨n, held⟩) s = .next { s with port := { s.port with
         refused := s.port.refused && decide (n < 8)
         sdo := (List.range n).map (fun i => (if i < 8 then s.pollByte else later).getLsbD (7 - i % 8))
         cs := if held = true then .polling (if n ≤ 8 then s.pollByte else later) else .high } })
     ∧ (s.power = .on → ∀ b, s.port.cs = .polling b →
       exec (.poll ⟨0, held⟩) s = .next { s with port := { s.port with cs := if held = true then .polling b else .high } }
       ∧ exec (.poll ⟨n + 1, held⟩) s
         = exec (.poll ⟨n, held⟩) (drives (if s.port.sdo.length % 8 = 0 then s.pollByte else b)))
     ∧ (s.power = .on → s.port.cs = .ignored →
       exec (.poll ⟨n, held⟩) s = .next { s with port := { s.port with cs := if held = true then .ignored else .high } })
     ∧ (s.power ≠ .on → exec (.poll ⟨n, held⟩) s = .next { s with port := { s.port with
         sdo := if s.port.cs = .high then [] else s.port.sdo
         cs := if held = true then .ignored else .high } })
     ∧ s.pollByte.getLsbD 7 = (match s.port.state with | .answer _ => true | _ => false)
     ∧ s.pollByte.getLsbD 6 = (match s.port.state with | .working _ => true | _ => false)
     ∧ s.pollByte.getLsbD 5 = !s.events.isEmpty ∧ s.pollByte.getLsbD 4 = s.port.refused ∧ s.pollByte.getLsbD 3 = false
     ∧ s.pollByte.toNat % 8 = (match s.ctl.state with
         | .offline => 0 | .listening => 1 | .active => 2 | .isolated => 3 | .dozing => 4 | .leaving => 5 | .halted => 6))

/-- The overflow rule (R185): a post that finds 15 records and no OVERFLOW record appends an OVERFLOW record with count 1 in
place of its own; while one is in the queue a post raises its count, up to 255, and drops the event. -/
def Obligations.EventQueueOverflows : Prop :=
  ∀ (s : State) (e : Event) (q : List Event),
    (s.events = q → (∀ x ∈ q, x.isOverflow = false) → q.length < 15 → s.post e = { s with events := q ++ [e] })
    ∧ (s.events = q → (∀ x ∈ q, x.isOverflow = false) → 15 ≤ q.length → s.post e = { s with events := q ++ [.overflow 1] })
    ∧ (∀ n, s.events = q ++ [.overflow n] → s.post e = { s with events := q ++ [.overflow (if n < 255 then n + 1 else 255)] })

/-! ### Host commands -/

/-- READ (R138): a region, offset or length out of range is refused BAD_ARGUMENT and a FETCHING copy NOT_READY; any other READ
is taken in every station state with the stamp, copy state and cause of that moment, and asks for the array. READ_PIECE_DONE
(R139): the piece runs to the end of its chunk or of the span; the next piece is presented, or DONE is placed with the stamp,
copy state and cause recorded at the taking and the bytes read. -/
def Obligations.ReadCheckedAndCarriedOut : Prop :=
  (∀ (s : State) (region : Byte) (offset length : BitVec 16), s.takesPut →
     (64 ≤ region.toNat ∨ 4096 ≤ offset.toNat ∨ length.toNat = 0 ∨ 4096 < offset.toNat + length.toNat →
       exec (.read region offset length) s = .next (s.undriven.answer 0x01 .badArgument []))
     ∧ (∀ r : Region, region.toNat = r.val → offset.toNat < 4096 → 1 ≤ length.toNat → offset.toNat + length.toNat ≤ 4096 →
       (∀ k, s.table[r].copy = .fetching k → exec (.read region offset length) s = .next (s.undriven.answer 0x01 .notReady []))
       ∧ ((∀ k, s.table[r].copy ≠ .fetching k) →
         exec (.read region offset length) s = .next (State.arbitrate (s.undriven.work
           (.read ⟨r, s.table[r].stamp, s.table[r].copy, offset.toNat, length.toNat, [], s.serial⟩)))))) ∧
  (∀ (s : State) (w : ReadWork), s.arb.op = some .readPiece → s.port.state = .working (.read w) → w.pos + w.left ≤ 4096 →
     let n := min w.left (256 - w.pos % 256)
     let bytes := w.data ++ (List.range n).map (fun i => memRead s.nv.array (4096 * w.region.val + w.pos + i))
     let state : Byte := match w.copy with | .current => 0 | .stale _ => 1 | .fetching _ => 2
     let cause : Byte := match w.copy with | .stale .behind => 1 | .stale .damaged => 2 | .current | .fetching _ => 0
     let free := { s with arb := { s.arb with op := none } }
     exec .readPieceDone s = .next (State.finishOp (
       if w.left ≤ n then free.answer 0x01 .done (stampBytes w.stamp ++ [state, cause] ++ bytes)
       else free.work (.read { w with pos := w.pos + n, left := w.left - n, data := bytes }))))

/-- WRITE (R60, R61, R62): the check order of Table 4-1, and the room a taken WRITE takes: a reserved slot below ten UPDATE
entries, else the hold on its coalescing candidate. -/
def Obligations.WriteChecked : Prop :=
  ∀ (s : State) (region : Byte) (offset length : BitVec 16) (data : List Byte) (guardPin : Bool), s.takesPut →
    let spanOk := offset.toNat % 2 = 0 ∧ length.toNat % 2 = 0 ∧ 2 ≤ length.toNat ∧ length.toNat ≤ 256
      ∧ offset.toNat < 4096 ∧ offset.toNat / 256 = (offset.toNat + length.toNat - 1) / 256 ∧ data.length = length.toNat
    let refused := fun c => exec (.write region offset length data guardPin) s = .next (s.undriven.answer 0x02 c [])
    (64 ≤ region.toNat ∨ ¬ spanOk → refused .badArgument)
    ∧ (∀ r : Region, region.toNat = r.val → spanOk →
      (s.ctl.state = .isolated → refused .isolated)
      ∧ (s.ctl.state ≠ .active → s.ctl.state ≠ .isolated → refused .wrongState)
      ∧ (s.ctl.state = .active →
        if s.owns r = false ∨ s.table[r].votePending = true then refused .notOwner
        else if guardPin = true ∧ inMap s.ctl.guardSet r = true then refused .guarded
        else if s.table[r].writeHold = true then refused .held
        else if s.table[r].stamp.version.toNat = 2 ^ 48 - 1 then refused .exhausted
        else if s.out.updateCount < 10 then
          exec (.write region offset length data guardPin) s = .next (State.arbitrate { s with
            out := { s.out with reserved := some r }
            port := ⟨.working (.write ⟨r, offset.toNat, data, s.serial⟩), s.port.refused, [], .high⟩ })
        else if s.out.candidate r offset.toNat length.toNat = true then
          exec (.write region offset length data guardPin) s = .next (State.arbitrate { s with
            out := { s.out with entries := mapYoungest r (fun u => { u with held := true }) s.out.entries }
            port := ⟨.working (.write ⟨r, offset.toNat, data, s.serial⟩), s.port.refused, [], .high⟩ })
        else refused .full))

/-- WRITE_ARRAY_DONE (R63, R68, R17): at the owner the bytes are in the array, the version is one higher, the write is coalesced
into the unsealed youngest entry of the same span or appended as an UPDATE entry, a serving record of the region restarts, and
DONE carries the new stamp; where the ownership is gone, stamp and Outbox entries stay and the answer is NOT_OWNER. A serving
record restarts at the owner's new stamp (R128, R16): every target needs all 16 chunks with count 0, the pass stamp is the copy
stamp, the next chunk is 0, the restart count rises to at most 3 and sets write hold there, and no IMAGE entry of the region stays
WAITING. Without a record for the region nothing happens. In the retained image a region of which FORMAT has cleared an entry
unwritten counts as with the entry (DESIGN CHOICE, log 35). -/
def Obligations.WriteCompletesAndRestartsServing : Prop :=
  (∀ (s : State) (w : WriteWork), s.arb.op = some .hostWrite → s.port.state = .working (.write w) →
     w.offset + w.data.length ≤ 4096 →
     let r := w.region
     let e := s.table[r]
     let array := memWriteBytes s.nv.array (4096 * r.val + w.offset) w.data
     let version := if e.stamp.version.toNat = 2 ^ 48 - 1 then e.stamp.version else e.stamp.version + 1
     let unheld := fun es : List OutEntry => es.map (OutEntry.mapUpdate fun u => { u with held := false })
     (∀ o, e.owner = some o → o.station = s.own →
       exec .writeArrayDone s = .next (State.finishOp (State.answer (State.setIntent (State.restartServing { s with
           nv := { s.nv with
             array := array
             regions := s.nv.regions.set r (nvImage { e with stamp := ⟨e.stamp.epoch, version⟩ } (s.unwritten r)) }
           arb := { s.arb with op := none }
           table := s.table.set r { e with stamp := ⟨e.stamp.epoch, version⟩ }
           out := { s.out with
             reserved := none
             entries := unheld (
               if s.ctl.state = .halted then s.out.entries
               else if s.out.candidate r w.offset w.data.length = true then
                 mapYoungest r (fun u => { u with data := w.data, result := version }) s.out.entries
               else s.out.entries ++ [⟨r, .update ⟨w.offset, w.data, e.stamp.version, version, o.epoch, 0, false, false, false⟩,
                 false, .none⟩]) } } r) none) 0x02 .done (stampBytes ⟨e.stamp.epoch, version⟩))))
     ∧ (s.owns r = false →
       exec .writeArrayDone s = .next (State.finishOp { s with
         nv := { s.nv with array := array, intent := none }
         arb := { s.arb with op := none }
         out := { s.out with reserved := none, entries := unheld s.out.entries }
         port := { s.port with state := .answer ⟨0x02, .notOwner, []⟩ } }))) ∧
  (∀ (s : State) (r : Region),
     (s.servingOf r = none → s.restartServing r = s)
     ∧ (∀ v, s.servingOf r = some v → ∃ t, s.restartServing r = t
       ∧ t.serving = s.serving.map (fun x => if x.region = r then
           { v with
             stamp := s.table[r].stamp
             targets := v.targets.map (fun q => { q with needed := 0xFFFF, noProgress := 0 })
             next := 0
             restarts := min (v.restarts + 1) 3
             read := .none }
         else x)
       ∧ t.table[r] = { s.table[r] with writeHold := s.table[r].writeHold || decide (2 ≤ v.restarts) }
       ∧ (∀ q : Region, q ≠ r → t.table[q] = s.table[q])
       ∧ (∀ x ∈ t.out.entries, x.region = r → x.isImage = true → x.sending = true ∧ x.doom ≠ .none)
       ∧ t.out.entries.filter (fun x => !(x.isImage && x.region == r))
           = s.out.entries.filter (fun x => !(x.isImage && x.region == r))
       ∧ t.port = s.port ∧ t.ctl = s.ctl ∧ t.line = s.line ∧ t.roster = s.roster ∧ t.catchup = s.catchup
       ∧ t.applyQ = s.applyQ ∧ t.nv.array = s.nv.array))

/-- CLAIM (R87): the check order of Table 5-1, the owner's DONE with the copy stamp, and the CLAIM entry with the open host
claim of a claim that is taken. -/
def Obligations.ClaimChecked : Prop :=
  ∀ (s : State) (region : Byte) (guardPin : Bool), s.takesPut →
    let answered := fun c d => exec (.claim region guardPin) s = .next (s.undriven.answer 0x03 c d)
    (64 ≤ region.toNat → answered .badArgument [])
    ∧ (∀ r : Region, region.toNat = r.val →
      (s.ctl.state = .isolated → answered .isolated [])
      ∧ (s.ctl.state ≠ .active → s.ctl.state ≠ .isolated → answered .wrongState [])
      ∧ (s.ctl.state = .active →
        if s.owns r = true then answered .done (stampBytes s.table[r].stamp)
        else if s.table[r].copy ≠ .current then answered .notCurrent []
        else if guardPin = true ∧ inMap s.ctl.guardSet r = true then answered .guarded []
        else if s.table[r].stamp.epoch.toNat = 65535 then answered .exhausted []
        else if s.out.hostClaim ≠ none ∨ ∃ e ∈ s.out.entries, e.region = r ∧ e.body = .claim .sweep then answered .busy []
        else exec (.claim region guardPin) s = .next { s with
          out := { s.out with entries := s.out.entries ++ [⟨r, .claim .host, false, .none⟩], hostClaim := some r }
          port := ⟨.answer ⟨0x03, .accepted, []⟩, s.port.refused, [], .high⟩ }))

/-- RELEASE and KEEP (R102, R14): argument, station state, owner and, for RELEASE alone, guard; then yield-ready is set or
cleared and the answer is DONE. -/
def Obligations.ReleaseAndKeep : Prop :=
  ∀ (s : State) (region : Byte) (guardPin : Bool), s.takesPut →
    (64 ≤ region.toNat → exec (.release region guardPin) s = .next (s.undriven.answer 0x04 .badArgument [])
      ∧ exec (.keep region) s = .next (s.undriven.answer 0x05 .badArgument []))
    ∧ (∀ r : Region, region.toNat = r.val →
      if s.ctl.state = .offline ∨ s.ctl.state = .listening ∨ s.ctl.state = .halted then
        exec (.release region guardPin) s = .next (s.undriven.answer 0x04 .wrongState [])
          ∧ exec (.keep region) s = .next (s.undriven.answer 0x05 .wrongState [])
      else if s.owns r = false then
        exec (.release region guardPin) s = .next (s.undriven.answer 0x04 .notOwner [])
          ∧ exec (.keep region) s = .next (s.undriven.answer 0x05 .notOwner [])
      else
        exec (.release region guardPin) s = (if guardPin = true ∧ inMap s.ctl.guardSet r = true then
            .next (s.undriven.answer 0x04 .guarded [])
          else .next ((s.undriven.setEntry r { s.table[r] with yieldReady := true }).answer 0x04 .done []))
        ∧ exec (.keep region) s = .next ((s.undriven.setEntry r { s.table[r] with yieldReady := false }).answer 0x05 .done []))

/-- FENCE (R82, R83, R84): refused WRONG_STATE off the line and BUSY while a fence is open; a fence that is taken seals every
UPDATE entry, and one over no UPDATE entry completes at once after its answer. -/
def Obligations.FenceOpens : Prop :=
  ∀ s : State, s.takesPut →
    (s.ctl.state = .offline ∨ s.ctl.state = .listening ∨ s.ctl.state = .halted →
      exec .fence s = .next (s.undriven.answer 0x06 .wrongState []))
    ∧ (s.ctl.state ≠ .offline → s.ctl.state ≠ .listening → s.ctl.state ≠ .halted →
      (s.out.fence ≠ none → exec .fence s = .next (s.undriven.answer 0x06 .busy []))
      ∧ (s.out.fence = none → (∃ e ∈ s.out.entries, e.isUpdate = true) →
        exec .fence s = .next { s with
          out := { s.out with
            fence := some ⟨0, 0⟩
            entries := s.out.entries.map (OutEntry.mapUpdate fun u => { u with sealed := true, inFence := true }) }
          port := ⟨.answer ⟨0x06, .accepted, []⟩, s.port.refused, [], .high⟩ })
      ∧ (s.out.fence = none → (∀ e ∈ s.out.entries, e.isUpdate = false) →
        exec .fence s = .next { s with
          events := postTo s.events (.fenceDone 0 0)
          port := ⟨.answer ⟨0x06, .accepted, []⟩, s.port.refused, [], .high⟩ }))

/-- REGION, ROSTER and STATUS (R178, R179, R180): taken in every station state and answered DONE at once with the 34, 22 and 17
bytes of Tables 11-10, 11-11 and 11-12, every one of them given here; a region out of range is refused BAD_ARGUMENT; nothing else
changes. -/
def Obligations.ReportsAnswered : Prop :=
  ∀ (s : State) (region : Byte) (guardPin : Bool), s.takesPut →
    let number := fun n : Nat => BitVec.ofNat 8 n
    let stationState : Byte := match s.ctl.state with
      | .offline => 0 | .listening => 1 | .active => 2 | .isolated => 3 | .dozing => 4 | .leaving => 5 | .halted => 6
    (64 ≤ region.toNat → exec (.region region guardPin) s = .next (s.undriven.answer 0x07 .badArgument []))
    ∧ (∀ r : Region, region.toNat = r.val →
      let e := s.table[r]
      let copy : Byte := match e.copy with | .current => 0 | .stale _ => 1 | .fetching _ => 2
      let cause : Byte := match e.copy with | .stale .behind => 1 | .stale .damaged => 2 | .current | .fetching _ => 0
      let owner : List Byte := match e.owner with
        | some o => number o.station.val :: bytesBE 2 o.epoch.toNat
        | none => [0xFF, 0, 0]
      let orphaned := match e.owner with
        | some o => o.station != s.own && s.statusOf o.station == .absent
        | none => false
      let flags := byteOfBits orphaned e.held (s.owns r && e.yieldReady) (s.owns r && e.votePending) (s.owns r && e.writeHold)
        (inMap s.ctl.guardSet r) (guardPin && inMap s.ctl.guardSet r) false
      let queued := (s.out.entries.filter (fun x => x.isUpdate && x.region == r)).length
        + (if s.out.reserved = some r then 1 else 0)
      let catchup : List Byte :=
        if (s.pullOf r).isSome = true then [3, 0]
        else if r ∈ s.catchup.list then [1, number (s.catchup.list.idxOf r + 1)]
        else if inMap s.catchup.parked r = true then [2, 0]
        else [0, 0]
      let pull : List Byte := match s.pullOf r with
        | some p => [number p.target.val, number p.attempts, if p.collecting.isSome = true then 1 else 0]
          ++ (match p.collecting with | some c => stampBytes c | none => List.replicate 8 0)
          ++ [number (countBits p.collected), number (countBits p.written)]
        | none => [0xFF, 0, 0] ++ List.replicate 8 0 ++ [0, 0]
      let serving : List Byte := match s.servingOf r with
        | some v => [1, number v.targets.length, number v.restarts]
        | none => [0, 0, 0]
      ∃ d : List Byte, exec (.region region guardPin) s = .next (s.undriven.answer 0x07 .done d) ∧ d.length = 34
        ∧ d = [region] ++ stampBytes e.stamp ++ [copy, cause] ++ owner ++ [flags, number queued] ++ catchup ++ pull ++ serving)
    ∧ (∃ (d : List Byte) (differs : StationMap), exec .roster s = .next (s.undriven.answer 0x08 .done d) ∧ d.length = 22
      ∧ (∀ n : Station, inMap differs n = s.roster.entries[n].differs)
      ∧ d = [number s.own.val]
        ++ (List.finRange 16).map (fun n : Station =>
          if n = s.own then 0xC0 ||| stationState
          else (if s.isMember n = true then (0x80 : Byte) else 0)
            ||| (match s.statusOf n with | .absent => 0 | .present => 1 | .dozing => 2 | .silent => 3))
        ++ bytesBE 2 differs.toNat ++ bytesBE 2 s.roster.lastAck.toNat ++ [number s.quorumCount])
    ∧ exec (.status guardPin) s = .next (s.undriven.answer 0x09 .done [stationState,
        if s.ctl.state = .leaving then (match s.ctl.leavePhase with | .drain => 1 | .final => 2) else 0,
        number s.groupSize, number (s.groupSize / 2 + 1), number s.quorumCount,
        number s.out.updateCount, number (s.out.entries.filter OutEntry.isClaim).length,
        number (s.out.entries.filter OutEntry.isPull).length, number (s.out.entries.filter OutEntry.isImage).length,
        number s.applyQ.length, number s.events.length,
        byteOfBits s.out.fence.isSome s.out.hostClaim.isSome guardPin false false false false false,
        (match s.out.hostClaim with | some r => number r.val | none => 0xFF),
        (match s.out.sweep.phase with | .inactive => 0 | .running => 1 | .paused => 2),
        number s.catchup.pulls.length, number s.serving.length, number s.line.faults])

/-- IDENT (R182, section 11.4): taken in every station state and answered DONE with the vendor code 3E21h, the part code 0416h, the
revision code, which is a free value here (DESIGN CHOICE, log 6), and the station number sampled at the last reset; it changes
nothing. -/
def Obligations.IdentAnswersCodes : Prop :=
  ∀ s : State, s.takesPut →
    exec .ident s = .next (s.undriven.answer 0x11 .done
      [0x3E, 0x21, 0x04, 0x16, Config.revision, BitVec.ofNat 8 s.ctl.number.val])

/-- EVENT (R181, R186, R200): NONE on an empty queue; else the oldest record leaves the queue at the taking and DONE carries the
number left and the record in ten bytes, and ATTN# is asserted exactly while a record is left: the pin then pulls low (R201). A
record is the kind code, the fields of Table 11-13 and zeros, with FFh for an absent optional field. -/
def Obligations.EventTakesOldestRecord : Prop :=
  (∀ s : State, s.takesPut →
     (s.events = [] → exec .event s = .next (s.undriven.answer 0x0A .none []))
     ∧ (∀ e rest, s.events = e :: rest → ∃ t, exec .event s = .next t
       ∧ t = { s with
           events := rest
           port := ⟨.answer ⟨0x0A, .done, BitVec.ofNat 8 rest.length :: e.record⟩, s.port.refused, [], .high⟩ }
       ∧ t.attn = !rest.isEmpty ∧ (t.attnPin = .pullsLow ↔ rest ≠ []))) ∧
  (∀ e : Event,
     let region := fun r : Region => BitVec.ofNat 8 r.val
     let station := fun n : Station => BitVec.ofNat 8 n.val
     let record : List Byte := match e with
       | .resetDone c m => [0x01, match c with | .power => 0 | .pin => 1] ++ bytesBE 8 m.toNat
       | .joined => [0x02]
       | .left n => [0x03, BitVec.ofNat 8 n]
       | .isolation entered => [0x04, if entered = true then 0 else 1]
       | .woken none => [0x05, 0, 0xFF]
       | .woken (some r) => [0x05, 1, region r]
       | .station n st => [0x06, station n, match st with | .absent => 0 | .present => 1 | .dozing => 2 | .silent => 3]
       | .membersDiffer n => [0x07, station n]
       | .stranger n => [0x08, station n]
       | .claimDone r ack source lost => [0x09, region r, match lost with | none => 0 | some _ => 1] ++ bytesBE 2 ack.toNat
         ++ [match source with | .host => 0 | .sweep => 1,
           match lost with | none => 0xFF | some .refused => 1 | some .notCurrent => 2 | some .exhausted => 3]
       | .ownershipLost r split => [0x0A, region r, if split = true then 1 else 0]
       | .fenceDone missing lost => [0x0B] ++ bytesBE 2 missing.toNat ++ [BitVec.ofNat 8 lost]
       | .short r missing => [0x0C, region r] ++ bytesBE 2 missing.toNat
       | .regionStale r c => [0x0D, region r, match c with | .behind => 1 | .damaged => 2]
       | .regionCurrent r => [0x0E, region r]
       | .pullFailed r => [0x0F, region r]
       | .stampAhead r n => [0x10, region r, station n]
       | .halted c => [0x11, match c with | .duplicate => 0 | .lineFault => 1]
       | .overflow n => [0x12, BitVec.ofNat 8 n]
     e.record.length = 10 ∧ e.record = record ++ List.replicate (10 - record.length) 0)

/-- SETUP and SETUP_RECORD_WRITTEN (R153): the check order; a SETUP that is taken is WORKING, and once its record is written the
retained record and the working sets hold the new sets and the answer is DONE. -/
def Obligations.SetupWritesRecord : Prop :=
  ∀ (s : State) (members : StationMap) (guardSet : RegionMap) (guardPin : Bool),
    (s.takesPut →
      exec (.setup members guardSet guardPin) s = .next (
        if s.ctl.state ≠ .offline then s.undriven.answer 0x0B .wrongState []
        else if inMap members s.ctl.number = false then s.undriven.answer 0x0B .badArgument []
        else if guardPin = true then s.undriven.answer 0x0B .guarded []
        else { s with port := ⟨.working (.setup members guardSet), s.port.refused, [], .high⟩ }))
    ∧ (s.power = .on → s.port.state = .working (.setup members guardSet) →
      exec .setupRecordWritten s = .next { s with
        nv := { s.nv with setup := ⟨true, members, guardSet⟩ }
        ctl := { s.ctl with members := members, guardSet := guardSet }
        port := { s.port with state := .answer ⟨0x0B, .done, []⟩ } })

/-- FORMAT and FORMAT_STEP_DONE (R143, R154): the check order. The taking clears every Apply Queue entry not being written, and
the regions of those entries stay retained as they were, until they are zeroed, by the model's choice (DESIGN CHOICE, log 35;
`unsaved` is its mark of them); the intent record is FORMAT, region 0, from the taking on, but with an apply in progress only from
its completion on (log 27); and with the array free chunk 0 of region 0 begins. Each step zeroes one chunk; the sixteenth makes
the region (0, 0), CURRENT, held no, and moves the intent record on; region 63 ends it with DONE. -/
def Obligations.FormatZeroesRegions : Prop :=
  ∀ (s : State) (guardPin : Bool),
    (s.takesPut →
      (s.ctl.state ≠ .offline → exec (.format guardPin) s = .next (s.undriven.answer 0x0C .wrongState []))
      ∧ (s.ctl.state = .offline → guardPin = true → s.ctl.guardSet ≠ 0 →
        exec (.format guardPin) s = .next (s.undriven.answer 0x0C .guarded []))
      ∧ (s.ctl.state = .offline → guardPin = false ∨ s.ctl.guardSet = 0 → ∃ unsaved : RegionMap,
        let writing := if s.arb.op = some .apply then 1 else 0
        let taken := { s with
          applyQ := s.applyQ.take writing
          unsaved := unsaved
          port := ⟨.working (.format 0 0), s.port.refused, [], .high⟩ }
        (∀ r : Region, inMap unsaved r = true ↔ inMap s.unsaved r = true ∨ ∃ x ∈ s.applyQ.drop writing, x.region = r)
        ∧ (∀ r : Region, taken.unwritten r = s.unwritten r)
        ∧ (s.arb.op = some .apply → exec (.format guardPin) s = .next taken)
        ∧ (s.arb.op ≠ none → s.arb.op ≠ some .apply →
          exec (.format guardPin) s = .next { taken with nv := { s.nv with intent := some ⟨.format, 0⟩ } })
        ∧ (s.arb.op = none → s.serving = [] → exec (.format guardPin) s = .next { taken with
          arb := ⟨some .formatStep, 0, 0⟩
          nv := { s.nv with intent := some ⟨.format, 0⟩ } })))
    ∧ (∀ (r : Region) (k : Chunk), s.arb.op = some .formatStep → s.port.state = .working (.format r k) →
      let zeroed := memWriteBytes s.nv.array (4096 * r.val + 256 * k.val) (List.replicate 256 0)
      let e := { s.table[r] with stamp := ⟨0, 0⟩, copy := .current, held := false }
      (k ≠ 15 → exec .formatStepDone s = .next (State.finishOp { s with
        nv := { s.nv with array := zeroed }
        arb := { s.arb with op := none }
        port := { s.port with state := .working (.format r (k + 1)) } }))
      ∧ (k = 15 → exec .formatStepDone s = .next (State.finishOp { s with
        nv := { s.nv with
          array := zeroed
          regions := s.nv.regions.set r (nvImage e (s.applyQ.any (fun x => x.region == r)))
          intent := if r = 63 then none else some ⟨.format, r + 1⟩ }
        arb := { s.arb with op := none }
        table := s.table.set r e
        unsaved := dropBit s.unsaved r
        port := { s.port with state := if r = 63 then .answer ⟨0x0C, .done, []⟩ else .working (.format (r + 1) 0) } })))

/-- JOIN (R155, R46): taken in OFFLINE alone; the station listens from 0 ms on an unsynchronised line, with the duplicate mark,
the line-fault count, the roster, the front list, the census cursor and the last beacon ack map cleared. LISTEN_EXPIRY (R157,
R158, R57, R103, R112): with a duplicate heard the station halts with cause DUPLICATE; else it is ACTIVE or ISOLATED by its count,
its beacon timer runs with a JOINING beacon due, the STALE regions are listed ascending, and JOINED comes first and
ISOLATION(entered) next; the sweep starts at region 0, PAUSED in ISOLATED and RUNNING in ACTIVE, where it walks at once, after
those posts (that order is the model's choice, log 15: R184 lets the two blocks' posts fall in either order): past every region
not held, to one SWEEP CLAIM entry at the first held region that is CURRENT below epoch 65535, and to its end with no region held,
where its position is 63 by the model's choice (DESIGN CHOICE, log 42). That pulls open only after the sweep's walk and the posts
is the model's choice (DESIGN CHOICE, log 16: R158 lets them open from step 3 on). -/
def Obligations.JoinAndListenWindow : Prop :=
  (∀ s : State, s.takesPut →
     (s.ctl.state ≠ .offline → exec .join s = .next (s.undriven.answer 0x0D .wrongState []))
     ∧ (s.ctl.state = .offline → exec .join s = .next { s with
         ctl := { s.ctl with state := .listening, duplicateHeard := false, listenTimer := some 0 }
         roster := ⟨Vector.replicate 16 ⟨.absent, none, false⟩, none, [], 0⟩
         line := { s.line with syncing := true, faults := 0 }
         port := ⟨.answer ⟨0x0D, .accepted, []⟩, s.port.refused, [], .high⟩ })) ∧
  (∀ s : State, s.power = .on → s.ctl.state = .listening → s.ctl.listenTimer ≠ none →
     (s.ctl.duplicateHeard = true → ∃ t, exec .listenExpiry s = .next t ∧ t.haltedClear ∧ s.haltedFrom t
       ∧ t.events = postTo s.events (.halted .duplicate))
     ∧ (s.ctl.duplicateHeard = false →
       let stale := (List.finRange 64).filter (fun r : Region =>
         match s.table[r].copy with | .stale _ => true | .current | .fetching _ => false)
       let joined := { s with
         catchup := { s.catchup with list := stale, parked := 0 }
         ctl := { s.ctl with listenTimer := none, beaconTimer := some 0, beaconDue := true, joining := true } }
       let active := { joined with
         ctl := { joined.ctl with state := .active }
         out := { s.out with sweep := ⟨.running, 0, none⟩ }
         events := postTo s.events .joined }
       (s.quorum ≤ s.quorumCount →
         exec .listenExpiry s = .next active.sweepWalk.resume
         ∧ ((∀ r : Region, s.table[r].held = false) →
           exec .listenExpiry s = .next (State.resume { active with out := { s.out with sweep := ⟨.inactive, 63, none⟩ } }))
         ∧ (∀ r : Region, (∀ q : Region, q < r → s.table[q].held = false) → s.table[r].held = true → s.owns r = false →
           s.out.hostClaim ≠ some r → s.table[r].copy = .current → s.table[r].stamp.epoch.toNat ≠ 65535 →
           exec .listenExpiry s = .next (State.resume { active with out := { s.out with
             sweep := ⟨.running, r, some r⟩
             entries := s.out.entries ++ [⟨r, .claim .sweep, false, .none⟩] } })))
       ∧ (s.quorumCount < s.quorum → exec .listenExpiry s = .next (State.resume { joined with
         ctl := { joined.ctl with state := .isolated }
         out := { s.out with sweep := ⟨.paused, 0, none⟩ }
         events := postTo (postTo s.events .joined) (.isolation true) }))))

/-- LEAVE (R163, R164, R166): taken in ACTIVE, ISOLATED and DOZING; the beacon timer stops, no beacon is due, the sweep is
INACTIVE, serving records end with their write hold cleared, pull records close with the copy STALE with the kept cause, or
DAMAGED with a chunk taken (R119), and the catch-up list and the parked set are empty; of the Outbox the PULL and IMAGE entries of
those records alone go, at once when WAITING and at the end of the attempt when SENDING, an open fence and an open host claim stay
open, and nothing is posted; with entries left the drain runs under a fresh leave timer, and with none phase FINAL begins with its
beacon due. LEAVE_DRAIN_CUT and LEAVE_FINAL_EXPIRY (R165, R166): the cut removes and counts every WAITING entry, and a SENDING one
is marked for its removal by the cut; what the removed entries leave behind follows (an in-fence one is lost to the fence, which
completes with its last entry; a host claim closes without CLAIM_DONE), and with none SENDING phase FINAL begins with its beacon
due and a fresh timer; the end of phase FINAL switches the line off, clears the roster, forgets every owner and working flag with
held and the copies kept, and posts LEFT with the count, at once or, with an attempt under way at the expiry, at the end of that
attempt, whatever ends it. That a SENDING entry whose discard was asked for before the cut keeps that removal is the model's
reading (DEDUCED, log 17), and so is that a SWEEP entry which the cut removes is no longer outstanding (DEDUCED, log 30). In the
retained image a region of which FORMAT has cleared an entry unwritten counts as with the entry (DESIGN CHOICE, log 35). -/
def Obligations.LeaveAndItsTimer : Prop :=
  (∀ s : State, s.takesPut →
     (s.ctl.state = .offline ∨ s.ctl.state = .listening ∨ s.ctl.state = .leaving ∨ s.ctl.state = .halted →
       exec .leave s = .next (s.undriven.answer 0x0E .wrongState []))
     ∧ (s.ctl.state = .active ∨ s.ctl.state = .isolated ∨ s.ctl.state = .dozing → ∃ t, exec .leave s = .next t
       ∧ t.port = ⟨.answer ⟨0x0E, .accepted, []⟩, s.port.refused, [], .high⟩
       ∧ t.ctl = { s.ctl with
           state := .leaving
           leavePhase := if t.out.entries = [] then .final else .drain
           beaconTimer := none
           beaconDue := t.out.entries.isEmpty
           discarded := 0
           leaveTimer := some 0 }
       ∧ t.out.sweep = { s.out.sweep with phase := .inactive } ∧ t.serving = [] ∧ t.catchup = ⟨[], 0, []⟩
       ∧ (let served := fun r : Region => s.serving.any (fun v => v.region == r)
         let pulled := fun r : Region => s.catchup.pulls.any (fun p => p.region == r)
         let hit := fun x : OutEntry => (x.isImage && served x.region) || (x.isPull && pulled x.region)
         t.out.entries = removalAsked hit s.out.entries
         ∧ t.out.entries.filter (fun x => !(x.isPull || x.isImage)) = s.out.entries.filter (fun x => !(x.isPull || x.isImage))
         ∧ t.out.hostClaim = s.out.hostClaim ∧ t.out.reserved = s.out.reserved
         ∧ ((s.out.fence ≠ none → ∃ x ∈ s.out.entries, x.inFence = true) → t.out.fence = s.out.fence ∧ t.events = s.events)
         ∧ (∀ r : Region, t.table[r] = { s.table[r] with
             copy := match s.table[r].copy, s.pullOf r with
               | .fetching k, some p => .stale (if p.taken then .damaged else k)
               | x, _ => x
             writeHold := s.table[r].writeHold && !served r })
         ∧ (∀ r : Region, t.nv.regions[r]
             = if served r = true ∨ pulled r = true then nvImage t.table[r] (s.unwritten r) else s.nv.regions[r])
         ∧ t.arb = s.arbAfterServing served ∧ t.nv.setup = s.nv.setup ∧ t.nv.intent = s.nv.intent ∧ t.unsaved = s.unsaved
         ∧ t.serial = s.serial ∧ t.free = s.free ∧ t.power = s.power ∧ t.pending = s.pending)
       ∧ (∀ x ∈ t.out.entries, (x.isPull = true → (∃ p ∈ s.catchup.pulls, p.region = x.region) → x.sending = true)
           ∧ (x.isImage = true → (∃ v ∈ s.serving, v.region = x.region) → x.sending = true))
       ∧ (∀ r : Region, t.table[r].stamp = s.table[r].stamp ∧ t.table[r].owner = s.table[r].owner
           ∧ t.table[r].held = s.table[r].held)
       ∧ (∀ p ∈ s.catchup.pulls, ∀ k, t.table[p.region].copy ≠ .fetching k)
       ∧ t.line = s.line ∧ t.applyQ = s.applyQ ∧ t.roster = s.roster ∧ t.nv.array = s.nv.array)) ∧
  (∀ s : State, s.power = .on → s.ctl.state = .leaving → s.ctl.leaveTimer ≠ none →
     (s.ctl.leavePhase = .drain →
       let gone := s.out.entries.filter (fun x => !x.sending)
       let kept := (s.out.entries.filter (fun x => x.sending)).map
         (fun x => if x.doom = .none then { x with doom := .cut } else x)
       ∃ t, exec .leaveDrainCut s = .next t ∧ t.out.entries = kept
       ∧ t.ctl = { s.ctl with
           leavePhase := if kept = [] then .final else .drain
           beaconDue := if kept = [] then true else s.ctl.beaconDue
           leaveTimer := if kept = [] then some 0 else none
           discarded := s.ctl.discarded + gone.length }
       ∧ t.out.hostClaim = (if ∃ x ∈ gone, x.body = .claim .host then none else s.out.hostClaim)
       ∧ t.out.sweep = { s.out.sweep with
           outstanding := if ∃ x ∈ gone, x.body = .claim .sweep then none else s.out.sweep.outstanding }
       ∧ t.out.reserved = s.out.reserved
       ∧ (∀ x, s.out.fence = some x →
         let lost := x.lost + (gone.filter OutEntry.inFence).length
         ((∃ y ∈ kept, y.inFence = true) → t.out.fence = some ⟨x.missing, lost⟩ ∧ t.events = s.events)
         ∧ ((∀ y ∈ kept, y.inFence = false) → t.out.fence = none ∧ t.events = postTo s.events (.fenceDone x.missing lost)))
       ∧ (s.out.fence = none → t.out.fence = none ∧ t.events = s.events)
       ∧ t.table = s.table ∧ t.line = s.line ∧ t.roster = s.roster ∧ t.applyQ = s.applyQ ∧ t.nv = s.nv ∧ t.port = s.port)
     ∧ (s.ctl.leavePhase = .final → s.line.slot ≠ none →
       exec .leaveFinalExpiry s = .next (State.resume { s with ctl := { s.ctl with leaveTimer := none } }))) ∧
  (∀ s : State, s.power = .on → s.ctl.state = .leaving → s.ctl.leavePhase = .final →
     let left := fun t : State =>
       t.ctl = { s.ctl with
         state := .offline, leavePhase := .drain, leaveTimer := none, beaconDue := false, joining := t.ctl.joining }
       ∧ t.line.slot = none ∧ t.line.rx = none ∧ (∀ n : Station, t.line.strangers[n] = none)
       ∧ (∀ n : Station, t.roster.entries[n] = ⟨.absent, none, false⟩) ∧ t.roster.front = []
       ∧ (∀ r : Region, t.table[r] = { s.table[r] with
           owner := none, yieldReady := false, votePending := false, writeHold := false })
       ∧ t.events = postTo s.events (.left s.ctl.discarded) ∧ t.applyQ = s.applyQ ∧ t.nv.array = s.nv.array
     (s.ctl.leaveTimer ≠ none → s.line.slot = none → ∃ t, exec .leaveFinalExpiry s = .next t ∧ left t)
     ∧ (∀ b w ack, s.ctl.leaveTimer = none → s.line.slot = some ⟨.beacon b, w⟩ →
       (∃ t, exec .lostArbitration s = .next t ∧ left t)
       ∧ (∀ place, s.line.faults < 15 → ∃ t, exec (.lineFault place) s = .next t ∧ left t ∧ t.line.faults = s.line.faults + 1)
       ∧ (∃ t, exec (.beaconFrameEnd ack) s = .next t ∧ left t)))

/-- DOZE and WAKE (R159, R161): DOZE is taken in ACTIVE with no UPDATE or IMAGE entry, fence, pull or serving record open, and
pauses the sweep; WAKE wakes a dozing station with cause HOST and is DONE without effect in ACTIVE and ISOLATED. A slot reserved
for a WRITE cannot stand while the port is IDLE. A wake (R162, R57): ACTIVE with the quorum count at Q or more, else ISOLATED;
every STALE region not listed joins the catch-up list in ascending order and the parked set is empty; a PAUSED sweep is RUNNING
again in ACTIVE, where it walks on, and stays PAUSED in ISOLATED; WOKEN, then ISOLATION(entered) on entry to ISOLATED, then
REGION_STALE for each region that joined are posted in that order, and what the walk posts comes after them (DESIGN CHOICE, log
15). That pulls open only after the walk, the posts and the answer is the model's choice (DESIGN CHOICE, log 16: R162 lets them
open from step 1 on). -/
def Obligations.DozeAndWakeInOrder : Prop :=
  (∀ s : State, s.takesPut →
     exec .doze s = .next (
       if s.ctl.state ≠ .active then s.undriven.answer 0x0F .wrongState []
       else if (∃ e ∈ s.out.entries, e.isUpdate = true ∨ e.isImage = true) ∨ s.out.fence ≠ none ∨ s.catchup.pulls ≠ []
           ∨ s.serving ≠ [] then s.undriven.answer 0x0F .busy []
       else { s with
         ctl := { s.ctl with state := .dozing }
         out := { s.out with sweep := { s.out.sweep with
           phase := if s.out.sweep.phase = .running then .paused else s.out.sweep.phase } }
         port := ⟨.answer ⟨0x0F, .done, []⟩, s.port.refused, [], .high⟩ })
     ∧ (s.ctl.state = .active ∨ s.ctl.state = .isolated → exec .wake s = .next (s.undriven.answer 0x10 .done []))
     ∧ (s.ctl.state = .offline ∨ s.ctl.state = .listening ∨ s.ctl.state = .leaving ∨ s.ctl.state = .halted →
       exec .wake s = .next (s.undriven.answer 0x10 .wrongState []))
     ∧ (s.ctl.state = .dozing → exec .wake s = .next (((s.undriven.wakeUp none).answer 0x10 .done []).openPulls))) ∧
  (∀ (s : State) (cause : Option Region),
     let quorate := s.groupSize / 2 + 1 ≤ s.quorumCount
     let stale : List Region := (List.finRange 64).filter (fun r : Region =>
       (match s.table[r].copy with | .stale _ => true | .current | .fetching _ => false) && !s.catchup.list.contains r)
     let woken := { s with
       ctl := { s.ctl with state := if quorate then .active else .isolated }
       catchup := { s.catchup with list := s.catchup.list ++ stale, parked := 0 }
       out := { s.out with sweep := { s.out.sweep with
         phase := if quorate ∧ s.out.sweep.phase = .paused then .running else s.out.sweep.phase } }
       events := ((Event.woken cause :: (if quorate then [] else [.isolation true]))
         ++ stale.flatMap (fun r : Region => match s.table[r].copy with
           | .stale c => [Event.regionStale r c]
           | .current | .fetching _ => [])).foldl postTo s.events }
     s.wakeUp cause = woken.sweepWalk
     ∧ (s.out.sweep.phase = .inactive → s.wakeUp cause = woken)
     ∧ (s.out.sweep.phase = .paused → ¬ quorate → s.wakeUp cause = woken ∧ woken.out.sweep = s.out.sweep)
     ∧ (s.out.sweep.phase = .paused → quorate → s.out.sweep.outstanding ≠ none →
       s.wakeUp cause = woken ∧ woken.out.sweep.phase = .running))

/-! ### The array -/

/-- APPLY_WRITE_DONE (R141, R8): the head's bytes are in the array, the entry is gone, the retained image follows the working
entry where no entry for the region remains, but stays STALE DAMAGED for a region of which FORMAT has cleared another entry
unwritten, which is the model's choice (DESIGN CHOICE, log 35: R141 step 3 names the queue alone), and the intent record is
cleared, or set for a FORMAT that waited for the write (R143, log 27); a CHUNK entry is first handed to the Catch-up Unit. While a
pin reset waits R147 lets that bookkeeping be made and R133 does not: either may come about, by a free value (log 28). A written
CHUNK at the Catch-up Unit (R131): no bookkeeping without an open record of that identity that collects that stamp; else the index
joins the written set, the other record staying as it is, and with all 16 chunks the pull completes at the collecting stamp (a
lower one leaves the copy stamp, log 22): CURRENT, record closed, no PULL entry of the region WAITING, REGION_CURRENT posted.
Pulls that it makes possible open once the rules of the step have run (DESIGN CHOICE, log 16). -/
def Obligations.ApplyWriteAndPullCompletion : Prop :=
  (∀ (s : State) (e : ApplyEntry) (rest : List ApplyEntry), s.arb.op = some .apply → s.applyQ = e :: rest →
     let intent : Option Intent := match s.power, s.port.state with
       | .on, .working (.format r _) => some ⟨.format, r⟩
       | _, _ => none
     let wrote := fun (offset : Nat) (data : List Byte) => { s with
       nv := { s.nv with array := memWriteBytes s.nv.array (4096 * e.region.val + offset) data }
       arb := { s.arb with op := none }
       applyQ := rest }
     let retained := fun t : State => { t with nv := { t.nv with
       regions := t.nv.regions.set e.region (nvImage t.table[e.region]
         (rest.any (fun x => x.region == e.region) || inMap s.unsaved e.region))
       intent := intent } }
     (∀ offset data, e.body = .update offset data → offset + data.length ≤ 4096 →
       exec .applyWriteDone s = .next (retained (wrote offset data)).finishOp)
     ∧ (∀ k data stamp pull, e.body = .chunk k data stamp pull → data.length ≤ 256 →
       let made := State.chunkWritten (wrote (256 * k.val) data) k stamp pull
       (s.power = .on → exec .applyWriteDone s = .next (retained made).finishOp)
       ∧ (∀ x, s.power = .resetPending x →
         exec .applyWriteDone s = .next (State.finishOp { retained made with free := s.free + 1 })
         ∨ exec .applyWriteDone s
           = .next (State.finishOp { retained (wrote (256 * k.val) data) with free := s.free + 1 })))) ∧
  (∀ (s : State) (k : Chunk) (stamp : Stamp) (pull : Nat),
     ((∀ p ∈ s.catchup.pulls, ¬(p.id = pull ∧ p.collecting = some stamp)) → s.chunkWritten k stamp pull = s)
     ∧ (∀ before p after, s.catchup.pulls = before ++ p :: after → p.id = pull → p.collecting = some stamp →
       (∀ x ∈ before, ¬(x.id = pull ∧ x.collecting = some stamp)) → (∀ x ∈ before ++ after, x.region ≠ p.region) →
       (addBit p.written k ≠ 0xFFFF → s.chunkWritten k stamp pull
         = { s with catchup := { s.catchup with pulls := before ++ { p with written := addBit p.written k } :: after } })
       ∧ (addBit p.written k = 0xFFFF → (s.out.fence ≠ none → ∃ x ∈ s.out.entries, x.inFence = true) →
         ∃ t, s.chunkWritten k stamp pull = t
         ∧ t.table[p.region] = { s.table[p.region] with
             stamp := if stampLower stamp s.table[p.region].stamp then s.table[p.region].stamp else stamp
             copy := .current }
         ∧ (∀ q : Region, q ≠ p.region → t.table[q] = s.table[q])
         ∧ t.catchup = { s.catchup with pulls := before ++ after } ∧ t.events = postTo s.events (.regionCurrent p.region)
         ∧ (∀ x ∈ t.out.entries, x.isPull = true → x.region = p.region → x.sending = true ∧ x.doom ≠ .none)
         ∧ t.out.entries.filter (fun x => !(x.isPull && x.region == p.region))
           = s.out.entries.filter (fun x => !(x.isPull && x.region == p.region))
         ∧ t.out.fence = s.out.fence ∧ t.applyQ = s.applyQ ∧ t.nv.array = s.nv.array ∧ t.line = s.line ∧ t.ctl = s.ctl
         ∧ t.port = s.port)))

/-- CHUNK_READ_DONE (R123): the data of a read whose record has ended is discarded; where no target needs the chunk any longer no
entry is made, and that the next chunk index then stays as it was is the model's choice (DESIGN CHOICE, log 43); else one IMAGE
entry is appended with the stamp of the grant, the chunk, the targets that need it and its 256 bytes, and the next chunk index
moves on. -/
def Obligations.ChunkReadMakesImageEntry : Prop :=
  ∀ (s : State) (r : Region) (k : Chunk) (stamp : Stamp) (live : Bool), s.arb.op = some (.chunkRead r k stamp live) →
    let free := { s with arb := { s.arb with op := none } }
    (live = false ∨ s.servingOf r = none → exec .chunkReadDone s = .next free.finishOp)
    ∧ (∀ v, live = true → s.servingOf r = some v →
      let putBack := fun x : ServingRecord => s.serving.map (fun y => if y.region = r then x else y)
      ((∀ q ∈ v.targets, inMap q.needed k = false) →
        exec .chunkReadDone s = .next (State.finishOp { free with serving := putBack { v with read := .none } }))
      ∧ ((∃ q ∈ v.targets, inMap q.needed k = true) → ∃ m : StationMap,
        (∀ n : Station, inMap m n = true ↔ ∃ q ∈ v.targets, q.station = n ∧ inMap q.needed k = true)
        ∧ exec .chunkReadDone s = .next (State.finishOp { free with
            serving := putBack { v with read := .none, next := k + 1 }
            out := { s.out with entries := s.out.entries ++ [⟨r, .image ⟨stamp, k, m,
              (List.range 256).map (fun i => memRead s.nv.array (4096 * r.val + 256 * k.val + i))⟩, false, .none⟩] } })))

/-- The array arbiter (R136, R137, R135, R142): nothing is granted while the array is busy; else the first line that applies of
the table of R136 decides; the counts follow R137, a granted write sets its intent record, and the older waiting Image Server read
is the one granted. Requests held back (R135, R139): a READ or WRITE waits for the Apply Queue entries of its region taken before
it, and so does a chunk read; the head of the Apply Queue waits while a READ of its region that was taken before it is WORKING. A
FORMAT step waits at once; an IDLE port, one with an answer and one with a SETUP present nothing; and an Image Server read waits
wherever some record's request does. -/
def Obligations.ArbiterGrantsInOrder : Prop :=
  (∀ s : State,
     (s.arb.op ≠ none → s.arbitrate = s)
     ∧ (s.arb.op = none →
       (∀ v, s.waitingRead = some v → s.arb.imageWait = 4 → s.arbitrate = s.grantImage v)
       ∧ (s.waitingRead = none ∨ s.arb.imageWait ≠ 4 → s.headWaits = true → s.hostWaits = false ∨ s.arb.hostStreak = 4 →
         s.arbitrate = s.grantHead)
       ∧ (s.waitingRead = none ∨ s.arb.imageWait ≠ 4 → s.headWaits = false ∨ s.arb.hostStreak ≠ 4 → s.hostWaits = true →
         s.arbitrate = s.grantHost)
       ∧ (∀ v, s.waitingRead = some v → s.headWaits = false → s.hostWaits = false → s.arbitrate = s.grantImage v)
       ∧ (s.waitingRead = none → s.headWaits = false → s.hostWaits = false → s.arbitrate = s))
     ∧ (∀ v, s.waitingRead = some v → v ∈ s.serving ∧ ∃ n, s.readWaits v = some n
         ∧ ∀ x ∈ s.serving, ∀ m, s.readWaits x = some m → n ≤ m)
     ∧ (s.waitingRead = none ↔ ∀ v ∈ s.serving, s.readWaits v = none)
     ∧ (∀ e rest, s.applyQ = e :: rest → s.grantHead = { s with
         arb := ⟨some .apply, 0, if s.waitingRead.isSome then min (s.arb.imageWait + 1) 4 else 0⟩
         nv := { s.nv with intent := some ⟨match e.body with | .update _ _ => .apply | .chunk _ _ _ _ => .chunk, e.region⟩ } })
     ∧ (∀ w op, s.port.state = .working w →
         (match w with
           | .read _ => op = ArrayOp.readPiece
           | .write _ => op = .hostWrite
           | .format _ _ => op = .formatStep
           | .setup _ _ => False) →
         s.grantHost = { s with
           arb := ⟨some op, if s.headWaits then min (s.arb.hostStreak + 1) 4 else 0,
             if s.waitingRead.isSome then min (s.arb.imageWait + 1) 4 else 0⟩
           nv := { s.nv with intent := match w with
             | .read _ | .setup _ _ => s.nv.intent
             | .write x => some ⟨.write, x.region⟩
             | .format r _ => some ⟨.format, r⟩ } })
     ∧ (∀ v k order, v.read = .requested k order → s.grantImage v = { s with
         arb := ⟨some (.chunkRead v.region k s.table[v.region].stamp true), if s.headWaits then s.arb.hostStreak else 0, 0⟩
         serving := s.serving.map (fun x => if x.region = v.region then { v with read := .inProgress } else x) })) ∧
  (∀ s : State,
     (∀ w, s.port.state = .working (.read w) →
       (s.hostWaits = true ↔ ∀ e ∈ s.applyQ, e.region = w.region → w.before ≤ e.seq)
       ∧ (∀ e rest, s.applyQ = e :: rest → (s.headWaits = true ↔ ¬(e.region = w.region ∧ w.before ≤ e.seq))))
     ∧ (∀ w, s.port.state = .working (.write w) →
       (s.hostWaits = true ↔ ∀ e ∈ s.applyQ, e.region = w.region → w.before ≤ e.seq))
     ∧ (∀ r k, s.port.state = .working (.format r k) → s.hostWaits = true)
     ∧ (s.port.state = .idle ∨ (∃ a, s.port.state = .answer a) ∨ (∃ m g, s.port.state = .working (.setup m g)) →
       s.hostWaits = false)
     ∧ (s.applyQ = [] → s.headWaits = false)
     ∧ ((∀ w, s.port.state ≠ .working (.read w)) → (s.headWaits = true ↔ s.applyQ ≠ []))
     ∧ (∀ v k order, v.read = .requested k order →
       (s.readWaits v = some order ↔ ∀ e ∈ s.applyQ, e.region = v.region → order ≤ e.seq)
       ∧ (s.readWaits v = none ↔ ∃ e ∈ s.applyQ, e.region = v.region ∧ e.seq < order))
     ∧ (∀ v : ServingRecord, (∀ k order, v.read ≠ .requested k order) → s.readWaits v = none))

/-- Pulls and chunk reads come about where their conditions hold (R113, R114, R115, R123). The region chosen is the oldest listed
STALE one whose owner is another station, PRESENT or DOZING, in ACTIVE and ISOLATED with fewer than two records open; regions
passed over keep their places; the pull has force for a DAMAGED copy. With one record free one pull opens, and with both free and
two regions that qualify two open, for the two oldest. Each opened record has its PULL entry appended, the older record first,
where its kind has room; that an entry which finds two PULL entries waits in its record, and is appended when one has left, is the
model's choice (DESIGN CHOICE, log 20). Each serving record without read or IMAGE entry, in the order of the table, requests the
lowest needed chunk counting upward from its next index and wrapping; that it waits where the IMAGE entries and the reads under
way are two is the model's choice (DESIGN CHOICE, log 19). In the retained image a region of which FORMAT has cleared an entry
unwritten counts as with the entry (DESIGN CHOICE, log 35). What follows the rules of a step, named so in the other statements:
State.resume opens the pulls, then requests the reads, then lets the arbiter grant; State.settle and State.afterAttempt end the
drain first where its Outbox is empty (R164), and the latter phase FINAL where its timer has run out and no attempt is under way
(R166). That pulls open only there, once the rules of the step have run, but for status changes and census entries, is the model's
choice (DESIGN CHOICE, log 16); the numbers that order requests and records are the model's own (log 9). -/
def Obligations.PullsOpenAndReadsAreRequested : Prop :=
  ∀ s : State,
    let ready := fun (r : Region) (c : Cause) (o : Owner) => s.table[r].copy = .stale c ∧ s.table[r].owner = some o
      ∧ o.station ≠ s.own ∧ (s.statusOf o.station = .present ∨ s.statusOf o.station = .dozing)
    let opened := fun (r : Region) (c : Cause) => ({ s.table[r] with copy := .fetching c } : RegionEntry)
    let asked := fun (r : Region) (c : Cause) => (⟨r, .pull (c == .damaged), false, .none⟩ : OutEntry)
    let pulls := s.out.entries.countP OutEntry.isPull
    (s.ctl.state.working = false → (∀ p ∈ s.catchup.pulls, p.owed = false) → s.openPulls = s)
    ∧ (s.ctl.state.working = false ∨ (∀ r ∈ s.catchup.list, s.pullable r = false) → s.nextPull = none)
    ∧ (∀ r : Region, s.pullable r = true ↔ ∃ c o, ready r c o)
    ∧ (∀ r n c, s.nextPull = some (r, n, c) → s.openPulls = State.openPulls { s with
      catchup := { s.catchup with
        list := s.catchup.list.erase r
        pulls := s.catchup.pulls ++ [⟨s.serial, r, n, 1, none, none, 0, 0, false, true⟩] }
      table := s.table.set r (opened r c)
      nv := { s.nv with regions := s.nv.regions.set r (nvImage (opened r c) (s.unwritten r)) }
      serial := s.serial + 1 })
    ∧ (s.nextPull = none → (s.catchup.pulls.map (·.region)).Nodup →
      let placed := (s.catchup.pulls.filter PullRecord.owed).take (2 - pulls)
      s.openPulls = { s with
        catchup := { s.catchup with
          pulls := s.catchup.pulls.map (fun p => if p ∈ placed then { p with owed := false } else p) }
        out := { s.out with
          entries := s.out.entries ++ placed.map (fun p =>
            ⟨p.region, .pull (s.table[p.region].copy == .fetching .damaged || p.taken), false, .none⟩) } })
    ∧ (2 ≤ s.catchup.pulls.length → s.nextPull = none)
    ∧ (∀ (before after : List Region) (r : Region) (c : Cause) (o : Owner), s.ctl.state.working = true →
      s.catchup.list = before ++ r :: after → (∀ x ∈ before, s.pullable x = false) → ready r c o →
      s.catchup.pulls.length < 2 → s.nextPull = some (r, o.station, c))
    ∧ (∀ (before after : List Region) (r : Region) (c : Cause) (o : Owner) (held : List PullRecord),
      s.ctl.state.working = true → s.catchup.pulls = held → (∀ p ∈ held, p.owed = false ∧ p.region ≠ r) →
      s.catchup.list = before ++ r :: after → (∀ x ∈ before, s.pullable x = false) → ready r c o →
      (held.length = 1 ∨ held = [] ∧ ∀ x ∈ after, s.pullable x = false) →
      s.out.entries.countP OutEntry.isPull < 2 →
      s.openPulls = { s with
        catchup := { s.catchup with
          list := before ++ after
          pulls := held ++ [⟨s.serial, r, o.station, 1, none, none, 0, 0, false, false⟩] }
        table := s.table.set r (opened r c)
        nv := { s.nv with regions := s.nv.regions.set r (nvImage (opened r c) (s.unwritten r)) }
        out := { s.out with entries := s.out.entries ++ [asked r c] }
        serial := s.serial + 1 })
    ∧ (∀ (before mid after : List Region) (r q : Region) (c d : Cause) (o w : Owner), s.ctl.state.working = true →
      s.catchup.pulls = [] → s.catchup.list = before ++ r :: mid ++ q :: after → r ≠ q →
      (∀ x ∈ before ++ mid, s.pullable x = false) → ready r c o → ready q d w → (∀ x ∈ s.out.entries, x.isPull = false) →
      s.openPulls = { s with
        catchup := { s.catchup with
          list := before ++ mid ++ after
          pulls := [⟨s.serial, r, o.station, 1, none, none, 0, 0, false, false⟩,
            ⟨s.serial + 1, q, w.station, 1, none, none, 0, 0, false, false⟩] }
        table := (s.table.set r (opened r c)).set q (opened q d)
        nv := { s.nv with
          regions := (s.nv.regions.set r (nvImage (opened r c) (s.unwritten r))).set q
            (nvImage (opened q d) (s.unwritten q)) }
        out := { s.out with entries := s.out.entries ++ [asked r c, asked q d] }
        serial := s.serial + 2 })
    ∧ (∀ (v : ServingRecord) (i : Chunk), s.serving = [v] → v.read = .none →
      (∀ x ∈ s.out.entries, x.isImage = false) → (∃ q ∈ v.targets, inMap q.needed (v.next + i) = true) →
      (∀ j : Chunk, j < i → ∀ q ∈ v.targets, inMap q.needed (v.next + j) = false) →
      s.requestReads = { s with
        serving := [{ v with read := .requested (v.next + i) s.serial }]
        serial := s.serial + 1 })
    ∧ s.requestReads = (s.serving.map (·.region)).foldl State.requestRead s
    ∧ (∀ (before after : List ServingRecord) (v : ServingRecord), s.serving = before ++ v :: after →
      (∀ x ∈ before ++ after, x.region ≠ v.region) →
      let busy := v.read ≠ .none ∨ ∃ x ∈ s.out.entries, x.isImage = true ∧ x.region = v.region
      let under := s.out.entries.countP OutEntry.isImage + s.serving.countP (fun x => x.read != .none)
      let needed := fun k : Chunk => ∃ q ∈ v.targets, inMap q.needed k = true
      (busy ∨ 2 ≤ under ∨ (∀ k : Chunk, ¬ needed k) → s.requestRead v.region = s)
      ∧ (∀ i : Chunk, ¬ busy → under < 2 → needed (v.next + i) → (∀ j : Chunk, j < i → ¬ needed (v.next + j)) →
        s.requestRead v.region = { s with
          serving := before ++ { v with read := .requested (v.next + i) s.serial } :: after
          serial := s.serial + 1 }))
    ∧ (∀ (v w : ServingRecord) (i j : Chunk), s.serving = [v, w] → v.region ≠ w.region → v.read = .none → w.read = .none →
      (∀ x ∈ s.out.entries, x.isImage = false) →
      let first := fun (x : ServingRecord) (i : Chunk) => (∃ q ∈ x.targets, inMap q.needed (x.next + i) = true)
        ∧ ∀ j : Chunk, j < i → ∀ q ∈ x.targets, inMap q.needed (x.next + j) = false
      first v i → first w j → s.requestReads = { s with
        serving := [{ v with read := .requested (v.next + i) s.serial }, { w with read := .requested (w.next + j) (s.serial + 1) }]
        serial := s.serial + 2 })
    ∧ s.resume = s.openPulls.requestReads.arbitrate ∧ s.settle = s.drainEnd.resume
    ∧ s.afterAttempt = s.drainEnd.finalEnd.resume
    ∧ s.drainEnd = (if s.ctl.state = .leaving ∧ s.ctl.leavePhase = .drain ∧ s.out.entries = [] then
        { s with ctl := { s.ctl with leavePhase := .final, beaconDue := true, leaveTimer := some 0 } } else s)
    ∧ (let ends := s.ctl.state = .leaving ∧ s.ctl.leavePhase = .final ∧ s.ctl.leaveTimer = none ∧ s.line.slot = none
      (¬ ends → s.finalEnd = s)
      ∧ (ends → s.finalEnd = { s with
        line := { s.line with slot := none, rx := none, syncing := false, strangers := Vector.replicate 16 none }
        ctl := { s.ctl with state := .offline, leaveTimer := none, leavePhase := .drain, beaconDue := false }
        roster := { s.roster with entries := Vector.replicate 16 ⟨.absent, none, false⟩, front := [] }
        table := Vector.ofFn fun r : Region =>
          { s.table[r] with owner := none, yieldReady := false, votePending := false, writeHold := false }
        nv := s.finalEnd.nv
        events := postTo s.events (.left s.ctl.discarded) })
      ∧ s.finalEnd.nv.array = s.nv.array ∧ s.finalEnd.nv.setup = s.nv.setup ∧ s.finalEnd.nv.intent = s.nv.intent
      ∧ ∀ r : Region, s.finalEnd.nv.regions[r] = s.nv.regions[r]
        ∨ s.finalEnd.nv.regions[r] = nvImage s.table[r] (s.unwritten r))

/-! ### Region Table -/

/-- The STALE mark (R6): CURRENT takes the cause, BEHIND turns to DAMAGED, any other entry stays; a change is posted and listed in
ACTIVE and ISOLATED, posted in LISTENING, and neither elsewhere; a parked region that a mark leaves as it is is listed again.
Pulls that it makes possible open once the rules of the step have run (DESIGN CHOICE, log 16). -/
def Obligations.StaleMark : Prop :=
  ∀ (s : State) (r : Region) (c : Cause),
    let changes := s.table[r].copy = .current ∨ s.table[r].copy = .stale .behind ∧ c = .damaged
    let marked := s.setEntry r { s.table[r] with copy := .stale c }
    let listed := { s.catchup with
      list := if r ∈ s.catchup.list then s.catchup.list else s.catchup.list ++ [r]
      parked := dropBit s.catchup.parked r }
    (changes → s.ctl.state = .active ∨ s.ctl.state = .isolated →
      s.markStale r c = { marked with events := postTo s.events (.regionStale r c), catchup := listed })
    ∧ (changes → s.ctl.state = .listening → s.markStale r c = { marked with events := postTo s.events (.regionStale r c) })
    ∧ (changes → s.ctl.state ≠ .active → s.ctl.state ≠ .isolated → s.ctl.state ≠ .listening → s.markStale r c = marked)
    ∧ (¬ changes → (s.ctl.state = .active ∨ s.ctl.state = .isolated) → inMap s.catchup.parked r = true →
      s.markStale r c = { s with catchup := listed })
    ∧ (¬ changes → (s.ctl.state ≠ .active ∧ s.ctl.state ≠ .isolated) ∨ inMap s.catchup.parked r = false →
      s.markStale r c = s)

/-- Owner learning (R10) at a station that is not itself the recorded owner: UNKNOWN and orphaned regions and a higher epoch are
learned, an orphaned one of the sender itself too, by the model's reading (DEDUCED, log 29: R10 names that case twice); an equal
or lower epoch leaves the fields as they are. A change of owner (R9, R11, R13, R17, R52): a raise of the epoch alone writes the
owner fields; a change closes an open pull of the region with its copy STALE and, in ACTIVE and ISOLATED, REGION_STALE and a place
at the tail of the list, where a parked region goes too (R111), and its PULL entry leaves, at once when WAITING and at the end of
its attempt when SENDING (R119); a former owner loses its working flags and its place in the front list, and a serving record of
the region ends with its IMAGE entry and the data of its read (R127); a new owner gains held. The other Outbox entries stay, but
for the hold that a WRITE turned away gives up (R61). Stamps never change, and an open fence that still has an in-fence entry goes
on. Pulls that it makes possible open once the rules of the step have run (DESIGN CHOICE, log 16). -/
def Obligations.OwnerLearningAndChange : Prop :=
  (∀ (s : State) (r : Region) (o : Station) (e : Epoch), s.owns r = false →
     (s.table[r].owner = none → s.learnOwner r o e = s.changeOwner r (some ⟨o, e⟩))
     ∧ (∀ w, s.table[r].owner = some w →
       (s.statusOf w.station = .absent ∨ w.epoch.toNat < e.toNat → s.learnOwner r o e = s.changeOwner r (some ⟨o, e⟩))
       ∧ (s.statusOf w.station ≠ .absent → e.toNat ≤ w.epoch.toNat → s.learnOwner r o e = s))) ∧
  (∀ (s : State) (r : Region) (o : Option Owner),
     (s.table[r].owner.map (·.station) = o.map (·.station) → s.changeOwner r o = s.setEntry r { s.table[r] with owner := o })
     ∧ (s.table[r].owner.map (·.station) ≠ o.map (·.station) →
       let fenceHolds := s.out.fence ≠ none → ∃ x ∈ s.out.entries, x.inFence = true
       ∃ t, s.changeOwner r o = t ∧ (fenceHolds → t.out.fence = s.out.fence)
       ∧ t.table[r].owner = o ∧ t.table[r].stamp = s.table[r].stamp ∧ t.pullOf r = none
       ∧ (∀ q : Region, q ≠ r → t.table[q] = s.table[q])
       ∧ (s.pullOf r = none → t.table[r].copy = s.table[r].copy ∧ (fenceHolds → t.events = s.events))
       ∧ (∀ p k, s.pullOf r = some p → s.table[r].copy = .fetching k →
         t.table[r].copy = .stale (if p.taken then .damaged else k)
           ∧ (fenceHolds → s.ctl.state = .active ∨ s.ctl.state = .isolated →
             t.events = postTo s.events (.regionStale r (if p.taken then .damaged else k)))
           ∧ (fenceHolds → s.ctl.state ≠ .active → s.ctl.state ≠ .isolated → t.events = s.events))
       ∧ t.catchup.pulls = s.catchup.pulls.filter (fun x => x.region != r)
       ∧ (let served := s.owns r && s.serving.any (fun v => v.region == r)
         let kept := removalAsked (fun x => x.region == r && ((x.isPull && (s.pullOf r).isSome) || (x.isImage && served)))
           s.out.entries
         t.out.entries = (if s.owns r = true then s.turnedAway r kept else kept)
         ∧ t.serving = (if s.owns r = true then s.serving.filter (fun v => v.region != r) else s.serving)
         ∧ t.arb = s.arbAfterServing (fun q => served && q == r)
         ∧ t.out.hostClaim = s.out.hostClaim ∧ t.out.sweep = s.out.sweep)
       ∧ (s.pullOf r ≠ none → ∀ x ∈ t.out.entries, x.isPull = true → x.region = r → x.sending = true ∧ x.doom ≠ .none)
       ∧ (s.ctl.state = .active ∨ s.ctl.state = .isolated → s.pullOf r ≠ none ∨ inMap s.catchup.parked r = true →
         t.catchup.list = (if r ∈ s.catchup.list then s.catchup.list else s.catchup.list ++ [r])
         ∧ t.catchup.parked = dropBit s.catchup.parked r)
       ∧ ((s.ctl.state ≠ .active ∧ s.ctl.state ≠ .isolated) ∨ (s.pullOf r = none ∧ inMap s.catchup.parked r = false) →
         t.catchup.list = s.catchup.list ∧ t.catchup.parked = s.catchup.parked)
       ∧ (s.owns r = true → t.table[r].yieldReady = false ∧ t.table[r].votePending = false ∧ t.table[r].writeHold = false
           ∧ t.table[r].held = s.table[r].held ∧ r ∉ t.roster.front ∧ (∀ w, s.port.state = .working (.write w) → w.region = r →
             s.arb.op ≠ some .hostWrite → t.port.state = .answer ⟨0x02, .notOwner, []⟩ ∧ t.out.reserved = none))
       ∧ (∀ w, o = some w → w.station = s.own → t.table[r].held = true ∧ t.table[r].yieldReady = false
           ∧ t.table[r].votePending = false ∧ t.table[r].writeHold = false)
       ∧ t.ctl = s.ctl ∧ t.line = s.line ∧ t.applyQ = s.applyQ ∧ t.nv.array = s.nv.array))

/-- Conflict resolution of an owned region (R106, R107, R108): the higher stamp wins and for equal stamps the lower number; a
winner only adds the region to its census front list; a loser records the sender as owner, has held no, no working flag, no
serving record, no place in the front list and a DAMAGED copy at its old stamp. Its Outbox: every WAITING entry of the region
leaves, each in-fence UPDATE among them raising an open fence's lost count (R81), a SENDING one is marked for its discard, and the
others stay as they are; the fence completes where no in-fence entry is left (R84). A WRITE not yet granted the array answers
NOT_OWNER, and its hold on an entry ends with it (R17, R61). The posts are FENCE_DONE where the fence completes, REGION_STALE
where the mark is posted (R6), and OWNERSHIP_LOST(SPLIT) last. Pulls that it makes possible open once the rules of the step have
run (DESIGN CHOICE, log 16). -/
def Obligations.ConflictResolution : Prop :=
  ∀ (s : State) (r : Region) (o : Station) (stamp : Stamp), s.owns r = true → o ≠ s.own →
    let own := s.table[r].stamp
    (stampLower stamp own = true ∨ (stamp = own ∧ s.own.val < o.val) →
      s.resolveConflict r o stamp = { s with roster := { s.roster with
        front := if r ∈ s.roster.front ∨ 4 ≤ s.roster.front.length then s.roster.front else s.roster.front ++ [r] } })
    ∧ (stampLower own stamp = true ∨ (stamp = own ∧ o.val < s.own.val) → ∃ t, s.resolveConflict r o stamp = t
      ∧ t.table[r].owner = some ⟨o, stamp.epoch⟩ ∧ t.table[r].stamp = own ∧ t.table[r].held = false
      ∧ t.table[r].yieldReady = false ∧ t.table[r].votePending = false ∧ t.table[r].writeHold = false
      ∧ (s.table[r].copy = .current → t.table[r].copy = .stale .damaged)
      ∧ t.servingOf r = none ∧ r ∉ t.roster.front
      ∧ t.out.entries = s.turnedAway r ((s.out.entries.filter (fun x => !(x.region == r && !x.sending))).map
        (fun x => if x.region = r ∧ x.doom = .none then { x with doom := .discard } else x))
      ∧ (∀ x ∈ t.out.entries, x.region = r → x.sending = true ∧ x.doom ≠ .none)
      ∧ (∀ q : Region, q ≠ r → t.table[q] = s.table[q])
      ∧ (∀ w, s.port.state = .working (.write w) → w.region = r → s.arb.op ≠ some .hostWrite →
        t.port.state = .answer ⟨0x02, .notOwner, []⟩ ∧ t.out.reserved = none)
      ∧ ((s.out.fence ≠ none → ∃ x ∈ s.out.entries, x.inFence = true) →
        let lost := (s.out.entries.filter (fun x => x.region == r && !x.sending && x.inFence)).length
        let done : List Event := match s.out.fence with
          | some x => if t.out.entries.any OutEntry.inFence = true then [] else [.fenceDone x.missing (x.lost + lost)]
          | none => []
        (∀ x, s.out.fence = some x → t.out.fence =
          if t.out.entries.any OutEntry.inFence = true then some ⟨x.missing, x.lost + lost⟩ else none)
        ∧ (s.out.fence = none → t.out.fence = none)
        ∧ (s.table[r].copy = .current → s.pullOf r = none →
          let stale : List Event := if s.ctl.state = .active ∨ s.ctl.state = .isolated ∨ s.ctl.state = .listening
            then [.regionStale r .damaged] else []
          t.events = (done ++ stale ++ [Event.ownershipLost r true]).foldl postTo s.events))
      ∧ t.ctl = s.ctl ∧ t.line = s.line ∧ t.applyQ = s.applyQ ∧ t.nv.array = s.nv.array)

/-! ### Roster and quorum -/

/-- The quorum count and Q (R55): 1 for the station and one for each other member PRESENT or DOZING; Q is M/2 rounded down plus
1; the count lies in 1 to M where the member set holds the own number. The comparison with Q at a change of a member's status
(R44, R56, R103), made after STATION has been posted, whatever made the change: ACTIVE below Q becomes ISOLATED and a running sweep pauses; ISOLATED at Q or more becomes ACTIVE, with
ISOLATION(left) before anything that a resumed sweep posts (that order is the model's choice, log 15: R184 lets the two blocks'
posts fall in either order); every other case and every other state changes nothing. A status set again to the value it holds is no change. -/
def Obligations.QuorumAndIsolation : Prop :=
  (∀ s : State,
     s.quorumCount = 1 + ((List.finRange 16).filter (fun n : Station => decide (n ≠ s.own) && s.isMember n
       && (s.statusOf n == .present || s.statusOf n == .dozing))).length
     ∧ s.quorum = ((List.finRange 16).filter (fun n : Station => s.isMember n)).length / 2 + 1
     ∧ 1 ≤ s.quorumCount
     ∧ (s.isMember s.own = true → s.quorumCount ≤ ((List.finRange 16).filter (fun n : Station => s.isMember n)).length)) ∧
  (∀ s : State,
     (s.ctl.state = .active → s.quorumCount < s.quorum → s.quorumCheck = { s with
       ctl := { s.ctl with state := .isolated }
       out := { s.out with sweep := { s.out.sweep with
         phase := if s.out.sweep.phase = .running then .paused else s.out.sweep.phase } }
       events := postTo s.events (.isolation true) })
     ∧ (s.ctl.state = .isolated → s.quorum ≤ s.quorumCount → s.quorumCheck = State.sweepWalk { s with
       ctl := { s.ctl with state := .active }
       out := { s.out with sweep := { s.out.sweep with
         phase := if s.out.sweep.phase = .paused then .running else s.out.sweep.phase } }
       events := postTo s.events (.isolation false) })
     ∧ ((s.ctl.state = .active → s.quorum ≤ s.quorumCount) → (s.ctl.state = .isolated → s.quorumCount < s.quorum) →
       s.quorumCheck = s)) ∧
  (∀ (s : State) (n : Station) (st : Presence),
     (s.statusOf n = st → s.statusChange n st = s)
     ∧ (s.statusOf n ≠ st → ∃ t, s.statusChange n st = t ∧
       let told := s.statusTold n st
       let fenceHolds := s.out.fence ≠ none → ∃ x ∈ s.out.entries, x.inFence = true
       told.quorum = s.quorum ∧ t.ctl = told.quorumCheck.ctl ∧ t.out.sweep = told.quorumCheck.out.sweep
       ∧ (fenceHolds → t.events = told.quorumCheck.events)
       ∧ (s.ctl.state = .active → told.quorumCount < s.quorum → t.ctl.state = .isolated
         ∧ (fenceHolds → t.events = postTo (postTo s.events (.station n st)) (.isolation true)))
       ∧ (s.ctl.state = .isolated → s.quorum ≤ told.quorumCount → t.ctl.state = .active
         ∧ (fenceHolds → s.out.sweep.phase = .inactive →
           t.events = postTo (postTo s.events (.station n st)) (.isolation false)))
       ∧ ((s.ctl.state = .active → s.quorum ≤ told.quorumCount) → (s.ctl.state = .isolated → told.quorumCount < s.quorum) →
         t.ctl = s.ctl ∧ t.out.sweep = s.out.sweep ∧ (fenceHolds → t.events = postTo s.events (.station n st)))))

/-- The reclaim sweep (R104, R105): RUNNING with no SWEEP entry outstanding it moves past a region not held, owned or under the
host claim; clears held with CLAIM_DONE(LOST, {}, SWEEP, NOT_CURRENT or EXHAUSTED) at a copy that is not CURRENT or at epoch
65535; after either it goes on at the next region; and it appends one SWEEP CLAIM entry at the first other held region and
waits; past region 63 it is INACTIVE, and that the position then stays at 63 is the model's choice (DESIGN CHOICE, log 42: r+1
is no region there). -/
def Obligations.SweepWalks : Prop :=
  ∀ s : State,
    (s.out.sweep.phase ≠ .running ∨ s.out.sweep.outstanding ≠ none → s.sweepWalk = s)
    ∧ (s.out.sweep.phase = .running → s.out.sweep.outstanding = none →
      let r := s.out.sweep.position
      (s.sweepAct.2 = true → s.sweepWalk = s.sweepAct.1.sweepWalk)
      ∧ (s.sweepAct.2 = false → s.sweepWalk = s.sweepAct.1)
      ∧ (s.table[r].held = true → s.owns r = false → s.out.hostClaim ≠ some r → s.table[r].copy = .current →
        s.table[r].stamp.epoch.toNat ≠ 65535 →
        s.sweepWalk = { s with out := { s.out with
          entries := s.out.entries ++ [⟨r, .claim .sweep, false, .none⟩]
          sweep := { s.out.sweep with outstanding := some r } } })
      ∧ (s.table[r].held = false ∨ s.owns r = true ∨ s.out.hostClaim = some r →
        s.sweepAct = ({ s with out := { s.out with sweep :=
          if r = 63 then { s.out.sweep with phase := .inactive } else { s.out.sweep with position := r + 1 } } }, true))
      ∧ (s.table[r].held = true → s.owns r = false → s.out.hostClaim ≠ some r →
        s.table[r].copy ≠ .current ∨ s.table[r].stamp.epoch.toNat = 65535 →
        s.sweepAct = (State.post (State.setEntry { s with out := { s.out with sweep :=
            if r = 63 then { s.out.sweep with phase := .inactive } else { s.out.sweep with position := r + 1 } } }
          r { s.table[r] with held := false })
          (.claimDone r 0 .sweep (some (if s.table[r].copy = .current then .exhausted else .notCurrent))), true))
      ∧ ((∀ q : Region, s.table[q].held = false) →
        s.sweepWalk = { s with out := { s.out with sweep := { s.out.sweep with phase := .inactive, position := 63 } } }))

/-- What every frame from a member does to the roster as it is handed on (R41, R42, R43, R45): its sender's silence timer starts
again, its status follows the kind and mode (a LEAVING beacon leaves it), and a beacon with another member set is reported once;
the other entries stay. A change of the status is handed on as R44 says, with STATION first and then what the comparison with Q
posts (R56); that MEMBERS_DIFFER of the same beacon comes after all of that is the model's reading (DEDUCED, log 21). -/
def Obligations.RosterFollowsFrames : Prop :=
  ∀ (s : State) (f : Frame), f.origin ≠ s.own → ∃ t, s.rosterHandoff f = t ∧
    let timed := { s with roster := { s.roster with
      entries := s.roster.entries.set f.origin { s.roster.entries[f.origin] with timer := some 0 } } }
    (∀ b, f = .beacon b →
      let u := if b.mode = .leaving then timed
        else timed.statusChange f.origin (if b.mode = .dozing then .dozing else .present)
      let report := b.members ≠ s.ctl.members ∧ s.roster.entries[f.origin].differs = false
      let told := (timed.statusTold f.origin (t.statusOf f.origin)).quorumCheck.events
      t = (if report then { u with
          events := postTo u.events (.membersDiffer f.origin)
          roster := { u.roster with entries := u.roster.entries.set f.origin { u.roster.entries[f.origin] with differs := true } } }
        else u)
      ∧ (s.statusOf f.origin ≠ t.statusOf f.origin →
        t.events = if report then postTo told (.membersDiffer f.origin) else told))
    ∧ ((∀ b, f ≠ .beacon b) → t = timed.statusChange f.origin .present
      ∧ (s.statusOf f.origin ≠ .present → t.events = (timed.statusTold f.origin .present).quorumCheck.events))
    ∧ t.roster.entries[f.origin].timer = some 0
    ∧ (∀ n : Station, n ≠ f.origin → t.roster.entries[n] = s.roster.entries[n])
    ∧ (∀ b, f = .beacon b →
      (b.mode = .leaving → t.statusOf f.origin = s.statusOf f.origin)
      ∧ (b.mode = .dozing → t.statusOf f.origin = .dozing)
      ∧ (b.mode ≠ .leaving → b.mode ≠ .dozing → t.statusOf f.origin = .present)
      ∧ t.roster.entries[f.origin].differs = (s.roster.entries[f.origin].differs || b.members != s.ctl.members)
      ∧ (s.statusOf f.origin = t.statusOf f.origin →
        t.events = if b.members ≠ s.ctl.members ∧ s.roster.entries[f.origin].differs = false then
          postTo s.events (.membersDiffer f.origin) else s.events))
    ∧ ((∀ b, f ≠ .beacon b) → t.statusOf f.origin = .present
      ∧ (s.statusOf f.origin = .present → t = { s with roster := { s.roster with
          entries := s.roster.entries.set f.origin { s.roster.entries[f.origin] with timer := some 0 } } }))
    ∧ t.nv.array = s.nv.array ∧ t.line = s.line ∧ t.applyQ = s.applyQ
    ∧ (∀ r : Region, t.table[r].stamp = s.table[r].stamp ∧ t.table[r].owner = s.table[r].owner)

/-! ### The Mirror Line -/

/-- LINE_IDLE where a frame is offered or none (R23, R25, R26, R69): no frame is chosen with the receiver off or the transmit slot
full; a due beacon goes first; else the oldest offerable entry of the lowest kind priority fills the slot and is SENDING, an
UPDATE sealed, and its frame carries its fields and the copy stamp of that moment. An entry held for a WRITE is passed over (R61).
A CLAIM entry of either source at its offer (R89, R88, R105): with a CURRENT copy below epoch 65535 and no recorded other owner of
a later epoch it goes out with the copy stamp of that moment; else it is withdrawn with CLAIM_DONE(LOST, {}, source, reason), and
a host claim closes; for a SWEEP entry held is cleared, no entry is outstanding, and a sweep that is not INACTIVE moves past the
region and, RUNNING, walks on (past region 63 it ends, its position staying as it is: DESIGN CHOICE, log 42); the choice is then
made again, so that an entry that the walk appended, or the LEAVING beacon that falls due where the withdrawal ends the drain, may
go out at the same idle. A frame being received whose end has not been read is given up first (that a line idle ends it is R35,
its vote pending R21; log 26). -/
def Obligations.LineIdleOffers : Prop :=
  (∀ s : State, s.power = .on →
     (s.ctl.state.receives = false ∨ s.line.slot ≠ none → exec .lineIdle s = .next s)
     ∧ (∀ f bit acked, s.line.slot = none → s.line.rx = some ⟨f, bit, acked⟩ → s.ctl.state.receives = true →
       exec .lineIdle s = exec .lineIdle (match f, acked with
         | .claim c, true => State.setEntry { s with line := { s.line with rx := none } } c.region
             { s.table[c.region] with votePending := false }
         | _, _ => { s with line := { s.line with rx := none } }))
     ∧ (s.ctl.state.receives = true → s.line.slot = none → s.line.rx = none →
       (s.ctl.beaconDue = true → s.ctl.state.onLine = true → exec .lineIdle s = .next { s with
         line := { s.line with syncing := false, slot := some s.composeBeacon }
         ctl := { s.ctl with beaconDue := false } })
       ∧ (s.ctl.state = .listening ∨ s.ctl.beaconDue = false ∧ (s.ctl.state = .dozing ∨ ∀ x ∈ s.out.entries, x.offerable = false) →
         exec .lineIdle s = .next { s with line := { s.line with syncing := false } })
       ∧ (∀ before e after, s.ctl.beaconDue = false → s.ctl.state ≠ .listening → s.ctl.state ≠ .dozing →
         s.out.entries = before ++ e :: after → e.offerable = true → e.isClaim = false →
         (∀ x ∈ before, x.offerable = true → e.priority < x.priority) →
         (∀ x ∈ after, x.offerable = true → e.priority ≤ x.priority) → ∃ f e', exec .lineIdle s = .next { s with
             line := { s.line with syncing := false, slot := some ⟨f, none⟩ }
             out := { s.out with entries := before ++ e' :: after } }
           ∧ e'.region = e.region ∧ e'.sending = true ∧ e'.doom = e.doom
           ∧ (∀ u, e.body = .update u → e'.body = .update { u with sealed := true }
             ∧ f = .update ⟨s.own, e.region, u.ownerEpoch, u.base, u.result, u.offset, u.data⟩)
           ∧ (∀ p force, e.body = .pull force → s.pullOf e.region = some p →
             e'.body = .pull (s.table[e.region].copy == .fetching .damaged || p.taken)
             ∧ f = .pull ⟨s.own, e.region, s.table[e.region].stamp, s.table[e.region].copy == .fetching .damaged || p.taken⟩)
           ∧ (∀ i, e.body = .image i → e'.body = e.body
             ∧ f = .image ⟨s.own, e.region, i.stamp, i.chunk, i.targets, i.data⟩)))) ∧
  (∀ (s : State) (r : Region) (source : ClaimSource) (before after : List OutEntry), s.power = .on →
     s.ctl.state = .active ∨ s.ctl.state = .isolated ∨ s.ctl.state = .leaving → s.line.slot = none → s.line.rx = none →
     s.ctl.beaconDue = false → s.out.entries = before ++ ⟨r, .claim source, false, .none⟩ :: after →
     (∀ x ∈ before, x.isClaim = true → x.sending = true) →
     let outrun := ∃ o, s.table[r].owner = some o ∧ o.station ≠ s.own ∧ s.table[r].stamp.epoch.toNat < o.epoch.toNat
     (s.table[r].copy = .current → ¬ outrun → s.table[r].stamp.epoch.toNat ≠ 65535 → exec .lineIdle s = .next { s with
       line := { s.line with syncing := false, slot := some ⟨.claim ⟨s.own, r, s.table[r].stamp⟩, none⟩ }
       out := { s.out with entries := before ++ ⟨r, .claim source, true, .none⟩ :: after } })
     ∧ (s.table[r].copy ≠ .current ∨ outrun ∨ s.table[r].stamp.epoch.toNat = 65535 → ∃ why,
       (why = .exhausted ↔ s.table[r].copy = .current ∧ ¬ outrun) ∧ why ≠ .refused
       ∧ (source = .host → exec .lineIdle s = exec .lineIdle (State.drainEnd { s with
         line := { s.line with syncing := false }
         out := { s.out with entries := before ++ after, hostClaim := none }
         events := postTo s.events (.claimDone r 0 .host (some why)) }))
       ∧ (source = .sweep → exec .lineIdle s = exec .lineIdle (State.drainEnd (State.sweepWalk (State.setEntry { s with
           line := { s.line with syncing := false }
           out := { s.out with
             entries := before ++ after
             sweep := if s.out.sweep.phase = SweepPhase.inactive then { s.out.sweep with outstanding := none }
               else if r = 63 then { s.out.sweep with phase := .inactive, outstanding := none }
               else { s.out.sweep with position := r + 1, outstanding := none } }
           events := postTo s.events (.claimDone r 0 .sweep (some why)) } r { s.table[r] with held := false }))))))
  ∧ (∀ s : State, s.drainEnd = if s.ctl.state = .leaving ∧ s.ctl.leavePhase = .drain ∧ s.out.entries = [] then
       { s with ctl := { s.ctl with leavePhase := .final, beaconDue := true, leaveTimer := some 0 } } else s)

/-- The census of a beacon (R50, R49): at most four entries, no region twice, each a region this station owns without an UPDATE
in the Outbox, with its copy stamp; first the front list's regions in its order, then those that the walk meets, in ascending order
from after the cursor, wrapping and ending with the cursor region, from 0 with the cursor at START; fewer than four only where
every such region is in it; LEAVING carries none; and the mode is that of R48. The last region of the walk is kept with the beacon
for its frame end (R51). -/
def Obligations.CensusOfBeacon : Prop :=
  ∀ s : State, ∃ b w, s.composeBeacon = ⟨.beacon b, w⟩ ∧ b.origin = s.own ∧ b.members = s.ctl.members
    ∧ b.census.length ≤ 4 ∧ (s.roster.front.Nodup → (b.census.map (·.region)).Nodup)
    ∧ (∀ e ∈ b.census, s.owns e.region = true ∧ s.out.hasUpdate e.region = false ∧ e.stamp = s.table[e.region].stamp)
    ∧ (s.ctl.state ≠ .leaving → b.census.length < 4 →
      ∀ r : Region, s.owns r = true → s.out.hasUpdate r = false → r ∈ b.census.map (·.region))
    ∧ (s.ctl.state ≠ .leaving → ∀ r, s.roster.front.head? = some r → s.owns r = true → s.out.hasUpdate r = false →
      (b.census.map (·.region)).head? = some r)
    ∧ (s.ctl.state ≠ .leaving →
      let place := fun r : Region => match s.roster.cursor with
        | none => r.val
        | some c => (r.val + 63 - c.val) % 64
      let first := (s.roster.front.filter (fun r => s.owns r && !s.out.hasUpdate r)).take 4
      ∃ walk : List Region, b.census.map (·.region) = first ++ walk ∧ walk.Pairwise (fun x y => place x < place y)
        ∧ (∀ r ∈ walk, r ∉ first)
        ∧ (∀ x ∈ walk, ∀ r : Region, place r < place x → s.owns r = true → s.out.hasUpdate r = false → r ∉ first → r ∈ walk)
        ∧ w = walk.getLast?)
    ∧ (s.ctl.state = .leaving → b.census = [] ∧ b.mode = .leaving ∧ w = none)
    ∧ (s.ctl.state = .dozing → b.mode = .dozing)
    ∧ (s.ctl.state = .active ∨ s.ctl.state = .isolated → s.ctl.joining = true → b.mode = .joining)
    ∧ (s.ctl.state = .active → s.ctl.joining = false → b.mode = .active)
    ∧ (s.ctl.state = .isolated → s.ctl.joining = false → b.mode = .isolated)

/-- LOST_ARBITRATION and LINE_FAULT (R26, R28, R36, R37): the slot is free, an entry is WAITING again in its place unless its
removal was asked for, and a beacon is due again; a removal asked for while the entry was SENDING is made at once (R67): the cut
counts it for LEFT, an in-fence UPDATE raises the fence's lost count, a host claim closes, no SWEEP entry is outstanding, and a
fence without in-fence entries completes (R81, R84, R88, R165; that a CLAIM discarded with its region closes its claim too is the
model's reading, log 30). A fault alone counts, and the sixteenth halts with cause LINE_FAULT and count 16, an open fence closing
without FENCE_DONE (R85); that the removal is made before that halt is the model's choice (DESIGN CHOICE, log 41). In LEAVING a beacon
composed before LEAVE is not due again (R163), and the LEAVING beacon is (R166). A fault of the own PULL before the tail leaves the
answer timer as it is; after one in the ack lead or the end delimiter it may run, as R21 says, or stay stopped, as R115 and R117
say: a free value decides (DESIGN CHOICE, log 38). -/
def Obligations.AttemptWithoutFrameEnd : Prop :=
  ∀ (s : State) (f : Frame) (w : Option Region), s.power = .on → s.line.slot = some ⟨f, w⟩ → ∃ u v,
    exec .lostArbitration s = .next u.afterAttempt
    ∧ (s.line.faults < 15 →
      exec (.lineFault .content) s = .next (State.afterAttempt { u with line := { u.line with faults := s.line.faults + 1 } })
      ∧ exec (.lineFault .tail) s = .next (State.afterAttempt { v with line := { v.line with faults := s.line.faults + 1 } }))
    ∧ (∀ place, 15 ≤ s.line.faults → ∃ t, exec (.lineFault place) s = .next t ∧ t.haltedClear ∧ s.haltedFrom t ∧ t.line.faults = 16
        ∧ t.events = postTo u.events (.halted .lineFault))
    ∧ (((∀ g, f ≠ .pull g) ∨ ∀ x ∈ s.out.entries, x.sending = true → x.isPull = true →
        x.doom ≠ .none ∨ s.pullOf x.region = none) → v = u)
    ∧ (∀ g force before p after, f = .pull g → s.pullOf p.region = some p →
      s.out.entries = before ++ ⟨p.region, .pull force, true, .none⟩ :: after → (∀ x ∈ before, x.sending = false) →
      v = { u with free := s.free + 1 }
      ∨ v = { u with
          free := s.free + 1
          catchup := { s.catchup with pulls := s.catchup.pulls.map (fun x =>
            if x.region = p.region then { p with timer := if p.collected = 0xFFFF then none else some 0 } else x) } })
    ∧ u.line = { s.line with slot := none }
    ∧ (∀ b, f = .beacon b →
      (s.ctl.state ≠ .leaving ∨ b.mode = .leaving → u = { s with
        line := { s.line with slot := none }
        ctl := { s.ctl with beaconDue := true } })
      ∧ (s.ctl.state = .leaving → b.mode ≠ .leaving → u = { s with line := { s.line with slot := none } })
      ∧ (∀ place, s.ctl.state = .leaving → (s.ctl.leavePhase = .drain ∧ s.out.entries ≠ []) ∨
          (s.ctl.leavePhase = .final ∧ s.ctl.leaveTimer ≠ none) →
        let ended := fun t : State => t.line.slot = none
          ∧ t.ctl = if b.mode = .leaving then { s.ctl with beaconDue := true } else s.ctl
        (∃ t, exec .lostArbitration s = .next t ∧ ended t)
        ∧ (s.line.faults < 15 → ∃ t, exec (.lineFault place) s = .next t ∧ ended t)))
    ∧ ((∀ b, f ≠ .beacon b) → (∀ x ∈ s.out.entries, x.sending = true → x.doom = .none) → u = { s with
        line := { s.line with slot := none }
        out := { s.out with entries := s.out.entries.map (fun x => { x with sending := false }) } })
    ∧ (∀ r body doom before after, (∀ b, f ≠ .beacon b) → s.out.entries = before ++ ⟨r, body, true, doom⟩ :: after →
      (∀ x ∈ before ++ after, x.sending = false) → doom ≠ .none →
      let gone := { s.out with entries := before ++ after }
      u = State.checkFence { s with
        line := { s.line with slot := none }
        ctl := { s.ctl with discarded := if doom = .cut then s.ctl.discarded + 1 else s.ctl.discarded }
        out := match body with
          | .update x => { gone with
              fence := if x.inFence = true then s.out.fence.map (fun y => { y with lost := y.lost + 1 }) else s.out.fence }
          | .claim .host => { gone with hostClaim := none }
          | .claim .sweep => { gone with sweep := { s.out.sweep with outstanding := none } }
          | .pull _ => gone
          | .image _ => gone })

/-- A frame at this station (R29 to R32, R35, R156, R157): out of range or with the station unable to receive it does nothing; the
own number marks a duplicate in LISTENING for a BEACON alone and halts with DUPLICATE on the line; a non-member restarts its
stranger timer and is reported where that timer was stopped; a member's frame is handed on, and goes through its ack point, past
it in LISTENING, or loses its end before it; the duplicate and the stranger are found at that moment too where the end is lost
afterwards. The handing on: to the roster first; beyond it an IMAGE may restart an answer timer (R117); and in LISTENING a
BEACON's census entries are handled one by one, an UPDATE and an IMAGE teach their owner, an UPDATE of the recorded owner above
the copy stamp marks the copy STALE BEHIND, and a CLAIM and a PULL do nothing further. That a station with its transmit slot
filled, or with another received frame not yet ended, receives none is the model's reading of one line (DEDUCED, log 25). -/
def Obligations.FramesFoundIntact : Prop :=
  ∀ (s : State) (f : Frame) (g : Bool), s.power = .on →
    (s.canReceive = false ∨ f.inRange = false →
      exec (receptionOf g f) s = .next s ∧ exec (.frameEndLost (some f)) s = .next s)
    ∧ (s.canReceive = true → f.inRange = true → f.origin = s.own →
      (s.ctl.state = .listening → exec (receptionOf g f) s = .next (match f with
        | .beacon _ => { s with ctl := { s.ctl with duplicateHeard := true } }
        | .claim _ | .pull _ | .update _ | .image _ => s))
      ∧ exec (.frameEndLost (some f)) s = exec (receptionOf g f) s
      ∧ (s.ctl.state ≠ .listening → ∃ t, exec (receptionOf g f) s = .next t ∧ t.haltedClear ∧ s.haltedFrom t
        ∧ t.events = postTo s.events (.halted .duplicate)))
    ∧ (s.canReceive = true → f.inRange = true → f.origin ≠ s.own → s.isMember f.origin = false →
      exec (receptionOf g f) s = exec (.strangerFrame f.origin) s
      ∧ exec (.frameEndLost (some f)) s = exec (.strangerFrame f.origin) s
      ∧ exec (.strangerFrame f.origin) s = .next { s with
          events := if s.line.strangers[f.origin] = none then postTo s.events (.stranger f.origin) else s.events
          line := { s.line with strangers := s.line.strangers.set f.origin (some 0) } })
    ∧ (s.hears f →
      (s.ctl.state = .listening → exec (receptionOf g f) s = .next { s.handOn f with
        line := { (s.handOn f).line with rx := some ⟨f, false, false⟩ } })
      ∧ (s.ctl.state ≠ .listening → exec (receptionOf g f) s = .next (State.settle
        { (ackPoint g f (s.handOn f)).2 with
          line := { (ackPoint g f (s.handOn f)).2.line with rx := some ⟨f, (ackPoint g f (s.handOn f)).1, true⟩ } }))
      ∧ exec (.frameEndLost (some f)) s = .next (s.handOn f).settle)
    ∧ ((s.rosterHandoff f).ctl.state = .listening ↔ s.ctl.state = .listening)
    ∧ (s.ctl.state ≠ .listening → s.handOn f = match f with
      | .image i => (s.rosterHandoff f).imageHeard i
      | .beacon _ | .claim _ | .pull _ | .update _ => s.rosterHandoff f)
    ∧ (s.ctl.state = .listening → s.handOn f = match f with
      | .beacon b => b.census.foldl (State.censusEntry b.origin) (s.rosterHandoff f)
      | .claim _ | .pull _ => s.rosterHandoff f
      | .update u =>
        let t := (s.rosterHandoff f).learnOwner u.region u.origin u.ownerEpoch
        if t.ownedBy u.region u.origin = true ∧ stampLower t.table[u.region].stamp ⟨u.ownerEpoch, u.result⟩ = true then
          t.markStale u.region .behind
        else t
      | .image i => ((s.rosterHandoff f).imageHeard i).learnOwner i.region i.origin i.stamp.epoch)
    ∧ (∀ bit acked, s.line.rx = some ⟨f, bit, acked⟩ →
      exec (.frameEndLost none) s = .next (match f, acked with
        | .claim c, true => State.setEntry { s with line := { s.line with rx := none } } c.region
            { s.table[c.region] with votePending := false }
        | _, _ => { s with line := { s.line with rx := none } }))

/-! ### Ack points -/

/-- A BEACON at its ack point (R53, R54, R20): the bit is set, and the census entries act one after the other; an entry for an
owned region goes to conflict resolution; else owner learning, and where the sender is then the recorded owner a higher stamp
marks the copy STALE BEHIND, a lower one posts STAMP_AHEAD, and an equal one changes nothing. That pulls open after each entry
is the model's reading of R113 (log 16). -/
def Obligations.CensusHandled : Prop :=
  ∀ (s : State) (b : BeaconFrame) (e : CensusEntry),
    State.beaconAct b s = (true, b.census.foldl (State.censusEntry b.origin) s)
    ∧ (s.owns e.region = true → s.censusEntry b.origin e = (s.resolveConflict e.region b.origin e.stamp).openPulls)
    ∧ (s.owns e.region = false → ∀ t, s.learnOwner e.region b.origin e.stamp.epoch = t →
      (t.ownedBy e.region b.origin = false → s.censusEntry b.origin e = t.openPulls)
      ∧ (t.ownedBy e.region b.origin = true →
        (stampLower t.table[e.region].stamp e.stamp = true →
          s.censusEntry b.origin e = (t.markStale e.region .behind).openPulls)
        ∧ (stampLower e.stamp t.table[e.region].stamp = true →
          s.censusEntry b.origin e = State.openPulls { t with events := postTo t.events (.stampAhead e.region b.origin) })
        ∧ (t.table[e.region].stamp = e.stamp → s.censusEntry b.origin e = t.openPulls)))

/-- The vote on a CLAIM (R91 to R94, R161): set exactly where the copy stamp is not above the claim stamp, an owner has
yield-ready yes, no UPDATE of the region and is not DOZING, the region is not protected, and the recorded owner is not another
SILENT station; an owner that agrees sets vote pending, and a dozing owner wakes after its vote. -/
def Obligations.VoteOnClaim : Prop :=
  ∀ (s : State) (c : ClaimFrame) (guardPin : Bool),
    ((State.claimAct c guardPin s).1 = true ↔
      stampUpTo s.table[c.region].stamp c.stamp
      ∧ (s.owns c.region = true → s.table[c.region].yieldReady = true ∧ s.out.hasUpdate c.region = false ∧ s.ctl.state ≠ .dozing)
      ∧ ¬(guardPin = true ∧ inMap s.ctl.guardSet c.region = true)
      ∧ ¬(∃ o, s.table[c.region].owner = some o ∧ o.station ≠ s.own ∧ s.statusOf o.station = .silent))
    ∧ (s.owns c.region = false → (State.claimAct c guardPin s).2 = s)
    ∧ (s.owns c.region = true → (State.claimAct c guardPin s).1 = true →
      (State.claimAct c guardPin s).2 = s.setEntry c.region { s.table[c.region] with votePending := true })
    ∧ (s.owns c.region = true → (State.claimAct c guardPin s).1 = false → s.ctl.state ≠ .dozing →
      (State.claimAct c guardPin s).2 = s)
    ∧ (s.owns c.region = true → s.ctl.state = .dozing → (State.claimAct c guardPin s).1 = false
      ∧ (State.claimAct c guardPin s).2 = s.wakeUp (some c.region))

/-- The owner's decision on a PULL (R120, R121, R122): no bit and no change at a station that is not the owner; equal without
force sets the bit and drops a target; equal with force or lower is served, and higher posts STAMP_AHEAD, but not in LEAVING; a
dozing owner wakes first and decides as the woken owner (R161); a new record has the requester as its one target with all 16
chunks needed, and with two other records open the PULL is ignored. A target that is dropped leaves its record, which ends with
its last target (R126, R127). -/
def Obligations.PullDecided : Prop :=
  ∀ (s : State) (p : PullFrame),
    (s.owns p.region = false → State.pullAct p s = (false, s))
    ∧ (s.owns p.region = true → s.ctl.state ≠ .dozing →
      let own := s.table[p.region].stamp
      (stampLower own p.stamp = true → State.pullAct p s = (false,
        if s.ctl.state = .leaving then s else { s with events := postTo s.events (.stampAhead p.region p.origin) }))
      ∧ (p.stamp = own → p.force = false → State.pullAct p s = (true, s.dropTarget p.region p.origin)
        ∧ (s.serves p.region p.origin = false → s.dropTarget p.region p.origin = s)
        ∧ (∀ v, s.servingOf p.region = some v → (∃ q ∈ v.targets, q.station = p.origin) →
          let left := v.targets.filter (fun q => q.station != p.origin)
          (left ≠ [] → s.dropTarget p.region p.origin = { s with serving := s.serving.map (fun x =>
            if x.region = p.region then { v with targets := left } else x) })
          ∧ (left = [] → s.dropTarget p.region p.origin = s.endServing p.region)))
      ∧ (stampLower p.stamp own = true ∨ p.stamp = own ∧ p.force = true →
        (s.ctl.state = .leaving → State.pullAct p s = (false, s))
        ∧ (s.ctl.state ≠ .leaving → s.servingOf p.region = none → s.serving.length < 2 → State.pullAct p s = (false, { s with
            serving := s.serving ++ [⟨p.region, own, [⟨p.origin, 0xFFFF, 0⟩], 0, 0, .none⟩] }))
        ∧ (s.ctl.state ≠ .leaving → s.servingOf p.region = none → 2 ≤ s.serving.length → State.pullAct p s = (false, s))
        ∧ (∀ v, s.ctl.state ≠ .leaving → s.servingOf p.region = some v → (∀ q ∈ v.targets, q.station ≠ p.origin) →
          State.pullAct p s = (false, { s with serving := s.serving.map (fun x => if x.region = p.region then
            { v with targets := v.targets ++ [⟨p.origin, 0xFFFF, 0⟩] } else x) }))
        ∧ (∀ v, s.ctl.state ≠ .leaving → s.servingOf p.region = some v → (∃ q ∈ v.targets, q.station = p.origin) →
          State.pullAct p s = (false, { s with serving := s.serving.map (fun x => if x.region = p.region then
            { v with targets := v.targets.map (fun q => if q.station = p.origin then { q with noProgress := 0 } else q) }
            else x) }))))
    ∧ (s.owns p.region = true → s.ctl.state = .dozing →
      State.pullAct p s = (s.wakeUp (some p.region)).decidePull p
      ∧ State.pullAct p s = State.pullAct p (s.wakeUp (some p.region))
      ∧ (s.wakeUp (some p.region)).owns p.region = true ∧ (s.wakeUp (some p.region)).ctl.state ≠ .dozing)

/-- An UPDATE at its ack point (R71 to R75): an owner goes to conflict resolution with its bit clear; after owner learning a frame
not learned is discarded; a lower result changes nothing, a duplicate is acked unless the copy is DAMAGED or FETCHING, a dozing
receiver and a copy out of sequence are marked STALE BEHIND, and an in-sequence frame is taken with its stamp while the Apply
Queue has room. Pulls that it makes possible open once the rules of the step have run (DESIGN CHOICE, log 16). -/
def Obligations.UpdateReceived : Prop :=
  ∀ (s : State) (u : UpdateFrame),
    let r := u.region
    let result : Stamp := ⟨u.ownerEpoch, u.result⟩
    (s.owns r = true → State.updateAct u s = (false, s.resolveConflict r u.origin result))
    ∧ (s.owns r = false → ∀ t, s.learnOwner r u.origin u.ownerEpoch = t →
      (t.ownedBy r u.origin = false → State.updateAct u s = (false, t))
      ∧ (t.ownedBy r u.origin = true →
        (stampLower result t.table[r].stamp = true → State.updateAct u s = (false, t))
        ∧ (result = t.table[r].stamp → t.table[r].copy = .current ∨ t.table[r].copy = .stale .behind →
          State.updateAct u s = (true, t))
        ∧ (result = t.table[r].stamp → t.table[r].copy ≠ .current → t.table[r].copy ≠ .stale .behind →
          State.updateAct u s = (false, t))
        ∧ (stampLower t.table[r].stamp result = true →
          (t.ctl.state = .dozing ∨ t.table[r].copy ≠ .current ∨ t.table[r].stamp ≠ ⟨u.ownerEpoch, u.base⟩ →
            State.updateAct u s = (false, t.markStale r .behind))
          ∧ (t.ctl.state ≠ .dozing → t.table[r].copy = .current → t.table[r].stamp = ⟨u.ownerEpoch, u.base⟩ →
            (8 ≤ t.applyQ.length → State.updateAct u s = (false, t))
            ∧ (t.applyQ.length < 8 → State.updateAct u s = (true, { t with
              applyQ := t.applyQ ++ [⟨t.serial, r, .update u.offset u.data⟩]
              serial := t.serial + 1
              table := t.table.set r { t.table[r] with stamp := result }
              nv := { t.nv with regions := t.nv.regions.set r ⟨result, some .damaged, true, t.table[r].held⟩ } }))))))

/-- An IMAGE at its ack point (R130, R132): no bit at an owner, and elsewhere owner learning; at a named station whose open pull
targets the origin a stamp below the copy or the collection is refused, a higher one begins the collection anew, a chunk collected
already is acked, and a new one is taken as a CHUNK entry with its bit while the Apply Queue has room, the last of the 16 stopping
the answer timer. A new collection starts the timer where it was stopped with all 16 chunks collected and no PULL of the record
waits or is sent (R117). An IMAGE found intact that names the station restarts the timer of its open pull from 0 while it runs,
whatever its origin and whether or not the chunk is taken (R117). Pulls that it makes possible open once the rules of the step
have run (DESIGN CHOICE, log 16). -/
def Obligations.ImageReceived : Prop :=
  ∀ (s : State) (i : ImageFrame),
    let r := i.region
    (s.owns r = true → State.imageAct i s = (false, s))
    ∧ (s.owns r = false → ∀ t, s.learnOwner r i.origin i.stamp.epoch = t →
      (t.pullOf r = none ∨ inMap i.targets t.own = false → State.imageAct i s = (false, t))
      ∧ (∀ p, t.pullOf r = some p → p.target ≠ i.origin → State.imageAct i s = (false, t))
      ∧ (∀ p, t.pullOf r = some p → inMap i.targets t.own = true → p.target = i.origin →
        let put := fun x : PullRecord => { t.catchup with pulls := t.catchup.pulls.map (fun y => if y.region = r then x else y) }
        (stampLower i.stamp t.table[r].stamp = true ∨ (∃ c, p.collecting = some c ∧ stampLower i.stamp c = true) →
          State.imageAct i s = (false, t))
        ∧ (stampUpTo t.table[r].stamp i.stamp → p.collecting = some i.stamp →
          (inMap p.collected i.chunk = true → State.imageAct i s = (true, { t with catchup := put p }))
          ∧ (inMap p.collected i.chunk = false → 8 ≤ t.applyQ.length → State.imageAct i s = (false, { t with catchup := put p }))
          ∧ (inMap p.collected i.chunk = false → t.applyQ.length < 8 → ∃ x : State, State.imageAct i s = (true, { x with
                catchup := put { p with
                  collected := addBit p.collected i.chunk
                  taken := true
                  timer := if addBit p.collected i.chunk = 0xFFFF then none else p.timer }
                applyQ := t.applyQ ++ [⟨t.serial, r, .chunk i.chunk i.data i.stamp p.id⟩]
                serial := t.serial + 1 })
              ∧ x.table = t.table ∧ x.out = t.out ∧ x.events = t.events ∧ x.ctl = t.ctl ∧ x.line = t.line
              ∧ x.nv.array = t.nv.array ∧ x.nv.regions[r].stale = some .damaged))
        ∧ (stampUpTo t.table[r].stamp i.stamp → (∀ c, p.collecting = some c → stampLower c i.stamp = true) →
          let anew := { p with
            collecting := some i.stamp
            collected := 0
            written := 0
            timer := if p.timer = none ∧ p.collected = 0xFFFF ∧ p.owed = false
                ∧ (∀ x ∈ t.out.entries, x.isPull = true → x.region ≠ r) then some 0
              else p.timer }
          (8 ≤ t.applyQ.length → State.imageAct i s = (false, { t with catchup := put anew }))
          ∧ (t.applyQ.length < 8 → ∃ x : State, State.imageAct i s = (true, { x with
              catchup := put { anew with collected := addBit 0 i.chunk, taken := true }
              applyQ := t.applyQ ++ [⟨t.serial, r, .chunk i.chunk i.data i.stamp p.id⟩]
              serial := t.serial + 1 })
            ∧ x.table = t.table ∧ x.out = t.out ∧ x.events = t.events ∧ x.ctl = t.ctl ∧ x.line = t.line
            ∧ x.nv.array = t.nv.array ∧ x.nv.regions[r].stale = some .damaged))))
    ∧ (∀ p, s.pullOf r = some p → inMap i.targets s.own = true → p.timer ≠ none → s.imageHeard i = { s with
        catchup := { s.catchup with pulls := s.catchup.pulls.map (fun y => if y.region = r then { p with timer := some 0 } else y) } })
    ∧ (s.pullOf r = none ∨ inMap i.targets s.own = false ∨ (∃ p, s.pullOf r = some p ∧ p.timer = none) → s.imageHeard i = s)
    ∧ ((s.rosterHandoff (.image i)).ctl.state ≠ .listening →
      s.handOn (.image i) = (s.rosterHandoff (.image i)).imageHeard i)

/-! ### Frame ends -/

/-- BEACON_FRAME_END (R51, R48, R42, R34, R166): at the origin the ack map read is kept, the front list loses the regions carried,
the cursor is the last region of the walk, beacons carry JOINING no longer and the fault count is 0; a LEAVING beacon returns a
leaving station to OFFLINE with LEFT, its ack map kept as the last beacon ack map over the clearing of the roster (R46) and the
fault count 0, and at a receiver makes its sender ABSENT, whatever its status was, the change handed on as R44 says (pulls open
within it: DESIGN CHOICE, log 16), with its timer stopped and members-differ seen no (R45). -/
def Obligations.BeaconFrameEnds : Prop :=
  ∀ (s : State) (b : BeaconFrame) (w : Option Region) (ack : StationMap), s.power = .on →
    (s.line.slot = some ⟨.beacon b, w⟩ → ∃ u,
      u = { s with
        line := { s.line with slot := none, faults := 0 }
        roster := { s.roster with
          lastAck := ack
          front := s.roster.front.filter (fun r => !b.census.any (fun e => e.region == r))
          cursor := if w = none then s.roster.cursor else w }
        ctl := { s.ctl with joining := false } }
      ∧ (b.mode ≠ .leaving → exec (.beaconFrameEnd ack) s = .next u.afterAttempt)
      ∧ (b.mode = .leaving → s.ctl.state ≠ .leaving → exec (.beaconFrameEnd ack) s = .next u.afterAttempt)
      ∧ (b.mode = .leaving → s.ctl.state = .leaving → ∃ t, exec (.beaconFrameEnd ack) s = .next t ∧ t.ctl.state = .offline
        ∧ t.roster = ⟨Vector.replicate 16 ⟨.absent, none, false⟩, u.roster.cursor, [], ack⟩
        ∧ t.line.faults = 0 ∧ t.line.slot = none ∧ t.line.rx = none ∧ t.ctl.joining = false ∧ t.ctl.leaveTimer = none
        ∧ t.events = postTo s.events (.left s.ctl.discarded) ∧ (∀ r : Region, t.table[r].owner = none
          ∧ t.table[r].held = s.table[r].held ∧ t.table[r].stamp = s.table[r].stamp)))
    ∧ (∀ bit acked, s.line.slot = none → s.line.rx = some ⟨.beacon b, bit, acked⟩ →
      (b.mode ≠ .leaving → exec (.beaconFrameEnd ack) s = .next (State.resume { s with line := { s.line with rx := none } }))
      ∧ (b.mode = .leaving → b.origin ≠ s.own → ∃ t, exec (.beaconFrameEnd ack) s = .next t
        ∧ (let u := State.statusChange { s with line := { s.line with rx := none } } b.origin .absent
          t = State.resume { u with
            roster := { u.roster with entries := u.roster.entries.set b.origin ⟨.absent, none, false⟩ } })
        ∧ t.roster.entries[b.origin] = ⟨.absent, none, false⟩
        ∧ (∀ n : Station, n ≠ b.origin → t.roster.entries[n] = s.roster.entries[n])))

/-- CLAIM_FRAME_END (R95, R97, R99, R90, R21): a receiver clears vote pending and applies an effective claim; a frame found intact
while LISTENING has no decision; the claimant's entry is gone in every case, with CLAIM_DONE WON after the changes or
LOST(REFUSED), and a host claim closes; the outcome of a SWEEP entry (R105) leaves none outstanding, clears held where the claim
is lost, moves a sweep that is not INACTIVE past the region, after 63 to its end with its position as it is (DESIGN CHOICE, log
42), and one that is RUNNING walks on. A claim is effective where every counted member and the own station, but not the claimant,
is in the map, and the member bits and 1 reach Q. Pulls that it makes possible open once the rules of the step have run (DESIGN
CHOICE, log 16). -/
def Obligations.ClaimFrameEnds : Prop :=
  ∀ (s : State) (c : ClaimFrame) (ack : StationMap), s.power = .on →
    (∀ (o : Station) (m : StationMap), s.claimEffective o m = true ↔
      (∀ n : Station, n ≠ o → n = s.own ∨ (s.isMember n = true ∧ (s.statusOf n = .present ∨ s.statusOf n = .dozing)) →
        inMap m n = true)
      ∧ s.quorum ≤ 1 + ((List.finRange 16).filter (fun n : Station => inMap m n && s.isMember n)).length)
    ∧ (∀ bit, s.line.slot = none → s.line.rx = some ⟨.claim c, bit, true⟩ →
      let u := State.setEntry { s with line := { s.line with rx := none } } c.region { s.table[c.region] with votePending := false }
      exec (.claimFrameEnd ack) s = .next (State.resume (
        if u.claimEffective c.origin ack = true then u.applyClaim c.origin c.region c.stamp else u)))
    ∧ (∀ bit, s.line.slot = none → s.line.rx = some ⟨.claim c, bit, false⟩ →
      exec (.claimFrameEnd ack) s = .next (State.resume { s with line := { s.line with rx := none } }))
    ∧ (∀ w doom before after, s.line.slot = some ⟨.claim c, w⟩ →
      s.out.entries = before ++ ⟨c.region, .claim .host, true, doom⟩ :: after → (∀ x ∈ before ++ after, x.sending = false) →
      let u := { s with
        line := { s.line with slot := none, faults := 0 }
        out := { s.out with entries := before ++ after } }
      exec (.claimFrameEnd ack) s = .next (State.afterAttempt (
        if u.claimEffective s.own ack = true then
          State.mapOut (State.post (u.applyClaim s.own c.region c.stamp) (.claimDone c.region ack .host none))
            (fun o => { o with hostClaim := none })
        else
          { u with
            events := postTo s.events (.claimDone c.region ack .host (some .refused))
            out := { u.out with hostClaim := none } })))
    ∧ (∀ w doom before after, s.line.slot = some ⟨.claim c, w⟩ →
      s.out.entries = before ++ ⟨c.region, .claim .sweep, true, doom⟩ :: after → (∀ x ∈ before ++ after, x.sending = false) →
      let u := { s with
        line := { s.line with slot := none, faults := 0 }
        out := { s.out with entries := before ++ after } }
      let sweep : Sweep := if s.out.sweep.phase = .inactive then { s.out.sweep with outstanding := none }
        else if c.region = 63 then { s.out.sweep with phase := .inactive, outstanding := none }
        else { s.out.sweep with position := c.region + 1, outstanding := none }
      exec (.claimFrameEnd ack) s = .next (State.afterAttempt (State.sweepWalk (
        if u.claimEffective s.own ack = true then
          State.mapOut (State.post (u.applyClaim s.own c.region c.stamp) (.claimDone c.region ack .sweep none))
            (fun o => { o with sweep := sweep })
        else
          State.setEntry { u with
            events := postTo s.events (.claimDone c.region ack .sweep (some .refused))
            out := { u.out with sweep := sweep } } c.region { s.table[c.region] with held := false }))))

/-- An effective claim at a station (R96, R97, R98, R13, R17): a copy at the claim stamp is raised in epoch and another is marked
STALE BEHIND, which is posted in ACTIVE, ISOLATED and LISTENING and listed in the first two (R6), before OWNERSHIP_LOST; the
claimant is recorded as owner under the next epoch; an open pull of the region is closed, also where the claimant was the recorded
owner before, its copy STALE with the kept cause, or DAMAGED with a chunk taken, and in ACTIVE and ISOLATED REGION_STALE is posted
and the region listed at the tail; a claimant gains held with its flags no; a former owner loses held and its flags and posts
OWNERSHIP_LOST(YIELDED). The PULL entry of a closed pull and the IMAGE entry of a former owner's serving record, which ends,
leave: at once when WAITING, at the end of the attempt when SENDING (R119, R127). But for these, and the hold that a WRITE turned
away gives up (R17, R61), the Outbox stays as it is, and an open fence that still has an in-fence entry goes on. Pulls that it
makes possible open once the rules of the step have run (DESIGN CHOICE, log 16). -/
def Obligations.EffectiveClaimApplied : Prop :=
  ∀ (s : State) (c : Station) (r : Region) (stamp : Stamp), stamp.epoch.toNat < 65535 →
    let fenceHolds := s.out.fence ≠ none → ∃ x ∈ s.out.entries, x.inFence = true
    ∃ t, s.applyClaim c r stamp = t
      ∧ (fenceHolds → t.out.fence = s.out.fence)
      ∧ (let others := s.out.entries.filter (fun x => !((x.isPull || x.isImage) && x.region == r))
        t.out.entries.filter (fun x => !((x.isPull || x.isImage) && x.region == r))
          = if c ≠ s.own ∧ s.owns r = true then s.turnedAway r others else others)
      ∧ (let lost := decide (c ≠ s.own) && s.owns r
        let served := lost && s.serving.any (fun v => v.region == r)
        let kept := removalAsked (fun x => x.region == r && ((x.isPull && (s.pullOf r).isSome) || (x.isImage && served)))
          s.out.entries
        t.out.entries = (if lost = true then s.turnedAway r kept else kept)
        ∧ t.serving = (if lost = true then s.serving.filter (fun v => v.region != r) else s.serving)
        ∧ t.arb = s.arbAfterServing (fun q => served && q == r)
        ∧ t.out.hostClaim = s.out.hostClaim ∧ t.out.sweep = s.out.sweep)
      ∧ t.catchup.pulls = s.catchup.pulls.filter (fun x => x.region != r)
      ∧ (s.pullOf r ≠ none → ∀ x ∈ t.out.entries, x.isPull = true → x.region = r → x.sending = true ∧ x.doom ≠ .none)
      ∧ t.table[r].owner = some ⟨c, stamp.epoch + 1⟩ ∧ t.pullOf r = none
      ∧ (∀ q : Region, q ≠ r → t.table[q] = s.table[q])
      ∧ (s.table[r].stamp = stamp → t.table[r].stamp = ⟨stamp.epoch + 1, stamp.version⟩)
      ∧ (s.table[r].stamp ≠ stamp → t.table[r].stamp = s.table[r].stamp)
      ∧ (s.pullOf r = none →
        let marks := s.table[r].stamp ≠ stamp ∧ s.table[r].copy = .current
        let stale : List Event := if marks ∧ (s.ctl.state = .active ∨ s.ctl.state = .isolated ∨ s.ctl.state = .listening)
          then [.regionStale r .behind] else []
        let yielded : List Event := if c ≠ s.own ∧ s.owns r = true then [.ownershipLost r false] else []
        let changes := s.table[r].owner.map (·.station) ≠ some c
        let lists := (s.ctl.state = .active ∨ s.ctl.state = .isolated)
          ∧ (marks ∨ (inMap s.catchup.parked r = true ∧ (s.table[r].stamp ≠ stamp ∨ changes)))
        (¬ marks → t.table[r].copy = s.table[r].copy)
        ∧ (fenceHolds → t.events = (stale ++ yielded).foldl postTo s.events)
        ∧ (lists → t.catchup.list = (if r ∈ s.catchup.list then s.catchup.list else s.catchup.list ++ [r])
          ∧ t.catchup.parked = dropBit s.catchup.parked r)
        ∧ (¬ lists → t.catchup.list = s.catchup.list ∧ t.catchup.parked = s.catchup.parked)
        ∧ (s.table[r].stamp = stamp → t.table[r].copy = s.table[r].copy)
        ∧ (s.table[r].stamp ≠ stamp → s.table[r].copy = .current → t.table[r].copy = .stale .behind)
        ∧ (fenceHolds → c = s.own → s.owns r = false → s.table[r].stamp = stamp → t.events = s.events)
        ∧ (fenceHolds → c ≠ s.own → s.owns r = true → s.table[r].stamp = stamp →
          t.events = postTo s.events (.ownershipLost r false)))
      ∧ (∀ p k, s.pullOf r = some p → s.table[r].copy = .fetching k →
        t.table[r].copy = .stale (if p.taken = true then .damaged else k)
        ∧ (s.owns r = false → s.ctl.state = .active ∨ s.ctl.state = .isolated →
          (fenceHolds → t.events = postTo s.events (.regionStale r (if p.taken = true then .damaged else k)))
          ∧ t.catchup.list = (if r ∈ s.catchup.list then s.catchup.list else s.catchup.list ++ [r])
          ∧ inMap t.catchup.parked r = false)
        ∧ (s.owns r = false → s.ctl.state ≠ .active → s.ctl.state ≠ .isolated → (fenceHolds → t.events = s.events)
          ∧ t.catchup.list = s.catchup.list))
      ∧ (c = s.own → s.owns r = false → t.table[r].held = true ∧ t.table[r].yieldReady = false
        ∧ t.table[r].votePending = false ∧ t.table[r].writeHold = false)
      ∧ (c ≠ s.own → s.owns r = true → t.table[r].held = false ∧ t.table[r].yieldReady = false
        ∧ t.table[r].votePending = false ∧ t.table[r].writeHold = false ∧ t.servingOf r = none ∧ r ∉ t.roster.front)
      ∧ (c ≠ s.own → s.owns r = false → t.table[r].held = s.table[r].held)

/-- PULL_FRAME_END (R116, R119): the requester's entry ends; the bit of the owner targeted makes the copy CURRENT at its stamp,
closes the record and posts REGION_CURRENT, and its absence starts the answer timer unless all 16 chunks are collected; a discard
asked for meanwhile reads no bit; the other open record stays as it is; at a receiver nothing further happens. In the retained
image a region of which FORMAT has cleared an entry unwritten counts as with the entry (DESIGN CHOICE, log 35). Pulls that it
makes possible open once the rules of the step have run (DESIGN CHOICE, log 16). -/
def Obligations.PullFrameEnds : Prop :=
  ∀ (s : State) (f : PullFrame) (ack : StationMap), s.power = .on →
    (∀ bit acked, s.line.slot = none → s.line.rx = some ⟨.pull f, bit, acked⟩ →
      exec (.pullFrameEnd ack) s = .next { s with line := { s.line with rx := none } })
    ∧ (∀ w force doom before after others p more, s.line.slot = some ⟨.pull f, w⟩ →
      s.catchup.pulls = others ++ p :: more → (∀ x ∈ others ++ more, x.region ≠ p.region) →
      s.out.entries = before ++ ⟨p.region, .pull force, true, doom⟩ :: after → (∀ x ∈ before ++ after, x.sending = false) →
      let u := { s with
        line := { s.line with slot := none, faults := 0 }
        out := { s.out with entries := before ++ after } }
      (doom ≠ .none → exec (.pullFrameEnd ack) s = .next u.afterAttempt)
      ∧ (doom = .none → inMap ack p.target = true → exec (.pullFrameEnd ack) s = .next (State.afterAttempt { u with
          table := s.table.set p.region { s.table[p.region] with copy := .current }
          nv := { s.nv with
            regions := s.nv.regions.set p.region (nvImage { s.table[p.region] with copy := .current } (s.unwritten p.region)) }
          catchup := { s.catchup with pulls := others ++ more }
          events := postTo s.events (.regionCurrent p.region) }))
      ∧ (doom = .none → inMap ack p.target = false → exec (.pullFrameEnd ack) s = .next (State.afterAttempt { u with
          catchup := { s.catchup with
            pulls := others ++ { p with timer := if p.collected = 0xFFFF then none else some 0 } :: more } })))

/-- UPDATE_FRAME_END (R77, R78, R67): the missing set is the members PRESENT, other than this station and its serving targets,
whose bits are clear; none missing settles the entry, also one whose removal was asked for meanwhile; below three retries it waits
in its place with one more; at three it is settled short with SHORT, and its missing set joins an open fence's map. An entry with
stations missing whose removal was asked for while it was SENDING leaves without retry or SHORT: an in-fence one raises the fence's
lost count, and the cut counts it for LEFT (R67, R81, R165). At a receiver nothing further happens. -/
def Obligations.UpdateFrameEnds : Prop :=
  ∀ (s : State) (f : UpdateFrame) (ack : StationMap), s.power = .on →
    (∀ bit acked, s.line.slot = none → s.line.rx = some ⟨.update f, bit, acked⟩ →
      exec (.updateFrameEnd ack) s = .next { s with line := { s.line with rx := none } })
    ∧ (∀ w r u doom before after, s.line.slot = some ⟨.update f, w⟩ →
      s.out.entries = before ++ ⟨r, .update u, true, doom⟩ :: after → (∀ x ∈ before ++ after, x.sending = false) →
      ∃ missing : StationMap,
        (∀ n : Station, inMap missing n = true ↔ n ≠ s.own ∧ s.isMember n = true ∧ s.statusOf n = .present
          ∧ s.serves r n = false ∧ inMap ack n = false)
        ∧ (missing = 0 → exec (.updateFrameEnd ack) s = .next (State.afterAttempt (State.checkFence { s with
            line := { s.line with slot := none, faults := 0 }
            out := { s.out with entries := before ++ after } })))
        ∧ (missing ≠ 0 → doom ≠ .none → exec (.updateFrameEnd ack) s = .next (State.afterAttempt (State.checkFence { s with
            line := { s.line with slot := none, faults := 0 }
            ctl := { s.ctl with discarded := if doom = .cut then s.ctl.discarded + 1 else s.ctl.discarded }
            out := { s.out with
              entries := before ++ after
              fence := if u.inFence = true then s.out.fence.map (fun x => { x with lost := x.lost + 1 })
                else s.out.fence } })))
        ∧ (missing ≠ 0 → doom = .none → u.retries < 3 → exec (.updateFrameEnd ack) s = .next (State.afterAttempt { s with
            line := { s.line with slot := none, faults := 0 }
            out := { s.out with
              entries := before ++ ⟨r, .update { u with retries := u.retries + 1 }, false, .none⟩ :: after } }))
        ∧ (missing ≠ 0 → doom = .none → 3 ≤ u.retries → exec (.updateFrameEnd ack) s = .next (State.afterAttempt (State.checkFence { s with
            line := { s.line with slot := none, faults := 0 }
            events := postTo s.events (.short r missing)
            out := { s.out with
              entries := before ++ after
              fence := if u.inFence = true then s.out.fence.map (fun x => { x with missing := x.missing ||| missing })
                else s.out.fence } }))))
    ∧ (∀ x, s.out.fence = some x → (∀ e ∈ s.out.entries, e.inFence = false) → s.checkFence = { s with
        out := { s.out with fence := none }
        events := postTo s.events (.fenceDone x.missing x.lost) })
    ∧ (s.out.fence = none ∨ (∃ e ∈ s.out.entries, e.inFence = true) → s.checkFence = s)

/-- IMAGE_FRAME_END (R125, R126, R124): a named target with its bit set no longer needs the chunk and has count 0, one with it
clear has one more; a target leaves when it needs nothing or its count reaches twice the chunks it needs, and the record ends
with its last target; a discard asked for meanwhile applies no map; at a receiver nothing further happens. The end of a serving
record (R127): the record is gone, and with it a read still requested; the data of a read in progress is to be discarded; its
WAITING IMAGE entry is gone and a SENDING one marked for its discard; write hold is no; and an open fence goes on. -/
def Obligations.ImageFrameEnds : Prop :=
  ∀ (s : State) (f : ImageFrame) (ack : StationMap), s.power = .on →
    (∀ bit acked, s.line.slot = none → s.line.rx = some ⟨.image f, bit, acked⟩ →
      exec (.imageFrameEnd ack) s = .next { s with line := { s.line with rx := none } })
    ∧ (∀ w r i doom before after v, s.line.slot = some ⟨.image f, w⟩ → s.servingOf r = some v →
      s.out.entries = before ++ ⟨r, .image i, true, doom⟩ :: after → (∀ x ∈ before ++ after, x.sending = false) →
      let u := { s with
        line := { s.line with slot := none, faults := 0 }
        out := { s.out with entries := before ++ after } }
      let heard := v.targets.map (fun q : Target =>
        if inMap i.targets q.station = true then
          if inMap ack q.station = true then { q with needed := dropBit q.needed i.chunk, noProgress := 0 }
          else { q with noProgress := q.noProgress + 1 }
        else q)
      let left := heard.filter (fun q => decide (q.needed ≠ 0) && decide (q.noProgress < 2 * countBits q.needed))
      (doom ≠ .none → exec (.imageFrameEnd ack) s = .next u.afterAttempt)
      ∧ (doom = .none → left ≠ [] → exec (.imageFrameEnd ack) s = .next (State.afterAttempt { u with
          serving := s.serving.map (fun x => if x.region = r then { v with targets := left } else x) }))
      ∧ (doom = .none → left = [] → exec (.imageFrameEnd ack) s = .next (State.afterAttempt (u.endServing r))))
    ∧ (∀ r : Region, (s.servingOf r = none → s.endServing r = s)
      ∧ (s.servingOf r ≠ none → s.endServing r = State.setEntry (State.checkFence { s with
          serving := s.serving.filter (fun v => v.region != r)
          arb := match s.arb.op with
            | some (.chunkRead q k stamp live) => { s.arb with op := some (.chunkRead q k stamp (live && q != r)) }
            | _ => s.arb
          out := { s.out with
            entries := (s.out.entries.filter (fun x => !(x.isImage && x.region == r && !x.sending))).map (fun x =>
              if x.isImage = true ∧ x.region = r ∧ x.doom = .none then { x with doom := .discard } else x) } })
          r { s.table[r] with writeHold := false }))
    ∧ (s.out.fence = none ∨ (∃ e ∈ s.out.entries, e.inFence = true) → s.checkFence = s)

/-! ### Timers -/

/-- The silence timers (R41, R44, R45): at 24 ms PRESENT and DOZING become SILENT and the timer runs on; at 48 ms the entry
becomes ABSENT, whatever its status was, with its timer stopped and members-differ seen no; a change is handed on, and the
other entries stay. The handing on of a change in every station state (R44): the status is recorded, STATION posted, the count
compared with Q (R56), the serving targets of a station SILENT or ABSENT dropped, and members-differ seen cleared where it is
ABSENT; that the pulls it makes possible open within step 4 is the model's choice (DESIGN CHOICE, log 16). A target that falls SILENT or ABSENT leaves every serving record, and a record without target ends with its
write hold cleared (R126, R127).
STRANGER_TIMER_EXPIRY and BEACON_TIMER_EXPIRY (R31, R47, R48): the stranger timer stops; one beacon is due and the period starts
again. -/
def Obligations.SilenceStrangerAndBeaconTimers : Prop :=
  (∀ (s : State) (n : Station), s.power = .on → n ≠ s.own → s.isMember n = true → s.roster.entries[n].timer ≠ none →
     (∃ t, exec (.silenceTimer24ms n) s = .next t
       ∧ (let timed := { s with roster := { s.roster with
            entries := s.roster.entries.set n
              { s.roster.entries[n] with timer := s.roster.entries[n].timer.map (fun k => max k 24) } } }
         t = State.resume (if s.statusOf n = .present ∨ s.statusOf n = .dozing then timed.statusChange n .silent else timed))
       ∧ (s.statusOf n = .present ∨ s.statusOf n = .dozing → t.statusOf n = .silent)
       ∧ (s.statusOf n = .absent ∨ s.statusOf n = .silent → t.statusOf n = s.statusOf n ∧ t.events = s.events)
       ∧ t.roster.entries[n].timer = s.roster.entries[n].timer.map (fun k => max k 24)
       ∧ t.roster.entries[n].differs = s.roster.entries[n].differs
       ∧ (∀ m : Station, m ≠ n → t.roster.entries[m] = s.roster.entries[m]))
     ∧ (∃ t, exec (.silenceTimer48ms n) s = .next t
       ∧ (let u := State.statusChange { s with roster := { s.roster with
            entries := s.roster.entries.set n { s.roster.entries[n] with timer := none } } } n .absent
         t = State.resume { u with roster := { u.roster with entries := u.roster.entries.set n ⟨.absent, none, false⟩ } })
       ∧ t.roster.entries[n] = ⟨.absent, none, false⟩
       ∧ (∀ m : Station, m ≠ n → t.roster.entries[m] = s.roster.entries[m]))
     ∧ (s.ctl.state = .dozing ∨ s.ctl.state = .leaving ∨ s.ctl.state = .listening → s.serving = [] →
       ∀ st, s.statusOf n ≠ st → s.catchup.pulls = [] → s.statusChange n st = { s with
         roster := { s.roster with
           entries := s.roster.entries.set n
             { s.roster.entries[n] with status := st, differs := s.roster.entries[n].differs && st != .absent } }
         events := postTo s.events (.station n st) })
     ∧ (∀ st, s.statusOf n ≠ st → (s.serving.map (·.region)).Nodup → (∀ v ∈ s.serving, v.targets ≠ []) →
       let left := fun v : ServingRecord => v.targets.filter (fun q => q.station != n)
       (st = .silent ∨ st = .absent →
         (s.statusChange n st).serving = s.serving.filterMap (fun v =>
           if left v = [] then none else some { v with targets := left v })
         ∧ (∀ v ∈ s.serving, left v = [] → (s.statusChange n st).table[v.region].writeHold = false))
       ∧ (st = .present ∨ st = .dozing → (s.statusChange n st).serving = s.serving))) ∧
  (∀ (s : State) (n : Station) (st : Presence), s.statusOf n ≠ st →
     let compared := (s.statusTold n st).quorumCheck
     let served := if st = .silent ∨ st = .absent then
         (compared.serving.map (·.region)).foldl (fun u r => u.dropTarget r n) compared
       else compared
     let u := served.openPulls
     s.statusChange n st = { u with
       roster := { u.roster with
         entries := u.roster.entries.set n
           { u.roster.entries[n] with differs := if st = .absent then false else u.roster.entries[n].differs } } }) ∧
  (∀ (s : State) (n : Station), s.power = .on →
     exec (.strangerTimerExpiry n) s = .next { s with line := { s.line with strangers := s.line.strangers.set n none } }
     ∧ (s.ctl.beaconTimer ≠ none → exec .beaconTimerExpiry s
         = .next { s with ctl := { s.ctl with beaconTimer := some 0, beaconDue := true } }))

/-- ANSWER_TIMER_EXPIRY (R118, R119): before the third attempt a new PULL entry is appended, with force for a DAMAGED copy or a
chunk taken, and the collection is kept; at the third the record closes, REGION_STALE and then PULL_FAILED are posted, the region
is parked, and its PULL entry leaves: at once when WAITING, at the end of its attempt when SENDING. The other open record stays as
it is. That an entry which finds two PULL entries waits for room in its record is the model's choice (log 20), and so is the
further attempt of a record whose entry still stands (log 38). Pulls that it makes possible open once the rules of the step have
run (DESIGN CHOICE, log 16). -/
def Obligations.AnswerTimerExpires : Prop :=
  ∀ (s : State) (others more : List PullRecord) (p : PullRecord) (k : Cause), s.power = .on →
    s.catchup.pulls = others ++ p :: more → (∀ x ∈ others ++ more, x.region ≠ p.region ∧ x.owed = false) → p.timer ≠ none →
    p.owed = false → s.table[p.region].copy = .fetching k → s.ctl.state = .active ∨ s.ctl.state = .isolated →
    (p.attempts < 3 →
      let next := fun owed => { s.catchup with
        pulls := others ++ { p with attempts := p.attempts + 1, timer := none, owed := owed } :: more }
      ((∀ x ∈ s.out.entries, x.isPull = true → x.region = p.region → x.doom ≠ .none) →
        (s.out.entries.countP OutEntry.isPull < 2 → exec (.answerTimerExpiry p.region) s = .next (State.resume { s with
          catchup := next false
          out := { s.out with entries := s.out.entries ++ [⟨p.region, .pull (k == .damaged || p.taken), false, .none⟩] } }))
        ∧ (2 ≤ s.out.entries.countP OutEntry.isPull → exec (.answerTimerExpiry p.region) s
          = .next (State.resume { s with catchup := next true })))
      ∧ ((∃ x ∈ s.out.entries, x.isPull = true ∧ x.region = p.region ∧ x.doom = .none) →
        exec (.answerTimerExpiry p.region) s = .next (State.resume { s with catchup := next false })))
    ∧ (3 ≤ p.attempts → (s.out.fence ≠ none → ∃ x ∈ s.out.entries, x.inFence = true) →
      let after := State.setEntry s p.region { s.table[p.region] with copy := .stale (if p.taken then .damaged else k) }
      exec (.answerTimerExpiry p.region) s = .next (State.resume { after with
        catchup := { s.catchup with pulls := others ++ more, parked := addBit s.catchup.parked p.region }
        out := { s.out with
          entries := (s.out.entries.filter (fun x => !(x.isPull && x.region == p.region && !x.sending))).map (fun x =>
            if x.isPull = true ∧ x.region = p.region ∧ x.doom = .none then { x with doom := .discard } else x) }
        events := postTo (postTo s.events (.regionStale p.region (if p.taken then .damaged else k))) (.pullFailed p.region) }))

/-! ### The coding of frames -/

/-- Every frame whose fields lie in the ranges of Tables 11-3 to 11-7 is read back whole from its content bytes, header, payload
and CRC (R195, R197, R198), and from its cells on the line with whatever slots of the ack field are driven (R196): intact to its
end with that ack map. A cell of the ack lead read recessive loses the end, before the ack point as the model places it (DESIGN
CHOICE, log 39: R33 and R196 leave open where in the two cells it falls), and the last cell of the end delimiter read recessive
loses it after (R35); a marker of a content group read recessive discards the frame (R29). A transmitter
that reads back what it drove, the ack slots as the receivers drive them, reaches its frame end with that map (R34), and one that
reads back a dominant cell recessive outside the ack field has a line fault, in the tail where the cell is of the ack lead or the
end delimiter (R36). Bytes are clocked and sent most significant bit
first (R195, R199). -/
def Obligations.FrameContentRoundTrip : Prop :=
  (∀ f : Frame, f.inRange = true → decodeFrame (encodeFrame f) = some f) ∧
  (∀ (f : Frame) (ack : StationMap), f.inRange = true →
     let n := (encodeFrame f).length
     let cells := frameCells (encodeFrame f) ack
     cells.length = 9 * n + 25 ∧ readCells cells = .complete f ack
     ∧ attemptCommand f cells = frameEndOf ack f
     ∧ (∀ i, i < 2 → readCells (cells.set (9 * n + 1 + i) .recessive) = .lostEarly f)
     ∧ readCells (cells.set (9 * n + 24) .recessive) = .lostLate f
     ∧ (∀ i, i < n → readCells (cells.set (9 * i + 9) .recessive) = .discarded)
     ∧ (∀ i, i < 9 * n + 3 ∨ 9 * n + 21 ≤ i → i < 9 * n + 25 → (frameCells (encodeFrame f) 0)[i]? = some .dominant →
       attemptCommand f (cells.set i .recessive) = .lineFault (if i < 9 * n + 1 then .content else .tail))) ∧
  (∀ bytes : List Byte, bytesOfBits (bytes.flatMap byteBits) = bytes
     ∧ (∀ b ∈ bytes, ∀ i, i < 8 → (byteBits b)[i]? = some (b.getLsbD (7 - i))))

/-! ### Invariants that every step keeps -/

/-- The event queue keeps its form (R184, R185): at most 15 records and then, as the newest alone, an OVERFLOW record with a
count of 1 to 255. -/
def Obligations.StepKeepsEventQueueForm : Prop :=
  ∀ s t : State, eventsOk s.events = true → step s = .next t → eventsOk t.events = true

/-- The retained image of every region follows its working entry while the part runs, with the differences of R8. That a region of
which FORMAT has cleared an entry unwritten stays retained as with the entry, beside those of the Apply Queue, is the model's
choice (DESIGN CHOICE, log 35). That the image is a function of the entry and of whether its data is unwritten, with no in-flight
mark on a copy STALE DAMAGED itself, is the model's reading (DEDUCED, log 18). -/
def Obligations.StepKeepsRetainedImage : Prop :=
  ∀ s t : State, s.retainedOk → step s = .next t → t.retainedOk

/-- No step but a FORMAT step's completion lowers a copy stamp, resets and loss of power included, and the copy stamps stay
retained (R3, R8). -/
def Obligations.StepNeverLowersStamp : Prop :=
  ∀ s t : State, s.stampsRetained → step s = .next t →
    t.stampsRetained
      ∧ (s.pending.head? ≠ some .formatStepDone → ∀ r : Region, stampUpTo s.table[r].stamp t.table[r].stamp)

/-- The limits of the counted stores hold after every step (R140, R114, R122, R52, R137, R37, R65). The working member set holds
the station's own number after every step (section 4.4, R145, R153). The Outbox keeps its limits by kind, 10 UPDATE entries with a
reserved slot counted, 2 CLAIM and 2 IMAGE (R65), together with what the blocks that add entries keep to: the room of a WRITE in
progress (R61), one CLAIM entry of each source (R88, R104), the IMAGE entries and reads of two serving records (R123), and the
station states in which entries, records, sweep and WRITE stand (R103, R159, R163, R166, R167). That reads wait at the limit of
IMAGE entries is the model's choice (log 19). -/
def Obligations.StepKeepsLimitsAndOwnNumber : Prop :=
  (∀ s t : State, s.limitsOk → step s = .next t → t.limitsOk) ∧
  (∀ s t : State, s.selfMember → step s = .next t → t.selfMember) ∧
  (∀ s t : State, s.pullsOk → s.outboxOk → step s = .next t → t.outboxOk)

/-- Where every waiting span lies in its region, every step is given its effect, with no fault and no refusal, and every waiting
span lies in its region after it; the array keeps its canonical form (R1, R134). -/
def Obligations.StepAlwaysRuns : Prop :=
  ∀ s : State, s.spansOk → ∃ t, step s = .next t ∧ t.spansOk
    ∧ (Memory.wf s.nv.array = true → Memory.wf t.nv.array = true)

/-- A copy is FETCHING exactly while its region has an open pull record, pull records are open only in ACTIVE and ISOLATED,
FORMAT runs only in OFFLINE, and the transmit slot is filled only with the transmitter on, after every step (R7, R113, R154). The
catch-up list names each region at most once and only STALE ones, a parked region is STALE and not listed, and both are empty but
in ACTIVE, ISOLATED and DOZING (R110, R111, R112). A region that the station owns is CURRENT with its owner epoch equal to the copy
epoch (R5, R9), with what keeps it so: it claims no region that it owns, and a CLAIM being sent stands at the stamp of a CURRENT
copy (R89, R97). -/
def Obligations.StepKeepsPullsAndCopies : Prop :=
  (∀ s t : State, s.pullsOk → step s = .next t → t.pullsOk) ∧
  (∀ s t : State, s.pullsOk → s.catchupOk → step s = .next t → t.catchupOk) ∧
  (∀ s t : State, s.pullsOk → s.outboxOk → s.ownershipOk → step s = .next t → t.ownershipOk)

/-- The invariants hold in the machine right after reset. The one on the retained image counts the regions of which FORMAT has
cleared an entry, as the model chooses (DESIGN CHOICE, log 35); there are none at reset. -/
def Obligations.InvariantsHoldAtReset : Prop :=
  eventsOk State.reset.events = true ∧ State.reset.retainedOk ∧ State.reset.stampsRetained ∧ State.reset.limitsOk
    ∧ State.reset.spansOk ∧ State.reset.pullsOk ∧ State.reset.selfMember ∧ Memory.wf State.reset.nv.array = true
    ∧ State.reset.outboxOk ∧ State.reset.catchupOk ∧ State.reset.ownershipOk
end

