-- ==== Sys2Proof/Laws/Word.lean ====
section
/-! SUPPORT. What the operations on maps do to each position. -/

namespace Sys2Proof

@[simp] theorem inMap_zero {n : Nat} (i : Fin n) : inMap (0#n) i = false := by simp [inMap]

/-- Adding a position. -/
@[simp] theorem inMap_addBit {n : Nat} (m : BitVec n) (i j : Fin n) : inMap (addBit m i) j = (inMap m j || decide (j = i)) := by
  have hj := j.isLt
  simp [inMap, addBit, BitVec.getLsbD_twoPow, Fin.ext_iff, eq_comm, hj]

/-- Taking a position away. -/
@[simp] theorem inMap_dropBit {n : Nat} (m : BitVec n) (i j : Fin n) :
    inMap (dropBit m i) j = (inMap m j && !decide (j = i)) := by
  have hj := j.isLt
  simp [inMap, dropBit, BitVec.getLsbD_twoPow, Fin.ext_iff, eq_comm, hj]

/-- The positions added one after another. -/
theorem inMap_foldl_addBit {n : Nat} (p : Fin n → Bool) (l : List (Fin n)) (m : BitVec n) (j : Fin n) :
    inMap (l.foldl (fun m i => if p i then addBit m i else m) m) j = (inMap m j || (p j && l.contains j)) := by
  induction l generalizing m with
  | nil => simp
  | cons i l ih =>
    rw [List.foldl_cons, ih]
    by_cases hi : j = i
    · subst hi; cases hp : p j <;> simp [hp]
    · split <;> simp [hi]

/-- The map of the positions for which `p` holds. -/
@[simp] theorem inMap_mapOf {n : Nat} (p : Fin n → Bool) (j : Fin n) : inMap (mapOf p) j = p j := by
  rw [mapOf, inMap_foldl_addBit]; simp

/-- Maps with the same positions are equal. -/
theorem map_ext {n : Nat} {a b : BitVec n} (h : ∀ i : Fin n, inMap a i = inMap b i) : a = b :=
  BitVec.eq_of_getLsbD_eq fun i hi => h ⟨i, hi⟩

end Sys2Proof
end

