-- ==== Sys2Proof/Laws/State.lean ====
section
/-! SUPPORT. What one update of State does to every field: the field itself takes the value, the others stay. -/

namespace Sys2Proof.Machine

@[simp] theorem State.setPower_power (s : State) (x) : (s.setPower x).power = x := rfl
@[simp] theorem State.setPower_nv (s : State) (x) : (s.setPower x).nv = s.nv := rfl
@[simp] theorem State.setPower_port (s : State) (x) : (s.setPower x).port = s.port := rfl
@[simp] theorem State.setPower_events (s : State) (x) : (s.setPower x).events = s.events := rfl
@[simp] theorem State.setPower_ctl (s : State) (x) : (s.setPower x).ctl = s.ctl := rfl
@[simp] theorem State.setPower_line (s : State) (x) : (s.setPower x).line = s.line := rfl
@[simp] theorem State.setPower_roster (s : State) (x) : (s.setPower x).roster = s.roster := rfl
@[simp] theorem State.setPower_table (s : State) (x) : (s.setPower x).table = s.table := rfl
@[simp] theorem State.setPower_out (s : State) (x) : (s.setPower x).out = s.out := rfl
@[simp] theorem State.setPower_applyQ (s : State) (x) : (s.setPower x).applyQ = s.applyQ := rfl
@[simp] theorem State.setPower_unsaved (s : State) (x) : (s.setPower x).unsaved = s.unsaved := rfl
@[simp] theorem State.setPower_catchup (s : State) (x) : (s.setPower x).catchup = s.catchup := rfl
@[simp] theorem State.setPower_serving (s : State) (x) : (s.setPower x).serving = s.serving := rfl
@[simp] theorem State.setPower_arb (s : State) (x) : (s.setPower x).arb = s.arb := rfl
@[simp] theorem State.setPower_serial (s : State) (x) : (s.setPower x).serial = s.serial := rfl
@[simp] theorem State.setPower_free (s : State) (x) : (s.setPower x).free = s.free := rfl
@[simp] theorem State.setPower_pending (s : State) (x) : (s.setPower x).pending = s.pending := rfl
@[simp] theorem State.setNv_power (s : State) (x) : (s.setNv x).power = s.power := rfl
@[simp] theorem State.setNv_nv (s : State) (x) : (s.setNv x).nv = x := rfl
@[simp] theorem State.setNv_port (s : State) (x) : (s.setNv x).port = s.port := rfl
@[simp] theorem State.setNv_events (s : State) (x) : (s.setNv x).events = s.events := rfl
@[simp] theorem State.setNv_ctl (s : State) (x) : (s.setNv x).ctl = s.ctl := rfl
@[simp] theorem State.setNv_line (s : State) (x) : (s.setNv x).line = s.line := rfl
@[simp] theorem State.setNv_roster (s : State) (x) : (s.setNv x).roster = s.roster := rfl
@[simp] theorem State.setNv_table (s : State) (x) : (s.setNv x).table = s.table := rfl
@[simp] theorem State.setNv_out (s : State) (x) : (s.setNv x).out = s.out := rfl
@[simp] theorem State.setNv_applyQ (s : State) (x) : (s.setNv x).applyQ = s.applyQ := rfl
@[simp] theorem State.setNv_unsaved (s : State) (x) : (s.setNv x).unsaved = s.unsaved := rfl
@[simp] theorem State.setNv_catchup (s : State) (x) : (s.setNv x).catchup = s.catchup := rfl
@[simp] theorem State.setNv_serving (s : State) (x) : (s.setNv x).serving = s.serving := rfl
@[simp] theorem State.setNv_arb (s : State) (x) : (s.setNv x).arb = s.arb := rfl
@[simp] theorem State.setNv_serial (s : State) (x) : (s.setNv x).serial = s.serial := rfl
@[simp] theorem State.setNv_free (s : State) (x) : (s.setNv x).free = s.free := rfl
@[simp] theorem State.setNv_pending (s : State) (x) : (s.setNv x).pending = s.pending := rfl
@[simp] theorem State.setPort_power (s : State) (x) : (s.setPort x).power = s.power := rfl
@[simp] theorem State.setPort_nv (s : State) (x) : (s.setPort x).nv = s.nv := rfl
@[simp] theorem State.setPort_port (s : State) (x) : (s.setPort x).port = x := rfl
@[simp] theorem State.setPort_events (s : State) (x) : (s.setPort x).events = s.events := rfl
@[simp] theorem State.setPort_ctl (s : State) (x) : (s.setPort x).ctl = s.ctl := rfl
@[simp] theorem State.setPort_line (s : State) (x) : (s.setPort x).line = s.line := rfl
@[simp] theorem State.setPort_roster (s : State) (x) : (s.setPort x).roster = s.roster := rfl
@[simp] theorem State.setPort_table (s : State) (x) : (s.setPort x).table = s.table := rfl
@[simp] theorem State.setPort_out (s : State) (x) : (s.setPort x).out = s.out := rfl
@[simp] theorem State.setPort_applyQ (s : State) (x) : (s.setPort x).applyQ = s.applyQ := rfl
@[simp] theorem State.setPort_unsaved (s : State) (x) : (s.setPort x).unsaved = s.unsaved := rfl
@[simp] theorem State.setPort_catchup (s : State) (x) : (s.setPort x).catchup = s.catchup := rfl
@[simp] theorem State.setPort_serving (s : State) (x) : (s.setPort x).serving = s.serving := rfl
@[simp] theorem State.setPort_arb (s : State) (x) : (s.setPort x).arb = s.arb := rfl
@[simp] theorem State.setPort_serial (s : State) (x) : (s.setPort x).serial = s.serial := rfl
@[simp] theorem State.setPort_free (s : State) (x) : (s.setPort x).free = s.free := rfl
@[simp] theorem State.setPort_pending (s : State) (x) : (s.setPort x).pending = s.pending := rfl
@[simp] theorem State.setEvents_power (s : State) (x) : (s.setEvents x).power = s.power := rfl
@[simp] theorem State.setEvents_nv (s : State) (x) : (s.setEvents x).nv = s.nv := rfl
@[simp] theorem State.setEvents_port (s : State) (x) : (s.setEvents x).port = s.port := rfl
@[simp] theorem State.setEvents_events (s : State) (x) : (s.setEvents x).events = x := rfl
@[simp] theorem State.setEvents_ctl (s : State) (x) : (s.setEvents x).ctl = s.ctl := rfl
@[simp] theorem State.setEvents_line (s : State) (x) : (s.setEvents x).line = s.line := rfl
@[simp] theorem State.setEvents_roster (s : State) (x) : (s.setEvents x).roster = s.roster := rfl
@[simp] theorem State.setEvents_table (s : State) (x) : (s.setEvents x).table = s.table := rfl
@[simp] theorem State.setEvents_out (s : State) (x) : (s.setEvents x).out = s.out := rfl
@[simp] theorem State.setEvents_applyQ (s : State) (x) : (s.setEvents x).applyQ = s.applyQ := rfl
@[simp] theorem State.setEvents_unsaved (s : State) (x) : (s.setEvents x).unsaved = s.unsaved := rfl
@[simp] theorem State.setEvents_catchup (s : State) (x) : (s.setEvents x).catchup = s.catchup := rfl
@[simp] theorem State.setEvents_serving (s : State) (x) : (s.setEvents x).serving = s.serving := rfl
@[simp] theorem State.setEvents_arb (s : State) (x) : (s.setEvents x).arb = s.arb := rfl
@[simp] theorem State.setEvents_serial (s : State) (x) : (s.setEvents x).serial = s.serial := rfl
@[simp] theorem State.setEvents_free (s : State) (x) : (s.setEvents x).free = s.free := rfl
@[simp] theorem State.setEvents_pending (s : State) (x) : (s.setEvents x).pending = s.pending := rfl
@[simp] theorem State.setCtl_power (s : State) (x) : (s.setCtl x).power = s.power := rfl
@[simp] theorem State.setCtl_nv (s : State) (x) : (s.setCtl x).nv = s.nv := rfl
@[simp] theorem State.setCtl_port (s : State) (x) : (s.setCtl x).port = s.port := rfl
@[simp] theorem State.setCtl_events (s : State) (x) : (s.setCtl x).events = s.events := rfl
@[simp] theorem State.setCtl_ctl (s : State) (x) : (s.setCtl x).ctl = x := rfl
@[simp] theorem State.setCtl_line (s : State) (x) : (s.setCtl x).line = s.line := rfl
@[simp] theorem State.setCtl_roster (s : State) (x) : (s.setCtl x).roster = s.roster := rfl
@[simp] theorem State.setCtl_table (s : State) (x) : (s.setCtl x).table = s.table := rfl
@[simp] theorem State.setCtl_out (s : State) (x) : (s.setCtl x).out = s.out := rfl
@[simp] theorem State.setCtl_applyQ (s : State) (x) : (s.setCtl x).applyQ = s.applyQ := rfl
@[simp] theorem State.setCtl_unsaved (s : State) (x) : (s.setCtl x).unsaved = s.unsaved := rfl
@[simp] theorem State.setCtl_catchup (s : State) (x) : (s.setCtl x).catchup = s.catchup := rfl
@[simp] theorem State.setCtl_serving (s : State) (x) : (s.setCtl x).serving = s.serving := rfl
@[simp] theorem State.setCtl_arb (s : State) (x) : (s.setCtl x).arb = s.arb := rfl
@[simp] theorem State.setCtl_serial (s : State) (x) : (s.setCtl x).serial = s.serial := rfl
@[simp] theorem State.setCtl_free (s : State) (x) : (s.setCtl x).free = s.free := rfl
@[simp] theorem State.setCtl_pending (s : State) (x) : (s.setCtl x).pending = s.pending := rfl
@[simp] theorem State.setLine_power (s : State) (x) : (s.setLine x).power = s.power := rfl
@[simp] theorem State.setLine_nv (s : State) (x) : (s.setLine x).nv = s.nv := rfl
@[simp] theorem State.setLine_port (s : State) (x) : (s.setLine x).port = s.port := rfl
@[simp] theorem State.setLine_events (s : State) (x) : (s.setLine x).events = s.events := rfl
@[simp] theorem State.setLine_ctl (s : State) (x) : (s.setLine x).ctl = s.ctl := rfl
@[simp] theorem State.setLine_line (s : State) (x) : (s.setLine x).line = x := rfl
@[simp] theorem State.setLine_roster (s : State) (x) : (s.setLine x).roster = s.roster := rfl
@[simp] theorem State.setLine_table (s : State) (x) : (s.setLine x).table = s.table := rfl
@[simp] theorem State.setLine_out (s : State) (x) : (s.setLine x).out = s.out := rfl
@[simp] theorem State.setLine_applyQ (s : State) (x) : (s.setLine x).applyQ = s.applyQ := rfl
@[simp] theorem State.setLine_unsaved (s : State) (x) : (s.setLine x).unsaved = s.unsaved := rfl
@[simp] theorem State.setLine_catchup (s : State) (x) : (s.setLine x).catchup = s.catchup := rfl
@[simp] theorem State.setLine_serving (s : State) (x) : (s.setLine x).serving = s.serving := rfl
@[simp] theorem State.setLine_arb (s : State) (x) : (s.setLine x).arb = s.arb := rfl
@[simp] theorem State.setLine_serial (s : State) (x) : (s.setLine x).serial = s.serial := rfl
@[simp] theorem State.setLine_free (s : State) (x) : (s.setLine x).free = s.free := rfl
@[simp] theorem State.setLine_pending (s : State) (x) : (s.setLine x).pending = s.pending := rfl
@[simp] theorem State.setRoster_power (s : State) (x) : (s.setRoster x).power = s.power := rfl
@[simp] theorem State.setRoster_nv (s : State) (x) : (s.setRoster x).nv = s.nv := rfl
@[simp] theorem State.setRoster_port (s : State) (x) : (s.setRoster x).port = s.port := rfl
@[simp] theorem State.setRoster_events (s : State) (x) : (s.setRoster x).events = s.events := rfl
@[simp] theorem State.setRoster_ctl (s : State) (x) : (s.setRoster x).ctl = s.ctl := rfl
@[simp] theorem State.setRoster_line (s : State) (x) : (s.setRoster x).line = s.line := rfl
@[simp] theorem State.setRoster_roster (s : State) (x) : (s.setRoster x).roster = x := rfl
@[simp] theorem State.setRoster_table (s : State) (x) : (s.setRoster x).table = s.table := rfl
@[simp] theorem State.setRoster_out (s : State) (x) : (s.setRoster x).out = s.out := rfl
@[simp] theorem State.setRoster_applyQ (s : State) (x) : (s.setRoster x).applyQ = s.applyQ := rfl
@[simp] theorem State.setRoster_unsaved (s : State) (x) : (s.setRoster x).unsaved = s.unsaved := rfl
@[simp] theorem State.setRoster_catchup (s : State) (x) : (s.setRoster x).catchup = s.catchup := rfl
@[simp] theorem State.setRoster_serving (s : State) (x) : (s.setRoster x).serving = s.serving := rfl
@[simp] theorem State.setRoster_arb (s : State) (x) : (s.setRoster x).arb = s.arb := rfl
@[simp] theorem State.setRoster_serial (s : State) (x) : (s.setRoster x).serial = s.serial := rfl
@[simp] theorem State.setRoster_free (s : State) (x) : (s.setRoster x).free = s.free := rfl
@[simp] theorem State.setRoster_pending (s : State) (x) : (s.setRoster x).pending = s.pending := rfl
@[simp] theorem State.setTable_power (s : State) (x) : (s.setTable x).power = s.power := rfl
@[simp] theorem State.setTable_nv (s : State) (x) : (s.setTable x).nv = s.nv := rfl
@[simp] theorem State.setTable_port (s : State) (x) : (s.setTable x).port = s.port := rfl
@[simp] theorem State.setTable_events (s : State) (x) : (s.setTable x).events = s.events := rfl
@[simp] theorem State.setTable_ctl (s : State) (x) : (s.setTable x).ctl = s.ctl := rfl
@[simp] theorem State.setTable_line (s : State) (x) : (s.setTable x).line = s.line := rfl
@[simp] theorem State.setTable_roster (s : State) (x) : (s.setTable x).roster = s.roster := rfl
@[simp] theorem State.setTable_table (s : State) (x) : (s.setTable x).table = x := rfl
@[simp] theorem State.setTable_out (s : State) (x) : (s.setTable x).out = s.out := rfl
@[simp] theorem State.setTable_applyQ (s : State) (x) : (s.setTable x).applyQ = s.applyQ := rfl
@[simp] theorem State.setTable_unsaved (s : State) (x) : (s.setTable x).unsaved = s.unsaved := rfl
@[simp] theorem State.setTable_catchup (s : State) (x) : (s.setTable x).catchup = s.catchup := rfl
@[simp] theorem State.setTable_serving (s : State) (x) : (s.setTable x).serving = s.serving := rfl
@[simp] theorem State.setTable_arb (s : State) (x) : (s.setTable x).arb = s.arb := rfl
@[simp] theorem State.setTable_serial (s : State) (x) : (s.setTable x).serial = s.serial := rfl
@[simp] theorem State.setTable_free (s : State) (x) : (s.setTable x).free = s.free := rfl
@[simp] theorem State.setTable_pending (s : State) (x) : (s.setTable x).pending = s.pending := rfl
@[simp] theorem State.setOut_power (s : State) (x) : (s.setOut x).power = s.power := rfl
@[simp] theorem State.setOut_nv (s : State) (x) : (s.setOut x).nv = s.nv := rfl
@[simp] theorem State.setOut_port (s : State) (x) : (s.setOut x).port = s.port := rfl
@[simp] theorem State.setOut_events (s : State) (x) : (s.setOut x).events = s.events := rfl
@[simp] theorem State.setOut_ctl (s : State) (x) : (s.setOut x).ctl = s.ctl := rfl
@[simp] theorem State.setOut_line (s : State) (x) : (s.setOut x).line = s.line := rfl
@[simp] theorem State.setOut_roster (s : State) (x) : (s.setOut x).roster = s.roster := rfl
@[simp] theorem State.setOut_table (s : State) (x) : (s.setOut x).table = s.table := rfl
@[simp] theorem State.setOut_out (s : State) (x) : (s.setOut x).out = x := rfl
@[simp] theorem State.setOut_applyQ (s : State) (x) : (s.setOut x).applyQ = s.applyQ := rfl
@[simp] theorem State.setOut_unsaved (s : State) (x) : (s.setOut x).unsaved = s.unsaved := rfl
@[simp] theorem State.setOut_catchup (s : State) (x) : (s.setOut x).catchup = s.catchup := rfl
@[simp] theorem State.setOut_serving (s : State) (x) : (s.setOut x).serving = s.serving := rfl
@[simp] theorem State.setOut_arb (s : State) (x) : (s.setOut x).arb = s.arb := rfl
@[simp] theorem State.setOut_serial (s : State) (x) : (s.setOut x).serial = s.serial := rfl
@[simp] theorem State.setOut_free (s : State) (x) : (s.setOut x).free = s.free := rfl
@[simp] theorem State.setOut_pending (s : State) (x) : (s.setOut x).pending = s.pending := rfl
@[simp] theorem State.setApplyQ_power (s : State) (x) : (s.setApplyQ x).power = s.power := rfl
@[simp] theorem State.setApplyQ_nv (s : State) (x) : (s.setApplyQ x).nv = s.nv := rfl
@[simp] theorem State.setApplyQ_port (s : State) (x) : (s.setApplyQ x).port = s.port := rfl
@[simp] theorem State.setApplyQ_events (s : State) (x) : (s.setApplyQ x).events = s.events := rfl
@[simp] theorem State.setApplyQ_ctl (s : State) (x) : (s.setApplyQ x).ctl = s.ctl := rfl
@[simp] theorem State.setApplyQ_line (s : State) (x) : (s.setApplyQ x).line = s.line := rfl
@[simp] theorem State.setApplyQ_roster (s : State) (x) : (s.setApplyQ x).roster = s.roster := rfl
@[simp] theorem State.setApplyQ_table (s : State) (x) : (s.setApplyQ x).table = s.table := rfl
@[simp] theorem State.setApplyQ_out (s : State) (x) : (s.setApplyQ x).out = s.out := rfl
@[simp] theorem State.setApplyQ_applyQ (s : State) (x) : (s.setApplyQ x).applyQ = x := rfl
@[simp] theorem State.setApplyQ_unsaved (s : State) (x) : (s.setApplyQ x).unsaved = s.unsaved := rfl
@[simp] theorem State.setApplyQ_catchup (s : State) (x) : (s.setApplyQ x).catchup = s.catchup := rfl
@[simp] theorem State.setApplyQ_serving (s : State) (x) : (s.setApplyQ x).serving = s.serving := rfl
@[simp] theorem State.setApplyQ_arb (s : State) (x) : (s.setApplyQ x).arb = s.arb := rfl
@[simp] theorem State.setApplyQ_serial (s : State) (x) : (s.setApplyQ x).serial = s.serial := rfl
@[simp] theorem State.setApplyQ_free (s : State) (x) : (s.setApplyQ x).free = s.free := rfl
@[simp] theorem State.setApplyQ_pending (s : State) (x) : (s.setApplyQ x).pending = s.pending := rfl
@[simp] theorem State.setUnsaved_power (s : State) (x) : (s.setUnsaved x).power = s.power := rfl
@[simp] theorem State.setUnsaved_nv (s : State) (x) : (s.setUnsaved x).nv = s.nv := rfl
@[simp] theorem State.setUnsaved_port (s : State) (x) : (s.setUnsaved x).port = s.port := rfl
@[simp] theorem State.setUnsaved_events (s : State) (x) : (s.setUnsaved x).events = s.events := rfl
@[simp] theorem State.setUnsaved_ctl (s : State) (x) : (s.setUnsaved x).ctl = s.ctl := rfl
@[simp] theorem State.setUnsaved_line (s : State) (x) : (s.setUnsaved x).line = s.line := rfl
@[simp] theorem State.setUnsaved_roster (s : State) (x) : (s.setUnsaved x).roster = s.roster := rfl
@[simp] theorem State.setUnsaved_table (s : State) (x) : (s.setUnsaved x).table = s.table := rfl
@[simp] theorem State.setUnsaved_out (s : State) (x) : (s.setUnsaved x).out = s.out := rfl
@[simp] theorem State.setUnsaved_applyQ (s : State) (x) : (s.setUnsaved x).applyQ = s.applyQ := rfl
@[simp] theorem State.setUnsaved_unsaved (s : State) (x) : (s.setUnsaved x).unsaved = x := rfl
@[simp] theorem State.setUnsaved_catchup (s : State) (x) : (s.setUnsaved x).catchup = s.catchup := rfl
@[simp] theorem State.setUnsaved_serving (s : State) (x) : (s.setUnsaved x).serving = s.serving := rfl
@[simp] theorem State.setUnsaved_arb (s : State) (x) : (s.setUnsaved x).arb = s.arb := rfl
@[simp] theorem State.setUnsaved_serial (s : State) (x) : (s.setUnsaved x).serial = s.serial := rfl
@[simp] theorem State.setUnsaved_free (s : State) (x) : (s.setUnsaved x).free = s.free := rfl
@[simp] theorem State.setUnsaved_pending (s : State) (x) : (s.setUnsaved x).pending = s.pending := rfl
@[simp] theorem State.setCatchup_power (s : State) (x) : (s.setCatchup x).power = s.power := rfl
@[simp] theorem State.setCatchup_nv (s : State) (x) : (s.setCatchup x).nv = s.nv := rfl
@[simp] theorem State.setCatchup_port (s : State) (x) : (s.setCatchup x).port = s.port := rfl
@[simp] theorem State.setCatchup_events (s : State) (x) : (s.setCatchup x).events = s.events := rfl
@[simp] theorem State.setCatchup_ctl (s : State) (x) : (s.setCatchup x).ctl = s.ctl := rfl
@[simp] theorem State.setCatchup_line (s : State) (x) : (s.setCatchup x).line = s.line := rfl
@[simp] theorem State.setCatchup_roster (s : State) (x) : (s.setCatchup x).roster = s.roster := rfl
@[simp] theorem State.setCatchup_table (s : State) (x) : (s.setCatchup x).table = s.table := rfl
@[simp] theorem State.setCatchup_out (s : State) (x) : (s.setCatchup x).out = s.out := rfl
@[simp] theorem State.setCatchup_applyQ (s : State) (x) : (s.setCatchup x).applyQ = s.applyQ := rfl
@[simp] theorem State.setCatchup_unsaved (s : State) (x) : (s.setCatchup x).unsaved = s.unsaved := rfl
@[simp] theorem State.setCatchup_catchup (s : State) (x) : (s.setCatchup x).catchup = x := rfl
@[simp] theorem State.setCatchup_serving (s : State) (x) : (s.setCatchup x).serving = s.serving := rfl
@[simp] theorem State.setCatchup_arb (s : State) (x) : (s.setCatchup x).arb = s.arb := rfl
@[simp] theorem State.setCatchup_serial (s : State) (x) : (s.setCatchup x).serial = s.serial := rfl
@[simp] theorem State.setCatchup_free (s : State) (x) : (s.setCatchup x).free = s.free := rfl
@[simp] theorem State.setCatchup_pending (s : State) (x) : (s.setCatchup x).pending = s.pending := rfl
@[simp] theorem State.setServing_power (s : State) (x) : (s.setServing x).power = s.power := rfl
@[simp] theorem State.setServing_nv (s : State) (x) : (s.setServing x).nv = s.nv := rfl
@[simp] theorem State.setServing_port (s : State) (x) : (s.setServing x).port = s.port := rfl
@[simp] theorem State.setServing_events (s : State) (x) : (s.setServing x).events = s.events := rfl
@[simp] theorem State.setServing_ctl (s : State) (x) : (s.setServing x).ctl = s.ctl := rfl
@[simp] theorem State.setServing_line (s : State) (x) : (s.setServing x).line = s.line := rfl
@[simp] theorem State.setServing_roster (s : State) (x) : (s.setServing x).roster = s.roster := rfl
@[simp] theorem State.setServing_table (s : State) (x) : (s.setServing x).table = s.table := rfl
@[simp] theorem State.setServing_out (s : State) (x) : (s.setServing x).out = s.out := rfl
@[simp] theorem State.setServing_applyQ (s : State) (x) : (s.setServing x).applyQ = s.applyQ := rfl
@[simp] theorem State.setServing_unsaved (s : State) (x) : (s.setServing x).unsaved = s.unsaved := rfl
@[simp] theorem State.setServing_catchup (s : State) (x) : (s.setServing x).catchup = s.catchup := rfl
@[simp] theorem State.setServing_serving (s : State) (x) : (s.setServing x).serving = x := rfl
@[simp] theorem State.setServing_arb (s : State) (x) : (s.setServing x).arb = s.arb := rfl
@[simp] theorem State.setServing_serial (s : State) (x) : (s.setServing x).serial = s.serial := rfl
@[simp] theorem State.setServing_free (s : State) (x) : (s.setServing x).free = s.free := rfl
@[simp] theorem State.setServing_pending (s : State) (x) : (s.setServing x).pending = s.pending := rfl
@[simp] theorem State.setArb_power (s : State) (x) : (s.setArb x).power = s.power := rfl
@[simp] theorem State.setArb_nv (s : State) (x) : (s.setArb x).nv = s.nv := rfl
@[simp] theorem State.setArb_port (s : State) (x) : (s.setArb x).port = s.port := rfl
@[simp] theorem State.setArb_events (s : State) (x) : (s.setArb x).events = s.events := rfl
@[simp] theorem State.setArb_ctl (s : State) (x) : (s.setArb x).ctl = s.ctl := rfl
@[simp] theorem State.setArb_line (s : State) (x) : (s.setArb x).line = s.line := rfl
@[simp] theorem State.setArb_roster (s : State) (x) : (s.setArb x).roster = s.roster := rfl
@[simp] theorem State.setArb_table (s : State) (x) : (s.setArb x).table = s.table := rfl
@[simp] theorem State.setArb_out (s : State) (x) : (s.setArb x).out = s.out := rfl
@[simp] theorem State.setArb_applyQ (s : State) (x) : (s.setArb x).applyQ = s.applyQ := rfl
@[simp] theorem State.setArb_unsaved (s : State) (x) : (s.setArb x).unsaved = s.unsaved := rfl
@[simp] theorem State.setArb_catchup (s : State) (x) : (s.setArb x).catchup = s.catchup := rfl
@[simp] theorem State.setArb_serving (s : State) (x) : (s.setArb x).serving = s.serving := rfl
@[simp] theorem State.setArb_arb (s : State) (x) : (s.setArb x).arb = x := rfl
@[simp] theorem State.setArb_serial (s : State) (x) : (s.setArb x).serial = s.serial := rfl
@[simp] theorem State.setArb_free (s : State) (x) : (s.setArb x).free = s.free := rfl
@[simp] theorem State.setArb_pending (s : State) (x) : (s.setArb x).pending = s.pending := rfl
@[simp] theorem State.setSerial_power (s : State) (x) : (s.setSerial x).power = s.power := rfl
@[simp] theorem State.setSerial_nv (s : State) (x) : (s.setSerial x).nv = s.nv := rfl
@[simp] theorem State.setSerial_port (s : State) (x) : (s.setSerial x).port = s.port := rfl
@[simp] theorem State.setSerial_events (s : State) (x) : (s.setSerial x).events = s.events := rfl
@[simp] theorem State.setSerial_ctl (s : State) (x) : (s.setSerial x).ctl = s.ctl := rfl
@[simp] theorem State.setSerial_line (s : State) (x) : (s.setSerial x).line = s.line := rfl
@[simp] theorem State.setSerial_roster (s : State) (x) : (s.setSerial x).roster = s.roster := rfl
@[simp] theorem State.setSerial_table (s : State) (x) : (s.setSerial x).table = s.table := rfl
@[simp] theorem State.setSerial_out (s : State) (x) : (s.setSerial x).out = s.out := rfl
@[simp] theorem State.setSerial_applyQ (s : State) (x) : (s.setSerial x).applyQ = s.applyQ := rfl
@[simp] theorem State.setSerial_unsaved (s : State) (x) : (s.setSerial x).unsaved = s.unsaved := rfl
@[simp] theorem State.setSerial_catchup (s : State) (x) : (s.setSerial x).catchup = s.catchup := rfl
@[simp] theorem State.setSerial_serving (s : State) (x) : (s.setSerial x).serving = s.serving := rfl
@[simp] theorem State.setSerial_arb (s : State) (x) : (s.setSerial x).arb = s.arb := rfl
@[simp] theorem State.setSerial_serial (s : State) (x) : (s.setSerial x).serial = x := rfl
@[simp] theorem State.setSerial_free (s : State) (x) : (s.setSerial x).free = s.free := rfl
@[simp] theorem State.setSerial_pending (s : State) (x) : (s.setSerial x).pending = s.pending := rfl
@[simp] theorem State.setFree_power (s : State) (x) : (s.setFree x).power = s.power := rfl
@[simp] theorem State.setFree_nv (s : State) (x) : (s.setFree x).nv = s.nv := rfl
@[simp] theorem State.setFree_port (s : State) (x) : (s.setFree x).port = s.port := rfl
@[simp] theorem State.setFree_events (s : State) (x) : (s.setFree x).events = s.events := rfl
@[simp] theorem State.setFree_ctl (s : State) (x) : (s.setFree x).ctl = s.ctl := rfl
@[simp] theorem State.setFree_line (s : State) (x) : (s.setFree x).line = s.line := rfl
@[simp] theorem State.setFree_roster (s : State) (x) : (s.setFree x).roster = s.roster := rfl
@[simp] theorem State.setFree_table (s : State) (x) : (s.setFree x).table = s.table := rfl
@[simp] theorem State.setFree_out (s : State) (x) : (s.setFree x).out = s.out := rfl
@[simp] theorem State.setFree_applyQ (s : State) (x) : (s.setFree x).applyQ = s.applyQ := rfl
@[simp] theorem State.setFree_unsaved (s : State) (x) : (s.setFree x).unsaved = s.unsaved := rfl
@[simp] theorem State.setFree_catchup (s : State) (x) : (s.setFree x).catchup = s.catchup := rfl
@[simp] theorem State.setFree_serving (s : State) (x) : (s.setFree x).serving = s.serving := rfl
@[simp] theorem State.setFree_arb (s : State) (x) : (s.setFree x).arb = s.arb := rfl
@[simp] theorem State.setFree_serial (s : State) (x) : (s.setFree x).serial = s.serial := rfl
@[simp] theorem State.setFree_free (s : State) (x) : (s.setFree x).free = x := rfl
@[simp] theorem State.setFree_pending (s : State) (x) : (s.setFree x).pending = s.pending := rfl
@[simp] theorem State.setPending_power (s : State) (x) : (s.setPending x).power = s.power := rfl
@[simp] theorem State.setPending_nv (s : State) (x) : (s.setPending x).nv = s.nv := rfl
@[simp] theorem State.setPending_port (s : State) (x) : (s.setPending x).port = s.port := rfl
@[simp] theorem State.setPending_events (s : State) (x) : (s.setPending x).events = s.events := rfl
@[simp] theorem State.setPending_ctl (s : State) (x) : (s.setPending x).ctl = s.ctl := rfl
@[simp] theorem State.setPending_line (s : State) (x) : (s.setPending x).line = s.line := rfl
@[simp] theorem State.setPending_roster (s : State) (x) : (s.setPending x).roster = s.roster := rfl
@[simp] theorem State.setPending_table (s : State) (x) : (s.setPending x).table = s.table := rfl
@[simp] theorem State.setPending_out (s : State) (x) : (s.setPending x).out = s.out := rfl
@[simp] theorem State.setPending_applyQ (s : State) (x) : (s.setPending x).applyQ = s.applyQ := rfl
@[simp] theorem State.setPending_unsaved (s : State) (x) : (s.setPending x).unsaved = s.unsaved := rfl
@[simp] theorem State.setPending_catchup (s : State) (x) : (s.setPending x).catchup = s.catchup := rfl
@[simp] theorem State.setPending_serving (s : State) (x) : (s.setPending x).serving = s.serving := rfl
@[simp] theorem State.setPending_arb (s : State) (x) : (s.setPending x).arb = s.arb := rfl
@[simp] theorem State.setPending_serial (s : State) (x) : (s.setPending x).serial = s.serial := rfl
@[simp] theorem State.setPending_free (s : State) (x) : (s.setPending x).free = s.free := rfl
@[simp] theorem State.setPending_pending (s : State) (x) : (s.setPending x).pending = x := rfl
@[simp] theorem State.mapNv_power (s : State) (f) : (s.mapNv f).power = s.power := rfl
@[simp] theorem State.mapNv_nv (s : State) (f) : (s.mapNv f).nv = f s.nv := rfl
@[simp] theorem State.mapNv_port (s : State) (f) : (s.mapNv f).port = s.port := rfl
@[simp] theorem State.mapNv_events (s : State) (f) : (s.mapNv f).events = s.events := rfl
@[simp] theorem State.mapNv_ctl (s : State) (f) : (s.mapNv f).ctl = s.ctl := rfl
@[simp] theorem State.mapNv_line (s : State) (f) : (s.mapNv f).line = s.line := rfl
@[simp] theorem State.mapNv_roster (s : State) (f) : (s.mapNv f).roster = s.roster := rfl
@[simp] theorem State.mapNv_table (s : State) (f) : (s.mapNv f).table = s.table := rfl
@[simp] theorem State.mapNv_out (s : State) (f) : (s.mapNv f).out = s.out := rfl
@[simp] theorem State.mapNv_applyQ (s : State) (f) : (s.mapNv f).applyQ = s.applyQ := rfl
@[simp] theorem State.mapNv_unsaved (s : State) (f) : (s.mapNv f).unsaved = s.unsaved := rfl
@[simp] theorem State.mapNv_catchup (s : State) (f) : (s.mapNv f).catchup = s.catchup := rfl
@[simp] theorem State.mapNv_serving (s : State) (f) : (s.mapNv f).serving = s.serving := rfl
@[simp] theorem State.mapNv_arb (s : State) (f) : (s.mapNv f).arb = s.arb := rfl
@[simp] theorem State.mapNv_serial (s : State) (f) : (s.mapNv f).serial = s.serial := rfl
@[simp] theorem State.mapNv_free (s : State) (f) : (s.mapNv f).free = s.free := rfl
@[simp] theorem State.mapNv_pending (s : State) (f) : (s.mapNv f).pending = s.pending := rfl
@[simp] theorem State.mapPort_power (s : State) (f) : (s.mapPort f).power = s.power := rfl
@[simp] theorem State.mapPort_nv (s : State) (f) : (s.mapPort f).nv = s.nv := rfl
@[simp] theorem State.mapPort_port (s : State) (f) : (s.mapPort f).port = f s.port := rfl
@[simp] theorem State.mapPort_events (s : State) (f) : (s.mapPort f).events = s.events := rfl
@[simp] theorem State.mapPort_ctl (s : State) (f) : (s.mapPort f).ctl = s.ctl := rfl
@[simp] theorem State.mapPort_line (s : State) (f) : (s.mapPort f).line = s.line := rfl
@[simp] theorem State.mapPort_roster (s : State) (f) : (s.mapPort f).roster = s.roster := rfl
@[simp] theorem State.mapPort_table (s : State) (f) : (s.mapPort f).table = s.table := rfl
@[simp] theorem State.mapPort_out (s : State) (f) : (s.mapPort f).out = s.out := rfl
@[simp] theorem State.mapPort_applyQ (s : State) (f) : (s.mapPort f).applyQ = s.applyQ := rfl
@[simp] theorem State.mapPort_unsaved (s : State) (f) : (s.mapPort f).unsaved = s.unsaved := rfl
@[simp] theorem State.mapPort_catchup (s : State) (f) : (s.mapPort f).catchup = s.catchup := rfl
@[simp] theorem State.mapPort_serving (s : State) (f) : (s.mapPort f).serving = s.serving := rfl
@[simp] theorem State.mapPort_arb (s : State) (f) : (s.mapPort f).arb = s.arb := rfl
@[simp] theorem State.mapPort_serial (s : State) (f) : (s.mapPort f).serial = s.serial := rfl
@[simp] theorem State.mapPort_free (s : State) (f) : (s.mapPort f).free = s.free := rfl
@[simp] theorem State.mapPort_pending (s : State) (f) : (s.mapPort f).pending = s.pending := rfl
@[simp] theorem State.mapCtl_power (s : State) (f) : (s.mapCtl f).power = s.power := rfl
@[simp] theorem State.mapCtl_nv (s : State) (f) : (s.mapCtl f).nv = s.nv := rfl
@[simp] theorem State.mapCtl_port (s : State) (f) : (s.mapCtl f).port = s.port := rfl
@[simp] theorem State.mapCtl_events (s : State) (f) : (s.mapCtl f).events = s.events := rfl
@[simp] theorem State.mapCtl_ctl (s : State) (f) : (s.mapCtl f).ctl = f s.ctl := rfl
@[simp] theorem State.mapCtl_line (s : State) (f) : (s.mapCtl f).line = s.line := rfl
@[simp] theorem State.mapCtl_roster (s : State) (f) : (s.mapCtl f).roster = s.roster := rfl
@[simp] theorem State.mapCtl_table (s : State) (f) : (s.mapCtl f).table = s.table := rfl
@[simp] theorem State.mapCtl_out (s : State) (f) : (s.mapCtl f).out = s.out := rfl
@[simp] theorem State.mapCtl_applyQ (s : State) (f) : (s.mapCtl f).applyQ = s.applyQ := rfl
@[simp] theorem State.mapCtl_unsaved (s : State) (f) : (s.mapCtl f).unsaved = s.unsaved := rfl
@[simp] theorem State.mapCtl_catchup (s : State) (f) : (s.mapCtl f).catchup = s.catchup := rfl
@[simp] theorem State.mapCtl_serving (s : State) (f) : (s.mapCtl f).serving = s.serving := rfl
@[simp] theorem State.mapCtl_arb (s : State) (f) : (s.mapCtl f).arb = s.arb := rfl
@[simp] theorem State.mapCtl_serial (s : State) (f) : (s.mapCtl f).serial = s.serial := rfl
@[simp] theorem State.mapCtl_free (s : State) (f) : (s.mapCtl f).free = s.free := rfl
@[simp] theorem State.mapCtl_pending (s : State) (f) : (s.mapCtl f).pending = s.pending := rfl
@[simp] theorem State.mapLine_power (s : State) (f) : (s.mapLine f).power = s.power := rfl
@[simp] theorem State.mapLine_nv (s : State) (f) : (s.mapLine f).nv = s.nv := rfl
@[simp] theorem State.mapLine_port (s : State) (f) : (s.mapLine f).port = s.port := rfl
@[simp] theorem State.mapLine_events (s : State) (f) : (s.mapLine f).events = s.events := rfl
@[simp] theorem State.mapLine_ctl (s : State) (f) : (s.mapLine f).ctl = s.ctl := rfl
@[simp] theorem State.mapLine_line (s : State) (f) : (s.mapLine f).line = f s.line := rfl
@[simp] theorem State.mapLine_roster (s : State) (f) : (s.mapLine f).roster = s.roster := rfl
@[simp] theorem State.mapLine_table (s : State) (f) : (s.mapLine f).table = s.table := rfl
@[simp] theorem State.mapLine_out (s : State) (f) : (s.mapLine f).out = s.out := rfl
@[simp] theorem State.mapLine_applyQ (s : State) (f) : (s.mapLine f).applyQ = s.applyQ := rfl
@[simp] theorem State.mapLine_unsaved (s : State) (f) : (s.mapLine f).unsaved = s.unsaved := rfl
@[simp] theorem State.mapLine_catchup (s : State) (f) : (s.mapLine f).catchup = s.catchup := rfl
@[simp] theorem State.mapLine_serving (s : State) (f) : (s.mapLine f).serving = s.serving := rfl
@[simp] theorem State.mapLine_arb (s : State) (f) : (s.mapLine f).arb = s.arb := rfl
@[simp] theorem State.mapLine_serial (s : State) (f) : (s.mapLine f).serial = s.serial := rfl
@[simp] theorem State.mapLine_free (s : State) (f) : (s.mapLine f).free = s.free := rfl
@[simp] theorem State.mapLine_pending (s : State) (f) : (s.mapLine f).pending = s.pending := rfl
@[simp] theorem State.mapRoster_power (s : State) (f) : (s.mapRoster f).power = s.power := rfl
@[simp] theorem State.mapRoster_nv (s : State) (f) : (s.mapRoster f).nv = s.nv := rfl
@[simp] theorem State.mapRoster_port (s : State) (f) : (s.mapRoster f).port = s.port := rfl
@[simp] theorem State.mapRoster_events (s : State) (f) : (s.mapRoster f).events = s.events := rfl
@[simp] theorem State.mapRoster_ctl (s : State) (f) : (s.mapRoster f).ctl = s.ctl := rfl
@[simp] theorem State.mapRoster_line (s : State) (f) : (s.mapRoster f).line = s.line := rfl
@[simp] theorem State.mapRoster_roster (s : State) (f) : (s.mapRoster f).roster = f s.roster := rfl
@[simp] theorem State.mapRoster_table (s : State) (f) : (s.mapRoster f).table = s.table := rfl
@[simp] theorem State.mapRoster_out (s : State) (f) : (s.mapRoster f).out = s.out := rfl
@[simp] theorem State.mapRoster_applyQ (s : State) (f) : (s.mapRoster f).applyQ = s.applyQ := rfl
@[simp] theorem State.mapRoster_unsaved (s : State) (f) : (s.mapRoster f).unsaved = s.unsaved := rfl
@[simp] theorem State.mapRoster_catchup (s : State) (f) : (s.mapRoster f).catchup = s.catchup := rfl
@[simp] theorem State.mapRoster_serving (s : State) (f) : (s.mapRoster f).serving = s.serving := rfl
@[simp] theorem State.mapRoster_arb (s : State) (f) : (s.mapRoster f).arb = s.arb := rfl
@[simp] theorem State.mapRoster_serial (s : State) (f) : (s.mapRoster f).serial = s.serial := rfl
@[simp] theorem State.mapRoster_free (s : State) (f) : (s.mapRoster f).free = s.free := rfl
@[simp] theorem State.mapRoster_pending (s : State) (f) : (s.mapRoster f).pending = s.pending := rfl
@[simp] theorem State.mapOut_power (s : State) (f) : (s.mapOut f).power = s.power := rfl
@[simp] theorem State.mapOut_nv (s : State) (f) : (s.mapOut f).nv = s.nv := rfl
@[simp] theorem State.mapOut_port (s : State) (f) : (s.mapOut f).port = s.port := rfl
@[simp] theorem State.mapOut_events (s : State) (f) : (s.mapOut f).events = s.events := rfl
@[simp] theorem State.mapOut_ctl (s : State) (f) : (s.mapOut f).ctl = s.ctl := rfl
@[simp] theorem State.mapOut_line (s : State) (f) : (s.mapOut f).line = s.line := rfl
@[simp] theorem State.mapOut_roster (s : State) (f) : (s.mapOut f).roster = s.roster := rfl
@[simp] theorem State.mapOut_table (s : State) (f) : (s.mapOut f).table = s.table := rfl
@[simp] theorem State.mapOut_out (s : State) (f) : (s.mapOut f).out = f s.out := rfl
@[simp] theorem State.mapOut_applyQ (s : State) (f) : (s.mapOut f).applyQ = s.applyQ := rfl
@[simp] theorem State.mapOut_unsaved (s : State) (f) : (s.mapOut f).unsaved = s.unsaved := rfl
@[simp] theorem State.mapOut_catchup (s : State) (f) : (s.mapOut f).catchup = s.catchup := rfl
@[simp] theorem State.mapOut_serving (s : State) (f) : (s.mapOut f).serving = s.serving := rfl
@[simp] theorem State.mapOut_arb (s : State) (f) : (s.mapOut f).arb = s.arb := rfl
@[simp] theorem State.mapOut_serial (s : State) (f) : (s.mapOut f).serial = s.serial := rfl
@[simp] theorem State.mapOut_free (s : State) (f) : (s.mapOut f).free = s.free := rfl
@[simp] theorem State.mapOut_pending (s : State) (f) : (s.mapOut f).pending = s.pending := rfl
@[simp] theorem State.mapCatchup_power (s : State) (f) : (s.mapCatchup f).power = s.power := rfl
@[simp] theorem State.mapCatchup_nv (s : State) (f) : (s.mapCatchup f).nv = s.nv := rfl
@[simp] theorem State.mapCatchup_port (s : State) (f) : (s.mapCatchup f).port = s.port := rfl
@[simp] theorem State.mapCatchup_events (s : State) (f) : (s.mapCatchup f).events = s.events := rfl
@[simp] theorem State.mapCatchup_ctl (s : State) (f) : (s.mapCatchup f).ctl = s.ctl := rfl
@[simp] theorem State.mapCatchup_line (s : State) (f) : (s.mapCatchup f).line = s.line := rfl
@[simp] theorem State.mapCatchup_roster (s : State) (f) : (s.mapCatchup f).roster = s.roster := rfl
@[simp] theorem State.mapCatchup_table (s : State) (f) : (s.mapCatchup f).table = s.table := rfl
@[simp] theorem State.mapCatchup_out (s : State) (f) : (s.mapCatchup f).out = s.out := rfl
@[simp] theorem State.mapCatchup_applyQ (s : State) (f) : (s.mapCatchup f).applyQ = s.applyQ := rfl
@[simp] theorem State.mapCatchup_unsaved (s : State) (f) : (s.mapCatchup f).unsaved = s.unsaved := rfl
@[simp] theorem State.mapCatchup_catchup (s : State) (f) : (s.mapCatchup f).catchup = f s.catchup := rfl
@[simp] theorem State.mapCatchup_serving (s : State) (f) : (s.mapCatchup f).serving = s.serving := rfl
@[simp] theorem State.mapCatchup_arb (s : State) (f) : (s.mapCatchup f).arb = s.arb := rfl
@[simp] theorem State.mapCatchup_serial (s : State) (f) : (s.mapCatchup f).serial = s.serial := rfl
@[simp] theorem State.mapCatchup_free (s : State) (f) : (s.mapCatchup f).free = s.free := rfl
@[simp] theorem State.mapCatchup_pending (s : State) (f) : (s.mapCatchup f).pending = s.pending := rfl

end Sys2Proof.Machine
end

