-- ==== Sys2Proof/Laws/OpsFrame.lean ====
section
/-! SUPPORT. What each operation of Machine/Ops.lean leaves as it is, field by field. -/

namespace Sys2Proof.Machine

/-- A fold keeps what each of its steps keeps. -/
theorem foldl_keeps {α β γ : Type} (g : β → γ) (f : β → α → β) (h : ∀ t x, g (f t x) = g t) (l : List α) (s : β) :
    g (l.foldl f s) = g s := by
  induction l generalizing s with
  | nil => rfl
  | cons x xs ih => simp [ih, h]

/-- Fields that `post` keeps. -/
theorem State.post_frame (s : State) (e : Event) :
    (State.post s e).power = s.power ∧ (State.post s e).nv = s.nv ∧ (State.post s e).port = s.port ∧ (State.post s e).ctl = s.ctl ∧ (State.post s e).line = s.line ∧ (State.post s e).roster = s.roster ∧ (State.post s e).table = s.table ∧ (State.post s e).out = s.out ∧ (State.post s e).applyQ = s.applyQ ∧ (State.post s e).unsaved = s.unsaved ∧ (State.post s e).catchup = s.catchup ∧ (State.post s e).serving = s.serving ∧ (State.post s e).arb = s.arb ∧ (State.post s e).serial = s.serial ∧ (State.post s e).free = s.free ∧ (State.post s e).pending = s.pending := by
  unfold State.post; (repeat' (first | split | dsimp only)) <;> simp
@[simp] theorem State.post_power (s : State) (e : Event) : (State.post s e).power = s.power :=
  (State.post_frame s e).1
@[simp] theorem State.post_nv (s : State) (e : Event) : (State.post s e).nv = s.nv :=
  (State.post_frame s e).2.1
@[simp] theorem State.post_port (s : State) (e : Event) : (State.post s e).port = s.port :=
  (State.post_frame s e).2.2.1
@[simp] theorem State.post_ctl (s : State) (e : Event) : (State.post s e).ctl = s.ctl :=
  (State.post_frame s e).2.2.2.1
@[simp] theorem State.post_line (s : State) (e : Event) : (State.post s e).line = s.line :=
  (State.post_frame s e).2.2.2.2.1
@[simp] theorem State.post_roster (s : State) (e : Event) : (State.post s e).roster = s.roster :=
  (State.post_frame s e).2.2.2.2.2.1
@[simp] theorem State.post_table (s : State) (e : Event) : (State.post s e).table = s.table :=
  (State.post_frame s e).2.2.2.2.2.2.1
@[simp] theorem State.post_out (s : State) (e : Event) : (State.post s e).out = s.out :=
  (State.post_frame s e).2.2.2.2.2.2.2.1
@[simp] theorem State.post_applyQ (s : State) (e : Event) : (State.post s e).applyQ = s.applyQ :=
  (State.post_frame s e).2.2.2.2.2.2.2.2.1
@[simp] theorem State.post_unsaved (s : State) (e : Event) : (State.post s e).unsaved = s.unsaved :=
  (State.post_frame s e).2.2.2.2.2.2.2.2.2.1
@[simp] theorem State.post_catchup (s : State) (e : Event) : (State.post s e).catchup = s.catchup :=
  (State.post_frame s e).2.2.2.2.2.2.2.2.2.2.1
@[simp] theorem State.post_serving (s : State) (e : Event) : (State.post s e).serving = s.serving :=
  (State.post_frame s e).2.2.2.2.2.2.2.2.2.2.2.1
@[simp] theorem State.post_arb (s : State) (e : Event) : (State.post s e).arb = s.arb :=
  (State.post_frame s e).2.2.2.2.2.2.2.2.2.2.2.2.1
@[simp] theorem State.post_serial (s : State) (e : Event) : (State.post s e).serial = s.serial :=
  (State.post_frame s e).2.2.2.2.2.2.2.2.2.2.2.2.2.1
@[simp] theorem State.post_free (s : State) (e : Event) : (State.post s e).free = s.free :=
  (State.post_frame s e).2.2.2.2.2.2.2.2.2.2.2.2.2.2.1
@[simp] theorem State.post_pending (s : State) (e : Event) : (State.post s e).pending = s.pending :=
  (State.post_frame s e).2.2.2.2.2.2.2.2.2.2.2.2.2.2.2

/-- Fields that `setEntry` keeps. -/
theorem State.setEntry_frame (s : State) (r : Region) (e : RegionEntry) :
    (State.setEntry s r e).power = s.power ∧ (State.setEntry s r e).port = s.port ∧ (State.setEntry s r e).events = s.events ∧ (State.setEntry s r e).ctl = s.ctl ∧ (State.setEntry s r e).line = s.line ∧ (State.setEntry s r e).roster = s.roster ∧ (State.setEntry s r e).out = s.out ∧ (State.setEntry s r e).applyQ = s.applyQ ∧ (State.setEntry s r e).unsaved = s.unsaved ∧ (State.setEntry s r e).catchup = s.catchup ∧ (State.setEntry s r e).serving = s.serving ∧ (State.setEntry s r e).arb = s.arb ∧ (State.setEntry s r e).serial = s.serial ∧ (State.setEntry s r e).free = s.free ∧ (State.setEntry s r e).pending = s.pending := by
  unfold State.setEntry; (repeat' (first | split | dsimp only)) <;> simp
@[simp] theorem State.setEntry_power (s : State) (r : Region) (e : RegionEntry) : (State.setEntry s r e).power = s.power :=
  (State.setEntry_frame s r e).1
@[simp] theorem State.setEntry_port (s : State) (r : Region) (e : RegionEntry) : (State.setEntry s r e).port = s.port :=
  (State.setEntry_frame s r e).2.1
@[simp] theorem State.setEntry_events (s : State) (r : Region) (e : RegionEntry) : (State.setEntry s r e).events = s.events :=
  (State.setEntry_frame s r e).2.2.1
@[simp] theorem State.setEntry_ctl (s : State) (r : Region) (e : RegionEntry) : (State.setEntry s r e).ctl = s.ctl :=
  (State.setEntry_frame s r e).2.2.2.1
@[simp] theorem State.setEntry_line (s : State) (r : Region) (e : RegionEntry) : (State.setEntry s r e).line = s.line :=
  (State.setEntry_frame s r e).2.2.2.2.1
@[simp] theorem State.setEntry_roster (s : State) (r : Region) (e : RegionEntry) : (State.setEntry s r e).roster = s.roster :=
  (State.setEntry_frame s r e).2.2.2.2.2.1
@[simp] theorem State.setEntry_out (s : State) (r : Region) (e : RegionEntry) : (State.setEntry s r e).out = s.out :=
  (State.setEntry_frame s r e).2.2.2.2.2.2.1
@[simp] theorem State.setEntry_applyQ (s : State) (r : Region) (e : RegionEntry) : (State.setEntry s r e).applyQ = s.applyQ :=
  (State.setEntry_frame s r e).2.2.2.2.2.2.2.1
@[simp] theorem State.setEntry_unsaved (s : State) (r : Region) (e : RegionEntry) : (State.setEntry s r e).unsaved = s.unsaved :=
  (State.setEntry_frame s r e).2.2.2.2.2.2.2.2.1
@[simp] theorem State.setEntry_catchup (s : State) (r : Region) (e : RegionEntry) : (State.setEntry s r e).catchup = s.catchup :=
  (State.setEntry_frame s r e).2.2.2.2.2.2.2.2.2.1
@[simp] theorem State.setEntry_serving (s : State) (r : Region) (e : RegionEntry) : (State.setEntry s r e).serving = s.serving :=
  (State.setEntry_frame s r e).2.2.2.2.2.2.2.2.2.2.1
@[simp] theorem State.setEntry_arb (s : State) (r : Region) (e : RegionEntry) : (State.setEntry s r e).arb = s.arb :=
  (State.setEntry_frame s r e).2.2.2.2.2.2.2.2.2.2.2.1
@[simp] theorem State.setEntry_serial (s : State) (r : Region) (e : RegionEntry) : (State.setEntry s r e).serial = s.serial :=
  (State.setEntry_frame s r e).2.2.2.2.2.2.2.2.2.2.2.2.1
@[simp] theorem State.setEntry_free (s : State) (r : Region) (e : RegionEntry) : (State.setEntry s r e).free = s.free :=
  (State.setEntry_frame s r e).2.2.2.2.2.2.2.2.2.2.2.2.2.1
@[simp] theorem State.setEntry_pending (s : State) (r : Region) (e : RegionEntry) : (State.setEntry s r e).pending = s.pending :=
  (State.setEntry_frame s r e).2.2.2.2.2.2.2.2.2.2.2.2.2.2

/-- Fields that `mapEntry` keeps. -/
theorem State.mapEntry_frame (s : State) (r : Region) (f : RegionEntry → RegionEntry) :
    (State.mapEntry s r f).power = s.power ∧ (State.mapEntry s r f).port = s.port ∧ (State.mapEntry s r f).events = s.events ∧ (State.mapEntry s r f).ctl = s.ctl ∧ (State.mapEntry s r f).line = s.line ∧ (State.mapEntry s r f).roster = s.roster ∧ (State.mapEntry s r f).out = s.out ∧ (State.mapEntry s r f).applyQ = s.applyQ ∧ (State.mapEntry s r f).unsaved = s.unsaved ∧ (State.mapEntry s r f).catchup = s.catchup ∧ (State.mapEntry s r f).serving = s.serving ∧ (State.mapEntry s r f).arb = s.arb ∧ (State.mapEntry s r f).serial = s.serial ∧ (State.mapEntry s r f).free = s.free ∧ (State.mapEntry s r f).pending = s.pending := by
  unfold State.mapEntry; (repeat' (first | split | dsimp only)) <;> simp
@[simp] theorem State.mapEntry_power (s : State) (r : Region) (f : RegionEntry → RegionEntry) : (State.mapEntry s r f).power = s.power :=
  (State.mapEntry_frame s r f).1
@[simp] theorem State.mapEntry_port (s : State) (r : Region) (f : RegionEntry → RegionEntry) : (State.mapEntry s r f).port = s.port :=
  (State.mapEntry_frame s r f).2.1
@[simp] theorem State.mapEntry_events (s : State) (r : Region) (f : RegionEntry → RegionEntry) : (State.mapEntry s r f).events = s.events :=
  (State.mapEntry_frame s r f).2.2.1
@[simp] theorem State.mapEntry_ctl (s : State) (r : Region) (f : RegionEntry → RegionEntry) : (State.mapEntry s r f).ctl = s.ctl :=
  (State.mapEntry_frame s r f).2.2.2.1
@[simp] theorem State.mapEntry_line (s : State) (r : Region) (f : RegionEntry → RegionEntry) : (State.mapEntry s r f).line = s.line :=
  (State.mapEntry_frame s r f).2.2.2.2.1
@[simp] theorem State.mapEntry_roster (s : State) (r : Region) (f : RegionEntry → RegionEntry) : (State.mapEntry s r f).roster = s.roster :=
  (State.mapEntry_frame s r f).2.2.2.2.2.1
@[simp] theorem State.mapEntry_out (s : State) (r : Region) (f : RegionEntry → RegionEntry) : (State.mapEntry s r f).out = s.out :=
  (State.mapEntry_frame s r f).2.2.2.2.2.2.1
@[simp] theorem State.mapEntry_applyQ (s : State) (r : Region) (f : RegionEntry → RegionEntry) : (State.mapEntry s r f).applyQ = s.applyQ :=
  (State.mapEntry_frame s r f).2.2.2.2.2.2.2.1
@[simp] theorem State.mapEntry_unsaved (s : State) (r : Region) (f : RegionEntry → RegionEntry) : (State.mapEntry s r f).unsaved = s.unsaved :=
  (State.mapEntry_frame s r f).2.2.2.2.2.2.2.2.1
@[simp] theorem State.mapEntry_catchup (s : State) (r : Region) (f : RegionEntry → RegionEntry) : (State.mapEntry s r f).catchup = s.catchup :=
  (State.mapEntry_frame s r f).2.2.2.2.2.2.2.2.2.1
@[simp] theorem State.mapEntry_serving (s : State) (r : Region) (f : RegionEntry → RegionEntry) : (State.mapEntry s r f).serving = s.serving :=
  (State.mapEntry_frame s r f).2.2.2.2.2.2.2.2.2.2.1
@[simp] theorem State.mapEntry_arb (s : State) (r : Region) (f : RegionEntry → RegionEntry) : (State.mapEntry s r f).arb = s.arb :=
  (State.mapEntry_frame s r f).2.2.2.2.2.2.2.2.2.2.2.1
@[simp] theorem State.mapEntry_serial (s : State) (r : Region) (f : RegionEntry → RegionEntry) : (State.mapEntry s r f).serial = s.serial :=
  (State.mapEntry_frame s r f).2.2.2.2.2.2.2.2.2.2.2.2.1
@[simp] theorem State.mapEntry_free (s : State) (r : Region) (f : RegionEntry → RegionEntry) : (State.mapEntry s r f).free = s.free :=
  (State.mapEntry_frame s r f).2.2.2.2.2.2.2.2.2.2.2.2.2.1
@[simp] theorem State.mapEntry_pending (s : State) (r : Region) (f : RegionEntry → RegionEntry) : (State.mapEntry s r f).pending = s.pending :=
  (State.mapEntry_frame s r f).2.2.2.2.2.2.2.2.2.2.2.2.2.2

/-- Fields that `retain` keeps. -/
theorem State.retain_frame (s : State) (r : Region) :
    (State.retain s r).power = s.power ∧ (State.retain s r).port = s.port ∧ (State.retain s r).events = s.events ∧ (State.retain s r).ctl = s.ctl ∧ (State.retain s r).line = s.line ∧ (State.retain s r).roster = s.roster ∧ (State.retain s r).out = s.out ∧ (State.retain s r).applyQ = s.applyQ ∧ (State.retain s r).unsaved = s.unsaved ∧ (State.retain s r).catchup = s.catchup ∧ (State.retain s r).serving = s.serving ∧ (State.retain s r).arb = s.arb ∧ (State.retain s r).serial = s.serial ∧ (State.retain s r).free = s.free ∧ (State.retain s r).pending = s.pending := by
  unfold State.retain; (repeat' (first | split | dsimp only)) <;> simp
@[simp] theorem State.retain_power (s : State) (r : Region) : (State.retain s r).power = s.power :=
  (State.retain_frame s r).1
@[simp] theorem State.retain_port (s : State) (r : Region) : (State.retain s r).port = s.port :=
  (State.retain_frame s r).2.1
@[simp] theorem State.retain_events (s : State) (r : Region) : (State.retain s r).events = s.events :=
  (State.retain_frame s r).2.2.1
@[simp] theorem State.retain_ctl (s : State) (r : Region) : (State.retain s r).ctl = s.ctl :=
  (State.retain_frame s r).2.2.2.1
@[simp] theorem State.retain_line (s : State) (r : Region) : (State.retain s r).line = s.line :=
  (State.retain_frame s r).2.2.2.2.1
@[simp] theorem State.retain_roster (s : State) (r : Region) : (State.retain s r).roster = s.roster :=
  (State.retain_frame s r).2.2.2.2.2.1
@[simp] theorem State.retain_out (s : State) (r : Region) : (State.retain s r).out = s.out :=
  (State.retain_frame s r).2.2.2.2.2.2.1
@[simp] theorem State.retain_applyQ (s : State) (r : Region) : (State.retain s r).applyQ = s.applyQ :=
  (State.retain_frame s r).2.2.2.2.2.2.2.1
@[simp] theorem State.retain_unsaved (s : State) (r : Region) : (State.retain s r).unsaved = s.unsaved :=
  (State.retain_frame s r).2.2.2.2.2.2.2.2.1
@[simp] theorem State.retain_catchup (s : State) (r : Region) : (State.retain s r).catchup = s.catchup :=
  (State.retain_frame s r).2.2.2.2.2.2.2.2.2.1
@[simp] theorem State.retain_serving (s : State) (r : Region) : (State.retain s r).serving = s.serving :=
  (State.retain_frame s r).2.2.2.2.2.2.2.2.2.2.1
@[simp] theorem State.retain_arb (s : State) (r : Region) : (State.retain s r).arb = s.arb :=
  (State.retain_frame s r).2.2.2.2.2.2.2.2.2.2.2.1
@[simp] theorem State.retain_serial (s : State) (r : Region) : (State.retain s r).serial = s.serial :=
  (State.retain_frame s r).2.2.2.2.2.2.2.2.2.2.2.2.1
@[simp] theorem State.retain_free (s : State) (r : Region) : (State.retain s r).free = s.free :=
  (State.retain_frame s r).2.2.2.2.2.2.2.2.2.2.2.2.2.1
@[simp] theorem State.retain_pending (s : State) (r : Region) : (State.retain s r).pending = s.pending :=
  (State.retain_frame s r).2.2.2.2.2.2.2.2.2.2.2.2.2.2

/-- Fields that `countSerial` keeps. -/
theorem State.countSerial_frame (s : State) :
    (State.countSerial s).power = s.power ∧ (State.countSerial s).nv = s.nv ∧ (State.countSerial s).port = s.port ∧ (State.countSerial s).events = s.events ∧ (State.countSerial s).ctl = s.ctl ∧ (State.countSerial s).line = s.line ∧ (State.countSerial s).roster = s.roster ∧ (State.countSerial s).table = s.table ∧ (State.countSerial s).out = s.out ∧ (State.countSerial s).applyQ = s.applyQ ∧ (State.countSerial s).unsaved = s.unsaved ∧ (State.countSerial s).catchup = s.catchup ∧ (State.countSerial s).serving = s.serving ∧ (State.countSerial s).arb = s.arb ∧ (State.countSerial s).free = s.free ∧ (State.countSerial s).pending = s.pending := by
  unfold State.countSerial; (repeat' (first | split | dsimp only)) <;> simp
@[simp] theorem State.countSerial_power (s : State) : (State.countSerial s).power = s.power :=
  (State.countSerial_frame s).1
@[simp] theorem State.countSerial_nv (s : State) : (State.countSerial s).nv = s.nv :=
  (State.countSerial_frame s).2.1
@[simp] theorem State.countSerial_port (s : State) : (State.countSerial s).port = s.port :=
  (State.countSerial_frame s).2.2.1
@[simp] theorem State.countSerial_events (s : State) : (State.countSerial s).events = s.events :=
  (State.countSerial_frame s).2.2.2.1
@[simp] theorem State.countSerial_ctl (s : State) : (State.countSerial s).ctl = s.ctl :=
  (State.countSerial_frame s).2.2.2.2.1
@[simp] theorem State.countSerial_line (s : State) : (State.countSerial s).line = s.line :=
  (State.countSerial_frame s).2.2.2.2.2.1
@[simp] theorem State.countSerial_roster (s : State) : (State.countSerial s).roster = s.roster :=
  (State.countSerial_frame s).2.2.2.2.2.2.1
@[simp] theorem State.countSerial_table (s : State) : (State.countSerial s).table = s.table :=
  (State.countSerial_frame s).2.2.2.2.2.2.2.1
@[simp] theorem State.countSerial_out (s : State) : (State.countSerial s).out = s.out :=
  (State.countSerial_frame s).2.2.2.2.2.2.2.2.1
@[simp] theorem State.countSerial_applyQ (s : State) : (State.countSerial s).applyQ = s.applyQ :=
  (State.countSerial_frame s).2.2.2.2.2.2.2.2.2.1
@[simp] theorem State.countSerial_unsaved (s : State) : (State.countSerial s).unsaved = s.unsaved :=
  (State.countSerial_frame s).2.2.2.2.2.2.2.2.2.2.1
@[simp] theorem State.countSerial_catchup (s : State) : (State.countSerial s).catchup = s.catchup :=
  (State.countSerial_frame s).2.2.2.2.2.2.2.2.2.2.2.1
@[simp] theorem State.countSerial_serving (s : State) : (State.countSerial s).serving = s.serving :=
  (State.countSerial_frame s).2.2.2.2.2.2.2.2.2.2.2.2.1
@[simp] theorem State.countSerial_arb (s : State) : (State.countSerial s).arb = s.arb :=
  (State.countSerial_frame s).2.2.2.2.2.2.2.2.2.2.2.2.2.1
@[simp] theorem State.countSerial_free (s : State) : (State.countSerial s).free = s.free :=
  (State.countSerial_frame s).2.2.2.2.2.2.2.2.2.2.2.2.2.2.1
@[simp] theorem State.countSerial_pending (s : State) : (State.countSerial s).pending = s.pending :=
  (State.countSerial_frame s).2.2.2.2.2.2.2.2.2.2.2.2.2.2.2

/-- Fields that `appendApply` keeps. -/
theorem State.appendApply_frame (s : State) (r : Region) (b : ApplyBody) :
    (State.appendApply s r b).power = s.power ∧ (State.appendApply s r b).nv = s.nv ∧ (State.appendApply s r b).port = s.port ∧ (State.appendApply s r b).events = s.events ∧ (State.appendApply s r b).ctl = s.ctl ∧ (State.appendApply s r b).line = s.line ∧ (State.appendApply s r b).roster = s.roster ∧ (State.appendApply s r b).table = s.table ∧ (State.appendApply s r b).out = s.out ∧ (State.appendApply s r b).unsaved = s.unsaved ∧ (State.appendApply s r b).catchup = s.catchup ∧ (State.appendApply s r b).serving = s.serving ∧ (State.appendApply s r b).arb = s.arb ∧ (State.appendApply s r b).serial = s.serial ∧ (State.appendApply s r b).free = s.free ∧ (State.appendApply s r b).pending = s.pending := by
  unfold State.appendApply; (repeat' (first | split | dsimp only)) <;> simp
@[simp] theorem State.appendApply_power (s : State) (r : Region) (b : ApplyBody) : (State.appendApply s r b).power = s.power :=
  (State.appendApply_frame s r b).1
@[simp] theorem State.appendApply_nv (s : State) (r : Region) (b : ApplyBody) : (State.appendApply s r b).nv = s.nv :=
  (State.appendApply_frame s r b).2.1
@[simp] theorem State.appendApply_port (s : State) (r : Region) (b : ApplyBody) : (State.appendApply s r b).port = s.port :=
  (State.appendApply_frame s r b).2.2.1
@[simp] theorem State.appendApply_events (s : State) (r : Region) (b : ApplyBody) : (State.appendApply s r b).events = s.events :=
  (State.appendApply_frame s r b).2.2.2.1
@[simp] theorem State.appendApply_ctl (s : State) (r : Region) (b : ApplyBody) : (State.appendApply s r b).ctl = s.ctl :=
  (State.appendApply_frame s r b).2.2.2.2.1
@[simp] theorem State.appendApply_line (s : State) (r : Region) (b : ApplyBody) : (State.appendApply s r b).line = s.line :=
  (State.appendApply_frame s r b).2.2.2.2.2.1
@[simp] theorem State.appendApply_roster (s : State) (r : Region) (b : ApplyBody) : (State.appendApply s r b).roster = s.roster :=
  (State.appendApply_frame s r b).2.2.2.2.2.2.1
@[simp] theorem State.appendApply_table (s : State) (r : Region) (b : ApplyBody) : (State.appendApply s r b).table = s.table :=
  (State.appendApply_frame s r b).2.2.2.2.2.2.2.1
@[simp] theorem State.appendApply_out (s : State) (r : Region) (b : ApplyBody) : (State.appendApply s r b).out = s.out :=
  (State.appendApply_frame s r b).2.2.2.2.2.2.2.2.1
@[simp] theorem State.appendApply_unsaved (s : State) (r : Region) (b : ApplyBody) : (State.appendApply s r b).unsaved = s.unsaved :=
  (State.appendApply_frame s r b).2.2.2.2.2.2.2.2.2.1
@[simp] theorem State.appendApply_catchup (s : State) (r : Region) (b : ApplyBody) : (State.appendApply s r b).catchup = s.catchup :=
  (State.appendApply_frame s r b).2.2.2.2.2.2.2.2.2.2.1
@[simp] theorem State.appendApply_serving (s : State) (r : Region) (b : ApplyBody) : (State.appendApply s r b).serving = s.serving :=
  (State.appendApply_frame s r b).2.2.2.2.2.2.2.2.2.2.2.1
@[simp] theorem State.appendApply_arb (s : State) (r : Region) (b : ApplyBody) : (State.appendApply s r b).arb = s.arb :=
  (State.appendApply_frame s r b).2.2.2.2.2.2.2.2.2.2.2.2.1
@[simp] theorem State.appendApply_serial (s : State) (r : Region) (b : ApplyBody) : (State.appendApply s r b).serial = s.serial :=
  (State.appendApply_frame s r b).2.2.2.2.2.2.2.2.2.2.2.2.2.1
@[simp] theorem State.appendApply_free (s : State) (r : Region) (b : ApplyBody) : (State.appendApply s r b).free = s.free :=
  (State.appendApply_frame s r b).2.2.2.2.2.2.2.2.2.2.2.2.2.2.1
@[simp] theorem State.appendApply_pending (s : State) (r : Region) (b : ApplyBody) : (State.appendApply s r b).pending = s.pending :=
  (State.appendApply_frame s r b).2.2.2.2.2.2.2.2.2.2.2.2.2.2.2

/-- Fields that `takeApply` keeps. -/
theorem State.takeApply_frame (s : State) (r : Region) (b : ApplyBody) :
    (State.takeApply s r b).power = s.power ∧ (State.takeApply s r b).port = s.port ∧ (State.takeApply s r b).events = s.events ∧ (State.takeApply s r b).ctl = s.ctl ∧ (State.takeApply s r b).line = s.line ∧ (State.takeApply s r b).roster = s.roster ∧ (State.takeApply s r b).out = s.out ∧ (State.takeApply s r b).unsaved = s.unsaved ∧ (State.takeApply s r b).catchup = s.catchup ∧ (State.takeApply s r b).serving = s.serving ∧ (State.takeApply s r b).arb = s.arb ∧ (State.takeApply s r b).free = s.free ∧ (State.takeApply s r b).pending = s.pending := by
  unfold State.takeApply; (repeat' (first | split | dsimp only)) <;> simp
@[simp] theorem State.takeApply_power (s : State) (r : Region) (b : ApplyBody) : (State.takeApply s r b).power = s.power :=
  (State.takeApply_frame s r b).1
@[simp] theorem State.takeApply_port (s : State) (r : Region) (b : ApplyBody) : (State.takeApply s r b).port = s.port :=
  (State.takeApply_frame s r b).2.1
@[simp] theorem State.takeApply_events (s : State) (r : Region) (b : ApplyBody) : (State.takeApply s r b).events = s.events :=
  (State.takeApply_frame s r b).2.2.1
@[simp] theorem State.takeApply_ctl (s : State) (r : Region) (b : ApplyBody) : (State.takeApply s r b).ctl = s.ctl :=
  (State.takeApply_frame s r b).2.2.2.1
@[simp] theorem State.takeApply_line (s : State) (r : Region) (b : ApplyBody) : (State.takeApply s r b).line = s.line :=
  (State.takeApply_frame s r b).2.2.2.2.1
@[simp] theorem State.takeApply_roster (s : State) (r : Region) (b : ApplyBody) : (State.takeApply s r b).roster = s.roster :=
  (State.takeApply_frame s r b).2.2.2.2.2.1
@[simp] theorem State.takeApply_out (s : State) (r : Region) (b : ApplyBody) : (State.takeApply s r b).out = s.out :=
  (State.takeApply_frame s r b).2.2.2.2.2.2.1
@[simp] theorem State.takeApply_unsaved (s : State) (r : Region) (b : ApplyBody) : (State.takeApply s r b).unsaved = s.unsaved :=
  (State.takeApply_frame s r b).2.2.2.2.2.2.2.1
@[simp] theorem State.takeApply_catchup (s : State) (r : Region) (b : ApplyBody) : (State.takeApply s r b).catchup = s.catchup :=
  (State.takeApply_frame s r b).2.2.2.2.2.2.2.2.1
@[simp] theorem State.takeApply_serving (s : State) (r : Region) (b : ApplyBody) : (State.takeApply s r b).serving = s.serving :=
  (State.takeApply_frame s r b).2.2.2.2.2.2.2.2.2.1
@[simp] theorem State.takeApply_arb (s : State) (r : Region) (b : ApplyBody) : (State.takeApply s r b).arb = s.arb :=
  (State.takeApply_frame s r b).2.2.2.2.2.2.2.2.2.2.1
@[simp] theorem State.takeApply_free (s : State) (r : Region) (b : ApplyBody) : (State.takeApply s r b).free = s.free :=
  (State.takeApply_frame s r b).2.2.2.2.2.2.2.2.2.2.2.1
@[simp] theorem State.takeApply_pending (s : State) (r : Region) (b : ApplyBody) : (State.takeApply s r b).pending = s.pending :=
  (State.takeApply_frame s r b).2.2.2.2.2.2.2.2.2.2.2.2

/-- Fields that `answer` keeps. -/
theorem State.answer_frame (s : State) (code : Byte) (result : ResultCode) (data : List Byte) :
    (State.answer s code result data).power = s.power ∧ (State.answer s code result data).nv = s.nv ∧ (State.answer s code result data).events = s.events ∧ (State.answer s code result data).ctl = s.ctl ∧ (State.answer s code result data).line = s.line ∧ (State.answer s code result data).roster = s.roster ∧ (State.answer s code result data).table = s.table ∧ (State.answer s code result data).out = s.out ∧ (State.answer s code result data).applyQ = s.applyQ ∧ (State.answer s code result data).unsaved = s.unsaved ∧ (State.answer s code result data).catchup = s.catchup ∧ (State.answer s code result data).serving = s.serving ∧ (State.answer s code result data).arb = s.arb ∧ (State.answer s code result data).serial = s.serial ∧ (State.answer s code result data).free = s.free ∧ (State.answer s code result data).pending = s.pending := by
  unfold State.answer; (repeat' (first | split | dsimp only)) <;> simp
@[simp] theorem State.answer_power (s : State) (code : Byte) (result : ResultCode) (data : List Byte) : (State.answer s code result data).power = s.power :=
  (State.answer_frame s code result data).1
@[simp] theorem State.answer_nv (s : State) (code : Byte) (result : ResultCode) (data : List Byte) : (State.answer s code result data).nv = s.nv :=
  (State.answer_frame s code result data).2.1
@[simp] theorem State.answer_events (s : State) (code : Byte) (result : ResultCode) (data : List Byte) : (State.answer s code result data).events = s.events :=
  (State.answer_frame s code result data).2.2.1
@[simp] theorem State.answer_ctl (s : State) (code : Byte) (result : ResultCode) (data : List Byte) : (State.answer s code result data).ctl = s.ctl :=
  (State.answer_frame s code result data).2.2.2.1
@[simp] theorem State.answer_line (s : State) (code : Byte) (result : ResultCode) (data : List Byte) : (State.answer s code result data).line = s.line :=
  (State.answer_frame s code result data).2.2.2.2.1
@[simp] theorem State.answer_roster (s : State) (code : Byte) (result : ResultCode) (data : List Byte) : (State.answer s code result data).roster = s.roster :=
  (State.answer_frame s code result data).2.2.2.2.2.1
@[simp] theorem State.answer_table (s : State) (code : Byte) (result : ResultCode) (data : List Byte) : (State.answer s code result data).table = s.table :=
  (State.answer_frame s code result data).2.2.2.2.2.2.1
@[simp] theorem State.answer_out (s : State) (code : Byte) (result : ResultCode) (data : List Byte) : (State.answer s code result data).out = s.out :=
  (State.answer_frame s code result data).2.2.2.2.2.2.2.1
@[simp] theorem State.answer_applyQ (s : State) (code : Byte) (result : ResultCode) (data : List Byte) : (State.answer s code result data).applyQ = s.applyQ :=
  (State.answer_frame s code result data).2.2.2.2.2.2.2.2.1
@[simp] theorem State.answer_unsaved (s : State) (code : Byte) (result : ResultCode) (data : List Byte) : (State.answer s code result data).unsaved = s.unsaved :=
  (State.answer_frame s code result data).2.2.2.2.2.2.2.2.2.1
@[simp] theorem State.answer_catchup (s : State) (code : Byte) (result : ResultCode) (data : List Byte) : (State.answer s code result data).catchup = s.catchup :=
  (State.answer_frame s code result data).2.2.2.2.2.2.2.2.2.2.1
@[simp] theorem State.answer_serving (s : State) (code : Byte) (result : ResultCode) (data : List Byte) : (State.answer s code result data).serving = s.serving :=
  (State.answer_frame s code result data).2.2.2.2.2.2.2.2.2.2.2.1
@[simp] theorem State.answer_arb (s : State) (code : Byte) (result : ResultCode) (data : List Byte) : (State.answer s code result data).arb = s.arb :=
  (State.answer_frame s code result data).2.2.2.2.2.2.2.2.2.2.2.2.1
@[simp] theorem State.answer_serial (s : State) (code : Byte) (result : ResultCode) (data : List Byte) : (State.answer s code result data).serial = s.serial :=
  (State.answer_frame s code result data).2.2.2.2.2.2.2.2.2.2.2.2.2.1
@[simp] theorem State.answer_free (s : State) (code : Byte) (result : ResultCode) (data : List Byte) : (State.answer s code result data).free = s.free :=
  (State.answer_frame s code result data).2.2.2.2.2.2.2.2.2.2.2.2.2.2.1
@[simp] theorem State.answer_pending (s : State) (code : Byte) (result : ResultCode) (data : List Byte) : (State.answer s code result data).pending = s.pending :=
  (State.answer_frame s code result data).2.2.2.2.2.2.2.2.2.2.2.2.2.2.2

/-- Fields that `work` keeps. -/
theorem State.work_frame (s : State) (w : Work) :
    (State.work s w).power = s.power ∧ (State.work s w).nv = s.nv ∧ (State.work s w).events = s.events ∧ (State.work s w).ctl = s.ctl ∧ (State.work s w).line = s.line ∧ (State.work s w).roster = s.roster ∧ (State.work s w).table = s.table ∧ (State.work s w).out = s.out ∧ (State.work s w).applyQ = s.applyQ ∧ (State.work s w).unsaved = s.unsaved ∧ (State.work s w).catchup = s.catchup ∧ (State.work s w).serving = s.serving ∧ (State.work s w).arb = s.arb ∧ (State.work s w).serial = s.serial ∧ (State.work s w).free = s.free ∧ (State.work s w).pending = s.pending := by
  unfold State.work; (repeat' (first | split | dsimp only)) <;> simp
@[simp] theorem State.work_power (s : State) (w : Work) : (State.work s w).power = s.power :=
  (State.work_frame s w).1
@[simp] theorem State.work_nv (s : State) (w : Work) : (State.work s w).nv = s.nv :=
  (State.work_frame s w).2.1
@[simp] theorem State.work_events (s : State) (w : Work) : (State.work s w).events = s.events :=
  (State.work_frame s w).2.2.1
@[simp] theorem State.work_ctl (s : State) (w : Work) : (State.work s w).ctl = s.ctl :=
  (State.work_frame s w).2.2.2.1
@[simp] theorem State.work_line (s : State) (w : Work) : (State.work s w).line = s.line :=
  (State.work_frame s w).2.2.2.2.1
@[simp] theorem State.work_roster (s : State) (w : Work) : (State.work s w).roster = s.roster :=
  (State.work_frame s w).2.2.2.2.2.1
@[simp] theorem State.work_table (s : State) (w : Work) : (State.work s w).table = s.table :=
  (State.work_frame s w).2.2.2.2.2.2.1
@[simp] theorem State.work_out (s : State) (w : Work) : (State.work s w).out = s.out :=
  (State.work_frame s w).2.2.2.2.2.2.2.1
@[simp] theorem State.work_applyQ (s : State) (w : Work) : (State.work s w).applyQ = s.applyQ :=
  (State.work_frame s w).2.2.2.2.2.2.2.2.1
@[simp] theorem State.work_unsaved (s : State) (w : Work) : (State.work s w).unsaved = s.unsaved :=
  (State.work_frame s w).2.2.2.2.2.2.2.2.2.1
@[simp] theorem State.work_catchup (s : State) (w : Work) : (State.work s w).catchup = s.catchup :=
  (State.work_frame s w).2.2.2.2.2.2.2.2.2.2.1
@[simp] theorem State.work_serving (s : State) (w : Work) : (State.work s w).serving = s.serving :=
  (State.work_frame s w).2.2.2.2.2.2.2.2.2.2.2.1
@[simp] theorem State.work_arb (s : State) (w : Work) : (State.work s w).arb = s.arb :=
  (State.work_frame s w).2.2.2.2.2.2.2.2.2.2.2.2.1
@[simp] theorem State.work_serial (s : State) (w : Work) : (State.work s w).serial = s.serial :=
  (State.work_frame s w).2.2.2.2.2.2.2.2.2.2.2.2.2.1
@[simp] theorem State.work_free (s : State) (w : Work) : (State.work s w).free = s.free :=
  (State.work_frame s w).2.2.2.2.2.2.2.2.2.2.2.2.2.2.1
@[simp] theorem State.work_pending (s : State) (w : Work) : (State.work s w).pending = s.pending :=
  (State.work_frame s w).2.2.2.2.2.2.2.2.2.2.2.2.2.2.2

/-- Fields that `setEntries` keeps. -/
theorem State.setEntries_frame (s : State) (es : List OutEntry) :
    (State.setEntries s es).power = s.power ∧ (State.setEntries s es).nv = s.nv ∧ (State.setEntries s es).port = s.port ∧ (State.setEntries s es).events = s.events ∧ (State.setEntries s es).ctl = s.ctl ∧ (State.setEntries s es).line = s.line ∧ (State.setEntries s es).roster = s.roster ∧ (State.setEntries s es).table = s.table ∧ (State.setEntries s es).applyQ = s.applyQ ∧ (State.setEntries s es).unsaved = s.unsaved ∧ (State.setEntries s es).catchup = s.catchup ∧ (State.setEntries s es).serving = s.serving ∧ (State.setEntries s es).arb = s.arb ∧ (State.setEntries s es).serial = s.serial ∧ (State.setEntries s es).free = s.free ∧ (State.setEntries s es).pending = s.pending := by
  unfold State.setEntries; (repeat' (first | split | dsimp only)) <;> simp
@[simp] theorem State.setEntries_power (s : State) (es : List OutEntry) : (State.setEntries s es).power = s.power :=
  (State.setEntries_frame s es).1
@[simp] theorem State.setEntries_nv (s : State) (es : List OutEntry) : (State.setEntries s es).nv = s.nv :=
  (State.setEntries_frame s es).2.1
@[simp] theorem State.setEntries_port (s : State) (es : List OutEntry) : (State.setEntries s es).port = s.port :=
  (State.setEntries_frame s es).2.2.1
@[simp] theorem State.setEntries_events (s : State) (es : List OutEntry) : (State.setEntries s es).events = s.events :=
  (State.setEntries_frame s es).2.2.2.1
@[simp] theorem State.setEntries_ctl (s : State) (es : List OutEntry) : (State.setEntries s es).ctl = s.ctl :=
  (State.setEntries_frame s es).2.2.2.2.1
@[simp] theorem State.setEntries_line (s : State) (es : List OutEntry) : (State.setEntries s es).line = s.line :=
  (State.setEntries_frame s es).2.2.2.2.2.1
@[simp] theorem State.setEntries_roster (s : State) (es : List OutEntry) : (State.setEntries s es).roster = s.roster :=
  (State.setEntries_frame s es).2.2.2.2.2.2.1
@[simp] theorem State.setEntries_table (s : State) (es : List OutEntry) : (State.setEntries s es).table = s.table :=
  (State.setEntries_frame s es).2.2.2.2.2.2.2.1
@[simp] theorem State.setEntries_applyQ (s : State) (es : List OutEntry) : (State.setEntries s es).applyQ = s.applyQ :=
  (State.setEntries_frame s es).2.2.2.2.2.2.2.2.1
@[simp] theorem State.setEntries_unsaved (s : State) (es : List OutEntry) : (State.setEntries s es).unsaved = s.unsaved :=
  (State.setEntries_frame s es).2.2.2.2.2.2.2.2.2.1
@[simp] theorem State.setEntries_catchup (s : State) (es : List OutEntry) : (State.setEntries s es).catchup = s.catchup :=
  (State.setEntries_frame s es).2.2.2.2.2.2.2.2.2.2.1
@[simp] theorem State.setEntries_serving (s : State) (es : List OutEntry) : (State.setEntries s es).serving = s.serving :=
  (State.setEntries_frame s es).2.2.2.2.2.2.2.2.2.2.2.1
@[simp] theorem State.setEntries_arb (s : State) (es : List OutEntry) : (State.setEntries s es).arb = s.arb :=
  (State.setEntries_frame s es).2.2.2.2.2.2.2.2.2.2.2.2.1
@[simp] theorem State.setEntries_serial (s : State) (es : List OutEntry) : (State.setEntries s es).serial = s.serial :=
  (State.setEntries_frame s es).2.2.2.2.2.2.2.2.2.2.2.2.2.1
@[simp] theorem State.setEntries_free (s : State) (es : List OutEntry) : (State.setEntries s es).free = s.free :=
  (State.setEntries_frame s es).2.2.2.2.2.2.2.2.2.2.2.2.2.2.1
@[simp] theorem State.setEntries_pending (s : State) (es : List OutEntry) : (State.setEntries s es).pending = s.pending :=
  (State.setEntries_frame s es).2.2.2.2.2.2.2.2.2.2.2.2.2.2.2

/-- Fields that `checkFence` keeps. -/
theorem State.checkFence_frame (s : State) :
    (State.checkFence s).power = s.power ∧ (State.checkFence s).nv = s.nv ∧ (State.checkFence s).port = s.port ∧ (State.checkFence s).ctl = s.ctl ∧ (State.checkFence s).line = s.line ∧ (State.checkFence s).roster = s.roster ∧ (State.checkFence s).table = s.table ∧ (State.checkFence s).applyQ = s.applyQ ∧ (State.checkFence s).unsaved = s.unsaved ∧ (State.checkFence s).catchup = s.catchup ∧ (State.checkFence s).serving = s.serving ∧ (State.checkFence s).arb = s.arb ∧ (State.checkFence s).serial = s.serial ∧ (State.checkFence s).free = s.free ∧ (State.checkFence s).pending = s.pending := by
  unfold State.checkFence; (repeat' (first | split | dsimp only)) <;> simp
@[simp] theorem State.checkFence_power (s : State) : (State.checkFence s).power = s.power :=
  (State.checkFence_frame s).1
@[simp] theorem State.checkFence_nv (s : State) : (State.checkFence s).nv = s.nv :=
  (State.checkFence_frame s).2.1
@[simp] theorem State.checkFence_port (s : State) : (State.checkFence s).port = s.port :=
  (State.checkFence_frame s).2.2.1
@[simp] theorem State.checkFence_ctl (s : State) : (State.checkFence s).ctl = s.ctl :=
  (State.checkFence_frame s).2.2.2.1
@[simp] theorem State.checkFence_line (s : State) : (State.checkFence s).line = s.line :=
  (State.checkFence_frame s).2.2.2.2.1
@[simp] theorem State.checkFence_roster (s : State) : (State.checkFence s).roster = s.roster :=
  (State.checkFence_frame s).2.2.2.2.2.1
@[simp] theorem State.checkFence_table (s : State) : (State.checkFence s).table = s.table :=
  (State.checkFence_frame s).2.2.2.2.2.2.1
@[simp] theorem State.checkFence_applyQ (s : State) : (State.checkFence s).applyQ = s.applyQ :=
  (State.checkFence_frame s).2.2.2.2.2.2.2.1
@[simp] theorem State.checkFence_unsaved (s : State) : (State.checkFence s).unsaved = s.unsaved :=
  (State.checkFence_frame s).2.2.2.2.2.2.2.2.1
@[simp] theorem State.checkFence_catchup (s : State) : (State.checkFence s).catchup = s.catchup :=
  (State.checkFence_frame s).2.2.2.2.2.2.2.2.2.1
@[simp] theorem State.checkFence_serving (s : State) : (State.checkFence s).serving = s.serving :=
  (State.checkFence_frame s).2.2.2.2.2.2.2.2.2.2.1
@[simp] theorem State.checkFence_arb (s : State) : (State.checkFence s).arb = s.arb :=
  (State.checkFence_frame s).2.2.2.2.2.2.2.2.2.2.2.1
@[simp] theorem State.checkFence_serial (s : State) : (State.checkFence s).serial = s.serial :=
  (State.checkFence_frame s).2.2.2.2.2.2.2.2.2.2.2.2.1
@[simp] theorem State.checkFence_free (s : State) : (State.checkFence s).free = s.free :=
  (State.checkFence_frame s).2.2.2.2.2.2.2.2.2.2.2.2.2.1
@[simp] theorem State.checkFence_pending (s : State) : (State.checkFence s).pending = s.pending :=
  (State.checkFence_frame s).2.2.2.2.2.2.2.2.2.2.2.2.2.2

/-- Fields that `departed` keeps. -/
theorem State.departed_frame (s : State) (cut : Bool) (e : OutEntry) :
    (State.departed s cut e).power = s.power ∧ (State.departed s cut e).nv = s.nv ∧ (State.departed s cut e).port = s.port ∧ (State.departed s cut e).events = s.events ∧ (State.departed s cut e).line = s.line ∧ (State.departed s cut e).roster = s.roster ∧ (State.departed s cut e).table = s.table ∧ (State.departed s cut e).applyQ = s.applyQ ∧ (State.departed s cut e).unsaved = s.unsaved ∧ (State.departed s cut e).catchup = s.catchup ∧ (State.departed s cut e).serving = s.serving ∧ (State.departed s cut e).arb = s.arb ∧ (State.departed s cut e).serial = s.serial ∧ (State.departed s cut e).free = s.free ∧ (State.departed s cut e).pending = s.pending := by
  unfold State.departed; (repeat' (first | split | dsimp only)) <;> simp
@[simp] theorem State.departed_power (s : State) (cut : Bool) (e : OutEntry) : (State.departed s cut e).power = s.power :=
  (State.departed_frame s cut e).1
@[simp] theorem State.departed_nv (s : State) (cut : Bool) (e : OutEntry) : (State.departed s cut e).nv = s.nv :=
  (State.departed_frame s cut e).2.1
@[simp] theorem State.departed_port (s : State) (cut : Bool) (e : OutEntry) : (State.departed s cut e).port = s.port :=
  (State.departed_frame s cut e).2.2.1
@[simp] theorem State.departed_events (s : State) (cut : Bool) (e : OutEntry) : (State.departed s cut e).events = s.events :=
  (State.departed_frame s cut e).2.2.2.1
@[simp] theorem State.departed_line (s : State) (cut : Bool) (e : OutEntry) : (State.departed s cut e).line = s.line :=
  (State.departed_frame s cut e).2.2.2.2.1
@[simp] theorem State.departed_roster (s : State) (cut : Bool) (e : OutEntry) : (State.departed s cut e).roster = s.roster :=
  (State.departed_frame s cut e).2.2.2.2.2.1
@[simp] theorem State.departed_table (s : State) (cut : Bool) (e : OutEntry) : (State.departed s cut e).table = s.table :=
  (State.departed_frame s cut e).2.2.2.2.2.2.1
@[simp] theorem State.departed_applyQ (s : State) (cut : Bool) (e : OutEntry) : (State.departed s cut e).applyQ = s.applyQ :=
  (State.departed_frame s cut e).2.2.2.2.2.2.2.1
@[simp] theorem State.departed_unsaved (s : State) (cut : Bool) (e : OutEntry) : (State.departed s cut e).unsaved = s.unsaved :=
  (State.departed_frame s cut e).2.2.2.2.2.2.2.2.1
@[simp] theorem State.departed_catchup (s : State) (cut : Bool) (e : OutEntry) : (State.departed s cut e).catchup = s.catchup :=
  (State.departed_frame s cut e).2.2.2.2.2.2.2.2.2.1
@[simp] theorem State.departed_serving (s : State) (cut : Bool) (e : OutEntry) : (State.departed s cut e).serving = s.serving :=
  (State.departed_frame s cut e).2.2.2.2.2.2.2.2.2.2.1
@[simp] theorem State.departed_arb (s : State) (cut : Bool) (e : OutEntry) : (State.departed s cut e).arb = s.arb :=
  (State.departed_frame s cut e).2.2.2.2.2.2.2.2.2.2.2.1
@[simp] theorem State.departed_serial (s : State) (cut : Bool) (e : OutEntry) : (State.departed s cut e).serial = s.serial :=
  (State.departed_frame s cut e).2.2.2.2.2.2.2.2.2.2.2.2.1
@[simp] theorem State.departed_free (s : State) (cut : Bool) (e : OutEntry) : (State.departed s cut e).free = s.free :=
  (State.departed_frame s cut e).2.2.2.2.2.2.2.2.2.2.2.2.2.1
@[simp] theorem State.departed_pending (s : State) (cut : Bool) (e : OutEntry) : (State.departed s cut e).pending = s.pending :=
  (State.departed_frame s cut e).2.2.2.2.2.2.2.2.2.2.2.2.2.2

/-- Fields that `departAll` keeps. -/
theorem State.departAll_frame (s : State) (cut : Bool) (gone : List OutEntry) :
    (State.departAll s cut gone).power = s.power ∧ (State.departAll s cut gone).nv = s.nv ∧ (State.departAll s cut gone).port = s.port ∧ (State.departAll s cut gone).events = s.events ∧ (State.departAll s cut gone).line = s.line ∧ (State.departAll s cut gone).roster = s.roster ∧ (State.departAll s cut gone).table = s.table ∧ (State.departAll s cut gone).applyQ = s.applyQ ∧ (State.departAll s cut gone).unsaved = s.unsaved ∧ (State.departAll s cut gone).catchup = s.catchup ∧ (State.departAll s cut gone).serving = s.serving ∧ (State.departAll s cut gone).arb = s.arb ∧ (State.departAll s cut gone).serial = s.serial ∧ (State.departAll s cut gone).free = s.free ∧ (State.departAll s cut gone).pending = s.pending := by
  unfold State.departAll
  refine ⟨?_, ?_, ?_, ?_, ?_, ?_, ?_, ?_, ?_, ?_, ?_, ?_, ?_, ?_, ?_⟩
  all_goals exact (foldl_keeps _ _ (fun t x => by simp) _ _).trans (by simp)
@[simp] theorem State.departAll_power (s : State) (cut : Bool) (gone : List OutEntry) : (State.departAll s cut gone).power = s.power :=
  (State.departAll_frame s cut gone).1
@[simp] theorem State.departAll_nv (s : State) (cut : Bool) (gone : List OutEntry) : (State.departAll s cut gone).nv = s.nv :=
  (State.departAll_frame s cut gone).2.1
@[simp] theorem State.departAll_port (s : State) (cut : Bool) (gone : List OutEntry) : (State.departAll s cut gone).port = s.port :=
  (State.departAll_frame s cut gone).2.2.1
@[simp] theorem State.departAll_events (s : State) (cut : Bool) (gone : List OutEntry) : (State.departAll s cut gone).events = s.events :=
  (State.departAll_frame s cut gone).2.2.2.1
@[simp] theorem State.departAll_line (s : State) (cut : Bool) (gone : List OutEntry) : (State.departAll s cut gone).line = s.line :=
  (State.departAll_frame s cut gone).2.2.2.2.1
@[simp] theorem State.departAll_roster (s : State) (cut : Bool) (gone : List OutEntry) : (State.departAll s cut gone).roster = s.roster :=
  (State.departAll_frame s cut gone).2.2.2.2.2.1
@[simp] theorem State.departAll_table (s : State) (cut : Bool) (gone : List OutEntry) : (State.departAll s cut gone).table = s.table :=
  (State.departAll_frame s cut gone).2.2.2.2.2.2.1
@[simp] theorem State.departAll_applyQ (s : State) (cut : Bool) (gone : List OutEntry) : (State.departAll s cut gone).applyQ = s.applyQ :=
  (State.departAll_frame s cut gone).2.2.2.2.2.2.2.1
@[simp] theorem State.departAll_unsaved (s : State) (cut : Bool) (gone : List OutEntry) : (State.departAll s cut gone).unsaved = s.unsaved :=
  (State.departAll_frame s cut gone).2.2.2.2.2.2.2.2.1
@[simp] theorem State.departAll_catchup (s : State) (cut : Bool) (gone : List OutEntry) : (State.departAll s cut gone).catchup = s.catchup :=
  (State.departAll_frame s cut gone).2.2.2.2.2.2.2.2.2.1
@[simp] theorem State.departAll_serving (s : State) (cut : Bool) (gone : List OutEntry) : (State.departAll s cut gone).serving = s.serving :=
  (State.departAll_frame s cut gone).2.2.2.2.2.2.2.2.2.2.1
@[simp] theorem State.departAll_arb (s : State) (cut : Bool) (gone : List OutEntry) : (State.departAll s cut gone).arb = s.arb :=
  (State.departAll_frame s cut gone).2.2.2.2.2.2.2.2.2.2.2.1
@[simp] theorem State.departAll_serial (s : State) (cut : Bool) (gone : List OutEntry) : (State.departAll s cut gone).serial = s.serial :=
  (State.departAll_frame s cut gone).2.2.2.2.2.2.2.2.2.2.2.2.1
@[simp] theorem State.departAll_free (s : State) (cut : Bool) (gone : List OutEntry) : (State.departAll s cut gone).free = s.free :=
  (State.departAll_frame s cut gone).2.2.2.2.2.2.2.2.2.2.2.2.2.1
@[simp] theorem State.departAll_pending (s : State) (cut : Bool) (gone : List OutEntry) : (State.departAll s cut gone).pending = s.pending :=
  (State.departAll_frame s cut gone).2.2.2.2.2.2.2.2.2.2.2.2.2.2

/-- Fields that `discardEntries` keeps. -/
theorem State.discardEntries_frame (s : State) (p : OutEntry → Bool) (cut : Bool) :
    (State.discardEntries s p cut).power = s.power ∧ (State.discardEntries s p cut).nv = s.nv ∧ (State.discardEntries s p cut).port = s.port ∧ (State.discardEntries s p cut).line = s.line ∧ (State.discardEntries s p cut).roster = s.roster ∧ (State.discardEntries s p cut).table = s.table ∧ (State.discardEntries s p cut).applyQ = s.applyQ ∧ (State.discardEntries s p cut).unsaved = s.unsaved ∧ (State.discardEntries s p cut).catchup = s.catchup ∧ (State.discardEntries s p cut).serving = s.serving ∧ (State.discardEntries s p cut).arb = s.arb ∧ (State.discardEntries s p cut).serial = s.serial ∧ (State.discardEntries s p cut).free = s.free ∧ (State.discardEntries s p cut).pending = s.pending := by
  unfold State.discardEntries; (repeat' (first | split | dsimp only)) <;> simp
@[simp] theorem State.discardEntries_power (s : State) (p : OutEntry → Bool) (cut : Bool) : (State.discardEntries s p cut).power = s.power :=
  (State.discardEntries_frame s p cut).1
@[simp] theorem State.discardEntries_nv (s : State) (p : OutEntry → Bool) (cut : Bool) : (State.discardEntries s p cut).nv = s.nv :=
  (State.discardEntries_frame s p cut).2.1
@[simp] theorem State.discardEntries_port (s : State) (p : OutEntry → Bool) (cut : Bool) : (State.discardEntries s p cut).port = s.port :=
  (State.discardEntries_frame s p cut).2.2.1
@[simp] theorem State.discardEntries_line (s : State) (p : OutEntry → Bool) (cut : Bool) : (State.discardEntries s p cut).line = s.line :=
  (State.discardEntries_frame s p cut).2.2.2.1
@[simp] theorem State.discardEntries_roster (s : State) (p : OutEntry → Bool) (cut : Bool) : (State.discardEntries s p cut).roster = s.roster :=
  (State.discardEntries_frame s p cut).2.2.2.2.1
@[simp] theorem State.discardEntries_table (s : State) (p : OutEntry → Bool) (cut : Bool) : (State.discardEntries s p cut).table = s.table :=
  (State.discardEntries_frame s p cut).2.2.2.2.2.1
@[simp] theorem State.discardEntries_applyQ (s : State) (p : OutEntry → Bool) (cut : Bool) : (State.discardEntries s p cut).applyQ = s.applyQ :=
  (State.discardEntries_frame s p cut).2.2.2.2.2.2.1
@[simp] theorem State.discardEntries_unsaved (s : State) (p : OutEntry → Bool) (cut : Bool) : (State.discardEntries s p cut).unsaved = s.unsaved :=
  (State.discardEntries_frame s p cut).2.2.2.2.2.2.2.1
@[simp] theorem State.discardEntries_catchup (s : State) (p : OutEntry → Bool) (cut : Bool) : (State.discardEntries s p cut).catchup = s.catchup :=
  (State.discardEntries_frame s p cut).2.2.2.2.2.2.2.2.1
@[simp] theorem State.discardEntries_serving (s : State) (p : OutEntry → Bool) (cut : Bool) : (State.discardEntries s p cut).serving = s.serving :=
  (State.discardEntries_frame s p cut).2.2.2.2.2.2.2.2.2.1
@[simp] theorem State.discardEntries_arb (s : State) (p : OutEntry → Bool) (cut : Bool) : (State.discardEntries s p cut).arb = s.arb :=
  (State.discardEntries_frame s p cut).2.2.2.2.2.2.2.2.2.2.1
@[simp] theorem State.discardEntries_serial (s : State) (p : OutEntry → Bool) (cut : Bool) : (State.discardEntries s p cut).serial = s.serial :=
  (State.discardEntries_frame s p cut).2.2.2.2.2.2.2.2.2.2.2.1
@[simp] theorem State.discardEntries_free (s : State) (p : OutEntry → Bool) (cut : Bool) : (State.discardEntries s p cut).free = s.free :=
  (State.discardEntries_frame s p cut).2.2.2.2.2.2.2.2.2.2.2.2.1
@[simp] theorem State.discardEntries_pending (s : State) (p : OutEntry → Bool) (cut : Bool) : (State.discardEntries s p cut).pending = s.pending :=
  (State.discardEntries_frame s p cut).2.2.2.2.2.2.2.2.2.2.2.2.2

/-- Fields that `removeSending` keeps. -/
theorem State.removeSending_frame (s : State) :
    (State.removeSending s).power = s.power ∧ (State.removeSending s).nv = s.nv ∧ (State.removeSending s).port = s.port ∧ (State.removeSending s).events = s.events ∧ (State.removeSending s).ctl = s.ctl ∧ (State.removeSending s).line = s.line ∧ (State.removeSending s).roster = s.roster ∧ (State.removeSending s).table = s.table ∧ (State.removeSending s).applyQ = s.applyQ ∧ (State.removeSending s).unsaved = s.unsaved ∧ (State.removeSending s).catchup = s.catchup ∧ (State.removeSending s).serving = s.serving ∧ (State.removeSending s).arb = s.arb ∧ (State.removeSending s).serial = s.serial ∧ (State.removeSending s).free = s.free ∧ (State.removeSending s).pending = s.pending := by
  unfold State.removeSending; (repeat' (first | split | dsimp only)) <;> simp
@[simp] theorem State.removeSending_power (s : State) : (State.removeSending s).power = s.power :=
  (State.removeSending_frame s).1
@[simp] theorem State.removeSending_nv (s : State) : (State.removeSending s).nv = s.nv :=
  (State.removeSending_frame s).2.1
@[simp] theorem State.removeSending_port (s : State) : (State.removeSending s).port = s.port :=
  (State.removeSending_frame s).2.2.1
@[simp] theorem State.removeSending_events (s : State) : (State.removeSending s).events = s.events :=
  (State.removeSending_frame s).2.2.2.1
@[simp] theorem State.removeSending_ctl (s : State) : (State.removeSending s).ctl = s.ctl :=
  (State.removeSending_frame s).2.2.2.2.1
@[simp] theorem State.removeSending_line (s : State) : (State.removeSending s).line = s.line :=
  (State.removeSending_frame s).2.2.2.2.2.1
@[simp] theorem State.removeSending_roster (s : State) : (State.removeSending s).roster = s.roster :=
  (State.removeSending_frame s).2.2.2.2.2.2.1
@[simp] theorem State.removeSending_table (s : State) : (State.removeSending s).table = s.table :=
  (State.removeSending_frame s).2.2.2.2.2.2.2.1
@[simp] theorem State.removeSending_applyQ (s : State) : (State.removeSending s).applyQ = s.applyQ :=
  (State.removeSending_frame s).2.2.2.2.2.2.2.2.1
@[simp] theorem State.removeSending_unsaved (s : State) : (State.removeSending s).unsaved = s.unsaved :=
  (State.removeSending_frame s).2.2.2.2.2.2.2.2.2.1
@[simp] theorem State.removeSending_catchup (s : State) : (State.removeSending s).catchup = s.catchup :=
  (State.removeSending_frame s).2.2.2.2.2.2.2.2.2.2.1
@[simp] theorem State.removeSending_serving (s : State) : (State.removeSending s).serving = s.serving :=
  (State.removeSending_frame s).2.2.2.2.2.2.2.2.2.2.2.1
@[simp] theorem State.removeSending_arb (s : State) : (State.removeSending s).arb = s.arb :=
  (State.removeSending_frame s).2.2.2.2.2.2.2.2.2.2.2.2.1
@[simp] theorem State.removeSending_serial (s : State) : (State.removeSending s).serial = s.serial :=
  (State.removeSending_frame s).2.2.2.2.2.2.2.2.2.2.2.2.2.1
@[simp] theorem State.removeSending_free (s : State) : (State.removeSending s).free = s.free :=
  (State.removeSending_frame s).2.2.2.2.2.2.2.2.2.2.2.2.2.2.1
@[simp] theorem State.removeSending_pending (s : State) : (State.removeSending s).pending = s.pending :=
  (State.removeSending_frame s).2.2.2.2.2.2.2.2.2.2.2.2.2.2.2

/-- Fields that `returnSending` keeps. -/
theorem State.returnSending_frame (s : State) :
    (State.returnSending s).power = s.power ∧ (State.returnSending s).nv = s.nv ∧ (State.returnSending s).port = s.port ∧ (State.returnSending s).line = s.line ∧ (State.returnSending s).roster = s.roster ∧ (State.returnSending s).table = s.table ∧ (State.returnSending s).applyQ = s.applyQ ∧ (State.returnSending s).unsaved = s.unsaved ∧ (State.returnSending s).catchup = s.catchup ∧ (State.returnSending s).serving = s.serving ∧ (State.returnSending s).arb = s.arb ∧ (State.returnSending s).serial = s.serial ∧ (State.returnSending s).free = s.free ∧ (State.returnSending s).pending = s.pending := by
  unfold State.returnSending; (repeat' (first | split | dsimp only)) <;> simp
@[simp] theorem State.returnSending_power (s : State) : (State.returnSending s).power = s.power :=
  (State.returnSending_frame s).1
@[simp] theorem State.returnSending_nv (s : State) : (State.returnSending s).nv = s.nv :=
  (State.returnSending_frame s).2.1
@[simp] theorem State.returnSending_port (s : State) : (State.returnSending s).port = s.port :=
  (State.returnSending_frame s).2.2.1
@[simp] theorem State.returnSending_line (s : State) : (State.returnSending s).line = s.line :=
  (State.returnSending_frame s).2.2.2.1
@[simp] theorem State.returnSending_roster (s : State) : (State.returnSending s).roster = s.roster :=
  (State.returnSending_frame s).2.2.2.2.1
@[simp] theorem State.returnSending_table (s : State) : (State.returnSending s).table = s.table :=
  (State.returnSending_frame s).2.2.2.2.2.1
@[simp] theorem State.returnSending_applyQ (s : State) : (State.returnSending s).applyQ = s.applyQ :=
  (State.returnSending_frame s).2.2.2.2.2.2.1
@[simp] theorem State.returnSending_unsaved (s : State) : (State.returnSending s).unsaved = s.unsaved :=
  (State.returnSending_frame s).2.2.2.2.2.2.2.1
@[simp] theorem State.returnSending_catchup (s : State) : (State.returnSending s).catchup = s.catchup :=
  (State.returnSending_frame s).2.2.2.2.2.2.2.2.1
@[simp] theorem State.returnSending_serving (s : State) : (State.returnSending s).serving = s.serving :=
  (State.returnSending_frame s).2.2.2.2.2.2.2.2.2.1
@[simp] theorem State.returnSending_arb (s : State) : (State.returnSending s).arb = s.arb :=
  (State.returnSending_frame s).2.2.2.2.2.2.2.2.2.2.1
@[simp] theorem State.returnSending_serial (s : State) : (State.returnSending s).serial = s.serial :=
  (State.returnSending_frame s).2.2.2.2.2.2.2.2.2.2.2.1
@[simp] theorem State.returnSending_free (s : State) : (State.returnSending s).free = s.free :=
  (State.returnSending_frame s).2.2.2.2.2.2.2.2.2.2.2.2.1
@[simp] theorem State.returnSending_pending (s : State) : (State.returnSending s).pending = s.pending :=
  (State.returnSending_frame s).2.2.2.2.2.2.2.2.2.2.2.2.2

/-- Fields that `releaseHold` keeps. -/
theorem State.releaseHold_frame (s : State) :
    (State.releaseHold s).power = s.power ∧ (State.releaseHold s).nv = s.nv ∧ (State.releaseHold s).port = s.port ∧ (State.releaseHold s).events = s.events ∧ (State.releaseHold s).ctl = s.ctl ∧ (State.releaseHold s).line = s.line ∧ (State.releaseHold s).roster = s.roster ∧ (State.releaseHold s).table = s.table ∧ (State.releaseHold s).applyQ = s.applyQ ∧ (State.releaseHold s).unsaved = s.unsaved ∧ (State.releaseHold s).catchup = s.catchup ∧ (State.releaseHold s).serving = s.serving ∧ (State.releaseHold s).arb = s.arb ∧ (State.releaseHold s).serial = s.serial ∧ (State.releaseHold s).free = s.free ∧ (State.releaseHold s).pending = s.pending := by
  unfold State.releaseHold; (repeat' (first | split | dsimp only)) <;> simp
@[simp] theorem State.releaseHold_power (s : State) : (State.releaseHold s).power = s.power :=
  (State.releaseHold_frame s).1
@[simp] theorem State.releaseHold_nv (s : State) : (State.releaseHold s).nv = s.nv :=
  (State.releaseHold_frame s).2.1
@[simp] theorem State.releaseHold_port (s : State) : (State.releaseHold s).port = s.port :=
  (State.releaseHold_frame s).2.2.1
@[simp] theorem State.releaseHold_events (s : State) : (State.releaseHold s).events = s.events :=
  (State.releaseHold_frame s).2.2.2.1
@[simp] theorem State.releaseHold_ctl (s : State) : (State.releaseHold s).ctl = s.ctl :=
  (State.releaseHold_frame s).2.2.2.2.1
@[simp] theorem State.releaseHold_line (s : State) : (State.releaseHold s).line = s.line :=
  (State.releaseHold_frame s).2.2.2.2.2.1
@[simp] theorem State.releaseHold_roster (s : State) : (State.releaseHold s).roster = s.roster :=
  (State.releaseHold_frame s).2.2.2.2.2.2.1
@[simp] theorem State.releaseHold_table (s : State) : (State.releaseHold s).table = s.table :=
  (State.releaseHold_frame s).2.2.2.2.2.2.2.1
@[simp] theorem State.releaseHold_applyQ (s : State) : (State.releaseHold s).applyQ = s.applyQ :=
  (State.releaseHold_frame s).2.2.2.2.2.2.2.2.1
@[simp] theorem State.releaseHold_unsaved (s : State) : (State.releaseHold s).unsaved = s.unsaved :=
  (State.releaseHold_frame s).2.2.2.2.2.2.2.2.2.1
@[simp] theorem State.releaseHold_catchup (s : State) : (State.releaseHold s).catchup = s.catchup :=
  (State.releaseHold_frame s).2.2.2.2.2.2.2.2.2.2.1
@[simp] theorem State.releaseHold_serving (s : State) : (State.releaseHold s).serving = s.serving :=
  (State.releaseHold_frame s).2.2.2.2.2.2.2.2.2.2.2.1
@[simp] theorem State.releaseHold_arb (s : State) : (State.releaseHold s).arb = s.arb :=
  (State.releaseHold_frame s).2.2.2.2.2.2.2.2.2.2.2.2.1
@[simp] theorem State.releaseHold_serial (s : State) : (State.releaseHold s).serial = s.serial :=
  (State.releaseHold_frame s).2.2.2.2.2.2.2.2.2.2.2.2.2.1
@[simp] theorem State.releaseHold_free (s : State) : (State.releaseHold s).free = s.free :=
  (State.releaseHold_frame s).2.2.2.2.2.2.2.2.2.2.2.2.2.2.1
@[simp] theorem State.releaseHold_pending (s : State) : (State.releaseHold s).pending = s.pending :=
  (State.releaseHold_frame s).2.2.2.2.2.2.2.2.2.2.2.2.2.2.2

end Sys2Proof.Machine
end

