-- ==== Sys2Proof/Laws/ProtocolFrame.lean ====
section
/-! SUPPORT. What each operation of Machine/Protocol.lean leaves as it is, field by field. -/

namespace Sys2Proof.Machine

/-- Fields that `putServing` keeps. -/
theorem State.putServing_frame (s : State) (v : ServingRecord) :
    (State.putServing s v).power = s.power ∧ (State.putServing s v).nv = s.nv ∧ (State.putServing s v).port = s.port ∧ (State.putServing s v).events = s.events ∧ (State.putServing s v).ctl = s.ctl ∧ (State.putServing s v).line = s.line ∧ (State.putServing s v).roster = s.roster ∧ (State.putServing s v).table = s.table ∧ (State.putServing s v).out = s.out ∧ (State.putServing s v).applyQ = s.applyQ ∧ (State.putServing s v).unsaved = s.unsaved ∧ (State.putServing s v).catchup = s.catchup ∧ (State.putServing s v).arb = s.arb ∧ (State.putServing s v).serial = s.serial ∧ (State.putServing s v).free = s.free ∧ (State.putServing s v).pending = s.pending := by
  unfold State.putServing; (repeat' (first | split | dsimp only)) <;> simp
@[simp] theorem State.putServing_power (s : State) (v : ServingRecord) : (State.putServing s v).power = s.power :=
  (State.putServing_frame s v).1
@[simp] theorem State.putServing_nv (s : State) (v : ServingRecord) : (State.putServing s v).nv = s.nv :=
  (State.putServing_frame s v).2.1
@[simp] theorem State.putServing_port (s : State) (v : ServingRecord) : (State.putServing s v).port = s.port :=
  (State.putServing_frame s v).2.2.1
@[simp] theorem State.putServing_events (s : State) (v : ServingRecord) : (State.putServing s v).events = s.events :=
  (State.putServing_frame s v).2.2.2.1
@[simp] theorem State.putServing_ctl (s : State) (v : ServingRecord) : (State.putServing s v).ctl = s.ctl :=
  (State.putServing_frame s v).2.2.2.2.1
@[simp] theorem State.putServing_line (s : State) (v : ServingRecord) : (State.putServing s v).line = s.line :=
  (State.putServing_frame s v).2.2.2.2.2.1
@[simp] theorem State.putServing_roster (s : State) (v : ServingRecord) : (State.putServing s v).roster = s.roster :=
  (State.putServing_frame s v).2.2.2.2.2.2.1
@[simp] theorem State.putServing_table (s : State) (v : ServingRecord) : (State.putServing s v).table = s.table :=
  (State.putServing_frame s v).2.2.2.2.2.2.2.1
@[simp] theorem State.putServing_out (s : State) (v : ServingRecord) : (State.putServing s v).out = s.out :=
  (State.putServing_frame s v).2.2.2.2.2.2.2.2.1
@[simp] theorem State.putServing_applyQ (s : State) (v : ServingRecord) : (State.putServing s v).applyQ = s.applyQ :=
  (State.putServing_frame s v).2.2.2.2.2.2.2.2.2.1
@[simp] theorem State.putServing_unsaved (s : State) (v : ServingRecord) : (State.putServing s v).unsaved = s.unsaved :=
  (State.putServing_frame s v).2.2.2.2.2.2.2.2.2.2.1
@[simp] theorem State.putServing_catchup (s : State) (v : ServingRecord) : (State.putServing s v).catchup = s.catchup :=
  (State.putServing_frame s v).2.2.2.2.2.2.2.2.2.2.2.1
@[simp] theorem State.putServing_arb (s : State) (v : ServingRecord) : (State.putServing s v).arb = s.arb :=
  (State.putServing_frame s v).2.2.2.2.2.2.2.2.2.2.2.2.1
@[simp] theorem State.putServing_serial (s : State) (v : ServingRecord) : (State.putServing s v).serial = s.serial :=
  (State.putServing_frame s v).2.2.2.2.2.2.2.2.2.2.2.2.2.1
@[simp] theorem State.putServing_free (s : State) (v : ServingRecord) : (State.putServing s v).free = s.free :=
  (State.putServing_frame s v).2.2.2.2.2.2.2.2.2.2.2.2.2.2.1
@[simp] theorem State.putServing_pending (s : State) (v : ServingRecord) : (State.putServing s v).pending = s.pending :=
  (State.putServing_frame s v).2.2.2.2.2.2.2.2.2.2.2.2.2.2.2

/-- Fields that `dropRead` keeps. -/
theorem State.dropRead_frame (s : State) (r : Region) :
    (State.dropRead s r).power = s.power ∧ (State.dropRead s r).nv = s.nv ∧ (State.dropRead s r).port = s.port ∧ (State.dropRead s r).events = s.events ∧ (State.dropRead s r).ctl = s.ctl ∧ (State.dropRead s r).line = s.line ∧ (State.dropRead s r).roster = s.roster ∧ (State.dropRead s r).table = s.table ∧ (State.dropRead s r).out = s.out ∧ (State.dropRead s r).applyQ = s.applyQ ∧ (State.dropRead s r).unsaved = s.unsaved ∧ (State.dropRead s r).catchup = s.catchup ∧ (State.dropRead s r).serving = s.serving ∧ (State.dropRead s r).serial = s.serial ∧ (State.dropRead s r).free = s.free ∧ (State.dropRead s r).pending = s.pending := by
  unfold State.dropRead; (repeat' (first | split | dsimp only)) <;> simp
@[simp] theorem State.dropRead_power (s : State) (r : Region) : (State.dropRead s r).power = s.power :=
  (State.dropRead_frame s r).1
@[simp] theorem State.dropRead_nv (s : State) (r : Region) : (State.dropRead s r).nv = s.nv :=
  (State.dropRead_frame s r).2.1
@[simp] theorem State.dropRead_port (s : State) (r : Region) : (State.dropRead s r).port = s.port :=
  (State.dropRead_frame s r).2.2.1
@[simp] theorem State.dropRead_events (s : State) (r : Region) : (State.dropRead s r).events = s.events :=
  (State.dropRead_frame s r).2.2.2.1
@[simp] theorem State.dropRead_ctl (s : State) (r : Region) : (State.dropRead s r).ctl = s.ctl :=
  (State.dropRead_frame s r).2.2.2.2.1
@[simp] theorem State.dropRead_line (s : State) (r : Region) : (State.dropRead s r).line = s.line :=
  (State.dropRead_frame s r).2.2.2.2.2.1
@[simp] theorem State.dropRead_roster (s : State) (r : Region) : (State.dropRead s r).roster = s.roster :=
  (State.dropRead_frame s r).2.2.2.2.2.2.1
@[simp] theorem State.dropRead_table (s : State) (r : Region) : (State.dropRead s r).table = s.table :=
  (State.dropRead_frame s r).2.2.2.2.2.2.2.1
@[simp] theorem State.dropRead_out (s : State) (r : Region) : (State.dropRead s r).out = s.out :=
  (State.dropRead_frame s r).2.2.2.2.2.2.2.2.1
@[simp] theorem State.dropRead_applyQ (s : State) (r : Region) : (State.dropRead s r).applyQ = s.applyQ :=
  (State.dropRead_frame s r).2.2.2.2.2.2.2.2.2.1
@[simp] theorem State.dropRead_unsaved (s : State) (r : Region) : (State.dropRead s r).unsaved = s.unsaved :=
  (State.dropRead_frame s r).2.2.2.2.2.2.2.2.2.2.1
@[simp] theorem State.dropRead_catchup (s : State) (r : Region) : (State.dropRead s r).catchup = s.catchup :=
  (State.dropRead_frame s r).2.2.2.2.2.2.2.2.2.2.2.1
@[simp] theorem State.dropRead_serving (s : State) (r : Region) : (State.dropRead s r).serving = s.serving :=
  (State.dropRead_frame s r).2.2.2.2.2.2.2.2.2.2.2.2.1
@[simp] theorem State.dropRead_serial (s : State) (r : Region) : (State.dropRead s r).serial = s.serial :=
  (State.dropRead_frame s r).2.2.2.2.2.2.2.2.2.2.2.2.2.1
@[simp] theorem State.dropRead_free (s : State) (r : Region) : (State.dropRead s r).free = s.free :=
  (State.dropRead_frame s r).2.2.2.2.2.2.2.2.2.2.2.2.2.2.1
@[simp] theorem State.dropRead_pending (s : State) (r : Region) : (State.dropRead s r).pending = s.pending :=
  (State.dropRead_frame s r).2.2.2.2.2.2.2.2.2.2.2.2.2.2.2

/-- Fields that `dropServing` keeps. -/
theorem State.dropServing_frame (s : State) (r : Region) :
    (State.dropServing s r).power = s.power ∧ (State.dropServing s r).nv = s.nv ∧ (State.dropServing s r).port = s.port ∧ (State.dropServing s r).events = s.events ∧ (State.dropServing s r).ctl = s.ctl ∧ (State.dropServing s r).line = s.line ∧ (State.dropServing s r).roster = s.roster ∧ (State.dropServing s r).table = s.table ∧ (State.dropServing s r).out = s.out ∧ (State.dropServing s r).applyQ = s.applyQ ∧ (State.dropServing s r).unsaved = s.unsaved ∧ (State.dropServing s r).catchup = s.catchup ∧ (State.dropServing s r).arb = s.arb ∧ (State.dropServing s r).serial = s.serial ∧ (State.dropServing s r).free = s.free ∧ (State.dropServing s r).pending = s.pending := by
  unfold State.dropServing; (repeat' (first | split | dsimp only)) <;> simp
@[simp] theorem State.dropServing_power (s : State) (r : Region) : (State.dropServing s r).power = s.power :=
  (State.dropServing_frame s r).1
@[simp] theorem State.dropServing_nv (s : State) (r : Region) : (State.dropServing s r).nv = s.nv :=
  (State.dropServing_frame s r).2.1
@[simp] theorem State.dropServing_port (s : State) (r : Region) : (State.dropServing s r).port = s.port :=
  (State.dropServing_frame s r).2.2.1
@[simp] theorem State.dropServing_events (s : State) (r : Region) : (State.dropServing s r).events = s.events :=
  (State.dropServing_frame s r).2.2.2.1
@[simp] theorem State.dropServing_ctl (s : State) (r : Region) : (State.dropServing s r).ctl = s.ctl :=
  (State.dropServing_frame s r).2.2.2.2.1
@[simp] theorem State.dropServing_line (s : State) (r : Region) : (State.dropServing s r).line = s.line :=
  (State.dropServing_frame s r).2.2.2.2.2.1
@[simp] theorem State.dropServing_roster (s : State) (r : Region) : (State.dropServing s r).roster = s.roster :=
  (State.dropServing_frame s r).2.2.2.2.2.2.1
@[simp] theorem State.dropServing_table (s : State) (r : Region) : (State.dropServing s r).table = s.table :=
  (State.dropServing_frame s r).2.2.2.2.2.2.2.1
@[simp] theorem State.dropServing_out (s : State) (r : Region) : (State.dropServing s r).out = s.out :=
  (State.dropServing_frame s r).2.2.2.2.2.2.2.2.1
@[simp] theorem State.dropServing_applyQ (s : State) (r : Region) : (State.dropServing s r).applyQ = s.applyQ :=
  (State.dropServing_frame s r).2.2.2.2.2.2.2.2.2.1
@[simp] theorem State.dropServing_unsaved (s : State) (r : Region) : (State.dropServing s r).unsaved = s.unsaved :=
  (State.dropServing_frame s r).2.2.2.2.2.2.2.2.2.2.1
@[simp] theorem State.dropServing_catchup (s : State) (r : Region) : (State.dropServing s r).catchup = s.catchup :=
  (State.dropServing_frame s r).2.2.2.2.2.2.2.2.2.2.2.1
@[simp] theorem State.dropServing_arb (s : State) (r : Region) : (State.dropServing s r).arb = s.arb :=
  (State.dropServing_frame s r).2.2.2.2.2.2.2.2.2.2.2.2.1
@[simp] theorem State.dropServing_serial (s : State) (r : Region) : (State.dropServing s r).serial = s.serial :=
  (State.dropServing_frame s r).2.2.2.2.2.2.2.2.2.2.2.2.2.1
@[simp] theorem State.dropServing_free (s : State) (r : Region) : (State.dropServing s r).free = s.free :=
  (State.dropServing_frame s r).2.2.2.2.2.2.2.2.2.2.2.2.2.2.1
@[simp] theorem State.dropServing_pending (s : State) (r : Region) : (State.dropServing s r).pending = s.pending :=
  (State.dropServing_frame s r).2.2.2.2.2.2.2.2.2.2.2.2.2.2.2

/-- Fields that `endServing` keeps. -/
theorem State.endServing_frame (s : State) (r : Region) :
    (State.endServing s r).power = s.power ∧ (State.endServing s r).port = s.port ∧ (State.endServing s r).line = s.line ∧ (State.endServing s r).roster = s.roster ∧ (State.endServing s r).applyQ = s.applyQ ∧ (State.endServing s r).unsaved = s.unsaved ∧ (State.endServing s r).catchup = s.catchup ∧ (State.endServing s r).serial = s.serial ∧ (State.endServing s r).free = s.free ∧ (State.endServing s r).pending = s.pending := by
  unfold State.endServing; (repeat' (first | split | dsimp only)) <;> simp
@[simp] theorem State.endServing_power (s : State) (r : Region) : (State.endServing s r).power = s.power :=
  (State.endServing_frame s r).1
@[simp] theorem State.endServing_port (s : State) (r : Region) : (State.endServing s r).port = s.port :=
  (State.endServing_frame s r).2.1
@[simp] theorem State.endServing_line (s : State) (r : Region) : (State.endServing s r).line = s.line :=
  (State.endServing_frame s r).2.2.1
@[simp] theorem State.endServing_roster (s : State) (r : Region) : (State.endServing s r).roster = s.roster :=
  (State.endServing_frame s r).2.2.2.1
@[simp] theorem State.endServing_applyQ (s : State) (r : Region) : (State.endServing s r).applyQ = s.applyQ :=
  (State.endServing_frame s r).2.2.2.2.1
@[simp] theorem State.endServing_unsaved (s : State) (r : Region) : (State.endServing s r).unsaved = s.unsaved :=
  (State.endServing_frame s r).2.2.2.2.2.1
@[simp] theorem State.endServing_catchup (s : State) (r : Region) : (State.endServing s r).catchup = s.catchup :=
  (State.endServing_frame s r).2.2.2.2.2.2.1
@[simp] theorem State.endServing_serial (s : State) (r : Region) : (State.endServing s r).serial = s.serial :=
  (State.endServing_frame s r).2.2.2.2.2.2.2.1
@[simp] theorem State.endServing_free (s : State) (r : Region) : (State.endServing s r).free = s.free :=
  (State.endServing_frame s r).2.2.2.2.2.2.2.2.1
@[simp] theorem State.endServing_pending (s : State) (r : Region) : (State.endServing s r).pending = s.pending :=
  (State.endServing_frame s r).2.2.2.2.2.2.2.2.2

/-- Fields that `putTargets` keeps. -/
theorem State.putTargets_frame (s : State) (v : ServingRecord) (ts : List Target) :
    (State.putTargets s v ts).power = s.power ∧ (State.putTargets s v ts).port = s.port ∧ (State.putTargets s v ts).line = s.line ∧ (State.putTargets s v ts).roster = s.roster ∧ (State.putTargets s v ts).applyQ = s.applyQ ∧ (State.putTargets s v ts).unsaved = s.unsaved ∧ (State.putTargets s v ts).catchup = s.catchup ∧ (State.putTargets s v ts).serial = s.serial ∧ (State.putTargets s v ts).free = s.free ∧ (State.putTargets s v ts).pending = s.pending := by
  unfold State.putTargets; (repeat' (first | split | dsimp only)) <;> simp
@[simp] theorem State.putTargets_power (s : State) (v : ServingRecord) (ts : List Target) : (State.putTargets s v ts).power = s.power :=
  (State.putTargets_frame s v ts).1
@[simp] theorem State.putTargets_port (s : State) (v : ServingRecord) (ts : List Target) : (State.putTargets s v ts).port = s.port :=
  (State.putTargets_frame s v ts).2.1
@[simp] theorem State.putTargets_line (s : State) (v : ServingRecord) (ts : List Target) : (State.putTargets s v ts).line = s.line :=
  (State.putTargets_frame s v ts).2.2.1
@[simp] theorem State.putTargets_roster (s : State) (v : ServingRecord) (ts : List Target) : (State.putTargets s v ts).roster = s.roster :=
  (State.putTargets_frame s v ts).2.2.2.1
@[simp] theorem State.putTargets_applyQ (s : State) (v : ServingRecord) (ts : List Target) : (State.putTargets s v ts).applyQ = s.applyQ :=
  (State.putTargets_frame s v ts).2.2.2.2.1
@[simp] theorem State.putTargets_unsaved (s : State) (v : ServingRecord) (ts : List Target) : (State.putTargets s v ts).unsaved = s.unsaved :=
  (State.putTargets_frame s v ts).2.2.2.2.2.1
@[simp] theorem State.putTargets_catchup (s : State) (v : ServingRecord) (ts : List Target) : (State.putTargets s v ts).catchup = s.catchup :=
  (State.putTargets_frame s v ts).2.2.2.2.2.2.1
@[simp] theorem State.putTargets_serial (s : State) (v : ServingRecord) (ts : List Target) : (State.putTargets s v ts).serial = s.serial :=
  (State.putTargets_frame s v ts).2.2.2.2.2.2.2.1
@[simp] theorem State.putTargets_free (s : State) (v : ServingRecord) (ts : List Target) : (State.putTargets s v ts).free = s.free :=
  (State.putTargets_frame s v ts).2.2.2.2.2.2.2.2.1
@[simp] theorem State.putTargets_pending (s : State) (v : ServingRecord) (ts : List Target) : (State.putTargets s v ts).pending = s.pending :=
  (State.putTargets_frame s v ts).2.2.2.2.2.2.2.2.2

/-- Fields that `dropTarget` keeps. -/
theorem State.dropTarget_frame (s : State) (r : Region) (n : Station) :
    (State.dropTarget s r n).power = s.power ∧ (State.dropTarget s r n).port = s.port ∧ (State.dropTarget s r n).line = s.line ∧ (State.dropTarget s r n).roster = s.roster ∧ (State.dropTarget s r n).applyQ = s.applyQ ∧ (State.dropTarget s r n).unsaved = s.unsaved ∧ (State.dropTarget s r n).catchup = s.catchup ∧ (State.dropTarget s r n).serial = s.serial ∧ (State.dropTarget s r n).free = s.free ∧ (State.dropTarget s r n).pending = s.pending := by
  unfold State.dropTarget; (repeat' (first | split | dsimp only)) <;> simp
@[simp] theorem State.dropTarget_power (s : State) (r : Region) (n : Station) : (State.dropTarget s r n).power = s.power :=
  (State.dropTarget_frame s r n).1
@[simp] theorem State.dropTarget_port (s : State) (r : Region) (n : Station) : (State.dropTarget s r n).port = s.port :=
  (State.dropTarget_frame s r n).2.1
@[simp] theorem State.dropTarget_line (s : State) (r : Region) (n : Station) : (State.dropTarget s r n).line = s.line :=
  (State.dropTarget_frame s r n).2.2.1
@[simp] theorem State.dropTarget_roster (s : State) (r : Region) (n : Station) : (State.dropTarget s r n).roster = s.roster :=
  (State.dropTarget_frame s r n).2.2.2.1
@[simp] theorem State.dropTarget_applyQ (s : State) (r : Region) (n : Station) : (State.dropTarget s r n).applyQ = s.applyQ :=
  (State.dropTarget_frame s r n).2.2.2.2.1
@[simp] theorem State.dropTarget_unsaved (s : State) (r : Region) (n : Station) : (State.dropTarget s r n).unsaved = s.unsaved :=
  (State.dropTarget_frame s r n).2.2.2.2.2.1
@[simp] theorem State.dropTarget_catchup (s : State) (r : Region) (n : Station) : (State.dropTarget s r n).catchup = s.catchup :=
  (State.dropTarget_frame s r n).2.2.2.2.2.2.1
@[simp] theorem State.dropTarget_serial (s : State) (r : Region) (n : Station) : (State.dropTarget s r n).serial = s.serial :=
  (State.dropTarget_frame s r n).2.2.2.2.2.2.2.1
@[simp] theorem State.dropTarget_free (s : State) (r : Region) (n : Station) : (State.dropTarget s r n).free = s.free :=
  (State.dropTarget_frame s r n).2.2.2.2.2.2.2.2.1
@[simp] theorem State.dropTarget_pending (s : State) (r : Region) (n : Station) : (State.dropTarget s r n).pending = s.pending :=
  (State.dropTarget_frame s r n).2.2.2.2.2.2.2.2.2

/-- Fields that `dropTargets` keeps. -/
theorem State.dropTargets_frame (s : State) (n : Station) :
    (State.dropTargets s n).power = s.power ∧ (State.dropTargets s n).port = s.port ∧ (State.dropTargets s n).line = s.line ∧ (State.dropTargets s n).roster = s.roster ∧ (State.dropTargets s n).applyQ = s.applyQ ∧ (State.dropTargets s n).unsaved = s.unsaved ∧ (State.dropTargets s n).catchup = s.catchup ∧ (State.dropTargets s n).serial = s.serial ∧ (State.dropTargets s n).free = s.free ∧ (State.dropTargets s n).pending = s.pending := by
  unfold State.dropTargets
  refine ⟨?_, ?_, ?_, ?_, ?_, ?_, ?_, ?_, ?_, ?_⟩
  all_goals exact (foldl_keeps _ _ (fun t x => by simp) _ _).trans (by simp)
@[simp] theorem State.dropTargets_power (s : State) (n : Station) : (State.dropTargets s n).power = s.power :=
  (State.dropTargets_frame s n).1
@[simp] theorem State.dropTargets_port (s : State) (n : Station) : (State.dropTargets s n).port = s.port :=
  (State.dropTargets_frame s n).2.1
@[simp] theorem State.dropTargets_line (s : State) (n : Station) : (State.dropTargets s n).line = s.line :=
  (State.dropTargets_frame s n).2.2.1
@[simp] theorem State.dropTargets_roster (s : State) (n : Station) : (State.dropTargets s n).roster = s.roster :=
  (State.dropTargets_frame s n).2.2.2.1
@[simp] theorem State.dropTargets_applyQ (s : State) (n : Station) : (State.dropTargets s n).applyQ = s.applyQ :=
  (State.dropTargets_frame s n).2.2.2.2.1
@[simp] theorem State.dropTargets_unsaved (s : State) (n : Station) : (State.dropTargets s n).unsaved = s.unsaved :=
  (State.dropTargets_frame s n).2.2.2.2.2.1
@[simp] theorem State.dropTargets_catchup (s : State) (n : Station) : (State.dropTargets s n).catchup = s.catchup :=
  (State.dropTargets_frame s n).2.2.2.2.2.2.1
@[simp] theorem State.dropTargets_serial (s : State) (n : Station) : (State.dropTargets s n).serial = s.serial :=
  (State.dropTargets_frame s n).2.2.2.2.2.2.2.1
@[simp] theorem State.dropTargets_free (s : State) (n : Station) : (State.dropTargets s n).free = s.free :=
  (State.dropTargets_frame s n).2.2.2.2.2.2.2.2.1
@[simp] theorem State.dropTargets_pending (s : State) (n : Station) : (State.dropTargets s n).pending = s.pending :=
  (State.dropTargets_frame s n).2.2.2.2.2.2.2.2.2

/-- Fields that `endAllServing` keeps. -/
theorem State.endAllServing_frame (s : State) :
    (State.endAllServing s).power = s.power ∧ (State.endAllServing s).port = s.port ∧ (State.endAllServing s).line = s.line ∧ (State.endAllServing s).roster = s.roster ∧ (State.endAllServing s).applyQ = s.applyQ ∧ (State.endAllServing s).unsaved = s.unsaved ∧ (State.endAllServing s).catchup = s.catchup ∧ (State.endAllServing s).serial = s.serial ∧ (State.endAllServing s).free = s.free ∧ (State.endAllServing s).pending = s.pending := by
  unfold State.endAllServing
  refine ⟨?_, ?_, ?_, ?_, ?_, ?_, ?_, ?_, ?_, ?_⟩
  all_goals exact (foldl_keeps _ _ (fun t x => by simp) _ _).trans (by simp)
@[simp] theorem State.endAllServing_power (s : State) : (State.endAllServing s).power = s.power :=
  (State.endAllServing_frame s).1
@[simp] theorem State.endAllServing_port (s : State) : (State.endAllServing s).port = s.port :=
  (State.endAllServing_frame s).2.1
@[simp] theorem State.endAllServing_line (s : State) : (State.endAllServing s).line = s.line :=
  (State.endAllServing_frame s).2.2.1
@[simp] theorem State.endAllServing_roster (s : State) : (State.endAllServing s).roster = s.roster :=
  (State.endAllServing_frame s).2.2.2.1
@[simp] theorem State.endAllServing_applyQ (s : State) : (State.endAllServing s).applyQ = s.applyQ :=
  (State.endAllServing_frame s).2.2.2.2.1
@[simp] theorem State.endAllServing_unsaved (s : State) : (State.endAllServing s).unsaved = s.unsaved :=
  (State.endAllServing_frame s).2.2.2.2.2.1
@[simp] theorem State.endAllServing_catchup (s : State) : (State.endAllServing s).catchup = s.catchup :=
  (State.endAllServing_frame s).2.2.2.2.2.2.1
@[simp] theorem State.endAllServing_serial (s : State) : (State.endAllServing s).serial = s.serial :=
  (State.endAllServing_frame s).2.2.2.2.2.2.2.1
@[simp] theorem State.endAllServing_free (s : State) : (State.endAllServing s).free = s.free :=
  (State.endAllServing_frame s).2.2.2.2.2.2.2.2.1
@[simp] theorem State.endAllServing_pending (s : State) : (State.endAllServing s).pending = s.pending :=
  (State.endAllServing_frame s).2.2.2.2.2.2.2.2.2

/-- Fields that `requestRead` keeps. -/
theorem State.requestRead_frame (s : State) (r : Region) :
    (State.requestRead s r).power = s.power ∧ (State.requestRead s r).nv = s.nv ∧ (State.requestRead s r).port = s.port ∧ (State.requestRead s r).events = s.events ∧ (State.requestRead s r).ctl = s.ctl ∧ (State.requestRead s r).line = s.line ∧ (State.requestRead s r).roster = s.roster ∧ (State.requestRead s r).table = s.table ∧ (State.requestRead s r).out = s.out ∧ (State.requestRead s r).applyQ = s.applyQ ∧ (State.requestRead s r).unsaved = s.unsaved ∧ (State.requestRead s r).catchup = s.catchup ∧ (State.requestRead s r).arb = s.arb ∧ (State.requestRead s r).free = s.free ∧ (State.requestRead s r).pending = s.pending := by
  unfold State.requestRead; (repeat' (first | split | dsimp only)) <;> simp
@[simp] theorem State.requestRead_power (s : State) (r : Region) : (State.requestRead s r).power = s.power :=
  (State.requestRead_frame s r).1
@[simp] theorem State.requestRead_nv (s : State) (r : Region) : (State.requestRead s r).nv = s.nv :=
  (State.requestRead_frame s r).2.1
@[simp] theorem State.requestRead_port (s : State) (r : Region) : (State.requestRead s r).port = s.port :=
  (State.requestRead_frame s r).2.2.1
@[simp] theorem State.requestRead_events (s : State) (r : Region) : (State.requestRead s r).events = s.events :=
  (State.requestRead_frame s r).2.2.2.1
@[simp] theorem State.requestRead_ctl (s : State) (r : Region) : (State.requestRead s r).ctl = s.ctl :=
  (State.requestRead_frame s r).2.2.2.2.1
@[simp] theorem State.requestRead_line (s : State) (r : Region) : (State.requestRead s r).line = s.line :=
  (State.requestRead_frame s r).2.2.2.2.2.1
@[simp] theorem State.requestRead_roster (s : State) (r : Region) : (State.requestRead s r).roster = s.roster :=
  (State.requestRead_frame s r).2.2.2.2.2.2.1
@[simp] theorem State.requestRead_table (s : State) (r : Region) : (State.requestRead s r).table = s.table :=
  (State.requestRead_frame s r).2.2.2.2.2.2.2.1
@[simp] theorem State.requestRead_out (s : State) (r : Region) : (State.requestRead s r).out = s.out :=
  (State.requestRead_frame s r).2.2.2.2.2.2.2.2.1
@[simp] theorem State.requestRead_applyQ (s : State) (r : Region) : (State.requestRead s r).applyQ = s.applyQ :=
  (State.requestRead_frame s r).2.2.2.2.2.2.2.2.2.1
@[simp] theorem State.requestRead_unsaved (s : State) (r : Region) : (State.requestRead s r).unsaved = s.unsaved :=
  (State.requestRead_frame s r).2.2.2.2.2.2.2.2.2.2.1
@[simp] theorem State.requestRead_catchup (s : State) (r : Region) : (State.requestRead s r).catchup = s.catchup :=
  (State.requestRead_frame s r).2.2.2.2.2.2.2.2.2.2.2.1
@[simp] theorem State.requestRead_arb (s : State) (r : Region) : (State.requestRead s r).arb = s.arb :=
  (State.requestRead_frame s r).2.2.2.2.2.2.2.2.2.2.2.2.1
@[simp] theorem State.requestRead_free (s : State) (r : Region) : (State.requestRead s r).free = s.free :=
  (State.requestRead_frame s r).2.2.2.2.2.2.2.2.2.2.2.2.2.1
@[simp] theorem State.requestRead_pending (s : State) (r : Region) : (State.requestRead s r).pending = s.pending :=
  (State.requestRead_frame s r).2.2.2.2.2.2.2.2.2.2.2.2.2.2

/-- Fields that `requestReads` keeps. -/
theorem State.requestReads_frame (s : State) :
    (State.requestReads s).power = s.power ∧ (State.requestReads s).nv = s.nv ∧ (State.requestReads s).port = s.port ∧ (State.requestReads s).events = s.events ∧ (State.requestReads s).ctl = s.ctl ∧ (State.requestReads s).line = s.line ∧ (State.requestReads s).roster = s.roster ∧ (State.requestReads s).table = s.table ∧ (State.requestReads s).out = s.out ∧ (State.requestReads s).applyQ = s.applyQ ∧ (State.requestReads s).unsaved = s.unsaved ∧ (State.requestReads s).catchup = s.catchup ∧ (State.requestReads s).arb = s.arb ∧ (State.requestReads s).free = s.free ∧ (State.requestReads s).pending = s.pending := by
  unfold State.requestReads
  refine ⟨?_, ?_, ?_, ?_, ?_, ?_, ?_, ?_, ?_, ?_, ?_, ?_, ?_, ?_, ?_⟩
  all_goals exact (foldl_keeps _ _ (fun t x => by simp) _ _).trans (by simp)
@[simp] theorem State.requestReads_power (s : State) : (State.requestReads s).power = s.power :=
  (State.requestReads_frame s).1
@[simp] theorem State.requestReads_nv (s : State) : (State.requestReads s).nv = s.nv :=
  (State.requestReads_frame s).2.1
@[simp] theorem State.requestReads_port (s : State) : (State.requestReads s).port = s.port :=
  (State.requestReads_frame s).2.2.1
@[simp] theorem State.requestReads_events (s : State) : (State.requestReads s).events = s.events :=
  (State.requestReads_frame s).2.2.2.1
@[simp] theorem State.requestReads_ctl (s : State) : (State.requestReads s).ctl = s.ctl :=
  (State.requestReads_frame s).2.2.2.2.1
@[simp] theorem State.requestReads_line (s : State) : (State.requestReads s).line = s.line :=
  (State.requestReads_frame s).2.2.2.2.2.1
@[simp] theorem State.requestReads_roster (s : State) : (State.requestReads s).roster = s.roster :=
  (State.requestReads_frame s).2.2.2.2.2.2.1
@[simp] theorem State.requestReads_table (s : State) : (State.requestReads s).table = s.table :=
  (State.requestReads_frame s).2.2.2.2.2.2.2.1
@[simp] theorem State.requestReads_out (s : State) : (State.requestReads s).out = s.out :=
  (State.requestReads_frame s).2.2.2.2.2.2.2.2.1
@[simp] theorem State.requestReads_applyQ (s : State) : (State.requestReads s).applyQ = s.applyQ :=
  (State.requestReads_frame s).2.2.2.2.2.2.2.2.2.1
@[simp] theorem State.requestReads_unsaved (s : State) : (State.requestReads s).unsaved = s.unsaved :=
  (State.requestReads_frame s).2.2.2.2.2.2.2.2.2.2.1
@[simp] theorem State.requestReads_catchup (s : State) : (State.requestReads s).catchup = s.catchup :=
  (State.requestReads_frame s).2.2.2.2.2.2.2.2.2.2.2.1
@[simp] theorem State.requestReads_arb (s : State) : (State.requestReads s).arb = s.arb :=
  (State.requestReads_frame s).2.2.2.2.2.2.2.2.2.2.2.2.1
@[simp] theorem State.requestReads_free (s : State) : (State.requestReads s).free = s.free :=
  (State.requestReads_frame s).2.2.2.2.2.2.2.2.2.2.2.2.2.1
@[simp] theorem State.requestReads_pending (s : State) : (State.requestReads s).pending = s.pending :=
  (State.requestReads_frame s).2.2.2.2.2.2.2.2.2.2.2.2.2.2

/-- Fields that `serve` keeps. -/
theorem State.serve_frame (s : State) (r : Region) (q : Station) :
    (State.serve s r q).power = s.power ∧ (State.serve s r q).nv = s.nv ∧ (State.serve s r q).port = s.port ∧ (State.serve s r q).events = s.events ∧ (State.serve s r q).ctl = s.ctl ∧ (State.serve s r q).line = s.line ∧ (State.serve s r q).roster = s.roster ∧ (State.serve s r q).table = s.table ∧ (State.serve s r q).out = s.out ∧ (State.serve s r q).applyQ = s.applyQ ∧ (State.serve s r q).unsaved = s.unsaved ∧ (State.serve s r q).catchup = s.catchup ∧ (State.serve s r q).arb = s.arb ∧ (State.serve s r q).serial = s.serial ∧ (State.serve s r q).free = s.free ∧ (State.serve s r q).pending = s.pending := by
  unfold State.serve; (repeat' (first | split | dsimp only)) <;> simp
@[simp] theorem State.serve_power (s : State) (r : Region) (q : Station) : (State.serve s r q).power = s.power :=
  (State.serve_frame s r q).1
@[simp] theorem State.serve_nv (s : State) (r : Region) (q : Station) : (State.serve s r q).nv = s.nv :=
  (State.serve_frame s r q).2.1
@[simp] theorem State.serve_port (s : State) (r : Region) (q : Station) : (State.serve s r q).port = s.port :=
  (State.serve_frame s r q).2.2.1
@[simp] theorem State.serve_events (s : State) (r : Region) (q : Station) : (State.serve s r q).events = s.events :=
  (State.serve_frame s r q).2.2.2.1
@[simp] theorem State.serve_ctl (s : State) (r : Region) (q : Station) : (State.serve s r q).ctl = s.ctl :=
  (State.serve_frame s r q).2.2.2.2.1
@[simp] theorem State.serve_line (s : State) (r : Region) (q : Station) : (State.serve s r q).line = s.line :=
  (State.serve_frame s r q).2.2.2.2.2.1
@[simp] theorem State.serve_roster (s : State) (r : Region) (q : Station) : (State.serve s r q).roster = s.roster :=
  (State.serve_frame s r q).2.2.2.2.2.2.1
@[simp] theorem State.serve_table (s : State) (r : Region) (q : Station) : (State.serve s r q).table = s.table :=
  (State.serve_frame s r q).2.2.2.2.2.2.2.1
@[simp] theorem State.serve_out (s : State) (r : Region) (q : Station) : (State.serve s r q).out = s.out :=
  (State.serve_frame s r q).2.2.2.2.2.2.2.2.1
@[simp] theorem State.serve_applyQ (s : State) (r : Region) (q : Station) : (State.serve s r q).applyQ = s.applyQ :=
  (State.serve_frame s r q).2.2.2.2.2.2.2.2.2.1
@[simp] theorem State.serve_unsaved (s : State) (r : Region) (q : Station) : (State.serve s r q).unsaved = s.unsaved :=
  (State.serve_frame s r q).2.2.2.2.2.2.2.2.2.2.1
@[simp] theorem State.serve_catchup (s : State) (r : Region) (q : Station) : (State.serve s r q).catchup = s.catchup :=
  (State.serve_frame s r q).2.2.2.2.2.2.2.2.2.2.2.1
@[simp] theorem State.serve_arb (s : State) (r : Region) (q : Station) : (State.serve s r q).arb = s.arb :=
  (State.serve_frame s r q).2.2.2.2.2.2.2.2.2.2.2.2.1
@[simp] theorem State.serve_serial (s : State) (r : Region) (q : Station) : (State.serve s r q).serial = s.serial :=
  (State.serve_frame s r q).2.2.2.2.2.2.2.2.2.2.2.2.2.1
@[simp] theorem State.serve_free (s : State) (r : Region) (q : Station) : (State.serve s r q).free = s.free :=
  (State.serve_frame s r q).2.2.2.2.2.2.2.2.2.2.2.2.2.2.1
@[simp] theorem State.serve_pending (s : State) (r : Region) (q : Station) : (State.serve s r q).pending = s.pending :=
  (State.serve_frame s r q).2.2.2.2.2.2.2.2.2.2.2.2.2.2.2

/-- Fields that `restartServing` keeps. -/
theorem State.restartServing_frame (s : State) (r : Region) :
    (State.restartServing s r).power = s.power ∧ (State.restartServing s r).port = s.port ∧ (State.restartServing s r).line = s.line ∧ (State.restartServing s r).roster = s.roster ∧ (State.restartServing s r).applyQ = s.applyQ ∧ (State.restartServing s r).unsaved = s.unsaved ∧ (State.restartServing s r).catchup = s.catchup ∧ (State.restartServing s r).serial = s.serial ∧ (State.restartServing s r).free = s.free ∧ (State.restartServing s r).pending = s.pending := by
  unfold State.restartServing; (repeat' (first | split | dsimp only)) <;> simp
@[simp] theorem State.restartServing_power (s : State) (r : Region) : (State.restartServing s r).power = s.power :=
  (State.restartServing_frame s r).1
@[simp] theorem State.restartServing_port (s : State) (r : Region) : (State.restartServing s r).port = s.port :=
  (State.restartServing_frame s r).2.1
@[simp] theorem State.restartServing_line (s : State) (r : Region) : (State.restartServing s r).line = s.line :=
  (State.restartServing_frame s r).2.2.1
@[simp] theorem State.restartServing_roster (s : State) (r : Region) : (State.restartServing s r).roster = s.roster :=
  (State.restartServing_frame s r).2.2.2.1
@[simp] theorem State.restartServing_applyQ (s : State) (r : Region) : (State.restartServing s r).applyQ = s.applyQ :=
  (State.restartServing_frame s r).2.2.2.2.1
@[simp] theorem State.restartServing_unsaved (s : State) (r : Region) : (State.restartServing s r).unsaved = s.unsaved :=
  (State.restartServing_frame s r).2.2.2.2.2.1
@[simp] theorem State.restartServing_catchup (s : State) (r : Region) : (State.restartServing s r).catchup = s.catchup :=
  (State.restartServing_frame s r).2.2.2.2.2.2.1
@[simp] theorem State.restartServing_serial (s : State) (r : Region) : (State.restartServing s r).serial = s.serial :=
  (State.restartServing_frame s r).2.2.2.2.2.2.2.1
@[simp] theorem State.restartServing_free (s : State) (r : Region) : (State.restartServing s r).free = s.free :=
  (State.restartServing_frame s r).2.2.2.2.2.2.2.2.1
@[simp] theorem State.restartServing_pending (s : State) (r : Region) : (State.restartServing s r).pending = s.pending :=
  (State.restartServing_frame s r).2.2.2.2.2.2.2.2.2

/-- Fields that `abandonWrite` keeps. -/
theorem State.abandonWrite_frame (s : State) (r : Region) :
    (State.abandonWrite s r).power = s.power ∧ (State.abandonWrite s r).nv = s.nv ∧ (State.abandonWrite s r).events = s.events ∧ (State.abandonWrite s r).ctl = s.ctl ∧ (State.abandonWrite s r).line = s.line ∧ (State.abandonWrite s r).roster = s.roster ∧ (State.abandonWrite s r).table = s.table ∧ (State.abandonWrite s r).applyQ = s.applyQ ∧ (State.abandonWrite s r).unsaved = s.unsaved ∧ (State.abandonWrite s r).catchup = s.catchup ∧ (State.abandonWrite s r).serving = s.serving ∧ (State.abandonWrite s r).arb = s.arb ∧ (State.abandonWrite s r).serial = s.serial ∧ (State.abandonWrite s r).free = s.free ∧ (State.abandonWrite s r).pending = s.pending := by
  unfold State.abandonWrite; (repeat' (first | split | dsimp only)) <;> simp
@[simp] theorem State.abandonWrite_power (s : State) (r : Region) : (State.abandonWrite s r).power = s.power :=
  (State.abandonWrite_frame s r).1
@[simp] theorem State.abandonWrite_nv (s : State) (r : Region) : (State.abandonWrite s r).nv = s.nv :=
  (State.abandonWrite_frame s r).2.1
@[simp] theorem State.abandonWrite_events (s : State) (r : Region) : (State.abandonWrite s r).events = s.events :=
  (State.abandonWrite_frame s r).2.2.1
@[simp] theorem State.abandonWrite_ctl (s : State) (r : Region) : (State.abandonWrite s r).ctl = s.ctl :=
  (State.abandonWrite_frame s r).2.2.2.1
@[simp] theorem State.abandonWrite_line (s : State) (r : Region) : (State.abandonWrite s r).line = s.line :=
  (State.abandonWrite_frame s r).2.2.2.2.1
@[simp] theorem State.abandonWrite_roster (s : State) (r : Region) : (State.abandonWrite s r).roster = s.roster :=
  (State.abandonWrite_frame s r).2.2.2.2.2.1
@[simp] theorem State.abandonWrite_table (s : State) (r : Region) : (State.abandonWrite s r).table = s.table :=
  (State.abandonWrite_frame s r).2.2.2.2.2.2.1
@[simp] theorem State.abandonWrite_applyQ (s : State) (r : Region) : (State.abandonWrite s r).applyQ = s.applyQ :=
  (State.abandonWrite_frame s r).2.2.2.2.2.2.2.1
@[simp] theorem State.abandonWrite_unsaved (s : State) (r : Region) : (State.abandonWrite s r).unsaved = s.unsaved :=
  (State.abandonWrite_frame s r).2.2.2.2.2.2.2.2.1
@[simp] theorem State.abandonWrite_catchup (s : State) (r : Region) : (State.abandonWrite s r).catchup = s.catchup :=
  (State.abandonWrite_frame s r).2.2.2.2.2.2.2.2.2.1
@[simp] theorem State.abandonWrite_serving (s : State) (r : Region) : (State.abandonWrite s r).serving = s.serving :=
  (State.abandonWrite_frame s r).2.2.2.2.2.2.2.2.2.2.1
@[simp] theorem State.abandonWrite_arb (s : State) (r : Region) : (State.abandonWrite s r).arb = s.arb :=
  (State.abandonWrite_frame s r).2.2.2.2.2.2.2.2.2.2.2.1
@[simp] theorem State.abandonWrite_serial (s : State) (r : Region) : (State.abandonWrite s r).serial = s.serial :=
  (State.abandonWrite_frame s r).2.2.2.2.2.2.2.2.2.2.2.2.1
@[simp] theorem State.abandonWrite_free (s : State) (r : Region) : (State.abandonWrite s r).free = s.free :=
  (State.abandonWrite_frame s r).2.2.2.2.2.2.2.2.2.2.2.2.2.1
@[simp] theorem State.abandonWrite_pending (s : State) (r : Region) : (State.abandonWrite s r).pending = s.pending :=
  (State.abandonWrite_frame s r).2.2.2.2.2.2.2.2.2.2.2.2.2.2

/-- Fields that `setSweep` keeps. -/
theorem State.setSweep_frame (s : State) (w : Sweep) :
    (State.setSweep s w).power = s.power ∧ (State.setSweep s w).nv = s.nv ∧ (State.setSweep s w).port = s.port ∧ (State.setSweep s w).events = s.events ∧ (State.setSweep s w).ctl = s.ctl ∧ (State.setSweep s w).line = s.line ∧ (State.setSweep s w).roster = s.roster ∧ (State.setSweep s w).table = s.table ∧ (State.setSweep s w).applyQ = s.applyQ ∧ (State.setSweep s w).unsaved = s.unsaved ∧ (State.setSweep s w).catchup = s.catchup ∧ (State.setSweep s w).serving = s.serving ∧ (State.setSweep s w).arb = s.arb ∧ (State.setSweep s w).serial = s.serial ∧ (State.setSweep s w).free = s.free ∧ (State.setSweep s w).pending = s.pending := by
  unfold State.setSweep; (repeat' (first | split | dsimp only)) <;> simp
@[simp] theorem State.setSweep_power (s : State) (w : Sweep) : (State.setSweep s w).power = s.power :=
  (State.setSweep_frame s w).1
@[simp] theorem State.setSweep_nv (s : State) (w : Sweep) : (State.setSweep s w).nv = s.nv :=
  (State.setSweep_frame s w).2.1
@[simp] theorem State.setSweep_port (s : State) (w : Sweep) : (State.setSweep s w).port = s.port :=
  (State.setSweep_frame s w).2.2.1
@[simp] theorem State.setSweep_events (s : State) (w : Sweep) : (State.setSweep s w).events = s.events :=
  (State.setSweep_frame s w).2.2.2.1
@[simp] theorem State.setSweep_ctl (s : State) (w : Sweep) : (State.setSweep s w).ctl = s.ctl :=
  (State.setSweep_frame s w).2.2.2.2.1
@[simp] theorem State.setSweep_line (s : State) (w : Sweep) : (State.setSweep s w).line = s.line :=
  (State.setSweep_frame s w).2.2.2.2.2.1
@[simp] theorem State.setSweep_roster (s : State) (w : Sweep) : (State.setSweep s w).roster = s.roster :=
  (State.setSweep_frame s w).2.2.2.2.2.2.1
@[simp] theorem State.setSweep_table (s : State) (w : Sweep) : (State.setSweep s w).table = s.table :=
  (State.setSweep_frame s w).2.2.2.2.2.2.2.1
@[simp] theorem State.setSweep_applyQ (s : State) (w : Sweep) : (State.setSweep s w).applyQ = s.applyQ :=
  (State.setSweep_frame s w).2.2.2.2.2.2.2.2.1
@[simp] theorem State.setSweep_unsaved (s : State) (w : Sweep) : (State.setSweep s w).unsaved = s.unsaved :=
  (State.setSweep_frame s w).2.2.2.2.2.2.2.2.2.1
@[simp] theorem State.setSweep_catchup (s : State) (w : Sweep) : (State.setSweep s w).catchup = s.catchup :=
  (State.setSweep_frame s w).2.2.2.2.2.2.2.2.2.2.1
@[simp] theorem State.setSweep_serving (s : State) (w : Sweep) : (State.setSweep s w).serving = s.serving :=
  (State.setSweep_frame s w).2.2.2.2.2.2.2.2.2.2.2.1
@[simp] theorem State.setSweep_arb (s : State) (w : Sweep) : (State.setSweep s w).arb = s.arb :=
  (State.setSweep_frame s w).2.2.2.2.2.2.2.2.2.2.2.2.1
@[simp] theorem State.setSweep_serial (s : State) (w : Sweep) : (State.setSweep s w).serial = s.serial :=
  (State.setSweep_frame s w).2.2.2.2.2.2.2.2.2.2.2.2.2.1
@[simp] theorem State.setSweep_free (s : State) (w : Sweep) : (State.setSweep s w).free = s.free :=
  (State.setSweep_frame s w).2.2.2.2.2.2.2.2.2.2.2.2.2.2.1
@[simp] theorem State.setSweep_pending (s : State) (w : Sweep) : (State.setSweep s w).pending = s.pending :=
  (State.setSweep_frame s w).2.2.2.2.2.2.2.2.2.2.2.2.2.2.2

/-- Fields that `dropHeld` keeps. -/
theorem State.dropHeld_frame (s : State) (r : Region) :
    (State.dropHeld s r).power = s.power ∧ (State.dropHeld s r).port = s.port ∧ (State.dropHeld s r).events = s.events ∧ (State.dropHeld s r).ctl = s.ctl ∧ (State.dropHeld s r).line = s.line ∧ (State.dropHeld s r).roster = s.roster ∧ (State.dropHeld s r).out = s.out ∧ (State.dropHeld s r).applyQ = s.applyQ ∧ (State.dropHeld s r).unsaved = s.unsaved ∧ (State.dropHeld s r).catchup = s.catchup ∧ (State.dropHeld s r).serving = s.serving ∧ (State.dropHeld s r).arb = s.arb ∧ (State.dropHeld s r).serial = s.serial ∧ (State.dropHeld s r).free = s.free ∧ (State.dropHeld s r).pending = s.pending := by
  unfold State.dropHeld; (repeat' (first | split | dsimp only)) <;> simp
@[simp] theorem State.dropHeld_power (s : State) (r : Region) : (State.dropHeld s r).power = s.power :=
  (State.dropHeld_frame s r).1
@[simp] theorem State.dropHeld_port (s : State) (r : Region) : (State.dropHeld s r).port = s.port :=
  (State.dropHeld_frame s r).2.1
@[simp] theorem State.dropHeld_events (s : State) (r : Region) : (State.dropHeld s r).events = s.events :=
  (State.dropHeld_frame s r).2.2.1
@[simp] theorem State.dropHeld_ctl (s : State) (r : Region) : (State.dropHeld s r).ctl = s.ctl :=
  (State.dropHeld_frame s r).2.2.2.1
@[simp] theorem State.dropHeld_line (s : State) (r : Region) : (State.dropHeld s r).line = s.line :=
  (State.dropHeld_frame s r).2.2.2.2.1
@[simp] theorem State.dropHeld_roster (s : State) (r : Region) : (State.dropHeld s r).roster = s.roster :=
  (State.dropHeld_frame s r).2.2.2.2.2.1
@[simp] theorem State.dropHeld_out (s : State) (r : Region) : (State.dropHeld s r).out = s.out :=
  (State.dropHeld_frame s r).2.2.2.2.2.2.1
@[simp] theorem State.dropHeld_applyQ (s : State) (r : Region) : (State.dropHeld s r).applyQ = s.applyQ :=
  (State.dropHeld_frame s r).2.2.2.2.2.2.2.1
@[simp] theorem State.dropHeld_unsaved (s : State) (r : Region) : (State.dropHeld s r).unsaved = s.unsaved :=
  (State.dropHeld_frame s r).2.2.2.2.2.2.2.2.1
@[simp] theorem State.dropHeld_catchup (s : State) (r : Region) : (State.dropHeld s r).catchup = s.catchup :=
  (State.dropHeld_frame s r).2.2.2.2.2.2.2.2.2.1
@[simp] theorem State.dropHeld_serving (s : State) (r : Region) : (State.dropHeld s r).serving = s.serving :=
  (State.dropHeld_frame s r).2.2.2.2.2.2.2.2.2.2.1
@[simp] theorem State.dropHeld_arb (s : State) (r : Region) : (State.dropHeld s r).arb = s.arb :=
  (State.dropHeld_frame s r).2.2.2.2.2.2.2.2.2.2.2.1
@[simp] theorem State.dropHeld_serial (s : State) (r : Region) : (State.dropHeld s r).serial = s.serial :=
  (State.dropHeld_frame s r).2.2.2.2.2.2.2.2.2.2.2.2.1
@[simp] theorem State.dropHeld_free (s : State) (r : Region) : (State.dropHeld s r).free = s.free :=
  (State.dropHeld_frame s r).2.2.2.2.2.2.2.2.2.2.2.2.2.1
@[simp] theorem State.dropHeld_pending (s : State) (r : Region) : (State.dropHeld s r).pending = s.pending :=
  (State.dropHeld_frame s r).2.2.2.2.2.2.2.2.2.2.2.2.2.2

/-- Fields that `appendEntry` keeps. -/
theorem State.appendEntry_frame (s : State) (r : Region) (b : EntryBody) :
    (State.appendEntry s r b).power = s.power ∧ (State.appendEntry s r b).nv = s.nv ∧ (State.appendEntry s r b).port = s.port ∧ (State.appendEntry s r b).events = s.events ∧ (State.appendEntry s r b).ctl = s.ctl ∧ (State.appendEntry s r b).line = s.line ∧ (State.appendEntry s r b).roster = s.roster ∧ (State.appendEntry s r b).table = s.table ∧ (State.appendEntry s r b).applyQ = s.applyQ ∧ (State.appendEntry s r b).unsaved = s.unsaved ∧ (State.appendEntry s r b).catchup = s.catchup ∧ (State.appendEntry s r b).serving = s.serving ∧ (State.appendEntry s r b).arb = s.arb ∧ (State.appendEntry s r b).serial = s.serial ∧ (State.appendEntry s r b).free = s.free ∧ (State.appendEntry s r b).pending = s.pending := by
  unfold State.appendEntry; (repeat' (first | split | dsimp only)) <;> simp
@[simp] theorem State.appendEntry_power (s : State) (r : Region) (b : EntryBody) : (State.appendEntry s r b).power = s.power :=
  (State.appendEntry_frame s r b).1
@[simp] theorem State.appendEntry_nv (s : State) (r : Region) (b : EntryBody) : (State.appendEntry s r b).nv = s.nv :=
  (State.appendEntry_frame s r b).2.1
@[simp] theorem State.appendEntry_port (s : State) (r : Region) (b : EntryBody) : (State.appendEntry s r b).port = s.port :=
  (State.appendEntry_frame s r b).2.2.1
@[simp] theorem State.appendEntry_events (s : State) (r : Region) (b : EntryBody) : (State.appendEntry s r b).events = s.events :=
  (State.appendEntry_frame s r b).2.2.2.1
@[simp] theorem State.appendEntry_ctl (s : State) (r : Region) (b : EntryBody) : (State.appendEntry s r b).ctl = s.ctl :=
  (State.appendEntry_frame s r b).2.2.2.2.1
@[simp] theorem State.appendEntry_line (s : State) (r : Region) (b : EntryBody) : (State.appendEntry s r b).line = s.line :=
  (State.appendEntry_frame s r b).2.2.2.2.2.1
@[simp] theorem State.appendEntry_roster (s : State) (r : Region) (b : EntryBody) : (State.appendEntry s r b).roster = s.roster :=
  (State.appendEntry_frame s r b).2.2.2.2.2.2.1
@[simp] theorem State.appendEntry_table (s : State) (r : Region) (b : EntryBody) : (State.appendEntry s r b).table = s.table :=
  (State.appendEntry_frame s r b).2.2.2.2.2.2.2.1
@[simp] theorem State.appendEntry_applyQ (s : State) (r : Region) (b : EntryBody) : (State.appendEntry s r b).applyQ = s.applyQ :=
  (State.appendEntry_frame s r b).2.2.2.2.2.2.2.2.1
@[simp] theorem State.appendEntry_unsaved (s : State) (r : Region) (b : EntryBody) : (State.appendEntry s r b).unsaved = s.unsaved :=
  (State.appendEntry_frame s r b).2.2.2.2.2.2.2.2.2.1
@[simp] theorem State.appendEntry_catchup (s : State) (r : Region) (b : EntryBody) : (State.appendEntry s r b).catchup = s.catchup :=
  (State.appendEntry_frame s r b).2.2.2.2.2.2.2.2.2.2.1
@[simp] theorem State.appendEntry_serving (s : State) (r : Region) (b : EntryBody) : (State.appendEntry s r b).serving = s.serving :=
  (State.appendEntry_frame s r b).2.2.2.2.2.2.2.2.2.2.2.1
@[simp] theorem State.appendEntry_arb (s : State) (r : Region) (b : EntryBody) : (State.appendEntry s r b).arb = s.arb :=
  (State.appendEntry_frame s r b).2.2.2.2.2.2.2.2.2.2.2.2.1
@[simp] theorem State.appendEntry_serial (s : State) (r : Region) (b : EntryBody) : (State.appendEntry s r b).serial = s.serial :=
  (State.appendEntry_frame s r b).2.2.2.2.2.2.2.2.2.2.2.2.2.1
@[simp] theorem State.appendEntry_free (s : State) (r : Region) (b : EntryBody) : (State.appendEntry s r b).free = s.free :=
  (State.appendEntry_frame s r b).2.2.2.2.2.2.2.2.2.2.2.2.2.2.1
@[simp] theorem State.appendEntry_pending (s : State) (r : Region) (b : EntryBody) : (State.appendEntry s r b).pending = s.pending :=
  (State.appendEntry_frame s r b).2.2.2.2.2.2.2.2.2.2.2.2.2.2.2

/-- Fields that `sweepAct` keeps. -/
theorem State.sweepAct_frame (s : State) :
    (State.sweepAct s).1.power = s.power ∧ (State.sweepAct s).1.port = s.port ∧ (State.sweepAct s).1.ctl = s.ctl ∧ (State.sweepAct s).1.line = s.line ∧ (State.sweepAct s).1.roster = s.roster ∧ (State.sweepAct s).1.applyQ = s.applyQ ∧ (State.sweepAct s).1.unsaved = s.unsaved ∧ (State.sweepAct s).1.catchup = s.catchup ∧ (State.sweepAct s).1.serving = s.serving ∧ (State.sweepAct s).1.arb = s.arb ∧ (State.sweepAct s).1.serial = s.serial ∧ (State.sweepAct s).1.free = s.free ∧ (State.sweepAct s).1.pending = s.pending := by
  unfold State.sweepAct; (repeat' (first | split | dsimp only)) <;> simp
@[simp] theorem State.sweepAct_power (s : State) : (State.sweepAct s).1.power = s.power :=
  (State.sweepAct_frame s).1
@[simp] theorem State.sweepAct_port (s : State) : (State.sweepAct s).1.port = s.port :=
  (State.sweepAct_frame s).2.1
@[simp] theorem State.sweepAct_ctl (s : State) : (State.sweepAct s).1.ctl = s.ctl :=
  (State.sweepAct_frame s).2.2.1
@[simp] theorem State.sweepAct_line (s : State) : (State.sweepAct s).1.line = s.line :=
  (State.sweepAct_frame s).2.2.2.1
@[simp] theorem State.sweepAct_roster (s : State) : (State.sweepAct s).1.roster = s.roster :=
  (State.sweepAct_frame s).2.2.2.2.1
@[simp] theorem State.sweepAct_applyQ (s : State) : (State.sweepAct s).1.applyQ = s.applyQ :=
  (State.sweepAct_frame s).2.2.2.2.2.1
@[simp] theorem State.sweepAct_unsaved (s : State) : (State.sweepAct s).1.unsaved = s.unsaved :=
  (State.sweepAct_frame s).2.2.2.2.2.2.1
@[simp] theorem State.sweepAct_catchup (s : State) : (State.sweepAct s).1.catchup = s.catchup :=
  (State.sweepAct_frame s).2.2.2.2.2.2.2.1
@[simp] theorem State.sweepAct_serving (s : State) : (State.sweepAct s).1.serving = s.serving :=
  (State.sweepAct_frame s).2.2.2.2.2.2.2.2.1
@[simp] theorem State.sweepAct_arb (s : State) : (State.sweepAct s).1.arb = s.arb :=
  (State.sweepAct_frame s).2.2.2.2.2.2.2.2.2.1
@[simp] theorem State.sweepAct_serial (s : State) : (State.sweepAct s).1.serial = s.serial :=
  (State.sweepAct_frame s).2.2.2.2.2.2.2.2.2.2.1
@[simp] theorem State.sweepAct_free (s : State) : (State.sweepAct s).1.free = s.free :=
  (State.sweepAct_frame s).2.2.2.2.2.2.2.2.2.2.2.1
@[simp] theorem State.sweepAct_pending (s : State) : (State.sweepAct s).1.pending = s.pending :=
  (State.sweepAct_frame s).2.2.2.2.2.2.2.2.2.2.2.2

/-- Fields that `sweepFrom` keeps. -/
theorem State.sweepFrom_frame (n : Nat) (s : State) :
    (State.sweepFrom n s).power = s.power ∧ (State.sweepFrom n s).port = s.port ∧ (State.sweepFrom n s).ctl = s.ctl ∧ (State.sweepFrom n s).line = s.line ∧ (State.sweepFrom n s).roster = s.roster ∧ (State.sweepFrom n s).applyQ = s.applyQ ∧ (State.sweepFrom n s).unsaved = s.unsaved ∧ (State.sweepFrom n s).catchup = s.catchup ∧ (State.sweepFrom n s).serving = s.serving ∧ (State.sweepFrom n s).arb = s.arb ∧ (State.sweepFrom n s).serial = s.serial ∧ (State.sweepFrom n s).free = s.free ∧ (State.sweepFrom n s).pending = s.pending := by
  induction n generalizing s with
  | zero => simp [State.sweepFrom]
  | succ n ih => unfold State.sweepFrom; (repeat' split) <;> simp [ih]
@[simp] theorem State.sweepFrom_power (n : Nat) (s : State) : (State.sweepFrom n s).power = s.power :=
  (State.sweepFrom_frame n s).1
@[simp] theorem State.sweepFrom_port (n : Nat) (s : State) : (State.sweepFrom n s).port = s.port :=
  (State.sweepFrom_frame n s).2.1
@[simp] theorem State.sweepFrom_ctl (n : Nat) (s : State) : (State.sweepFrom n s).ctl = s.ctl :=
  (State.sweepFrom_frame n s).2.2.1
@[simp] theorem State.sweepFrom_line (n : Nat) (s : State) : (State.sweepFrom n s).line = s.line :=
  (State.sweepFrom_frame n s).2.2.2.1
@[simp] theorem State.sweepFrom_roster (n : Nat) (s : State) : (State.sweepFrom n s).roster = s.roster :=
  (State.sweepFrom_frame n s).2.2.2.2.1
@[simp] theorem State.sweepFrom_applyQ (n : Nat) (s : State) : (State.sweepFrom n s).applyQ = s.applyQ :=
  (State.sweepFrom_frame n s).2.2.2.2.2.1
@[simp] theorem State.sweepFrom_unsaved (n : Nat) (s : State) : (State.sweepFrom n s).unsaved = s.unsaved :=
  (State.sweepFrom_frame n s).2.2.2.2.2.2.1
@[simp] theorem State.sweepFrom_catchup (n : Nat) (s : State) : (State.sweepFrom n s).catchup = s.catchup :=
  (State.sweepFrom_frame n s).2.2.2.2.2.2.2.1
@[simp] theorem State.sweepFrom_serving (n : Nat) (s : State) : (State.sweepFrom n s).serving = s.serving :=
  (State.sweepFrom_frame n s).2.2.2.2.2.2.2.2.1
@[simp] theorem State.sweepFrom_arb (n : Nat) (s : State) : (State.sweepFrom n s).arb = s.arb :=
  (State.sweepFrom_frame n s).2.2.2.2.2.2.2.2.2.1
@[simp] theorem State.sweepFrom_serial (n : Nat) (s : State) : (State.sweepFrom n s).serial = s.serial :=
  (State.sweepFrom_frame n s).2.2.2.2.2.2.2.2.2.2.1
@[simp] theorem State.sweepFrom_free (n : Nat) (s : State) : (State.sweepFrom n s).free = s.free :=
  (State.sweepFrom_frame n s).2.2.2.2.2.2.2.2.2.2.2.1
@[simp] theorem State.sweepFrom_pending (n : Nat) (s : State) : (State.sweepFrom n s).pending = s.pending :=
  (State.sweepFrom_frame n s).2.2.2.2.2.2.2.2.2.2.2.2

/-- Fields that `sweepWalk` keeps. -/
theorem State.sweepWalk_frame (s : State) :
    (State.sweepWalk s).power = s.power ∧ (State.sweepWalk s).port = s.port ∧ (State.sweepWalk s).ctl = s.ctl ∧ (State.sweepWalk s).line = s.line ∧ (State.sweepWalk s).roster = s.roster ∧ (State.sweepWalk s).applyQ = s.applyQ ∧ (State.sweepWalk s).unsaved = s.unsaved ∧ (State.sweepWalk s).catchup = s.catchup ∧ (State.sweepWalk s).serving = s.serving ∧ (State.sweepWalk s).arb = s.arb ∧ (State.sweepWalk s).serial = s.serial ∧ (State.sweepWalk s).free = s.free ∧ (State.sweepWalk s).pending = s.pending := by
  unfold State.sweepWalk; (repeat' (first | split | dsimp only)) <;> simp
@[simp] theorem State.sweepWalk_power (s : State) : (State.sweepWalk s).power = s.power :=
  (State.sweepWalk_frame s).1
@[simp] theorem State.sweepWalk_port (s : State) : (State.sweepWalk s).port = s.port :=
  (State.sweepWalk_frame s).2.1
@[simp] theorem State.sweepWalk_ctl (s : State) : (State.sweepWalk s).ctl = s.ctl :=
  (State.sweepWalk_frame s).2.2.1
@[simp] theorem State.sweepWalk_line (s : State) : (State.sweepWalk s).line = s.line :=
  (State.sweepWalk_frame s).2.2.2.1
@[simp] theorem State.sweepWalk_roster (s : State) : (State.sweepWalk s).roster = s.roster :=
  (State.sweepWalk_frame s).2.2.2.2.1
@[simp] theorem State.sweepWalk_applyQ (s : State) : (State.sweepWalk s).applyQ = s.applyQ :=
  (State.sweepWalk_frame s).2.2.2.2.2.1
@[simp] theorem State.sweepWalk_unsaved (s : State) : (State.sweepWalk s).unsaved = s.unsaved :=
  (State.sweepWalk_frame s).2.2.2.2.2.2.1
@[simp] theorem State.sweepWalk_catchup (s : State) : (State.sweepWalk s).catchup = s.catchup :=
  (State.sweepWalk_frame s).2.2.2.2.2.2.2.1
@[simp] theorem State.sweepWalk_serving (s : State) : (State.sweepWalk s).serving = s.serving :=
  (State.sweepWalk_frame s).2.2.2.2.2.2.2.2.1
@[simp] theorem State.sweepWalk_arb (s : State) : (State.sweepWalk s).arb = s.arb :=
  (State.sweepWalk_frame s).2.2.2.2.2.2.2.2.2.1
@[simp] theorem State.sweepWalk_serial (s : State) : (State.sweepWalk s).serial = s.serial :=
  (State.sweepWalk_frame s).2.2.2.2.2.2.2.2.2.2.1
@[simp] theorem State.sweepWalk_free (s : State) : (State.sweepWalk s).free = s.free :=
  (State.sweepWalk_frame s).2.2.2.2.2.2.2.2.2.2.2.1
@[simp] theorem State.sweepWalk_pending (s : State) : (State.sweepWalk s).pending = s.pending :=
  (State.sweepWalk_frame s).2.2.2.2.2.2.2.2.2.2.2.2

/-- Fields that `listRegion` keeps. -/
theorem State.listRegion_frame (s : State) (r : Region) :
    (State.listRegion s r).power = s.power ∧ (State.listRegion s r).nv = s.nv ∧ (State.listRegion s r).port = s.port ∧ (State.listRegion s r).events = s.events ∧ (State.listRegion s r).ctl = s.ctl ∧ (State.listRegion s r).line = s.line ∧ (State.listRegion s r).roster = s.roster ∧ (State.listRegion s r).table = s.table ∧ (State.listRegion s r).out = s.out ∧ (State.listRegion s r).applyQ = s.applyQ ∧ (State.listRegion s r).unsaved = s.unsaved ∧ (State.listRegion s r).serving = s.serving ∧ (State.listRegion s r).arb = s.arb ∧ (State.listRegion s r).serial = s.serial ∧ (State.listRegion s r).free = s.free ∧ (State.listRegion s r).pending = s.pending := by
  unfold State.listRegion; (repeat' (first | split | dsimp only)) <;> simp
@[simp] theorem State.listRegion_power (s : State) (r : Region) : (State.listRegion s r).power = s.power :=
  (State.listRegion_frame s r).1
@[simp] theorem State.listRegion_nv (s : State) (r : Region) : (State.listRegion s r).nv = s.nv :=
  (State.listRegion_frame s r).2.1
@[simp] theorem State.listRegion_port (s : State) (r : Region) : (State.listRegion s r).port = s.port :=
  (State.listRegion_frame s r).2.2.1
@[simp] theorem State.listRegion_events (s : State) (r : Region) : (State.listRegion s r).events = s.events :=
  (State.listRegion_frame s r).2.2.2.1
@[simp] theorem State.listRegion_ctl (s : State) (r : Region) : (State.listRegion s r).ctl = s.ctl :=
  (State.listRegion_frame s r).2.2.2.2.1
@[simp] theorem State.listRegion_line (s : State) (r : Region) : (State.listRegion s r).line = s.line :=
  (State.listRegion_frame s r).2.2.2.2.2.1
@[simp] theorem State.listRegion_roster (s : State) (r : Region) : (State.listRegion s r).roster = s.roster :=
  (State.listRegion_frame s r).2.2.2.2.2.2.1
@[simp] theorem State.listRegion_table (s : State) (r : Region) : (State.listRegion s r).table = s.table :=
  (State.listRegion_frame s r).2.2.2.2.2.2.2.1
@[simp] theorem State.listRegion_out (s : State) (r : Region) : (State.listRegion s r).out = s.out :=
  (State.listRegion_frame s r).2.2.2.2.2.2.2.2.1
@[simp] theorem State.listRegion_applyQ (s : State) (r : Region) : (State.listRegion s r).applyQ = s.applyQ :=
  (State.listRegion_frame s r).2.2.2.2.2.2.2.2.2.1
@[simp] theorem State.listRegion_unsaved (s : State) (r : Region) : (State.listRegion s r).unsaved = s.unsaved :=
  (State.listRegion_frame s r).2.2.2.2.2.2.2.2.2.2.1
@[simp] theorem State.listRegion_serving (s : State) (r : Region) : (State.listRegion s r).serving = s.serving :=
  (State.listRegion_frame s r).2.2.2.2.2.2.2.2.2.2.2.1
@[simp] theorem State.listRegion_arb (s : State) (r : Region) : (State.listRegion s r).arb = s.arb :=
  (State.listRegion_frame s r).2.2.2.2.2.2.2.2.2.2.2.2.1
@[simp] theorem State.listRegion_serial (s : State) (r : Region) : (State.listRegion s r).serial = s.serial :=
  (State.listRegion_frame s r).2.2.2.2.2.2.2.2.2.2.2.2.2.1
@[simp] theorem State.listRegion_free (s : State) (r : Region) : (State.listRegion s r).free = s.free :=
  (State.listRegion_frame s r).2.2.2.2.2.2.2.2.2.2.2.2.2.2.1
@[simp] theorem State.listRegion_pending (s : State) (r : Region) : (State.listRegion s r).pending = s.pending :=
  (State.listRegion_frame s r).2.2.2.2.2.2.2.2.2.2.2.2.2.2.2

/-- Fields that `dropPull` keeps. -/
theorem State.dropPull_frame (s : State) (r : Region) :
    (State.dropPull s r).power = s.power ∧ (State.dropPull s r).nv = s.nv ∧ (State.dropPull s r).port = s.port ∧ (State.dropPull s r).events = s.events ∧ (State.dropPull s r).ctl = s.ctl ∧ (State.dropPull s r).line = s.line ∧ (State.dropPull s r).roster = s.roster ∧ (State.dropPull s r).table = s.table ∧ (State.dropPull s r).out = s.out ∧ (State.dropPull s r).applyQ = s.applyQ ∧ (State.dropPull s r).unsaved = s.unsaved ∧ (State.dropPull s r).serving = s.serving ∧ (State.dropPull s r).arb = s.arb ∧ (State.dropPull s r).serial = s.serial ∧ (State.dropPull s r).free = s.free ∧ (State.dropPull s r).pending = s.pending := by
  unfold State.dropPull; (repeat' (first | split | dsimp only)) <;> simp
@[simp] theorem State.dropPull_power (s : State) (r : Region) : (State.dropPull s r).power = s.power :=
  (State.dropPull_frame s r).1
@[simp] theorem State.dropPull_nv (s : State) (r : Region) : (State.dropPull s r).nv = s.nv :=
  (State.dropPull_frame s r).2.1
@[simp] theorem State.dropPull_port (s : State) (r : Region) : (State.dropPull s r).port = s.port :=
  (State.dropPull_frame s r).2.2.1
@[simp] theorem State.dropPull_events (s : State) (r : Region) : (State.dropPull s r).events = s.events :=
  (State.dropPull_frame s r).2.2.2.1
@[simp] theorem State.dropPull_ctl (s : State) (r : Region) : (State.dropPull s r).ctl = s.ctl :=
  (State.dropPull_frame s r).2.2.2.2.1
@[simp] theorem State.dropPull_line (s : State) (r : Region) : (State.dropPull s r).line = s.line :=
  (State.dropPull_frame s r).2.2.2.2.2.1
@[simp] theorem State.dropPull_roster (s : State) (r : Region) : (State.dropPull s r).roster = s.roster :=
  (State.dropPull_frame s r).2.2.2.2.2.2.1
@[simp] theorem State.dropPull_table (s : State) (r : Region) : (State.dropPull s r).table = s.table :=
  (State.dropPull_frame s r).2.2.2.2.2.2.2.1
@[simp] theorem State.dropPull_out (s : State) (r : Region) : (State.dropPull s r).out = s.out :=
  (State.dropPull_frame s r).2.2.2.2.2.2.2.2.1
@[simp] theorem State.dropPull_applyQ (s : State) (r : Region) : (State.dropPull s r).applyQ = s.applyQ :=
  (State.dropPull_frame s r).2.2.2.2.2.2.2.2.2.1
@[simp] theorem State.dropPull_unsaved (s : State) (r : Region) : (State.dropPull s r).unsaved = s.unsaved :=
  (State.dropPull_frame s r).2.2.2.2.2.2.2.2.2.2.1
@[simp] theorem State.dropPull_serving (s : State) (r : Region) : (State.dropPull s r).serving = s.serving :=
  (State.dropPull_frame s r).2.2.2.2.2.2.2.2.2.2.2.1
@[simp] theorem State.dropPull_arb (s : State) (r : Region) : (State.dropPull s r).arb = s.arb :=
  (State.dropPull_frame s r).2.2.2.2.2.2.2.2.2.2.2.2.1
@[simp] theorem State.dropPull_serial (s : State) (r : Region) : (State.dropPull s r).serial = s.serial :=
  (State.dropPull_frame s r).2.2.2.2.2.2.2.2.2.2.2.2.2.1
@[simp] theorem State.dropPull_free (s : State) (r : Region) : (State.dropPull s r).free = s.free :=
  (State.dropPull_frame s r).2.2.2.2.2.2.2.2.2.2.2.2.2.2.1
@[simp] theorem State.dropPull_pending (s : State) (r : Region) : (State.dropPull s r).pending = s.pending :=
  (State.dropPull_frame s r).2.2.2.2.2.2.2.2.2.2.2.2.2.2.2

/-- Fields that `postStale` keeps. -/
theorem State.postStale_frame (s : State) (r : Region) :
    (State.postStale s r).power = s.power ∧ (State.postStale s r).nv = s.nv ∧ (State.postStale s r).port = s.port ∧ (State.postStale s r).ctl = s.ctl ∧ (State.postStale s r).line = s.line ∧ (State.postStale s r).roster = s.roster ∧ (State.postStale s r).table = s.table ∧ (State.postStale s r).out = s.out ∧ (State.postStale s r).applyQ = s.applyQ ∧ (State.postStale s r).unsaved = s.unsaved ∧ (State.postStale s r).catchup = s.catchup ∧ (State.postStale s r).serving = s.serving ∧ (State.postStale s r).arb = s.arb ∧ (State.postStale s r).serial = s.serial ∧ (State.postStale s r).free = s.free ∧ (State.postStale s r).pending = s.pending := by
  unfold State.postStale; (repeat' (first | split | dsimp only)) <;> simp
@[simp] theorem State.postStale_power (s : State) (r : Region) : (State.postStale s r).power = s.power :=
  (State.postStale_frame s r).1
@[simp] theorem State.postStale_nv (s : State) (r : Region) : (State.postStale s r).nv = s.nv :=
  (State.postStale_frame s r).2.1
@[simp] theorem State.postStale_port (s : State) (r : Region) : (State.postStale s r).port = s.port :=
  (State.postStale_frame s r).2.2.1
@[simp] theorem State.postStale_ctl (s : State) (r : Region) : (State.postStale s r).ctl = s.ctl :=
  (State.postStale_frame s r).2.2.2.1
@[simp] theorem State.postStale_line (s : State) (r : Region) : (State.postStale s r).line = s.line :=
  (State.postStale_frame s r).2.2.2.2.1
@[simp] theorem State.postStale_roster (s : State) (r : Region) : (State.postStale s r).roster = s.roster :=
  (State.postStale_frame s r).2.2.2.2.2.1
@[simp] theorem State.postStale_table (s : State) (r : Region) : (State.postStale s r).table = s.table :=
  (State.postStale_frame s r).2.2.2.2.2.2.1
@[simp] theorem State.postStale_out (s : State) (r : Region) : (State.postStale s r).out = s.out :=
  (State.postStale_frame s r).2.2.2.2.2.2.2.1
@[simp] theorem State.postStale_applyQ (s : State) (r : Region) : (State.postStale s r).applyQ = s.applyQ :=
  (State.postStale_frame s r).2.2.2.2.2.2.2.2.1
@[simp] theorem State.postStale_unsaved (s : State) (r : Region) : (State.postStale s r).unsaved = s.unsaved :=
  (State.postStale_frame s r).2.2.2.2.2.2.2.2.2.1
@[simp] theorem State.postStale_catchup (s : State) (r : Region) : (State.postStale s r).catchup = s.catchup :=
  (State.postStale_frame s r).2.2.2.2.2.2.2.2.2.2.1
@[simp] theorem State.postStale_serving (s : State) (r : Region) : (State.postStale s r).serving = s.serving :=
  (State.postStale_frame s r).2.2.2.2.2.2.2.2.2.2.2.1
@[simp] theorem State.postStale_arb (s : State) (r : Region) : (State.postStale s r).arb = s.arb :=
  (State.postStale_frame s r).2.2.2.2.2.2.2.2.2.2.2.2.1
@[simp] theorem State.postStale_serial (s : State) (r : Region) : (State.postStale s r).serial = s.serial :=
  (State.postStale_frame s r).2.2.2.2.2.2.2.2.2.2.2.2.2.1
@[simp] theorem State.postStale_free (s : State) (r : Region) : (State.postStale s r).free = s.free :=
  (State.postStale_frame s r).2.2.2.2.2.2.2.2.2.2.2.2.2.2.1
@[simp] theorem State.postStale_pending (s : State) (r : Region) : (State.postStale s r).pending = s.pending :=
  (State.postStale_frame s r).2.2.2.2.2.2.2.2.2.2.2.2.2.2.2

/-- Fields that `parkRegion` keeps. -/
theorem State.parkRegion_frame (s : State) (r : Region) :
    (State.parkRegion s r).power = s.power ∧ (State.parkRegion s r).nv = s.nv ∧ (State.parkRegion s r).port = s.port ∧ (State.parkRegion s r).events = s.events ∧ (State.parkRegion s r).ctl = s.ctl ∧ (State.parkRegion s r).line = s.line ∧ (State.parkRegion s r).roster = s.roster ∧ (State.parkRegion s r).table = s.table ∧ (State.parkRegion s r).out = s.out ∧ (State.parkRegion s r).applyQ = s.applyQ ∧ (State.parkRegion s r).unsaved = s.unsaved ∧ (State.parkRegion s r).serving = s.serving ∧ (State.parkRegion s r).arb = s.arb ∧ (State.parkRegion s r).serial = s.serial ∧ (State.parkRegion s r).free = s.free ∧ (State.parkRegion s r).pending = s.pending := by
  unfold State.parkRegion; (repeat' (first | split | dsimp only)) <;> simp
@[simp] theorem State.parkRegion_power (s : State) (r : Region) : (State.parkRegion s r).power = s.power :=
  (State.parkRegion_frame s r).1
@[simp] theorem State.parkRegion_nv (s : State) (r : Region) : (State.parkRegion s r).nv = s.nv :=
  (State.parkRegion_frame s r).2.1
@[simp] theorem State.parkRegion_port (s : State) (r : Region) : (State.parkRegion s r).port = s.port :=
  (State.parkRegion_frame s r).2.2.1
@[simp] theorem State.parkRegion_events (s : State) (r : Region) : (State.parkRegion s r).events = s.events :=
  (State.parkRegion_frame s r).2.2.2.1
@[simp] theorem State.parkRegion_ctl (s : State) (r : Region) : (State.parkRegion s r).ctl = s.ctl :=
  (State.parkRegion_frame s r).2.2.2.2.1
@[simp] theorem State.parkRegion_line (s : State) (r : Region) : (State.parkRegion s r).line = s.line :=
  (State.parkRegion_frame s r).2.2.2.2.2.1
@[simp] theorem State.parkRegion_roster (s : State) (r : Region) : (State.parkRegion s r).roster = s.roster :=
  (State.parkRegion_frame s r).2.2.2.2.2.2.1
@[simp] theorem State.parkRegion_table (s : State) (r : Region) : (State.parkRegion s r).table = s.table :=
  (State.parkRegion_frame s r).2.2.2.2.2.2.2.1
@[simp] theorem State.parkRegion_out (s : State) (r : Region) : (State.parkRegion s r).out = s.out :=
  (State.parkRegion_frame s r).2.2.2.2.2.2.2.2.1
@[simp] theorem State.parkRegion_applyQ (s : State) (r : Region) : (State.parkRegion s r).applyQ = s.applyQ :=
  (State.parkRegion_frame s r).2.2.2.2.2.2.2.2.2.1
@[simp] theorem State.parkRegion_unsaved (s : State) (r : Region) : (State.parkRegion s r).unsaved = s.unsaved :=
  (State.parkRegion_frame s r).2.2.2.2.2.2.2.2.2.2.1
@[simp] theorem State.parkRegion_serving (s : State) (r : Region) : (State.parkRegion s r).serving = s.serving :=
  (State.parkRegion_frame s r).2.2.2.2.2.2.2.2.2.2.2.1
@[simp] theorem State.parkRegion_arb (s : State) (r : Region) : (State.parkRegion s r).arb = s.arb :=
  (State.parkRegion_frame s r).2.2.2.2.2.2.2.2.2.2.2.2.1
@[simp] theorem State.parkRegion_serial (s : State) (r : Region) : (State.parkRegion s r).serial = s.serial :=
  (State.parkRegion_frame s r).2.2.2.2.2.2.2.2.2.2.2.2.2.1
@[simp] theorem State.parkRegion_free (s : State) (r : Region) : (State.parkRegion s r).free = s.free :=
  (State.parkRegion_frame s r).2.2.2.2.2.2.2.2.2.2.2.2.2.2.1
@[simp] theorem State.parkRegion_pending (s : State) (r : Region) : (State.parkRegion s r).pending = s.pending :=
  (State.parkRegion_frame s r).2.2.2.2.2.2.2.2.2.2.2.2.2.2.2

/-- Fields that `afterClosure` keeps. -/
theorem State.afterClosure_frame (s : State) (r : Region) (park : Bool) :
    (State.afterClosure s r park).power = s.power ∧ (State.afterClosure s r park).nv = s.nv ∧ (State.afterClosure s r park).port = s.port ∧ (State.afterClosure s r park).ctl = s.ctl ∧ (State.afterClosure s r park).line = s.line ∧ (State.afterClosure s r park).roster = s.roster ∧ (State.afterClosure s r park).table = s.table ∧ (State.afterClosure s r park).out = s.out ∧ (State.afterClosure s r park).applyQ = s.applyQ ∧ (State.afterClosure s r park).unsaved = s.unsaved ∧ (State.afterClosure s r park).serving = s.serving ∧ (State.afterClosure s r park).arb = s.arb ∧ (State.afterClosure s r park).serial = s.serial ∧ (State.afterClosure s r park).free = s.free ∧ (State.afterClosure s r park).pending = s.pending := by
  unfold State.afterClosure; (repeat' (first | split | dsimp only)) <;> simp
@[simp] theorem State.afterClosure_power (s : State) (r : Region) (park : Bool) : (State.afterClosure s r park).power = s.power :=
  (State.afterClosure_frame s r park).1
@[simp] theorem State.afterClosure_nv (s : State) (r : Region) (park : Bool) : (State.afterClosure s r park).nv = s.nv :=
  (State.afterClosure_frame s r park).2.1
@[simp] theorem State.afterClosure_port (s : State) (r : Region) (park : Bool) : (State.afterClosure s r park).port = s.port :=
  (State.afterClosure_frame s r park).2.2.1
@[simp] theorem State.afterClosure_ctl (s : State) (r : Region) (park : Bool) : (State.afterClosure s r park).ctl = s.ctl :=
  (State.afterClosure_frame s r park).2.2.2.1
@[simp] theorem State.afterClosure_line (s : State) (r : Region) (park : Bool) : (State.afterClosure s r park).line = s.line :=
  (State.afterClosure_frame s r park).2.2.2.2.1
@[simp] theorem State.afterClosure_roster (s : State) (r : Region) (park : Bool) : (State.afterClosure s r park).roster = s.roster :=
  (State.afterClosure_frame s r park).2.2.2.2.2.1
@[simp] theorem State.afterClosure_table (s : State) (r : Region) (park : Bool) : (State.afterClosure s r park).table = s.table :=
  (State.afterClosure_frame s r park).2.2.2.2.2.2.1
@[simp] theorem State.afterClosure_out (s : State) (r : Region) (park : Bool) : (State.afterClosure s r park).out = s.out :=
  (State.afterClosure_frame s r park).2.2.2.2.2.2.2.1
@[simp] theorem State.afterClosure_applyQ (s : State) (r : Region) (park : Bool) : (State.afterClosure s r park).applyQ = s.applyQ :=
  (State.afterClosure_frame s r park).2.2.2.2.2.2.2.2.1
@[simp] theorem State.afterClosure_unsaved (s : State) (r : Region) (park : Bool) : (State.afterClosure s r park).unsaved = s.unsaved :=
  (State.afterClosure_frame s r park).2.2.2.2.2.2.2.2.2.1
@[simp] theorem State.afterClosure_serving (s : State) (r : Region) (park : Bool) : (State.afterClosure s r park).serving = s.serving :=
  (State.afterClosure_frame s r park).2.2.2.2.2.2.2.2.2.2.1
@[simp] theorem State.afterClosure_arb (s : State) (r : Region) (park : Bool) : (State.afterClosure s r park).arb = s.arb :=
  (State.afterClosure_frame s r park).2.2.2.2.2.2.2.2.2.2.2.1
@[simp] theorem State.afterClosure_serial (s : State) (r : Region) (park : Bool) : (State.afterClosure s r park).serial = s.serial :=
  (State.afterClosure_frame s r park).2.2.2.2.2.2.2.2.2.2.2.2.1
@[simp] theorem State.afterClosure_free (s : State) (r : Region) (park : Bool) : (State.afterClosure s r park).free = s.free :=
  (State.afterClosure_frame s r park).2.2.2.2.2.2.2.2.2.2.2.2.2.1
@[simp] theorem State.afterClosure_pending (s : State) (r : Region) (park : Bool) : (State.afterClosure s r park).pending = s.pending :=
  (State.afterClosure_frame s r park).2.2.2.2.2.2.2.2.2.2.2.2.2.2

/-- Fields that `closePull` keeps. -/
theorem State.closePull_frame (s : State) (r : Region) (park : Bool) :
    (State.closePull s r park).power = s.power ∧ (State.closePull s r park).port = s.port ∧ (State.closePull s r park).line = s.line ∧ (State.closePull s r park).roster = s.roster ∧ (State.closePull s r park).applyQ = s.applyQ ∧ (State.closePull s r park).unsaved = s.unsaved ∧ (State.closePull s r park).serving = s.serving ∧ (State.closePull s r park).arb = s.arb ∧ (State.closePull s r park).serial = s.serial ∧ (State.closePull s r park).free = s.free ∧ (State.closePull s r park).pending = s.pending := by
  unfold State.closePull; (repeat' (first | split | dsimp only)) <;> simp
@[simp] theorem State.closePull_power (s : State) (r : Region) (park : Bool) : (State.closePull s r park).power = s.power :=
  (State.closePull_frame s r park).1
@[simp] theorem State.closePull_port (s : State) (r : Region) (park : Bool) : (State.closePull s r park).port = s.port :=
  (State.closePull_frame s r park).2.1
@[simp] theorem State.closePull_line (s : State) (r : Region) (park : Bool) : (State.closePull s r park).line = s.line :=
  (State.closePull_frame s r park).2.2.1
@[simp] theorem State.closePull_roster (s : State) (r : Region) (park : Bool) : (State.closePull s r park).roster = s.roster :=
  (State.closePull_frame s r park).2.2.2.1
@[simp] theorem State.closePull_applyQ (s : State) (r : Region) (park : Bool) : (State.closePull s r park).applyQ = s.applyQ :=
  (State.closePull_frame s r park).2.2.2.2.1
@[simp] theorem State.closePull_unsaved (s : State) (r : Region) (park : Bool) : (State.closePull s r park).unsaved = s.unsaved :=
  (State.closePull_frame s r park).2.2.2.2.2.1
@[simp] theorem State.closePull_serving (s : State) (r : Region) (park : Bool) : (State.closePull s r park).serving = s.serving :=
  (State.closePull_frame s r park).2.2.2.2.2.2.1
@[simp] theorem State.closePull_arb (s : State) (r : Region) (park : Bool) : (State.closePull s r park).arb = s.arb :=
  (State.closePull_frame s r park).2.2.2.2.2.2.2.1
@[simp] theorem State.closePull_serial (s : State) (r : Region) (park : Bool) : (State.closePull s r park).serial = s.serial :=
  (State.closePull_frame s r park).2.2.2.2.2.2.2.2.1
@[simp] theorem State.closePull_free (s : State) (r : Region) (park : Bool) : (State.closePull s r park).free = s.free :=
  (State.closePull_frame s r park).2.2.2.2.2.2.2.2.2.1
@[simp] theorem State.closePull_pending (s : State) (r : Region) (park : Bool) : (State.closePull s r park).pending = s.pending :=
  (State.closePull_frame s r park).2.2.2.2.2.2.2.2.2.2

/-- Fields that `closeAllPulls` keeps. -/
theorem State.closeAllPulls_frame (s : State) :
    (State.closeAllPulls s).power = s.power ∧ (State.closeAllPulls s).port = s.port ∧ (State.closeAllPulls s).line = s.line ∧ (State.closeAllPulls s).roster = s.roster ∧ (State.closeAllPulls s).applyQ = s.applyQ ∧ (State.closeAllPulls s).unsaved = s.unsaved ∧ (State.closeAllPulls s).serving = s.serving ∧ (State.closeAllPulls s).arb = s.arb ∧ (State.closeAllPulls s).serial = s.serial ∧ (State.closeAllPulls s).free = s.free ∧ (State.closeAllPulls s).pending = s.pending := by
  unfold State.closeAllPulls
  refine ⟨?_, ?_, ?_, ?_, ?_, ?_, ?_, ?_, ?_, ?_, ?_⟩
  all_goals exact (foldl_keeps _ _ (fun t x => by simp) _ _).trans (by simp)
@[simp] theorem State.closeAllPulls_power (s : State) : (State.closeAllPulls s).power = s.power :=
  (State.closeAllPulls_frame s).1
@[simp] theorem State.closeAllPulls_port (s : State) : (State.closeAllPulls s).port = s.port :=
  (State.closeAllPulls_frame s).2.1
@[simp] theorem State.closeAllPulls_line (s : State) : (State.closeAllPulls s).line = s.line :=
  (State.closeAllPulls_frame s).2.2.1
@[simp] theorem State.closeAllPulls_roster (s : State) : (State.closeAllPulls s).roster = s.roster :=
  (State.closeAllPulls_frame s).2.2.2.1
@[simp] theorem State.closeAllPulls_applyQ (s : State) : (State.closeAllPulls s).applyQ = s.applyQ :=
  (State.closeAllPulls_frame s).2.2.2.2.1
@[simp] theorem State.closeAllPulls_unsaved (s : State) : (State.closeAllPulls s).unsaved = s.unsaved :=
  (State.closeAllPulls_frame s).2.2.2.2.2.1
@[simp] theorem State.closeAllPulls_serving (s : State) : (State.closeAllPulls s).serving = s.serving :=
  (State.closeAllPulls_frame s).2.2.2.2.2.2.1
@[simp] theorem State.closeAllPulls_arb (s : State) : (State.closeAllPulls s).arb = s.arb :=
  (State.closeAllPulls_frame s).2.2.2.2.2.2.2.1
@[simp] theorem State.closeAllPulls_serial (s : State) : (State.closeAllPulls s).serial = s.serial :=
  (State.closeAllPulls_frame s).2.2.2.2.2.2.2.2.1
@[simp] theorem State.closeAllPulls_free (s : State) : (State.closeAllPulls s).free = s.free :=
  (State.closeAllPulls_frame s).2.2.2.2.2.2.2.2.2.1
@[simp] theorem State.closeAllPulls_pending (s : State) : (State.closeAllPulls s).pending = s.pending :=
  (State.closeAllPulls_frame s).2.2.2.2.2.2.2.2.2.2

/-- Fields that `queuePull` keeps. -/
theorem State.queuePull_frame (s : State) (p : PullRecord) :
    (State.queuePull s p).power = s.power ∧ (State.queuePull s p).nv = s.nv ∧ (State.queuePull s p).port = s.port ∧ (State.queuePull s p).events = s.events ∧ (State.queuePull s p).ctl = s.ctl ∧ (State.queuePull s p).line = s.line ∧ (State.queuePull s p).roster = s.roster ∧ (State.queuePull s p).table = s.table ∧ (State.queuePull s p).applyQ = s.applyQ ∧ (State.queuePull s p).unsaved = s.unsaved ∧ (State.queuePull s p).serving = s.serving ∧ (State.queuePull s p).arb = s.arb ∧ (State.queuePull s p).serial = s.serial ∧ (State.queuePull s p).free = s.free ∧ (State.queuePull s p).pending = s.pending := by
  unfold State.queuePull; (repeat' (first | split | dsimp only)) <;> simp
@[simp] theorem State.queuePull_power (s : State) (p : PullRecord) : (State.queuePull s p).power = s.power :=
  (State.queuePull_frame s p).1
@[simp] theorem State.queuePull_nv (s : State) (p : PullRecord) : (State.queuePull s p).nv = s.nv :=
  (State.queuePull_frame s p).2.1
@[simp] theorem State.queuePull_port (s : State) (p : PullRecord) : (State.queuePull s p).port = s.port :=
  (State.queuePull_frame s p).2.2.1
@[simp] theorem State.queuePull_events (s : State) (p : PullRecord) : (State.queuePull s p).events = s.events :=
  (State.queuePull_frame s p).2.2.2.1
@[simp] theorem State.queuePull_ctl (s : State) (p : PullRecord) : (State.queuePull s p).ctl = s.ctl :=
  (State.queuePull_frame s p).2.2.2.2.1
@[simp] theorem State.queuePull_line (s : State) (p : PullRecord) : (State.queuePull s p).line = s.line :=
  (State.queuePull_frame s p).2.2.2.2.2.1
@[simp] theorem State.queuePull_roster (s : State) (p : PullRecord) : (State.queuePull s p).roster = s.roster :=
  (State.queuePull_frame s p).2.2.2.2.2.2.1
@[simp] theorem State.queuePull_table (s : State) (p : PullRecord) : (State.queuePull s p).table = s.table :=
  (State.queuePull_frame s p).2.2.2.2.2.2.2.1
@[simp] theorem State.queuePull_applyQ (s : State) (p : PullRecord) : (State.queuePull s p).applyQ = s.applyQ :=
  (State.queuePull_frame s p).2.2.2.2.2.2.2.2.1
@[simp] theorem State.queuePull_unsaved (s : State) (p : PullRecord) : (State.queuePull s p).unsaved = s.unsaved :=
  (State.queuePull_frame s p).2.2.2.2.2.2.2.2.2.1
@[simp] theorem State.queuePull_serving (s : State) (p : PullRecord) : (State.queuePull s p).serving = s.serving :=
  (State.queuePull_frame s p).2.2.2.2.2.2.2.2.2.2.1
@[simp] theorem State.queuePull_arb (s : State) (p : PullRecord) : (State.queuePull s p).arb = s.arb :=
  (State.queuePull_frame s p).2.2.2.2.2.2.2.2.2.2.2.1
@[simp] theorem State.queuePull_serial (s : State) (p : PullRecord) : (State.queuePull s p).serial = s.serial :=
  (State.queuePull_frame s p).2.2.2.2.2.2.2.2.2.2.2.2.1
@[simp] theorem State.queuePull_free (s : State) (p : PullRecord) : (State.queuePull s p).free = s.free :=
  (State.queuePull_frame s p).2.2.2.2.2.2.2.2.2.2.2.2.2.1
@[simp] theorem State.queuePull_pending (s : State) (p : PullRecord) : (State.queuePull s p).pending = s.pending :=
  (State.queuePull_frame s p).2.2.2.2.2.2.2.2.2.2.2.2.2.2

/-- Fields that `queuePulls` keeps. -/
theorem State.queuePulls_frame (s : State) :
    (State.queuePulls s).power = s.power ∧ (State.queuePulls s).nv = s.nv ∧ (State.queuePulls s).port = s.port ∧ (State.queuePulls s).events = s.events ∧ (State.queuePulls s).ctl = s.ctl ∧ (State.queuePulls s).line = s.line ∧ (State.queuePulls s).roster = s.roster ∧ (State.queuePulls s).table = s.table ∧ (State.queuePulls s).applyQ = s.applyQ ∧ (State.queuePulls s).unsaved = s.unsaved ∧ (State.queuePulls s).serving = s.serving ∧ (State.queuePulls s).arb = s.arb ∧ (State.queuePulls s).serial = s.serial ∧ (State.queuePulls s).free = s.free ∧ (State.queuePulls s).pending = s.pending := by
  unfold State.queuePulls
  refine ⟨?_, ?_, ?_, ?_, ?_, ?_, ?_, ?_, ?_, ?_, ?_, ?_, ?_, ?_, ?_⟩
  all_goals exact (foldl_keeps _ _ (fun t x => by simp) _ _).trans (by simp)
@[simp] theorem State.queuePulls_power (s : State) : (State.queuePulls s).power = s.power :=
  (State.queuePulls_frame s).1
@[simp] theorem State.queuePulls_nv (s : State) : (State.queuePulls s).nv = s.nv :=
  (State.queuePulls_frame s).2.1
@[simp] theorem State.queuePulls_port (s : State) : (State.queuePulls s).port = s.port :=
  (State.queuePulls_frame s).2.2.1
@[simp] theorem State.queuePulls_events (s : State) : (State.queuePulls s).events = s.events :=
  (State.queuePulls_frame s).2.2.2.1
@[simp] theorem State.queuePulls_ctl (s : State) : (State.queuePulls s).ctl = s.ctl :=
  (State.queuePulls_frame s).2.2.2.2.1
@[simp] theorem State.queuePulls_line (s : State) : (State.queuePulls s).line = s.line :=
  (State.queuePulls_frame s).2.2.2.2.2.1
@[simp] theorem State.queuePulls_roster (s : State) : (State.queuePulls s).roster = s.roster :=
  (State.queuePulls_frame s).2.2.2.2.2.2.1
@[simp] theorem State.queuePulls_table (s : State) : (State.queuePulls s).table = s.table :=
  (State.queuePulls_frame s).2.2.2.2.2.2.2.1
@[simp] theorem State.queuePulls_applyQ (s : State) : (State.queuePulls s).applyQ = s.applyQ :=
  (State.queuePulls_frame s).2.2.2.2.2.2.2.2.1
@[simp] theorem State.queuePulls_unsaved (s : State) : (State.queuePulls s).unsaved = s.unsaved :=
  (State.queuePulls_frame s).2.2.2.2.2.2.2.2.2.1
@[simp] theorem State.queuePulls_serving (s : State) : (State.queuePulls s).serving = s.serving :=
  (State.queuePulls_frame s).2.2.2.2.2.2.2.2.2.2.1
@[simp] theorem State.queuePulls_arb (s : State) : (State.queuePulls s).arb = s.arb :=
  (State.queuePulls_frame s).2.2.2.2.2.2.2.2.2.2.2.1
@[simp] theorem State.queuePulls_serial (s : State) : (State.queuePulls s).serial = s.serial :=
  (State.queuePulls_frame s).2.2.2.2.2.2.2.2.2.2.2.2.1
@[simp] theorem State.queuePulls_free (s : State) : (State.queuePulls s).free = s.free :=
  (State.queuePulls_frame s).2.2.2.2.2.2.2.2.2.2.2.2.2.1
@[simp] theorem State.queuePulls_pending (s : State) : (State.queuePulls s).pending = s.pending :=
  (State.queuePulls_frame s).2.2.2.2.2.2.2.2.2.2.2.2.2.2

/-- Fields that `addPull` keeps. -/
theorem State.addPull_frame (s : State) (r : Region) (n : Station) :
    (State.addPull s r n).power = s.power ∧ (State.addPull s r n).nv = s.nv ∧ (State.addPull s r n).port = s.port ∧ (State.addPull s r n).events = s.events ∧ (State.addPull s r n).ctl = s.ctl ∧ (State.addPull s r n).line = s.line ∧ (State.addPull s r n).roster = s.roster ∧ (State.addPull s r n).table = s.table ∧ (State.addPull s r n).out = s.out ∧ (State.addPull s r n).applyQ = s.applyQ ∧ (State.addPull s r n).unsaved = s.unsaved ∧ (State.addPull s r n).serving = s.serving ∧ (State.addPull s r n).arb = s.arb ∧ (State.addPull s r n).serial = s.serial ∧ (State.addPull s r n).free = s.free ∧ (State.addPull s r n).pending = s.pending := by
  unfold State.addPull; (repeat' (first | split | dsimp only)) <;> simp
@[simp] theorem State.addPull_power (s : State) (r : Region) (n : Station) : (State.addPull s r n).power = s.power :=
  (State.addPull_frame s r n).1
@[simp] theorem State.addPull_nv (s : State) (r : Region) (n : Station) : (State.addPull s r n).nv = s.nv :=
  (State.addPull_frame s r n).2.1
@[simp] theorem State.addPull_port (s : State) (r : Region) (n : Station) : (State.addPull s r n).port = s.port :=
  (State.addPull_frame s r n).2.2.1
@[simp] theorem State.addPull_events (s : State) (r : Region) (n : Station) : (State.addPull s r n).events = s.events :=
  (State.addPull_frame s r n).2.2.2.1
@[simp] theorem State.addPull_ctl (s : State) (r : Region) (n : Station) : (State.addPull s r n).ctl = s.ctl :=
  (State.addPull_frame s r n).2.2.2.2.1
@[simp] theorem State.addPull_line (s : State) (r : Region) (n : Station) : (State.addPull s r n).line = s.line :=
  (State.addPull_frame s r n).2.2.2.2.2.1
@[simp] theorem State.addPull_roster (s : State) (r : Region) (n : Station) : (State.addPull s r n).roster = s.roster :=
  (State.addPull_frame s r n).2.2.2.2.2.2.1
@[simp] theorem State.addPull_table (s : State) (r : Region) (n : Station) : (State.addPull s r n).table = s.table :=
  (State.addPull_frame s r n).2.2.2.2.2.2.2.1
@[simp] theorem State.addPull_out (s : State) (r : Region) (n : Station) : (State.addPull s r n).out = s.out :=
  (State.addPull_frame s r n).2.2.2.2.2.2.2.2.1
@[simp] theorem State.addPull_applyQ (s : State) (r : Region) (n : Station) : (State.addPull s r n).applyQ = s.applyQ :=
  (State.addPull_frame s r n).2.2.2.2.2.2.2.2.2.1
@[simp] theorem State.addPull_unsaved (s : State) (r : Region) (n : Station) : (State.addPull s r n).unsaved = s.unsaved :=
  (State.addPull_frame s r n).2.2.2.2.2.2.2.2.2.2.1
@[simp] theorem State.addPull_serving (s : State) (r : Region) (n : Station) : (State.addPull s r n).serving = s.serving :=
  (State.addPull_frame s r n).2.2.2.2.2.2.2.2.2.2.2.1
@[simp] theorem State.addPull_arb (s : State) (r : Region) (n : Station) : (State.addPull s r n).arb = s.arb :=
  (State.addPull_frame s r n).2.2.2.2.2.2.2.2.2.2.2.2.1
@[simp] theorem State.addPull_serial (s : State) (r : Region) (n : Station) : (State.addPull s r n).serial = s.serial :=
  (State.addPull_frame s r n).2.2.2.2.2.2.2.2.2.2.2.2.2.1
@[simp] theorem State.addPull_free (s : State) (r : Region) (n : Station) : (State.addPull s r n).free = s.free :=
  (State.addPull_frame s r n).2.2.2.2.2.2.2.2.2.2.2.2.2.2.1
@[simp] theorem State.addPull_pending (s : State) (r : Region) (n : Station) : (State.addPull s r n).pending = s.pending :=
  (State.addPull_frame s r n).2.2.2.2.2.2.2.2.2.2.2.2.2.2.2

/-- Fields that `openPull` keeps. -/
theorem State.openPull_frame (s : State) (r : Region) (n : Station) (kept : Cause) :
    (State.openPull s r n kept).power = s.power ∧ (State.openPull s r n kept).port = s.port ∧ (State.openPull s r n kept).events = s.events ∧ (State.openPull s r n kept).ctl = s.ctl ∧ (State.openPull s r n kept).line = s.line ∧ (State.openPull s r n kept).roster = s.roster ∧ (State.openPull s r n kept).applyQ = s.applyQ ∧ (State.openPull s r n kept).unsaved = s.unsaved ∧ (State.openPull s r n kept).serving = s.serving ∧ (State.openPull s r n kept).arb = s.arb ∧ (State.openPull s r n kept).free = s.free ∧ (State.openPull s r n kept).pending = s.pending := by
  unfold State.openPull; (repeat' (first | split | dsimp only)) <;> simp
@[simp] theorem State.openPull_power (s : State) (r : Region) (n : Station) (kept : Cause) : (State.openPull s r n kept).power = s.power :=
  (State.openPull_frame s r n kept).1
@[simp] theorem State.openPull_port (s : State) (r : Region) (n : Station) (kept : Cause) : (State.openPull s r n kept).port = s.port :=
  (State.openPull_frame s r n kept).2.1
@[simp] theorem State.openPull_events (s : State) (r : Region) (n : Station) (kept : Cause) : (State.openPull s r n kept).events = s.events :=
  (State.openPull_frame s r n kept).2.2.1
@[simp] theorem State.openPull_ctl (s : State) (r : Region) (n : Station) (kept : Cause) : (State.openPull s r n kept).ctl = s.ctl :=
  (State.openPull_frame s r n kept).2.2.2.1
@[simp] theorem State.openPull_line (s : State) (r : Region) (n : Station) (kept : Cause) : (State.openPull s r n kept).line = s.line :=
  (State.openPull_frame s r n kept).2.2.2.2.1
@[simp] theorem State.openPull_roster (s : State) (r : Region) (n : Station) (kept : Cause) : (State.openPull s r n kept).roster = s.roster :=
  (State.openPull_frame s r n kept).2.2.2.2.2.1
@[simp] theorem State.openPull_applyQ (s : State) (r : Region) (n : Station) (kept : Cause) : (State.openPull s r n kept).applyQ = s.applyQ :=
  (State.openPull_frame s r n kept).2.2.2.2.2.2.1
@[simp] theorem State.openPull_unsaved (s : State) (r : Region) (n : Station) (kept : Cause) : (State.openPull s r n kept).unsaved = s.unsaved :=
  (State.openPull_frame s r n kept).2.2.2.2.2.2.2.1
@[simp] theorem State.openPull_serving (s : State) (r : Region) (n : Station) (kept : Cause) : (State.openPull s r n kept).serving = s.serving :=
  (State.openPull_frame s r n kept).2.2.2.2.2.2.2.2.1
@[simp] theorem State.openPull_arb (s : State) (r : Region) (n : Station) (kept : Cause) : (State.openPull s r n kept).arb = s.arb :=
  (State.openPull_frame s r n kept).2.2.2.2.2.2.2.2.2.1
@[simp] theorem State.openPull_free (s : State) (r : Region) (n : Station) (kept : Cause) : (State.openPull s r n kept).free = s.free :=
  (State.openPull_frame s r n kept).2.2.2.2.2.2.2.2.2.2.1
@[simp] theorem State.openPull_pending (s : State) (r : Region) (n : Station) (kept : Cause) : (State.openPull s r n kept).pending = s.pending :=
  (State.openPull_frame s r n kept).2.2.2.2.2.2.2.2.2.2.2

/-- Fields that `openPullsFrom` keeps. -/
theorem State.openPullsFrom_frame (n : Nat) (s : State) :
    (State.openPullsFrom n s).power = s.power ∧ (State.openPullsFrom n s).port = s.port ∧ (State.openPullsFrom n s).events = s.events ∧ (State.openPullsFrom n s).ctl = s.ctl ∧ (State.openPullsFrom n s).line = s.line ∧ (State.openPullsFrom n s).roster = s.roster ∧ (State.openPullsFrom n s).applyQ = s.applyQ ∧ (State.openPullsFrom n s).unsaved = s.unsaved ∧ (State.openPullsFrom n s).serving = s.serving ∧ (State.openPullsFrom n s).arb = s.arb ∧ (State.openPullsFrom n s).free = s.free ∧ (State.openPullsFrom n s).pending = s.pending := by
  induction n generalizing s with
  | zero => simp [State.openPullsFrom]
  | succ n ih => unfold State.openPullsFrom; (repeat' split) <;> simp [ih]
@[simp] theorem State.openPullsFrom_power (n : Nat) (s : State) : (State.openPullsFrom n s).power = s.power :=
  (State.openPullsFrom_frame n s).1
@[simp] theorem State.openPullsFrom_port (n : Nat) (s : State) : (State.openPullsFrom n s).port = s.port :=
  (State.openPullsFrom_frame n s).2.1
@[simp] theorem State.openPullsFrom_events (n : Nat) (s : State) : (State.openPullsFrom n s).events = s.events :=
  (State.openPullsFrom_frame n s).2.2.1
@[simp] theorem State.openPullsFrom_ctl (n : Nat) (s : State) : (State.openPullsFrom n s).ctl = s.ctl :=
  (State.openPullsFrom_frame n s).2.2.2.1
@[simp] theorem State.openPullsFrom_line (n : Nat) (s : State) : (State.openPullsFrom n s).line = s.line :=
  (State.openPullsFrom_frame n s).2.2.2.2.1
@[simp] theorem State.openPullsFrom_roster (n : Nat) (s : State) : (State.openPullsFrom n s).roster = s.roster :=
  (State.openPullsFrom_frame n s).2.2.2.2.2.1
@[simp] theorem State.openPullsFrom_applyQ (n : Nat) (s : State) : (State.openPullsFrom n s).applyQ = s.applyQ :=
  (State.openPullsFrom_frame n s).2.2.2.2.2.2.1
@[simp] theorem State.openPullsFrom_unsaved (n : Nat) (s : State) : (State.openPullsFrom n s).unsaved = s.unsaved :=
  (State.openPullsFrom_frame n s).2.2.2.2.2.2.2.1
@[simp] theorem State.openPullsFrom_serving (n : Nat) (s : State) : (State.openPullsFrom n s).serving = s.serving :=
  (State.openPullsFrom_frame n s).2.2.2.2.2.2.2.2.1
@[simp] theorem State.openPullsFrom_arb (n : Nat) (s : State) : (State.openPullsFrom n s).arb = s.arb :=
  (State.openPullsFrom_frame n s).2.2.2.2.2.2.2.2.2.1
@[simp] theorem State.openPullsFrom_free (n : Nat) (s : State) : (State.openPullsFrom n s).free = s.free :=
  (State.openPullsFrom_frame n s).2.2.2.2.2.2.2.2.2.2.1
@[simp] theorem State.openPullsFrom_pending (n : Nat) (s : State) : (State.openPullsFrom n s).pending = s.pending :=
  (State.openPullsFrom_frame n s).2.2.2.2.2.2.2.2.2.2.2

/-- Fields that `openPulls` keeps. -/
theorem State.openPulls_frame (s : State) :
    (State.openPulls s).power = s.power ∧ (State.openPulls s).port = s.port ∧ (State.openPulls s).events = s.events ∧ (State.openPulls s).ctl = s.ctl ∧ (State.openPulls s).line = s.line ∧ (State.openPulls s).roster = s.roster ∧ (State.openPulls s).applyQ = s.applyQ ∧ (State.openPulls s).unsaved = s.unsaved ∧ (State.openPulls s).serving = s.serving ∧ (State.openPulls s).arb = s.arb ∧ (State.openPulls s).free = s.free ∧ (State.openPulls s).pending = s.pending := by
  unfold State.openPulls; (repeat' (first | split | dsimp only)) <;> simp
@[simp] theorem State.openPulls_power (s : State) : (State.openPulls s).power = s.power :=
  (State.openPulls_frame s).1
@[simp] theorem State.openPulls_port (s : State) : (State.openPulls s).port = s.port :=
  (State.openPulls_frame s).2.1
@[simp] theorem State.openPulls_events (s : State) : (State.openPulls s).events = s.events :=
  (State.openPulls_frame s).2.2.1
@[simp] theorem State.openPulls_ctl (s : State) : (State.openPulls s).ctl = s.ctl :=
  (State.openPulls_frame s).2.2.2.1
@[simp] theorem State.openPulls_line (s : State) : (State.openPulls s).line = s.line :=
  (State.openPulls_frame s).2.2.2.2.1
@[simp] theorem State.openPulls_roster (s : State) : (State.openPulls s).roster = s.roster :=
  (State.openPulls_frame s).2.2.2.2.2.1
@[simp] theorem State.openPulls_applyQ (s : State) : (State.openPulls s).applyQ = s.applyQ :=
  (State.openPulls_frame s).2.2.2.2.2.2.1
@[simp] theorem State.openPulls_unsaved (s : State) : (State.openPulls s).unsaved = s.unsaved :=
  (State.openPulls_frame s).2.2.2.2.2.2.2.1
@[simp] theorem State.openPulls_serving (s : State) : (State.openPulls s).serving = s.serving :=
  (State.openPulls_frame s).2.2.2.2.2.2.2.2.1
@[simp] theorem State.openPulls_arb (s : State) : (State.openPulls s).arb = s.arb :=
  (State.openPulls_frame s).2.2.2.2.2.2.2.2.2.1
@[simp] theorem State.openPulls_free (s : State) : (State.openPulls s).free = s.free :=
  (State.openPulls_frame s).2.2.2.2.2.2.2.2.2.2.1
@[simp] theorem State.openPulls_pending (s : State) : (State.openPulls s).pending = s.pending :=
  (State.openPulls_frame s).2.2.2.2.2.2.2.2.2.2.2

/-- Fields that `reportMark` keeps. -/
theorem State.reportMark_frame (s : State) (r : Region) (c : Cause) :
    (State.reportMark s r c).power = s.power ∧ (State.reportMark s r c).nv = s.nv ∧ (State.reportMark s r c).port = s.port ∧ (State.reportMark s r c).ctl = s.ctl ∧ (State.reportMark s r c).line = s.line ∧ (State.reportMark s r c).roster = s.roster ∧ (State.reportMark s r c).table = s.table ∧ (State.reportMark s r c).out = s.out ∧ (State.reportMark s r c).applyQ = s.applyQ ∧ (State.reportMark s r c).unsaved = s.unsaved ∧ (State.reportMark s r c).serving = s.serving ∧ (State.reportMark s r c).arb = s.arb ∧ (State.reportMark s r c).serial = s.serial ∧ (State.reportMark s r c).free = s.free ∧ (State.reportMark s r c).pending = s.pending := by
  unfold State.reportMark; (repeat' (first | split | dsimp only)) <;> simp
@[simp] theorem State.reportMark_power (s : State) (r : Region) (c : Cause) : (State.reportMark s r c).power = s.power :=
  (State.reportMark_frame s r c).1
@[simp] theorem State.reportMark_nv (s : State) (r : Region) (c : Cause) : (State.reportMark s r c).nv = s.nv :=
  (State.reportMark_frame s r c).2.1
@[simp] theorem State.reportMark_port (s : State) (r : Region) (c : Cause) : (State.reportMark s r c).port = s.port :=
  (State.reportMark_frame s r c).2.2.1
@[simp] theorem State.reportMark_ctl (s : State) (r : Region) (c : Cause) : (State.reportMark s r c).ctl = s.ctl :=
  (State.reportMark_frame s r c).2.2.2.1
@[simp] theorem State.reportMark_line (s : State) (r : Region) (c : Cause) : (State.reportMark s r c).line = s.line :=
  (State.reportMark_frame s r c).2.2.2.2.1
@[simp] theorem State.reportMark_roster (s : State) (r : Region) (c : Cause) : (State.reportMark s r c).roster = s.roster :=
  (State.reportMark_frame s r c).2.2.2.2.2.1
@[simp] theorem State.reportMark_table (s : State) (r : Region) (c : Cause) : (State.reportMark s r c).table = s.table :=
  (State.reportMark_frame s r c).2.2.2.2.2.2.1
@[simp] theorem State.reportMark_out (s : State) (r : Region) (c : Cause) : (State.reportMark s r c).out = s.out :=
  (State.reportMark_frame s r c).2.2.2.2.2.2.2.1
@[simp] theorem State.reportMark_applyQ (s : State) (r : Region) (c : Cause) : (State.reportMark s r c).applyQ = s.applyQ :=
  (State.reportMark_frame s r c).2.2.2.2.2.2.2.2.1
@[simp] theorem State.reportMark_unsaved (s : State) (r : Region) (c : Cause) : (State.reportMark s r c).unsaved = s.unsaved :=
  (State.reportMark_frame s r c).2.2.2.2.2.2.2.2.2.1
@[simp] theorem State.reportMark_serving (s : State) (r : Region) (c : Cause) : (State.reportMark s r c).serving = s.serving :=
  (State.reportMark_frame s r c).2.2.2.2.2.2.2.2.2.2.1
@[simp] theorem State.reportMark_arb (s : State) (r : Region) (c : Cause) : (State.reportMark s r c).arb = s.arb :=
  (State.reportMark_frame s r c).2.2.2.2.2.2.2.2.2.2.2.1
@[simp] theorem State.reportMark_serial (s : State) (r : Region) (c : Cause) : (State.reportMark s r c).serial = s.serial :=
  (State.reportMark_frame s r c).2.2.2.2.2.2.2.2.2.2.2.2.1
@[simp] theorem State.reportMark_free (s : State) (r : Region) (c : Cause) : (State.reportMark s r c).free = s.free :=
  (State.reportMark_frame s r c).2.2.2.2.2.2.2.2.2.2.2.2.2.1
@[simp] theorem State.reportMark_pending (s : State) (r : Region) (c : Cause) : (State.reportMark s r c).pending = s.pending :=
  (State.reportMark_frame s r c).2.2.2.2.2.2.2.2.2.2.2.2.2.2

/-- Fields that `unpark` keeps. -/
theorem State.unpark_frame (s : State) (r : Region) :
    (State.unpark s r).power = s.power ∧ (State.unpark s r).nv = s.nv ∧ (State.unpark s r).port = s.port ∧ (State.unpark s r).events = s.events ∧ (State.unpark s r).ctl = s.ctl ∧ (State.unpark s r).line = s.line ∧ (State.unpark s r).roster = s.roster ∧ (State.unpark s r).table = s.table ∧ (State.unpark s r).out = s.out ∧ (State.unpark s r).applyQ = s.applyQ ∧ (State.unpark s r).unsaved = s.unsaved ∧ (State.unpark s r).serving = s.serving ∧ (State.unpark s r).arb = s.arb ∧ (State.unpark s r).serial = s.serial ∧ (State.unpark s r).free = s.free ∧ (State.unpark s r).pending = s.pending := by
  unfold State.unpark; (repeat' (first | split | dsimp only)) <;> simp
@[simp] theorem State.unpark_power (s : State) (r : Region) : (State.unpark s r).power = s.power :=
  (State.unpark_frame s r).1
@[simp] theorem State.unpark_nv (s : State) (r : Region) : (State.unpark s r).nv = s.nv :=
  (State.unpark_frame s r).2.1
@[simp] theorem State.unpark_port (s : State) (r : Region) : (State.unpark s r).port = s.port :=
  (State.unpark_frame s r).2.2.1
@[simp] theorem State.unpark_events (s : State) (r : Region) : (State.unpark s r).events = s.events :=
  (State.unpark_frame s r).2.2.2.1
@[simp] theorem State.unpark_ctl (s : State) (r : Region) : (State.unpark s r).ctl = s.ctl :=
  (State.unpark_frame s r).2.2.2.2.1
@[simp] theorem State.unpark_line (s : State) (r : Region) : (State.unpark s r).line = s.line :=
  (State.unpark_frame s r).2.2.2.2.2.1
@[simp] theorem State.unpark_roster (s : State) (r : Region) : (State.unpark s r).roster = s.roster :=
  (State.unpark_frame s r).2.2.2.2.2.2.1
@[simp] theorem State.unpark_table (s : State) (r : Region) : (State.unpark s r).table = s.table :=
  (State.unpark_frame s r).2.2.2.2.2.2.2.1
@[simp] theorem State.unpark_out (s : State) (r : Region) : (State.unpark s r).out = s.out :=
  (State.unpark_frame s r).2.2.2.2.2.2.2.2.1
@[simp] theorem State.unpark_applyQ (s : State) (r : Region) : (State.unpark s r).applyQ = s.applyQ :=
  (State.unpark_frame s r).2.2.2.2.2.2.2.2.2.1
@[simp] theorem State.unpark_unsaved (s : State) (r : Region) : (State.unpark s r).unsaved = s.unsaved :=
  (State.unpark_frame s r).2.2.2.2.2.2.2.2.2.2.1
@[simp] theorem State.unpark_serving (s : State) (r : Region) : (State.unpark s r).serving = s.serving :=
  (State.unpark_frame s r).2.2.2.2.2.2.2.2.2.2.2.1
@[simp] theorem State.unpark_arb (s : State) (r : Region) : (State.unpark s r).arb = s.arb :=
  (State.unpark_frame s r).2.2.2.2.2.2.2.2.2.2.2.2.1
@[simp] theorem State.unpark_serial (s : State) (r : Region) : (State.unpark s r).serial = s.serial :=
  (State.unpark_frame s r).2.2.2.2.2.2.2.2.2.2.2.2.2.1
@[simp] theorem State.unpark_free (s : State) (r : Region) : (State.unpark s r).free = s.free :=
  (State.unpark_frame s r).2.2.2.2.2.2.2.2.2.2.2.2.2.2.1
@[simp] theorem State.unpark_pending (s : State) (r : Region) : (State.unpark s r).pending = s.pending :=
  (State.unpark_frame s r).2.2.2.2.2.2.2.2.2.2.2.2.2.2.2

/-- Fields that `markStale` keeps. -/
theorem State.markStale_frame (s : State) (r : Region) (c : Cause) :
    (State.markStale s r c).power = s.power ∧ (State.markStale s r c).port = s.port ∧ (State.markStale s r c).ctl = s.ctl ∧ (State.markStale s r c).line = s.line ∧ (State.markStale s r c).roster = s.roster ∧ (State.markStale s r c).out = s.out ∧ (State.markStale s r c).applyQ = s.applyQ ∧ (State.markStale s r c).unsaved = s.unsaved ∧ (State.markStale s r c).serving = s.serving ∧ (State.markStale s r c).arb = s.arb ∧ (State.markStale s r c).serial = s.serial ∧ (State.markStale s r c).free = s.free ∧ (State.markStale s r c).pending = s.pending := by
  unfold State.markStale; (repeat' (first | split | dsimp only)) <;> simp
@[simp] theorem State.markStale_power (s : State) (r : Region) (c : Cause) : (State.markStale s r c).power = s.power :=
  (State.markStale_frame s r c).1
@[simp] theorem State.markStale_port (s : State) (r : Region) (c : Cause) : (State.markStale s r c).port = s.port :=
  (State.markStale_frame s r c).2.1
@[simp] theorem State.markStale_ctl (s : State) (r : Region) (c : Cause) : (State.markStale s r c).ctl = s.ctl :=
  (State.markStale_frame s r c).2.2.1
@[simp] theorem State.markStale_line (s : State) (r : Region) (c : Cause) : (State.markStale s r c).line = s.line :=
  (State.markStale_frame s r c).2.2.2.1
@[simp] theorem State.markStale_roster (s : State) (r : Region) (c : Cause) : (State.markStale s r c).roster = s.roster :=
  (State.markStale_frame s r c).2.2.2.2.1
@[simp] theorem State.markStale_out (s : State) (r : Region) (c : Cause) : (State.markStale s r c).out = s.out :=
  (State.markStale_frame s r c).2.2.2.2.2.1
@[simp] theorem State.markStale_applyQ (s : State) (r : Region) (c : Cause) : (State.markStale s r c).applyQ = s.applyQ :=
  (State.markStale_frame s r c).2.2.2.2.2.2.1
@[simp] theorem State.markStale_unsaved (s : State) (r : Region) (c : Cause) : (State.markStale s r c).unsaved = s.unsaved :=
  (State.markStale_frame s r c).2.2.2.2.2.2.2.1
@[simp] theorem State.markStale_serving (s : State) (r : Region) (c : Cause) : (State.markStale s r c).serving = s.serving :=
  (State.markStale_frame s r c).2.2.2.2.2.2.2.2.1
@[simp] theorem State.markStale_arb (s : State) (r : Region) (c : Cause) : (State.markStale s r c).arb = s.arb :=
  (State.markStale_frame s r c).2.2.2.2.2.2.2.2.2.1
@[simp] theorem State.markStale_serial (s : State) (r : Region) (c : Cause) : (State.markStale s r c).serial = s.serial :=
  (State.markStale_frame s r c).2.2.2.2.2.2.2.2.2.2.1
@[simp] theorem State.markStale_free (s : State) (r : Region) (c : Cause) : (State.markStale s r c).free = s.free :=
  (State.markStale_frame s r c).2.2.2.2.2.2.2.2.2.2.2.1
@[simp] theorem State.markStale_pending (s : State) (r : Region) (c : Cause) : (State.markStale s r c).pending = s.pending :=
  (State.markStale_frame s r c).2.2.2.2.2.2.2.2.2.2.2.2

/-- Fields that `dropFront` keeps. -/
theorem State.dropFront_frame (s : State) (r : Region) :
    (State.dropFront s r).power = s.power ∧ (State.dropFront s r).nv = s.nv ∧ (State.dropFront s r).port = s.port ∧ (State.dropFront s r).events = s.events ∧ (State.dropFront s r).ctl = s.ctl ∧ (State.dropFront s r).line = s.line ∧ (State.dropFront s r).table = s.table ∧ (State.dropFront s r).out = s.out ∧ (State.dropFront s r).applyQ = s.applyQ ∧ (State.dropFront s r).unsaved = s.unsaved ∧ (State.dropFront s r).catchup = s.catchup ∧ (State.dropFront s r).serving = s.serving ∧ (State.dropFront s r).arb = s.arb ∧ (State.dropFront s r).serial = s.serial ∧ (State.dropFront s r).free = s.free ∧ (State.dropFront s r).pending = s.pending := by
  unfold State.dropFront; (repeat' (first | split | dsimp only)) <;> simp
@[simp] theorem State.dropFront_power (s : State) (r : Region) : (State.dropFront s r).power = s.power :=
  (State.dropFront_frame s r).1
@[simp] theorem State.dropFront_nv (s : State) (r : Region) : (State.dropFront s r).nv = s.nv :=
  (State.dropFront_frame s r).2.1
@[simp] theorem State.dropFront_port (s : State) (r : Region) : (State.dropFront s r).port = s.port :=
  (State.dropFront_frame s r).2.2.1
@[simp] theorem State.dropFront_events (s : State) (r : Region) : (State.dropFront s r).events = s.events :=
  (State.dropFront_frame s r).2.2.2.1
@[simp] theorem State.dropFront_ctl (s : State) (r : Region) : (State.dropFront s r).ctl = s.ctl :=
  (State.dropFront_frame s r).2.2.2.2.1
@[simp] theorem State.dropFront_line (s : State) (r : Region) : (State.dropFront s r).line = s.line :=
  (State.dropFront_frame s r).2.2.2.2.2.1
@[simp] theorem State.dropFront_table (s : State) (r : Region) : (State.dropFront s r).table = s.table :=
  (State.dropFront_frame s r).2.2.2.2.2.2.1
@[simp] theorem State.dropFront_out (s : State) (r : Region) : (State.dropFront s r).out = s.out :=
  (State.dropFront_frame s r).2.2.2.2.2.2.2.1
@[simp] theorem State.dropFront_applyQ (s : State) (r : Region) : (State.dropFront s r).applyQ = s.applyQ :=
  (State.dropFront_frame s r).2.2.2.2.2.2.2.2.1
@[simp] theorem State.dropFront_unsaved (s : State) (r : Region) : (State.dropFront s r).unsaved = s.unsaved :=
  (State.dropFront_frame s r).2.2.2.2.2.2.2.2.2.1
@[simp] theorem State.dropFront_catchup (s : State) (r : Region) : (State.dropFront s r).catchup = s.catchup :=
  (State.dropFront_frame s r).2.2.2.2.2.2.2.2.2.2.1
@[simp] theorem State.dropFront_serving (s : State) (r : Region) : (State.dropFront s r).serving = s.serving :=
  (State.dropFront_frame s r).2.2.2.2.2.2.2.2.2.2.2.1
@[simp] theorem State.dropFront_arb (s : State) (r : Region) : (State.dropFront s r).arb = s.arb :=
  (State.dropFront_frame s r).2.2.2.2.2.2.2.2.2.2.2.2.1
@[simp] theorem State.dropFront_serial (s : State) (r : Region) : (State.dropFront s r).serial = s.serial :=
  (State.dropFront_frame s r).2.2.2.2.2.2.2.2.2.2.2.2.2.1
@[simp] theorem State.dropFront_free (s : State) (r : Region) : (State.dropFront s r).free = s.free :=
  (State.dropFront_frame s r).2.2.2.2.2.2.2.2.2.2.2.2.2.2.1
@[simp] theorem State.dropFront_pending (s : State) (r : Region) : (State.dropFront s r).pending = s.pending :=
  (State.dropFront_frame s r).2.2.2.2.2.2.2.2.2.2.2.2.2.2.2

/-- Fields that `surrender` keeps. -/
theorem State.surrender_frame (s : State) (r : Region) :
    (State.surrender s r).power = s.power ∧ (State.surrender s r).line = s.line ∧ (State.surrender s r).applyQ = s.applyQ ∧ (State.surrender s r).unsaved = s.unsaved ∧ (State.surrender s r).catchup = s.catchup ∧ (State.surrender s r).serial = s.serial ∧ (State.surrender s r).free = s.free ∧ (State.surrender s r).pending = s.pending := by
  unfold State.surrender; (repeat' (first | split | dsimp only)) <;> simp
@[simp] theorem State.surrender_power (s : State) (r : Region) : (State.surrender s r).power = s.power :=
  (State.surrender_frame s r).1
@[simp] theorem State.surrender_line (s : State) (r : Region) : (State.surrender s r).line = s.line :=
  (State.surrender_frame s r).2.1
@[simp] theorem State.surrender_applyQ (s : State) (r : Region) : (State.surrender s r).applyQ = s.applyQ :=
  (State.surrender_frame s r).2.2.1
@[simp] theorem State.surrender_unsaved (s : State) (r : Region) : (State.surrender s r).unsaved = s.unsaved :=
  (State.surrender_frame s r).2.2.2.1
@[simp] theorem State.surrender_catchup (s : State) (r : Region) : (State.surrender s r).catchup = s.catchup :=
  (State.surrender_frame s r).2.2.2.2.1
@[simp] theorem State.surrender_serial (s : State) (r : Region) : (State.surrender s r).serial = s.serial :=
  (State.surrender_frame s r).2.2.2.2.2.1
@[simp] theorem State.surrender_free (s : State) (r : Region) : (State.surrender s r).free = s.free :=
  (State.surrender_frame s r).2.2.2.2.2.2.1
@[simp] theorem State.surrender_pending (s : State) (r : Region) : (State.surrender s r).pending = s.pending :=
  (State.surrender_frame s r).2.2.2.2.2.2.2

/-- Fields that `assume` keeps. -/
theorem State.assume_frame (s : State) (r : Region) :
    (State.assume s r).power = s.power ∧ (State.assume s r).port = s.port ∧ (State.assume s r).events = s.events ∧ (State.assume s r).ctl = s.ctl ∧ (State.assume s r).line = s.line ∧ (State.assume s r).roster = s.roster ∧ (State.assume s r).out = s.out ∧ (State.assume s r).applyQ = s.applyQ ∧ (State.assume s r).unsaved = s.unsaved ∧ (State.assume s r).catchup = s.catchup ∧ (State.assume s r).serving = s.serving ∧ (State.assume s r).arb = s.arb ∧ (State.assume s r).serial = s.serial ∧ (State.assume s r).free = s.free ∧ (State.assume s r).pending = s.pending := by
  unfold State.assume; (repeat' (first | split | dsimp only)) <;> simp
@[simp] theorem State.assume_power (s : State) (r : Region) : (State.assume s r).power = s.power :=
  (State.assume_frame s r).1
@[simp] theorem State.assume_port (s : State) (r : Region) : (State.assume s r).port = s.port :=
  (State.assume_frame s r).2.1
@[simp] theorem State.assume_events (s : State) (r : Region) : (State.assume s r).events = s.events :=
  (State.assume_frame s r).2.2.1
@[simp] theorem State.assume_ctl (s : State) (r : Region) : (State.assume s r).ctl = s.ctl :=
  (State.assume_frame s r).2.2.2.1
@[simp] theorem State.assume_line (s : State) (r : Region) : (State.assume s r).line = s.line :=
  (State.assume_frame s r).2.2.2.2.1
@[simp] theorem State.assume_roster (s : State) (r : Region) : (State.assume s r).roster = s.roster :=
  (State.assume_frame s r).2.2.2.2.2.1
@[simp] theorem State.assume_out (s : State) (r : Region) : (State.assume s r).out = s.out :=
  (State.assume_frame s r).2.2.2.2.2.2.1
@[simp] theorem State.assume_applyQ (s : State) (r : Region) : (State.assume s r).applyQ = s.applyQ :=
  (State.assume_frame s r).2.2.2.2.2.2.2.1
@[simp] theorem State.assume_unsaved (s : State) (r : Region) : (State.assume s r).unsaved = s.unsaved :=
  (State.assume_frame s r).2.2.2.2.2.2.2.2.1
@[simp] theorem State.assume_catchup (s : State) (r : Region) : (State.assume s r).catchup = s.catchup :=
  (State.assume_frame s r).2.2.2.2.2.2.2.2.2.1
@[simp] theorem State.assume_serving (s : State) (r : Region) : (State.assume s r).serving = s.serving :=
  (State.assume_frame s r).2.2.2.2.2.2.2.2.2.2.1
@[simp] theorem State.assume_arb (s : State) (r : Region) : (State.assume s r).arb = s.arb :=
  (State.assume_frame s r).2.2.2.2.2.2.2.2.2.2.2.1
@[simp] theorem State.assume_serial (s : State) (r : Region) : (State.assume s r).serial = s.serial :=
  (State.assume_frame s r).2.2.2.2.2.2.2.2.2.2.2.2.1
@[simp] theorem State.assume_free (s : State) (r : Region) : (State.assume s r).free = s.free :=
  (State.assume_frame s r).2.2.2.2.2.2.2.2.2.2.2.2.2.1
@[simp] theorem State.assume_pending (s : State) (r : Region) : (State.assume s r).pending = s.pending :=
  (State.assume_frame s r).2.2.2.2.2.2.2.2.2.2.2.2.2.2

/-- Fields that `partOld` keeps. -/
theorem State.partOld_frame (s : State) (r : Region) (self : Bool) :
    (State.partOld s r self).power = s.power ∧ (State.partOld s r self).line = s.line ∧ (State.partOld s r self).applyQ = s.applyQ ∧ (State.partOld s r self).unsaved = s.unsaved ∧ (State.partOld s r self).catchup = s.catchup ∧ (State.partOld s r self).serial = s.serial ∧ (State.partOld s r self).free = s.free ∧ (State.partOld s r self).pending = s.pending := by
  unfold State.partOld; (repeat' (first | split | dsimp only)) <;> simp
@[simp] theorem State.partOld_power (s : State) (r : Region) (self : Bool) : (State.partOld s r self).power = s.power :=
  (State.partOld_frame s r self).1
@[simp] theorem State.partOld_line (s : State) (r : Region) (self : Bool) : (State.partOld s r self).line = s.line :=
  (State.partOld_frame s r self).2.1
@[simp] theorem State.partOld_applyQ (s : State) (r : Region) (self : Bool) : (State.partOld s r self).applyQ = s.applyQ :=
  (State.partOld_frame s r self).2.2.1
@[simp] theorem State.partOld_unsaved (s : State) (r : Region) (self : Bool) : (State.partOld s r self).unsaved = s.unsaved :=
  (State.partOld_frame s r self).2.2.2.1
@[simp] theorem State.partOld_catchup (s : State) (r : Region) (self : Bool) : (State.partOld s r self).catchup = s.catchup :=
  (State.partOld_frame s r self).2.2.2.2.1
@[simp] theorem State.partOld_serial (s : State) (r : Region) (self : Bool) : (State.partOld s r self).serial = s.serial :=
  (State.partOld_frame s r self).2.2.2.2.2.1
@[simp] theorem State.partOld_free (s : State) (r : Region) (self : Bool) : (State.partOld s r self).free = s.free :=
  (State.partOld_frame s r self).2.2.2.2.2.2.1
@[simp] theorem State.partOld_pending (s : State) (r : Region) (self : Bool) : (State.partOld s r self).pending = s.pending :=
  (State.partOld_frame s r self).2.2.2.2.2.2.2

/-- Fields that `partNew` keeps. -/
theorem State.partNew_frame (s : State) (r : Region) (self : Bool) :
    (State.partNew s r self).power = s.power ∧ (State.partNew s r self).port = s.port ∧ (State.partNew s r self).events = s.events ∧ (State.partNew s r self).ctl = s.ctl ∧ (State.partNew s r self).line = s.line ∧ (State.partNew s r self).roster = s.roster ∧ (State.partNew s r self).out = s.out ∧ (State.partNew s r self).applyQ = s.applyQ ∧ (State.partNew s r self).unsaved = s.unsaved ∧ (State.partNew s r self).catchup = s.catchup ∧ (State.partNew s r self).serving = s.serving ∧ (State.partNew s r self).arb = s.arb ∧ (State.partNew s r self).serial = s.serial ∧ (State.partNew s r self).free = s.free ∧ (State.partNew s r self).pending = s.pending := by
  unfold State.partNew; (repeat' (first | split | dsimp only)) <;> simp
@[simp] theorem State.partNew_power (s : State) (r : Region) (self : Bool) : (State.partNew s r self).power = s.power :=
  (State.partNew_frame s r self).1
@[simp] theorem State.partNew_port (s : State) (r : Region) (self : Bool) : (State.partNew s r self).port = s.port :=
  (State.partNew_frame s r self).2.1
@[simp] theorem State.partNew_events (s : State) (r : Region) (self : Bool) : (State.partNew s r self).events = s.events :=
  (State.partNew_frame s r self).2.2.1
@[simp] theorem State.partNew_ctl (s : State) (r : Region) (self : Bool) : (State.partNew s r self).ctl = s.ctl :=
  (State.partNew_frame s r self).2.2.2.1
@[simp] theorem State.partNew_line (s : State) (r : Region) (self : Bool) : (State.partNew s r self).line = s.line :=
  (State.partNew_frame s r self).2.2.2.2.1
@[simp] theorem State.partNew_roster (s : State) (r : Region) (self : Bool) : (State.partNew s r self).roster = s.roster :=
  (State.partNew_frame s r self).2.2.2.2.2.1
@[simp] theorem State.partNew_out (s : State) (r : Region) (self : Bool) : (State.partNew s r self).out = s.out :=
  (State.partNew_frame s r self).2.2.2.2.2.2.1
@[simp] theorem State.partNew_applyQ (s : State) (r : Region) (self : Bool) : (State.partNew s r self).applyQ = s.applyQ :=
  (State.partNew_frame s r self).2.2.2.2.2.2.2.1
@[simp] theorem State.partNew_unsaved (s : State) (r : Region) (self : Bool) : (State.partNew s r self).unsaved = s.unsaved :=
  (State.partNew_frame s r self).2.2.2.2.2.2.2.2.1
@[simp] theorem State.partNew_catchup (s : State) (r : Region) (self : Bool) : (State.partNew s r self).catchup = s.catchup :=
  (State.partNew_frame s r self).2.2.2.2.2.2.2.2.2.1
@[simp] theorem State.partNew_serving (s : State) (r : Region) (self : Bool) : (State.partNew s r self).serving = s.serving :=
  (State.partNew_frame s r self).2.2.2.2.2.2.2.2.2.2.1
@[simp] theorem State.partNew_arb (s : State) (r : Region) (self : Bool) : (State.partNew s r self).arb = s.arb :=
  (State.partNew_frame s r self).2.2.2.2.2.2.2.2.2.2.2.1
@[simp] theorem State.partNew_serial (s : State) (r : Region) (self : Bool) : (State.partNew s r self).serial = s.serial :=
  (State.partNew_frame s r self).2.2.2.2.2.2.2.2.2.2.2.2.1
@[simp] theorem State.partNew_free (s : State) (r : Region) (self : Bool) : (State.partNew s r self).free = s.free :=
  (State.partNew_frame s r self).2.2.2.2.2.2.2.2.2.2.2.2.2.1
@[simp] theorem State.partNew_pending (s : State) (r : Region) (self : Bool) : (State.partNew s r self).pending = s.pending :=
  (State.partNew_frame s r self).2.2.2.2.2.2.2.2.2.2.2.2.2.2

/-- Fields that `changeOwner` keeps. -/
theorem State.changeOwner_frame (s : State) (r : Region) (o : Option Owner) :
    (State.changeOwner s r o).power = s.power ∧ (State.changeOwner s r o).line = s.line ∧ (State.changeOwner s r o).applyQ = s.applyQ ∧ (State.changeOwner s r o).unsaved = s.unsaved ∧ (State.changeOwner s r o).serial = s.serial ∧ (State.changeOwner s r o).free = s.free ∧ (State.changeOwner s r o).pending = s.pending := by
  unfold State.changeOwner; (repeat' (first | split | dsimp only)) <;> simp
@[simp] theorem State.changeOwner_power (s : State) (r : Region) (o : Option Owner) : (State.changeOwner s r o).power = s.power :=
  (State.changeOwner_frame s r o).1
@[simp] theorem State.changeOwner_line (s : State) (r : Region) (o : Option Owner) : (State.changeOwner s r o).line = s.line :=
  (State.changeOwner_frame s r o).2.1
@[simp] theorem State.changeOwner_applyQ (s : State) (r : Region) (o : Option Owner) : (State.changeOwner s r o).applyQ = s.applyQ :=
  (State.changeOwner_frame s r o).2.2.1
@[simp] theorem State.changeOwner_unsaved (s : State) (r : Region) (o : Option Owner) : (State.changeOwner s r o).unsaved = s.unsaved :=
  (State.changeOwner_frame s r o).2.2.2.1
@[simp] theorem State.changeOwner_serial (s : State) (r : Region) (o : Option Owner) : (State.changeOwner s r o).serial = s.serial :=
  (State.changeOwner_frame s r o).2.2.2.2.1
@[simp] theorem State.changeOwner_free (s : State) (r : Region) (o : Option Owner) : (State.changeOwner s r o).free = s.free :=
  (State.changeOwner_frame s r o).2.2.2.2.2.1
@[simp] theorem State.changeOwner_pending (s : State) (r : Region) (o : Option Owner) : (State.changeOwner s r o).pending = s.pending :=
  (State.changeOwner_frame s r o).2.2.2.2.2.2

/-- Fields that `setState` keeps. -/
theorem State.setState_frame (s : State) (st : StationState) :
    (State.setState s st).power = s.power ∧ (State.setState s st).nv = s.nv ∧ (State.setState s st).port = s.port ∧ (State.setState s st).events = s.events ∧ (State.setState s st).line = s.line ∧ (State.setState s st).roster = s.roster ∧ (State.setState s st).table = s.table ∧ (State.setState s st).out = s.out ∧ (State.setState s st).applyQ = s.applyQ ∧ (State.setState s st).unsaved = s.unsaved ∧ (State.setState s st).catchup = s.catchup ∧ (State.setState s st).serving = s.serving ∧ (State.setState s st).arb = s.arb ∧ (State.setState s st).serial = s.serial ∧ (State.setState s st).free = s.free ∧ (State.setState s st).pending = s.pending := by
  unfold State.setState; (repeat' (first | split | dsimp only)) <;> simp
@[simp] theorem State.setState_power (s : State) (st : StationState) : (State.setState s st).power = s.power :=
  (State.setState_frame s st).1
@[simp] theorem State.setState_nv (s : State) (st : StationState) : (State.setState s st).nv = s.nv :=
  (State.setState_frame s st).2.1
@[simp] theorem State.setState_port (s : State) (st : StationState) : (State.setState s st).port = s.port :=
  (State.setState_frame s st).2.2.1
@[simp] theorem State.setState_events (s : State) (st : StationState) : (State.setState s st).events = s.events :=
  (State.setState_frame s st).2.2.2.1
@[simp] theorem State.setState_line (s : State) (st : StationState) : (State.setState s st).line = s.line :=
  (State.setState_frame s st).2.2.2.2.1
@[simp] theorem State.setState_roster (s : State) (st : StationState) : (State.setState s st).roster = s.roster :=
  (State.setState_frame s st).2.2.2.2.2.1
@[simp] theorem State.setState_table (s : State) (st : StationState) : (State.setState s st).table = s.table :=
  (State.setState_frame s st).2.2.2.2.2.2.1
@[simp] theorem State.setState_out (s : State) (st : StationState) : (State.setState s st).out = s.out :=
  (State.setState_frame s st).2.2.2.2.2.2.2.1
@[simp] theorem State.setState_applyQ (s : State) (st : StationState) : (State.setState s st).applyQ = s.applyQ :=
  (State.setState_frame s st).2.2.2.2.2.2.2.2.1
@[simp] theorem State.setState_unsaved (s : State) (st : StationState) : (State.setState s st).unsaved = s.unsaved :=
  (State.setState_frame s st).2.2.2.2.2.2.2.2.2.1
@[simp] theorem State.setState_catchup (s : State) (st : StationState) : (State.setState s st).catchup = s.catchup :=
  (State.setState_frame s st).2.2.2.2.2.2.2.2.2.2.1
@[simp] theorem State.setState_serving (s : State) (st : StationState) : (State.setState s st).serving = s.serving :=
  (State.setState_frame s st).2.2.2.2.2.2.2.2.2.2.2.1
@[simp] theorem State.setState_arb (s : State) (st : StationState) : (State.setState s st).arb = s.arb :=
  (State.setState_frame s st).2.2.2.2.2.2.2.2.2.2.2.2.1
@[simp] theorem State.setState_serial (s : State) (st : StationState) : (State.setState s st).serial = s.serial :=
  (State.setState_frame s st).2.2.2.2.2.2.2.2.2.2.2.2.2.1
@[simp] theorem State.setState_free (s : State) (st : StationState) : (State.setState s st).free = s.free :=
  (State.setState_frame s st).2.2.2.2.2.2.2.2.2.2.2.2.2.2.1
@[simp] theorem State.setState_pending (s : State) (st : StationState) : (State.setState s st).pending = s.pending :=
  (State.setState_frame s st).2.2.2.2.2.2.2.2.2.2.2.2.2.2.2

/-- Fields that `quorumCheck` keeps. -/
theorem State.quorumCheck_frame (s : State) :
    (State.quorumCheck s).power = s.power ∧ (State.quorumCheck s).port = s.port ∧ (State.quorumCheck s).line = s.line ∧ (State.quorumCheck s).roster = s.roster ∧ (State.quorumCheck s).applyQ = s.applyQ ∧ (State.quorumCheck s).unsaved = s.unsaved ∧ (State.quorumCheck s).catchup = s.catchup ∧ (State.quorumCheck s).serving = s.serving ∧ (State.quorumCheck s).arb = s.arb ∧ (State.quorumCheck s).serial = s.serial ∧ (State.quorumCheck s).free = s.free ∧ (State.quorumCheck s).pending = s.pending := by
  unfold State.quorumCheck; (repeat' (first | split | dsimp only)) <;> simp
@[simp] theorem State.quorumCheck_power (s : State) : (State.quorumCheck s).power = s.power :=
  (State.quorumCheck_frame s).1
@[simp] theorem State.quorumCheck_port (s : State) : (State.quorumCheck s).port = s.port :=
  (State.quorumCheck_frame s).2.1
@[simp] theorem State.quorumCheck_line (s : State) : (State.quorumCheck s).line = s.line :=
  (State.quorumCheck_frame s).2.2.1
@[simp] theorem State.quorumCheck_roster (s : State) : (State.quorumCheck s).roster = s.roster :=
  (State.quorumCheck_frame s).2.2.2.1
@[simp] theorem State.quorumCheck_applyQ (s : State) : (State.quorumCheck s).applyQ = s.applyQ :=
  (State.quorumCheck_frame s).2.2.2.2.1
@[simp] theorem State.quorumCheck_unsaved (s : State) : (State.quorumCheck s).unsaved = s.unsaved :=
  (State.quorumCheck_frame s).2.2.2.2.2.1
@[simp] theorem State.quorumCheck_catchup (s : State) : (State.quorumCheck s).catchup = s.catchup :=
  (State.quorumCheck_frame s).2.2.2.2.2.2.1
@[simp] theorem State.quorumCheck_serving (s : State) : (State.quorumCheck s).serving = s.serving :=
  (State.quorumCheck_frame s).2.2.2.2.2.2.2.1
@[simp] theorem State.quorumCheck_arb (s : State) : (State.quorumCheck s).arb = s.arb :=
  (State.quorumCheck_frame s).2.2.2.2.2.2.2.2.1
@[simp] theorem State.quorumCheck_serial (s : State) : (State.quorumCheck s).serial = s.serial :=
  (State.quorumCheck_frame s).2.2.2.2.2.2.2.2.2.1
@[simp] theorem State.quorumCheck_free (s : State) : (State.quorumCheck s).free = s.free :=
  (State.quorumCheck_frame s).2.2.2.2.2.2.2.2.2.2.1
@[simp] theorem State.quorumCheck_pending (s : State) : (State.quorumCheck s).pending = s.pending :=
  (State.quorumCheck_frame s).2.2.2.2.2.2.2.2.2.2.2

/-- Fields that `mapRosterEntry` keeps. -/
theorem State.mapRosterEntry_frame (s : State) (n : Station) (f : RosterEntry → RosterEntry) :
    (State.mapRosterEntry s n f).power = s.power ∧ (State.mapRosterEntry s n f).nv = s.nv ∧ (State.mapRosterEntry s n f).port = s.port ∧ (State.mapRosterEntry s n f).events = s.events ∧ (State.mapRosterEntry s n f).ctl = s.ctl ∧ (State.mapRosterEntry s n f).line = s.line ∧ (State.mapRosterEntry s n f).table = s.table ∧ (State.mapRosterEntry s n f).out = s.out ∧ (State.mapRosterEntry s n f).applyQ = s.applyQ ∧ (State.mapRosterEntry s n f).unsaved = s.unsaved ∧ (State.mapRosterEntry s n f).catchup = s.catchup ∧ (State.mapRosterEntry s n f).serving = s.serving ∧ (State.mapRosterEntry s n f).arb = s.arb ∧ (State.mapRosterEntry s n f).serial = s.serial ∧ (State.mapRosterEntry s n f).free = s.free ∧ (State.mapRosterEntry s n f).pending = s.pending := by
  unfold State.mapRosterEntry; (repeat' (first | split | dsimp only)) <;> simp
@[simp] theorem State.mapRosterEntry_power (s : State) (n : Station) (f : RosterEntry → RosterEntry) : (State.mapRosterEntry s n f).power = s.power :=
  (State.mapRosterEntry_frame s n f).1
@[simp] theorem State.mapRosterEntry_nv (s : State) (n : Station) (f : RosterEntry → RosterEntry) : (State.mapRosterEntry s n f).nv = s.nv :=
  (State.mapRosterEntry_frame s n f).2.1
@[simp] theorem State.mapRosterEntry_port (s : State) (n : Station) (f : RosterEntry → RosterEntry) : (State.mapRosterEntry s n f).port = s.port :=
  (State.mapRosterEntry_frame s n f).2.2.1
@[simp] theorem State.mapRosterEntry_events (s : State) (n : Station) (f : RosterEntry → RosterEntry) : (State.mapRosterEntry s n f).events = s.events :=
  (State.mapRosterEntry_frame s n f).2.2.2.1
@[simp] theorem State.mapRosterEntry_ctl (s : State) (n : Station) (f : RosterEntry → RosterEntry) : (State.mapRosterEntry s n f).ctl = s.ctl :=
  (State.mapRosterEntry_frame s n f).2.2.2.2.1
@[simp] theorem State.mapRosterEntry_line (s : State) (n : Station) (f : RosterEntry → RosterEntry) : (State.mapRosterEntry s n f).line = s.line :=
  (State.mapRosterEntry_frame s n f).2.2.2.2.2.1
@[simp] theorem State.mapRosterEntry_table (s : State) (n : Station) (f : RosterEntry → RosterEntry) : (State.mapRosterEntry s n f).table = s.table :=
  (State.mapRosterEntry_frame s n f).2.2.2.2.2.2.1
@[simp] theorem State.mapRosterEntry_out (s : State) (n : Station) (f : RosterEntry → RosterEntry) : (State.mapRosterEntry s n f).out = s.out :=
  (State.mapRosterEntry_frame s n f).2.2.2.2.2.2.2.1
@[simp] theorem State.mapRosterEntry_applyQ (s : State) (n : Station) (f : RosterEntry → RosterEntry) : (State.mapRosterEntry s n f).applyQ = s.applyQ :=
  (State.mapRosterEntry_frame s n f).2.2.2.2.2.2.2.2.1
@[simp] theorem State.mapRosterEntry_unsaved (s : State) (n : Station) (f : RosterEntry → RosterEntry) : (State.mapRosterEntry s n f).unsaved = s.unsaved :=
  (State.mapRosterEntry_frame s n f).2.2.2.2.2.2.2.2.2.1
@[simp] theorem State.mapRosterEntry_catchup (s : State) (n : Station) (f : RosterEntry → RosterEntry) : (State.mapRosterEntry s n f).catchup = s.catchup :=
  (State.mapRosterEntry_frame s n f).2.2.2.2.2.2.2.2.2.2.1
@[simp] theorem State.mapRosterEntry_serving (s : State) (n : Station) (f : RosterEntry → RosterEntry) : (State.mapRosterEntry s n f).serving = s.serving :=
  (State.mapRosterEntry_frame s n f).2.2.2.2.2.2.2.2.2.2.2.1
@[simp] theorem State.mapRosterEntry_arb (s : State) (n : Station) (f : RosterEntry → RosterEntry) : (State.mapRosterEntry s n f).arb = s.arb :=
  (State.mapRosterEntry_frame s n f).2.2.2.2.2.2.2.2.2.2.2.2.1
@[simp] theorem State.mapRosterEntry_serial (s : State) (n : Station) (f : RosterEntry → RosterEntry) : (State.mapRosterEntry s n f).serial = s.serial :=
  (State.mapRosterEntry_frame s n f).2.2.2.2.2.2.2.2.2.2.2.2.2.1
@[simp] theorem State.mapRosterEntry_free (s : State) (n : Station) (f : RosterEntry → RosterEntry) : (State.mapRosterEntry s n f).free = s.free :=
  (State.mapRosterEntry_frame s n f).2.2.2.2.2.2.2.2.2.2.2.2.2.2.1
@[simp] theorem State.mapRosterEntry_pending (s : State) (n : Station) (f : RosterEntry → RosterEntry) : (State.mapRosterEntry s n f).pending = s.pending :=
  (State.mapRosterEntry_frame s n f).2.2.2.2.2.2.2.2.2.2.2.2.2.2.2

/-- Fields that `targetsFollow` keeps. -/
theorem State.targetsFollow_frame (s : State) (n : Station) (st : Presence) :
    (State.targetsFollow s n st).power = s.power ∧ (State.targetsFollow s n st).port = s.port ∧ (State.targetsFollow s n st).line = s.line ∧ (State.targetsFollow s n st).roster = s.roster ∧ (State.targetsFollow s n st).applyQ = s.applyQ ∧ (State.targetsFollow s n st).unsaved = s.unsaved ∧ (State.targetsFollow s n st).catchup = s.catchup ∧ (State.targetsFollow s n st).serial = s.serial ∧ (State.targetsFollow s n st).free = s.free ∧ (State.targetsFollow s n st).pending = s.pending := by
  unfold State.targetsFollow; (repeat' (first | split | dsimp only)) <;> simp
@[simp] theorem State.targetsFollow_power (s : State) (n : Station) (st : Presence) : (State.targetsFollow s n st).power = s.power :=
  (State.targetsFollow_frame s n st).1
@[simp] theorem State.targetsFollow_port (s : State) (n : Station) (st : Presence) : (State.targetsFollow s n st).port = s.port :=
  (State.targetsFollow_frame s n st).2.1
@[simp] theorem State.targetsFollow_line (s : State) (n : Station) (st : Presence) : (State.targetsFollow s n st).line = s.line :=
  (State.targetsFollow_frame s n st).2.2.1
@[simp] theorem State.targetsFollow_roster (s : State) (n : Station) (st : Presence) : (State.targetsFollow s n st).roster = s.roster :=
  (State.targetsFollow_frame s n st).2.2.2.1
@[simp] theorem State.targetsFollow_applyQ (s : State) (n : Station) (st : Presence) : (State.targetsFollow s n st).applyQ = s.applyQ :=
  (State.targetsFollow_frame s n st).2.2.2.2.1
@[simp] theorem State.targetsFollow_unsaved (s : State) (n : Station) (st : Presence) : (State.targetsFollow s n st).unsaved = s.unsaved :=
  (State.targetsFollow_frame s n st).2.2.2.2.2.1
@[simp] theorem State.targetsFollow_catchup (s : State) (n : Station) (st : Presence) : (State.targetsFollow s n st).catchup = s.catchup :=
  (State.targetsFollow_frame s n st).2.2.2.2.2.2.1
@[simp] theorem State.targetsFollow_serial (s : State) (n : Station) (st : Presence) : (State.targetsFollow s n st).serial = s.serial :=
  (State.targetsFollow_frame s n st).2.2.2.2.2.2.2.1
@[simp] theorem State.targetsFollow_free (s : State) (n : Station) (st : Presence) : (State.targetsFollow s n st).free = s.free :=
  (State.targetsFollow_frame s n st).2.2.2.2.2.2.2.2.1
@[simp] theorem State.targetsFollow_pending (s : State) (n : Station) (st : Presence) : (State.targetsFollow s n st).pending = s.pending :=
  (State.targetsFollow_frame s n st).2.2.2.2.2.2.2.2.2

/-- Fields that `differsFollows` keeps. -/
theorem State.differsFollows_frame (s : State) (n : Station) (st : Presence) :
    (State.differsFollows s n st).power = s.power ∧ (State.differsFollows s n st).nv = s.nv ∧ (State.differsFollows s n st).port = s.port ∧ (State.differsFollows s n st).events = s.events ∧ (State.differsFollows s n st).ctl = s.ctl ∧ (State.differsFollows s n st).line = s.line ∧ (State.differsFollows s n st).table = s.table ∧ (State.differsFollows s n st).out = s.out ∧ (State.differsFollows s n st).applyQ = s.applyQ ∧ (State.differsFollows s n st).unsaved = s.unsaved ∧ (State.differsFollows s n st).catchup = s.catchup ∧ (State.differsFollows s n st).serving = s.serving ∧ (State.differsFollows s n st).arb = s.arb ∧ (State.differsFollows s n st).serial = s.serial ∧ (State.differsFollows s n st).free = s.free ∧ (State.differsFollows s n st).pending = s.pending := by
  unfold State.differsFollows; (repeat' (first | split | dsimp only)) <;> simp
@[simp] theorem State.differsFollows_power (s : State) (n : Station) (st : Presence) : (State.differsFollows s n st).power = s.power :=
  (State.differsFollows_frame s n st).1
@[simp] theorem State.differsFollows_nv (s : State) (n : Station) (st : Presence) : (State.differsFollows s n st).nv = s.nv :=
  (State.differsFollows_frame s n st).2.1
@[simp] theorem State.differsFollows_port (s : State) (n : Station) (st : Presence) : (State.differsFollows s n st).port = s.port :=
  (State.differsFollows_frame s n st).2.2.1
@[simp] theorem State.differsFollows_events (s : State) (n : Station) (st : Presence) : (State.differsFollows s n st).events = s.events :=
  (State.differsFollows_frame s n st).2.2.2.1
@[simp] theorem State.differsFollows_ctl (s : State) (n : Station) (st : Presence) : (State.differsFollows s n st).ctl = s.ctl :=
  (State.differsFollows_frame s n st).2.2.2.2.1
@[simp] theorem State.differsFollows_line (s : State) (n : Station) (st : Presence) : (State.differsFollows s n st).line = s.line :=
  (State.differsFollows_frame s n st).2.2.2.2.2.1
@[simp] theorem State.differsFollows_table (s : State) (n : Station) (st : Presence) : (State.differsFollows s n st).table = s.table :=
  (State.differsFollows_frame s n st).2.2.2.2.2.2.1
@[simp] theorem State.differsFollows_out (s : State) (n : Station) (st : Presence) : (State.differsFollows s n st).out = s.out :=
  (State.differsFollows_frame s n st).2.2.2.2.2.2.2.1
@[simp] theorem State.differsFollows_applyQ (s : State) (n : Station) (st : Presence) : (State.differsFollows s n st).applyQ = s.applyQ :=
  (State.differsFollows_frame s n st).2.2.2.2.2.2.2.2.1
@[simp] theorem State.differsFollows_unsaved (s : State) (n : Station) (st : Presence) : (State.differsFollows s n st).unsaved = s.unsaved :=
  (State.differsFollows_frame s n st).2.2.2.2.2.2.2.2.2.1
@[simp] theorem State.differsFollows_catchup (s : State) (n : Station) (st : Presence) : (State.differsFollows s n st).catchup = s.catchup :=
  (State.differsFollows_frame s n st).2.2.2.2.2.2.2.2.2.2.1
@[simp] theorem State.differsFollows_serving (s : State) (n : Station) (st : Presence) : (State.differsFollows s n st).serving = s.serving :=
  (State.differsFollows_frame s n st).2.2.2.2.2.2.2.2.2.2.2.1
@[simp] theorem State.differsFollows_arb (s : State) (n : Station) (st : Presence) : (State.differsFollows s n st).arb = s.arb :=
  (State.differsFollows_frame s n st).2.2.2.2.2.2.2.2.2.2.2.2.1
@[simp] theorem State.differsFollows_serial (s : State) (n : Station) (st : Presence) : (State.differsFollows s n st).serial = s.serial :=
  (State.differsFollows_frame s n st).2.2.2.2.2.2.2.2.2.2.2.2.2.1
@[simp] theorem State.differsFollows_free (s : State) (n : Station) (st : Presence) : (State.differsFollows s n st).free = s.free :=
  (State.differsFollows_frame s n st).2.2.2.2.2.2.2.2.2.2.2.2.2.2.1
@[simp] theorem State.differsFollows_pending (s : State) (n : Station) (st : Presence) : (State.differsFollows s n st).pending = s.pending :=
  (State.differsFollows_frame s n st).2.2.2.2.2.2.2.2.2.2.2.2.2.2.2

/-- Fields that `statusChange` keeps. -/
theorem State.statusChange_frame (s : State) (n : Station) (st : Presence) :
    (State.statusChange s n st).power = s.power ∧ (State.statusChange s n st).port = s.port ∧ (State.statusChange s n st).line = s.line ∧ (State.statusChange s n st).applyQ = s.applyQ ∧ (State.statusChange s n st).unsaved = s.unsaved ∧ (State.statusChange s n st).free = s.free ∧ (State.statusChange s n st).pending = s.pending := by
  unfold State.statusChange; (repeat' (first | split | dsimp only)) <;> simp
@[simp] theorem State.statusChange_power (s : State) (n : Station) (st : Presence) : (State.statusChange s n st).power = s.power :=
  (State.statusChange_frame s n st).1
@[simp] theorem State.statusChange_port (s : State) (n : Station) (st : Presence) : (State.statusChange s n st).port = s.port :=
  (State.statusChange_frame s n st).2.1
@[simp] theorem State.statusChange_line (s : State) (n : Station) (st : Presence) : (State.statusChange s n st).line = s.line :=
  (State.statusChange_frame s n st).2.2.1
@[simp] theorem State.statusChange_applyQ (s : State) (n : Station) (st : Presence) : (State.statusChange s n st).applyQ = s.applyQ :=
  (State.statusChange_frame s n st).2.2.2.1
@[simp] theorem State.statusChange_unsaved (s : State) (n : Station) (st : Presence) : (State.statusChange s n st).unsaved = s.unsaved :=
  (State.statusChange_frame s n st).2.2.2.2.1
@[simp] theorem State.statusChange_free (s : State) (n : Station) (st : Presence) : (State.statusChange s n st).free = s.free :=
  (State.statusChange_frame s n st).2.2.2.2.2.1
@[simp] theorem State.statusChange_pending (s : State) (n : Station) (st : Presence) : (State.statusChange s n st).pending = s.pending :=
  (State.statusChange_frame s n st).2.2.2.2.2.2

/-- Fields that `clearRoster` keeps. -/
theorem State.clearRoster_frame (s : State) :
    (State.clearRoster s).power = s.power ∧ (State.clearRoster s).nv = s.nv ∧ (State.clearRoster s).port = s.port ∧ (State.clearRoster s).events = s.events ∧ (State.clearRoster s).ctl = s.ctl ∧ (State.clearRoster s).line = s.line ∧ (State.clearRoster s).table = s.table ∧ (State.clearRoster s).out = s.out ∧ (State.clearRoster s).applyQ = s.applyQ ∧ (State.clearRoster s).unsaved = s.unsaved ∧ (State.clearRoster s).catchup = s.catchup ∧ (State.clearRoster s).serving = s.serving ∧ (State.clearRoster s).arb = s.arb ∧ (State.clearRoster s).serial = s.serial ∧ (State.clearRoster s).free = s.free ∧ (State.clearRoster s).pending = s.pending := by
  unfold State.clearRoster; (repeat' (first | split | dsimp only)) <;> simp
@[simp] theorem State.clearRoster_power (s : State) : (State.clearRoster s).power = s.power :=
  (State.clearRoster_frame s).1
@[simp] theorem State.clearRoster_nv (s : State) : (State.clearRoster s).nv = s.nv :=
  (State.clearRoster_frame s).2.1
@[simp] theorem State.clearRoster_port (s : State) : (State.clearRoster s).port = s.port :=
  (State.clearRoster_frame s).2.2.1
@[simp] theorem State.clearRoster_events (s : State) : (State.clearRoster s).events = s.events :=
  (State.clearRoster_frame s).2.2.2.1
@[simp] theorem State.clearRoster_ctl (s : State) : (State.clearRoster s).ctl = s.ctl :=
  (State.clearRoster_frame s).2.2.2.2.1
@[simp] theorem State.clearRoster_line (s : State) : (State.clearRoster s).line = s.line :=
  (State.clearRoster_frame s).2.2.2.2.2.1
@[simp] theorem State.clearRoster_table (s : State) : (State.clearRoster s).table = s.table :=
  (State.clearRoster_frame s).2.2.2.2.2.2.1
@[simp] theorem State.clearRoster_out (s : State) : (State.clearRoster s).out = s.out :=
  (State.clearRoster_frame s).2.2.2.2.2.2.2.1
@[simp] theorem State.clearRoster_applyQ (s : State) : (State.clearRoster s).applyQ = s.applyQ :=
  (State.clearRoster_frame s).2.2.2.2.2.2.2.2.1
@[simp] theorem State.clearRoster_unsaved (s : State) : (State.clearRoster s).unsaved = s.unsaved :=
  (State.clearRoster_frame s).2.2.2.2.2.2.2.2.2.1
@[simp] theorem State.clearRoster_catchup (s : State) : (State.clearRoster s).catchup = s.catchup :=
  (State.clearRoster_frame s).2.2.2.2.2.2.2.2.2.2.1
@[simp] theorem State.clearRoster_serving (s : State) : (State.clearRoster s).serving = s.serving :=
  (State.clearRoster_frame s).2.2.2.2.2.2.2.2.2.2.2.1
@[simp] theorem State.clearRoster_arb (s : State) : (State.clearRoster s).arb = s.arb :=
  (State.clearRoster_frame s).2.2.2.2.2.2.2.2.2.2.2.2.1
@[simp] theorem State.clearRoster_serial (s : State) : (State.clearRoster s).serial = s.serial :=
  (State.clearRoster_frame s).2.2.2.2.2.2.2.2.2.2.2.2.2.1
@[simp] theorem State.clearRoster_free (s : State) : (State.clearRoster s).free = s.free :=
  (State.clearRoster_frame s).2.2.2.2.2.2.2.2.2.2.2.2.2.2.1
@[simp] theorem State.clearRoster_pending (s : State) : (State.clearRoster s).pending = s.pending :=
  (State.clearRoster_frame s).2.2.2.2.2.2.2.2.2.2.2.2.2.2.2

/-- Fields that `followFrame` keeps. -/
theorem State.followFrame_frame (s : State) (f : Frame) :
    (State.followFrame s f).power = s.power ∧ (State.followFrame s f).port = s.port ∧ (State.followFrame s f).line = s.line ∧ (State.followFrame s f).applyQ = s.applyQ ∧ (State.followFrame s f).unsaved = s.unsaved ∧ (State.followFrame s f).free = s.free ∧ (State.followFrame s f).pending = s.pending := by
  unfold State.followFrame; (repeat' (first | split | dsimp only)) <;> simp
@[simp] theorem State.followFrame_power (s : State) (f : Frame) : (State.followFrame s f).power = s.power :=
  (State.followFrame_frame s f).1
@[simp] theorem State.followFrame_port (s : State) (f : Frame) : (State.followFrame s f).port = s.port :=
  (State.followFrame_frame s f).2.1
@[simp] theorem State.followFrame_line (s : State) (f : Frame) : (State.followFrame s f).line = s.line :=
  (State.followFrame_frame s f).2.2.1
@[simp] theorem State.followFrame_applyQ (s : State) (f : Frame) : (State.followFrame s f).applyQ = s.applyQ :=
  (State.followFrame_frame s f).2.2.2.1
@[simp] theorem State.followFrame_unsaved (s : State) (f : Frame) : (State.followFrame s f).unsaved = s.unsaved :=
  (State.followFrame_frame s f).2.2.2.2.1
@[simp] theorem State.followFrame_free (s : State) (f : Frame) : (State.followFrame s f).free = s.free :=
  (State.followFrame_frame s f).2.2.2.2.2.1
@[simp] theorem State.followFrame_pending (s : State) (f : Frame) : (State.followFrame s f).pending = s.pending :=
  (State.followFrame_frame s f).2.2.2.2.2.2

/-- Fields that `checkMembers` keeps. -/
theorem State.checkMembers_frame (s : State) (f : Frame) :
    (State.checkMembers s f).power = s.power ∧ (State.checkMembers s f).nv = s.nv ∧ (State.checkMembers s f).port = s.port ∧ (State.checkMembers s f).ctl = s.ctl ∧ (State.checkMembers s f).line = s.line ∧ (State.checkMembers s f).table = s.table ∧ (State.checkMembers s f).out = s.out ∧ (State.checkMembers s f).applyQ = s.applyQ ∧ (State.checkMembers s f).unsaved = s.unsaved ∧ (State.checkMembers s f).catchup = s.catchup ∧ (State.checkMembers s f).serving = s.serving ∧ (State.checkMembers s f).arb = s.arb ∧ (State.checkMembers s f).serial = s.serial ∧ (State.checkMembers s f).free = s.free ∧ (State.checkMembers s f).pending = s.pending := by
  unfold State.checkMembers; (repeat' (first | split | dsimp only)) <;> simp
@[simp] theorem State.checkMembers_power (s : State) (f : Frame) : (State.checkMembers s f).power = s.power :=
  (State.checkMembers_frame s f).1
@[simp] theorem State.checkMembers_nv (s : State) (f : Frame) : (State.checkMembers s f).nv = s.nv :=
  (State.checkMembers_frame s f).2.1
@[simp] theorem State.checkMembers_port (s : State) (f : Frame) : (State.checkMembers s f).port = s.port :=
  (State.checkMembers_frame s f).2.2.1
@[simp] theorem State.checkMembers_ctl (s : State) (f : Frame) : (State.checkMembers s f).ctl = s.ctl :=
  (State.checkMembers_frame s f).2.2.2.1
@[simp] theorem State.checkMembers_line (s : State) (f : Frame) : (State.checkMembers s f).line = s.line :=
  (State.checkMembers_frame s f).2.2.2.2.1
@[simp] theorem State.checkMembers_table (s : State) (f : Frame) : (State.checkMembers s f).table = s.table :=
  (State.checkMembers_frame s f).2.2.2.2.2.1
@[simp] theorem State.checkMembers_out (s : State) (f : Frame) : (State.checkMembers s f).out = s.out :=
  (State.checkMembers_frame s f).2.2.2.2.2.2.1
@[simp] theorem State.checkMembers_applyQ (s : State) (f : Frame) : (State.checkMembers s f).applyQ = s.applyQ :=
  (State.checkMembers_frame s f).2.2.2.2.2.2.2.1
@[simp] theorem State.checkMembers_unsaved (s : State) (f : Frame) : (State.checkMembers s f).unsaved = s.unsaved :=
  (State.checkMembers_frame s f).2.2.2.2.2.2.2.2.1
@[simp] theorem State.checkMembers_catchup (s : State) (f : Frame) : (State.checkMembers s f).catchup = s.catchup :=
  (State.checkMembers_frame s f).2.2.2.2.2.2.2.2.2.1
@[simp] theorem State.checkMembers_serving (s : State) (f : Frame) : (State.checkMembers s f).serving = s.serving :=
  (State.checkMembers_frame s f).2.2.2.2.2.2.2.2.2.2.1
@[simp] theorem State.checkMembers_arb (s : State) (f : Frame) : (State.checkMembers s f).arb = s.arb :=
  (State.checkMembers_frame s f).2.2.2.2.2.2.2.2.2.2.2.1
@[simp] theorem State.checkMembers_serial (s : State) (f : Frame) : (State.checkMembers s f).serial = s.serial :=
  (State.checkMembers_frame s f).2.2.2.2.2.2.2.2.2.2.2.2.1
@[simp] theorem State.checkMembers_free (s : State) (f : Frame) : (State.checkMembers s f).free = s.free :=
  (State.checkMembers_frame s f).2.2.2.2.2.2.2.2.2.2.2.2.2.1
@[simp] theorem State.checkMembers_pending (s : State) (f : Frame) : (State.checkMembers s f).pending = s.pending :=
  (State.checkMembers_frame s f).2.2.2.2.2.2.2.2.2.2.2.2.2.2

/-- Fields that `rosterHandoff` keeps. -/
theorem State.rosterHandoff_frame (s : State) (f : Frame) :
    (State.rosterHandoff s f).power = s.power ∧ (State.rosterHandoff s f).port = s.port ∧ (State.rosterHandoff s f).line = s.line ∧ (State.rosterHandoff s f).applyQ = s.applyQ ∧ (State.rosterHandoff s f).unsaved = s.unsaved ∧ (State.rosterHandoff s f).free = s.free ∧ (State.rosterHandoff s f).pending = s.pending := by
  unfold State.rosterHandoff; (repeat' (first | split | dsimp only)) <;> simp
@[simp] theorem State.rosterHandoff_power (s : State) (f : Frame) : (State.rosterHandoff s f).power = s.power :=
  (State.rosterHandoff_frame s f).1
@[simp] theorem State.rosterHandoff_port (s : State) (f : Frame) : (State.rosterHandoff s f).port = s.port :=
  (State.rosterHandoff_frame s f).2.1
@[simp] theorem State.rosterHandoff_line (s : State) (f : Frame) : (State.rosterHandoff s f).line = s.line :=
  (State.rosterHandoff_frame s f).2.2.1
@[simp] theorem State.rosterHandoff_applyQ (s : State) (f : Frame) : (State.rosterHandoff s f).applyQ = s.applyQ :=
  (State.rosterHandoff_frame s f).2.2.2.1
@[simp] theorem State.rosterHandoff_unsaved (s : State) (f : Frame) : (State.rosterHandoff s f).unsaved = s.unsaved :=
  (State.rosterHandoff_frame s f).2.2.2.2.1
@[simp] theorem State.rosterHandoff_free (s : State) (f : Frame) : (State.rosterHandoff s f).free = s.free :=
  (State.rosterHandoff_frame s f).2.2.2.2.2.1
@[simp] theorem State.rosterHandoff_pending (s : State) (f : Frame) : (State.rosterHandoff s f).pending = s.pending :=
  (State.rosterHandoff_frame s f).2.2.2.2.2.2

/-- Fields that `learnOwner` keeps. -/
theorem State.learnOwner_frame (s : State) (r : Region) (o : Station) (e : Epoch) :
    (State.learnOwner s r o e).power = s.power ∧ (State.learnOwner s r o e).line = s.line ∧ (State.learnOwner s r o e).applyQ = s.applyQ ∧ (State.learnOwner s r o e).unsaved = s.unsaved ∧ (State.learnOwner s r o e).serial = s.serial ∧ (State.learnOwner s r o e).free = s.free ∧ (State.learnOwner s r o e).pending = s.pending := by
  unfold State.learnOwner; (repeat' (first | split | dsimp only)) <;> simp
@[simp] theorem State.learnOwner_power (s : State) (r : Region) (o : Station) (e : Epoch) : (State.learnOwner s r o e).power = s.power :=
  (State.learnOwner_frame s r o e).1
@[simp] theorem State.learnOwner_line (s : State) (r : Region) (o : Station) (e : Epoch) : (State.learnOwner s r o e).line = s.line :=
  (State.learnOwner_frame s r o e).2.1
@[simp] theorem State.learnOwner_applyQ (s : State) (r : Region) (o : Station) (e : Epoch) : (State.learnOwner s r o e).applyQ = s.applyQ :=
  (State.learnOwner_frame s r o e).2.2.1
@[simp] theorem State.learnOwner_unsaved (s : State) (r : Region) (o : Station) (e : Epoch) : (State.learnOwner s r o e).unsaved = s.unsaved :=
  (State.learnOwner_frame s r o e).2.2.2.1
@[simp] theorem State.learnOwner_serial (s : State) (r : Region) (o : Station) (e : Epoch) : (State.learnOwner s r o e).serial = s.serial :=
  (State.learnOwner_frame s r o e).2.2.2.2.1
@[simp] theorem State.learnOwner_free (s : State) (r : Region) (o : Station) (e : Epoch) : (State.learnOwner s r o e).free = s.free :=
  (State.learnOwner_frame s r o e).2.2.2.2.2.1
@[simp] theorem State.learnOwner_pending (s : State) (r : Region) (o : Station) (e : Epoch) : (State.learnOwner s r o e).pending = s.pending :=
  (State.learnOwner_frame s r o e).2.2.2.2.2.2

/-- Fields that `addFront` keeps. -/
theorem State.addFront_frame (s : State) (r : Region) :
    (State.addFront s r).power = s.power ∧ (State.addFront s r).nv = s.nv ∧ (State.addFront s r).port = s.port ∧ (State.addFront s r).events = s.events ∧ (State.addFront s r).ctl = s.ctl ∧ (State.addFront s r).line = s.line ∧ (State.addFront s r).table = s.table ∧ (State.addFront s r).out = s.out ∧ (State.addFront s r).applyQ = s.applyQ ∧ (State.addFront s r).unsaved = s.unsaved ∧ (State.addFront s r).catchup = s.catchup ∧ (State.addFront s r).serving = s.serving ∧ (State.addFront s r).arb = s.arb ∧ (State.addFront s r).serial = s.serial ∧ (State.addFront s r).free = s.free ∧ (State.addFront s r).pending = s.pending := by
  unfold State.addFront; (repeat' (first | split | dsimp only)) <;> simp
@[simp] theorem State.addFront_power (s : State) (r : Region) : (State.addFront s r).power = s.power :=
  (State.addFront_frame s r).1
@[simp] theorem State.addFront_nv (s : State) (r : Region) : (State.addFront s r).nv = s.nv :=
  (State.addFront_frame s r).2.1
@[simp] theorem State.addFront_port (s : State) (r : Region) : (State.addFront s r).port = s.port :=
  (State.addFront_frame s r).2.2.1
@[simp] theorem State.addFront_events (s : State) (r : Region) : (State.addFront s r).events = s.events :=
  (State.addFront_frame s r).2.2.2.1
@[simp] theorem State.addFront_ctl (s : State) (r : Region) : (State.addFront s r).ctl = s.ctl :=
  (State.addFront_frame s r).2.2.2.2.1
@[simp] theorem State.addFront_line (s : State) (r : Region) : (State.addFront s r).line = s.line :=
  (State.addFront_frame s r).2.2.2.2.2.1
@[simp] theorem State.addFront_table (s : State) (r : Region) : (State.addFront s r).table = s.table :=
  (State.addFront_frame s r).2.2.2.2.2.2.1
@[simp] theorem State.addFront_out (s : State) (r : Region) : (State.addFront s r).out = s.out :=
  (State.addFront_frame s r).2.2.2.2.2.2.2.1
@[simp] theorem State.addFront_applyQ (s : State) (r : Region) : (State.addFront s r).applyQ = s.applyQ :=
  (State.addFront_frame s r).2.2.2.2.2.2.2.2.1
@[simp] theorem State.addFront_unsaved (s : State) (r : Region) : (State.addFront s r).unsaved = s.unsaved :=
  (State.addFront_frame s r).2.2.2.2.2.2.2.2.2.1
@[simp] theorem State.addFront_catchup (s : State) (r : Region) : (State.addFront s r).catchup = s.catchup :=
  (State.addFront_frame s r).2.2.2.2.2.2.2.2.2.2.1
@[simp] theorem State.addFront_serving (s : State) (r : Region) : (State.addFront s r).serving = s.serving :=
  (State.addFront_frame s r).2.2.2.2.2.2.2.2.2.2.2.1
@[simp] theorem State.addFront_arb (s : State) (r : Region) : (State.addFront s r).arb = s.arb :=
  (State.addFront_frame s r).2.2.2.2.2.2.2.2.2.2.2.2.1
@[simp] theorem State.addFront_serial (s : State) (r : Region) : (State.addFront s r).serial = s.serial :=
  (State.addFront_frame s r).2.2.2.2.2.2.2.2.2.2.2.2.2.1
@[simp] theorem State.addFront_free (s : State) (r : Region) : (State.addFront s r).free = s.free :=
  (State.addFront_frame s r).2.2.2.2.2.2.2.2.2.2.2.2.2.2.1
@[simp] theorem State.addFront_pending (s : State) (r : Region) : (State.addFront s r).pending = s.pending :=
  (State.addFront_frame s r).2.2.2.2.2.2.2.2.2.2.2.2.2.2.2

/-- Fields that `loseConflict` keeps. -/
theorem State.loseConflict_frame (s : State) (r : Region) (o : Station) (stamp : Stamp) :
    (State.loseConflict s r o stamp).power = s.power ∧ (State.loseConflict s r o stamp).line = s.line ∧ (State.loseConflict s r o stamp).applyQ = s.applyQ ∧ (State.loseConflict s r o stamp).unsaved = s.unsaved ∧ (State.loseConflict s r o stamp).serial = s.serial ∧ (State.loseConflict s r o stamp).free = s.free ∧ (State.loseConflict s r o stamp).pending = s.pending := by
  unfold State.loseConflict; (repeat' (first | split | dsimp only)) <;> simp
@[simp] theorem State.loseConflict_power (s : State) (r : Region) (o : Station) (stamp : Stamp) : (State.loseConflict s r o stamp).power = s.power :=
  (State.loseConflict_frame s r o stamp).1
@[simp] theorem State.loseConflict_line (s : State) (r : Region) (o : Station) (stamp : Stamp) : (State.loseConflict s r o stamp).line = s.line :=
  (State.loseConflict_frame s r o stamp).2.1
@[simp] theorem State.loseConflict_applyQ (s : State) (r : Region) (o : Station) (stamp : Stamp) : (State.loseConflict s r o stamp).applyQ = s.applyQ :=
  (State.loseConflict_frame s r o stamp).2.2.1
@[simp] theorem State.loseConflict_unsaved (s : State) (r : Region) (o : Station) (stamp : Stamp) : (State.loseConflict s r o stamp).unsaved = s.unsaved :=
  (State.loseConflict_frame s r o stamp).2.2.2.1
@[simp] theorem State.loseConflict_serial (s : State) (r : Region) (o : Station) (stamp : Stamp) : (State.loseConflict s r o stamp).serial = s.serial :=
  (State.loseConflict_frame s r o stamp).2.2.2.2.1
@[simp] theorem State.loseConflict_free (s : State) (r : Region) (o : Station) (stamp : Stamp) : (State.loseConflict s r o stamp).free = s.free :=
  (State.loseConflict_frame s r o stamp).2.2.2.2.2.1
@[simp] theorem State.loseConflict_pending (s : State) (r : Region) (o : Station) (stamp : Stamp) : (State.loseConflict s r o stamp).pending = s.pending :=
  (State.loseConflict_frame s r o stamp).2.2.2.2.2.2

/-- Fields that `resolveConflict` keeps. -/
theorem State.resolveConflict_frame (s : State) (r : Region) (o : Station) (stamp : Stamp) :
    (State.resolveConflict s r o stamp).power = s.power ∧ (State.resolveConflict s r o stamp).line = s.line ∧ (State.resolveConflict s r o stamp).applyQ = s.applyQ ∧ (State.resolveConflict s r o stamp).unsaved = s.unsaved ∧ (State.resolveConflict s r o stamp).serial = s.serial ∧ (State.resolveConflict s r o stamp).free = s.free ∧ (State.resolveConflict s r o stamp).pending = s.pending := by
  unfold State.resolveConflict; (repeat' (first | split | dsimp only)) <;> simp
@[simp] theorem State.resolveConflict_power (s : State) (r : Region) (o : Station) (stamp : Stamp) : (State.resolveConflict s r o stamp).power = s.power :=
  (State.resolveConflict_frame s r o stamp).1
@[simp] theorem State.resolveConflict_line (s : State) (r : Region) (o : Station) (stamp : Stamp) : (State.resolveConflict s r o stamp).line = s.line :=
  (State.resolveConflict_frame s r o stamp).2.1
@[simp] theorem State.resolveConflict_applyQ (s : State) (r : Region) (o : Station) (stamp : Stamp) : (State.resolveConflict s r o stamp).applyQ = s.applyQ :=
  (State.resolveConflict_frame s r o stamp).2.2.1
@[simp] theorem State.resolveConflict_unsaved (s : State) (r : Region) (o : Station) (stamp : Stamp) : (State.resolveConflict s r o stamp).unsaved = s.unsaved :=
  (State.resolveConflict_frame s r o stamp).2.2.2.1
@[simp] theorem State.resolveConflict_serial (s : State) (r : Region) (o : Station) (stamp : Stamp) : (State.resolveConflict s r o stamp).serial = s.serial :=
  (State.resolveConflict_frame s r o stamp).2.2.2.2.1
@[simp] theorem State.resolveConflict_free (s : State) (r : Region) (o : Station) (stamp : Stamp) : (State.resolveConflict s r o stamp).free = s.free :=
  (State.resolveConflict_frame s r o stamp).2.2.2.2.2.1
@[simp] theorem State.resolveConflict_pending (s : State) (r : Region) (o : Station) (stamp : Stamp) : (State.resolveConflict s r o stamp).pending = s.pending :=
  (State.resolveConflict_frame s r o stamp).2.2.2.2.2.2

/-- Fields that `claimCopy` keeps. -/
theorem State.claimCopy_frame (s : State) (r : Region) (stamp : Stamp) :
    (State.claimCopy s r stamp).power = s.power ∧ (State.claimCopy s r stamp).port = s.port ∧ (State.claimCopy s r stamp).ctl = s.ctl ∧ (State.claimCopy s r stamp).line = s.line ∧ (State.claimCopy s r stamp).roster = s.roster ∧ (State.claimCopy s r stamp).out = s.out ∧ (State.claimCopy s r stamp).applyQ = s.applyQ ∧ (State.claimCopy s r stamp).unsaved = s.unsaved ∧ (State.claimCopy s r stamp).serving = s.serving ∧ (State.claimCopy s r stamp).arb = s.arb ∧ (State.claimCopy s r stamp).serial = s.serial ∧ (State.claimCopy s r stamp).free = s.free ∧ (State.claimCopy s r stamp).pending = s.pending := by
  unfold State.claimCopy; (repeat' (first | split | dsimp only)) <;> simp
@[simp] theorem State.claimCopy_power (s : State) (r : Region) (stamp : Stamp) : (State.claimCopy s r stamp).power = s.power :=
  (State.claimCopy_frame s r stamp).1
@[simp] theorem State.claimCopy_port (s : State) (r : Region) (stamp : Stamp) : (State.claimCopy s r stamp).port = s.port :=
  (State.claimCopy_frame s r stamp).2.1
@[simp] theorem State.claimCopy_ctl (s : State) (r : Region) (stamp : Stamp) : (State.claimCopy s r stamp).ctl = s.ctl :=
  (State.claimCopy_frame s r stamp).2.2.1
@[simp] theorem State.claimCopy_line (s : State) (r : Region) (stamp : Stamp) : (State.claimCopy s r stamp).line = s.line :=
  (State.claimCopy_frame s r stamp).2.2.2.1
@[simp] theorem State.claimCopy_roster (s : State) (r : Region) (stamp : Stamp) : (State.claimCopy s r stamp).roster = s.roster :=
  (State.claimCopy_frame s r stamp).2.2.2.2.1
@[simp] theorem State.claimCopy_out (s : State) (r : Region) (stamp : Stamp) : (State.claimCopy s r stamp).out = s.out :=
  (State.claimCopy_frame s r stamp).2.2.2.2.2.1
@[simp] theorem State.claimCopy_applyQ (s : State) (r : Region) (stamp : Stamp) : (State.claimCopy s r stamp).applyQ = s.applyQ :=
  (State.claimCopy_frame s r stamp).2.2.2.2.2.2.1
@[simp] theorem State.claimCopy_unsaved (s : State) (r : Region) (stamp : Stamp) : (State.claimCopy s r stamp).unsaved = s.unsaved :=
  (State.claimCopy_frame s r stamp).2.2.2.2.2.2.2.1
@[simp] theorem State.claimCopy_serving (s : State) (r : Region) (stamp : Stamp) : (State.claimCopy s r stamp).serving = s.serving :=
  (State.claimCopy_frame s r stamp).2.2.2.2.2.2.2.2.1
@[simp] theorem State.claimCopy_arb (s : State) (r : Region) (stamp : Stamp) : (State.claimCopy s r stamp).arb = s.arb :=
  (State.claimCopy_frame s r stamp).2.2.2.2.2.2.2.2.2.1
@[simp] theorem State.claimCopy_serial (s : State) (r : Region) (stamp : Stamp) : (State.claimCopy s r stamp).serial = s.serial :=
  (State.claimCopy_frame s r stamp).2.2.2.2.2.2.2.2.2.2.1
@[simp] theorem State.claimCopy_free (s : State) (r : Region) (stamp : Stamp) : (State.claimCopy s r stamp).free = s.free :=
  (State.claimCopy_frame s r stamp).2.2.2.2.2.2.2.2.2.2.2.1
@[simp] theorem State.claimCopy_pending (s : State) (r : Region) (stamp : Stamp) : (State.claimCopy s r stamp).pending = s.pending :=
  (State.claimCopy_frame s r stamp).2.2.2.2.2.2.2.2.2.2.2.2

/-- Fields that `yielded` keeps. -/
theorem State.yielded_frame (s : State) (r : Region) (former : Bool) :
    (State.yielded s r former).power = s.power ∧ (State.yielded s r former).port = s.port ∧ (State.yielded s r former).ctl = s.ctl ∧ (State.yielded s r former).line = s.line ∧ (State.yielded s r former).roster = s.roster ∧ (State.yielded s r former).out = s.out ∧ (State.yielded s r former).applyQ = s.applyQ ∧ (State.yielded s r former).unsaved = s.unsaved ∧ (State.yielded s r former).catchup = s.catchup ∧ (State.yielded s r former).serving = s.serving ∧ (State.yielded s r former).arb = s.arb ∧ (State.yielded s r former).serial = s.serial ∧ (State.yielded s r former).free = s.free ∧ (State.yielded s r former).pending = s.pending := by
  unfold State.yielded; (repeat' (first | split | dsimp only)) <;> simp
@[simp] theorem State.yielded_power (s : State) (r : Region) (former : Bool) : (State.yielded s r former).power = s.power :=
  (State.yielded_frame s r former).1
@[simp] theorem State.yielded_port (s : State) (r : Region) (former : Bool) : (State.yielded s r former).port = s.port :=
  (State.yielded_frame s r former).2.1
@[simp] theorem State.yielded_ctl (s : State) (r : Region) (former : Bool) : (State.yielded s r former).ctl = s.ctl :=
  (State.yielded_frame s r former).2.2.1
@[simp] theorem State.yielded_line (s : State) (r : Region) (former : Bool) : (State.yielded s r former).line = s.line :=
  (State.yielded_frame s r former).2.2.2.1
@[simp] theorem State.yielded_roster (s : State) (r : Region) (former : Bool) : (State.yielded s r former).roster = s.roster :=
  (State.yielded_frame s r former).2.2.2.2.1
@[simp] theorem State.yielded_out (s : State) (r : Region) (former : Bool) : (State.yielded s r former).out = s.out :=
  (State.yielded_frame s r former).2.2.2.2.2.1
@[simp] theorem State.yielded_applyQ (s : State) (r : Region) (former : Bool) : (State.yielded s r former).applyQ = s.applyQ :=
  (State.yielded_frame s r former).2.2.2.2.2.2.1
@[simp] theorem State.yielded_unsaved (s : State) (r : Region) (former : Bool) : (State.yielded s r former).unsaved = s.unsaved :=
  (State.yielded_frame s r former).2.2.2.2.2.2.2.1
@[simp] theorem State.yielded_catchup (s : State) (r : Region) (former : Bool) : (State.yielded s r former).catchup = s.catchup :=
  (State.yielded_frame s r former).2.2.2.2.2.2.2.2.1
@[simp] theorem State.yielded_serving (s : State) (r : Region) (former : Bool) : (State.yielded s r former).serving = s.serving :=
  (State.yielded_frame s r former).2.2.2.2.2.2.2.2.2.1
@[simp] theorem State.yielded_arb (s : State) (r : Region) (former : Bool) : (State.yielded s r former).arb = s.arb :=
  (State.yielded_frame s r former).2.2.2.2.2.2.2.2.2.2.1
@[simp] theorem State.yielded_serial (s : State) (r : Region) (former : Bool) : (State.yielded s r former).serial = s.serial :=
  (State.yielded_frame s r former).2.2.2.2.2.2.2.2.2.2.2.1
@[simp] theorem State.yielded_free (s : State) (r : Region) (former : Bool) : (State.yielded s r former).free = s.free :=
  (State.yielded_frame s r former).2.2.2.2.2.2.2.2.2.2.2.2.1
@[simp] theorem State.yielded_pending (s : State) (r : Region) (former : Bool) : (State.yielded s r former).pending = s.pending :=
  (State.yielded_frame s r former).2.2.2.2.2.2.2.2.2.2.2.2.2

/-- Fields that `claimOwner` keeps. -/
theorem State.claimOwner_frame (s : State) (c : Station) (r : Region) (stamp : Stamp) :
    (State.claimOwner s c r stamp).power = s.power ∧ (State.claimOwner s c r stamp).line = s.line ∧ (State.claimOwner s c r stamp).applyQ = s.applyQ ∧ (State.claimOwner s c r stamp).unsaved = s.unsaved ∧ (State.claimOwner s c r stamp).serial = s.serial ∧ (State.claimOwner s c r stamp).free = s.free ∧ (State.claimOwner s c r stamp).pending = s.pending := by
  unfold State.claimOwner; (repeat' (first | split | dsimp only)) <;> simp
@[simp] theorem State.claimOwner_power (s : State) (c : Station) (r : Region) (stamp : Stamp) : (State.claimOwner s c r stamp).power = s.power :=
  (State.claimOwner_frame s c r stamp).1
@[simp] theorem State.claimOwner_line (s : State) (c : Station) (r : Region) (stamp : Stamp) : (State.claimOwner s c r stamp).line = s.line :=
  (State.claimOwner_frame s c r stamp).2.1
@[simp] theorem State.claimOwner_applyQ (s : State) (c : Station) (r : Region) (stamp : Stamp) : (State.claimOwner s c r stamp).applyQ = s.applyQ :=
  (State.claimOwner_frame s c r stamp).2.2.1
@[simp] theorem State.claimOwner_unsaved (s : State) (c : Station) (r : Region) (stamp : Stamp) : (State.claimOwner s c r stamp).unsaved = s.unsaved :=
  (State.claimOwner_frame s c r stamp).2.2.2.1
@[simp] theorem State.claimOwner_serial (s : State) (c : Station) (r : Region) (stamp : Stamp) : (State.claimOwner s c r stamp).serial = s.serial :=
  (State.claimOwner_frame s c r stamp).2.2.2.2.1
@[simp] theorem State.claimOwner_free (s : State) (c : Station) (r : Region) (stamp : Stamp) : (State.claimOwner s c r stamp).free = s.free :=
  (State.claimOwner_frame s c r stamp).2.2.2.2.2.1
@[simp] theorem State.claimOwner_pending (s : State) (c : Station) (r : Region) (stamp : Stamp) : (State.claimOwner s c r stamp).pending = s.pending :=
  (State.claimOwner_frame s c r stamp).2.2.2.2.2.2

/-- Fields that `applyClaim` keeps. -/
theorem State.applyClaim_frame (s : State) (c : Station) (r : Region) (stamp : Stamp) :
    (State.applyClaim s c r stamp).power = s.power ∧ (State.applyClaim s c r stamp).line = s.line ∧ (State.applyClaim s c r stamp).applyQ = s.applyQ ∧ (State.applyClaim s c r stamp).unsaved = s.unsaved ∧ (State.applyClaim s c r stamp).serial = s.serial ∧ (State.applyClaim s c r stamp).free = s.free ∧ (State.applyClaim s c r stamp).pending = s.pending := by
  unfold State.applyClaim; (repeat' (first | split | dsimp only)) <;> simp
@[simp] theorem State.applyClaim_power (s : State) (c : Station) (r : Region) (stamp : Stamp) : (State.applyClaim s c r stamp).power = s.power :=
  (State.applyClaim_frame s c r stamp).1
@[simp] theorem State.applyClaim_line (s : State) (c : Station) (r : Region) (stamp : Stamp) : (State.applyClaim s c r stamp).line = s.line :=
  (State.applyClaim_frame s c r stamp).2.1
@[simp] theorem State.applyClaim_applyQ (s : State) (c : Station) (r : Region) (stamp : Stamp) : (State.applyClaim s c r stamp).applyQ = s.applyQ :=
  (State.applyClaim_frame s c r stamp).2.2.1
@[simp] theorem State.applyClaim_unsaved (s : State) (c : Station) (r : Region) (stamp : Stamp) : (State.applyClaim s c r stamp).unsaved = s.unsaved :=
  (State.applyClaim_frame s c r stamp).2.2.2.1
@[simp] theorem State.applyClaim_serial (s : State) (c : Station) (r : Region) (stamp : Stamp) : (State.applyClaim s c r stamp).serial = s.serial :=
  (State.applyClaim_frame s c r stamp).2.2.2.2.1
@[simp] theorem State.applyClaim_free (s : State) (c : Station) (r : Region) (stamp : Stamp) : (State.applyClaim s c r stamp).free = s.free :=
  (State.applyClaim_frame s c r stamp).2.2.2.2.2.1
@[simp] theorem State.applyClaim_pending (s : State) (c : Station) (r : Region) (stamp : Stamp) : (State.applyClaim s c r stamp).pending = s.pending :=
  (State.applyClaim_frame s c r stamp).2.2.2.2.2.2

/-- Fields that `postStales` keeps. -/
theorem State.postStales_frame (s : State) (rs : List Region) :
    (State.postStales s rs).power = s.power ∧ (State.postStales s rs).nv = s.nv ∧ (State.postStales s rs).port = s.port ∧ (State.postStales s rs).ctl = s.ctl ∧ (State.postStales s rs).line = s.line ∧ (State.postStales s rs).roster = s.roster ∧ (State.postStales s rs).table = s.table ∧ (State.postStales s rs).out = s.out ∧ (State.postStales s rs).applyQ = s.applyQ ∧ (State.postStales s rs).unsaved = s.unsaved ∧ (State.postStales s rs).catchup = s.catchup ∧ (State.postStales s rs).serving = s.serving ∧ (State.postStales s rs).arb = s.arb ∧ (State.postStales s rs).serial = s.serial ∧ (State.postStales s rs).free = s.free ∧ (State.postStales s rs).pending = s.pending := by
  unfold State.postStales
  refine ⟨?_, ?_, ?_, ?_, ?_, ?_, ?_, ?_, ?_, ?_, ?_, ?_, ?_, ?_, ?_, ?_⟩
  all_goals exact (foldl_keeps _ _ (fun t x => by simp) _ _).trans (by simp)
@[simp] theorem State.postStales_power (s : State) (rs : List Region) : (State.postStales s rs).power = s.power :=
  (State.postStales_frame s rs).1
@[simp] theorem State.postStales_nv (s : State) (rs : List Region) : (State.postStales s rs).nv = s.nv :=
  (State.postStales_frame s rs).2.1
@[simp] theorem State.postStales_port (s : State) (rs : List Region) : (State.postStales s rs).port = s.port :=
  (State.postStales_frame s rs).2.2.1
@[simp] theorem State.postStales_ctl (s : State) (rs : List Region) : (State.postStales s rs).ctl = s.ctl :=
  (State.postStales_frame s rs).2.2.2.1
@[simp] theorem State.postStales_line (s : State) (rs : List Region) : (State.postStales s rs).line = s.line :=
  (State.postStales_frame s rs).2.2.2.2.1
@[simp] theorem State.postStales_roster (s : State) (rs : List Region) : (State.postStales s rs).roster = s.roster :=
  (State.postStales_frame s rs).2.2.2.2.2.1
@[simp] theorem State.postStales_table (s : State) (rs : List Region) : (State.postStales s rs).table = s.table :=
  (State.postStales_frame s rs).2.2.2.2.2.2.1
@[simp] theorem State.postStales_out (s : State) (rs : List Region) : (State.postStales s rs).out = s.out :=
  (State.postStales_frame s rs).2.2.2.2.2.2.2.1
@[simp] theorem State.postStales_applyQ (s : State) (rs : List Region) : (State.postStales s rs).applyQ = s.applyQ :=
  (State.postStales_frame s rs).2.2.2.2.2.2.2.2.1
@[simp] theorem State.postStales_unsaved (s : State) (rs : List Region) : (State.postStales s rs).unsaved = s.unsaved :=
  (State.postStales_frame s rs).2.2.2.2.2.2.2.2.2.1
@[simp] theorem State.postStales_catchup (s : State) (rs : List Region) : (State.postStales s rs).catchup = s.catchup :=
  (State.postStales_frame s rs).2.2.2.2.2.2.2.2.2.2.1
@[simp] theorem State.postStales_serving (s : State) (rs : List Region) : (State.postStales s rs).serving = s.serving :=
  (State.postStales_frame s rs).2.2.2.2.2.2.2.2.2.2.2.1
@[simp] theorem State.postStales_arb (s : State) (rs : List Region) : (State.postStales s rs).arb = s.arb :=
  (State.postStales_frame s rs).2.2.2.2.2.2.2.2.2.2.2.2.1
@[simp] theorem State.postStales_serial (s : State) (rs : List Region) : (State.postStales s rs).serial = s.serial :=
  (State.postStales_frame s rs).2.2.2.2.2.2.2.2.2.2.2.2.2.1
@[simp] theorem State.postStales_free (s : State) (rs : List Region) : (State.postStales s rs).free = s.free :=
  (State.postStales_frame s rs).2.2.2.2.2.2.2.2.2.2.2.2.2.2.1
@[simp] theorem State.postStales_pending (s : State) (rs : List Region) : (State.postStales s rs).pending = s.pending :=
  (State.postStales_frame s rs).2.2.2.2.2.2.2.2.2.2.2.2.2.2.2

/-- Fields that `postIsolation` keeps. -/
theorem State.postIsolation_frame (s : State) :
    (State.postIsolation s).power = s.power ∧ (State.postIsolation s).nv = s.nv ∧ (State.postIsolation s).port = s.port ∧ (State.postIsolation s).ctl = s.ctl ∧ (State.postIsolation s).line = s.line ∧ (State.postIsolation s).roster = s.roster ∧ (State.postIsolation s).table = s.table ∧ (State.postIsolation s).out = s.out ∧ (State.postIsolation s).applyQ = s.applyQ ∧ (State.postIsolation s).unsaved = s.unsaved ∧ (State.postIsolation s).catchup = s.catchup ∧ (State.postIsolation s).serving = s.serving ∧ (State.postIsolation s).arb = s.arb ∧ (State.postIsolation s).serial = s.serial ∧ (State.postIsolation s).free = s.free ∧ (State.postIsolation s).pending = s.pending := by
  unfold State.postIsolation; (repeat' (first | split | dsimp only)) <;> simp
@[simp] theorem State.postIsolation_power (s : State) : (State.postIsolation s).power = s.power :=
  (State.postIsolation_frame s).1
@[simp] theorem State.postIsolation_nv (s : State) : (State.postIsolation s).nv = s.nv :=
  (State.postIsolation_frame s).2.1
@[simp] theorem State.postIsolation_port (s : State) : (State.postIsolation s).port = s.port :=
  (State.postIsolation_frame s).2.2.1
@[simp] theorem State.postIsolation_ctl (s : State) : (State.postIsolation s).ctl = s.ctl :=
  (State.postIsolation_frame s).2.2.2.1
@[simp] theorem State.postIsolation_line (s : State) : (State.postIsolation s).line = s.line :=
  (State.postIsolation_frame s).2.2.2.2.1
@[simp] theorem State.postIsolation_roster (s : State) : (State.postIsolation s).roster = s.roster :=
  (State.postIsolation_frame s).2.2.2.2.2.1
@[simp] theorem State.postIsolation_table (s : State) : (State.postIsolation s).table = s.table :=
  (State.postIsolation_frame s).2.2.2.2.2.2.1
@[simp] theorem State.postIsolation_out (s : State) : (State.postIsolation s).out = s.out :=
  (State.postIsolation_frame s).2.2.2.2.2.2.2.1
@[simp] theorem State.postIsolation_applyQ (s : State) : (State.postIsolation s).applyQ = s.applyQ :=
  (State.postIsolation_frame s).2.2.2.2.2.2.2.2.1
@[simp] theorem State.postIsolation_unsaved (s : State) : (State.postIsolation s).unsaved = s.unsaved :=
  (State.postIsolation_frame s).2.2.2.2.2.2.2.2.2.1
@[simp] theorem State.postIsolation_catchup (s : State) : (State.postIsolation s).catchup = s.catchup :=
  (State.postIsolation_frame s).2.2.2.2.2.2.2.2.2.2.1
@[simp] theorem State.postIsolation_serving (s : State) : (State.postIsolation s).serving = s.serving :=
  (State.postIsolation_frame s).2.2.2.2.2.2.2.2.2.2.2.1
@[simp] theorem State.postIsolation_arb (s : State) : (State.postIsolation s).arb = s.arb :=
  (State.postIsolation_frame s).2.2.2.2.2.2.2.2.2.2.2.2.1
@[simp] theorem State.postIsolation_serial (s : State) : (State.postIsolation s).serial = s.serial :=
  (State.postIsolation_frame s).2.2.2.2.2.2.2.2.2.2.2.2.2.1
@[simp] theorem State.postIsolation_free (s : State) : (State.postIsolation s).free = s.free :=
  (State.postIsolation_frame s).2.2.2.2.2.2.2.2.2.2.2.2.2.2.1
@[simp] theorem State.postIsolation_pending (s : State) : (State.postIsolation s).pending = s.pending :=
  (State.postIsolation_frame s).2.2.2.2.2.2.2.2.2.2.2.2.2.2.2

/-- Fields that `wakeUp` keeps. -/
theorem State.wakeUp_frame (s : State) (coincidence : Option Region) :
    (State.wakeUp s coincidence).power = s.power ∧ (State.wakeUp s coincidence).port = s.port ∧ (State.wakeUp s coincidence).line = s.line ∧ (State.wakeUp s coincidence).roster = s.roster ∧ (State.wakeUp s coincidence).applyQ = s.applyQ ∧ (State.wakeUp s coincidence).unsaved = s.unsaved ∧ (State.wakeUp s coincidence).serving = s.serving ∧ (State.wakeUp s coincidence).arb = s.arb ∧ (State.wakeUp s coincidence).serial = s.serial ∧ (State.wakeUp s coincidence).free = s.free ∧ (State.wakeUp s coincidence).pending = s.pending := by
  unfold State.wakeUp; (repeat' (first | split | dsimp only)) <;> simp
@[simp] theorem State.wakeUp_power (s : State) (coincidence : Option Region) : (State.wakeUp s coincidence).power = s.power :=
  (State.wakeUp_frame s coincidence).1
@[simp] theorem State.wakeUp_port (s : State) (coincidence : Option Region) : (State.wakeUp s coincidence).port = s.port :=
  (State.wakeUp_frame s coincidence).2.1
@[simp] theorem State.wakeUp_line (s : State) (coincidence : Option Region) : (State.wakeUp s coincidence).line = s.line :=
  (State.wakeUp_frame s coincidence).2.2.1
@[simp] theorem State.wakeUp_roster (s : State) (coincidence : Option Region) : (State.wakeUp s coincidence).roster = s.roster :=
  (State.wakeUp_frame s coincidence).2.2.2.1
@[simp] theorem State.wakeUp_applyQ (s : State) (coincidence : Option Region) : (State.wakeUp s coincidence).applyQ = s.applyQ :=
  (State.wakeUp_frame s coincidence).2.2.2.2.1
@[simp] theorem State.wakeUp_unsaved (s : State) (coincidence : Option Region) : (State.wakeUp s coincidence).unsaved = s.unsaved :=
  (State.wakeUp_frame s coincidence).2.2.2.2.2.1
@[simp] theorem State.wakeUp_serving (s : State) (coincidence : Option Region) : (State.wakeUp s coincidence).serving = s.serving :=
  (State.wakeUp_frame s coincidence).2.2.2.2.2.2.1
@[simp] theorem State.wakeUp_arb (s : State) (coincidence : Option Region) : (State.wakeUp s coincidence).arb = s.arb :=
  (State.wakeUp_frame s coincidence).2.2.2.2.2.2.2.1
@[simp] theorem State.wakeUp_serial (s : State) (coincidence : Option Region) : (State.wakeUp s coincidence).serial = s.serial :=
  (State.wakeUp_frame s coincidence).2.2.2.2.2.2.2.2.1
@[simp] theorem State.wakeUp_free (s : State) (coincidence : Option Region) : (State.wakeUp s coincidence).free = s.free :=
  (State.wakeUp_frame s coincidence).2.2.2.2.2.2.2.2.2.1
@[simp] theorem State.wakeUp_pending (s : State) (coincidence : Option Region) : (State.wakeUp s coincidence).pending = s.pending :=
  (State.wakeUp_frame s coincidence).2.2.2.2.2.2.2.2.2.2

/-- Fields that `endVote` keeps. -/
theorem State.endVote_frame (s : State) (r : Region) :
    (State.endVote s r).power = s.power ∧ (State.endVote s r).port = s.port ∧ (State.endVote s r).events = s.events ∧ (State.endVote s r).ctl = s.ctl ∧ (State.endVote s r).line = s.line ∧ (State.endVote s r).roster = s.roster ∧ (State.endVote s r).out = s.out ∧ (State.endVote s r).applyQ = s.applyQ ∧ (State.endVote s r).unsaved = s.unsaved ∧ (State.endVote s r).catchup = s.catchup ∧ (State.endVote s r).serving = s.serving ∧ (State.endVote s r).arb = s.arb ∧ (State.endVote s r).serial = s.serial ∧ (State.endVote s r).free = s.free ∧ (State.endVote s r).pending = s.pending := by
  unfold State.endVote; (repeat' (first | split | dsimp only)) <;> simp
@[simp] theorem State.endVote_power (s : State) (r : Region) : (State.endVote s r).power = s.power :=
  (State.endVote_frame s r).1
@[simp] theorem State.endVote_port (s : State) (r : Region) : (State.endVote s r).port = s.port :=
  (State.endVote_frame s r).2.1
@[simp] theorem State.endVote_events (s : State) (r : Region) : (State.endVote s r).events = s.events :=
  (State.endVote_frame s r).2.2.1
@[simp] theorem State.endVote_ctl (s : State) (r : Region) : (State.endVote s r).ctl = s.ctl :=
  (State.endVote_frame s r).2.2.2.1
@[simp] theorem State.endVote_line (s : State) (r : Region) : (State.endVote s r).line = s.line :=
  (State.endVote_frame s r).2.2.2.2.1
@[simp] theorem State.endVote_roster (s : State) (r : Region) : (State.endVote s r).roster = s.roster :=
  (State.endVote_frame s r).2.2.2.2.2.1
@[simp] theorem State.endVote_out (s : State) (r : Region) : (State.endVote s r).out = s.out :=
  (State.endVote_frame s r).2.2.2.2.2.2.1
@[simp] theorem State.endVote_applyQ (s : State) (r : Region) : (State.endVote s r).applyQ = s.applyQ :=
  (State.endVote_frame s r).2.2.2.2.2.2.2.1
@[simp] theorem State.endVote_unsaved (s : State) (r : Region) : (State.endVote s r).unsaved = s.unsaved :=
  (State.endVote_frame s r).2.2.2.2.2.2.2.2.1
@[simp] theorem State.endVote_catchup (s : State) (r : Region) : (State.endVote s r).catchup = s.catchup :=
  (State.endVote_frame s r).2.2.2.2.2.2.2.2.2.1
@[simp] theorem State.endVote_serving (s : State) (r : Region) : (State.endVote s r).serving = s.serving :=
  (State.endVote_frame s r).2.2.2.2.2.2.2.2.2.2.1
@[simp] theorem State.endVote_arb (s : State) (r : Region) : (State.endVote s r).arb = s.arb :=
  (State.endVote_frame s r).2.2.2.2.2.2.2.2.2.2.2.1
@[simp] theorem State.endVote_serial (s : State) (r : Region) : (State.endVote s r).serial = s.serial :=
  (State.endVote_frame s r).2.2.2.2.2.2.2.2.2.2.2.2.1
@[simp] theorem State.endVote_free (s : State) (r : Region) : (State.endVote s r).free = s.free :=
  (State.endVote_frame s r).2.2.2.2.2.2.2.2.2.2.2.2.2.1
@[simp] theorem State.endVote_pending (s : State) (r : Region) : (State.endVote s r).pending = s.pending :=
  (State.endVote_frame s r).2.2.2.2.2.2.2.2.2.2.2.2.2.2

/-- Fields that `dropFrame` keeps. -/
theorem State.dropFrame_frame (s : State) :
    (State.dropFrame s).power = s.power ∧ (State.dropFrame s).port = s.port ∧ (State.dropFrame s).events = s.events ∧ (State.dropFrame s).ctl = s.ctl ∧ (State.dropFrame s).roster = s.roster ∧ (State.dropFrame s).out = s.out ∧ (State.dropFrame s).applyQ = s.applyQ ∧ (State.dropFrame s).unsaved = s.unsaved ∧ (State.dropFrame s).catchup = s.catchup ∧ (State.dropFrame s).serving = s.serving ∧ (State.dropFrame s).arb = s.arb ∧ (State.dropFrame s).serial = s.serial ∧ (State.dropFrame s).free = s.free ∧ (State.dropFrame s).pending = s.pending := by
  unfold State.dropFrame; (repeat' (first | split | dsimp only)) <;> simp
@[simp] theorem State.dropFrame_power (s : State) : (State.dropFrame s).power = s.power :=
  (State.dropFrame_frame s).1
@[simp] theorem State.dropFrame_port (s : State) : (State.dropFrame s).port = s.port :=
  (State.dropFrame_frame s).2.1
@[simp] theorem State.dropFrame_events (s : State) : (State.dropFrame s).events = s.events :=
  (State.dropFrame_frame s).2.2.1
@[simp] theorem State.dropFrame_ctl (s : State) : (State.dropFrame s).ctl = s.ctl :=
  (State.dropFrame_frame s).2.2.2.1
@[simp] theorem State.dropFrame_roster (s : State) : (State.dropFrame s).roster = s.roster :=
  (State.dropFrame_frame s).2.2.2.2.1
@[simp] theorem State.dropFrame_out (s : State) : (State.dropFrame s).out = s.out :=
  (State.dropFrame_frame s).2.2.2.2.2.1
@[simp] theorem State.dropFrame_applyQ (s : State) : (State.dropFrame s).applyQ = s.applyQ :=
  (State.dropFrame_frame s).2.2.2.2.2.2.1
@[simp] theorem State.dropFrame_unsaved (s : State) : (State.dropFrame s).unsaved = s.unsaved :=
  (State.dropFrame_frame s).2.2.2.2.2.2.2.1
@[simp] theorem State.dropFrame_catchup (s : State) : (State.dropFrame s).catchup = s.catchup :=
  (State.dropFrame_frame s).2.2.2.2.2.2.2.2.1
@[simp] theorem State.dropFrame_serving (s : State) : (State.dropFrame s).serving = s.serving :=
  (State.dropFrame_frame s).2.2.2.2.2.2.2.2.2.1
@[simp] theorem State.dropFrame_arb (s : State) : (State.dropFrame s).arb = s.arb :=
  (State.dropFrame_frame s).2.2.2.2.2.2.2.2.2.2.1
@[simp] theorem State.dropFrame_serial (s : State) : (State.dropFrame s).serial = s.serial :=
  (State.dropFrame_frame s).2.2.2.2.2.2.2.2.2.2.2.1
@[simp] theorem State.dropFrame_free (s : State) : (State.dropFrame s).free = s.free :=
  (State.dropFrame_frame s).2.2.2.2.2.2.2.2.2.2.2.2.1
@[simp] theorem State.dropFrame_pending (s : State) : (State.dropFrame s).pending = s.pending :=
  (State.dropFrame_frame s).2.2.2.2.2.2.2.2.2.2.2.2.2

/-- Fields that `lineOff` keeps. -/
theorem State.lineOff_frame (s : State) :
    (State.lineOff s).power = s.power ∧ (State.lineOff s).port = s.port ∧ (State.lineOff s).events = s.events ∧ (State.lineOff s).ctl = s.ctl ∧ (State.lineOff s).roster = s.roster ∧ (State.lineOff s).out = s.out ∧ (State.lineOff s).applyQ = s.applyQ ∧ (State.lineOff s).unsaved = s.unsaved ∧ (State.lineOff s).catchup = s.catchup ∧ (State.lineOff s).serving = s.serving ∧ (State.lineOff s).arb = s.arb ∧ (State.lineOff s).serial = s.serial ∧ (State.lineOff s).free = s.free ∧ (State.lineOff s).pending = s.pending := by
  unfold State.lineOff; (repeat' (first | split | dsimp only)) <;> simp
@[simp] theorem State.lineOff_power (s : State) : (State.lineOff s).power = s.power :=
  (State.lineOff_frame s).1
@[simp] theorem State.lineOff_port (s : State) : (State.lineOff s).port = s.port :=
  (State.lineOff_frame s).2.1
@[simp] theorem State.lineOff_events (s : State) : (State.lineOff s).events = s.events :=
  (State.lineOff_frame s).2.2.1
@[simp] theorem State.lineOff_ctl (s : State) : (State.lineOff s).ctl = s.ctl :=
  (State.lineOff_frame s).2.2.2.1
@[simp] theorem State.lineOff_roster (s : State) : (State.lineOff s).roster = s.roster :=
  (State.lineOff_frame s).2.2.2.2.1
@[simp] theorem State.lineOff_out (s : State) : (State.lineOff s).out = s.out :=
  (State.lineOff_frame s).2.2.2.2.2.1
@[simp] theorem State.lineOff_applyQ (s : State) : (State.lineOff s).applyQ = s.applyQ :=
  (State.lineOff_frame s).2.2.2.2.2.2.1
@[simp] theorem State.lineOff_unsaved (s : State) : (State.lineOff s).unsaved = s.unsaved :=
  (State.lineOff_frame s).2.2.2.2.2.2.2.1
@[simp] theorem State.lineOff_catchup (s : State) : (State.lineOff s).catchup = s.catchup :=
  (State.lineOff_frame s).2.2.2.2.2.2.2.2.1
@[simp] theorem State.lineOff_serving (s : State) : (State.lineOff s).serving = s.serving :=
  (State.lineOff_frame s).2.2.2.2.2.2.2.2.2.1
@[simp] theorem State.lineOff_arb (s : State) : (State.lineOff s).arb = s.arb :=
  (State.lineOff_frame s).2.2.2.2.2.2.2.2.2.2.1
@[simp] theorem State.lineOff_serial (s : State) : (State.lineOff s).serial = s.serial :=
  (State.lineOff_frame s).2.2.2.2.2.2.2.2.2.2.2.1
@[simp] theorem State.lineOff_free (s : State) : (State.lineOff s).free = s.free :=
  (State.lineOff_frame s).2.2.2.2.2.2.2.2.2.2.2.2.1
@[simp] theorem State.lineOff_pending (s : State) : (State.lineOff s).pending = s.pending :=
  (State.lineOff_frame s).2.2.2.2.2.2.2.2.2.2.2.2.2

/-- Fields that `disown` keeps. -/
theorem State.disown_frame (s : State) (r : Region) :
    (State.disown s r).power = s.power ∧ (State.disown s r).line = s.line ∧ (State.disown s r).applyQ = s.applyQ ∧ (State.disown s r).unsaved = s.unsaved ∧ (State.disown s r).serial = s.serial ∧ (State.disown s r).free = s.free ∧ (State.disown s r).pending = s.pending := by
  unfold State.disown; (repeat' (first | split | dsimp only)) <;> simp
@[simp] theorem State.disown_power (s : State) (r : Region) : (State.disown s r).power = s.power :=
  (State.disown_frame s r).1
@[simp] theorem State.disown_line (s : State) (r : Region) : (State.disown s r).line = s.line :=
  (State.disown_frame s r).2.1
@[simp] theorem State.disown_applyQ (s : State) (r : Region) : (State.disown s r).applyQ = s.applyQ :=
  (State.disown_frame s r).2.2.1
@[simp] theorem State.disown_unsaved (s : State) (r : Region) : (State.disown s r).unsaved = s.unsaved :=
  (State.disown_frame s r).2.2.2.1
@[simp] theorem State.disown_serial (s : State) (r : Region) : (State.disown s r).serial = s.serial :=
  (State.disown_frame s r).2.2.2.2.1
@[simp] theorem State.disown_free (s : State) (r : Region) : (State.disown s r).free = s.free :=
  (State.disown_frame s r).2.2.2.2.2.1
@[simp] theorem State.disown_pending (s : State) (r : Region) : (State.disown s r).pending = s.pending :=
  (State.disown_frame s r).2.2.2.2.2.2

/-- Fields that `haltRegion` keeps. -/
theorem State.haltRegion_frame (s : State) (r : Region) :
    (State.haltRegion s r).power = s.power ∧ (State.haltRegion s r).line = s.line ∧ (State.haltRegion s r).applyQ = s.applyQ ∧ (State.haltRegion s r).unsaved = s.unsaved ∧ (State.haltRegion s r).serial = s.serial ∧ (State.haltRegion s r).free = s.free ∧ (State.haltRegion s r).pending = s.pending := by
  unfold State.haltRegion; (repeat' (first | split | dsimp only)) <;> simp
@[simp] theorem State.haltRegion_power (s : State) (r : Region) : (State.haltRegion s r).power = s.power :=
  (State.haltRegion_frame s r).1
@[simp] theorem State.haltRegion_line (s : State) (r : Region) : (State.haltRegion s r).line = s.line :=
  (State.haltRegion_frame s r).2.1
@[simp] theorem State.haltRegion_applyQ (s : State) (r : Region) : (State.haltRegion s r).applyQ = s.applyQ :=
  (State.haltRegion_frame s r).2.2.1
@[simp] theorem State.haltRegion_unsaved (s : State) (r : Region) : (State.haltRegion s r).unsaved = s.unsaved :=
  (State.haltRegion_frame s r).2.2.2.1
@[simp] theorem State.haltRegion_serial (s : State) (r : Region) : (State.haltRegion s r).serial = s.serial :=
  (State.haltRegion_frame s r).2.2.2.2.1
@[simp] theorem State.haltRegion_free (s : State) (r : Region) : (State.haltRegion s r).free = s.free :=
  (State.haltRegion_frame s r).2.2.2.2.2.1
@[simp] theorem State.haltRegion_pending (s : State) (r : Region) : (State.haltRegion s r).pending = s.pending :=
  (State.haltRegion_frame s r).2.2.2.2.2.2

/-- Fields that `haltApply` keeps. -/
theorem State.haltApply_frame (s : State) :
    (State.haltApply s).power = s.power ∧ (State.haltApply s).line = s.line ∧ (State.haltApply s).unsaved = s.unsaved ∧ (State.haltApply s).serial = s.serial ∧ (State.haltApply s).free = s.free ∧ (State.haltApply s).pending = s.pending := by
  unfold State.haltApply
  refine ⟨?_, ?_, ?_, ?_, ?_, ?_⟩
  all_goals exact (foldl_keeps _ _ (fun t x => by simp) _ _).trans (by simp)
@[simp] theorem State.haltApply_power (s : State) : (State.haltApply s).power = s.power :=
  (State.haltApply_frame s).1
@[simp] theorem State.haltApply_line (s : State) : (State.haltApply s).line = s.line :=
  (State.haltApply_frame s).2.1
@[simp] theorem State.haltApply_unsaved (s : State) : (State.haltApply s).unsaved = s.unsaved :=
  (State.haltApply_frame s).2.2.1
@[simp] theorem State.haltApply_serial (s : State) : (State.haltApply s).serial = s.serial :=
  (State.haltApply_frame s).2.2.2.1
@[simp] theorem State.haltApply_free (s : State) : (State.haltApply s).free = s.free :=
  (State.haltApply_frame s).2.2.2.2.1
@[simp] theorem State.haltApply_pending (s : State) : (State.haltApply s).pending = s.pending :=
  (State.haltApply_frame s).2.2.2.2.2

/-- Fields that `stopTimers` keeps. -/
theorem State.stopTimers_frame (s : State) :
    (State.stopTimers s).power = s.power ∧ (State.stopTimers s).nv = s.nv ∧ (State.stopTimers s).port = s.port ∧ (State.stopTimers s).events = s.events ∧ (State.stopTimers s).line = s.line ∧ (State.stopTimers s).roster = s.roster ∧ (State.stopTimers s).table = s.table ∧ (State.stopTimers s).out = s.out ∧ (State.stopTimers s).applyQ = s.applyQ ∧ (State.stopTimers s).unsaved = s.unsaved ∧ (State.stopTimers s).catchup = s.catchup ∧ (State.stopTimers s).serving = s.serving ∧ (State.stopTimers s).arb = s.arb ∧ (State.stopTimers s).serial = s.serial ∧ (State.stopTimers s).free = s.free ∧ (State.stopTimers s).pending = s.pending := by
  unfold State.stopTimers; (repeat' (first | split | dsimp only)) <;> simp
@[simp] theorem State.stopTimers_power (s : State) : (State.stopTimers s).power = s.power :=
  (State.stopTimers_frame s).1
@[simp] theorem State.stopTimers_nv (s : State) : (State.stopTimers s).nv = s.nv :=
  (State.stopTimers_frame s).2.1
@[simp] theorem State.stopTimers_port (s : State) : (State.stopTimers s).port = s.port :=
  (State.stopTimers_frame s).2.2.1
@[simp] theorem State.stopTimers_events (s : State) : (State.stopTimers s).events = s.events :=
  (State.stopTimers_frame s).2.2.2.1
@[simp] theorem State.stopTimers_line (s : State) : (State.stopTimers s).line = s.line :=
  (State.stopTimers_frame s).2.2.2.2.1
@[simp] theorem State.stopTimers_roster (s : State) : (State.stopTimers s).roster = s.roster :=
  (State.stopTimers_frame s).2.2.2.2.2.1
@[simp] theorem State.stopTimers_table (s : State) : (State.stopTimers s).table = s.table :=
  (State.stopTimers_frame s).2.2.2.2.2.2.1
@[simp] theorem State.stopTimers_out (s : State) : (State.stopTimers s).out = s.out :=
  (State.stopTimers_frame s).2.2.2.2.2.2.2.1
@[simp] theorem State.stopTimers_applyQ (s : State) : (State.stopTimers s).applyQ = s.applyQ :=
  (State.stopTimers_frame s).2.2.2.2.2.2.2.2.1
@[simp] theorem State.stopTimers_unsaved (s : State) : (State.stopTimers s).unsaved = s.unsaved :=
  (State.stopTimers_frame s).2.2.2.2.2.2.2.2.2.1
@[simp] theorem State.stopTimers_catchup (s : State) : (State.stopTimers s).catchup = s.catchup :=
  (State.stopTimers_frame s).2.2.2.2.2.2.2.2.2.2.1
@[simp] theorem State.stopTimers_serving (s : State) : (State.stopTimers s).serving = s.serving :=
  (State.stopTimers_frame s).2.2.2.2.2.2.2.2.2.2.2.1
@[simp] theorem State.stopTimers_arb (s : State) : (State.stopTimers s).arb = s.arb :=
  (State.stopTimers_frame s).2.2.2.2.2.2.2.2.2.2.2.2.1
@[simp] theorem State.stopTimers_serial (s : State) : (State.stopTimers s).serial = s.serial :=
  (State.stopTimers_frame s).2.2.2.2.2.2.2.2.2.2.2.2.2.1
@[simp] theorem State.stopTimers_free (s : State) : (State.stopTimers s).free = s.free :=
  (State.stopTimers_frame s).2.2.2.2.2.2.2.2.2.2.2.2.2.2.1
@[simp] theorem State.stopTimers_pending (s : State) : (State.stopTimers s).pending = s.pending :=
  (State.stopTimers_frame s).2.2.2.2.2.2.2.2.2.2.2.2.2.2.2

/-- Fields that `clearOutbox` keeps. -/
theorem State.clearOutbox_frame (s : State) :
    (State.clearOutbox s).power = s.power ∧ (State.clearOutbox s).nv = s.nv ∧ (State.clearOutbox s).port = s.port ∧ (State.clearOutbox s).events = s.events ∧ (State.clearOutbox s).ctl = s.ctl ∧ (State.clearOutbox s).line = s.line ∧ (State.clearOutbox s).roster = s.roster ∧ (State.clearOutbox s).table = s.table ∧ (State.clearOutbox s).applyQ = s.applyQ ∧ (State.clearOutbox s).unsaved = s.unsaved ∧ (State.clearOutbox s).catchup = s.catchup ∧ (State.clearOutbox s).serving = s.serving ∧ (State.clearOutbox s).arb = s.arb ∧ (State.clearOutbox s).serial = s.serial ∧ (State.clearOutbox s).free = s.free ∧ (State.clearOutbox s).pending = s.pending := by
  unfold State.clearOutbox; (repeat' (first | split | dsimp only)) <;> simp
@[simp] theorem State.clearOutbox_power (s : State) : (State.clearOutbox s).power = s.power :=
  (State.clearOutbox_frame s).1
@[simp] theorem State.clearOutbox_nv (s : State) : (State.clearOutbox s).nv = s.nv :=
  (State.clearOutbox_frame s).2.1
@[simp] theorem State.clearOutbox_port (s : State) : (State.clearOutbox s).port = s.port :=
  (State.clearOutbox_frame s).2.2.1
@[simp] theorem State.clearOutbox_events (s : State) : (State.clearOutbox s).events = s.events :=
  (State.clearOutbox_frame s).2.2.2.1
@[simp] theorem State.clearOutbox_ctl (s : State) : (State.clearOutbox s).ctl = s.ctl :=
  (State.clearOutbox_frame s).2.2.2.2.1
@[simp] theorem State.clearOutbox_line (s : State) : (State.clearOutbox s).line = s.line :=
  (State.clearOutbox_frame s).2.2.2.2.2.1
@[simp] theorem State.clearOutbox_roster (s : State) : (State.clearOutbox s).roster = s.roster :=
  (State.clearOutbox_frame s).2.2.2.2.2.2.1
@[simp] theorem State.clearOutbox_table (s : State) : (State.clearOutbox s).table = s.table :=
  (State.clearOutbox_frame s).2.2.2.2.2.2.2.1
@[simp] theorem State.clearOutbox_applyQ (s : State) : (State.clearOutbox s).applyQ = s.applyQ :=
  (State.clearOutbox_frame s).2.2.2.2.2.2.2.2.1
@[simp] theorem State.clearOutbox_unsaved (s : State) : (State.clearOutbox s).unsaved = s.unsaved :=
  (State.clearOutbox_frame s).2.2.2.2.2.2.2.2.2.1
@[simp] theorem State.clearOutbox_catchup (s : State) : (State.clearOutbox s).catchup = s.catchup :=
  (State.clearOutbox_frame s).2.2.2.2.2.2.2.2.2.2.1
@[simp] theorem State.clearOutbox_serving (s : State) : (State.clearOutbox s).serving = s.serving :=
  (State.clearOutbox_frame s).2.2.2.2.2.2.2.2.2.2.2.1
@[simp] theorem State.clearOutbox_arb (s : State) : (State.clearOutbox s).arb = s.arb :=
  (State.clearOutbox_frame s).2.2.2.2.2.2.2.2.2.2.2.2.1
@[simp] theorem State.clearOutbox_serial (s : State) : (State.clearOutbox s).serial = s.serial :=
  (State.clearOutbox_frame s).2.2.2.2.2.2.2.2.2.2.2.2.2.1
@[simp] theorem State.clearOutbox_free (s : State) : (State.clearOutbox s).free = s.free :=
  (State.clearOutbox_frame s).2.2.2.2.2.2.2.2.2.2.2.2.2.2.1
@[simp] theorem State.clearOutbox_pending (s : State) : (State.clearOutbox s).pending = s.pending :=
  (State.clearOutbox_frame s).2.2.2.2.2.2.2.2.2.2.2.2.2.2.2

/-- Fields that `halt` keeps. -/
theorem State.halt_frame (s : State) (c : HaltCause) :
    (State.halt s c).power = s.power ∧ (State.halt s c).unsaved = s.unsaved ∧ (State.halt s c).serial = s.serial ∧ (State.halt s c).free = s.free ∧ (State.halt s c).pending = s.pending := by
  unfold State.halt; (repeat' (first | split | dsimp only)) <;> simp
@[simp] theorem State.halt_power (s : State) (c : HaltCause) : (State.halt s c).power = s.power :=
  (State.halt_frame s c).1
@[simp] theorem State.halt_unsaved (s : State) (c : HaltCause) : (State.halt s c).unsaved = s.unsaved :=
  (State.halt_frame s c).2.1
@[simp] theorem State.halt_serial (s : State) (c : HaltCause) : (State.halt s c).serial = s.serial :=
  (State.halt_frame s c).2.2.1
@[simp] theorem State.halt_free (s : State) (c : HaltCause) : (State.halt s c).free = s.free :=
  (State.halt_frame s c).2.2.2.1
@[simp] theorem State.halt_pending (s : State) (c : HaltCause) : (State.halt s c).pending = s.pending :=
  (State.halt_frame s c).2.2.2.2

/-- Fields that `forgetOwners` keeps. -/
theorem State.forgetOwners_frame (s : State) :
    (State.forgetOwners s).power = s.power ∧ (State.forgetOwners s).nv = s.nv ∧ (State.forgetOwners s).port = s.port ∧ (State.forgetOwners s).events = s.events ∧ (State.forgetOwners s).ctl = s.ctl ∧ (State.forgetOwners s).line = s.line ∧ (State.forgetOwners s).roster = s.roster ∧ (State.forgetOwners s).out = s.out ∧ (State.forgetOwners s).applyQ = s.applyQ ∧ (State.forgetOwners s).unsaved = s.unsaved ∧ (State.forgetOwners s).catchup = s.catchup ∧ (State.forgetOwners s).serving = s.serving ∧ (State.forgetOwners s).arb = s.arb ∧ (State.forgetOwners s).serial = s.serial ∧ (State.forgetOwners s).free = s.free ∧ (State.forgetOwners s).pending = s.pending := by
  unfold State.forgetOwners; (repeat' (first | split | dsimp only)) <;> simp
@[simp] theorem State.forgetOwners_power (s : State) : (State.forgetOwners s).power = s.power :=
  (State.forgetOwners_frame s).1
@[simp] theorem State.forgetOwners_nv (s : State) : (State.forgetOwners s).nv = s.nv :=
  (State.forgetOwners_frame s).2.1
@[simp] theorem State.forgetOwners_port (s : State) : (State.forgetOwners s).port = s.port :=
  (State.forgetOwners_frame s).2.2.1
@[simp] theorem State.forgetOwners_events (s : State) : (State.forgetOwners s).events = s.events :=
  (State.forgetOwners_frame s).2.2.2.1
@[simp] theorem State.forgetOwners_ctl (s : State) : (State.forgetOwners s).ctl = s.ctl :=
  (State.forgetOwners_frame s).2.2.2.2.1
@[simp] theorem State.forgetOwners_line (s : State) : (State.forgetOwners s).line = s.line :=
  (State.forgetOwners_frame s).2.2.2.2.2.1
@[simp] theorem State.forgetOwners_roster (s : State) : (State.forgetOwners s).roster = s.roster :=
  (State.forgetOwners_frame s).2.2.2.2.2.2.1
@[simp] theorem State.forgetOwners_out (s : State) : (State.forgetOwners s).out = s.out :=
  (State.forgetOwners_frame s).2.2.2.2.2.2.2.1
@[simp] theorem State.forgetOwners_applyQ (s : State) : (State.forgetOwners s).applyQ = s.applyQ :=
  (State.forgetOwners_frame s).2.2.2.2.2.2.2.2.1
@[simp] theorem State.forgetOwners_unsaved (s : State) : (State.forgetOwners s).unsaved = s.unsaved :=
  (State.forgetOwners_frame s).2.2.2.2.2.2.2.2.2.1
@[simp] theorem State.forgetOwners_catchup (s : State) : (State.forgetOwners s).catchup = s.catchup :=
  (State.forgetOwners_frame s).2.2.2.2.2.2.2.2.2.2.1
@[simp] theorem State.forgetOwners_serving (s : State) : (State.forgetOwners s).serving = s.serving :=
  (State.forgetOwners_frame s).2.2.2.2.2.2.2.2.2.2.2.1
@[simp] theorem State.forgetOwners_arb (s : State) : (State.forgetOwners s).arb = s.arb :=
  (State.forgetOwners_frame s).2.2.2.2.2.2.2.2.2.2.2.2.1
@[simp] theorem State.forgetOwners_serial (s : State) : (State.forgetOwners s).serial = s.serial :=
  (State.forgetOwners_frame s).2.2.2.2.2.2.2.2.2.2.2.2.2.1
@[simp] theorem State.forgetOwners_free (s : State) : (State.forgetOwners s).free = s.free :=
  (State.forgetOwners_frame s).2.2.2.2.2.2.2.2.2.2.2.2.2.2.1
@[simp] theorem State.forgetOwners_pending (s : State) : (State.forgetOwners s).pending = s.pending :=
  (State.forgetOwners_frame s).2.2.2.2.2.2.2.2.2.2.2.2.2.2.2

/-- Fields that `goOffline` keeps. -/
theorem State.goOffline_frame (s : State) :
    (State.goOffline s).power = s.power ∧ (State.goOffline s).port = s.port ∧ (State.goOffline s).out = s.out ∧ (State.goOffline s).applyQ = s.applyQ ∧ (State.goOffline s).unsaved = s.unsaved ∧ (State.goOffline s).catchup = s.catchup ∧ (State.goOffline s).serving = s.serving ∧ (State.goOffline s).arb = s.arb ∧ (State.goOffline s).serial = s.serial ∧ (State.goOffline s).free = s.free ∧ (State.goOffline s).pending = s.pending := by
  unfold State.goOffline; (repeat' (first | split | dsimp only)) <;> simp
@[simp] theorem State.goOffline_power (s : State) : (State.goOffline s).power = s.power :=
  (State.goOffline_frame s).1
@[simp] theorem State.goOffline_port (s : State) : (State.goOffline s).port = s.port :=
  (State.goOffline_frame s).2.1
@[simp] theorem State.goOffline_out (s : State) : (State.goOffline s).out = s.out :=
  (State.goOffline_frame s).2.2.1
@[simp] theorem State.goOffline_applyQ (s : State) : (State.goOffline s).applyQ = s.applyQ :=
  (State.goOffline_frame s).2.2.2.1
@[simp] theorem State.goOffline_unsaved (s : State) : (State.goOffline s).unsaved = s.unsaved :=
  (State.goOffline_frame s).2.2.2.2.1
@[simp] theorem State.goOffline_catchup (s : State) : (State.goOffline s).catchup = s.catchup :=
  (State.goOffline_frame s).2.2.2.2.2.1
@[simp] theorem State.goOffline_serving (s : State) : (State.goOffline s).serving = s.serving :=
  (State.goOffline_frame s).2.2.2.2.2.2.1
@[simp] theorem State.goOffline_arb (s : State) : (State.goOffline s).arb = s.arb :=
  (State.goOffline_frame s).2.2.2.2.2.2.2.1
@[simp] theorem State.goOffline_serial (s : State) : (State.goOffline s).serial = s.serial :=
  (State.goOffline_frame s).2.2.2.2.2.2.2.2.1
@[simp] theorem State.goOffline_free (s : State) : (State.goOffline s).free = s.free :=
  (State.goOffline_frame s).2.2.2.2.2.2.2.2.2.1
@[simp] theorem State.goOffline_pending (s : State) : (State.goOffline s).pending = s.pending :=
  (State.goOffline_frame s).2.2.2.2.2.2.2.2.2.2

/-- Fields that `drainEnd` keeps. -/
theorem State.drainEnd_frame (s : State) :
    (State.drainEnd s).power = s.power ∧ (State.drainEnd s).nv = s.nv ∧ (State.drainEnd s).port = s.port ∧ (State.drainEnd s).events = s.events ∧ (State.drainEnd s).line = s.line ∧ (State.drainEnd s).roster = s.roster ∧ (State.drainEnd s).table = s.table ∧ (State.drainEnd s).out = s.out ∧ (State.drainEnd s).applyQ = s.applyQ ∧ (State.drainEnd s).unsaved = s.unsaved ∧ (State.drainEnd s).catchup = s.catchup ∧ (State.drainEnd s).serving = s.serving ∧ (State.drainEnd s).arb = s.arb ∧ (State.drainEnd s).serial = s.serial ∧ (State.drainEnd s).free = s.free ∧ (State.drainEnd s).pending = s.pending := by
  unfold State.drainEnd; (repeat' (first | split | dsimp only)) <;> simp
@[simp] theorem State.drainEnd_power (s : State) : (State.drainEnd s).power = s.power :=
  (State.drainEnd_frame s).1
@[simp] theorem State.drainEnd_nv (s : State) : (State.drainEnd s).nv = s.nv :=
  (State.drainEnd_frame s).2.1
@[simp] theorem State.drainEnd_port (s : State) : (State.drainEnd s).port = s.port :=
  (State.drainEnd_frame s).2.2.1
@[simp] theorem State.drainEnd_events (s : State) : (State.drainEnd s).events = s.events :=
  (State.drainEnd_frame s).2.2.2.1
@[simp] theorem State.drainEnd_line (s : State) : (State.drainEnd s).line = s.line :=
  (State.drainEnd_frame s).2.2.2.2.1
@[simp] theorem State.drainEnd_roster (s : State) : (State.drainEnd s).roster = s.roster :=
  (State.drainEnd_frame s).2.2.2.2.2.1
@[simp] theorem State.drainEnd_table (s : State) : (State.drainEnd s).table = s.table :=
  (State.drainEnd_frame s).2.2.2.2.2.2.1
@[simp] theorem State.drainEnd_out (s : State) : (State.drainEnd s).out = s.out :=
  (State.drainEnd_frame s).2.2.2.2.2.2.2.1
@[simp] theorem State.drainEnd_applyQ (s : State) : (State.drainEnd s).applyQ = s.applyQ :=
  (State.drainEnd_frame s).2.2.2.2.2.2.2.2.1
@[simp] theorem State.drainEnd_unsaved (s : State) : (State.drainEnd s).unsaved = s.unsaved :=
  (State.drainEnd_frame s).2.2.2.2.2.2.2.2.2.1
@[simp] theorem State.drainEnd_catchup (s : State) : (State.drainEnd s).catchup = s.catchup :=
  (State.drainEnd_frame s).2.2.2.2.2.2.2.2.2.2.1
@[simp] theorem State.drainEnd_serving (s : State) : (State.drainEnd s).serving = s.serving :=
  (State.drainEnd_frame s).2.2.2.2.2.2.2.2.2.2.2.1
@[simp] theorem State.drainEnd_arb (s : State) : (State.drainEnd s).arb = s.arb :=
  (State.drainEnd_frame s).2.2.2.2.2.2.2.2.2.2.2.2.1
@[simp] theorem State.drainEnd_serial (s : State) : (State.drainEnd s).serial = s.serial :=
  (State.drainEnd_frame s).2.2.2.2.2.2.2.2.2.2.2.2.2.1
@[simp] theorem State.drainEnd_free (s : State) : (State.drainEnd s).free = s.free :=
  (State.drainEnd_frame s).2.2.2.2.2.2.2.2.2.2.2.2.2.2.1
@[simp] theorem State.drainEnd_pending (s : State) : (State.drainEnd s).pending = s.pending :=
  (State.drainEnd_frame s).2.2.2.2.2.2.2.2.2.2.2.2.2.2.2

/-- Fields that `finalEnd` keeps. -/
theorem State.finalEnd_frame (s : State) :
    (State.finalEnd s).power = s.power ∧ (State.finalEnd s).port = s.port ∧ (State.finalEnd s).out = s.out ∧ (State.finalEnd s).applyQ = s.applyQ ∧ (State.finalEnd s).unsaved = s.unsaved ∧ (State.finalEnd s).catchup = s.catchup ∧ (State.finalEnd s).serving = s.serving ∧ (State.finalEnd s).arb = s.arb ∧ (State.finalEnd s).serial = s.serial ∧ (State.finalEnd s).free = s.free ∧ (State.finalEnd s).pending = s.pending := by
  unfold State.finalEnd; (repeat' (first | split | dsimp only)) <;> simp
@[simp] theorem State.finalEnd_power (s : State) : (State.finalEnd s).power = s.power :=
  (State.finalEnd_frame s).1
@[simp] theorem State.finalEnd_port (s : State) : (State.finalEnd s).port = s.port :=
  (State.finalEnd_frame s).2.1
@[simp] theorem State.finalEnd_out (s : State) : (State.finalEnd s).out = s.out :=
  (State.finalEnd_frame s).2.2.1
@[simp] theorem State.finalEnd_applyQ (s : State) : (State.finalEnd s).applyQ = s.applyQ :=
  (State.finalEnd_frame s).2.2.2.1
@[simp] theorem State.finalEnd_unsaved (s : State) : (State.finalEnd s).unsaved = s.unsaved :=
  (State.finalEnd_frame s).2.2.2.2.1
@[simp] theorem State.finalEnd_catchup (s : State) : (State.finalEnd s).catchup = s.catchup :=
  (State.finalEnd_frame s).2.2.2.2.2.1
@[simp] theorem State.finalEnd_serving (s : State) : (State.finalEnd s).serving = s.serving :=
  (State.finalEnd_frame s).2.2.2.2.2.2.1
@[simp] theorem State.finalEnd_arb (s : State) : (State.finalEnd s).arb = s.arb :=
  (State.finalEnd_frame s).2.2.2.2.2.2.2.1
@[simp] theorem State.finalEnd_serial (s : State) : (State.finalEnd s).serial = s.serial :=
  (State.finalEnd_frame s).2.2.2.2.2.2.2.2.1
@[simp] theorem State.finalEnd_free (s : State) : (State.finalEnd s).free = s.free :=
  (State.finalEnd_frame s).2.2.2.2.2.2.2.2.2.1
@[simp] theorem State.finalEnd_pending (s : State) : (State.finalEnd s).pending = s.pending :=
  (State.finalEnd_frame s).2.2.2.2.2.2.2.2.2.2

end Sys2Proof.Machine
end

