-- ==== Sys2Proof/Laws/ArbiterFrame.lean ====
section
/-! SUPPORT. What each operation of Machine/Arbiter.lean leaves as it is, field by field. -/

namespace Sys2Proof.Machine

/-- Fields that `setIntent` keeps. -/
theorem State.setIntent_frame (s : State) (i : Option Intent) :
    (State.setIntent s i).power = s.power ∧ (State.setIntent s i).port = s.port ∧ (State.setIntent s i).events = s.events ∧ (State.setIntent s i).ctl = s.ctl ∧ (State.setIntent s i).line = s.line ∧ (State.setIntent s i).roster = s.roster ∧ (State.setIntent s i).table = s.table ∧ (State.setIntent s i).out = s.out ∧ (State.setIntent s i).applyQ = s.applyQ ∧ (State.setIntent s i).unsaved = s.unsaved ∧ (State.setIntent s i).catchup = s.catchup ∧ (State.setIntent s i).serving = s.serving ∧ (State.setIntent s i).arb = s.arb ∧ (State.setIntent s i).serial = s.serial ∧ (State.setIntent s i).free = s.free ∧ (State.setIntent s i).pending = s.pending := by
  unfold State.setIntent; (repeat' (first | split | dsimp only)) <;> simp
@[simp] theorem State.setIntent_power (s : State) (i : Option Intent) : (State.setIntent s i).power = s.power :=
  (State.setIntent_frame s i).1
@[simp] theorem State.setIntent_port (s : State) (i : Option Intent) : (State.setIntent s i).port = s.port :=
  (State.setIntent_frame s i).2.1
@[simp] theorem State.setIntent_events (s : State) (i : Option Intent) : (State.setIntent s i).events = s.events :=
  (State.setIntent_frame s i).2.2.1
@[simp] theorem State.setIntent_ctl (s : State) (i : Option Intent) : (State.setIntent s i).ctl = s.ctl :=
  (State.setIntent_frame s i).2.2.2.1
@[simp] theorem State.setIntent_line (s : State) (i : Option Intent) : (State.setIntent s i).line = s.line :=
  (State.setIntent_frame s i).2.2.2.2.1
@[simp] theorem State.setIntent_roster (s : State) (i : Option Intent) : (State.setIntent s i).roster = s.roster :=
  (State.setIntent_frame s i).2.2.2.2.2.1
@[simp] theorem State.setIntent_table (s : State) (i : Option Intent) : (State.setIntent s i).table = s.table :=
  (State.setIntent_frame s i).2.2.2.2.2.2.1
@[simp] theorem State.setIntent_out (s : State) (i : Option Intent) : (State.setIntent s i).out = s.out :=
  (State.setIntent_frame s i).2.2.2.2.2.2.2.1
@[simp] theorem State.setIntent_applyQ (s : State) (i : Option Intent) : (State.setIntent s i).applyQ = s.applyQ :=
  (State.setIntent_frame s i).2.2.2.2.2.2.2.2.1
@[simp] theorem State.setIntent_unsaved (s : State) (i : Option Intent) : (State.setIntent s i).unsaved = s.unsaved :=
  (State.setIntent_frame s i).2.2.2.2.2.2.2.2.2.1
@[simp] theorem State.setIntent_catchup (s : State) (i : Option Intent) : (State.setIntent s i).catchup = s.catchup :=
  (State.setIntent_frame s i).2.2.2.2.2.2.2.2.2.2.1
@[simp] theorem State.setIntent_serving (s : State) (i : Option Intent) : (State.setIntent s i).serving = s.serving :=
  (State.setIntent_frame s i).2.2.2.2.2.2.2.2.2.2.2.1
@[simp] theorem State.setIntent_arb (s : State) (i : Option Intent) : (State.setIntent s i).arb = s.arb :=
  (State.setIntent_frame s i).2.2.2.2.2.2.2.2.2.2.2.2.1
@[simp] theorem State.setIntent_serial (s : State) (i : Option Intent) : (State.setIntent s i).serial = s.serial :=
  (State.setIntent_frame s i).2.2.2.2.2.2.2.2.2.2.2.2.2.1
@[simp] theorem State.setIntent_free (s : State) (i : Option Intent) : (State.setIntent s i).free = s.free :=
  (State.setIntent_frame s i).2.2.2.2.2.2.2.2.2.2.2.2.2.2.1
@[simp] theorem State.setIntent_pending (s : State) (i : Option Intent) : (State.setIntent s i).pending = s.pending :=
  (State.setIntent_frame s i).2.2.2.2.2.2.2.2.2.2.2.2.2.2.2

/-- Fields that `grantHost` keeps. -/
theorem State.grantHost_frame (s : State) :
    (State.grantHost s).power = s.power ∧ (State.grantHost s).port = s.port ∧ (State.grantHost s).events = s.events ∧ (State.grantHost s).ctl = s.ctl ∧ (State.grantHost s).line = s.line ∧ (State.grantHost s).roster = s.roster ∧ (State.grantHost s).table = s.table ∧ (State.grantHost s).out = s.out ∧ (State.grantHost s).applyQ = s.applyQ ∧ (State.grantHost s).unsaved = s.unsaved ∧ (State.grantHost s).catchup = s.catchup ∧ (State.grantHost s).serving = s.serving ∧ (State.grantHost s).serial = s.serial ∧ (State.grantHost s).free = s.free ∧ (State.grantHost s).pending = s.pending := by
  unfold State.grantHost; (repeat' (first | split | dsimp only)) <;> simp
@[simp] theorem State.grantHost_power (s : State) : (State.grantHost s).power = s.power :=
  (State.grantHost_frame s).1
@[simp] theorem State.grantHost_port (s : State) : (State.grantHost s).port = s.port :=
  (State.grantHost_frame s).2.1
@[simp] theorem State.grantHost_events (s : State) : (State.grantHost s).events = s.events :=
  (State.grantHost_frame s).2.2.1
@[simp] theorem State.grantHost_ctl (s : State) : (State.grantHost s).ctl = s.ctl :=
  (State.grantHost_frame s).2.2.2.1
@[simp] theorem State.grantHost_line (s : State) : (State.grantHost s).line = s.line :=
  (State.grantHost_frame s).2.2.2.2.1
@[simp] theorem State.grantHost_roster (s : State) : (State.grantHost s).roster = s.roster :=
  (State.grantHost_frame s).2.2.2.2.2.1
@[simp] theorem State.grantHost_table (s : State) : (State.grantHost s).table = s.table :=
  (State.grantHost_frame s).2.2.2.2.2.2.1
@[simp] theorem State.grantHost_out (s : State) : (State.grantHost s).out = s.out :=
  (State.grantHost_frame s).2.2.2.2.2.2.2.1
@[simp] theorem State.grantHost_applyQ (s : State) : (State.grantHost s).applyQ = s.applyQ :=
  (State.grantHost_frame s).2.2.2.2.2.2.2.2.1
@[simp] theorem State.grantHost_unsaved (s : State) : (State.grantHost s).unsaved = s.unsaved :=
  (State.grantHost_frame s).2.2.2.2.2.2.2.2.2.1
@[simp] theorem State.grantHost_catchup (s : State) : (State.grantHost s).catchup = s.catchup :=
  (State.grantHost_frame s).2.2.2.2.2.2.2.2.2.2.1
@[simp] theorem State.grantHost_serving (s : State) : (State.grantHost s).serving = s.serving :=
  (State.grantHost_frame s).2.2.2.2.2.2.2.2.2.2.2.1
@[simp] theorem State.grantHost_serial (s : State) : (State.grantHost s).serial = s.serial :=
  (State.grantHost_frame s).2.2.2.2.2.2.2.2.2.2.2.2.1
@[simp] theorem State.grantHost_free (s : State) : (State.grantHost s).free = s.free :=
  (State.grantHost_frame s).2.2.2.2.2.2.2.2.2.2.2.2.2.1
@[simp] theorem State.grantHost_pending (s : State) : (State.grantHost s).pending = s.pending :=
  (State.grantHost_frame s).2.2.2.2.2.2.2.2.2.2.2.2.2.2

/-- Fields that `grantHead` keeps. -/
theorem State.grantHead_frame (s : State) :
    (State.grantHead s).power = s.power ∧ (State.grantHead s).port = s.port ∧ (State.grantHead s).events = s.events ∧ (State.grantHead s).ctl = s.ctl ∧ (State.grantHead s).line = s.line ∧ (State.grantHead s).roster = s.roster ∧ (State.grantHead s).table = s.table ∧ (State.grantHead s).out = s.out ∧ (State.grantHead s).applyQ = s.applyQ ∧ (State.grantHead s).unsaved = s.unsaved ∧ (State.grantHead s).catchup = s.catchup ∧ (State.grantHead s).serving = s.serving ∧ (State.grantHead s).serial = s.serial ∧ (State.grantHead s).free = s.free ∧ (State.grantHead s).pending = s.pending := by
  unfold State.grantHead; (repeat' (first | split | dsimp only)) <;> simp
@[simp] theorem State.grantHead_power (s : State) : (State.grantHead s).power = s.power :=
  (State.grantHead_frame s).1
@[simp] theorem State.grantHead_port (s : State) : (State.grantHead s).port = s.port :=
  (State.grantHead_frame s).2.1
@[simp] theorem State.grantHead_events (s : State) : (State.grantHead s).events = s.events :=
  (State.grantHead_frame s).2.2.1
@[simp] theorem State.grantHead_ctl (s : State) : (State.grantHead s).ctl = s.ctl :=
  (State.grantHead_frame s).2.2.2.1
@[simp] theorem State.grantHead_line (s : State) : (State.grantHead s).line = s.line :=
  (State.grantHead_frame s).2.2.2.2.1
@[simp] theorem State.grantHead_roster (s : State) : (State.grantHead s).roster = s.roster :=
  (State.grantHead_frame s).2.2.2.2.2.1
@[simp] theorem State.grantHead_table (s : State) : (State.grantHead s).table = s.table :=
  (State.grantHead_frame s).2.2.2.2.2.2.1
@[simp] theorem State.grantHead_out (s : State) : (State.grantHead s).out = s.out :=
  (State.grantHead_frame s).2.2.2.2.2.2.2.1
@[simp] theorem State.grantHead_applyQ (s : State) : (State.grantHead s).applyQ = s.applyQ :=
  (State.grantHead_frame s).2.2.2.2.2.2.2.2.1
@[simp] theorem State.grantHead_unsaved (s : State) : (State.grantHead s).unsaved = s.unsaved :=
  (State.grantHead_frame s).2.2.2.2.2.2.2.2.2.1
@[simp] theorem State.grantHead_catchup (s : State) : (State.grantHead s).catchup = s.catchup :=
  (State.grantHead_frame s).2.2.2.2.2.2.2.2.2.2.1
@[simp] theorem State.grantHead_serving (s : State) : (State.grantHead s).serving = s.serving :=
  (State.grantHead_frame s).2.2.2.2.2.2.2.2.2.2.2.1
@[simp] theorem State.grantHead_serial (s : State) : (State.grantHead s).serial = s.serial :=
  (State.grantHead_frame s).2.2.2.2.2.2.2.2.2.2.2.2.1
@[simp] theorem State.grantHead_free (s : State) : (State.grantHead s).free = s.free :=
  (State.grantHead_frame s).2.2.2.2.2.2.2.2.2.2.2.2.2.1
@[simp] theorem State.grantHead_pending (s : State) : (State.grantHead s).pending = s.pending :=
  (State.grantHead_frame s).2.2.2.2.2.2.2.2.2.2.2.2.2.2

/-- Fields that `grantImage` keeps. -/
theorem State.grantImage_frame (s : State) (v : ServingRecord) :
    (State.grantImage s v).power = s.power ∧ (State.grantImage s v).nv = s.nv ∧ (State.grantImage s v).port = s.port ∧ (State.grantImage s v).events = s.events ∧ (State.grantImage s v).ctl = s.ctl ∧ (State.grantImage s v).line = s.line ∧ (State.grantImage s v).roster = s.roster ∧ (State.grantImage s v).table = s.table ∧ (State.grantImage s v).out = s.out ∧ (State.grantImage s v).applyQ = s.applyQ ∧ (State.grantImage s v).unsaved = s.unsaved ∧ (State.grantImage s v).catchup = s.catchup ∧ (State.grantImage s v).serial = s.serial ∧ (State.grantImage s v).free = s.free ∧ (State.grantImage s v).pending = s.pending := by
  unfold State.grantImage; (repeat' (first | split | dsimp only)) <;> simp
@[simp] theorem State.grantImage_power (s : State) (v : ServingRecord) : (State.grantImage s v).power = s.power :=
  (State.grantImage_frame s v).1
@[simp] theorem State.grantImage_nv (s : State) (v : ServingRecord) : (State.grantImage s v).nv = s.nv :=
  (State.grantImage_frame s v).2.1
@[simp] theorem State.grantImage_port (s : State) (v : ServingRecord) : (State.grantImage s v).port = s.port :=
  (State.grantImage_frame s v).2.2.1
@[simp] theorem State.grantImage_events (s : State) (v : ServingRecord) : (State.grantImage s v).events = s.events :=
  (State.grantImage_frame s v).2.2.2.1
@[simp] theorem State.grantImage_ctl (s : State) (v : ServingRecord) : (State.grantImage s v).ctl = s.ctl :=
  (State.grantImage_frame s v).2.2.2.2.1
@[simp] theorem State.grantImage_line (s : State) (v : ServingRecord) : (State.grantImage s v).line = s.line :=
  (State.grantImage_frame s v).2.2.2.2.2.1
@[simp] theorem State.grantImage_roster (s : State) (v : ServingRecord) : (State.grantImage s v).roster = s.roster :=
  (State.grantImage_frame s v).2.2.2.2.2.2.1
@[simp] theorem State.grantImage_table (s : State) (v : ServingRecord) : (State.grantImage s v).table = s.table :=
  (State.grantImage_frame s v).2.2.2.2.2.2.2.1
@[simp] theorem State.grantImage_out (s : State) (v : ServingRecord) : (State.grantImage s v).out = s.out :=
  (State.grantImage_frame s v).2.2.2.2.2.2.2.2.1
@[simp] theorem State.grantImage_applyQ (s : State) (v : ServingRecord) : (State.grantImage s v).applyQ = s.applyQ :=
  (State.grantImage_frame s v).2.2.2.2.2.2.2.2.2.1
@[simp] theorem State.grantImage_unsaved (s : State) (v : ServingRecord) : (State.grantImage s v).unsaved = s.unsaved :=
  (State.grantImage_frame s v).2.2.2.2.2.2.2.2.2.2.1
@[simp] theorem State.grantImage_catchup (s : State) (v : ServingRecord) : (State.grantImage s v).catchup = s.catchup :=
  (State.grantImage_frame s v).2.2.2.2.2.2.2.2.2.2.2.1
@[simp] theorem State.grantImage_serial (s : State) (v : ServingRecord) : (State.grantImage s v).serial = s.serial :=
  (State.grantImage_frame s v).2.2.2.2.2.2.2.2.2.2.2.2.1
@[simp] theorem State.grantImage_free (s : State) (v : ServingRecord) : (State.grantImage s v).free = s.free :=
  (State.grantImage_frame s v).2.2.2.2.2.2.2.2.2.2.2.2.2.1
@[simp] theorem State.grantImage_pending (s : State) (v : ServingRecord) : (State.grantImage s v).pending = s.pending :=
  (State.grantImage_frame s v).2.2.2.2.2.2.2.2.2.2.2.2.2.2

/-- Fields that `arbitrate` keeps. -/
theorem State.arbitrate_frame (s : State) :
    (State.arbitrate s).power = s.power ∧ (State.arbitrate s).port = s.port ∧ (State.arbitrate s).events = s.events ∧ (State.arbitrate s).ctl = s.ctl ∧ (State.arbitrate s).line = s.line ∧ (State.arbitrate s).roster = s.roster ∧ (State.arbitrate s).table = s.table ∧ (State.arbitrate s).out = s.out ∧ (State.arbitrate s).applyQ = s.applyQ ∧ (State.arbitrate s).unsaved = s.unsaved ∧ (State.arbitrate s).catchup = s.catchup ∧ (State.arbitrate s).serial = s.serial ∧ (State.arbitrate s).free = s.free ∧ (State.arbitrate s).pending = s.pending := by
  unfold State.arbitrate; (repeat' (first | split | dsimp only)) <;> simp
@[simp] theorem State.arbitrate_power (s : State) : (State.arbitrate s).power = s.power :=
  (State.arbitrate_frame s).1
@[simp] theorem State.arbitrate_port (s : State) : (State.arbitrate s).port = s.port :=
  (State.arbitrate_frame s).2.1
@[simp] theorem State.arbitrate_events (s : State) : (State.arbitrate s).events = s.events :=
  (State.arbitrate_frame s).2.2.1
@[simp] theorem State.arbitrate_ctl (s : State) : (State.arbitrate s).ctl = s.ctl :=
  (State.arbitrate_frame s).2.2.2.1
@[simp] theorem State.arbitrate_line (s : State) : (State.arbitrate s).line = s.line :=
  (State.arbitrate_frame s).2.2.2.2.1
@[simp] theorem State.arbitrate_roster (s : State) : (State.arbitrate s).roster = s.roster :=
  (State.arbitrate_frame s).2.2.2.2.2.1
@[simp] theorem State.arbitrate_table (s : State) : (State.arbitrate s).table = s.table :=
  (State.arbitrate_frame s).2.2.2.2.2.2.1
@[simp] theorem State.arbitrate_out (s : State) : (State.arbitrate s).out = s.out :=
  (State.arbitrate_frame s).2.2.2.2.2.2.2.1
@[simp] theorem State.arbitrate_applyQ (s : State) : (State.arbitrate s).applyQ = s.applyQ :=
  (State.arbitrate_frame s).2.2.2.2.2.2.2.2.1
@[simp] theorem State.arbitrate_unsaved (s : State) : (State.arbitrate s).unsaved = s.unsaved :=
  (State.arbitrate_frame s).2.2.2.2.2.2.2.2.2.1
@[simp] theorem State.arbitrate_catchup (s : State) : (State.arbitrate s).catchup = s.catchup :=
  (State.arbitrate_frame s).2.2.2.2.2.2.2.2.2.2.1
@[simp] theorem State.arbitrate_serial (s : State) : (State.arbitrate s).serial = s.serial :=
  (State.arbitrate_frame s).2.2.2.2.2.2.2.2.2.2.2.1
@[simp] theorem State.arbitrate_free (s : State) : (State.arbitrate s).free = s.free :=
  (State.arbitrate_frame s).2.2.2.2.2.2.2.2.2.2.2.2.1
@[simp] theorem State.arbitrate_pending (s : State) : (State.arbitrate s).pending = s.pending :=
  (State.arbitrate_frame s).2.2.2.2.2.2.2.2.2.2.2.2.2

/-- Fields that `resume` keeps. -/
theorem State.resume_frame (s : State) :
    (State.resume s).power = s.power ∧ (State.resume s).port = s.port ∧ (State.resume s).events = s.events ∧ (State.resume s).ctl = s.ctl ∧ (State.resume s).line = s.line ∧ (State.resume s).roster = s.roster ∧ (State.resume s).applyQ = s.applyQ ∧ (State.resume s).unsaved = s.unsaved ∧ (State.resume s).free = s.free ∧ (State.resume s).pending = s.pending := by
  unfold State.resume; (repeat' (first | split | dsimp only)) <;> simp
@[simp] theorem State.resume_power (s : State) : (State.resume s).power = s.power :=
  (State.resume_frame s).1
@[simp] theorem State.resume_port (s : State) : (State.resume s).port = s.port :=
  (State.resume_frame s).2.1
@[simp] theorem State.resume_events (s : State) : (State.resume s).events = s.events :=
  (State.resume_frame s).2.2.1
@[simp] theorem State.resume_ctl (s : State) : (State.resume s).ctl = s.ctl :=
  (State.resume_frame s).2.2.2.1
@[simp] theorem State.resume_line (s : State) : (State.resume s).line = s.line :=
  (State.resume_frame s).2.2.2.2.1
@[simp] theorem State.resume_roster (s : State) : (State.resume s).roster = s.roster :=
  (State.resume_frame s).2.2.2.2.2.1
@[simp] theorem State.resume_applyQ (s : State) : (State.resume s).applyQ = s.applyQ :=
  (State.resume_frame s).2.2.2.2.2.2.1
@[simp] theorem State.resume_unsaved (s : State) : (State.resume s).unsaved = s.unsaved :=
  (State.resume_frame s).2.2.2.2.2.2.2.1
@[simp] theorem State.resume_free (s : State) : (State.resume s).free = s.free :=
  (State.resume_frame s).2.2.2.2.2.2.2.2.1
@[simp] theorem State.resume_pending (s : State) : (State.resume s).pending = s.pending :=
  (State.resume_frame s).2.2.2.2.2.2.2.2.2

/-- Fields that `settle` keeps. -/
theorem State.settle_frame (s : State) :
    (State.settle s).power = s.power ∧ (State.settle s).port = s.port ∧ (State.settle s).events = s.events ∧ (State.settle s).line = s.line ∧ (State.settle s).roster = s.roster ∧ (State.settle s).applyQ = s.applyQ ∧ (State.settle s).unsaved = s.unsaved ∧ (State.settle s).free = s.free ∧ (State.settle s).pending = s.pending := by
  unfold State.settle; (repeat' (first | split | dsimp only)) <;> simp
@[simp] theorem State.settle_power (s : State) : (State.settle s).power = s.power :=
  (State.settle_frame s).1
@[simp] theorem State.settle_port (s : State) : (State.settle s).port = s.port :=
  (State.settle_frame s).2.1
@[simp] theorem State.settle_events (s : State) : (State.settle s).events = s.events :=
  (State.settle_frame s).2.2.1
@[simp] theorem State.settle_line (s : State) : (State.settle s).line = s.line :=
  (State.settle_frame s).2.2.2.1
@[simp] theorem State.settle_roster (s : State) : (State.settle s).roster = s.roster :=
  (State.settle_frame s).2.2.2.2.1
@[simp] theorem State.settle_applyQ (s : State) : (State.settle s).applyQ = s.applyQ :=
  (State.settle_frame s).2.2.2.2.2.1
@[simp] theorem State.settle_unsaved (s : State) : (State.settle s).unsaved = s.unsaved :=
  (State.settle_frame s).2.2.2.2.2.2.1
@[simp] theorem State.settle_free (s : State) : (State.settle s).free = s.free :=
  (State.settle_frame s).2.2.2.2.2.2.2.1
@[simp] theorem State.settle_pending (s : State) : (State.settle s).pending = s.pending :=
  (State.settle_frame s).2.2.2.2.2.2.2.2

/-- Fields that `afterAttempt` keeps. -/
theorem State.afterAttempt_frame (s : State) :
    (State.afterAttempt s).power = s.power ∧ (State.afterAttempt s).port = s.port ∧ (State.afterAttempt s).applyQ = s.applyQ ∧ (State.afterAttempt s).unsaved = s.unsaved ∧ (State.afterAttempt s).free = s.free ∧ (State.afterAttempt s).pending = s.pending := by
  unfold State.afterAttempt; (repeat' (first | split | dsimp only)) <;> simp
@[simp] theorem State.afterAttempt_power (s : State) : (State.afterAttempt s).power = s.power :=
  (State.afterAttempt_frame s).1
@[simp] theorem State.afterAttempt_port (s : State) : (State.afterAttempt s).port = s.port :=
  (State.afterAttempt_frame s).2.1
@[simp] theorem State.afterAttempt_applyQ (s : State) : (State.afterAttempt s).applyQ = s.applyQ :=
  (State.afterAttempt_frame s).2.2.1
@[simp] theorem State.afterAttempt_unsaved (s : State) : (State.afterAttempt s).unsaved = s.unsaved :=
  (State.afterAttempt_frame s).2.2.2.1
@[simp] theorem State.afterAttempt_free (s : State) : (State.afterAttempt s).free = s.free :=
  (State.afterAttempt_frame s).2.2.2.2.1
@[simp] theorem State.afterAttempt_pending (s : State) : (State.afterAttempt s).pending = s.pending :=
  (State.afterAttempt_frame s).2.2.2.2.2

end Sys2Proof.Machine
end

