-- ==== Sys2Proof/Laws/HostPortFrame.lean ====
section
/-! SUPPORT. What each operation of Machine/HostPort.lean leaves as it is, field by field. -/

namespace Sys2Proof.Machine

/-- Fields that `refusePut` keeps. -/
theorem State.refusePut_frame (s : State) :
    (State.refusePut s).power = s.power ∧ (State.refusePut s).nv = s.nv ∧ (State.refusePut s).events = s.events ∧ (State.refusePut s).ctl = s.ctl ∧ (State.refusePut s).line = s.line ∧ (State.refusePut s).roster = s.roster ∧ (State.refusePut s).table = s.table ∧ (State.refusePut s).out = s.out ∧ (State.refusePut s).applyQ = s.applyQ ∧ (State.refusePut s).unsaved = s.unsaved ∧ (State.refusePut s).catchup = s.catchup ∧ (State.refusePut s).serving = s.serving ∧ (State.refusePut s).arb = s.arb ∧ (State.refusePut s).serial = s.serial ∧ (State.refusePut s).free = s.free ∧ (State.refusePut s).pending = s.pending := by
  unfold State.refusePut; (repeat' (first | split | dsimp only)) <;> simp
@[simp] theorem State.refusePut_power (s : State) : (State.refusePut s).power = s.power :=
  (State.refusePut_frame s).1
@[simp] theorem State.refusePut_nv (s : State) : (State.refusePut s).nv = s.nv :=
  (State.refusePut_frame s).2.1
@[simp] theorem State.refusePut_events (s : State) : (State.refusePut s).events = s.events :=
  (State.refusePut_frame s).2.2.1
@[simp] theorem State.refusePut_ctl (s : State) : (State.refusePut s).ctl = s.ctl :=
  (State.refusePut_frame s).2.2.2.1
@[simp] theorem State.refusePut_line (s : State) : (State.refusePut s).line = s.line :=
  (State.refusePut_frame s).2.2.2.2.1
@[simp] theorem State.refusePut_roster (s : State) : (State.refusePut s).roster = s.roster :=
  (State.refusePut_frame s).2.2.2.2.2.1
@[simp] theorem State.refusePut_table (s : State) : (State.refusePut s).table = s.table :=
  (State.refusePut_frame s).2.2.2.2.2.2.1
@[simp] theorem State.refusePut_out (s : State) : (State.refusePut s).out = s.out :=
  (State.refusePut_frame s).2.2.2.2.2.2.2.1
@[simp] theorem State.refusePut_applyQ (s : State) : (State.refusePut s).applyQ = s.applyQ :=
  (State.refusePut_frame s).2.2.2.2.2.2.2.2.1
@[simp] theorem State.refusePut_unsaved (s : State) : (State.refusePut s).unsaved = s.unsaved :=
  (State.refusePut_frame s).2.2.2.2.2.2.2.2.2.1
@[simp] theorem State.refusePut_catchup (s : State) : (State.refusePut s).catchup = s.catchup :=
  (State.refusePut_frame s).2.2.2.2.2.2.2.2.2.2.1
@[simp] theorem State.refusePut_serving (s : State) : (State.refusePut s).serving = s.serving :=
  (State.refusePut_frame s).2.2.2.2.2.2.2.2.2.2.2.1
@[simp] theorem State.refusePut_arb (s : State) : (State.refusePut s).arb = s.arb :=
  (State.refusePut_frame s).2.2.2.2.2.2.2.2.2.2.2.2.1
@[simp] theorem State.refusePut_serial (s : State) : (State.refusePut s).serial = s.serial :=
  (State.refusePut_frame s).2.2.2.2.2.2.2.2.2.2.2.2.2.1
@[simp] theorem State.refusePut_free (s : State) : (State.refusePut s).free = s.free :=
  (State.refusePut_frame s).2.2.2.2.2.2.2.2.2.2.2.2.2.2.1
@[simp] theorem State.refusePut_pending (s : State) : (State.refusePut s).pending = s.pending :=
  (State.refusePut_frame s).2.2.2.2.2.2.2.2.2.2.2.2.2.2.2

/-- Fields that `undriven` keeps. -/
theorem State.undriven_frame (s : State) :
    (State.undriven s).power = s.power ∧ (State.undriven s).nv = s.nv ∧ (State.undriven s).events = s.events ∧ (State.undriven s).ctl = s.ctl ∧ (State.undriven s).line = s.line ∧ (State.undriven s).roster = s.roster ∧ (State.undriven s).table = s.table ∧ (State.undriven s).out = s.out ∧ (State.undriven s).applyQ = s.applyQ ∧ (State.undriven s).unsaved = s.unsaved ∧ (State.undriven s).catchup = s.catchup ∧ (State.undriven s).serving = s.serving ∧ (State.undriven s).arb = s.arb ∧ (State.undriven s).serial = s.serial ∧ (State.undriven s).free = s.free ∧ (State.undriven s).pending = s.pending := by
  unfold State.undriven; (repeat' (first | split | dsimp only)) <;> simp
@[simp] theorem State.undriven_power (s : State) : (State.undriven s).power = s.power :=
  (State.undriven_frame s).1
@[simp] theorem State.undriven_nv (s : State) : (State.undriven s).nv = s.nv :=
  (State.undriven_frame s).2.1
@[simp] theorem State.undriven_events (s : State) : (State.undriven s).events = s.events :=
  (State.undriven_frame s).2.2.1
@[simp] theorem State.undriven_ctl (s : State) : (State.undriven s).ctl = s.ctl :=
  (State.undriven_frame s).2.2.2.1
@[simp] theorem State.undriven_line (s : State) : (State.undriven s).line = s.line :=
  (State.undriven_frame s).2.2.2.2.1
@[simp] theorem State.undriven_roster (s : State) : (State.undriven s).roster = s.roster :=
  (State.undriven_frame s).2.2.2.2.2.1
@[simp] theorem State.undriven_table (s : State) : (State.undriven s).table = s.table :=
  (State.undriven_frame s).2.2.2.2.2.2.1
@[simp] theorem State.undriven_out (s : State) : (State.undriven s).out = s.out :=
  (State.undriven_frame s).2.2.2.2.2.2.2.1
@[simp] theorem State.undriven_applyQ (s : State) : (State.undriven s).applyQ = s.applyQ :=
  (State.undriven_frame s).2.2.2.2.2.2.2.2.1
@[simp] theorem State.undriven_unsaved (s : State) : (State.undriven s).unsaved = s.unsaved :=
  (State.undriven_frame s).2.2.2.2.2.2.2.2.2.1
@[simp] theorem State.undriven_catchup (s : State) : (State.undriven s).catchup = s.catchup :=
  (State.undriven_frame s).2.2.2.2.2.2.2.2.2.2.1
@[simp] theorem State.undriven_serving (s : State) : (State.undriven s).serving = s.serving :=
  (State.undriven_frame s).2.2.2.2.2.2.2.2.2.2.2.1
@[simp] theorem State.undriven_arb (s : State) : (State.undriven s).arb = s.arb :=
  (State.undriven_frame s).2.2.2.2.2.2.2.2.2.2.2.2.1
@[simp] theorem State.undriven_serial (s : State) : (State.undriven s).serial = s.serial :=
  (State.undriven_frame s).2.2.2.2.2.2.2.2.2.2.2.2.2.1
@[simp] theorem State.undriven_free (s : State) : (State.undriven s).free = s.free :=
  (State.undriven_frame s).2.2.2.2.2.2.2.2.2.2.2.2.2.2.1
@[simp] theorem State.undriven_pending (s : State) : (State.undriven s).pending = s.pending :=
  (State.undriven_frame s).2.2.2.2.2.2.2.2.2.2.2.2.2.2.2

/-- Fields that `takeBits` keeps. -/
theorem State.takeBits_frame (s : State) (bits : Nat) :
    (State.takeBits s bits).power = s.power ∧ (State.takeBits s bits).nv = s.nv ∧ (State.takeBits s bits).events = s.events ∧ (State.takeBits s bits).ctl = s.ctl ∧ (State.takeBits s bits).line = s.line ∧ (State.takeBits s bits).roster = s.roster ∧ (State.takeBits s bits).table = s.table ∧ (State.takeBits s bits).out = s.out ∧ (State.takeBits s bits).applyQ = s.applyQ ∧ (State.takeBits s bits).unsaved = s.unsaved ∧ (State.takeBits s bits).catchup = s.catchup ∧ (State.takeBits s bits).serving = s.serving ∧ (State.takeBits s bits).arb = s.arb ∧ (State.takeBits s bits).serial = s.serial ∧ (State.takeBits s bits).free = s.free ∧ (State.takeBits s bits).pending = s.pending := by
  unfold State.takeBits; (repeat' (first | split | dsimp only)) <;> simp
@[simp] theorem State.takeBits_power (s : State) (bits : Nat) : (State.takeBits s bits).power = s.power :=
  (State.takeBits_frame s bits).1
@[simp] theorem State.takeBits_nv (s : State) (bits : Nat) : (State.takeBits s bits).nv = s.nv :=
  (State.takeBits_frame s bits).2.1
@[simp] theorem State.takeBits_events (s : State) (bits : Nat) : (State.takeBits s bits).events = s.events :=
  (State.takeBits_frame s bits).2.2.1
@[simp] theorem State.takeBits_ctl (s : State) (bits : Nat) : (State.takeBits s bits).ctl = s.ctl :=
  (State.takeBits_frame s bits).2.2.2.1
@[simp] theorem State.takeBits_line (s : State) (bits : Nat) : (State.takeBits s bits).line = s.line :=
  (State.takeBits_frame s bits).2.2.2.2.1
@[simp] theorem State.takeBits_roster (s : State) (bits : Nat) : (State.takeBits s bits).roster = s.roster :=
  (State.takeBits_frame s bits).2.2.2.2.2.1
@[simp] theorem State.takeBits_table (s : State) (bits : Nat) : (State.takeBits s bits).table = s.table :=
  (State.takeBits_frame s bits).2.2.2.2.2.2.1
@[simp] theorem State.takeBits_out (s : State) (bits : Nat) : (State.takeBits s bits).out = s.out :=
  (State.takeBits_frame s bits).2.2.2.2.2.2.2.1
@[simp] theorem State.takeBits_applyQ (s : State) (bits : Nat) : (State.takeBits s bits).applyQ = s.applyQ :=
  (State.takeBits_frame s bits).2.2.2.2.2.2.2.2.1
@[simp] theorem State.takeBits_unsaved (s : State) (bits : Nat) : (State.takeBits s bits).unsaved = s.unsaved :=
  (State.takeBits_frame s bits).2.2.2.2.2.2.2.2.2.1
@[simp] theorem State.takeBits_catchup (s : State) (bits : Nat) : (State.takeBits s bits).catchup = s.catchup :=
  (State.takeBits_frame s bits).2.2.2.2.2.2.2.2.2.2.1
@[simp] theorem State.takeBits_serving (s : State) (bits : Nat) : (State.takeBits s bits).serving = s.serving :=
  (State.takeBits_frame s bits).2.2.2.2.2.2.2.2.2.2.2.1
@[simp] theorem State.takeBits_arb (s : State) (bits : Nat) : (State.takeBits s bits).arb = s.arb :=
  (State.takeBits_frame s bits).2.2.2.2.2.2.2.2.2.2.2.2.1
@[simp] theorem State.takeBits_serial (s : State) (bits : Nat) : (State.takeBits s bits).serial = s.serial :=
  (State.takeBits_frame s bits).2.2.2.2.2.2.2.2.2.2.2.2.2.1
@[simp] theorem State.takeBits_free (s : State) (bits : Nat) : (State.takeBits s bits).free = s.free :=
  (State.takeBits_frame s bits).2.2.2.2.2.2.2.2.2.2.2.2.2.2.1
@[simp] theorem State.takeBits_pending (s : State) (bits : Nat) : (State.takeBits s bits).pending = s.pending :=
  (State.takeBits_frame s bits).2.2.2.2.2.2.2.2.2.2.2.2.2.2.2

/-- Fields that `pollBit` keeps. -/
theorem State.pollBit_frame (s : State) :
    (State.pollBit s).power = s.power ∧ (State.pollBit s).nv = s.nv ∧ (State.pollBit s).events = s.events ∧ (State.pollBit s).ctl = s.ctl ∧ (State.pollBit s).line = s.line ∧ (State.pollBit s).roster = s.roster ∧ (State.pollBit s).table = s.table ∧ (State.pollBit s).out = s.out ∧ (State.pollBit s).applyQ = s.applyQ ∧ (State.pollBit s).unsaved = s.unsaved ∧ (State.pollBit s).catchup = s.catchup ∧ (State.pollBit s).serving = s.serving ∧ (State.pollBit s).arb = s.arb ∧ (State.pollBit s).serial = s.serial ∧ (State.pollBit s).free = s.free ∧ (State.pollBit s).pending = s.pending := by
  unfold State.pollBit; (repeat' (first | split | dsimp only)) <;> simp
@[simp] theorem State.pollBit_power (s : State) : (State.pollBit s).power = s.power :=
  (State.pollBit_frame s).1
@[simp] theorem State.pollBit_nv (s : State) : (State.pollBit s).nv = s.nv :=
  (State.pollBit_frame s).2.1
@[simp] theorem State.pollBit_events (s : State) : (State.pollBit s).events = s.events :=
  (State.pollBit_frame s).2.2.1
@[simp] theorem State.pollBit_ctl (s : State) : (State.pollBit s).ctl = s.ctl :=
  (State.pollBit_frame s).2.2.2.1
@[simp] theorem State.pollBit_line (s : State) : (State.pollBit s).line = s.line :=
  (State.pollBit_frame s).2.2.2.2.1
@[simp] theorem State.pollBit_roster (s : State) : (State.pollBit s).roster = s.roster :=
  (State.pollBit_frame s).2.2.2.2.2.1
@[simp] theorem State.pollBit_table (s : State) : (State.pollBit s).table = s.table :=
  (State.pollBit_frame s).2.2.2.2.2.2.1
@[simp] theorem State.pollBit_out (s : State) : (State.pollBit s).out = s.out :=
  (State.pollBit_frame s).2.2.2.2.2.2.2.1
@[simp] theorem State.pollBit_applyQ (s : State) : (State.pollBit s).applyQ = s.applyQ :=
  (State.pollBit_frame s).2.2.2.2.2.2.2.2.1
@[simp] theorem State.pollBit_unsaved (s : State) : (State.pollBit s).unsaved = s.unsaved :=
  (State.pollBit_frame s).2.2.2.2.2.2.2.2.2.1
@[simp] theorem State.pollBit_catchup (s : State) : (State.pollBit s).catchup = s.catchup :=
  (State.pollBit_frame s).2.2.2.2.2.2.2.2.2.2.1
@[simp] theorem State.pollBit_serving (s : State) : (State.pollBit s).serving = s.serving :=
  (State.pollBit_frame s).2.2.2.2.2.2.2.2.2.2.2.1
@[simp] theorem State.pollBit_arb (s : State) : (State.pollBit s).arb = s.arb :=
  (State.pollBit_frame s).2.2.2.2.2.2.2.2.2.2.2.2.1
@[simp] theorem State.pollBit_serial (s : State) : (State.pollBit s).serial = s.serial :=
  (State.pollBit_frame s).2.2.2.2.2.2.2.2.2.2.2.2.2.1
@[simp] theorem State.pollBit_free (s : State) : (State.pollBit s).free = s.free :=
  (State.pollBit_frame s).2.2.2.2.2.2.2.2.2.2.2.2.2.2.1
@[simp] theorem State.pollBit_pending (s : State) : (State.pollBit s).pending = s.pending :=
  (State.pollBit_frame s).2.2.2.2.2.2.2.2.2.2.2.2.2.2.2

/-- Fields that `pollBits` keeps. -/
theorem State.pollBits_frame (n : Nat) (s : State) :
    (State.pollBits n s).power = s.power ∧ (State.pollBits n s).nv = s.nv ∧ (State.pollBits n s).events = s.events ∧ (State.pollBits n s).ctl = s.ctl ∧ (State.pollBits n s).line = s.line ∧ (State.pollBits n s).roster = s.roster ∧ (State.pollBits n s).table = s.table ∧ (State.pollBits n s).out = s.out ∧ (State.pollBits n s).applyQ = s.applyQ ∧ (State.pollBits n s).unsaved = s.unsaved ∧ (State.pollBits n s).catchup = s.catchup ∧ (State.pollBits n s).serving = s.serving ∧ (State.pollBits n s).arb = s.arb ∧ (State.pollBits n s).serial = s.serial ∧ (State.pollBits n s).free = s.free ∧ (State.pollBits n s).pending = s.pending := by
  induction n generalizing s with
  | zero => simp [State.pollBits]
  | succ n ih => unfold State.pollBits; (repeat' split) <;> simp [ih]
@[simp] theorem State.pollBits_power (n : Nat) (s : State) : (State.pollBits n s).power = s.power :=
  (State.pollBits_frame n s).1
@[simp] theorem State.pollBits_nv (n : Nat) (s : State) : (State.pollBits n s).nv = s.nv :=
  (State.pollBits_frame n s).2.1
@[simp] theorem State.pollBits_events (n : Nat) (s : State) : (State.pollBits n s).events = s.events :=
  (State.pollBits_frame n s).2.2.1
@[simp] theorem State.pollBits_ctl (n : Nat) (s : State) : (State.pollBits n s).ctl = s.ctl :=
  (State.pollBits_frame n s).2.2.2.1
@[simp] theorem State.pollBits_line (n : Nat) (s : State) : (State.pollBits n s).line = s.line :=
  (State.pollBits_frame n s).2.2.2.2.1
@[simp] theorem State.pollBits_roster (n : Nat) (s : State) : (State.pollBits n s).roster = s.roster :=
  (State.pollBits_frame n s).2.2.2.2.2.1
@[simp] theorem State.pollBits_table (n : Nat) (s : State) : (State.pollBits n s).table = s.table :=
  (State.pollBits_frame n s).2.2.2.2.2.2.1
@[simp] theorem State.pollBits_out (n : Nat) (s : State) : (State.pollBits n s).out = s.out :=
  (State.pollBits_frame n s).2.2.2.2.2.2.2.1
@[simp] theorem State.pollBits_applyQ (n : Nat) (s : State) : (State.pollBits n s).applyQ = s.applyQ :=
  (State.pollBits_frame n s).2.2.2.2.2.2.2.2.1
@[simp] theorem State.pollBits_unsaved (n : Nat) (s : State) : (State.pollBits n s).unsaved = s.unsaved :=
  (State.pollBits_frame n s).2.2.2.2.2.2.2.2.2.1
@[simp] theorem State.pollBits_catchup (n : Nat) (s : State) : (State.pollBits n s).catchup = s.catchup :=
  (State.pollBits_frame n s).2.2.2.2.2.2.2.2.2.2.1
@[simp] theorem State.pollBits_serving (n : Nat) (s : State) : (State.pollBits n s).serving = s.serving :=
  (State.pollBits_frame n s).2.2.2.2.2.2.2.2.2.2.2.1
@[simp] theorem State.pollBits_arb (n : Nat) (s : State) : (State.pollBits n s).arb = s.arb :=
  (State.pollBits_frame n s).2.2.2.2.2.2.2.2.2.2.2.2.1
@[simp] theorem State.pollBits_serial (n : Nat) (s : State) : (State.pollBits n s).serial = s.serial :=
  (State.pollBits_frame n s).2.2.2.2.2.2.2.2.2.2.2.2.2.1
@[simp] theorem State.pollBits_free (n : Nat) (s : State) : (State.pollBits n s).free = s.free :=
  (State.pollBits_frame n s).2.2.2.2.2.2.2.2.2.2.2.2.2.2.1
@[simp] theorem State.pollBits_pending (n : Nat) (s : State) : (State.pollBits n s).pending = s.pending :=
  (State.pollBits_frame n s).2.2.2.2.2.2.2.2.2.2.2.2.2.2.2

/-- Fields that `pollRun` keeps. -/
theorem State.pollRun_frame (s : State) (run : PollRun) :
    (State.pollRun s run).power = s.power ∧ (State.pollRun s run).nv = s.nv ∧ (State.pollRun s run).events = s.events ∧ (State.pollRun s run).ctl = s.ctl ∧ (State.pollRun s run).line = s.line ∧ (State.pollRun s run).roster = s.roster ∧ (State.pollRun s run).table = s.table ∧ (State.pollRun s run).out = s.out ∧ (State.pollRun s run).applyQ = s.applyQ ∧ (State.pollRun s run).unsaved = s.unsaved ∧ (State.pollRun s run).catchup = s.catchup ∧ (State.pollRun s run).serving = s.serving ∧ (State.pollRun s run).arb = s.arb ∧ (State.pollRun s run).serial = s.serial ∧ (State.pollRun s run).free = s.free ∧ (State.pollRun s run).pending = s.pending := by
  unfold State.pollRun; (repeat' (first | split | dsimp only)) <;> simp
@[simp] theorem State.pollRun_power (s : State) (run : PollRun) : (State.pollRun s run).power = s.power :=
  (State.pollRun_frame s run).1
@[simp] theorem State.pollRun_nv (s : State) (run : PollRun) : (State.pollRun s run).nv = s.nv :=
  (State.pollRun_frame s run).2.1
@[simp] theorem State.pollRun_events (s : State) (run : PollRun) : (State.pollRun s run).events = s.events :=
  (State.pollRun_frame s run).2.2.1
@[simp] theorem State.pollRun_ctl (s : State) (run : PollRun) : (State.pollRun s run).ctl = s.ctl :=
  (State.pollRun_frame s run).2.2.2.1
@[simp] theorem State.pollRun_line (s : State) (run : PollRun) : (State.pollRun s run).line = s.line :=
  (State.pollRun_frame s run).2.2.2.2.1
@[simp] theorem State.pollRun_roster (s : State) (run : PollRun) : (State.pollRun s run).roster = s.roster :=
  (State.pollRun_frame s run).2.2.2.2.2.1
@[simp] theorem State.pollRun_table (s : State) (run : PollRun) : (State.pollRun s run).table = s.table :=
  (State.pollRun_frame s run).2.2.2.2.2.2.1
@[simp] theorem State.pollRun_out (s : State) (run : PollRun) : (State.pollRun s run).out = s.out :=
  (State.pollRun_frame s run).2.2.2.2.2.2.2.1
@[simp] theorem State.pollRun_applyQ (s : State) (run : PollRun) : (State.pollRun s run).applyQ = s.applyQ :=
  (State.pollRun_frame s run).2.2.2.2.2.2.2.2.1
@[simp] theorem State.pollRun_unsaved (s : State) (run : PollRun) : (State.pollRun s run).unsaved = s.unsaved :=
  (State.pollRun_frame s run).2.2.2.2.2.2.2.2.2.1
@[simp] theorem State.pollRun_catchup (s : State) (run : PollRun) : (State.pollRun s run).catchup = s.catchup :=
  (State.pollRun_frame s run).2.2.2.2.2.2.2.2.2.2.1
@[simp] theorem State.pollRun_serving (s : State) (run : PollRun) : (State.pollRun s run).serving = s.serving :=
  (State.pollRun_frame s run).2.2.2.2.2.2.2.2.2.2.2.1
@[simp] theorem State.pollRun_arb (s : State) (run : PollRun) : (State.pollRun s run).arb = s.arb :=
  (State.pollRun_frame s run).2.2.2.2.2.2.2.2.2.2.2.2.1
@[simp] theorem State.pollRun_serial (s : State) (run : PollRun) : (State.pollRun s run).serial = s.serial :=
  (State.pollRun_frame s run).2.2.2.2.2.2.2.2.2.2.2.2.2.1
@[simp] theorem State.pollRun_free (s : State) (run : PollRun) : (State.pollRun s run).free = s.free :=
  (State.pollRun_frame s run).2.2.2.2.2.2.2.2.2.2.2.2.2.2.1
@[simp] theorem State.pollRun_pending (s : State) (run : PollRun) : (State.pollRun s run).pending = s.pending :=
  (State.pollRun_frame s run).2.2.2.2.2.2.2.2.2.2.2.2.2.2.2

end Sys2Proof.Machine
end

