-- ==== Sys2Proof/Laws/HostCommandsFrame.lean ====
section
/-! SUPPORT. What each operation of Machine/HostCommands.lean leaves as it is, field by field. -/

namespace Sys2Proof.Machine

/-- Fields that `startRead` keeps. -/
theorem State.startRead_frame (s : State) (r : Region) (offset length : Nat) :
    (State.startRead s r offset length).power = s.power ∧ (State.startRead s r offset length).events = s.events ∧ (State.startRead s r offset length).ctl = s.ctl ∧ (State.startRead s r offset length).line = s.line ∧ (State.startRead s r offset length).roster = s.roster ∧ (State.startRead s r offset length).table = s.table ∧ (State.startRead s r offset length).out = s.out ∧ (State.startRead s r offset length).applyQ = s.applyQ ∧ (State.startRead s r offset length).unsaved = s.unsaved ∧ (State.startRead s r offset length).catchup = s.catchup ∧ (State.startRead s r offset length).serial = s.serial ∧ (State.startRead s r offset length).free = s.free ∧ (State.startRead s r offset length).pending = s.pending := by
  unfold State.startRead; (repeat' (first | split | dsimp only)) <;> simp
@[simp] theorem State.startRead_power (s : State) (r : Region) (offset length : Nat) : (State.startRead s r offset length).power = s.power :=
  (State.startRead_frame s r offset length).1
@[simp] theorem State.startRead_events (s : State) (r : Region) (offset length : Nat) : (State.startRead s r offset length).events = s.events :=
  (State.startRead_frame s r offset length).2.1
@[simp] theorem State.startRead_ctl (s : State) (r : Region) (offset length : Nat) : (State.startRead s r offset length).ctl = s.ctl :=
  (State.startRead_frame s r offset length).2.2.1
@[simp] theorem State.startRead_line (s : State) (r : Region) (offset length : Nat) : (State.startRead s r offset length).line = s.line :=
  (State.startRead_frame s r offset length).2.2.2.1
@[simp] theorem State.startRead_roster (s : State) (r : Region) (offset length : Nat) : (State.startRead s r offset length).roster = s.roster :=
  (State.startRead_frame s r offset length).2.2.2.2.1
@[simp] theorem State.startRead_table (s : State) (r : Region) (offset length : Nat) : (State.startRead s r offset length).table = s.table :=
  (State.startRead_frame s r offset length).2.2.2.2.2.1
@[simp] theorem State.startRead_out (s : State) (r : Region) (offset length : Nat) : (State.startRead s r offset length).out = s.out :=
  (State.startRead_frame s r offset length).2.2.2.2.2.2.1
@[simp] theorem State.startRead_applyQ (s : State) (r : Region) (offset length : Nat) : (State.startRead s r offset length).applyQ = s.applyQ :=
  (State.startRead_frame s r offset length).2.2.2.2.2.2.2.1
@[simp] theorem State.startRead_unsaved (s : State) (r : Region) (offset length : Nat) : (State.startRead s r offset length).unsaved = s.unsaved :=
  (State.startRead_frame s r offset length).2.2.2.2.2.2.2.2.1
@[simp] theorem State.startRead_catchup (s : State) (r : Region) (offset length : Nat) : (State.startRead s r offset length).catchup = s.catchup :=
  (State.startRead_frame s r offset length).2.2.2.2.2.2.2.2.2.1
@[simp] theorem State.startRead_serial (s : State) (r : Region) (offset length : Nat) : (State.startRead s r offset length).serial = s.serial :=
  (State.startRead_frame s r offset length).2.2.2.2.2.2.2.2.2.2.1
@[simp] theorem State.startRead_free (s : State) (r : Region) (offset length : Nat) : (State.startRead s r offset length).free = s.free :=
  (State.startRead_frame s r offset length).2.2.2.2.2.2.2.2.2.2.2.1
@[simp] theorem State.startRead_pending (s : State) (r : Region) (offset length : Nat) : (State.startRead s r offset length).pending = s.pending :=
  (State.startRead_frame s r offset length).2.2.2.2.2.2.2.2.2.2.2.2

/-- Fields that `takeRoom` keeps. -/
theorem State.takeRoom_frame (s : State) (r : Region) :
    (State.takeRoom s r).power = s.power ∧ (State.takeRoom s r).nv = s.nv ∧ (State.takeRoom s r).port = s.port ∧ (State.takeRoom s r).events = s.events ∧ (State.takeRoom s r).ctl = s.ctl ∧ (State.takeRoom s r).line = s.line ∧ (State.takeRoom s r).roster = s.roster ∧ (State.takeRoom s r).table = s.table ∧ (State.takeRoom s r).applyQ = s.applyQ ∧ (State.takeRoom s r).unsaved = s.unsaved ∧ (State.takeRoom s r).catchup = s.catchup ∧ (State.takeRoom s r).serving = s.serving ∧ (State.takeRoom s r).arb = s.arb ∧ (State.takeRoom s r).serial = s.serial ∧ (State.takeRoom s r).free = s.free ∧ (State.takeRoom s r).pending = s.pending := by
  unfold State.takeRoom; (repeat' (first | split | dsimp only)) <;> simp
@[simp] theorem State.takeRoom_power (s : State) (r : Region) : (State.takeRoom s r).power = s.power :=
  (State.takeRoom_frame s r).1
@[simp] theorem State.takeRoom_nv (s : State) (r : Region) : (State.takeRoom s r).nv = s.nv :=
  (State.takeRoom_frame s r).2.1
@[simp] theorem State.takeRoom_port (s : State) (r : Region) : (State.takeRoom s r).port = s.port :=
  (State.takeRoom_frame s r).2.2.1
@[simp] theorem State.takeRoom_events (s : State) (r : Region) : (State.takeRoom s r).events = s.events :=
  (State.takeRoom_frame s r).2.2.2.1
@[simp] theorem State.takeRoom_ctl (s : State) (r : Region) : (State.takeRoom s r).ctl = s.ctl :=
  (State.takeRoom_frame s r).2.2.2.2.1
@[simp] theorem State.takeRoom_line (s : State) (r : Region) : (State.takeRoom s r).line = s.line :=
  (State.takeRoom_frame s r).2.2.2.2.2.1
@[simp] theorem State.takeRoom_roster (s : State) (r : Region) : (State.takeRoom s r).roster = s.roster :=
  (State.takeRoom_frame s r).2.2.2.2.2.2.1
@[simp] theorem State.takeRoom_table (s : State) (r : Region) : (State.takeRoom s r).table = s.table :=
  (State.takeRoom_frame s r).2.2.2.2.2.2.2.1
@[simp] theorem State.takeRoom_applyQ (s : State) (r : Region) : (State.takeRoom s r).applyQ = s.applyQ :=
  (State.takeRoom_frame s r).2.2.2.2.2.2.2.2.1
@[simp] theorem State.takeRoom_unsaved (s : State) (r : Region) : (State.takeRoom s r).unsaved = s.unsaved :=
  (State.takeRoom_frame s r).2.2.2.2.2.2.2.2.2.1
@[simp] theorem State.takeRoom_catchup (s : State) (r : Region) : (State.takeRoom s r).catchup = s.catchup :=
  (State.takeRoom_frame s r).2.2.2.2.2.2.2.2.2.2.1
@[simp] theorem State.takeRoom_serving (s : State) (r : Region) : (State.takeRoom s r).serving = s.serving :=
  (State.takeRoom_frame s r).2.2.2.2.2.2.2.2.2.2.2.1
@[simp] theorem State.takeRoom_arb (s : State) (r : Region) : (State.takeRoom s r).arb = s.arb :=
  (State.takeRoom_frame s r).2.2.2.2.2.2.2.2.2.2.2.2.1
@[simp] theorem State.takeRoom_serial (s : State) (r : Region) : (State.takeRoom s r).serial = s.serial :=
  (State.takeRoom_frame s r).2.2.2.2.2.2.2.2.2.2.2.2.2.1
@[simp] theorem State.takeRoom_free (s : State) (r : Region) : (State.takeRoom s r).free = s.free :=
  (State.takeRoom_frame s r).2.2.2.2.2.2.2.2.2.2.2.2.2.2.1
@[simp] theorem State.takeRoom_pending (s : State) (r : Region) : (State.takeRoom s r).pending = s.pending :=
  (State.takeRoom_frame s r).2.2.2.2.2.2.2.2.2.2.2.2.2.2.2

/-- Fields that `startClaim` keeps. -/
theorem State.startClaim_frame (s : State) (r : Region) (guardPin : Bool) :
    (State.startClaim s r guardPin).power = s.power ∧ (State.startClaim s r guardPin).nv = s.nv ∧ (State.startClaim s r guardPin).events = s.events ∧ (State.startClaim s r guardPin).ctl = s.ctl ∧ (State.startClaim s r guardPin).line = s.line ∧ (State.startClaim s r guardPin).roster = s.roster ∧ (State.startClaim s r guardPin).table = s.table ∧ (State.startClaim s r guardPin).applyQ = s.applyQ ∧ (State.startClaim s r guardPin).unsaved = s.unsaved ∧ (State.startClaim s r guardPin).catchup = s.catchup ∧ (State.startClaim s r guardPin).serving = s.serving ∧ (State.startClaim s r guardPin).arb = s.arb ∧ (State.startClaim s r guardPin).serial = s.serial ∧ (State.startClaim s r guardPin).free = s.free ∧ (State.startClaim s r guardPin).pending = s.pending := by
  unfold State.startClaim; (repeat' (first | split | dsimp only)) <;> simp
@[simp] theorem State.startClaim_power (s : State) (r : Region) (guardPin : Bool) : (State.startClaim s r guardPin).power = s.power :=
  (State.startClaim_frame s r guardPin).1
@[simp] theorem State.startClaim_nv (s : State) (r : Region) (guardPin : Bool) : (State.startClaim s r guardPin).nv = s.nv :=
  (State.startClaim_frame s r guardPin).2.1
@[simp] theorem State.startClaim_events (s : State) (r : Region) (guardPin : Bool) : (State.startClaim s r guardPin).events = s.events :=
  (State.startClaim_frame s r guardPin).2.2.1
@[simp] theorem State.startClaim_ctl (s : State) (r : Region) (guardPin : Bool) : (State.startClaim s r guardPin).ctl = s.ctl :=
  (State.startClaim_frame s r guardPin).2.2.2.1
@[simp] theorem State.startClaim_line (s : State) (r : Region) (guardPin : Bool) : (State.startClaim s r guardPin).line = s.line :=
  (State.startClaim_frame s r guardPin).2.2.2.2.1
@[simp] theorem State.startClaim_roster (s : State) (r : Region) (guardPin : Bool) : (State.startClaim s r guardPin).roster = s.roster :=
  (State.startClaim_frame s r guardPin).2.2.2.2.2.1
@[simp] theorem State.startClaim_table (s : State) (r : Region) (guardPin : Bool) : (State.startClaim s r guardPin).table = s.table :=
  (State.startClaim_frame s r guardPin).2.2.2.2.2.2.1
@[simp] theorem State.startClaim_applyQ (s : State) (r : Region) (guardPin : Bool) : (State.startClaim s r guardPin).applyQ = s.applyQ :=
  (State.startClaim_frame s r guardPin).2.2.2.2.2.2.2.1
@[simp] theorem State.startClaim_unsaved (s : State) (r : Region) (guardPin : Bool) : (State.startClaim s r guardPin).unsaved = s.unsaved :=
  (State.startClaim_frame s r guardPin).2.2.2.2.2.2.2.2.1
@[simp] theorem State.startClaim_catchup (s : State) (r : Region) (guardPin : Bool) : (State.startClaim s r guardPin).catchup = s.catchup :=
  (State.startClaim_frame s r guardPin).2.2.2.2.2.2.2.2.2.1
@[simp] theorem State.startClaim_serving (s : State) (r : Region) (guardPin : Bool) : (State.startClaim s r guardPin).serving = s.serving :=
  (State.startClaim_frame s r guardPin).2.2.2.2.2.2.2.2.2.2.1
@[simp] theorem State.startClaim_arb (s : State) (r : Region) (guardPin : Bool) : (State.startClaim s r guardPin).arb = s.arb :=
  (State.startClaim_frame s r guardPin).2.2.2.2.2.2.2.2.2.2.2.1
@[simp] theorem State.startClaim_serial (s : State) (r : Region) (guardPin : Bool) : (State.startClaim s r guardPin).serial = s.serial :=
  (State.startClaim_frame s r guardPin).2.2.2.2.2.2.2.2.2.2.2.2.1
@[simp] theorem State.startClaim_free (s : State) (r : Region) (guardPin : Bool) : (State.startClaim s r guardPin).free = s.free :=
  (State.startClaim_frame s r guardPin).2.2.2.2.2.2.2.2.2.2.2.2.2.1
@[simp] theorem State.startClaim_pending (s : State) (r : Region) (guardPin : Bool) : (State.startClaim s r guardPin).pending = s.pending :=
  (State.startClaim_frame s r guardPin).2.2.2.2.2.2.2.2.2.2.2.2.2.2

/-- Fields that `setYield` keeps. -/
theorem State.setYield_frame (s : State) (code : Byte) (r : Region) (yes : Bool) :
    (State.setYield s code r yes).power = s.power ∧ (State.setYield s code r yes).events = s.events ∧ (State.setYield s code r yes).ctl = s.ctl ∧ (State.setYield s code r yes).line = s.line ∧ (State.setYield s code r yes).roster = s.roster ∧ (State.setYield s code r yes).out = s.out ∧ (State.setYield s code r yes).applyQ = s.applyQ ∧ (State.setYield s code r yes).unsaved = s.unsaved ∧ (State.setYield s code r yes).catchup = s.catchup ∧ (State.setYield s code r yes).serving = s.serving ∧ (State.setYield s code r yes).arb = s.arb ∧ (State.setYield s code r yes).serial = s.serial ∧ (State.setYield s code r yes).free = s.free ∧ (State.setYield s code r yes).pending = s.pending := by
  unfold State.setYield; (repeat' (first | split | dsimp only)) <;> simp
@[simp] theorem State.setYield_power (s : State) (code : Byte) (r : Region) (yes : Bool) : (State.setYield s code r yes).power = s.power :=
  (State.setYield_frame s code r yes).1
@[simp] theorem State.setYield_events (s : State) (code : Byte) (r : Region) (yes : Bool) : (State.setYield s code r yes).events = s.events :=
  (State.setYield_frame s code r yes).2.1
@[simp] theorem State.setYield_ctl (s : State) (code : Byte) (r : Region) (yes : Bool) : (State.setYield s code r yes).ctl = s.ctl :=
  (State.setYield_frame s code r yes).2.2.1
@[simp] theorem State.setYield_line (s : State) (code : Byte) (r : Region) (yes : Bool) : (State.setYield s code r yes).line = s.line :=
  (State.setYield_frame s code r yes).2.2.2.1
@[simp] theorem State.setYield_roster (s : State) (code : Byte) (r : Region) (yes : Bool) : (State.setYield s code r yes).roster = s.roster :=
  (State.setYield_frame s code r yes).2.2.2.2.1
@[simp] theorem State.setYield_out (s : State) (code : Byte) (r : Region) (yes : Bool) : (State.setYield s code r yes).out = s.out :=
  (State.setYield_frame s code r yes).2.2.2.2.2.1
@[simp] theorem State.setYield_applyQ (s : State) (code : Byte) (r : Region) (yes : Bool) : (State.setYield s code r yes).applyQ = s.applyQ :=
  (State.setYield_frame s code r yes).2.2.2.2.2.2.1
@[simp] theorem State.setYield_unsaved (s : State) (code : Byte) (r : Region) (yes : Bool) : (State.setYield s code r yes).unsaved = s.unsaved :=
  (State.setYield_frame s code r yes).2.2.2.2.2.2.2.1
@[simp] theorem State.setYield_catchup (s : State) (code : Byte) (r : Region) (yes : Bool) : (State.setYield s code r yes).catchup = s.catchup :=
  (State.setYield_frame s code r yes).2.2.2.2.2.2.2.2.1
@[simp] theorem State.setYield_serving (s : State) (code : Byte) (r : Region) (yes : Bool) : (State.setYield s code r yes).serving = s.serving :=
  (State.setYield_frame s code r yes).2.2.2.2.2.2.2.2.2.1
@[simp] theorem State.setYield_arb (s : State) (code : Byte) (r : Region) (yes : Bool) : (State.setYield s code r yes).arb = s.arb :=
  (State.setYield_frame s code r yes).2.2.2.2.2.2.2.2.2.2.1
@[simp] theorem State.setYield_serial (s : State) (code : Byte) (r : Region) (yes : Bool) : (State.setYield s code r yes).serial = s.serial :=
  (State.setYield_frame s code r yes).2.2.2.2.2.2.2.2.2.2.2.1
@[simp] theorem State.setYield_free (s : State) (code : Byte) (r : Region) (yes : Bool) : (State.setYield s code r yes).free = s.free :=
  (State.setYield_frame s code r yes).2.2.2.2.2.2.2.2.2.2.2.2.1
@[simp] theorem State.setYield_pending (s : State) (code : Byte) (r : Region) (yes : Bool) : (State.setYield s code r yes).pending = s.pending :=
  (State.setYield_frame s code r yes).2.2.2.2.2.2.2.2.2.2.2.2.2

/-- Fields that `openFence` keeps. -/
theorem State.openFence_frame (s : State) :
    (State.openFence s).power = s.power ∧ (State.openFence s).nv = s.nv ∧ (State.openFence s).port = s.port ∧ (State.openFence s).events = s.events ∧ (State.openFence s).ctl = s.ctl ∧ (State.openFence s).line = s.line ∧ (State.openFence s).roster = s.roster ∧ (State.openFence s).table = s.table ∧ (State.openFence s).applyQ = s.applyQ ∧ (State.openFence s).unsaved = s.unsaved ∧ (State.openFence s).catchup = s.catchup ∧ (State.openFence s).serving = s.serving ∧ (State.openFence s).arb = s.arb ∧ (State.openFence s).serial = s.serial ∧ (State.openFence s).free = s.free ∧ (State.openFence s).pending = s.pending := by
  unfold State.openFence; (repeat' (first | split | dsimp only)) <;> simp
@[simp] theorem State.openFence_power (s : State) : (State.openFence s).power = s.power :=
  (State.openFence_frame s).1
@[simp] theorem State.openFence_nv (s : State) : (State.openFence s).nv = s.nv :=
  (State.openFence_frame s).2.1
@[simp] theorem State.openFence_port (s : State) : (State.openFence s).port = s.port :=
  (State.openFence_frame s).2.2.1
@[simp] theorem State.openFence_events (s : State) : (State.openFence s).events = s.events :=
  (State.openFence_frame s).2.2.2.1
@[simp] theorem State.openFence_ctl (s : State) : (State.openFence s).ctl = s.ctl :=
  (State.openFence_frame s).2.2.2.2.1
@[simp] theorem State.openFence_line (s : State) : (State.openFence s).line = s.line :=
  (State.openFence_frame s).2.2.2.2.2.1
@[simp] theorem State.openFence_roster (s : State) : (State.openFence s).roster = s.roster :=
  (State.openFence_frame s).2.2.2.2.2.2.1
@[simp] theorem State.openFence_table (s : State) : (State.openFence s).table = s.table :=
  (State.openFence_frame s).2.2.2.2.2.2.2.1
@[simp] theorem State.openFence_applyQ (s : State) : (State.openFence s).applyQ = s.applyQ :=
  (State.openFence_frame s).2.2.2.2.2.2.2.2.1
@[simp] theorem State.openFence_unsaved (s : State) : (State.openFence s).unsaved = s.unsaved :=
  (State.openFence_frame s).2.2.2.2.2.2.2.2.2.1
@[simp] theorem State.openFence_catchup (s : State) : (State.openFence s).catchup = s.catchup :=
  (State.openFence_frame s).2.2.2.2.2.2.2.2.2.2.1
@[simp] theorem State.openFence_serving (s : State) : (State.openFence s).serving = s.serving :=
  (State.openFence_frame s).2.2.2.2.2.2.2.2.2.2.2.1
@[simp] theorem State.openFence_arb (s : State) : (State.openFence s).arb = s.arb :=
  (State.openFence_frame s).2.2.2.2.2.2.2.2.2.2.2.2.1
@[simp] theorem State.openFence_serial (s : State) : (State.openFence s).serial = s.serial :=
  (State.openFence_frame s).2.2.2.2.2.2.2.2.2.2.2.2.2.1
@[simp] theorem State.openFence_free (s : State) : (State.openFence s).free = s.free :=
  (State.openFence_frame s).2.2.2.2.2.2.2.2.2.2.2.2.2.2.1
@[simp] theorem State.openFence_pending (s : State) : (State.openFence s).pending = s.pending :=
  (State.openFence_frame s).2.2.2.2.2.2.2.2.2.2.2.2.2.2.2

/-- Fields that `formatClear` keeps. -/
theorem State.formatClear_frame (s : State) :
    (State.formatClear s).power = s.power ∧ (State.formatClear s).nv = s.nv ∧ (State.formatClear s).port = s.port ∧ (State.formatClear s).events = s.events ∧ (State.formatClear s).ctl = s.ctl ∧ (State.formatClear s).line = s.line ∧ (State.formatClear s).roster = s.roster ∧ (State.formatClear s).table = s.table ∧ (State.formatClear s).out = s.out ∧ (State.formatClear s).catchup = s.catchup ∧ (State.formatClear s).serving = s.serving ∧ (State.formatClear s).arb = s.arb ∧ (State.formatClear s).serial = s.serial ∧ (State.formatClear s).free = s.free ∧ (State.formatClear s).pending = s.pending := by
  unfold State.formatClear; (repeat' (first | split | dsimp only)) <;> simp
@[simp] theorem State.formatClear_power (s : State) : (State.formatClear s).power = s.power :=
  (State.formatClear_frame s).1
@[simp] theorem State.formatClear_nv (s : State) : (State.formatClear s).nv = s.nv :=
  (State.formatClear_frame s).2.1
@[simp] theorem State.formatClear_port (s : State) : (State.formatClear s).port = s.port :=
  (State.formatClear_frame s).2.2.1
@[simp] theorem State.formatClear_events (s : State) : (State.formatClear s).events = s.events :=
  (State.formatClear_frame s).2.2.2.1
@[simp] theorem State.formatClear_ctl (s : State) : (State.formatClear s).ctl = s.ctl :=
  (State.formatClear_frame s).2.2.2.2.1
@[simp] theorem State.formatClear_line (s : State) : (State.formatClear s).line = s.line :=
  (State.formatClear_frame s).2.2.2.2.2.1
@[simp] theorem State.formatClear_roster (s : State) : (State.formatClear s).roster = s.roster :=
  (State.formatClear_frame s).2.2.2.2.2.2.1
@[simp] theorem State.formatClear_table (s : State) : (State.formatClear s).table = s.table :=
  (State.formatClear_frame s).2.2.2.2.2.2.2.1
@[simp] theorem State.formatClear_out (s : State) : (State.formatClear s).out = s.out :=
  (State.formatClear_frame s).2.2.2.2.2.2.2.2.1
@[simp] theorem State.formatClear_catchup (s : State) : (State.formatClear s).catchup = s.catchup :=
  (State.formatClear_frame s).2.2.2.2.2.2.2.2.2.1
@[simp] theorem State.formatClear_serving (s : State) : (State.formatClear s).serving = s.serving :=
  (State.formatClear_frame s).2.2.2.2.2.2.2.2.2.2.1
@[simp] theorem State.formatClear_arb (s : State) : (State.formatClear s).arb = s.arb :=
  (State.formatClear_frame s).2.2.2.2.2.2.2.2.2.2.2.1
@[simp] theorem State.formatClear_serial (s : State) : (State.formatClear s).serial = s.serial :=
  (State.formatClear_frame s).2.2.2.2.2.2.2.2.2.2.2.2.1
@[simp] theorem State.formatClear_free (s : State) : (State.formatClear s).free = s.free :=
  (State.formatClear_frame s).2.2.2.2.2.2.2.2.2.2.2.2.2.1
@[simp] theorem State.formatClear_pending (s : State) : (State.formatClear s).pending = s.pending :=
  (State.formatClear_frame s).2.2.2.2.2.2.2.2.2.2.2.2.2.2

/-- Fields that `formatIntent` keeps. -/
theorem State.formatIntent_frame (s : State) :
    (State.formatIntent s).power = s.power ∧ (State.formatIntent s).port = s.port ∧ (State.formatIntent s).events = s.events ∧ (State.formatIntent s).ctl = s.ctl ∧ (State.formatIntent s).line = s.line ∧ (State.formatIntent s).roster = s.roster ∧ (State.formatIntent s).table = s.table ∧ (State.formatIntent s).out = s.out ∧ (State.formatIntent s).applyQ = s.applyQ ∧ (State.formatIntent s).unsaved = s.unsaved ∧ (State.formatIntent s).catchup = s.catchup ∧ (State.formatIntent s).serving = s.serving ∧ (State.formatIntent s).arb = s.arb ∧ (State.formatIntent s).serial = s.serial ∧ (State.formatIntent s).free = s.free ∧ (State.formatIntent s).pending = s.pending := by
  unfold State.formatIntent; (repeat' (first | split | dsimp only)) <;> simp
@[simp] theorem State.formatIntent_power (s : State) : (State.formatIntent s).power = s.power :=
  (State.formatIntent_frame s).1
@[simp] theorem State.formatIntent_port (s : State) : (State.formatIntent s).port = s.port :=
  (State.formatIntent_frame s).2.1
@[simp] theorem State.formatIntent_events (s : State) : (State.formatIntent s).events = s.events :=
  (State.formatIntent_frame s).2.2.1
@[simp] theorem State.formatIntent_ctl (s : State) : (State.formatIntent s).ctl = s.ctl :=
  (State.formatIntent_frame s).2.2.2.1
@[simp] theorem State.formatIntent_line (s : State) : (State.formatIntent s).line = s.line :=
  (State.formatIntent_frame s).2.2.2.2.1
@[simp] theorem State.formatIntent_roster (s : State) : (State.formatIntent s).roster = s.roster :=
  (State.formatIntent_frame s).2.2.2.2.2.1
@[simp] theorem State.formatIntent_table (s : State) : (State.formatIntent s).table = s.table :=
  (State.formatIntent_frame s).2.2.2.2.2.2.1
@[simp] theorem State.formatIntent_out (s : State) : (State.formatIntent s).out = s.out :=
  (State.formatIntent_frame s).2.2.2.2.2.2.2.1
@[simp] theorem State.formatIntent_applyQ (s : State) : (State.formatIntent s).applyQ = s.applyQ :=
  (State.formatIntent_frame s).2.2.2.2.2.2.2.2.1
@[simp] theorem State.formatIntent_unsaved (s : State) : (State.formatIntent s).unsaved = s.unsaved :=
  (State.formatIntent_frame s).2.2.2.2.2.2.2.2.2.1
@[simp] theorem State.formatIntent_catchup (s : State) : (State.formatIntent s).catchup = s.catchup :=
  (State.formatIntent_frame s).2.2.2.2.2.2.2.2.2.2.1
@[simp] theorem State.formatIntent_serving (s : State) : (State.formatIntent s).serving = s.serving :=
  (State.formatIntent_frame s).2.2.2.2.2.2.2.2.2.2.2.1
@[simp] theorem State.formatIntent_arb (s : State) : (State.formatIntent s).arb = s.arb :=
  (State.formatIntent_frame s).2.2.2.2.2.2.2.2.2.2.2.2.1
@[simp] theorem State.formatIntent_serial (s : State) : (State.formatIntent s).serial = s.serial :=
  (State.formatIntent_frame s).2.2.2.2.2.2.2.2.2.2.2.2.2.1
@[simp] theorem State.formatIntent_free (s : State) : (State.formatIntent s).free = s.free :=
  (State.formatIntent_frame s).2.2.2.2.2.2.2.2.2.2.2.2.2.2.1
@[simp] theorem State.formatIntent_pending (s : State) : (State.formatIntent s).pending = s.pending :=
  (State.formatIntent_frame s).2.2.2.2.2.2.2.2.2.2.2.2.2.2.2

/-- Fields that `startListening` keeps. -/
theorem State.startListening_frame (s : State) :
    (State.startListening s).power = s.power ∧ (State.startListening s).nv = s.nv ∧ (State.startListening s).port = s.port ∧ (State.startListening s).events = s.events ∧ (State.startListening s).table = s.table ∧ (State.startListening s).out = s.out ∧ (State.startListening s).applyQ = s.applyQ ∧ (State.startListening s).unsaved = s.unsaved ∧ (State.startListening s).catchup = s.catchup ∧ (State.startListening s).serving = s.serving ∧ (State.startListening s).arb = s.arb ∧ (State.startListening s).serial = s.serial ∧ (State.startListening s).free = s.free ∧ (State.startListening s).pending = s.pending := by
  unfold State.startListening; (repeat' (first | split | dsimp only)) <;> simp
@[simp] theorem State.startListening_power (s : State) : (State.startListening s).power = s.power :=
  (State.startListening_frame s).1
@[simp] theorem State.startListening_nv (s : State) : (State.startListening s).nv = s.nv :=
  (State.startListening_frame s).2.1
@[simp] theorem State.startListening_port (s : State) : (State.startListening s).port = s.port :=
  (State.startListening_frame s).2.2.1
@[simp] theorem State.startListening_events (s : State) : (State.startListening s).events = s.events :=
  (State.startListening_frame s).2.2.2.1
@[simp] theorem State.startListening_table (s : State) : (State.startListening s).table = s.table :=
  (State.startListening_frame s).2.2.2.2.1
@[simp] theorem State.startListening_out (s : State) : (State.startListening s).out = s.out :=
  (State.startListening_frame s).2.2.2.2.2.1
@[simp] theorem State.startListening_applyQ (s : State) : (State.startListening s).applyQ = s.applyQ :=
  (State.startListening_frame s).2.2.2.2.2.2.1
@[simp] theorem State.startListening_unsaved (s : State) : (State.startListening s).unsaved = s.unsaved :=
  (State.startListening_frame s).2.2.2.2.2.2.2.1
@[simp] theorem State.startListening_catchup (s : State) : (State.startListening s).catchup = s.catchup :=
  (State.startListening_frame s).2.2.2.2.2.2.2.2.1
@[simp] theorem State.startListening_serving (s : State) : (State.startListening s).serving = s.serving :=
  (State.startListening_frame s).2.2.2.2.2.2.2.2.2.1
@[simp] theorem State.startListening_arb (s : State) : (State.startListening s).arb = s.arb :=
  (State.startListening_frame s).2.2.2.2.2.2.2.2.2.2.1
@[simp] theorem State.startListening_serial (s : State) : (State.startListening s).serial = s.serial :=
  (State.startListening_frame s).2.2.2.2.2.2.2.2.2.2.2.1
@[simp] theorem State.startListening_free (s : State) : (State.startListening s).free = s.free :=
  (State.startListening_frame s).2.2.2.2.2.2.2.2.2.2.2.2.1
@[simp] theorem State.startListening_pending (s : State) : (State.startListening s).pending = s.pending :=
  (State.startListening_frame s).2.2.2.2.2.2.2.2.2.2.2.2.2

/-- Fields that `startLeaving` keeps. -/
theorem State.startLeaving_frame (s : State) :
    (State.startLeaving s).power = s.power ∧ (State.startLeaving s).port = s.port ∧ (State.startLeaving s).line = s.line ∧ (State.startLeaving s).roster = s.roster ∧ (State.startLeaving s).applyQ = s.applyQ ∧ (State.startLeaving s).unsaved = s.unsaved ∧ (State.startLeaving s).serial = s.serial ∧ (State.startLeaving s).free = s.free ∧ (State.startLeaving s).pending = s.pending := by
  unfold State.startLeaving; (repeat' (first | split | dsimp only)) <;> simp
@[simp] theorem State.startLeaving_power (s : State) : (State.startLeaving s).power = s.power :=
  (State.startLeaving_frame s).1
@[simp] theorem State.startLeaving_port (s : State) : (State.startLeaving s).port = s.port :=
  (State.startLeaving_frame s).2.1
@[simp] theorem State.startLeaving_line (s : State) : (State.startLeaving s).line = s.line :=
  (State.startLeaving_frame s).2.2.1
@[simp] theorem State.startLeaving_roster (s : State) : (State.startLeaving s).roster = s.roster :=
  (State.startLeaving_frame s).2.2.2.1
@[simp] theorem State.startLeaving_applyQ (s : State) : (State.startLeaving s).applyQ = s.applyQ :=
  (State.startLeaving_frame s).2.2.2.2.1
@[simp] theorem State.startLeaving_unsaved (s : State) : (State.startLeaving s).unsaved = s.unsaved :=
  (State.startLeaving_frame s).2.2.2.2.2.1
@[simp] theorem State.startLeaving_serial (s : State) : (State.startLeaving s).serial = s.serial :=
  (State.startLeaving_frame s).2.2.2.2.2.2.1
@[simp] theorem State.startLeaving_free (s : State) : (State.startLeaving s).free = s.free :=
  (State.startLeaving_frame s).2.2.2.2.2.2.2.1
@[simp] theorem State.startLeaving_pending (s : State) : (State.startLeaving s).pending = s.pending :=
  (State.startLeaving_frame s).2.2.2.2.2.2.2.2

end Sys2Proof.Machine
end

