-- ==== Sys2Proof/Laws/RecoveryFrame.lean ====
section
/-! SUPPORT. What each operation of Machine/Recovery.lean leaves as it is, field by field. -/

namespace Sys2Proof.Machine

/-- Fields that `clearWorking` keeps. -/
theorem State.clearWorking_frame (s : State) (p : Power) :
    (State.clearWorking s p).free = s.free ∧ (State.clearWorking s p).pending = s.pending := by
  unfold State.clearWorking; (repeat' (first | split | dsimp only)) <;> simp
@[simp] theorem State.clearWorking_free (s : State) (p : Power) : (State.clearWorking s p).free = s.free :=
  (State.clearWorking_frame s p).1
@[simp] theorem State.clearWorking_pending (s : State) (p : Power) : (State.clearWorking s p).pending = s.pending :=
  (State.clearWorking_frame s p).2

/-- Fields that `recover` keeps. -/
theorem State.recover_frame (s : State) (c : ResetCause) (straps : Straps) :
    (State.recover s c straps).free = s.free ∧ (State.recover s c straps).pending = s.pending := by
  unfold State.recover; (repeat' (first | split | dsimp only)) <;> simp
@[simp] theorem State.recover_free (s : State) (c : ResetCause) (straps : Straps) : (State.recover s c straps).free = s.free :=
  (State.recover_frame s c straps).1
@[simp] theorem State.recover_pending (s : State) (c : ResetCause) (straps : Straps) : (State.recover s c straps).pending = s.pending :=
  (State.recover_frame s c straps).2

/-- Fields that `finishOp` keeps. -/
theorem State.finishOp_frame (s : State) :
    (State.finishOp s).free = s.free ∧ (State.finishOp s).pending = s.pending := by
  unfold State.finishOp; (repeat' (first | split | dsimp only)) <;> simp
@[simp] theorem State.finishOp_free (s : State) : (State.finishOp s).free = s.free :=
  (State.finishOp_frame s).1
@[simp] theorem State.finishOp_pending (s : State) : (State.finishOp s).pending = s.pending :=
  (State.finishOp_frame s).2

/-- Fields that `endOp` keeps. -/
theorem State.endOp_frame (s : State) :
    (State.endOp s).power = s.power ∧ (State.endOp s).nv = s.nv ∧ (State.endOp s).port = s.port ∧ (State.endOp s).events = s.events ∧ (State.endOp s).ctl = s.ctl ∧ (State.endOp s).line = s.line ∧ (State.endOp s).roster = s.roster ∧ (State.endOp s).table = s.table ∧ (State.endOp s).out = s.out ∧ (State.endOp s).applyQ = s.applyQ ∧ (State.endOp s).unsaved = s.unsaved ∧ (State.endOp s).catchup = s.catchup ∧ (State.endOp s).serving = s.serving ∧ (State.endOp s).serial = s.serial ∧ (State.endOp s).free = s.free ∧ (State.endOp s).pending = s.pending := by
  unfold State.endOp; (repeat' (first | split | dsimp only)) <;> simp
@[simp] theorem State.endOp_power (s : State) : (State.endOp s).power = s.power :=
  (State.endOp_frame s).1
@[simp] theorem State.endOp_nv (s : State) : (State.endOp s).nv = s.nv :=
  (State.endOp_frame s).2.1
@[simp] theorem State.endOp_port (s : State) : (State.endOp s).port = s.port :=
  (State.endOp_frame s).2.2.1
@[simp] theorem State.endOp_events (s : State) : (State.endOp s).events = s.events :=
  (State.endOp_frame s).2.2.2.1
@[simp] theorem State.endOp_ctl (s : State) : (State.endOp s).ctl = s.ctl :=
  (State.endOp_frame s).2.2.2.2.1
@[simp] theorem State.endOp_line (s : State) : (State.endOp s).line = s.line :=
  (State.endOp_frame s).2.2.2.2.2.1
@[simp] theorem State.endOp_roster (s : State) : (State.endOp s).roster = s.roster :=
  (State.endOp_frame s).2.2.2.2.2.2.1
@[simp] theorem State.endOp_table (s : State) : (State.endOp s).table = s.table :=
  (State.endOp_frame s).2.2.2.2.2.2.2.1
@[simp] theorem State.endOp_out (s : State) : (State.endOp s).out = s.out :=
  (State.endOp_frame s).2.2.2.2.2.2.2.2.1
@[simp] theorem State.endOp_applyQ (s : State) : (State.endOp s).applyQ = s.applyQ :=
  (State.endOp_frame s).2.2.2.2.2.2.2.2.2.1
@[simp] theorem State.endOp_unsaved (s : State) : (State.endOp s).unsaved = s.unsaved :=
  (State.endOp_frame s).2.2.2.2.2.2.2.2.2.2.1
@[simp] theorem State.endOp_catchup (s : State) : (State.endOp s).catchup = s.catchup :=
  (State.endOp_frame s).2.2.2.2.2.2.2.2.2.2.2.1
@[simp] theorem State.endOp_serving (s : State) : (State.endOp s).serving = s.serving :=
  (State.endOp_frame s).2.2.2.2.2.2.2.2.2.2.2.2.1
@[simp] theorem State.endOp_serial (s : State) : (State.endOp s).serial = s.serial :=
  (State.endOp_frame s).2.2.2.2.2.2.2.2.2.2.2.2.2.1
@[simp] theorem State.endOp_free (s : State) : (State.endOp s).free = s.free :=
  (State.endOp_frame s).2.2.2.2.2.2.2.2.2.2.2.2.2.2.1
@[simp] theorem State.endOp_pending (s : State) : (State.endOp s).pending = s.pending :=
  (State.endOp_frame s).2.2.2.2.2.2.2.2.2.2.2.2.2.2.2

/-- Fields that `writeArray` keeps. -/
theorem State.writeArray_frame (s : State) (r : Region) (k : Nat) (data : List Byte) :
    (State.writeArray s r k data).power = s.power ∧ (State.writeArray s r k data).port = s.port ∧ (State.writeArray s r k data).events = s.events ∧ (State.writeArray s r k data).ctl = s.ctl ∧ (State.writeArray s r k data).line = s.line ∧ (State.writeArray s r k data).roster = s.roster ∧ (State.writeArray s r k data).table = s.table ∧ (State.writeArray s r k data).out = s.out ∧ (State.writeArray s r k data).applyQ = s.applyQ ∧ (State.writeArray s r k data).unsaved = s.unsaved ∧ (State.writeArray s r k data).catchup = s.catchup ∧ (State.writeArray s r k data).serving = s.serving ∧ (State.writeArray s r k data).arb = s.arb ∧ (State.writeArray s r k data).serial = s.serial ∧ (State.writeArray s r k data).free = s.free ∧ (State.writeArray s r k data).pending = s.pending := by
  unfold State.writeArray; (repeat' (first | split | dsimp only)) <;> simp
@[simp] theorem State.writeArray_power (s : State) (r : Region) (k : Nat) (data : List Byte) : (State.writeArray s r k data).power = s.power :=
  (State.writeArray_frame s r k data).1
@[simp] theorem State.writeArray_port (s : State) (r : Region) (k : Nat) (data : List Byte) : (State.writeArray s r k data).port = s.port :=
  (State.writeArray_frame s r k data).2.1
@[simp] theorem State.writeArray_events (s : State) (r : Region) (k : Nat) (data : List Byte) : (State.writeArray s r k data).events = s.events :=
  (State.writeArray_frame s r k data).2.2.1
@[simp] theorem State.writeArray_ctl (s : State) (r : Region) (k : Nat) (data : List Byte) : (State.writeArray s r k data).ctl = s.ctl :=
  (State.writeArray_frame s r k data).2.2.2.1
@[simp] theorem State.writeArray_line (s : State) (r : Region) (k : Nat) (data : List Byte) : (State.writeArray s r k data).line = s.line :=
  (State.writeArray_frame s r k data).2.2.2.2.1
@[simp] theorem State.writeArray_roster (s : State) (r : Region) (k : Nat) (data : List Byte) : (State.writeArray s r k data).roster = s.roster :=
  (State.writeArray_frame s r k data).2.2.2.2.2.1
@[simp] theorem State.writeArray_table (s : State) (r : Region) (k : Nat) (data : List Byte) : (State.writeArray s r k data).table = s.table :=
  (State.writeArray_frame s r k data).2.2.2.2.2.2.1
@[simp] theorem State.writeArray_out (s : State) (r : Region) (k : Nat) (data : List Byte) : (State.writeArray s r k data).out = s.out :=
  (State.writeArray_frame s r k data).2.2.2.2.2.2.2.1
@[simp] theorem State.writeArray_applyQ (s : State) (r : Region) (k : Nat) (data : List Byte) : (State.writeArray s r k data).applyQ = s.applyQ :=
  (State.writeArray_frame s r k data).2.2.2.2.2.2.2.2.1
@[simp] theorem State.writeArray_unsaved (s : State) (r : Region) (k : Nat) (data : List Byte) : (State.writeArray s r k data).unsaved = s.unsaved :=
  (State.writeArray_frame s r k data).2.2.2.2.2.2.2.2.2.1
@[simp] theorem State.writeArray_catchup (s : State) (r : Region) (k : Nat) (data : List Byte) : (State.writeArray s r k data).catchup = s.catchup :=
  (State.writeArray_frame s r k data).2.2.2.2.2.2.2.2.2.2.1
@[simp] theorem State.writeArray_serving (s : State) (r : Region) (k : Nat) (data : List Byte) : (State.writeArray s r k data).serving = s.serving :=
  (State.writeArray_frame s r k data).2.2.2.2.2.2.2.2.2.2.2.1
@[simp] theorem State.writeArray_arb (s : State) (r : Region) (k : Nat) (data : List Byte) : (State.writeArray s r k data).arb = s.arb :=
  (State.writeArray_frame s r k data).2.2.2.2.2.2.2.2.2.2.2.2.1
@[simp] theorem State.writeArray_serial (s : State) (r : Region) (k : Nat) (data : List Byte) : (State.writeArray s r k data).serial = s.serial :=
  (State.writeArray_frame s r k data).2.2.2.2.2.2.2.2.2.2.2.2.2.1
@[simp] theorem State.writeArray_free (s : State) (r : Region) (k : Nat) (data : List Byte) : (State.writeArray s r k data).free = s.free :=
  (State.writeArray_frame s r k data).2.2.2.2.2.2.2.2.2.2.2.2.2.2.1
@[simp] theorem State.writeArray_pending (s : State) (r : Region) (k : Nat) (data : List Byte) : (State.writeArray s r k data).pending = s.pending :=
  (State.writeArray_frame s r k data).2.2.2.2.2.2.2.2.2.2.2.2.2.2.2

end Sys2Proof.Machine
end

