-- ==== Sys2Proof/Laws/ArrayEventsFrame.lean ====
section
/-! SUPPORT. What each operation of Machine/ArrayEvents.lean leaves as it is, field by field. -/

namespace Sys2Proof.Machine

/-- Fields that `setupWritten` keeps. -/
theorem State.setupWritten_frame (s : State) (members : StationMap) (guardSet : RegionMap) :
    (State.setupWritten s members guardSet).power = s.power ∧ (State.setupWritten s members guardSet).events = s.events ∧ (State.setupWritten s members guardSet).line = s.line ∧ (State.setupWritten s members guardSet).roster = s.roster ∧ (State.setupWritten s members guardSet).table = s.table ∧ (State.setupWritten s members guardSet).out = s.out ∧ (State.setupWritten s members guardSet).applyQ = s.applyQ ∧ (State.setupWritten s members guardSet).unsaved = s.unsaved ∧ (State.setupWritten s members guardSet).catchup = s.catchup ∧ (State.setupWritten s members guardSet).serving = s.serving ∧ (State.setupWritten s members guardSet).arb = s.arb ∧ (State.setupWritten s members guardSet).serial = s.serial ∧ (State.setupWritten s members guardSet).free = s.free ∧ (State.setupWritten s members guardSet).pending = s.pending := by
  unfold State.setupWritten; (repeat' (first | split | dsimp only)) <;> simp
@[simp] theorem State.setupWritten_power (s : State) (members : StationMap) (guardSet : RegionMap) : (State.setupWritten s members guardSet).power = s.power :=
  (State.setupWritten_frame s members guardSet).1
@[simp] theorem State.setupWritten_events (s : State) (members : StationMap) (guardSet : RegionMap) : (State.setupWritten s members guardSet).events = s.events :=
  (State.setupWritten_frame s members guardSet).2.1
@[simp] theorem State.setupWritten_line (s : State) (members : StationMap) (guardSet : RegionMap) : (State.setupWritten s members guardSet).line = s.line :=
  (State.setupWritten_frame s members guardSet).2.2.1
@[simp] theorem State.setupWritten_roster (s : State) (members : StationMap) (guardSet : RegionMap) : (State.setupWritten s members guardSet).roster = s.roster :=
  (State.setupWritten_frame s members guardSet).2.2.2.1
@[simp] theorem State.setupWritten_table (s : State) (members : StationMap) (guardSet : RegionMap) : (State.setupWritten s members guardSet).table = s.table :=
  (State.setupWritten_frame s members guardSet).2.2.2.2.1
@[simp] theorem State.setupWritten_out (s : State) (members : StationMap) (guardSet : RegionMap) : (State.setupWritten s members guardSet).out = s.out :=
  (State.setupWritten_frame s members guardSet).2.2.2.2.2.1
@[simp] theorem State.setupWritten_applyQ (s : State) (members : StationMap) (guardSet : RegionMap) : (State.setupWritten s members guardSet).applyQ = s.applyQ :=
  (State.setupWritten_frame s members guardSet).2.2.2.2.2.2.1
@[simp] theorem State.setupWritten_unsaved (s : State) (members : StationMap) (guardSet : RegionMap) : (State.setupWritten s members guardSet).unsaved = s.unsaved :=
  (State.setupWritten_frame s members guardSet).2.2.2.2.2.2.2.1
@[simp] theorem State.setupWritten_catchup (s : State) (members : StationMap) (guardSet : RegionMap) : (State.setupWritten s members guardSet).catchup = s.catchup :=
  (State.setupWritten_frame s members guardSet).2.2.2.2.2.2.2.2.1
@[simp] theorem State.setupWritten_serving (s : State) (members : StationMap) (guardSet : RegionMap) : (State.setupWritten s members guardSet).serving = s.serving :=
  (State.setupWritten_frame s members guardSet).2.2.2.2.2.2.2.2.2.1
@[simp] theorem State.setupWritten_arb (s : State) (members : StationMap) (guardSet : RegionMap) : (State.setupWritten s members guardSet).arb = s.arb :=
  (State.setupWritten_frame s members guardSet).2.2.2.2.2.2.2.2.2.2.1
@[simp] theorem State.setupWritten_serial (s : State) (members : StationMap) (guardSet : RegionMap) : (State.setupWritten s members guardSet).serial = s.serial :=
  (State.setupWritten_frame s members guardSet).2.2.2.2.2.2.2.2.2.2.2.1
@[simp] theorem State.setupWritten_free (s : State) (members : StationMap) (guardSet : RegionMap) : (State.setupWritten s members guardSet).free = s.free :=
  (State.setupWritten_frame s members guardSet).2.2.2.2.2.2.2.2.2.2.2.2.1
@[simp] theorem State.setupWritten_pending (s : State) (members : StationMap) (guardSet : RegionMap) : (State.setupWritten s members guardSet).pending = s.pending :=
  (State.setupWritten_frame s members guardSet).2.2.2.2.2.2.2.2.2.2.2.2.2

/-- Fields that `formatRegionDone` keeps. -/
theorem State.formatRegionDone_frame (s : State) (r : Region) :
    (State.formatRegionDone s r).power = s.power ∧ (State.formatRegionDone s r).port = s.port ∧ (State.formatRegionDone s r).events = s.events ∧ (State.formatRegionDone s r).ctl = s.ctl ∧ (State.formatRegionDone s r).line = s.line ∧ (State.formatRegionDone s r).roster = s.roster ∧ (State.formatRegionDone s r).out = s.out ∧ (State.formatRegionDone s r).applyQ = s.applyQ ∧ (State.formatRegionDone s r).catchup = s.catchup ∧ (State.formatRegionDone s r).serving = s.serving ∧ (State.formatRegionDone s r).arb = s.arb ∧ (State.formatRegionDone s r).serial = s.serial ∧ (State.formatRegionDone s r).free = s.free ∧ (State.formatRegionDone s r).pending = s.pending := by
  unfold State.formatRegionDone; (repeat' (first | split | dsimp only)) <;> simp
@[simp] theorem State.formatRegionDone_power (s : State) (r : Region) : (State.formatRegionDone s r).power = s.power :=
  (State.formatRegionDone_frame s r).1
@[simp] theorem State.formatRegionDone_port (s : State) (r : Region) : (State.formatRegionDone s r).port = s.port :=
  (State.formatRegionDone_frame s r).2.1
@[simp] theorem State.formatRegionDone_events (s : State) (r : Region) : (State.formatRegionDone s r).events = s.events :=
  (State.formatRegionDone_frame s r).2.2.1
@[simp] theorem State.formatRegionDone_ctl (s : State) (r : Region) : (State.formatRegionDone s r).ctl = s.ctl :=
  (State.formatRegionDone_frame s r).2.2.2.1
@[simp] theorem State.formatRegionDone_line (s : State) (r : Region) : (State.formatRegionDone s r).line = s.line :=
  (State.formatRegionDone_frame s r).2.2.2.2.1
@[simp] theorem State.formatRegionDone_roster (s : State) (r : Region) : (State.formatRegionDone s r).roster = s.roster :=
  (State.formatRegionDone_frame s r).2.2.2.2.2.1
@[simp] theorem State.formatRegionDone_out (s : State) (r : Region) : (State.formatRegionDone s r).out = s.out :=
  (State.formatRegionDone_frame s r).2.2.2.2.2.2.1
@[simp] theorem State.formatRegionDone_applyQ (s : State) (r : Region) : (State.formatRegionDone s r).applyQ = s.applyQ :=
  (State.formatRegionDone_frame s r).2.2.2.2.2.2.2.1
@[simp] theorem State.formatRegionDone_catchup (s : State) (r : Region) : (State.formatRegionDone s r).catchup = s.catchup :=
  (State.formatRegionDone_frame s r).2.2.2.2.2.2.2.2.1
@[simp] theorem State.formatRegionDone_serving (s : State) (r : Region) : (State.formatRegionDone s r).serving = s.serving :=
  (State.formatRegionDone_frame s r).2.2.2.2.2.2.2.2.2.1
@[simp] theorem State.formatRegionDone_arb (s : State) (r : Region) : (State.formatRegionDone s r).arb = s.arb :=
  (State.formatRegionDone_frame s r).2.2.2.2.2.2.2.2.2.2.1
@[simp] theorem State.formatRegionDone_serial (s : State) (r : Region) : (State.formatRegionDone s r).serial = s.serial :=
  (State.formatRegionDone_frame s r).2.2.2.2.2.2.2.2.2.2.2.1
@[simp] theorem State.formatRegionDone_free (s : State) (r : Region) : (State.formatRegionDone s r).free = s.free :=
  (State.formatRegionDone_frame s r).2.2.2.2.2.2.2.2.2.2.2.2.1
@[simp] theorem State.formatRegionDone_pending (s : State) (r : Region) : (State.formatRegionDone s r).pending = s.pending :=
  (State.formatRegionDone_frame s r).2.2.2.2.2.2.2.2.2.2.2.2.2

/-- Fields that `formatNext` keeps. -/
theorem State.formatNext_frame (s : State) (r : Region) (k : Chunk) :
    (State.formatNext s r k).power = s.power ∧ (State.formatNext s r k).events = s.events ∧ (State.formatNext s r k).ctl = s.ctl ∧ (State.formatNext s r k).line = s.line ∧ (State.formatNext s r k).roster = s.roster ∧ (State.formatNext s r k).out = s.out ∧ (State.formatNext s r k).applyQ = s.applyQ ∧ (State.formatNext s r k).catchup = s.catchup ∧ (State.formatNext s r k).serving = s.serving ∧ (State.formatNext s r k).arb = s.arb ∧ (State.formatNext s r k).serial = s.serial ∧ (State.formatNext s r k).free = s.free ∧ (State.formatNext s r k).pending = s.pending := by
  unfold State.formatNext; (repeat' (first | split | dsimp only)) <;> simp
@[simp] theorem State.formatNext_power (s : State) (r : Region) (k : Chunk) : (State.formatNext s r k).power = s.power :=
  (State.formatNext_frame s r k).1
@[simp] theorem State.formatNext_events (s : State) (r : Region) (k : Chunk) : (State.formatNext s r k).events = s.events :=
  (State.formatNext_frame s r k).2.1
@[simp] theorem State.formatNext_ctl (s : State) (r : Region) (k : Chunk) : (State.formatNext s r k).ctl = s.ctl :=
  (State.formatNext_frame s r k).2.2.1
@[simp] theorem State.formatNext_line (s : State) (r : Region) (k : Chunk) : (State.formatNext s r k).line = s.line :=
  (State.formatNext_frame s r k).2.2.2.1
@[simp] theorem State.formatNext_roster (s : State) (r : Region) (k : Chunk) : (State.formatNext s r k).roster = s.roster :=
  (State.formatNext_frame s r k).2.2.2.2.1
@[simp] theorem State.formatNext_out (s : State) (r : Region) (k : Chunk) : (State.formatNext s r k).out = s.out :=
  (State.formatNext_frame s r k).2.2.2.2.2.1
@[simp] theorem State.formatNext_applyQ (s : State) (r : Region) (k : Chunk) : (State.formatNext s r k).applyQ = s.applyQ :=
  (State.formatNext_frame s r k).2.2.2.2.2.2.1
@[simp] theorem State.formatNext_catchup (s : State) (r : Region) (k : Chunk) : (State.formatNext s r k).catchup = s.catchup :=
  (State.formatNext_frame s r k).2.2.2.2.2.2.2.1
@[simp] theorem State.formatNext_serving (s : State) (r : Region) (k : Chunk) : (State.formatNext s r k).serving = s.serving :=
  (State.formatNext_frame s r k).2.2.2.2.2.2.2.2.1
@[simp] theorem State.formatNext_arb (s : State) (r : Region) (k : Chunk) : (State.formatNext s r k).arb = s.arb :=
  (State.formatNext_frame s r k).2.2.2.2.2.2.2.2.2.1
@[simp] theorem State.formatNext_serial (s : State) (r : Region) (k : Chunk) : (State.formatNext s r k).serial = s.serial :=
  (State.formatNext_frame s r k).2.2.2.2.2.2.2.2.2.2.1
@[simp] theorem State.formatNext_free (s : State) (r : Region) (k : Chunk) : (State.formatNext s r k).free = s.free :=
  (State.formatNext_frame s r k).2.2.2.2.2.2.2.2.2.2.2.1
@[simp] theorem State.formatNext_pending (s : State) (r : Region) (k : Chunk) : (State.formatNext s r k).pending = s.pending :=
  (State.formatNext_frame s r k).2.2.2.2.2.2.2.2.2.2.2.2

/-- Fields that `formatStep` keeps. -/
theorem State.formatStep_frame (s : State) (r : Region) (k : Chunk) :
    (State.formatStep s r k).power = s.power ∧ (State.formatStep s r k).events = s.events ∧ (State.formatStep s r k).ctl = s.ctl ∧ (State.formatStep s r k).line = s.line ∧ (State.formatStep s r k).roster = s.roster ∧ (State.formatStep s r k).out = s.out ∧ (State.formatStep s r k).applyQ = s.applyQ ∧ (State.formatStep s r k).catchup = s.catchup ∧ (State.formatStep s r k).serving = s.serving ∧ (State.formatStep s r k).serial = s.serial ∧ (State.formatStep s r k).free = s.free ∧ (State.formatStep s r k).pending = s.pending := by
  unfold State.formatStep; (repeat' (first | split | dsimp only)) <;> simp
@[simp] theorem State.formatStep_power (s : State) (r : Region) (k : Chunk) : (State.formatStep s r k).power = s.power :=
  (State.formatStep_frame s r k).1
@[simp] theorem State.formatStep_events (s : State) (r : Region) (k : Chunk) : (State.formatStep s r k).events = s.events :=
  (State.formatStep_frame s r k).2.1
@[simp] theorem State.formatStep_ctl (s : State) (r : Region) (k : Chunk) : (State.formatStep s r k).ctl = s.ctl :=
  (State.formatStep_frame s r k).2.2.1
@[simp] theorem State.formatStep_line (s : State) (r : Region) (k : Chunk) : (State.formatStep s r k).line = s.line :=
  (State.formatStep_frame s r k).2.2.2.1
@[simp] theorem State.formatStep_roster (s : State) (r : Region) (k : Chunk) : (State.formatStep s r k).roster = s.roster :=
  (State.formatStep_frame s r k).2.2.2.2.1
@[simp] theorem State.formatStep_out (s : State) (r : Region) (k : Chunk) : (State.formatStep s r k).out = s.out :=
  (State.formatStep_frame s r k).2.2.2.2.2.1
@[simp] theorem State.formatStep_applyQ (s : State) (r : Region) (k : Chunk) : (State.formatStep s r k).applyQ = s.applyQ :=
  (State.formatStep_frame s r k).2.2.2.2.2.2.1
@[simp] theorem State.formatStep_catchup (s : State) (r : Region) (k : Chunk) : (State.formatStep s r k).catchup = s.catchup :=
  (State.formatStep_frame s r k).2.2.2.2.2.2.2.1
@[simp] theorem State.formatStep_serving (s : State) (r : Region) (k : Chunk) : (State.formatStep s r k).serving = s.serving :=
  (State.formatStep_frame s r k).2.2.2.2.2.2.2.2.1
@[simp] theorem State.formatStep_serial (s : State) (r : Region) (k : Chunk) : (State.formatStep s r k).serial = s.serial :=
  (State.formatStep_frame s r k).2.2.2.2.2.2.2.2.2.1
@[simp] theorem State.formatStep_free (s : State) (r : Region) (k : Chunk) : (State.formatStep s r k).free = s.free :=
  (State.formatStep_frame s r k).2.2.2.2.2.2.2.2.2.2.1
@[simp] theorem State.formatStep_pending (s : State) (r : Region) (k : Chunk) : (State.formatStep s r k).pending = s.pending :=
  (State.formatStep_frame s r k).2.2.2.2.2.2.2.2.2.2.2

/-- Fields that `readPiece` keeps. -/
theorem State.readPiece_frame (s : State) (w : ReadWork) :
    (State.readPiece s w).power = s.power ∧ (State.readPiece s w).nv = s.nv ∧ (State.readPiece s w).events = s.events ∧ (State.readPiece s w).ctl = s.ctl ∧ (State.readPiece s w).line = s.line ∧ (State.readPiece s w).roster = s.roster ∧ (State.readPiece s w).table = s.table ∧ (State.readPiece s w).out = s.out ∧ (State.readPiece s w).applyQ = s.applyQ ∧ (State.readPiece s w).unsaved = s.unsaved ∧ (State.readPiece s w).catchup = s.catchup ∧ (State.readPiece s w).serving = s.serving ∧ (State.readPiece s w).serial = s.serial ∧ (State.readPiece s w).free = s.free ∧ (State.readPiece s w).pending = s.pending := by
  unfold State.readPiece; (repeat' (first | split | dsimp only)) <;> simp
@[simp] theorem State.readPiece_power (s : State) (w : ReadWork) : (State.readPiece s w).power = s.power :=
  (State.readPiece_frame s w).1
@[simp] theorem State.readPiece_nv (s : State) (w : ReadWork) : (State.readPiece s w).nv = s.nv :=
  (State.readPiece_frame s w).2.1
@[simp] theorem State.readPiece_events (s : State) (w : ReadWork) : (State.readPiece s w).events = s.events :=
  (State.readPiece_frame s w).2.2.1
@[simp] theorem State.readPiece_ctl (s : State) (w : ReadWork) : (State.readPiece s w).ctl = s.ctl :=
  (State.readPiece_frame s w).2.2.2.1
@[simp] theorem State.readPiece_line (s : State) (w : ReadWork) : (State.readPiece s w).line = s.line :=
  (State.readPiece_frame s w).2.2.2.2.1
@[simp] theorem State.readPiece_roster (s : State) (w : ReadWork) : (State.readPiece s w).roster = s.roster :=
  (State.readPiece_frame s w).2.2.2.2.2.1
@[simp] theorem State.readPiece_table (s : State) (w : ReadWork) : (State.readPiece s w).table = s.table :=
  (State.readPiece_frame s w).2.2.2.2.2.2.1
@[simp] theorem State.readPiece_out (s : State) (w : ReadWork) : (State.readPiece s w).out = s.out :=
  (State.readPiece_frame s w).2.2.2.2.2.2.2.1
@[simp] theorem State.readPiece_applyQ (s : State) (w : ReadWork) : (State.readPiece s w).applyQ = s.applyQ :=
  (State.readPiece_frame s w).2.2.2.2.2.2.2.2.1
@[simp] theorem State.readPiece_unsaved (s : State) (w : ReadWork) : (State.readPiece s w).unsaved = s.unsaved :=
  (State.readPiece_frame s w).2.2.2.2.2.2.2.2.2.1
@[simp] theorem State.readPiece_catchup (s : State) (w : ReadWork) : (State.readPiece s w).catchup = s.catchup :=
  (State.readPiece_frame s w).2.2.2.2.2.2.2.2.2.2.1
@[simp] theorem State.readPiece_serving (s : State) (w : ReadWork) : (State.readPiece s w).serving = s.serving :=
  (State.readPiece_frame s w).2.2.2.2.2.2.2.2.2.2.2.1
@[simp] theorem State.readPiece_serial (s : State) (w : ReadWork) : (State.readPiece s w).serial = s.serial :=
  (State.readPiece_frame s w).2.2.2.2.2.2.2.2.2.2.2.2.1
@[simp] theorem State.readPiece_free (s : State) (w : ReadWork) : (State.readPiece s w).free = s.free :=
  (State.readPiece_frame s w).2.2.2.2.2.2.2.2.2.2.2.2.2.1
@[simp] theorem State.readPiece_pending (s : State) (w : ReadWork) : (State.readPiece s w).pending = s.pending :=
  (State.readPiece_frame s w).2.2.2.2.2.2.2.2.2.2.2.2.2.2

/-- Fields that `queueWrite` keeps. -/
theorem State.queueWrite_frame (s : State) (w : WriteWork) (e : RegionEntry) :
    (State.queueWrite s w e).power = s.power ∧ (State.queueWrite s w e).nv = s.nv ∧ (State.queueWrite s w e).port = s.port ∧ (State.queueWrite s w e).events = s.events ∧ (State.queueWrite s w e).ctl = s.ctl ∧ (State.queueWrite s w e).line = s.line ∧ (State.queueWrite s w e).roster = s.roster ∧ (State.queueWrite s w e).table = s.table ∧ (State.queueWrite s w e).applyQ = s.applyQ ∧ (State.queueWrite s w e).unsaved = s.unsaved ∧ (State.queueWrite s w e).catchup = s.catchup ∧ (State.queueWrite s w e).serving = s.serving ∧ (State.queueWrite s w e).arb = s.arb ∧ (State.queueWrite s w e).serial = s.serial ∧ (State.queueWrite s w e).free = s.free ∧ (State.queueWrite s w e).pending = s.pending := by
  unfold State.queueWrite; (repeat' (first | split | dsimp only)) <;> simp
@[simp] theorem State.queueWrite_power (s : State) (w : WriteWork) (e : RegionEntry) : (State.queueWrite s w e).power = s.power :=
  (State.queueWrite_frame s w e).1
@[simp] theorem State.queueWrite_nv (s : State) (w : WriteWork) (e : RegionEntry) : (State.queueWrite s w e).nv = s.nv :=
  (State.queueWrite_frame s w e).2.1
@[simp] theorem State.queueWrite_port (s : State) (w : WriteWork) (e : RegionEntry) : (State.queueWrite s w e).port = s.port :=
  (State.queueWrite_frame s w e).2.2.1
@[simp] theorem State.queueWrite_events (s : State) (w : WriteWork) (e : RegionEntry) : (State.queueWrite s w e).events = s.events :=
  (State.queueWrite_frame s w e).2.2.2.1
@[simp] theorem State.queueWrite_ctl (s : State) (w : WriteWork) (e : RegionEntry) : (State.queueWrite s w e).ctl = s.ctl :=
  (State.queueWrite_frame s w e).2.2.2.2.1
@[simp] theorem State.queueWrite_line (s : State) (w : WriteWork) (e : RegionEntry) : (State.queueWrite s w e).line = s.line :=
  (State.queueWrite_frame s w e).2.2.2.2.2.1
@[simp] theorem State.queueWrite_roster (s : State) (w : WriteWork) (e : RegionEntry) : (State.queueWrite s w e).roster = s.roster :=
  (State.queueWrite_frame s w e).2.2.2.2.2.2.1
@[simp] theorem State.queueWrite_table (s : State) (w : WriteWork) (e : RegionEntry) : (State.queueWrite s w e).table = s.table :=
  (State.queueWrite_frame s w e).2.2.2.2.2.2.2.1
@[simp] theorem State.queueWrite_applyQ (s : State) (w : WriteWork) (e : RegionEntry) : (State.queueWrite s w e).applyQ = s.applyQ :=
  (State.queueWrite_frame s w e).2.2.2.2.2.2.2.2.1
@[simp] theorem State.queueWrite_unsaved (s : State) (w : WriteWork) (e : RegionEntry) : (State.queueWrite s w e).unsaved = s.unsaved :=
  (State.queueWrite_frame s w e).2.2.2.2.2.2.2.2.2.1
@[simp] theorem State.queueWrite_catchup (s : State) (w : WriteWork) (e : RegionEntry) : (State.queueWrite s w e).catchup = s.catchup :=
  (State.queueWrite_frame s w e).2.2.2.2.2.2.2.2.2.2.1
@[simp] theorem State.queueWrite_serving (s : State) (w : WriteWork) (e : RegionEntry) : (State.queueWrite s w e).serving = s.serving :=
  (State.queueWrite_frame s w e).2.2.2.2.2.2.2.2.2.2.2.1
@[simp] theorem State.queueWrite_arb (s : State) (w : WriteWork) (e : RegionEntry) : (State.queueWrite s w e).arb = s.arb :=
  (State.queueWrite_frame s w e).2.2.2.2.2.2.2.2.2.2.2.2.1
@[simp] theorem State.queueWrite_serial (s : State) (w : WriteWork) (e : RegionEntry) : (State.queueWrite s w e).serial = s.serial :=
  (State.queueWrite_frame s w e).2.2.2.2.2.2.2.2.2.2.2.2.2.1
@[simp] theorem State.queueWrite_free (s : State) (w : WriteWork) (e : RegionEntry) : (State.queueWrite s w e).free = s.free :=
  (State.queueWrite_frame s w e).2.2.2.2.2.2.2.2.2.2.2.2.2.2.1
@[simp] theorem State.queueWrite_pending (s : State) (w : WriteWork) (e : RegionEntry) : (State.queueWrite s w e).pending = s.pending :=
  (State.queueWrite_frame s w e).2.2.2.2.2.2.2.2.2.2.2.2.2.2.2

/-- Fields that `ownerWrote` keeps. -/
theorem State.ownerWrote_frame (s : State) (w : WriteWork) :
    (State.ownerWrote s w).power = s.power ∧ (State.ownerWrote s w).line = s.line ∧ (State.ownerWrote s w).roster = s.roster ∧ (State.ownerWrote s w).applyQ = s.applyQ ∧ (State.ownerWrote s w).unsaved = s.unsaved ∧ (State.ownerWrote s w).catchup = s.catchup ∧ (State.ownerWrote s w).serial = s.serial ∧ (State.ownerWrote s w).free = s.free ∧ (State.ownerWrote s w).pending = s.pending := by
  unfold State.ownerWrote; (repeat' (first | split | dsimp only)) <;> simp
@[simp] theorem State.ownerWrote_power (s : State) (w : WriteWork) : (State.ownerWrote s w).power = s.power :=
  (State.ownerWrote_frame s w).1
@[simp] theorem State.ownerWrote_line (s : State) (w : WriteWork) : (State.ownerWrote s w).line = s.line :=
  (State.ownerWrote_frame s w).2.1
@[simp] theorem State.ownerWrote_roster (s : State) (w : WriteWork) : (State.ownerWrote s w).roster = s.roster :=
  (State.ownerWrote_frame s w).2.2.1
@[simp] theorem State.ownerWrote_applyQ (s : State) (w : WriteWork) : (State.ownerWrote s w).applyQ = s.applyQ :=
  (State.ownerWrote_frame s w).2.2.2.1
@[simp] theorem State.ownerWrote_unsaved (s : State) (w : WriteWork) : (State.ownerWrote s w).unsaved = s.unsaved :=
  (State.ownerWrote_frame s w).2.2.2.2.1
@[simp] theorem State.ownerWrote_catchup (s : State) (w : WriteWork) : (State.ownerWrote s w).catchup = s.catchup :=
  (State.ownerWrote_frame s w).2.2.2.2.2.1
@[simp] theorem State.ownerWrote_serial (s : State) (w : WriteWork) : (State.ownerWrote s w).serial = s.serial :=
  (State.ownerWrote_frame s w).2.2.2.2.2.2.1
@[simp] theorem State.ownerWrote_free (s : State) (w : WriteWork) : (State.ownerWrote s w).free = s.free :=
  (State.ownerWrote_frame s w).2.2.2.2.2.2.2.1
@[simp] theorem State.ownerWrote_pending (s : State) (w : WriteWork) : (State.ownerWrote s w).pending = s.pending :=
  (State.ownerWrote_frame s w).2.2.2.2.2.2.2.2

/-- Fields that `concludeWrite` keeps. -/
theorem State.concludeWrite_frame (s : State) (w : WriteWork) :
    (State.concludeWrite s w).power = s.power ∧ (State.concludeWrite s w).line = s.line ∧ (State.concludeWrite s w).roster = s.roster ∧ (State.concludeWrite s w).applyQ = s.applyQ ∧ (State.concludeWrite s w).unsaved = s.unsaved ∧ (State.concludeWrite s w).catchup = s.catchup ∧ (State.concludeWrite s w).serial = s.serial ∧ (State.concludeWrite s w).free = s.free ∧ (State.concludeWrite s w).pending = s.pending := by
  unfold State.concludeWrite; (repeat' (first | split | dsimp only)) <;> simp
@[simp] theorem State.concludeWrite_power (s : State) (w : WriteWork) : (State.concludeWrite s w).power = s.power :=
  (State.concludeWrite_frame s w).1
@[simp] theorem State.concludeWrite_line (s : State) (w : WriteWork) : (State.concludeWrite s w).line = s.line :=
  (State.concludeWrite_frame s w).2.1
@[simp] theorem State.concludeWrite_roster (s : State) (w : WriteWork) : (State.concludeWrite s w).roster = s.roster :=
  (State.concludeWrite_frame s w).2.2.1
@[simp] theorem State.concludeWrite_applyQ (s : State) (w : WriteWork) : (State.concludeWrite s w).applyQ = s.applyQ :=
  (State.concludeWrite_frame s w).2.2.2.1
@[simp] theorem State.concludeWrite_unsaved (s : State) (w : WriteWork) : (State.concludeWrite s w).unsaved = s.unsaved :=
  (State.concludeWrite_frame s w).2.2.2.2.1
@[simp] theorem State.concludeWrite_catchup (s : State) (w : WriteWork) : (State.concludeWrite s w).catchup = s.catchup :=
  (State.concludeWrite_frame s w).2.2.2.2.2.1
@[simp] theorem State.concludeWrite_serial (s : State) (w : WriteWork) : (State.concludeWrite s w).serial = s.serial :=
  (State.concludeWrite_frame s w).2.2.2.2.2.2.1
@[simp] theorem State.concludeWrite_free (s : State) (w : WriteWork) : (State.concludeWrite s w).free = s.free :=
  (State.concludeWrite_frame s w).2.2.2.2.2.2.2.1
@[simp] theorem State.concludeWrite_pending (s : State) (w : WriteWork) : (State.concludeWrite s w).pending = s.pending :=
  (State.concludeWrite_frame s w).2.2.2.2.2.2.2.2

/-- Fields that `writeDone` keeps. -/
theorem State.writeDone_frame (s : State) (w : WriteWork) :
    (State.writeDone s w).power = s.power ∧ (State.writeDone s w).line = s.line ∧ (State.writeDone s w).roster = s.roster ∧ (State.writeDone s w).applyQ = s.applyQ ∧ (State.writeDone s w).unsaved = s.unsaved ∧ (State.writeDone s w).catchup = s.catchup ∧ (State.writeDone s w).serial = s.serial ∧ (State.writeDone s w).free = s.free ∧ (State.writeDone s w).pending = s.pending := by
  unfold State.writeDone; (repeat' (first | split | dsimp only)) <;> simp
@[simp] theorem State.writeDone_power (s : State) (w : WriteWork) : (State.writeDone s w).power = s.power :=
  (State.writeDone_frame s w).1
@[simp] theorem State.writeDone_line (s : State) (w : WriteWork) : (State.writeDone s w).line = s.line :=
  (State.writeDone_frame s w).2.1
@[simp] theorem State.writeDone_roster (s : State) (w : WriteWork) : (State.writeDone s w).roster = s.roster :=
  (State.writeDone_frame s w).2.2.1
@[simp] theorem State.writeDone_applyQ (s : State) (w : WriteWork) : (State.writeDone s w).applyQ = s.applyQ :=
  (State.writeDone_frame s w).2.2.2.1
@[simp] theorem State.writeDone_unsaved (s : State) (w : WriteWork) : (State.writeDone s w).unsaved = s.unsaved :=
  (State.writeDone_frame s w).2.2.2.2.1
@[simp] theorem State.writeDone_catchup (s : State) (w : WriteWork) : (State.writeDone s w).catchup = s.catchup :=
  (State.writeDone_frame s w).2.2.2.2.2.1
@[simp] theorem State.writeDone_serial (s : State) (w : WriteWork) : (State.writeDone s w).serial = s.serial :=
  (State.writeDone_frame s w).2.2.2.2.2.2.1
@[simp] theorem State.writeDone_free (s : State) (w : WriteWork) : (State.writeDone s w).free = s.free :=
  (State.writeDone_frame s w).2.2.2.2.2.2.2.1
@[simp] theorem State.writeDone_pending (s : State) (w : WriteWork) : (State.writeDone s w).pending = s.pending :=
  (State.writeDone_frame s w).2.2.2.2.2.2.2.2

/-- Fields that `putPull` keeps. -/
theorem State.putPull_frame (s : State) (p : PullRecord) :
    (State.putPull s p).power = s.power ∧ (State.putPull s p).nv = s.nv ∧ (State.putPull s p).port = s.port ∧ (State.putPull s p).events = s.events ∧ (State.putPull s p).ctl = s.ctl ∧ (State.putPull s p).line = s.line ∧ (State.putPull s p).roster = s.roster ∧ (State.putPull s p).table = s.table ∧ (State.putPull s p).out = s.out ∧ (State.putPull s p).applyQ = s.applyQ ∧ (State.putPull s p).unsaved = s.unsaved ∧ (State.putPull s p).serving = s.serving ∧ (State.putPull s p).arb = s.arb ∧ (State.putPull s p).serial = s.serial ∧ (State.putPull s p).free = s.free ∧ (State.putPull s p).pending = s.pending := by
  unfold State.putPull; (repeat' (first | split | dsimp only)) <;> simp
@[simp] theorem State.putPull_power (s : State) (p : PullRecord) : (State.putPull s p).power = s.power :=
  (State.putPull_frame s p).1
@[simp] theorem State.putPull_nv (s : State) (p : PullRecord) : (State.putPull s p).nv = s.nv :=
  (State.putPull_frame s p).2.1
@[simp] theorem State.putPull_port (s : State) (p : PullRecord) : (State.putPull s p).port = s.port :=
  (State.putPull_frame s p).2.2.1
@[simp] theorem State.putPull_events (s : State) (p : PullRecord) : (State.putPull s p).events = s.events :=
  (State.putPull_frame s p).2.2.2.1
@[simp] theorem State.putPull_ctl (s : State) (p : PullRecord) : (State.putPull s p).ctl = s.ctl :=
  (State.putPull_frame s p).2.2.2.2.1
@[simp] theorem State.putPull_line (s : State) (p : PullRecord) : (State.putPull s p).line = s.line :=
  (State.putPull_frame s p).2.2.2.2.2.1
@[simp] theorem State.putPull_roster (s : State) (p : PullRecord) : (State.putPull s p).roster = s.roster :=
  (State.putPull_frame s p).2.2.2.2.2.2.1
@[simp] theorem State.putPull_table (s : State) (p : PullRecord) : (State.putPull s p).table = s.table :=
  (State.putPull_frame s p).2.2.2.2.2.2.2.1
@[simp] theorem State.putPull_out (s : State) (p : PullRecord) : (State.putPull s p).out = s.out :=
  (State.putPull_frame s p).2.2.2.2.2.2.2.2.1
@[simp] theorem State.putPull_applyQ (s : State) (p : PullRecord) : (State.putPull s p).applyQ = s.applyQ :=
  (State.putPull_frame s p).2.2.2.2.2.2.2.2.2.1
@[simp] theorem State.putPull_unsaved (s : State) (p : PullRecord) : (State.putPull s p).unsaved = s.unsaved :=
  (State.putPull_frame s p).2.2.2.2.2.2.2.2.2.2.1
@[simp] theorem State.putPull_serving (s : State) (p : PullRecord) : (State.putPull s p).serving = s.serving :=
  (State.putPull_frame s p).2.2.2.2.2.2.2.2.2.2.2.1
@[simp] theorem State.putPull_arb (s : State) (p : PullRecord) : (State.putPull s p).arb = s.arb :=
  (State.putPull_frame s p).2.2.2.2.2.2.2.2.2.2.2.2.1
@[simp] theorem State.putPull_serial (s : State) (p : PullRecord) : (State.putPull s p).serial = s.serial :=
  (State.putPull_frame s p).2.2.2.2.2.2.2.2.2.2.2.2.2.1
@[simp] theorem State.putPull_free (s : State) (p : PullRecord) : (State.putPull s p).free = s.free :=
  (State.putPull_frame s p).2.2.2.2.2.2.2.2.2.2.2.2.2.2.1
@[simp] theorem State.putPull_pending (s : State) (p : PullRecord) : (State.putPull s p).pending = s.pending :=
  (State.putPull_frame s p).2.2.2.2.2.2.2.2.2.2.2.2.2.2.2

/-- Fields that `completePull` keeps. -/
theorem State.completePull_frame (s : State) (p : PullRecord) (collecting : Stamp) :
    (State.completePull s p collecting).power = s.power ∧ (State.completePull s p collecting).port = s.port ∧ (State.completePull s p collecting).line = s.line ∧ (State.completePull s p collecting).roster = s.roster ∧ (State.completePull s p collecting).applyQ = s.applyQ ∧ (State.completePull s p collecting).unsaved = s.unsaved ∧ (State.completePull s p collecting).serving = s.serving ∧ (State.completePull s p collecting).arb = s.arb ∧ (State.completePull s p collecting).serial = s.serial ∧ (State.completePull s p collecting).free = s.free ∧ (State.completePull s p collecting).pending = s.pending := by
  unfold State.completePull; (repeat' (first | split | dsimp only)) <;> simp
@[simp] theorem State.completePull_power (s : State) (p : PullRecord) (collecting : Stamp) : (State.completePull s p collecting).power = s.power :=
  (State.completePull_frame s p collecting).1
@[simp] theorem State.completePull_port (s : State) (p : PullRecord) (collecting : Stamp) : (State.completePull s p collecting).port = s.port :=
  (State.completePull_frame s p collecting).2.1
@[simp] theorem State.completePull_line (s : State) (p : PullRecord) (collecting : Stamp) : (State.completePull s p collecting).line = s.line :=
  (State.completePull_frame s p collecting).2.2.1
@[simp] theorem State.completePull_roster (s : State) (p : PullRecord) (collecting : Stamp) : (State.completePull s p collecting).roster = s.roster :=
  (State.completePull_frame s p collecting).2.2.2.1
@[simp] theorem State.completePull_applyQ (s : State) (p : PullRecord) (collecting : Stamp) : (State.completePull s p collecting).applyQ = s.applyQ :=
  (State.completePull_frame s p collecting).2.2.2.2.1
@[simp] theorem State.completePull_unsaved (s : State) (p : PullRecord) (collecting : Stamp) : (State.completePull s p collecting).unsaved = s.unsaved :=
  (State.completePull_frame s p collecting).2.2.2.2.2.1
@[simp] theorem State.completePull_serving (s : State) (p : PullRecord) (collecting : Stamp) : (State.completePull s p collecting).serving = s.serving :=
  (State.completePull_frame s p collecting).2.2.2.2.2.2.1
@[simp] theorem State.completePull_arb (s : State) (p : PullRecord) (collecting : Stamp) : (State.completePull s p collecting).arb = s.arb :=
  (State.completePull_frame s p collecting).2.2.2.2.2.2.2.1
@[simp] theorem State.completePull_serial (s : State) (p : PullRecord) (collecting : Stamp) : (State.completePull s p collecting).serial = s.serial :=
  (State.completePull_frame s p collecting).2.2.2.2.2.2.2.2.1
@[simp] theorem State.completePull_free (s : State) (p : PullRecord) (collecting : Stamp) : (State.completePull s p collecting).free = s.free :=
  (State.completePull_frame s p collecting).2.2.2.2.2.2.2.2.2.1
@[simp] theorem State.completePull_pending (s : State) (p : PullRecord) (collecting : Stamp) : (State.completePull s p collecting).pending = s.pending :=
  (State.completePull_frame s p collecting).2.2.2.2.2.2.2.2.2.2

/-- Fields that `chunkWritten` keeps. -/
theorem State.chunkWritten_frame (s : State) (k : Chunk) (stamp : Stamp) (pull : Nat) :
    (State.chunkWritten s k stamp pull).power = s.power ∧ (State.chunkWritten s k stamp pull).port = s.port ∧ (State.chunkWritten s k stamp pull).line = s.line ∧ (State.chunkWritten s k stamp pull).roster = s.roster ∧ (State.chunkWritten s k stamp pull).applyQ = s.applyQ ∧ (State.chunkWritten s k stamp pull).unsaved = s.unsaved ∧ (State.chunkWritten s k stamp pull).serving = s.serving ∧ (State.chunkWritten s k stamp pull).arb = s.arb ∧ (State.chunkWritten s k stamp pull).serial = s.serial ∧ (State.chunkWritten s k stamp pull).free = s.free ∧ (State.chunkWritten s k stamp pull).pending = s.pending := by
  unfold State.chunkWritten; (repeat' (first | split | dsimp only)) <;> simp
@[simp] theorem State.chunkWritten_power (s : State) (k : Chunk) (stamp : Stamp) (pull : Nat) : (State.chunkWritten s k stamp pull).power = s.power :=
  (State.chunkWritten_frame s k stamp pull).1
@[simp] theorem State.chunkWritten_port (s : State) (k : Chunk) (stamp : Stamp) (pull : Nat) : (State.chunkWritten s k stamp pull).port = s.port :=
  (State.chunkWritten_frame s k stamp pull).2.1
@[simp] theorem State.chunkWritten_line (s : State) (k : Chunk) (stamp : Stamp) (pull : Nat) : (State.chunkWritten s k stamp pull).line = s.line :=
  (State.chunkWritten_frame s k stamp pull).2.2.1
@[simp] theorem State.chunkWritten_roster (s : State) (k : Chunk) (stamp : Stamp) (pull : Nat) : (State.chunkWritten s k stamp pull).roster = s.roster :=
  (State.chunkWritten_frame s k stamp pull).2.2.2.1
@[simp] theorem State.chunkWritten_applyQ (s : State) (k : Chunk) (stamp : Stamp) (pull : Nat) : (State.chunkWritten s k stamp pull).applyQ = s.applyQ :=
  (State.chunkWritten_frame s k stamp pull).2.2.2.2.1
@[simp] theorem State.chunkWritten_unsaved (s : State) (k : Chunk) (stamp : Stamp) (pull : Nat) : (State.chunkWritten s k stamp pull).unsaved = s.unsaved :=
  (State.chunkWritten_frame s k stamp pull).2.2.2.2.2.1
@[simp] theorem State.chunkWritten_serving (s : State) (k : Chunk) (stamp : Stamp) (pull : Nat) : (State.chunkWritten s k stamp pull).serving = s.serving :=
  (State.chunkWritten_frame s k stamp pull).2.2.2.2.2.2.1
@[simp] theorem State.chunkWritten_arb (s : State) (k : Chunk) (stamp : Stamp) (pull : Nat) : (State.chunkWritten s k stamp pull).arb = s.arb :=
  (State.chunkWritten_frame s k stamp pull).2.2.2.2.2.2.2.1
@[simp] theorem State.chunkWritten_serial (s : State) (k : Chunk) (stamp : Stamp) (pull : Nat) : (State.chunkWritten s k stamp pull).serial = s.serial :=
  (State.chunkWritten_frame s k stamp pull).2.2.2.2.2.2.2.2.1
@[simp] theorem State.chunkWritten_free (s : State) (k : Chunk) (stamp : Stamp) (pull : Nat) : (State.chunkWritten s k stamp pull).free = s.free :=
  (State.chunkWritten_frame s k stamp pull).2.2.2.2.2.2.2.2.2.1
@[simp] theorem State.chunkWritten_pending (s : State) (k : Chunk) (stamp : Stamp) (pull : Nat) : (State.chunkWritten s k stamp pull).pending = s.pending :=
  (State.chunkWritten_frame s k stamp pull).2.2.2.2.2.2.2.2.2.2

/-- Fields that `chunkWrittenInReset` keeps. -/
theorem State.chunkWrittenInReset_frame (s : State) (k : Chunk) (stamp : Stamp) (pull : Nat) :
    (State.chunkWrittenInReset s k stamp pull).power = s.power ∧ (State.chunkWrittenInReset s k stamp pull).port = s.port ∧ (State.chunkWrittenInReset s k stamp pull).line = s.line ∧ (State.chunkWrittenInReset s k stamp pull).roster = s.roster ∧ (State.chunkWrittenInReset s k stamp pull).applyQ = s.applyQ ∧ (State.chunkWrittenInReset s k stamp pull).unsaved = s.unsaved ∧ (State.chunkWrittenInReset s k stamp pull).serving = s.serving ∧ (State.chunkWrittenInReset s k stamp pull).arb = s.arb ∧ (State.chunkWrittenInReset s k stamp pull).serial = s.serial ∧ (State.chunkWrittenInReset s k stamp pull).pending = s.pending := by
  unfold State.chunkWrittenInReset; (repeat' (first | split | dsimp only)) <;> simp
@[simp] theorem State.chunkWrittenInReset_power (s : State) (k : Chunk) (stamp : Stamp) (pull : Nat) : (State.chunkWrittenInReset s k stamp pull).power = s.power :=
  (State.chunkWrittenInReset_frame s k stamp pull).1
@[simp] theorem State.chunkWrittenInReset_port (s : State) (k : Chunk) (stamp : Stamp) (pull : Nat) : (State.chunkWrittenInReset s k stamp pull).port = s.port :=
  (State.chunkWrittenInReset_frame s k stamp pull).2.1
@[simp] theorem State.chunkWrittenInReset_line (s : State) (k : Chunk) (stamp : Stamp) (pull : Nat) : (State.chunkWrittenInReset s k stamp pull).line = s.line :=
  (State.chunkWrittenInReset_frame s k stamp pull).2.2.1
@[simp] theorem State.chunkWrittenInReset_roster (s : State) (k : Chunk) (stamp : Stamp) (pull : Nat) : (State.chunkWrittenInReset s k stamp pull).roster = s.roster :=
  (State.chunkWrittenInReset_frame s k stamp pull).2.2.2.1
@[simp] theorem State.chunkWrittenInReset_applyQ (s : State) (k : Chunk) (stamp : Stamp) (pull : Nat) : (State.chunkWrittenInReset s k stamp pull).applyQ = s.applyQ :=
  (State.chunkWrittenInReset_frame s k stamp pull).2.2.2.2.1
@[simp] theorem State.chunkWrittenInReset_unsaved (s : State) (k : Chunk) (stamp : Stamp) (pull : Nat) : (State.chunkWrittenInReset s k stamp pull).unsaved = s.unsaved :=
  (State.chunkWrittenInReset_frame s k stamp pull).2.2.2.2.2.1
@[simp] theorem State.chunkWrittenInReset_serving (s : State) (k : Chunk) (stamp : Stamp) (pull : Nat) : (State.chunkWrittenInReset s k stamp pull).serving = s.serving :=
  (State.chunkWrittenInReset_frame s k stamp pull).2.2.2.2.2.2.1
@[simp] theorem State.chunkWrittenInReset_arb (s : State) (k : Chunk) (stamp : Stamp) (pull : Nat) : (State.chunkWrittenInReset s k stamp pull).arb = s.arb :=
  (State.chunkWrittenInReset_frame s k stamp pull).2.2.2.2.2.2.2.1
@[simp] theorem State.chunkWrittenInReset_serial (s : State) (k : Chunk) (stamp : Stamp) (pull : Nat) : (State.chunkWrittenInReset s k stamp pull).serial = s.serial :=
  (State.chunkWrittenInReset_frame s k stamp pull).2.2.2.2.2.2.2.2.1
@[simp] theorem State.chunkWrittenInReset_pending (s : State) (k : Chunk) (stamp : Stamp) (pull : Nat) : (State.chunkWrittenInReset s k stamp pull).pending = s.pending :=
  (State.chunkWrittenInReset_frame s k stamp pull).2.2.2.2.2.2.2.2.2

/-- Fields that `applied` keeps. -/
theorem State.applied_frame (s : State) (b : ApplyBody) :
    (State.applied s b).power = s.power ∧ (State.applied s b).port = s.port ∧ (State.applied s b).line = s.line ∧ (State.applied s b).roster = s.roster ∧ (State.applied s b).applyQ = s.applyQ ∧ (State.applied s b).unsaved = s.unsaved ∧ (State.applied s b).serving = s.serving ∧ (State.applied s b).arb = s.arb ∧ (State.applied s b).serial = s.serial ∧ (State.applied s b).pending = s.pending := by
  unfold State.applied; (repeat' (first | split | dsimp only)) <;> simp
@[simp] theorem State.applied_power (s : State) (b : ApplyBody) : (State.applied s b).power = s.power :=
  (State.applied_frame s b).1
@[simp] theorem State.applied_port (s : State) (b : ApplyBody) : (State.applied s b).port = s.port :=
  (State.applied_frame s b).2.1
@[simp] theorem State.applied_line (s : State) (b : ApplyBody) : (State.applied s b).line = s.line :=
  (State.applied_frame s b).2.2.1
@[simp] theorem State.applied_roster (s : State) (b : ApplyBody) : (State.applied s b).roster = s.roster :=
  (State.applied_frame s b).2.2.2.1
@[simp] theorem State.applied_applyQ (s : State) (b : ApplyBody) : (State.applied s b).applyQ = s.applyQ :=
  (State.applied_frame s b).2.2.2.2.1
@[simp] theorem State.applied_unsaved (s : State) (b : ApplyBody) : (State.applied s b).unsaved = s.unsaved :=
  (State.applied_frame s b).2.2.2.2.2.1
@[simp] theorem State.applied_serving (s : State) (b : ApplyBody) : (State.applied s b).serving = s.serving :=
  (State.applied_frame s b).2.2.2.2.2.2.1
@[simp] theorem State.applied_arb (s : State) (b : ApplyBody) : (State.applied s b).arb = s.arb :=
  (State.applied_frame s b).2.2.2.2.2.2.2.1
@[simp] theorem State.applied_serial (s : State) (b : ApplyBody) : (State.applied s b).serial = s.serial :=
  (State.applied_frame s b).2.2.2.2.2.2.2.2.1
@[simp] theorem State.applied_pending (s : State) (b : ApplyBody) : (State.applied s b).pending = s.pending :=
  (State.applied_frame s b).2.2.2.2.2.2.2.2.2

/-- Fields that `applyDone` keeps. -/
theorem State.applyDone_frame (s : State) (e : ApplyEntry) (rest : List ApplyEntry) :
    (State.applyDone s e rest).power = s.power ∧ (State.applyDone s e rest).port = s.port ∧ (State.applyDone s e rest).line = s.line ∧ (State.applyDone s e rest).roster = s.roster ∧ (State.applyDone s e rest).unsaved = s.unsaved ∧ (State.applyDone s e rest).serving = s.serving ∧ (State.applyDone s e rest).serial = s.serial ∧ (State.applyDone s e rest).pending = s.pending := by
  unfold State.applyDone; (repeat' (first | split | dsimp only)) <;> simp
@[simp] theorem State.applyDone_power (s : State) (e : ApplyEntry) (rest : List ApplyEntry) : (State.applyDone s e rest).power = s.power :=
  (State.applyDone_frame s e rest).1
@[simp] theorem State.applyDone_port (s : State) (e : ApplyEntry) (rest : List ApplyEntry) : (State.applyDone s e rest).port = s.port :=
  (State.applyDone_frame s e rest).2.1
@[simp] theorem State.applyDone_line (s : State) (e : ApplyEntry) (rest : List ApplyEntry) : (State.applyDone s e rest).line = s.line :=
  (State.applyDone_frame s e rest).2.2.1
@[simp] theorem State.applyDone_roster (s : State) (e : ApplyEntry) (rest : List ApplyEntry) : (State.applyDone s e rest).roster = s.roster :=
  (State.applyDone_frame s e rest).2.2.2.1
@[simp] theorem State.applyDone_unsaved (s : State) (e : ApplyEntry) (rest : List ApplyEntry) : (State.applyDone s e rest).unsaved = s.unsaved :=
  (State.applyDone_frame s e rest).2.2.2.2.1
@[simp] theorem State.applyDone_serving (s : State) (e : ApplyEntry) (rest : List ApplyEntry) : (State.applyDone s e rest).serving = s.serving :=
  (State.applyDone_frame s e rest).2.2.2.2.2.1
@[simp] theorem State.applyDone_serial (s : State) (e : ApplyEntry) (rest : List ApplyEntry) : (State.applyDone s e rest).serial = s.serial :=
  (State.applyDone_frame s e rest).2.2.2.2.2.2.1
@[simp] theorem State.applyDone_pending (s : State) (e : ApplyEntry) (rest : List ApplyEntry) : (State.applyDone s e rest).pending = s.pending :=
  (State.applyDone_frame s e rest).2.2.2.2.2.2.2

/-- Fields that `chunkRead` keeps. -/
theorem State.chunkRead_frame (s : State) (r : Region) (k : Chunk) (stamp : Stamp) (live : Bool) :
    (State.chunkRead s r k stamp live).power = s.power ∧ (State.chunkRead s r k stamp live).nv = s.nv ∧ (State.chunkRead s r k stamp live).port = s.port ∧ (State.chunkRead s r k stamp live).events = s.events ∧ (State.chunkRead s r k stamp live).ctl = s.ctl ∧ (State.chunkRead s r k stamp live).line = s.line ∧ (State.chunkRead s r k stamp live).roster = s.roster ∧ (State.chunkRead s r k stamp live).table = s.table ∧ (State.chunkRead s r k stamp live).applyQ = s.applyQ ∧ (State.chunkRead s r k stamp live).unsaved = s.unsaved ∧ (State.chunkRead s r k stamp live).catchup = s.catchup ∧ (State.chunkRead s r k stamp live).serial = s.serial ∧ (State.chunkRead s r k stamp live).free = s.free ∧ (State.chunkRead s r k stamp live).pending = s.pending := by
  unfold State.chunkRead; (repeat' (first | split | dsimp only)) <;> simp
@[simp] theorem State.chunkRead_power (s : State) (r : Region) (k : Chunk) (stamp : Stamp) (live : Bool) : (State.chunkRead s r k stamp live).power = s.power :=
  (State.chunkRead_frame s r k stamp live).1
@[simp] theorem State.chunkRead_nv (s : State) (r : Region) (k : Chunk) (stamp : Stamp) (live : Bool) : (State.chunkRead s r k stamp live).nv = s.nv :=
  (State.chunkRead_frame s r k stamp live).2.1
@[simp] theorem State.chunkRead_port (s : State) (r : Region) (k : Chunk) (stamp : Stamp) (live : Bool) : (State.chunkRead s r k stamp live).port = s.port :=
  (State.chunkRead_frame s r k stamp live).2.2.1
@[simp] theorem State.chunkRead_events (s : State) (r : Region) (k : Chunk) (stamp : Stamp) (live : Bool) : (State.chunkRead s r k stamp live).events = s.events :=
  (State.chunkRead_frame s r k stamp live).2.2.2.1
@[simp] theorem State.chunkRead_ctl (s : State) (r : Region) (k : Chunk) (stamp : Stamp) (live : Bool) : (State.chunkRead s r k stamp live).ctl = s.ctl :=
  (State.chunkRead_frame s r k stamp live).2.2.2.2.1
@[simp] theorem State.chunkRead_line (s : State) (r : Region) (k : Chunk) (stamp : Stamp) (live : Bool) : (State.chunkRead s r k stamp live).line = s.line :=
  (State.chunkRead_frame s r k stamp live).2.2.2.2.2.1
@[simp] theorem State.chunkRead_roster (s : State) (r : Region) (k : Chunk) (stamp : Stamp) (live : Bool) : (State.chunkRead s r k stamp live).roster = s.roster :=
  (State.chunkRead_frame s r k stamp live).2.2.2.2.2.2.1
@[simp] theorem State.chunkRead_table (s : State) (r : Region) (k : Chunk) (stamp : Stamp) (live : Bool) : (State.chunkRead s r k stamp live).table = s.table :=
  (State.chunkRead_frame s r k stamp live).2.2.2.2.2.2.2.1
@[simp] theorem State.chunkRead_applyQ (s : State) (r : Region) (k : Chunk) (stamp : Stamp) (live : Bool) : (State.chunkRead s r k stamp live).applyQ = s.applyQ :=
  (State.chunkRead_frame s r k stamp live).2.2.2.2.2.2.2.2.1
@[simp] theorem State.chunkRead_unsaved (s : State) (r : Region) (k : Chunk) (stamp : Stamp) (live : Bool) : (State.chunkRead s r k stamp live).unsaved = s.unsaved :=
  (State.chunkRead_frame s r k stamp live).2.2.2.2.2.2.2.2.2.1
@[simp] theorem State.chunkRead_catchup (s : State) (r : Region) (k : Chunk) (stamp : Stamp) (live : Bool) : (State.chunkRead s r k stamp live).catchup = s.catchup :=
  (State.chunkRead_frame s r k stamp live).2.2.2.2.2.2.2.2.2.2.1
@[simp] theorem State.chunkRead_serial (s : State) (r : Region) (k : Chunk) (stamp : Stamp) (live : Bool) : (State.chunkRead s r k stamp live).serial = s.serial :=
  (State.chunkRead_frame s r k stamp live).2.2.2.2.2.2.2.2.2.2.2.1
@[simp] theorem State.chunkRead_free (s : State) (r : Region) (k : Chunk) (stamp : Stamp) (live : Bool) : (State.chunkRead s r k stamp live).free = s.free :=
  (State.chunkRead_frame s r k stamp live).2.2.2.2.2.2.2.2.2.2.2.2.1
@[simp] theorem State.chunkRead_pending (s : State) (r : Region) (k : Chunk) (stamp : Stamp) (live : Bool) : (State.chunkRead s r k stamp live).pending = s.pending :=
  (State.chunkRead_frame s r k stamp live).2.2.2.2.2.2.2.2.2.2.2.2.2

end Sys2Proof.Machine
end

