-- ==== Sys2Proof/Laws/LineEventsFrame.lean ====
section
/-! SUPPORT. What each operation of Machine/LineEvents.lean leaves as it is, field by field. -/

namespace Sys2Proof.Machine

/-- Fields that `sendBeacon` keeps. -/
theorem State.sendBeacon_frame (s : State) :
    (State.sendBeacon s).power = s.power ∧ (State.sendBeacon s).nv = s.nv ∧ (State.sendBeacon s).port = s.port ∧ (State.sendBeacon s).events = s.events ∧ (State.sendBeacon s).roster = s.roster ∧ (State.sendBeacon s).table = s.table ∧ (State.sendBeacon s).out = s.out ∧ (State.sendBeacon s).applyQ = s.applyQ ∧ (State.sendBeacon s).unsaved = s.unsaved ∧ (State.sendBeacon s).catchup = s.catchup ∧ (State.sendBeacon s).serving = s.serving ∧ (State.sendBeacon s).arb = s.arb ∧ (State.sendBeacon s).serial = s.serial ∧ (State.sendBeacon s).free = s.free ∧ (State.sendBeacon s).pending = s.pending := by
  unfold State.sendBeacon; (repeat' (first | split | dsimp only)) <;> simp
@[simp] theorem State.sendBeacon_power (s : State) : (State.sendBeacon s).power = s.power :=
  (State.sendBeacon_frame s).1
@[simp] theorem State.sendBeacon_nv (s : State) : (State.sendBeacon s).nv = s.nv :=
  (State.sendBeacon_frame s).2.1
@[simp] theorem State.sendBeacon_port (s : State) : (State.sendBeacon s).port = s.port :=
  (State.sendBeacon_frame s).2.2.1
@[simp] theorem State.sendBeacon_events (s : State) : (State.sendBeacon s).events = s.events :=
  (State.sendBeacon_frame s).2.2.2.1
@[simp] theorem State.sendBeacon_roster (s : State) : (State.sendBeacon s).roster = s.roster :=
  (State.sendBeacon_frame s).2.2.2.2.1
@[simp] theorem State.sendBeacon_table (s : State) : (State.sendBeacon s).table = s.table :=
  (State.sendBeacon_frame s).2.2.2.2.2.1
@[simp] theorem State.sendBeacon_out (s : State) : (State.sendBeacon s).out = s.out :=
  (State.sendBeacon_frame s).2.2.2.2.2.2.1
@[simp] theorem State.sendBeacon_applyQ (s : State) : (State.sendBeacon s).applyQ = s.applyQ :=
  (State.sendBeacon_frame s).2.2.2.2.2.2.2.1
@[simp] theorem State.sendBeacon_unsaved (s : State) : (State.sendBeacon s).unsaved = s.unsaved :=
  (State.sendBeacon_frame s).2.2.2.2.2.2.2.2.1
@[simp] theorem State.sendBeacon_catchup (s : State) : (State.sendBeacon s).catchup = s.catchup :=
  (State.sendBeacon_frame s).2.2.2.2.2.2.2.2.2.1
@[simp] theorem State.sendBeacon_serving (s : State) : (State.sendBeacon s).serving = s.serving :=
  (State.sendBeacon_frame s).2.2.2.2.2.2.2.2.2.2.1
@[simp] theorem State.sendBeacon_arb (s : State) : (State.sendBeacon s).arb = s.arb :=
  (State.sendBeacon_frame s).2.2.2.2.2.2.2.2.2.2.2.1
@[simp] theorem State.sendBeacon_serial (s : State) : (State.sendBeacon s).serial = s.serial :=
  (State.sendBeacon_frame s).2.2.2.2.2.2.2.2.2.2.2.2.1
@[simp] theorem State.sendBeacon_free (s : State) : (State.sendBeacon s).free = s.free :=
  (State.sendBeacon_frame s).2.2.2.2.2.2.2.2.2.2.2.2.2.1
@[simp] theorem State.sendBeacon_pending (s : State) : (State.sendBeacon s).pending = s.pending :=
  (State.sendBeacon_frame s).2.2.2.2.2.2.2.2.2.2.2.2.2.2

/-- Fields that `unheldUnless` keeps. -/
theorem State.unheldUnless_frame (s : State) (won : Bool) (r : Region) :
    (State.unheldUnless s won r).power = s.power ∧ (State.unheldUnless s won r).port = s.port ∧ (State.unheldUnless s won r).events = s.events ∧ (State.unheldUnless s won r).ctl = s.ctl ∧ (State.unheldUnless s won r).line = s.line ∧ (State.unheldUnless s won r).roster = s.roster ∧ (State.unheldUnless s won r).out = s.out ∧ (State.unheldUnless s won r).applyQ = s.applyQ ∧ (State.unheldUnless s won r).unsaved = s.unsaved ∧ (State.unheldUnless s won r).catchup = s.catchup ∧ (State.unheldUnless s won r).serving = s.serving ∧ (State.unheldUnless s won r).arb = s.arb ∧ (State.unheldUnless s won r).serial = s.serial ∧ (State.unheldUnless s won r).free = s.free ∧ (State.unheldUnless s won r).pending = s.pending := by
  unfold State.unheldUnless; (repeat' (first | split | dsimp only)) <;> simp
@[simp] theorem State.unheldUnless_power (s : State) (won : Bool) (r : Region) : (State.unheldUnless s won r).power = s.power :=
  (State.unheldUnless_frame s won r).1
@[simp] theorem State.unheldUnless_port (s : State) (won : Bool) (r : Region) : (State.unheldUnless s won r).port = s.port :=
  (State.unheldUnless_frame s won r).2.1
@[simp] theorem State.unheldUnless_events (s : State) (won : Bool) (r : Region) : (State.unheldUnless s won r).events = s.events :=
  (State.unheldUnless_frame s won r).2.2.1
@[simp] theorem State.unheldUnless_ctl (s : State) (won : Bool) (r : Region) : (State.unheldUnless s won r).ctl = s.ctl :=
  (State.unheldUnless_frame s won r).2.2.2.1
@[simp] theorem State.unheldUnless_line (s : State) (won : Bool) (r : Region) : (State.unheldUnless s won r).line = s.line :=
  (State.unheldUnless_frame s won r).2.2.2.2.1
@[simp] theorem State.unheldUnless_roster (s : State) (won : Bool) (r : Region) : (State.unheldUnless s won r).roster = s.roster :=
  (State.unheldUnless_frame s won r).2.2.2.2.2.1
@[simp] theorem State.unheldUnless_out (s : State) (won : Bool) (r : Region) : (State.unheldUnless s won r).out = s.out :=
  (State.unheldUnless_frame s won r).2.2.2.2.2.2.1
@[simp] theorem State.unheldUnless_applyQ (s : State) (won : Bool) (r : Region) : (State.unheldUnless s won r).applyQ = s.applyQ :=
  (State.unheldUnless_frame s won r).2.2.2.2.2.2.2.1
@[simp] theorem State.unheldUnless_unsaved (s : State) (won : Bool) (r : Region) : (State.unheldUnless s won r).unsaved = s.unsaved :=
  (State.unheldUnless_frame s won r).2.2.2.2.2.2.2.2.1
@[simp] theorem State.unheldUnless_catchup (s : State) (won : Bool) (r : Region) : (State.unheldUnless s won r).catchup = s.catchup :=
  (State.unheldUnless_frame s won r).2.2.2.2.2.2.2.2.2.1
@[simp] theorem State.unheldUnless_serving (s : State) (won : Bool) (r : Region) : (State.unheldUnless s won r).serving = s.serving :=
  (State.unheldUnless_frame s won r).2.2.2.2.2.2.2.2.2.2.1
@[simp] theorem State.unheldUnless_arb (s : State) (won : Bool) (r : Region) : (State.unheldUnless s won r).arb = s.arb :=
  (State.unheldUnless_frame s won r).2.2.2.2.2.2.2.2.2.2.2.1
@[simp] theorem State.unheldUnless_serial (s : State) (won : Bool) (r : Region) : (State.unheldUnless s won r).serial = s.serial :=
  (State.unheldUnless_frame s won r).2.2.2.2.2.2.2.2.2.2.2.2.1
@[simp] theorem State.unheldUnless_free (s : State) (won : Bool) (r : Region) : (State.unheldUnless s won r).free = s.free :=
  (State.unheldUnless_frame s won r).2.2.2.2.2.2.2.2.2.2.2.2.2.1
@[simp] theorem State.unheldUnless_pending (s : State) (won : Bool) (r : Region) : (State.unheldUnless s won r).pending = s.pending :=
  (State.unheldUnless_frame s won r).2.2.2.2.2.2.2.2.2.2.2.2.2.2

/-- Fields that `claimOver` keeps. -/
theorem State.claimOver_frame (s : State) (r : Region) (source : ClaimSource) (won : Bool) :
    (State.claimOver s r source won).power = s.power ∧ (State.claimOver s r source won).port = s.port ∧ (State.claimOver s r source won).ctl = s.ctl ∧ (State.claimOver s r source won).line = s.line ∧ (State.claimOver s r source won).roster = s.roster ∧ (State.claimOver s r source won).applyQ = s.applyQ ∧ (State.claimOver s r source won).unsaved = s.unsaved ∧ (State.claimOver s r source won).catchup = s.catchup ∧ (State.claimOver s r source won).serving = s.serving ∧ (State.claimOver s r source won).arb = s.arb ∧ (State.claimOver s r source won).serial = s.serial ∧ (State.claimOver s r source won).free = s.free ∧ (State.claimOver s r source won).pending = s.pending := by
  unfold State.claimOver; (repeat' (first | split | dsimp only)) <;> simp
@[simp] theorem State.claimOver_power (s : State) (r : Region) (source : ClaimSource) (won : Bool) : (State.claimOver s r source won).power = s.power :=
  (State.claimOver_frame s r source won).1
@[simp] theorem State.claimOver_port (s : State) (r : Region) (source : ClaimSource) (won : Bool) : (State.claimOver s r source won).port = s.port :=
  (State.claimOver_frame s r source won).2.1
@[simp] theorem State.claimOver_ctl (s : State) (r : Region) (source : ClaimSource) (won : Bool) : (State.claimOver s r source won).ctl = s.ctl :=
  (State.claimOver_frame s r source won).2.2.1
@[simp] theorem State.claimOver_line (s : State) (r : Region) (source : ClaimSource) (won : Bool) : (State.claimOver s r source won).line = s.line :=
  (State.claimOver_frame s r source won).2.2.2.1
@[simp] theorem State.claimOver_roster (s : State) (r : Region) (source : ClaimSource) (won : Bool) : (State.claimOver s r source won).roster = s.roster :=
  (State.claimOver_frame s r source won).2.2.2.2.1
@[simp] theorem State.claimOver_applyQ (s : State) (r : Region) (source : ClaimSource) (won : Bool) : (State.claimOver s r source won).applyQ = s.applyQ :=
  (State.claimOver_frame s r source won).2.2.2.2.2.1
@[simp] theorem State.claimOver_unsaved (s : State) (r : Region) (source : ClaimSource) (won : Bool) : (State.claimOver s r source won).unsaved = s.unsaved :=
  (State.claimOver_frame s r source won).2.2.2.2.2.2.1
@[simp] theorem State.claimOver_catchup (s : State) (r : Region) (source : ClaimSource) (won : Bool) : (State.claimOver s r source won).catchup = s.catchup :=
  (State.claimOver_frame s r source won).2.2.2.2.2.2.2.1
@[simp] theorem State.claimOver_serving (s : State) (r : Region) (source : ClaimSource) (won : Bool) : (State.claimOver s r source won).serving = s.serving :=
  (State.claimOver_frame s r source won).2.2.2.2.2.2.2.2.1
@[simp] theorem State.claimOver_arb (s : State) (r : Region) (source : ClaimSource) (won : Bool) : (State.claimOver s r source won).arb = s.arb :=
  (State.claimOver_frame s r source won).2.2.2.2.2.2.2.2.2.1
@[simp] theorem State.claimOver_serial (s : State) (r : Region) (source : ClaimSource) (won : Bool) : (State.claimOver s r source won).serial = s.serial :=
  (State.claimOver_frame s r source won).2.2.2.2.2.2.2.2.2.2.1
@[simp] theorem State.claimOver_free (s : State) (r : Region) (source : ClaimSource) (won : Bool) : (State.claimOver s r source won).free = s.free :=
  (State.claimOver_frame s r source won).2.2.2.2.2.2.2.2.2.2.2.1
@[simp] theorem State.claimOver_pending (s : State) (r : Region) (source : ClaimSource) (won : Bool) : (State.claimOver s r source won).pending = s.pending :=
  (State.claimOver_frame s r source won).2.2.2.2.2.2.2.2.2.2.2.2

/-- Fields that `withdraw` keeps. -/
theorem State.withdraw_frame (s : State) (e : OutEntry) (source : ClaimSource) (why : LostReason) :
    (State.withdraw s e source why).power = s.power ∧ (State.withdraw s e source why).port = s.port ∧ (State.withdraw s e source why).ctl = s.ctl ∧ (State.withdraw s e source why).line = s.line ∧ (State.withdraw s e source why).roster = s.roster ∧ (State.withdraw s e source why).applyQ = s.applyQ ∧ (State.withdraw s e source why).unsaved = s.unsaved ∧ (State.withdraw s e source why).catchup = s.catchup ∧ (State.withdraw s e source why).serving = s.serving ∧ (State.withdraw s e source why).arb = s.arb ∧ (State.withdraw s e source why).serial = s.serial ∧ (State.withdraw s e source why).free = s.free ∧ (State.withdraw s e source why).pending = s.pending := by
  unfold State.withdraw; (repeat' (first | split | dsimp only)) <;> simp
@[simp] theorem State.withdraw_power (s : State) (e : OutEntry) (source : ClaimSource) (why : LostReason) : (State.withdraw s e source why).power = s.power :=
  (State.withdraw_frame s e source why).1
@[simp] theorem State.withdraw_port (s : State) (e : OutEntry) (source : ClaimSource) (why : LostReason) : (State.withdraw s e source why).port = s.port :=
  (State.withdraw_frame s e source why).2.1
@[simp] theorem State.withdraw_ctl (s : State) (e : OutEntry) (source : ClaimSource) (why : LostReason) : (State.withdraw s e source why).ctl = s.ctl :=
  (State.withdraw_frame s e source why).2.2.1
@[simp] theorem State.withdraw_line (s : State) (e : OutEntry) (source : ClaimSource) (why : LostReason) : (State.withdraw s e source why).line = s.line :=
  (State.withdraw_frame s e source why).2.2.2.1
@[simp] theorem State.withdraw_roster (s : State) (e : OutEntry) (source : ClaimSource) (why : LostReason) : (State.withdraw s e source why).roster = s.roster :=
  (State.withdraw_frame s e source why).2.2.2.2.1
@[simp] theorem State.withdraw_applyQ (s : State) (e : OutEntry) (source : ClaimSource) (why : LostReason) : (State.withdraw s e source why).applyQ = s.applyQ :=
  (State.withdraw_frame s e source why).2.2.2.2.2.1
@[simp] theorem State.withdraw_unsaved (s : State) (e : OutEntry) (source : ClaimSource) (why : LostReason) : (State.withdraw s e source why).unsaved = s.unsaved :=
  (State.withdraw_frame s e source why).2.2.2.2.2.2.1
@[simp] theorem State.withdraw_catchup (s : State) (e : OutEntry) (source : ClaimSource) (why : LostReason) : (State.withdraw s e source why).catchup = s.catchup :=
  (State.withdraw_frame s e source why).2.2.2.2.2.2.2.1
@[simp] theorem State.withdraw_serving (s : State) (e : OutEntry) (source : ClaimSource) (why : LostReason) : (State.withdraw s e source why).serving = s.serving :=
  (State.withdraw_frame s e source why).2.2.2.2.2.2.2.2.1
@[simp] theorem State.withdraw_arb (s : State) (e : OutEntry) (source : ClaimSource) (why : LostReason) : (State.withdraw s e source why).arb = s.arb :=
  (State.withdraw_frame s e source why).2.2.2.2.2.2.2.2.2.1
@[simp] theorem State.withdraw_serial (s : State) (e : OutEntry) (source : ClaimSource) (why : LostReason) : (State.withdraw s e source why).serial = s.serial :=
  (State.withdraw_frame s e source why).2.2.2.2.2.2.2.2.2.2.1
@[simp] theorem State.withdraw_free (s : State) (e : OutEntry) (source : ClaimSource) (why : LostReason) : (State.withdraw s e source why).free = s.free :=
  (State.withdraw_frame s e source why).2.2.2.2.2.2.2.2.2.2.2.1
@[simp] theorem State.withdraw_pending (s : State) (e : OutEntry) (source : ClaimSource) (why : LostReason) : (State.withdraw s e source why).pending = s.pending :=
  (State.withdraw_frame s e source why).2.2.2.2.2.2.2.2.2.2.2.2

/-- Fields that `sendEntry` keeps. -/
theorem State.sendEntry_frame (s : State) (e : OutEntry) :
    (State.sendEntry s e).power = s.power ∧ (State.sendEntry s e).nv = s.nv ∧ (State.sendEntry s e).port = s.port ∧ (State.sendEntry s e).events = s.events ∧ (State.sendEntry s e).ctl = s.ctl ∧ (State.sendEntry s e).roster = s.roster ∧ (State.sendEntry s e).table = s.table ∧ (State.sendEntry s e).applyQ = s.applyQ ∧ (State.sendEntry s e).unsaved = s.unsaved ∧ (State.sendEntry s e).catchup = s.catchup ∧ (State.sendEntry s e).serving = s.serving ∧ (State.sendEntry s e).arb = s.arb ∧ (State.sendEntry s e).serial = s.serial ∧ (State.sendEntry s e).free = s.free ∧ (State.sendEntry s e).pending = s.pending := by
  unfold State.sendEntry; (repeat' (first | split | dsimp only)) <;> simp
@[simp] theorem State.sendEntry_power (s : State) (e : OutEntry) : (State.sendEntry s e).power = s.power :=
  (State.sendEntry_frame s e).1
@[simp] theorem State.sendEntry_nv (s : State) (e : OutEntry) : (State.sendEntry s e).nv = s.nv :=
  (State.sendEntry_frame s e).2.1
@[simp] theorem State.sendEntry_port (s : State) (e : OutEntry) : (State.sendEntry s e).port = s.port :=
  (State.sendEntry_frame s e).2.2.1
@[simp] theorem State.sendEntry_events (s : State) (e : OutEntry) : (State.sendEntry s e).events = s.events :=
  (State.sendEntry_frame s e).2.2.2.1
@[simp] theorem State.sendEntry_ctl (s : State) (e : OutEntry) : (State.sendEntry s e).ctl = s.ctl :=
  (State.sendEntry_frame s e).2.2.2.2.1
@[simp] theorem State.sendEntry_roster (s : State) (e : OutEntry) : (State.sendEntry s e).roster = s.roster :=
  (State.sendEntry_frame s e).2.2.2.2.2.1
@[simp] theorem State.sendEntry_table (s : State) (e : OutEntry) : (State.sendEntry s e).table = s.table :=
  (State.sendEntry_frame s e).2.2.2.2.2.2.1
@[simp] theorem State.sendEntry_applyQ (s : State) (e : OutEntry) : (State.sendEntry s e).applyQ = s.applyQ :=
  (State.sendEntry_frame s e).2.2.2.2.2.2.2.1
@[simp] theorem State.sendEntry_unsaved (s : State) (e : OutEntry) : (State.sendEntry s e).unsaved = s.unsaved :=
  (State.sendEntry_frame s e).2.2.2.2.2.2.2.2.1
@[simp] theorem State.sendEntry_catchup (s : State) (e : OutEntry) : (State.sendEntry s e).catchup = s.catchup :=
  (State.sendEntry_frame s e).2.2.2.2.2.2.2.2.2.1
@[simp] theorem State.sendEntry_serving (s : State) (e : OutEntry) : (State.sendEntry s e).serving = s.serving :=
  (State.sendEntry_frame s e).2.2.2.2.2.2.2.2.2.2.1
@[simp] theorem State.sendEntry_arb (s : State) (e : OutEntry) : (State.sendEntry s e).arb = s.arb :=
  (State.sendEntry_frame s e).2.2.2.2.2.2.2.2.2.2.2.1
@[simp] theorem State.sendEntry_serial (s : State) (e : OutEntry) : (State.sendEntry s e).serial = s.serial :=
  (State.sendEntry_frame s e).2.2.2.2.2.2.2.2.2.2.2.2.1
@[simp] theorem State.sendEntry_free (s : State) (e : OutEntry) : (State.sendEntry s e).free = s.free :=
  (State.sendEntry_frame s e).2.2.2.2.2.2.2.2.2.2.2.2.2.1
@[simp] theorem State.sendEntry_pending (s : State) (e : OutEntry) : (State.sendEntry s e).pending = s.pending :=
  (State.sendEntry_frame s e).2.2.2.2.2.2.2.2.2.2.2.2.2.2

/-- Fields that `offerFrom` keeps. -/
theorem State.offerFrom_frame (n : Nat) (s : State) :
    (State.offerFrom n s).power = s.power ∧ (State.offerFrom n s).port = s.port ∧ (State.offerFrom n s).roster = s.roster ∧ (State.offerFrom n s).applyQ = s.applyQ ∧ (State.offerFrom n s).unsaved = s.unsaved ∧ (State.offerFrom n s).catchup = s.catchup ∧ (State.offerFrom n s).serving = s.serving ∧ (State.offerFrom n s).arb = s.arb ∧ (State.offerFrom n s).serial = s.serial ∧ (State.offerFrom n s).free = s.free ∧ (State.offerFrom n s).pending = s.pending := by
  induction n generalizing s with
  | zero => simp [State.offerFrom]
  | succ n ih => unfold State.offerFrom; (repeat' split) <;> simp [ih]
@[simp] theorem State.offerFrom_power (n : Nat) (s : State) : (State.offerFrom n s).power = s.power :=
  (State.offerFrom_frame n s).1
@[simp] theorem State.offerFrom_port (n : Nat) (s : State) : (State.offerFrom n s).port = s.port :=
  (State.offerFrom_frame n s).2.1
@[simp] theorem State.offerFrom_roster (n : Nat) (s : State) : (State.offerFrom n s).roster = s.roster :=
  (State.offerFrom_frame n s).2.2.1
@[simp] theorem State.offerFrom_applyQ (n : Nat) (s : State) : (State.offerFrom n s).applyQ = s.applyQ :=
  (State.offerFrom_frame n s).2.2.2.1
@[simp] theorem State.offerFrom_unsaved (n : Nat) (s : State) : (State.offerFrom n s).unsaved = s.unsaved :=
  (State.offerFrom_frame n s).2.2.2.2.1
@[simp] theorem State.offerFrom_catchup (n : Nat) (s : State) : (State.offerFrom n s).catchup = s.catchup :=
  (State.offerFrom_frame n s).2.2.2.2.2.1
@[simp] theorem State.offerFrom_serving (n : Nat) (s : State) : (State.offerFrom n s).serving = s.serving :=
  (State.offerFrom_frame n s).2.2.2.2.2.2.1
@[simp] theorem State.offerFrom_arb (n : Nat) (s : State) : (State.offerFrom n s).arb = s.arb :=
  (State.offerFrom_frame n s).2.2.2.2.2.2.2.1
@[simp] theorem State.offerFrom_serial (n : Nat) (s : State) : (State.offerFrom n s).serial = s.serial :=
  (State.offerFrom_frame n s).2.2.2.2.2.2.2.2.1
@[simp] theorem State.offerFrom_free (n : Nat) (s : State) : (State.offerFrom n s).free = s.free :=
  (State.offerFrom_frame n s).2.2.2.2.2.2.2.2.2.1
@[simp] theorem State.offerFrom_pending (n : Nat) (s : State) : (State.offerFrom n s).pending = s.pending :=
  (State.offerFrom_frame n s).2.2.2.2.2.2.2.2.2.2

/-- Fields that `offer` keeps. -/
theorem State.offer_frame (s : State) :
    (State.offer s).power = s.power ∧ (State.offer s).port = s.port ∧ (State.offer s).roster = s.roster ∧ (State.offer s).applyQ = s.applyQ ∧ (State.offer s).unsaved = s.unsaved ∧ (State.offer s).catchup = s.catchup ∧ (State.offer s).serving = s.serving ∧ (State.offer s).arb = s.arb ∧ (State.offer s).serial = s.serial ∧ (State.offer s).free = s.free ∧ (State.offer s).pending = s.pending := by
  unfold State.offer; (repeat' (first | split | dsimp only)) <;> simp
@[simp] theorem State.offer_power (s : State) : (State.offer s).power = s.power :=
  (State.offer_frame s).1
@[simp] theorem State.offer_port (s : State) : (State.offer s).port = s.port :=
  (State.offer_frame s).2.1
@[simp] theorem State.offer_roster (s : State) : (State.offer s).roster = s.roster :=
  (State.offer_frame s).2.2.1
@[simp] theorem State.offer_applyQ (s : State) : (State.offer s).applyQ = s.applyQ :=
  (State.offer_frame s).2.2.2.1
@[simp] theorem State.offer_unsaved (s : State) : (State.offer s).unsaved = s.unsaved :=
  (State.offer_frame s).2.2.2.2.1
@[simp] theorem State.offer_catchup (s : State) : (State.offer s).catchup = s.catchup :=
  (State.offer_frame s).2.2.2.2.2.1
@[simp] theorem State.offer_serving (s : State) : (State.offer s).serving = s.serving :=
  (State.offer_frame s).2.2.2.2.2.2.1
@[simp] theorem State.offer_arb (s : State) : (State.offer s).arb = s.arb :=
  (State.offer_frame s).2.2.2.2.2.2.2.1
@[simp] theorem State.offer_serial (s : State) : (State.offer s).serial = s.serial :=
  (State.offer_frame s).2.2.2.2.2.2.2.2.1
@[simp] theorem State.offer_free (s : State) : (State.offer s).free = s.free :=
  (State.offer_frame s).2.2.2.2.2.2.2.2.2.1
@[simp] theorem State.offer_pending (s : State) : (State.offer s).pending = s.pending :=
  (State.offer_frame s).2.2.2.2.2.2.2.2.2.2

/-- Fields that `returnBeacon` keeps. -/
theorem State.returnBeacon_frame (s : State) (b : BeaconFrame) :
    (State.returnBeacon s b).power = s.power ∧ (State.returnBeacon s b).nv = s.nv ∧ (State.returnBeacon s b).port = s.port ∧ (State.returnBeacon s b).events = s.events ∧ (State.returnBeacon s b).line = s.line ∧ (State.returnBeacon s b).roster = s.roster ∧ (State.returnBeacon s b).table = s.table ∧ (State.returnBeacon s b).out = s.out ∧ (State.returnBeacon s b).applyQ = s.applyQ ∧ (State.returnBeacon s b).unsaved = s.unsaved ∧ (State.returnBeacon s b).catchup = s.catchup ∧ (State.returnBeacon s b).serving = s.serving ∧ (State.returnBeacon s b).arb = s.arb ∧ (State.returnBeacon s b).serial = s.serial ∧ (State.returnBeacon s b).free = s.free ∧ (State.returnBeacon s b).pending = s.pending := by
  unfold State.returnBeacon; (repeat' (first | split | dsimp only)) <;> simp
@[simp] theorem State.returnBeacon_power (s : State) (b : BeaconFrame) : (State.returnBeacon s b).power = s.power :=
  (State.returnBeacon_frame s b).1
@[simp] theorem State.returnBeacon_nv (s : State) (b : BeaconFrame) : (State.returnBeacon s b).nv = s.nv :=
  (State.returnBeacon_frame s b).2.1
@[simp] theorem State.returnBeacon_port (s : State) (b : BeaconFrame) : (State.returnBeacon s b).port = s.port :=
  (State.returnBeacon_frame s b).2.2.1
@[simp] theorem State.returnBeacon_events (s : State) (b : BeaconFrame) : (State.returnBeacon s b).events = s.events :=
  (State.returnBeacon_frame s b).2.2.2.1
@[simp] theorem State.returnBeacon_line (s : State) (b : BeaconFrame) : (State.returnBeacon s b).line = s.line :=
  (State.returnBeacon_frame s b).2.2.2.2.1
@[simp] theorem State.returnBeacon_roster (s : State) (b : BeaconFrame) : (State.returnBeacon s b).roster = s.roster :=
  (State.returnBeacon_frame s b).2.2.2.2.2.1
@[simp] theorem State.returnBeacon_table (s : State) (b : BeaconFrame) : (State.returnBeacon s b).table = s.table :=
  (State.returnBeacon_frame s b).2.2.2.2.2.2.1
@[simp] theorem State.returnBeacon_out (s : State) (b : BeaconFrame) : (State.returnBeacon s b).out = s.out :=
  (State.returnBeacon_frame s b).2.2.2.2.2.2.2.1
@[simp] theorem State.returnBeacon_applyQ (s : State) (b : BeaconFrame) : (State.returnBeacon s b).applyQ = s.applyQ :=
  (State.returnBeacon_frame s b).2.2.2.2.2.2.2.2.1
@[simp] theorem State.returnBeacon_unsaved (s : State) (b : BeaconFrame) : (State.returnBeacon s b).unsaved = s.unsaved :=
  (State.returnBeacon_frame s b).2.2.2.2.2.2.2.2.2.1
@[simp] theorem State.returnBeacon_catchup (s : State) (b : BeaconFrame) : (State.returnBeacon s b).catchup = s.catchup :=
  (State.returnBeacon_frame s b).2.2.2.2.2.2.2.2.2.2.1
@[simp] theorem State.returnBeacon_serving (s : State) (b : BeaconFrame) : (State.returnBeacon s b).serving = s.serving :=
  (State.returnBeacon_frame s b).2.2.2.2.2.2.2.2.2.2.2.1
@[simp] theorem State.returnBeacon_arb (s : State) (b : BeaconFrame) : (State.returnBeacon s b).arb = s.arb :=
  (State.returnBeacon_frame s b).2.2.2.2.2.2.2.2.2.2.2.2.1
@[simp] theorem State.returnBeacon_serial (s : State) (b : BeaconFrame) : (State.returnBeacon s b).serial = s.serial :=
  (State.returnBeacon_frame s b).2.2.2.2.2.2.2.2.2.2.2.2.2.1
@[simp] theorem State.returnBeacon_free (s : State) (b : BeaconFrame) : (State.returnBeacon s b).free = s.free :=
  (State.returnBeacon_frame s b).2.2.2.2.2.2.2.2.2.2.2.2.2.2.1
@[simp] theorem State.returnBeacon_pending (s : State) (b : BeaconFrame) : (State.returnBeacon s b).pending = s.pending :=
  (State.returnBeacon_frame s b).2.2.2.2.2.2.2.2.2.2.2.2.2.2.2

/-- Fields that `attemptLost` keeps. -/
theorem State.attemptLost_frame (s : State) (t : TxSlot) :
    (State.attemptLost s t).power = s.power ∧ (State.attemptLost s t).nv = s.nv ∧ (State.attemptLost s t).port = s.port ∧ (State.attemptLost s t).roster = s.roster ∧ (State.attemptLost s t).table = s.table ∧ (State.attemptLost s t).applyQ = s.applyQ ∧ (State.attemptLost s t).unsaved = s.unsaved ∧ (State.attemptLost s t).catchup = s.catchup ∧ (State.attemptLost s t).serving = s.serving ∧ (State.attemptLost s t).arb = s.arb ∧ (State.attemptLost s t).serial = s.serial ∧ (State.attemptLost s t).free = s.free ∧ (State.attemptLost s t).pending = s.pending := by
  unfold State.attemptLost; (repeat' (first | split | dsimp only)) <;> simp
@[simp] theorem State.attemptLost_power (s : State) (t : TxSlot) : (State.attemptLost s t).power = s.power :=
  (State.attemptLost_frame s t).1
@[simp] theorem State.attemptLost_nv (s : State) (t : TxSlot) : (State.attemptLost s t).nv = s.nv :=
  (State.attemptLost_frame s t).2.1
@[simp] theorem State.attemptLost_port (s : State) (t : TxSlot) : (State.attemptLost s t).port = s.port :=
  (State.attemptLost_frame s t).2.2.1
@[simp] theorem State.attemptLost_roster (s : State) (t : TxSlot) : (State.attemptLost s t).roster = s.roster :=
  (State.attemptLost_frame s t).2.2.2.1
@[simp] theorem State.attemptLost_table (s : State) (t : TxSlot) : (State.attemptLost s t).table = s.table :=
  (State.attemptLost_frame s t).2.2.2.2.1
@[simp] theorem State.attemptLost_applyQ (s : State) (t : TxSlot) : (State.attemptLost s t).applyQ = s.applyQ :=
  (State.attemptLost_frame s t).2.2.2.2.2.1
@[simp] theorem State.attemptLost_unsaved (s : State) (t : TxSlot) : (State.attemptLost s t).unsaved = s.unsaved :=
  (State.attemptLost_frame s t).2.2.2.2.2.2.1
@[simp] theorem State.attemptLost_catchup (s : State) (t : TxSlot) : (State.attemptLost s t).catchup = s.catchup :=
  (State.attemptLost_frame s t).2.2.2.2.2.2.2.1
@[simp] theorem State.attemptLost_serving (s : State) (t : TxSlot) : (State.attemptLost s t).serving = s.serving :=
  (State.attemptLost_frame s t).2.2.2.2.2.2.2.2.1
@[simp] theorem State.attemptLost_arb (s : State) (t : TxSlot) : (State.attemptLost s t).arb = s.arb :=
  (State.attemptLost_frame s t).2.2.2.2.2.2.2.2.2.1
@[simp] theorem State.attemptLost_serial (s : State) (t : TxSlot) : (State.attemptLost s t).serial = s.serial :=
  (State.attemptLost_frame s t).2.2.2.2.2.2.2.2.2.2.1
@[simp] theorem State.attemptLost_free (s : State) (t : TxSlot) : (State.attemptLost s t).free = s.free :=
  (State.attemptLost_frame s t).2.2.2.2.2.2.2.2.2.2.2.1
@[simp] theorem State.attemptLost_pending (s : State) (t : TxSlot) : (State.attemptLost s t).pending = s.pending :=
  (State.attemptLost_frame s t).2.2.2.2.2.2.2.2.2.2.2.2

/-- Fields that `countFault` keeps. -/
theorem State.countFault_frame (s : State) :
    (State.countFault s).power = s.power ∧ (State.countFault s).unsaved = s.unsaved ∧ (State.countFault s).serial = s.serial ∧ (State.countFault s).free = s.free ∧ (State.countFault s).pending = s.pending := by
  unfold State.countFault; (repeat' (first | split | dsimp only)) <;> simp
@[simp] theorem State.countFault_power (s : State) : (State.countFault s).power = s.power :=
  (State.countFault_frame s).1
@[simp] theorem State.countFault_unsaved (s : State) : (State.countFault s).unsaved = s.unsaved :=
  (State.countFault_frame s).2.1
@[simp] theorem State.countFault_serial (s : State) : (State.countFault s).serial = s.serial :=
  (State.countFault_frame s).2.2.1
@[simp] theorem State.countFault_free (s : State) : (State.countFault s).free = s.free :=
  (State.countFault_frame s).2.2.2.1
@[simp] theorem State.countFault_pending (s : State) : (State.countFault s).pending = s.pending :=
  (State.countFault_frame s).2.2.2.2

/-- Fields that `answerAfterFault` keeps. -/
theorem State.answerAfterFault_frame (s : State) (place : FaultPlace) (f : Frame) :
    (State.answerAfterFault s place f).power = s.power ∧ (State.answerAfterFault s place f).nv = s.nv ∧ (State.answerAfterFault s place f).port = s.port ∧ (State.answerAfterFault s place f).events = s.events ∧ (State.answerAfterFault s place f).ctl = s.ctl ∧ (State.answerAfterFault s place f).line = s.line ∧ (State.answerAfterFault s place f).roster = s.roster ∧ (State.answerAfterFault s place f).table = s.table ∧ (State.answerAfterFault s place f).out = s.out ∧ (State.answerAfterFault s place f).applyQ = s.applyQ ∧ (State.answerAfterFault s place f).unsaved = s.unsaved ∧ (State.answerAfterFault s place f).serving = s.serving ∧ (State.answerAfterFault s place f).arb = s.arb ∧ (State.answerAfterFault s place f).serial = s.serial ∧ (State.answerAfterFault s place f).pending = s.pending := by
  unfold State.answerAfterFault; (repeat' (first | split | dsimp only)) <;> simp
@[simp] theorem State.answerAfterFault_power (s : State) (place : FaultPlace) (f : Frame) : (State.answerAfterFault s place f).power = s.power :=
  (State.answerAfterFault_frame s place f).1
@[simp] theorem State.answerAfterFault_nv (s : State) (place : FaultPlace) (f : Frame) : (State.answerAfterFault s place f).nv = s.nv :=
  (State.answerAfterFault_frame s place f).2.1
@[simp] theorem State.answerAfterFault_port (s : State) (place : FaultPlace) (f : Frame) : (State.answerAfterFault s place f).port = s.port :=
  (State.answerAfterFault_frame s place f).2.2.1
@[simp] theorem State.answerAfterFault_events (s : State) (place : FaultPlace) (f : Frame) : (State.answerAfterFault s place f).events = s.events :=
  (State.answerAfterFault_frame s place f).2.2.2.1
@[simp] theorem State.answerAfterFault_ctl (s : State) (place : FaultPlace) (f : Frame) : (State.answerAfterFault s place f).ctl = s.ctl :=
  (State.answerAfterFault_frame s place f).2.2.2.2.1
@[simp] theorem State.answerAfterFault_line (s : State) (place : FaultPlace) (f : Frame) : (State.answerAfterFault s place f).line = s.line :=
  (State.answerAfterFault_frame s place f).2.2.2.2.2.1
@[simp] theorem State.answerAfterFault_roster (s : State) (place : FaultPlace) (f : Frame) : (State.answerAfterFault s place f).roster = s.roster :=
  (State.answerAfterFault_frame s place f).2.2.2.2.2.2.1
@[simp] theorem State.answerAfterFault_table (s : State) (place : FaultPlace) (f : Frame) : (State.answerAfterFault s place f).table = s.table :=
  (State.answerAfterFault_frame s place f).2.2.2.2.2.2.2.1
@[simp] theorem State.answerAfterFault_out (s : State) (place : FaultPlace) (f : Frame) : (State.answerAfterFault s place f).out = s.out :=
  (State.answerAfterFault_frame s place f).2.2.2.2.2.2.2.2.1
@[simp] theorem State.answerAfterFault_applyQ (s : State) (place : FaultPlace) (f : Frame) : (State.answerAfterFault s place f).applyQ = s.applyQ :=
  (State.answerAfterFault_frame s place f).2.2.2.2.2.2.2.2.2.1
@[simp] theorem State.answerAfterFault_unsaved (s : State) (place : FaultPlace) (f : Frame) : (State.answerAfterFault s place f).unsaved = s.unsaved :=
  (State.answerAfterFault_frame s place f).2.2.2.2.2.2.2.2.2.2.1
@[simp] theorem State.answerAfterFault_serving (s : State) (place : FaultPlace) (f : Frame) : (State.answerAfterFault s place f).serving = s.serving :=
  (State.answerAfterFault_frame s place f).2.2.2.2.2.2.2.2.2.2.2.1
@[simp] theorem State.answerAfterFault_arb (s : State) (place : FaultPlace) (f : Frame) : (State.answerAfterFault s place f).arb = s.arb :=
  (State.answerAfterFault_frame s place f).2.2.2.2.2.2.2.2.2.2.2.2.1
@[simp] theorem State.answerAfterFault_serial (s : State) (place : FaultPlace) (f : Frame) : (State.answerAfterFault s place f).serial = s.serial :=
  (State.answerAfterFault_frame s place f).2.2.2.2.2.2.2.2.2.2.2.2.2.1
@[simp] theorem State.answerAfterFault_pending (s : State) (place : FaultPlace) (f : Frame) : (State.answerAfterFault s place f).pending = s.pending :=
  (State.answerAfterFault_frame s place f).2.2.2.2.2.2.2.2.2.2.2.2.2.2

/-- Fields that `postStranger` keeps. -/
theorem State.postStranger_frame (s : State) (n : Station) :
    (State.postStranger s n).power = s.power ∧ (State.postStranger s n).nv = s.nv ∧ (State.postStranger s n).port = s.port ∧ (State.postStranger s n).ctl = s.ctl ∧ (State.postStranger s n).line = s.line ∧ (State.postStranger s n).roster = s.roster ∧ (State.postStranger s n).table = s.table ∧ (State.postStranger s n).out = s.out ∧ (State.postStranger s n).applyQ = s.applyQ ∧ (State.postStranger s n).unsaved = s.unsaved ∧ (State.postStranger s n).catchup = s.catchup ∧ (State.postStranger s n).serving = s.serving ∧ (State.postStranger s n).arb = s.arb ∧ (State.postStranger s n).serial = s.serial ∧ (State.postStranger s n).free = s.free ∧ (State.postStranger s n).pending = s.pending := by
  unfold State.postStranger; (repeat' (first | split | dsimp only)) <;> simp
@[simp] theorem State.postStranger_power (s : State) (n : Station) : (State.postStranger s n).power = s.power :=
  (State.postStranger_frame s n).1
@[simp] theorem State.postStranger_nv (s : State) (n : Station) : (State.postStranger s n).nv = s.nv :=
  (State.postStranger_frame s n).2.1
@[simp] theorem State.postStranger_port (s : State) (n : Station) : (State.postStranger s n).port = s.port :=
  (State.postStranger_frame s n).2.2.1
@[simp] theorem State.postStranger_ctl (s : State) (n : Station) : (State.postStranger s n).ctl = s.ctl :=
  (State.postStranger_frame s n).2.2.2.1
@[simp] theorem State.postStranger_line (s : State) (n : Station) : (State.postStranger s n).line = s.line :=
  (State.postStranger_frame s n).2.2.2.2.1
@[simp] theorem State.postStranger_roster (s : State) (n : Station) : (State.postStranger s n).roster = s.roster :=
  (State.postStranger_frame s n).2.2.2.2.2.1
@[simp] theorem State.postStranger_table (s : State) (n : Station) : (State.postStranger s n).table = s.table :=
  (State.postStranger_frame s n).2.2.2.2.2.2.1
@[simp] theorem State.postStranger_out (s : State) (n : Station) : (State.postStranger s n).out = s.out :=
  (State.postStranger_frame s n).2.2.2.2.2.2.2.1
@[simp] theorem State.postStranger_applyQ (s : State) (n : Station) : (State.postStranger s n).applyQ = s.applyQ :=
  (State.postStranger_frame s n).2.2.2.2.2.2.2.2.1
@[simp] theorem State.postStranger_unsaved (s : State) (n : Station) : (State.postStranger s n).unsaved = s.unsaved :=
  (State.postStranger_frame s n).2.2.2.2.2.2.2.2.2.1
@[simp] theorem State.postStranger_catchup (s : State) (n : Station) : (State.postStranger s n).catchup = s.catchup :=
  (State.postStranger_frame s n).2.2.2.2.2.2.2.2.2.2.1
@[simp] theorem State.postStranger_serving (s : State) (n : Station) : (State.postStranger s n).serving = s.serving :=
  (State.postStranger_frame s n).2.2.2.2.2.2.2.2.2.2.2.1
@[simp] theorem State.postStranger_arb (s : State) (n : Station) : (State.postStranger s n).arb = s.arb :=
  (State.postStranger_frame s n).2.2.2.2.2.2.2.2.2.2.2.2.1
@[simp] theorem State.postStranger_serial (s : State) (n : Station) : (State.postStranger s n).serial = s.serial :=
  (State.postStranger_frame s n).2.2.2.2.2.2.2.2.2.2.2.2.2.1
@[simp] theorem State.postStranger_free (s : State) (n : Station) : (State.postStranger s n).free = s.free :=
  (State.postStranger_frame s n).2.2.2.2.2.2.2.2.2.2.2.2.2.2.1
@[simp] theorem State.postStranger_pending (s : State) (n : Station) : (State.postStranger s n).pending = s.pending :=
  (State.postStranger_frame s n).2.2.2.2.2.2.2.2.2.2.2.2.2.2.2

/-- Fields that `strangerHeard` keeps. -/
theorem State.strangerHeard_frame (s : State) (n : Station) :
    (State.strangerHeard s n).power = s.power ∧ (State.strangerHeard s n).nv = s.nv ∧ (State.strangerHeard s n).port = s.port ∧ (State.strangerHeard s n).ctl = s.ctl ∧ (State.strangerHeard s n).roster = s.roster ∧ (State.strangerHeard s n).table = s.table ∧ (State.strangerHeard s n).out = s.out ∧ (State.strangerHeard s n).applyQ = s.applyQ ∧ (State.strangerHeard s n).unsaved = s.unsaved ∧ (State.strangerHeard s n).catchup = s.catchup ∧ (State.strangerHeard s n).serving = s.serving ∧ (State.strangerHeard s n).arb = s.arb ∧ (State.strangerHeard s n).serial = s.serial ∧ (State.strangerHeard s n).free = s.free ∧ (State.strangerHeard s n).pending = s.pending := by
  unfold State.strangerHeard; (repeat' (first | split | dsimp only)) <;> simp
@[simp] theorem State.strangerHeard_power (s : State) (n : Station) : (State.strangerHeard s n).power = s.power :=
  (State.strangerHeard_frame s n).1
@[simp] theorem State.strangerHeard_nv (s : State) (n : Station) : (State.strangerHeard s n).nv = s.nv :=
  (State.strangerHeard_frame s n).2.1
@[simp] theorem State.strangerHeard_port (s : State) (n : Station) : (State.strangerHeard s n).port = s.port :=
  (State.strangerHeard_frame s n).2.2.1
@[simp] theorem State.strangerHeard_ctl (s : State) (n : Station) : (State.strangerHeard s n).ctl = s.ctl :=
  (State.strangerHeard_frame s n).2.2.2.1
@[simp] theorem State.strangerHeard_roster (s : State) (n : Station) : (State.strangerHeard s n).roster = s.roster :=
  (State.strangerHeard_frame s n).2.2.2.2.1
@[simp] theorem State.strangerHeard_table (s : State) (n : Station) : (State.strangerHeard s n).table = s.table :=
  (State.strangerHeard_frame s n).2.2.2.2.2.1
@[simp] theorem State.strangerHeard_out (s : State) (n : Station) : (State.strangerHeard s n).out = s.out :=
  (State.strangerHeard_frame s n).2.2.2.2.2.2.1
@[simp] theorem State.strangerHeard_applyQ (s : State) (n : Station) : (State.strangerHeard s n).applyQ = s.applyQ :=
  (State.strangerHeard_frame s n).2.2.2.2.2.2.2.1
@[simp] theorem State.strangerHeard_unsaved (s : State) (n : Station) : (State.strangerHeard s n).unsaved = s.unsaved :=
  (State.strangerHeard_frame s n).2.2.2.2.2.2.2.2.1
@[simp] theorem State.strangerHeard_catchup (s : State) (n : Station) : (State.strangerHeard s n).catchup = s.catchup :=
  (State.strangerHeard_frame s n).2.2.2.2.2.2.2.2.2.1
@[simp] theorem State.strangerHeard_serving (s : State) (n : Station) : (State.strangerHeard s n).serving = s.serving :=
  (State.strangerHeard_frame s n).2.2.2.2.2.2.2.2.2.2.1
@[simp] theorem State.strangerHeard_arb (s : State) (n : Station) : (State.strangerHeard s n).arb = s.arb :=
  (State.strangerHeard_frame s n).2.2.2.2.2.2.2.2.2.2.2.1
@[simp] theorem State.strangerHeard_serial (s : State) (n : Station) : (State.strangerHeard s n).serial = s.serial :=
  (State.strangerHeard_frame s n).2.2.2.2.2.2.2.2.2.2.2.2.1
@[simp] theorem State.strangerHeard_free (s : State) (n : Station) : (State.strangerHeard s n).free = s.free :=
  (State.strangerHeard_frame s n).2.2.2.2.2.2.2.2.2.2.2.2.2.1
@[simp] theorem State.strangerHeard_pending (s : State) (n : Station) : (State.strangerHeard s n).pending = s.pending :=
  (State.strangerHeard_frame s n).2.2.2.2.2.2.2.2.2.2.2.2.2.2

end Sys2Proof.Machine
end

