-- ==== Sys2Proof/Laws/ReceptionFrame.lean ====
section
/-! SUPPORT. What each operation of Machine/Reception.lean leaves as it is, field by field. -/

namespace Sys2Proof.Machine

/-- Fields that `imageHeard` keeps. -/
theorem State.imageHeard_frame (s : State) (i : ImageFrame) :
    (State.imageHeard s i).power = s.power ∧ (State.imageHeard s i).nv = s.nv ∧ (State.imageHeard s i).port = s.port ∧ (State.imageHeard s i).events = s.events ∧ (State.imageHeard s i).ctl = s.ctl ∧ (State.imageHeard s i).line = s.line ∧ (State.imageHeard s i).roster = s.roster ∧ (State.imageHeard s i).table = s.table ∧ (State.imageHeard s i).out = s.out ∧ (State.imageHeard s i).applyQ = s.applyQ ∧ (State.imageHeard s i).unsaved = s.unsaved ∧ (State.imageHeard s i).serving = s.serving ∧ (State.imageHeard s i).arb = s.arb ∧ (State.imageHeard s i).serial = s.serial ∧ (State.imageHeard s i).free = s.free ∧ (State.imageHeard s i).pending = s.pending := by
  unfold State.imageHeard; (repeat' (first | split | dsimp only)) <;> simp
@[simp] theorem State.imageHeard_power (s : State) (i : ImageFrame) : (State.imageHeard s i).power = s.power :=
  (State.imageHeard_frame s i).1
@[simp] theorem State.imageHeard_nv (s : State) (i : ImageFrame) : (State.imageHeard s i).nv = s.nv :=
  (State.imageHeard_frame s i).2.1
@[simp] theorem State.imageHeard_port (s : State) (i : ImageFrame) : (State.imageHeard s i).port = s.port :=
  (State.imageHeard_frame s i).2.2.1
@[simp] theorem State.imageHeard_events (s : State) (i : ImageFrame) : (State.imageHeard s i).events = s.events :=
  (State.imageHeard_frame s i).2.2.2.1
@[simp] theorem State.imageHeard_ctl (s : State) (i : ImageFrame) : (State.imageHeard s i).ctl = s.ctl :=
  (State.imageHeard_frame s i).2.2.2.2.1
@[simp] theorem State.imageHeard_line (s : State) (i : ImageFrame) : (State.imageHeard s i).line = s.line :=
  (State.imageHeard_frame s i).2.2.2.2.2.1
@[simp] theorem State.imageHeard_roster (s : State) (i : ImageFrame) : (State.imageHeard s i).roster = s.roster :=
  (State.imageHeard_frame s i).2.2.2.2.2.2.1
@[simp] theorem State.imageHeard_table (s : State) (i : ImageFrame) : (State.imageHeard s i).table = s.table :=
  (State.imageHeard_frame s i).2.2.2.2.2.2.2.1
@[simp] theorem State.imageHeard_out (s : State) (i : ImageFrame) : (State.imageHeard s i).out = s.out :=
  (State.imageHeard_frame s i).2.2.2.2.2.2.2.2.1
@[simp] theorem State.imageHeard_applyQ (s : State) (i : ImageFrame) : (State.imageHeard s i).applyQ = s.applyQ :=
  (State.imageHeard_frame s i).2.2.2.2.2.2.2.2.2.1
@[simp] theorem State.imageHeard_unsaved (s : State) (i : ImageFrame) : (State.imageHeard s i).unsaved = s.unsaved :=
  (State.imageHeard_frame s i).2.2.2.2.2.2.2.2.2.2.1
@[simp] theorem State.imageHeard_serving (s : State) (i : ImageFrame) : (State.imageHeard s i).serving = s.serving :=
  (State.imageHeard_frame s i).2.2.2.2.2.2.2.2.2.2.2.1
@[simp] theorem State.imageHeard_arb (s : State) (i : ImageFrame) : (State.imageHeard s i).arb = s.arb :=
  (State.imageHeard_frame s i).2.2.2.2.2.2.2.2.2.2.2.2.1
@[simp] theorem State.imageHeard_serial (s : State) (i : ImageFrame) : (State.imageHeard s i).serial = s.serial :=
  (State.imageHeard_frame s i).2.2.2.2.2.2.2.2.2.2.2.2.2.1
@[simp] theorem State.imageHeard_free (s : State) (i : ImageFrame) : (State.imageHeard s i).free = s.free :=
  (State.imageHeard_frame s i).2.2.2.2.2.2.2.2.2.2.2.2.2.2.1
@[simp] theorem State.imageHeard_pending (s : State) (i : ImageFrame) : (State.imageHeard s i).pending = s.pending :=
  (State.imageHeard_frame s i).2.2.2.2.2.2.2.2.2.2.2.2.2.2.2

/-- Fields that `compareStamp` keeps. -/
theorem State.compareStamp_frame (s : State) (o : Station) (e : CensusEntry) :
    (State.compareStamp s o e).power = s.power ∧ (State.compareStamp s o e).port = s.port ∧ (State.compareStamp s o e).ctl = s.ctl ∧ (State.compareStamp s o e).line = s.line ∧ (State.compareStamp s o e).roster = s.roster ∧ (State.compareStamp s o e).out = s.out ∧ (State.compareStamp s o e).applyQ = s.applyQ ∧ (State.compareStamp s o e).unsaved = s.unsaved ∧ (State.compareStamp s o e).serving = s.serving ∧ (State.compareStamp s o e).arb = s.arb ∧ (State.compareStamp s o e).serial = s.serial ∧ (State.compareStamp s o e).free = s.free ∧ (State.compareStamp s o e).pending = s.pending := by
  unfold State.compareStamp; (repeat' (first | split | dsimp only)) <;> simp
@[simp] theorem State.compareStamp_power (s : State) (o : Station) (e : CensusEntry) : (State.compareStamp s o e).power = s.power :=
  (State.compareStamp_frame s o e).1
@[simp] theorem State.compareStamp_port (s : State) (o : Station) (e : CensusEntry) : (State.compareStamp s o e).port = s.port :=
  (State.compareStamp_frame s o e).2.1
@[simp] theorem State.compareStamp_ctl (s : State) (o : Station) (e : CensusEntry) : (State.compareStamp s o e).ctl = s.ctl :=
  (State.compareStamp_frame s o e).2.2.1
@[simp] theorem State.compareStamp_line (s : State) (o : Station) (e : CensusEntry) : (State.compareStamp s o e).line = s.line :=
  (State.compareStamp_frame s o e).2.2.2.1
@[simp] theorem State.compareStamp_roster (s : State) (o : Station) (e : CensusEntry) : (State.compareStamp s o e).roster = s.roster :=
  (State.compareStamp_frame s o e).2.2.2.2.1
@[simp] theorem State.compareStamp_out (s : State) (o : Station) (e : CensusEntry) : (State.compareStamp s o e).out = s.out :=
  (State.compareStamp_frame s o e).2.2.2.2.2.1
@[simp] theorem State.compareStamp_applyQ (s : State) (o : Station) (e : CensusEntry) : (State.compareStamp s o e).applyQ = s.applyQ :=
  (State.compareStamp_frame s o e).2.2.2.2.2.2.1
@[simp] theorem State.compareStamp_unsaved (s : State) (o : Station) (e : CensusEntry) : (State.compareStamp s o e).unsaved = s.unsaved :=
  (State.compareStamp_frame s o e).2.2.2.2.2.2.2.1
@[simp] theorem State.compareStamp_serving (s : State) (o : Station) (e : CensusEntry) : (State.compareStamp s o e).serving = s.serving :=
  (State.compareStamp_frame s o e).2.2.2.2.2.2.2.2.1
@[simp] theorem State.compareStamp_arb (s : State) (o : Station) (e : CensusEntry) : (State.compareStamp s o e).arb = s.arb :=
  (State.compareStamp_frame s o e).2.2.2.2.2.2.2.2.2.1
@[simp] theorem State.compareStamp_serial (s : State) (o : Station) (e : CensusEntry) : (State.compareStamp s o e).serial = s.serial :=
  (State.compareStamp_frame s o e).2.2.2.2.2.2.2.2.2.2.1
@[simp] theorem State.compareStamp_free (s : State) (o : Station) (e : CensusEntry) : (State.compareStamp s o e).free = s.free :=
  (State.compareStamp_frame s o e).2.2.2.2.2.2.2.2.2.2.2.1
@[simp] theorem State.compareStamp_pending (s : State) (o : Station) (e : CensusEntry) : (State.compareStamp s o e).pending = s.pending :=
  (State.compareStamp_frame s o e).2.2.2.2.2.2.2.2.2.2.2.2

/-- Fields that `compareIfOwner` keeps. -/
theorem State.compareIfOwner_frame (s : State) (o : Station) (e : CensusEntry) :
    (State.compareIfOwner s o e).power = s.power ∧ (State.compareIfOwner s o e).port = s.port ∧ (State.compareIfOwner s o e).ctl = s.ctl ∧ (State.compareIfOwner s o e).line = s.line ∧ (State.compareIfOwner s o e).roster = s.roster ∧ (State.compareIfOwner s o e).out = s.out ∧ (State.compareIfOwner s o e).applyQ = s.applyQ ∧ (State.compareIfOwner s o e).unsaved = s.unsaved ∧ (State.compareIfOwner s o e).serving = s.serving ∧ (State.compareIfOwner s o e).arb = s.arb ∧ (State.compareIfOwner s o e).serial = s.serial ∧ (State.compareIfOwner s o e).free = s.free ∧ (State.compareIfOwner s o e).pending = s.pending := by
  unfold State.compareIfOwner; (repeat' (first | split | dsimp only)) <;> simp
@[simp] theorem State.compareIfOwner_power (s : State) (o : Station) (e : CensusEntry) : (State.compareIfOwner s o e).power = s.power :=
  (State.compareIfOwner_frame s o e).1
@[simp] theorem State.compareIfOwner_port (s : State) (o : Station) (e : CensusEntry) : (State.compareIfOwner s o e).port = s.port :=
  (State.compareIfOwner_frame s o e).2.1
@[simp] theorem State.compareIfOwner_ctl (s : State) (o : Station) (e : CensusEntry) : (State.compareIfOwner s o e).ctl = s.ctl :=
  (State.compareIfOwner_frame s o e).2.2.1
@[simp] theorem State.compareIfOwner_line (s : State) (o : Station) (e : CensusEntry) : (State.compareIfOwner s o e).line = s.line :=
  (State.compareIfOwner_frame s o e).2.2.2.1
@[simp] theorem State.compareIfOwner_roster (s : State) (o : Station) (e : CensusEntry) : (State.compareIfOwner s o e).roster = s.roster :=
  (State.compareIfOwner_frame s o e).2.2.2.2.1
@[simp] theorem State.compareIfOwner_out (s : State) (o : Station) (e : CensusEntry) : (State.compareIfOwner s o e).out = s.out :=
  (State.compareIfOwner_frame s o e).2.2.2.2.2.1
@[simp] theorem State.compareIfOwner_applyQ (s : State) (o : Station) (e : CensusEntry) : (State.compareIfOwner s o e).applyQ = s.applyQ :=
  (State.compareIfOwner_frame s o e).2.2.2.2.2.2.1
@[simp] theorem State.compareIfOwner_unsaved (s : State) (o : Station) (e : CensusEntry) : (State.compareIfOwner s o e).unsaved = s.unsaved :=
  (State.compareIfOwner_frame s o e).2.2.2.2.2.2.2.1
@[simp] theorem State.compareIfOwner_serving (s : State) (o : Station) (e : CensusEntry) : (State.compareIfOwner s o e).serving = s.serving :=
  (State.compareIfOwner_frame s o e).2.2.2.2.2.2.2.2.1
@[simp] theorem State.compareIfOwner_arb (s : State) (o : Station) (e : CensusEntry) : (State.compareIfOwner s o e).arb = s.arb :=
  (State.compareIfOwner_frame s o e).2.2.2.2.2.2.2.2.2.1
@[simp] theorem State.compareIfOwner_serial (s : State) (o : Station) (e : CensusEntry) : (State.compareIfOwner s o e).serial = s.serial :=
  (State.compareIfOwner_frame s o e).2.2.2.2.2.2.2.2.2.2.1
@[simp] theorem State.compareIfOwner_free (s : State) (o : Station) (e : CensusEntry) : (State.compareIfOwner s o e).free = s.free :=
  (State.compareIfOwner_frame s o e).2.2.2.2.2.2.2.2.2.2.2.1
@[simp] theorem State.compareIfOwner_pending (s : State) (o : Station) (e : CensusEntry) : (State.compareIfOwner s o e).pending = s.pending :=
  (State.compareIfOwner_frame s o e).2.2.2.2.2.2.2.2.2.2.2.2

/-- Fields that `censusCase` keeps. -/
theorem State.censusCase_frame (s : State) (o : Station) (e : CensusEntry) :
    (State.censusCase s o e).power = s.power ∧ (State.censusCase s o e).line = s.line ∧ (State.censusCase s o e).applyQ = s.applyQ ∧ (State.censusCase s o e).unsaved = s.unsaved ∧ (State.censusCase s o e).serial = s.serial ∧ (State.censusCase s o e).free = s.free ∧ (State.censusCase s o e).pending = s.pending := by
  unfold State.censusCase; (repeat' (first | split | dsimp only)) <;> simp
@[simp] theorem State.censusCase_power (s : State) (o : Station) (e : CensusEntry) : (State.censusCase s o e).power = s.power :=
  (State.censusCase_frame s o e).1
@[simp] theorem State.censusCase_line (s : State) (o : Station) (e : CensusEntry) : (State.censusCase s o e).line = s.line :=
  (State.censusCase_frame s o e).2.1
@[simp] theorem State.censusCase_applyQ (s : State) (o : Station) (e : CensusEntry) : (State.censusCase s o e).applyQ = s.applyQ :=
  (State.censusCase_frame s o e).2.2.1
@[simp] theorem State.censusCase_unsaved (s : State) (o : Station) (e : CensusEntry) : (State.censusCase s o e).unsaved = s.unsaved :=
  (State.censusCase_frame s o e).2.2.2.1
@[simp] theorem State.censusCase_serial (s : State) (o : Station) (e : CensusEntry) : (State.censusCase s o e).serial = s.serial :=
  (State.censusCase_frame s o e).2.2.2.2.1
@[simp] theorem State.censusCase_free (s : State) (o : Station) (e : CensusEntry) : (State.censusCase s o e).free = s.free :=
  (State.censusCase_frame s o e).2.2.2.2.2.1
@[simp] theorem State.censusCase_pending (s : State) (o : Station) (e : CensusEntry) : (State.censusCase s o e).pending = s.pending :=
  (State.censusCase_frame s o e).2.2.2.2.2.2

/-- Fields that `censusEntry` keeps. -/
theorem State.censusEntry_frame (o : Station) (s : State) (e : CensusEntry) :
    (State.censusEntry o s e).power = s.power ∧ (State.censusEntry o s e).line = s.line ∧ (State.censusEntry o s e).applyQ = s.applyQ ∧ (State.censusEntry o s e).unsaved = s.unsaved ∧ (State.censusEntry o s e).free = s.free ∧ (State.censusEntry o s e).pending = s.pending := by
  unfold State.censusEntry; (repeat' (first | split | dsimp only)) <;> simp
@[simp] theorem State.censusEntry_power (o : Station) (s : State) (e : CensusEntry) : (State.censusEntry o s e).power = s.power :=
  (State.censusEntry_frame o s e).1
@[simp] theorem State.censusEntry_line (o : Station) (s : State) (e : CensusEntry) : (State.censusEntry o s e).line = s.line :=
  (State.censusEntry_frame o s e).2.1
@[simp] theorem State.censusEntry_applyQ (o : Station) (s : State) (e : CensusEntry) : (State.censusEntry o s e).applyQ = s.applyQ :=
  (State.censusEntry_frame o s e).2.2.1
@[simp] theorem State.censusEntry_unsaved (o : Station) (s : State) (e : CensusEntry) : (State.censusEntry o s e).unsaved = s.unsaved :=
  (State.censusEntry_frame o s e).2.2.2.1
@[simp] theorem State.censusEntry_free (o : Station) (s : State) (e : CensusEntry) : (State.censusEntry o s e).free = s.free :=
  (State.censusEntry_frame o s e).2.2.2.2.1
@[simp] theorem State.censusEntry_pending (o : Station) (s : State) (e : CensusEntry) : (State.censusEntry o s e).pending = s.pending :=
  (State.censusEntry_frame o s e).2.2.2.2.2

/-- Fields that `censusList` keeps. -/
theorem State.censusList_frame (s : State) (o : Station) (es : List CensusEntry) :
    (State.censusList s o es).power = s.power ∧ (State.censusList s o es).line = s.line ∧ (State.censusList s o es).applyQ = s.applyQ ∧ (State.censusList s o es).unsaved = s.unsaved ∧ (State.censusList s o es).free = s.free ∧ (State.censusList s o es).pending = s.pending := by
  unfold State.censusList
  refine ⟨?_, ?_, ?_, ?_, ?_, ?_⟩
  all_goals exact (foldl_keeps _ _ (fun t x => by simp) _ _).trans (by simp)
@[simp] theorem State.censusList_power (s : State) (o : Station) (es : List CensusEntry) : (State.censusList s o es).power = s.power :=
  (State.censusList_frame s o es).1
@[simp] theorem State.censusList_line (s : State) (o : Station) (es : List CensusEntry) : (State.censusList s o es).line = s.line :=
  (State.censusList_frame s o es).2.1
@[simp] theorem State.censusList_applyQ (s : State) (o : Station) (es : List CensusEntry) : (State.censusList s o es).applyQ = s.applyQ :=
  (State.censusList_frame s o es).2.2.1
@[simp] theorem State.censusList_unsaved (s : State) (o : Station) (es : List CensusEntry) : (State.censusList s o es).unsaved = s.unsaved :=
  (State.censusList_frame s o es).2.2.2.1
@[simp] theorem State.censusList_free (s : State) (o : Station) (es : List CensusEntry) : (State.censusList s o es).free = s.free :=
  (State.censusList_frame s o es).2.2.2.2.1
@[simp] theorem State.censusList_pending (s : State) (o : Station) (es : List CensusEntry) : (State.censusList s o es).pending = s.pending :=
  (State.censusList_frame s o es).2.2.2.2.2

/-- Fields that `markIfBehind` keeps. -/
theorem State.markIfBehind_frame (s : State) (u : UpdateFrame) :
    (State.markIfBehind s u).power = s.power ∧ (State.markIfBehind s u).port = s.port ∧ (State.markIfBehind s u).ctl = s.ctl ∧ (State.markIfBehind s u).line = s.line ∧ (State.markIfBehind s u).roster = s.roster ∧ (State.markIfBehind s u).out = s.out ∧ (State.markIfBehind s u).applyQ = s.applyQ ∧ (State.markIfBehind s u).unsaved = s.unsaved ∧ (State.markIfBehind s u).serving = s.serving ∧ (State.markIfBehind s u).arb = s.arb ∧ (State.markIfBehind s u).serial = s.serial ∧ (State.markIfBehind s u).free = s.free ∧ (State.markIfBehind s u).pending = s.pending := by
  unfold State.markIfBehind; (repeat' (first | split | dsimp only)) <;> simp
@[simp] theorem State.markIfBehind_power (s : State) (u : UpdateFrame) : (State.markIfBehind s u).power = s.power :=
  (State.markIfBehind_frame s u).1
@[simp] theorem State.markIfBehind_port (s : State) (u : UpdateFrame) : (State.markIfBehind s u).port = s.port :=
  (State.markIfBehind_frame s u).2.1
@[simp] theorem State.markIfBehind_ctl (s : State) (u : UpdateFrame) : (State.markIfBehind s u).ctl = s.ctl :=
  (State.markIfBehind_frame s u).2.2.1
@[simp] theorem State.markIfBehind_line (s : State) (u : UpdateFrame) : (State.markIfBehind s u).line = s.line :=
  (State.markIfBehind_frame s u).2.2.2.1
@[simp] theorem State.markIfBehind_roster (s : State) (u : UpdateFrame) : (State.markIfBehind s u).roster = s.roster :=
  (State.markIfBehind_frame s u).2.2.2.2.1
@[simp] theorem State.markIfBehind_out (s : State) (u : UpdateFrame) : (State.markIfBehind s u).out = s.out :=
  (State.markIfBehind_frame s u).2.2.2.2.2.1
@[simp] theorem State.markIfBehind_applyQ (s : State) (u : UpdateFrame) : (State.markIfBehind s u).applyQ = s.applyQ :=
  (State.markIfBehind_frame s u).2.2.2.2.2.2.1
@[simp] theorem State.markIfBehind_unsaved (s : State) (u : UpdateFrame) : (State.markIfBehind s u).unsaved = s.unsaved :=
  (State.markIfBehind_frame s u).2.2.2.2.2.2.2.1
@[simp] theorem State.markIfBehind_serving (s : State) (u : UpdateFrame) : (State.markIfBehind s u).serving = s.serving :=
  (State.markIfBehind_frame s u).2.2.2.2.2.2.2.2.1
@[simp] theorem State.markIfBehind_arb (s : State) (u : UpdateFrame) : (State.markIfBehind s u).arb = s.arb :=
  (State.markIfBehind_frame s u).2.2.2.2.2.2.2.2.2.1
@[simp] theorem State.markIfBehind_serial (s : State) (u : UpdateFrame) : (State.markIfBehind s u).serial = s.serial :=
  (State.markIfBehind_frame s u).2.2.2.2.2.2.2.2.2.2.1
@[simp] theorem State.markIfBehind_free (s : State) (u : UpdateFrame) : (State.markIfBehind s u).free = s.free :=
  (State.markIfBehind_frame s u).2.2.2.2.2.2.2.2.2.2.2.1
@[simp] theorem State.markIfBehind_pending (s : State) (u : UpdateFrame) : (State.markIfBehind s u).pending = s.pending :=
  (State.markIfBehind_frame s u).2.2.2.2.2.2.2.2.2.2.2.2

/-- Fields that `listen` keeps. -/
theorem State.listen_frame (s : State) (f : Frame) :
    (State.listen s f).power = s.power ∧ (State.listen s f).line = s.line ∧ (State.listen s f).applyQ = s.applyQ ∧ (State.listen s f).unsaved = s.unsaved ∧ (State.listen s f).free = s.free ∧ (State.listen s f).pending = s.pending := by
  unfold State.listen; (repeat' (first | split | dsimp only)) <;> simp
@[simp] theorem State.listen_power (s : State) (f : Frame) : (State.listen s f).power = s.power :=
  (State.listen_frame s f).1
@[simp] theorem State.listen_line (s : State) (f : Frame) : (State.listen s f).line = s.line :=
  (State.listen_frame s f).2.1
@[simp] theorem State.listen_applyQ (s : State) (f : Frame) : (State.listen s f).applyQ = s.applyQ :=
  (State.listen_frame s f).2.2.1
@[simp] theorem State.listen_unsaved (s : State) (f : Frame) : (State.listen s f).unsaved = s.unsaved :=
  (State.listen_frame s f).2.2.2.1
@[simp] theorem State.listen_free (s : State) (f : Frame) : (State.listen s f).free = s.free :=
  (State.listen_frame s f).2.2.2.2.1
@[simp] theorem State.listen_pending (s : State) (f : Frame) : (State.listen s f).pending = s.pending :=
  (State.listen_frame s f).2.2.2.2.2

/-- Fields that `restartAnswer` keeps. -/
theorem State.restartAnswer_frame (s : State) (f : Frame) :
    (State.restartAnswer s f).power = s.power ∧ (State.restartAnswer s f).nv = s.nv ∧ (State.restartAnswer s f).port = s.port ∧ (State.restartAnswer s f).events = s.events ∧ (State.restartAnswer s f).ctl = s.ctl ∧ (State.restartAnswer s f).line = s.line ∧ (State.restartAnswer s f).roster = s.roster ∧ (State.restartAnswer s f).table = s.table ∧ (State.restartAnswer s f).out = s.out ∧ (State.restartAnswer s f).applyQ = s.applyQ ∧ (State.restartAnswer s f).unsaved = s.unsaved ∧ (State.restartAnswer s f).serving = s.serving ∧ (State.restartAnswer s f).arb = s.arb ∧ (State.restartAnswer s f).serial = s.serial ∧ (State.restartAnswer s f).free = s.free ∧ (State.restartAnswer s f).pending = s.pending := by
  unfold State.restartAnswer; (repeat' (first | split | dsimp only)) <;> simp
@[simp] theorem State.restartAnswer_power (s : State) (f : Frame) : (State.restartAnswer s f).power = s.power :=
  (State.restartAnswer_frame s f).1
@[simp] theorem State.restartAnswer_nv (s : State) (f : Frame) : (State.restartAnswer s f).nv = s.nv :=
  (State.restartAnswer_frame s f).2.1
@[simp] theorem State.restartAnswer_port (s : State) (f : Frame) : (State.restartAnswer s f).port = s.port :=
  (State.restartAnswer_frame s f).2.2.1
@[simp] theorem State.restartAnswer_events (s : State) (f : Frame) : (State.restartAnswer s f).events = s.events :=
  (State.restartAnswer_frame s f).2.2.2.1
@[simp] theorem State.restartAnswer_ctl (s : State) (f : Frame) : (State.restartAnswer s f).ctl = s.ctl :=
  (State.restartAnswer_frame s f).2.2.2.2.1
@[simp] theorem State.restartAnswer_line (s : State) (f : Frame) : (State.restartAnswer s f).line = s.line :=
  (State.restartAnswer_frame s f).2.2.2.2.2.1
@[simp] theorem State.restartAnswer_roster (s : State) (f : Frame) : (State.restartAnswer s f).roster = s.roster :=
  (State.restartAnswer_frame s f).2.2.2.2.2.2.1
@[simp] theorem State.restartAnswer_table (s : State) (f : Frame) : (State.restartAnswer s f).table = s.table :=
  (State.restartAnswer_frame s f).2.2.2.2.2.2.2.1
@[simp] theorem State.restartAnswer_out (s : State) (f : Frame) : (State.restartAnswer s f).out = s.out :=
  (State.restartAnswer_frame s f).2.2.2.2.2.2.2.2.1
@[simp] theorem State.restartAnswer_applyQ (s : State) (f : Frame) : (State.restartAnswer s f).applyQ = s.applyQ :=
  (State.restartAnswer_frame s f).2.2.2.2.2.2.2.2.2.1
@[simp] theorem State.restartAnswer_unsaved (s : State) (f : Frame) : (State.restartAnswer s f).unsaved = s.unsaved :=
  (State.restartAnswer_frame s f).2.2.2.2.2.2.2.2.2.2.1
@[simp] theorem State.restartAnswer_serving (s : State) (f : Frame) : (State.restartAnswer s f).serving = s.serving :=
  (State.restartAnswer_frame s f).2.2.2.2.2.2.2.2.2.2.2.1
@[simp] theorem State.restartAnswer_arb (s : State) (f : Frame) : (State.restartAnswer s f).arb = s.arb :=
  (State.restartAnswer_frame s f).2.2.2.2.2.2.2.2.2.2.2.2.1
@[simp] theorem State.restartAnswer_serial (s : State) (f : Frame) : (State.restartAnswer s f).serial = s.serial :=
  (State.restartAnswer_frame s f).2.2.2.2.2.2.2.2.2.2.2.2.2.1
@[simp] theorem State.restartAnswer_free (s : State) (f : Frame) : (State.restartAnswer s f).free = s.free :=
  (State.restartAnswer_frame s f).2.2.2.2.2.2.2.2.2.2.2.2.2.2.1
@[simp] theorem State.restartAnswer_pending (s : State) (f : Frame) : (State.restartAnswer s f).pending = s.pending :=
  (State.restartAnswer_frame s f).2.2.2.2.2.2.2.2.2.2.2.2.2.2.2

/-- Fields that `listenIfListening` keeps. -/
theorem State.listenIfListening_frame (s : State) (f : Frame) :
    (State.listenIfListening s f).power = s.power ∧ (State.listenIfListening s f).line = s.line ∧ (State.listenIfListening s f).applyQ = s.applyQ ∧ (State.listenIfListening s f).unsaved = s.unsaved ∧ (State.listenIfListening s f).free = s.free ∧ (State.listenIfListening s f).pending = s.pending := by
  unfold State.listenIfListening; (repeat' (first | split | dsimp only)) <;> simp
@[simp] theorem State.listenIfListening_power (s : State) (f : Frame) : (State.listenIfListening s f).power = s.power :=
  (State.listenIfListening_frame s f).1
@[simp] theorem State.listenIfListening_line (s : State) (f : Frame) : (State.listenIfListening s f).line = s.line :=
  (State.listenIfListening_frame s f).2.1
@[simp] theorem State.listenIfListening_applyQ (s : State) (f : Frame) : (State.listenIfListening s f).applyQ = s.applyQ :=
  (State.listenIfListening_frame s f).2.2.1
@[simp] theorem State.listenIfListening_unsaved (s : State) (f : Frame) : (State.listenIfListening s f).unsaved = s.unsaved :=
  (State.listenIfListening_frame s f).2.2.2.1
@[simp] theorem State.listenIfListening_free (s : State) (f : Frame) : (State.listenIfListening s f).free = s.free :=
  (State.listenIfListening_frame s f).2.2.2.2.1
@[simp] theorem State.listenIfListening_pending (s : State) (f : Frame) : (State.listenIfListening s f).pending = s.pending :=
  (State.listenIfListening_frame s f).2.2.2.2.2

/-- Fields that `handOn` keeps. -/
theorem State.handOn_frame (s : State) (f : Frame) :
    (State.handOn s f).power = s.power ∧ (State.handOn s f).line = s.line ∧ (State.handOn s f).applyQ = s.applyQ ∧ (State.handOn s f).unsaved = s.unsaved ∧ (State.handOn s f).free = s.free ∧ (State.handOn s f).pending = s.pending := by
  unfold State.handOn; (repeat' (first | split | dsimp only)) <;> simp
@[simp] theorem State.handOn_power (s : State) (f : Frame) : (State.handOn s f).power = s.power :=
  (State.handOn_frame s f).1
@[simp] theorem State.handOn_line (s : State) (f : Frame) : (State.handOn s f).line = s.line :=
  (State.handOn_frame s f).2.1
@[simp] theorem State.handOn_applyQ (s : State) (f : Frame) : (State.handOn s f).applyQ = s.applyQ :=
  (State.handOn_frame s f).2.2.1
@[simp] theorem State.handOn_unsaved (s : State) (f : Frame) : (State.handOn s f).unsaved = s.unsaved :=
  (State.handOn_frame s f).2.2.2.1
@[simp] theorem State.handOn_free (s : State) (f : Frame) : (State.handOn s f).free = s.free :=
  (State.handOn_frame s f).2.2.2.2.1
@[simp] theorem State.handOn_pending (s : State) (f : Frame) : (State.handOn s f).pending = s.pending :=
  (State.handOn_frame s f).2.2.2.2.2

/-- Fields that `ownNumberHeard` keeps. -/
theorem State.ownNumberHeard_frame (s : State) (f : Frame) :
    (State.ownNumberHeard s f).power = s.power ∧ (State.ownNumberHeard s f).unsaved = s.unsaved ∧ (State.ownNumberHeard s f).serial = s.serial ∧ (State.ownNumberHeard s f).free = s.free ∧ (State.ownNumberHeard s f).pending = s.pending := by
  unfold State.ownNumberHeard; (repeat' (first | split | dsimp only)) <;> simp
@[simp] theorem State.ownNumberHeard_power (s : State) (f : Frame) : (State.ownNumberHeard s f).power = s.power :=
  (State.ownNumberHeard_frame s f).1
@[simp] theorem State.ownNumberHeard_unsaved (s : State) (f : Frame) : (State.ownNumberHeard s f).unsaved = s.unsaved :=
  (State.ownNumberHeard_frame s f).2.1
@[simp] theorem State.ownNumberHeard_serial (s : State) (f : Frame) : (State.ownNumberHeard s f).serial = s.serial :=
  (State.ownNumberHeard_frame s f).2.2.1
@[simp] theorem State.ownNumberHeard_free (s : State) (f : Frame) : (State.ownNumberHeard s f).free = s.free :=
  (State.ownNumberHeard_frame s f).2.2.2.1
@[simp] theorem State.ownNumberHeard_pending (s : State) (f : Frame) : (State.ownNumberHeard s f).pending = s.pending :=
  (State.ownNumberHeard_frame s f).2.2.2.2

/-- Fields that `holdFrame` keeps. -/
theorem State.holdFrame_frame (s : State) (f : Frame) (bit acked : Bool) :
    (State.holdFrame s f bit acked).power = s.power ∧ (State.holdFrame s f bit acked).nv = s.nv ∧ (State.holdFrame s f bit acked).port = s.port ∧ (State.holdFrame s f bit acked).events = s.events ∧ (State.holdFrame s f bit acked).ctl = s.ctl ∧ (State.holdFrame s f bit acked).roster = s.roster ∧ (State.holdFrame s f bit acked).table = s.table ∧ (State.holdFrame s f bit acked).out = s.out ∧ (State.holdFrame s f bit acked).applyQ = s.applyQ ∧ (State.holdFrame s f bit acked).unsaved = s.unsaved ∧ (State.holdFrame s f bit acked).catchup = s.catchup ∧ (State.holdFrame s f bit acked).serving = s.serving ∧ (State.holdFrame s f bit acked).arb = s.arb ∧ (State.holdFrame s f bit acked).serial = s.serial ∧ (State.holdFrame s f bit acked).free = s.free ∧ (State.holdFrame s f bit acked).pending = s.pending := by
  unfold State.holdFrame; (repeat' (first | split | dsimp only)) <;> simp
@[simp] theorem State.holdFrame_power (s : State) (f : Frame) (bit acked : Bool) : (State.holdFrame s f bit acked).power = s.power :=
  (State.holdFrame_frame s f bit acked).1
@[simp] theorem State.holdFrame_nv (s : State) (f : Frame) (bit acked : Bool) : (State.holdFrame s f bit acked).nv = s.nv :=
  (State.holdFrame_frame s f bit acked).2.1
@[simp] theorem State.holdFrame_port (s : State) (f : Frame) (bit acked : Bool) : (State.holdFrame s f bit acked).port = s.port :=
  (State.holdFrame_frame s f bit acked).2.2.1
@[simp] theorem State.holdFrame_events (s : State) (f : Frame) (bit acked : Bool) : (State.holdFrame s f bit acked).events = s.events :=
  (State.holdFrame_frame s f bit acked).2.2.2.1
@[simp] theorem State.holdFrame_ctl (s : State) (f : Frame) (bit acked : Bool) : (State.holdFrame s f bit acked).ctl = s.ctl :=
  (State.holdFrame_frame s f bit acked).2.2.2.2.1
@[simp] theorem State.holdFrame_roster (s : State) (f : Frame) (bit acked : Bool) : (State.holdFrame s f bit acked).roster = s.roster :=
  (State.holdFrame_frame s f bit acked).2.2.2.2.2.1
@[simp] theorem State.holdFrame_table (s : State) (f : Frame) (bit acked : Bool) : (State.holdFrame s f bit acked).table = s.table :=
  (State.holdFrame_frame s f bit acked).2.2.2.2.2.2.1
@[simp] theorem State.holdFrame_out (s : State) (f : Frame) (bit acked : Bool) : (State.holdFrame s f bit acked).out = s.out :=
  (State.holdFrame_frame s f bit acked).2.2.2.2.2.2.2.1
@[simp] theorem State.holdFrame_applyQ (s : State) (f : Frame) (bit acked : Bool) : (State.holdFrame s f bit acked).applyQ = s.applyQ :=
  (State.holdFrame_frame s f bit acked).2.2.2.2.2.2.2.2.1
@[simp] theorem State.holdFrame_unsaved (s : State) (f : Frame) (bit acked : Bool) : (State.holdFrame s f bit acked).unsaved = s.unsaved :=
  (State.holdFrame_frame s f bit acked).2.2.2.2.2.2.2.2.2.1
@[simp] theorem State.holdFrame_catchup (s : State) (f : Frame) (bit acked : Bool) : (State.holdFrame s f bit acked).catchup = s.catchup :=
  (State.holdFrame_frame s f bit acked).2.2.2.2.2.2.2.2.2.2.1
@[simp] theorem State.holdFrame_serving (s : State) (f : Frame) (bit acked : Bool) : (State.holdFrame s f bit acked).serving = s.serving :=
  (State.holdFrame_frame s f bit acked).2.2.2.2.2.2.2.2.2.2.2.1
@[simp] theorem State.holdFrame_arb (s : State) (f : Frame) (bit acked : Bool) : (State.holdFrame s f bit acked).arb = s.arb :=
  (State.holdFrame_frame s f bit acked).2.2.2.2.2.2.2.2.2.2.2.2.1
@[simp] theorem State.holdFrame_serial (s : State) (f : Frame) (bit acked : Bool) : (State.holdFrame s f bit acked).serial = s.serial :=
  (State.holdFrame_frame s f bit acked).2.2.2.2.2.2.2.2.2.2.2.2.2.1
@[simp] theorem State.holdFrame_free (s : State) (f : Frame) (bit acked : Bool) : (State.holdFrame s f bit acked).free = s.free :=
  (State.holdFrame_frame s f bit acked).2.2.2.2.2.2.2.2.2.2.2.2.2.2.1
@[simp] theorem State.holdFrame_pending (s : State) (f : Frame) (bit acked : Bool) : (State.holdFrame s f bit acked).pending = s.pending :=
  (State.holdFrame_frame s f bit acked).2.2.2.2.2.2.2.2.2.2.2.2.2.2.2

/-- Fields that `beaconAct` keeps. -/
theorem State.beaconAct_frame (b : BeaconFrame) (s : State) :
    (State.beaconAct b s).2.power = s.power ∧ (State.beaconAct b s).2.line = s.line ∧ (State.beaconAct b s).2.applyQ = s.applyQ ∧ (State.beaconAct b s).2.unsaved = s.unsaved ∧ (State.beaconAct b s).2.free = s.free ∧ (State.beaconAct b s).2.pending = s.pending := by
  unfold State.beaconAct; (repeat' (first | split | dsimp only)) <;> simp
@[simp] theorem State.beaconAct_power (b : BeaconFrame) (s : State) : (State.beaconAct b s).2.power = s.power :=
  (State.beaconAct_frame b s).1
@[simp] theorem State.beaconAct_line (b : BeaconFrame) (s : State) : (State.beaconAct b s).2.line = s.line :=
  (State.beaconAct_frame b s).2.1
@[simp] theorem State.beaconAct_applyQ (b : BeaconFrame) (s : State) : (State.beaconAct b s).2.applyQ = s.applyQ :=
  (State.beaconAct_frame b s).2.2.1
@[simp] theorem State.beaconAct_unsaved (b : BeaconFrame) (s : State) : (State.beaconAct b s).2.unsaved = s.unsaved :=
  (State.beaconAct_frame b s).2.2.2.1
@[simp] theorem State.beaconAct_free (b : BeaconFrame) (s : State) : (State.beaconAct b s).2.free = s.free :=
  (State.beaconAct_frame b s).2.2.2.2.1
@[simp] theorem State.beaconAct_pending (b : BeaconFrame) (s : State) : (State.beaconAct b s).2.pending = s.pending :=
  (State.beaconAct_frame b s).2.2.2.2.2

/-- Fields that `holdVote` keeps. -/
theorem State.holdVote_frame (s : State) (r : Region) (bit : Bool) :
    (State.holdVote s r bit).power = s.power ∧ (State.holdVote s r bit).port = s.port ∧ (State.holdVote s r bit).events = s.events ∧ (State.holdVote s r bit).ctl = s.ctl ∧ (State.holdVote s r bit).line = s.line ∧ (State.holdVote s r bit).roster = s.roster ∧ (State.holdVote s r bit).out = s.out ∧ (State.holdVote s r bit).applyQ = s.applyQ ∧ (State.holdVote s r bit).unsaved = s.unsaved ∧ (State.holdVote s r bit).catchup = s.catchup ∧ (State.holdVote s r bit).serving = s.serving ∧ (State.holdVote s r bit).arb = s.arb ∧ (State.holdVote s r bit).serial = s.serial ∧ (State.holdVote s r bit).free = s.free ∧ (State.holdVote s r bit).pending = s.pending := by
  unfold State.holdVote; (repeat' (first | split | dsimp only)) <;> simp
@[simp] theorem State.holdVote_power (s : State) (r : Region) (bit : Bool) : (State.holdVote s r bit).power = s.power :=
  (State.holdVote_frame s r bit).1
@[simp] theorem State.holdVote_port (s : State) (r : Region) (bit : Bool) : (State.holdVote s r bit).port = s.port :=
  (State.holdVote_frame s r bit).2.1
@[simp] theorem State.holdVote_events (s : State) (r : Region) (bit : Bool) : (State.holdVote s r bit).events = s.events :=
  (State.holdVote_frame s r bit).2.2.1
@[simp] theorem State.holdVote_ctl (s : State) (r : Region) (bit : Bool) : (State.holdVote s r bit).ctl = s.ctl :=
  (State.holdVote_frame s r bit).2.2.2.1
@[simp] theorem State.holdVote_line (s : State) (r : Region) (bit : Bool) : (State.holdVote s r bit).line = s.line :=
  (State.holdVote_frame s r bit).2.2.2.2.1
@[simp] theorem State.holdVote_roster (s : State) (r : Region) (bit : Bool) : (State.holdVote s r bit).roster = s.roster :=
  (State.holdVote_frame s r bit).2.2.2.2.2.1
@[simp] theorem State.holdVote_out (s : State) (r : Region) (bit : Bool) : (State.holdVote s r bit).out = s.out :=
  (State.holdVote_frame s r bit).2.2.2.2.2.2.1
@[simp] theorem State.holdVote_applyQ (s : State) (r : Region) (bit : Bool) : (State.holdVote s r bit).applyQ = s.applyQ :=
  (State.holdVote_frame s r bit).2.2.2.2.2.2.2.1
@[simp] theorem State.holdVote_unsaved (s : State) (r : Region) (bit : Bool) : (State.holdVote s r bit).unsaved = s.unsaved :=
  (State.holdVote_frame s r bit).2.2.2.2.2.2.2.2.1
@[simp] theorem State.holdVote_catchup (s : State) (r : Region) (bit : Bool) : (State.holdVote s r bit).catchup = s.catchup :=
  (State.holdVote_frame s r bit).2.2.2.2.2.2.2.2.2.1
@[simp] theorem State.holdVote_serving (s : State) (r : Region) (bit : Bool) : (State.holdVote s r bit).serving = s.serving :=
  (State.holdVote_frame s r bit).2.2.2.2.2.2.2.2.2.2.1
@[simp] theorem State.holdVote_arb (s : State) (r : Region) (bit : Bool) : (State.holdVote s r bit).arb = s.arb :=
  (State.holdVote_frame s r bit).2.2.2.2.2.2.2.2.2.2.2.1
@[simp] theorem State.holdVote_serial (s : State) (r : Region) (bit : Bool) : (State.holdVote s r bit).serial = s.serial :=
  (State.holdVote_frame s r bit).2.2.2.2.2.2.2.2.2.2.2.2.1
@[simp] theorem State.holdVote_free (s : State) (r : Region) (bit : Bool) : (State.holdVote s r bit).free = s.free :=
  (State.holdVote_frame s r bit).2.2.2.2.2.2.2.2.2.2.2.2.2.1
@[simp] theorem State.holdVote_pending (s : State) (r : Region) (bit : Bool) : (State.holdVote s r bit).pending = s.pending :=
  (State.holdVote_frame s r bit).2.2.2.2.2.2.2.2.2.2.2.2.2.2

/-- Fields that `wakeIfAsked` keeps. -/
theorem State.wakeIfAsked_frame (s : State) (r : Region) :
    (State.wakeIfAsked s r).power = s.power ∧ (State.wakeIfAsked s r).port = s.port ∧ (State.wakeIfAsked s r).line = s.line ∧ (State.wakeIfAsked s r).roster = s.roster ∧ (State.wakeIfAsked s r).applyQ = s.applyQ ∧ (State.wakeIfAsked s r).unsaved = s.unsaved ∧ (State.wakeIfAsked s r).serving = s.serving ∧ (State.wakeIfAsked s r).arb = s.arb ∧ (State.wakeIfAsked s r).serial = s.serial ∧ (State.wakeIfAsked s r).free = s.free ∧ (State.wakeIfAsked s r).pending = s.pending := by
  unfold State.wakeIfAsked; (repeat' (first | split | dsimp only)) <;> simp
@[simp] theorem State.wakeIfAsked_power (s : State) (r : Region) : (State.wakeIfAsked s r).power = s.power :=
  (State.wakeIfAsked_frame s r).1
@[simp] theorem State.wakeIfAsked_port (s : State) (r : Region) : (State.wakeIfAsked s r).port = s.port :=
  (State.wakeIfAsked_frame s r).2.1
@[simp] theorem State.wakeIfAsked_line (s : State) (r : Region) : (State.wakeIfAsked s r).line = s.line :=
  (State.wakeIfAsked_frame s r).2.2.1
@[simp] theorem State.wakeIfAsked_roster (s : State) (r : Region) : (State.wakeIfAsked s r).roster = s.roster :=
  (State.wakeIfAsked_frame s r).2.2.2.1
@[simp] theorem State.wakeIfAsked_applyQ (s : State) (r : Region) : (State.wakeIfAsked s r).applyQ = s.applyQ :=
  (State.wakeIfAsked_frame s r).2.2.2.2.1
@[simp] theorem State.wakeIfAsked_unsaved (s : State) (r : Region) : (State.wakeIfAsked s r).unsaved = s.unsaved :=
  (State.wakeIfAsked_frame s r).2.2.2.2.2.1
@[simp] theorem State.wakeIfAsked_serving (s : State) (r : Region) : (State.wakeIfAsked s r).serving = s.serving :=
  (State.wakeIfAsked_frame s r).2.2.2.2.2.2.1
@[simp] theorem State.wakeIfAsked_arb (s : State) (r : Region) : (State.wakeIfAsked s r).arb = s.arb :=
  (State.wakeIfAsked_frame s r).2.2.2.2.2.2.2.1
@[simp] theorem State.wakeIfAsked_serial (s : State) (r : Region) : (State.wakeIfAsked s r).serial = s.serial :=
  (State.wakeIfAsked_frame s r).2.2.2.2.2.2.2.2.1
@[simp] theorem State.wakeIfAsked_free (s : State) (r : Region) : (State.wakeIfAsked s r).free = s.free :=
  (State.wakeIfAsked_frame s r).2.2.2.2.2.2.2.2.2.1
@[simp] theorem State.wakeIfAsked_pending (s : State) (r : Region) : (State.wakeIfAsked s r).pending = s.pending :=
  (State.wakeIfAsked_frame s r).2.2.2.2.2.2.2.2.2.2

/-- Fields that `claimAct` keeps. -/
theorem State.claimAct_frame (c : ClaimFrame) (guardPin : Bool) (s : State) :
    (State.claimAct c guardPin s).2.power = s.power ∧ (State.claimAct c guardPin s).2.port = s.port ∧ (State.claimAct c guardPin s).2.line = s.line ∧ (State.claimAct c guardPin s).2.roster = s.roster ∧ (State.claimAct c guardPin s).2.applyQ = s.applyQ ∧ (State.claimAct c guardPin s).2.unsaved = s.unsaved ∧ (State.claimAct c guardPin s).2.serving = s.serving ∧ (State.claimAct c guardPin s).2.arb = s.arb ∧ (State.claimAct c guardPin s).2.serial = s.serial ∧ (State.claimAct c guardPin s).2.free = s.free ∧ (State.claimAct c guardPin s).2.pending = s.pending := by
  unfold State.claimAct; (repeat' (first | split | dsimp only)) <;> simp
@[simp] theorem State.claimAct_power (c : ClaimFrame) (guardPin : Bool) (s : State) : (State.claimAct c guardPin s).2.power = s.power :=
  (State.claimAct_frame c guardPin s).1
@[simp] theorem State.claimAct_port (c : ClaimFrame) (guardPin : Bool) (s : State) : (State.claimAct c guardPin s).2.port = s.port :=
  (State.claimAct_frame c guardPin s).2.1
@[simp] theorem State.claimAct_line (c : ClaimFrame) (guardPin : Bool) (s : State) : (State.claimAct c guardPin s).2.line = s.line :=
  (State.claimAct_frame c guardPin s).2.2.1
@[simp] theorem State.claimAct_roster (c : ClaimFrame) (guardPin : Bool) (s : State) : (State.claimAct c guardPin s).2.roster = s.roster :=
  (State.claimAct_frame c guardPin s).2.2.2.1
@[simp] theorem State.claimAct_applyQ (c : ClaimFrame) (guardPin : Bool) (s : State) : (State.claimAct c guardPin s).2.applyQ = s.applyQ :=
  (State.claimAct_frame c guardPin s).2.2.2.2.1
@[simp] theorem State.claimAct_unsaved (c : ClaimFrame) (guardPin : Bool) (s : State) : (State.claimAct c guardPin s).2.unsaved = s.unsaved :=
  (State.claimAct_frame c guardPin s).2.2.2.2.2.1
@[simp] theorem State.claimAct_serving (c : ClaimFrame) (guardPin : Bool) (s : State) : (State.claimAct c guardPin s).2.serving = s.serving :=
  (State.claimAct_frame c guardPin s).2.2.2.2.2.2.1
@[simp] theorem State.claimAct_arb (c : ClaimFrame) (guardPin : Bool) (s : State) : (State.claimAct c guardPin s).2.arb = s.arb :=
  (State.claimAct_frame c guardPin s).2.2.2.2.2.2.2.1
@[simp] theorem State.claimAct_serial (c : ClaimFrame) (guardPin : Bool) (s : State) : (State.claimAct c guardPin s).2.serial = s.serial :=
  (State.claimAct_frame c guardPin s).2.2.2.2.2.2.2.2.1
@[simp] theorem State.claimAct_free (c : ClaimFrame) (guardPin : Bool) (s : State) : (State.claimAct c guardPin s).2.free = s.free :=
  (State.claimAct_frame c guardPin s).2.2.2.2.2.2.2.2.2.1
@[simp] theorem State.claimAct_pending (c : ClaimFrame) (guardPin : Bool) (s : State) : (State.claimAct c guardPin s).2.pending = s.pending :=
  (State.claimAct_frame c guardPin s).2.2.2.2.2.2.2.2.2.2

/-- Fields that `decidePull` keeps. -/
theorem State.decidePull_frame (s : State) (p : PullFrame) :
    (State.decidePull s p).2.power = s.power ∧ (State.decidePull s p).2.port = s.port ∧ (State.decidePull s p).2.line = s.line ∧ (State.decidePull s p).2.roster = s.roster ∧ (State.decidePull s p).2.applyQ = s.applyQ ∧ (State.decidePull s p).2.unsaved = s.unsaved ∧ (State.decidePull s p).2.catchup = s.catchup ∧ (State.decidePull s p).2.serial = s.serial ∧ (State.decidePull s p).2.free = s.free ∧ (State.decidePull s p).2.pending = s.pending := by
  unfold State.decidePull; (repeat' (first | split | dsimp only)) <;> simp
@[simp] theorem State.decidePull_power (s : State) (p : PullFrame) : (State.decidePull s p).2.power = s.power :=
  (State.decidePull_frame s p).1
@[simp] theorem State.decidePull_port (s : State) (p : PullFrame) : (State.decidePull s p).2.port = s.port :=
  (State.decidePull_frame s p).2.1
@[simp] theorem State.decidePull_line (s : State) (p : PullFrame) : (State.decidePull s p).2.line = s.line :=
  (State.decidePull_frame s p).2.2.1
@[simp] theorem State.decidePull_roster (s : State) (p : PullFrame) : (State.decidePull s p).2.roster = s.roster :=
  (State.decidePull_frame s p).2.2.2.1
@[simp] theorem State.decidePull_applyQ (s : State) (p : PullFrame) : (State.decidePull s p).2.applyQ = s.applyQ :=
  (State.decidePull_frame s p).2.2.2.2.1
@[simp] theorem State.decidePull_unsaved (s : State) (p : PullFrame) : (State.decidePull s p).2.unsaved = s.unsaved :=
  (State.decidePull_frame s p).2.2.2.2.2.1
@[simp] theorem State.decidePull_catchup (s : State) (p : PullFrame) : (State.decidePull s p).2.catchup = s.catchup :=
  (State.decidePull_frame s p).2.2.2.2.2.2.1
@[simp] theorem State.decidePull_serial (s : State) (p : PullFrame) : (State.decidePull s p).2.serial = s.serial :=
  (State.decidePull_frame s p).2.2.2.2.2.2.2.1
@[simp] theorem State.decidePull_free (s : State) (p : PullFrame) : (State.decidePull s p).2.free = s.free :=
  (State.decidePull_frame s p).2.2.2.2.2.2.2.2.1
@[simp] theorem State.decidePull_pending (s : State) (p : PullFrame) : (State.decidePull s p).2.pending = s.pending :=
  (State.decidePull_frame s p).2.2.2.2.2.2.2.2.2

/-- Fields that `pullAct` keeps. -/
theorem State.pullAct_frame (p : PullFrame) (s : State) :
    (State.pullAct p s).2.power = s.power ∧ (State.pullAct p s).2.port = s.port ∧ (State.pullAct p s).2.line = s.line ∧ (State.pullAct p s).2.roster = s.roster ∧ (State.pullAct p s).2.applyQ = s.applyQ ∧ (State.pullAct p s).2.unsaved = s.unsaved ∧ (State.pullAct p s).2.serial = s.serial ∧ (State.pullAct p s).2.free = s.free ∧ (State.pullAct p s).2.pending = s.pending := by
  unfold State.pullAct; (repeat' (first | split | dsimp only)) <;> simp
@[simp] theorem State.pullAct_power (p : PullFrame) (s : State) : (State.pullAct p s).2.power = s.power :=
  (State.pullAct_frame p s).1
@[simp] theorem State.pullAct_port (p : PullFrame) (s : State) : (State.pullAct p s).2.port = s.port :=
  (State.pullAct_frame p s).2.1
@[simp] theorem State.pullAct_line (p : PullFrame) (s : State) : (State.pullAct p s).2.line = s.line :=
  (State.pullAct_frame p s).2.2.1
@[simp] theorem State.pullAct_roster (p : PullFrame) (s : State) : (State.pullAct p s).2.roster = s.roster :=
  (State.pullAct_frame p s).2.2.2.1
@[simp] theorem State.pullAct_applyQ (p : PullFrame) (s : State) : (State.pullAct p s).2.applyQ = s.applyQ :=
  (State.pullAct_frame p s).2.2.2.2.1
@[simp] theorem State.pullAct_unsaved (p : PullFrame) (s : State) : (State.pullAct p s).2.unsaved = s.unsaved :=
  (State.pullAct_frame p s).2.2.2.2.2.1
@[simp] theorem State.pullAct_serial (p : PullFrame) (s : State) : (State.pullAct p s).2.serial = s.serial :=
  (State.pullAct_frame p s).2.2.2.2.2.2.1
@[simp] theorem State.pullAct_free (p : PullFrame) (s : State) : (State.pullAct p s).2.free = s.free :=
  (State.pullAct_frame p s).2.2.2.2.2.2.2.1
@[simp] theorem State.pullAct_pending (p : PullFrame) (s : State) : (State.pullAct p s).2.pending = s.pending :=
  (State.pullAct_frame p s).2.2.2.2.2.2.2.2

/-- Fields that `takeUpdate` keeps. -/
theorem State.takeUpdate_frame (s : State) (u : UpdateFrame) :
    (State.takeUpdate s u).2.power = s.power ∧ (State.takeUpdate s u).2.port = s.port ∧ (State.takeUpdate s u).2.events = s.events ∧ (State.takeUpdate s u).2.ctl = s.ctl ∧ (State.takeUpdate s u).2.line = s.line ∧ (State.takeUpdate s u).2.roster = s.roster ∧ (State.takeUpdate s u).2.out = s.out ∧ (State.takeUpdate s u).2.unsaved = s.unsaved ∧ (State.takeUpdate s u).2.catchup = s.catchup ∧ (State.takeUpdate s u).2.serving = s.serving ∧ (State.takeUpdate s u).2.arb = s.arb ∧ (State.takeUpdate s u).2.free = s.free ∧ (State.takeUpdate s u).2.pending = s.pending := by
  unfold State.takeUpdate; (repeat' (first | split | dsimp only)) <;> simp
@[simp] theorem State.takeUpdate_power (s : State) (u : UpdateFrame) : (State.takeUpdate s u).2.power = s.power :=
  (State.takeUpdate_frame s u).1
@[simp] theorem State.takeUpdate_port (s : State) (u : UpdateFrame) : (State.takeUpdate s u).2.port = s.port :=
  (State.takeUpdate_frame s u).2.1
@[simp] theorem State.takeUpdate_events (s : State) (u : UpdateFrame) : (State.takeUpdate s u).2.events = s.events :=
  (State.takeUpdate_frame s u).2.2.1
@[simp] theorem State.takeUpdate_ctl (s : State) (u : UpdateFrame) : (State.takeUpdate s u).2.ctl = s.ctl :=
  (State.takeUpdate_frame s u).2.2.2.1
@[simp] theorem State.takeUpdate_line (s : State) (u : UpdateFrame) : (State.takeUpdate s u).2.line = s.line :=
  (State.takeUpdate_frame s u).2.2.2.2.1
@[simp] theorem State.takeUpdate_roster (s : State) (u : UpdateFrame) : (State.takeUpdate s u).2.roster = s.roster :=
  (State.takeUpdate_frame s u).2.2.2.2.2.1
@[simp] theorem State.takeUpdate_out (s : State) (u : UpdateFrame) : (State.takeUpdate s u).2.out = s.out :=
  (State.takeUpdate_frame s u).2.2.2.2.2.2.1
@[simp] theorem State.takeUpdate_unsaved (s : State) (u : UpdateFrame) : (State.takeUpdate s u).2.unsaved = s.unsaved :=
  (State.takeUpdate_frame s u).2.2.2.2.2.2.2.1
@[simp] theorem State.takeUpdate_catchup (s : State) (u : UpdateFrame) : (State.takeUpdate s u).2.catchup = s.catchup :=
  (State.takeUpdate_frame s u).2.2.2.2.2.2.2.2.1
@[simp] theorem State.takeUpdate_serving (s : State) (u : UpdateFrame) : (State.takeUpdate s u).2.serving = s.serving :=
  (State.takeUpdate_frame s u).2.2.2.2.2.2.2.2.2.1
@[simp] theorem State.takeUpdate_arb (s : State) (u : UpdateFrame) : (State.takeUpdate s u).2.arb = s.arb :=
  (State.takeUpdate_frame s u).2.2.2.2.2.2.2.2.2.2.1
@[simp] theorem State.takeUpdate_free (s : State) (u : UpdateFrame) : (State.takeUpdate s u).2.free = s.free :=
  (State.takeUpdate_frame s u).2.2.2.2.2.2.2.2.2.2.2.1
@[simp] theorem State.takeUpdate_pending (s : State) (u : UpdateFrame) : (State.takeUpdate s u).2.pending = s.pending :=
  (State.takeUpdate_frame s u).2.2.2.2.2.2.2.2.2.2.2.2

/-- Fields that `compareUpdate` keeps. -/
theorem State.compareUpdate_frame (s : State) (u : UpdateFrame) :
    (State.compareUpdate s u).2.power = s.power ∧ (State.compareUpdate s u).2.port = s.port ∧ (State.compareUpdate s u).2.ctl = s.ctl ∧ (State.compareUpdate s u).2.line = s.line ∧ (State.compareUpdate s u).2.roster = s.roster ∧ (State.compareUpdate s u).2.out = s.out ∧ (State.compareUpdate s u).2.unsaved = s.unsaved ∧ (State.compareUpdate s u).2.serving = s.serving ∧ (State.compareUpdate s u).2.arb = s.arb ∧ (State.compareUpdate s u).2.free = s.free ∧ (State.compareUpdate s u).2.pending = s.pending := by
  unfold State.compareUpdate; (repeat' (first | split | dsimp only)) <;> simp
@[simp] theorem State.compareUpdate_power (s : State) (u : UpdateFrame) : (State.compareUpdate s u).2.power = s.power :=
  (State.compareUpdate_frame s u).1
@[simp] theorem State.compareUpdate_port (s : State) (u : UpdateFrame) : (State.compareUpdate s u).2.port = s.port :=
  (State.compareUpdate_frame s u).2.1
@[simp] theorem State.compareUpdate_ctl (s : State) (u : UpdateFrame) : (State.compareUpdate s u).2.ctl = s.ctl :=
  (State.compareUpdate_frame s u).2.2.1
@[simp] theorem State.compareUpdate_line (s : State) (u : UpdateFrame) : (State.compareUpdate s u).2.line = s.line :=
  (State.compareUpdate_frame s u).2.2.2.1
@[simp] theorem State.compareUpdate_roster (s : State) (u : UpdateFrame) : (State.compareUpdate s u).2.roster = s.roster :=
  (State.compareUpdate_frame s u).2.2.2.2.1
@[simp] theorem State.compareUpdate_out (s : State) (u : UpdateFrame) : (State.compareUpdate s u).2.out = s.out :=
  (State.compareUpdate_frame s u).2.2.2.2.2.1
@[simp] theorem State.compareUpdate_unsaved (s : State) (u : UpdateFrame) : (State.compareUpdate s u).2.unsaved = s.unsaved :=
  (State.compareUpdate_frame s u).2.2.2.2.2.2.1
@[simp] theorem State.compareUpdate_serving (s : State) (u : UpdateFrame) : (State.compareUpdate s u).2.serving = s.serving :=
  (State.compareUpdate_frame s u).2.2.2.2.2.2.2.1
@[simp] theorem State.compareUpdate_arb (s : State) (u : UpdateFrame) : (State.compareUpdate s u).2.arb = s.arb :=
  (State.compareUpdate_frame s u).2.2.2.2.2.2.2.2.1
@[simp] theorem State.compareUpdate_free (s : State) (u : UpdateFrame) : (State.compareUpdate s u).2.free = s.free :=
  (State.compareUpdate_frame s u).2.2.2.2.2.2.2.2.2.1
@[simp] theorem State.compareUpdate_pending (s : State) (u : UpdateFrame) : (State.compareUpdate s u).2.pending = s.pending :=
  (State.compareUpdate_frame s u).2.2.2.2.2.2.2.2.2.2

/-- Fields that `updateIfOwner` keeps. -/
theorem State.updateIfOwner_frame (s : State) (u : UpdateFrame) :
    (State.updateIfOwner s u).2.power = s.power ∧ (State.updateIfOwner s u).2.port = s.port ∧ (State.updateIfOwner s u).2.ctl = s.ctl ∧ (State.updateIfOwner s u).2.line = s.line ∧ (State.updateIfOwner s u).2.roster = s.roster ∧ (State.updateIfOwner s u).2.out = s.out ∧ (State.updateIfOwner s u).2.unsaved = s.unsaved ∧ (State.updateIfOwner s u).2.serving = s.serving ∧ (State.updateIfOwner s u).2.arb = s.arb ∧ (State.updateIfOwner s u).2.free = s.free ∧ (State.updateIfOwner s u).2.pending = s.pending := by
  unfold State.updateIfOwner; (repeat' (first | split | dsimp only)) <;> simp
@[simp] theorem State.updateIfOwner_power (s : State) (u : UpdateFrame) : (State.updateIfOwner s u).2.power = s.power :=
  (State.updateIfOwner_frame s u).1
@[simp] theorem State.updateIfOwner_port (s : State) (u : UpdateFrame) : (State.updateIfOwner s u).2.port = s.port :=
  (State.updateIfOwner_frame s u).2.1
@[simp] theorem State.updateIfOwner_ctl (s : State) (u : UpdateFrame) : (State.updateIfOwner s u).2.ctl = s.ctl :=
  (State.updateIfOwner_frame s u).2.2.1
@[simp] theorem State.updateIfOwner_line (s : State) (u : UpdateFrame) : (State.updateIfOwner s u).2.line = s.line :=
  (State.updateIfOwner_frame s u).2.2.2.1
@[simp] theorem State.updateIfOwner_roster (s : State) (u : UpdateFrame) : (State.updateIfOwner s u).2.roster = s.roster :=
  (State.updateIfOwner_frame s u).2.2.2.2.1
@[simp] theorem State.updateIfOwner_out (s : State) (u : UpdateFrame) : (State.updateIfOwner s u).2.out = s.out :=
  (State.updateIfOwner_frame s u).2.2.2.2.2.1
@[simp] theorem State.updateIfOwner_unsaved (s : State) (u : UpdateFrame) : (State.updateIfOwner s u).2.unsaved = s.unsaved :=
  (State.updateIfOwner_frame s u).2.2.2.2.2.2.1
@[simp] theorem State.updateIfOwner_serving (s : State) (u : UpdateFrame) : (State.updateIfOwner s u).2.serving = s.serving :=
  (State.updateIfOwner_frame s u).2.2.2.2.2.2.2.1
@[simp] theorem State.updateIfOwner_arb (s : State) (u : UpdateFrame) : (State.updateIfOwner s u).2.arb = s.arb :=
  (State.updateIfOwner_frame s u).2.2.2.2.2.2.2.2.1
@[simp] theorem State.updateIfOwner_free (s : State) (u : UpdateFrame) : (State.updateIfOwner s u).2.free = s.free :=
  (State.updateIfOwner_frame s u).2.2.2.2.2.2.2.2.2.1
@[simp] theorem State.updateIfOwner_pending (s : State) (u : UpdateFrame) : (State.updateIfOwner s u).2.pending = s.pending :=
  (State.updateIfOwner_frame s u).2.2.2.2.2.2.2.2.2.2

/-- Fields that `updateAct` keeps. -/
theorem State.updateAct_frame (u : UpdateFrame) (s : State) :
    (State.updateAct u s).2.power = s.power ∧ (State.updateAct u s).2.line = s.line ∧ (State.updateAct u s).2.unsaved = s.unsaved ∧ (State.updateAct u s).2.free = s.free ∧ (State.updateAct u s).2.pending = s.pending := by
  unfold State.updateAct; (repeat' (first | split | dsimp only)) <;> simp
@[simp] theorem State.updateAct_power (u : UpdateFrame) (s : State) : (State.updateAct u s).2.power = s.power :=
  (State.updateAct_frame u s).1
@[simp] theorem State.updateAct_line (u : UpdateFrame) (s : State) : (State.updateAct u s).2.line = s.line :=
  (State.updateAct_frame u s).2.1
@[simp] theorem State.updateAct_unsaved (u : UpdateFrame) (s : State) : (State.updateAct u s).2.unsaved = s.unsaved :=
  (State.updateAct_frame u s).2.2.1
@[simp] theorem State.updateAct_free (u : UpdateFrame) (s : State) : (State.updateAct u s).2.free = s.free :=
  (State.updateAct_frame u s).2.2.2.1
@[simp] theorem State.updateAct_pending (u : UpdateFrame) (s : State) : (State.updateAct u s).2.pending = s.pending :=
  (State.updateAct_frame u s).2.2.2.2

/-- Fields that `takeChunk` keeps. -/
theorem State.takeChunk_frame (s : State) (p : PullRecord) (i : ImageFrame) :
    (State.takeChunk s p i).2.power = s.power ∧ (State.takeChunk s p i).2.port = s.port ∧ (State.takeChunk s p i).2.events = s.events ∧ (State.takeChunk s p i).2.ctl = s.ctl ∧ (State.takeChunk s p i).2.line = s.line ∧ (State.takeChunk s p i).2.roster = s.roster ∧ (State.takeChunk s p i).2.out = s.out ∧ (State.takeChunk s p i).2.unsaved = s.unsaved ∧ (State.takeChunk s p i).2.serving = s.serving ∧ (State.takeChunk s p i).2.arb = s.arb ∧ (State.takeChunk s p i).2.free = s.free ∧ (State.takeChunk s p i).2.pending = s.pending := by
  unfold State.takeChunk; (repeat' (first | split | dsimp only)) <;> simp
@[simp] theorem State.takeChunk_power (s : State) (p : PullRecord) (i : ImageFrame) : (State.takeChunk s p i).2.power = s.power :=
  (State.takeChunk_frame s p i).1
@[simp] theorem State.takeChunk_port (s : State) (p : PullRecord) (i : ImageFrame) : (State.takeChunk s p i).2.port = s.port :=
  (State.takeChunk_frame s p i).2.1
@[simp] theorem State.takeChunk_events (s : State) (p : PullRecord) (i : ImageFrame) : (State.takeChunk s p i).2.events = s.events :=
  (State.takeChunk_frame s p i).2.2.1
@[simp] theorem State.takeChunk_ctl (s : State) (p : PullRecord) (i : ImageFrame) : (State.takeChunk s p i).2.ctl = s.ctl :=
  (State.takeChunk_frame s p i).2.2.2.1
@[simp] theorem State.takeChunk_line (s : State) (p : PullRecord) (i : ImageFrame) : (State.takeChunk s p i).2.line = s.line :=
  (State.takeChunk_frame s p i).2.2.2.2.1
@[simp] theorem State.takeChunk_roster (s : State) (p : PullRecord) (i : ImageFrame) : (State.takeChunk s p i).2.roster = s.roster :=
  (State.takeChunk_frame s p i).2.2.2.2.2.1
@[simp] theorem State.takeChunk_out (s : State) (p : PullRecord) (i : ImageFrame) : (State.takeChunk s p i).2.out = s.out :=
  (State.takeChunk_frame s p i).2.2.2.2.2.2.1
@[simp] theorem State.takeChunk_unsaved (s : State) (p : PullRecord) (i : ImageFrame) : (State.takeChunk s p i).2.unsaved = s.unsaved :=
  (State.takeChunk_frame s p i).2.2.2.2.2.2.2.1
@[simp] theorem State.takeChunk_serving (s : State) (p : PullRecord) (i : ImageFrame) : (State.takeChunk s p i).2.serving = s.serving :=
  (State.takeChunk_frame s p i).2.2.2.2.2.2.2.2.1
@[simp] theorem State.takeChunk_arb (s : State) (p : PullRecord) (i : ImageFrame) : (State.takeChunk s p i).2.arb = s.arb :=
  (State.takeChunk_frame s p i).2.2.2.2.2.2.2.2.2.1
@[simp] theorem State.takeChunk_free (s : State) (p : PullRecord) (i : ImageFrame) : (State.takeChunk s p i).2.free = s.free :=
  (State.takeChunk_frame s p i).2.2.2.2.2.2.2.2.2.2.1
@[simp] theorem State.takeChunk_pending (s : State) (p : PullRecord) (i : ImageFrame) : (State.takeChunk s p i).2.pending = s.pending :=
  (State.takeChunk_frame s p i).2.2.2.2.2.2.2.2.2.2.2

/-- Fields that `collect` keeps. -/
theorem State.collect_frame (s : State) (p : PullRecord) (i : ImageFrame) :
    (State.collect s p i).2.power = s.power ∧ (State.collect s p i).2.port = s.port ∧ (State.collect s p i).2.events = s.events ∧ (State.collect s p i).2.ctl = s.ctl ∧ (State.collect s p i).2.line = s.line ∧ (State.collect s p i).2.roster = s.roster ∧ (State.collect s p i).2.out = s.out ∧ (State.collect s p i).2.unsaved = s.unsaved ∧ (State.collect s p i).2.serving = s.serving ∧ (State.collect s p i).2.arb = s.arb ∧ (State.collect s p i).2.free = s.free ∧ (State.collect s p i).2.pending = s.pending := by
  unfold State.collect; (repeat' (first | split | dsimp only)) <;> simp
@[simp] theorem State.collect_power (s : State) (p : PullRecord) (i : ImageFrame) : (State.collect s p i).2.power = s.power :=
  (State.collect_frame s p i).1
@[simp] theorem State.collect_port (s : State) (p : PullRecord) (i : ImageFrame) : (State.collect s p i).2.port = s.port :=
  (State.collect_frame s p i).2.1
@[simp] theorem State.collect_events (s : State) (p : PullRecord) (i : ImageFrame) : (State.collect s p i).2.events = s.events :=
  (State.collect_frame s p i).2.2.1
@[simp] theorem State.collect_ctl (s : State) (p : PullRecord) (i : ImageFrame) : (State.collect s p i).2.ctl = s.ctl :=
  (State.collect_frame s p i).2.2.2.1
@[simp] theorem State.collect_line (s : State) (p : PullRecord) (i : ImageFrame) : (State.collect s p i).2.line = s.line :=
  (State.collect_frame s p i).2.2.2.2.1
@[simp] theorem State.collect_roster (s : State) (p : PullRecord) (i : ImageFrame) : (State.collect s p i).2.roster = s.roster :=
  (State.collect_frame s p i).2.2.2.2.2.1
@[simp] theorem State.collect_out (s : State) (p : PullRecord) (i : ImageFrame) : (State.collect s p i).2.out = s.out :=
  (State.collect_frame s p i).2.2.2.2.2.2.1
@[simp] theorem State.collect_unsaved (s : State) (p : PullRecord) (i : ImageFrame) : (State.collect s p i).2.unsaved = s.unsaved :=
  (State.collect_frame s p i).2.2.2.2.2.2.2.1
@[simp] theorem State.collect_serving (s : State) (p : PullRecord) (i : ImageFrame) : (State.collect s p i).2.serving = s.serving :=
  (State.collect_frame s p i).2.2.2.2.2.2.2.2.1
@[simp] theorem State.collect_arb (s : State) (p : PullRecord) (i : ImageFrame) : (State.collect s p i).2.arb = s.arb :=
  (State.collect_frame s p i).2.2.2.2.2.2.2.2.2.1
@[simp] theorem State.collect_free (s : State) (p : PullRecord) (i : ImageFrame) : (State.collect s p i).2.free = s.free :=
  (State.collect_frame s p i).2.2.2.2.2.2.2.2.2.2.1
@[simp] theorem State.collect_pending (s : State) (p : PullRecord) (i : ImageFrame) : (State.collect s p i).2.pending = s.pending :=
  (State.collect_frame s p i).2.2.2.2.2.2.2.2.2.2.2

/-- Fields that `collectIfAsked` keeps. -/
theorem State.collectIfAsked_frame (s : State) (i : ImageFrame) :
    (State.collectIfAsked s i).2.power = s.power ∧ (State.collectIfAsked s i).2.port = s.port ∧ (State.collectIfAsked s i).2.events = s.events ∧ (State.collectIfAsked s i).2.ctl = s.ctl ∧ (State.collectIfAsked s i).2.line = s.line ∧ (State.collectIfAsked s i).2.roster = s.roster ∧ (State.collectIfAsked s i).2.out = s.out ∧ (State.collectIfAsked s i).2.unsaved = s.unsaved ∧ (State.collectIfAsked s i).2.serving = s.serving ∧ (State.collectIfAsked s i).2.arb = s.arb ∧ (State.collectIfAsked s i).2.free = s.free ∧ (State.collectIfAsked s i).2.pending = s.pending := by
  unfold State.collectIfAsked; (repeat' (first | split | dsimp only)) <;> simp
@[simp] theorem State.collectIfAsked_power (s : State) (i : ImageFrame) : (State.collectIfAsked s i).2.power = s.power :=
  (State.collectIfAsked_frame s i).1
@[simp] theorem State.collectIfAsked_port (s : State) (i : ImageFrame) : (State.collectIfAsked s i).2.port = s.port :=
  (State.collectIfAsked_frame s i).2.1
@[simp] theorem State.collectIfAsked_events (s : State) (i : ImageFrame) : (State.collectIfAsked s i).2.events = s.events :=
  (State.collectIfAsked_frame s i).2.2.1
@[simp] theorem State.collectIfAsked_ctl (s : State) (i : ImageFrame) : (State.collectIfAsked s i).2.ctl = s.ctl :=
  (State.collectIfAsked_frame s i).2.2.2.1
@[simp] theorem State.collectIfAsked_line (s : State) (i : ImageFrame) : (State.collectIfAsked s i).2.line = s.line :=
  (State.collectIfAsked_frame s i).2.2.2.2.1
@[simp] theorem State.collectIfAsked_roster (s : State) (i : ImageFrame) : (State.collectIfAsked s i).2.roster = s.roster :=
  (State.collectIfAsked_frame s i).2.2.2.2.2.1
@[simp] theorem State.collectIfAsked_out (s : State) (i : ImageFrame) : (State.collectIfAsked s i).2.out = s.out :=
  (State.collectIfAsked_frame s i).2.2.2.2.2.2.1
@[simp] theorem State.collectIfAsked_unsaved (s : State) (i : ImageFrame) : (State.collectIfAsked s i).2.unsaved = s.unsaved :=
  (State.collectIfAsked_frame s i).2.2.2.2.2.2.2.1
@[simp] theorem State.collectIfAsked_serving (s : State) (i : ImageFrame) : (State.collectIfAsked s i).2.serving = s.serving :=
  (State.collectIfAsked_frame s i).2.2.2.2.2.2.2.2.1
@[simp] theorem State.collectIfAsked_arb (s : State) (i : ImageFrame) : (State.collectIfAsked s i).2.arb = s.arb :=
  (State.collectIfAsked_frame s i).2.2.2.2.2.2.2.2.2.1
@[simp] theorem State.collectIfAsked_free (s : State) (i : ImageFrame) : (State.collectIfAsked s i).2.free = s.free :=
  (State.collectIfAsked_frame s i).2.2.2.2.2.2.2.2.2.2.1
@[simp] theorem State.collectIfAsked_pending (s : State) (i : ImageFrame) : (State.collectIfAsked s i).2.pending = s.pending :=
  (State.collectIfAsked_frame s i).2.2.2.2.2.2.2.2.2.2.2

/-- Fields that `imageAct` keeps. -/
theorem State.imageAct_frame (i : ImageFrame) (s : State) :
    (State.imageAct i s).2.power = s.power ∧ (State.imageAct i s).2.line = s.line ∧ (State.imageAct i s).2.unsaved = s.unsaved ∧ (State.imageAct i s).2.free = s.free ∧ (State.imageAct i s).2.pending = s.pending := by
  unfold State.imageAct; (repeat' (first | split | dsimp only)) <;> simp
@[simp] theorem State.imageAct_power (i : ImageFrame) (s : State) : (State.imageAct i s).2.power = s.power :=
  (State.imageAct_frame i s).1
@[simp] theorem State.imageAct_line (i : ImageFrame) (s : State) : (State.imageAct i s).2.line = s.line :=
  (State.imageAct_frame i s).2.1
@[simp] theorem State.imageAct_unsaved (i : ImageFrame) (s : State) : (State.imageAct i s).2.unsaved = s.unsaved :=
  (State.imageAct_frame i s).2.2.1
@[simp] theorem State.imageAct_free (i : ImageFrame) (s : State) : (State.imageAct i s).2.free = s.free :=
  (State.imageAct_frame i s).2.2.2.1
@[simp] theorem State.imageAct_pending (i : ImageFrame) (s : State) : (State.imageAct i s).2.pending = s.pending :=
  (State.imageAct_frame i s).2.2.2.2

end Sys2Proof.Machine
end

