-- ==== Sys2Proof/Laws/FrameEndsFrame.lean ====
section
/-! SUPPORT. What each operation of Machine/FrameEnds.lean leaves as it is, field by field. -/

namespace Sys2Proof.Machine

/-- Fields that `attemptDone` keeps. -/
theorem State.attemptDone_frame (s : State) :
    (State.attemptDone s).power = s.power ∧ (State.attemptDone s).nv = s.nv ∧ (State.attemptDone s).port = s.port ∧ (State.attemptDone s).events = s.events ∧ (State.attemptDone s).ctl = s.ctl ∧ (State.attemptDone s).roster = s.roster ∧ (State.attemptDone s).table = s.table ∧ (State.attemptDone s).out = s.out ∧ (State.attemptDone s).applyQ = s.applyQ ∧ (State.attemptDone s).unsaved = s.unsaved ∧ (State.attemptDone s).catchup = s.catchup ∧ (State.attemptDone s).serving = s.serving ∧ (State.attemptDone s).arb = s.arb ∧ (State.attemptDone s).serial = s.serial ∧ (State.attemptDone s).free = s.free ∧ (State.attemptDone s).pending = s.pending := by
  unfold State.attemptDone; (repeat' (first | split | dsimp only)) <;> simp
@[simp] theorem State.attemptDone_power (s : State) : (State.attemptDone s).power = s.power :=
  (State.attemptDone_frame s).1
@[simp] theorem State.attemptDone_nv (s : State) : (State.attemptDone s).nv = s.nv :=
  (State.attemptDone_frame s).2.1
@[simp] theorem State.attemptDone_port (s : State) : (State.attemptDone s).port = s.port :=
  (State.attemptDone_frame s).2.2.1
@[simp] theorem State.attemptDone_events (s : State) : (State.attemptDone s).events = s.events :=
  (State.attemptDone_frame s).2.2.2.1
@[simp] theorem State.attemptDone_ctl (s : State) : (State.attemptDone s).ctl = s.ctl :=
  (State.attemptDone_frame s).2.2.2.2.1
@[simp] theorem State.attemptDone_roster (s : State) : (State.attemptDone s).roster = s.roster :=
  (State.attemptDone_frame s).2.2.2.2.2.1
@[simp] theorem State.attemptDone_table (s : State) : (State.attemptDone s).table = s.table :=
  (State.attemptDone_frame s).2.2.2.2.2.2.1
@[simp] theorem State.attemptDone_out (s : State) : (State.attemptDone s).out = s.out :=
  (State.attemptDone_frame s).2.2.2.2.2.2.2.1
@[simp] theorem State.attemptDone_applyQ (s : State) : (State.attemptDone s).applyQ = s.applyQ :=
  (State.attemptDone_frame s).2.2.2.2.2.2.2.2.1
@[simp] theorem State.attemptDone_unsaved (s : State) : (State.attemptDone s).unsaved = s.unsaved :=
  (State.attemptDone_frame s).2.2.2.2.2.2.2.2.2.1
@[simp] theorem State.attemptDone_catchup (s : State) : (State.attemptDone s).catchup = s.catchup :=
  (State.attemptDone_frame s).2.2.2.2.2.2.2.2.2.2.1
@[simp] theorem State.attemptDone_serving (s : State) : (State.attemptDone s).serving = s.serving :=
  (State.attemptDone_frame s).2.2.2.2.2.2.2.2.2.2.2.1
@[simp] theorem State.attemptDone_arb (s : State) : (State.attemptDone s).arb = s.arb :=
  (State.attemptDone_frame s).2.2.2.2.2.2.2.2.2.2.2.2.1
@[simp] theorem State.attemptDone_serial (s : State) : (State.attemptDone s).serial = s.serial :=
  (State.attemptDone_frame s).2.2.2.2.2.2.2.2.2.2.2.2.2.1
@[simp] theorem State.attemptDone_free (s : State) : (State.attemptDone s).free = s.free :=
  (State.attemptDone_frame s).2.2.2.2.2.2.2.2.2.2.2.2.2.2.1
@[simp] theorem State.attemptDone_pending (s : State) : (State.attemptDone s).pending = s.pending :=
  (State.attemptDone_frame s).2.2.2.2.2.2.2.2.2.2.2.2.2.2.2

/-- Fields that `receptionDone` keeps. -/
theorem State.receptionDone_frame (s : State) :
    (State.receptionDone s).power = s.power ∧ (State.receptionDone s).nv = s.nv ∧ (State.receptionDone s).port = s.port ∧ (State.receptionDone s).events = s.events ∧ (State.receptionDone s).ctl = s.ctl ∧ (State.receptionDone s).roster = s.roster ∧ (State.receptionDone s).table = s.table ∧ (State.receptionDone s).out = s.out ∧ (State.receptionDone s).applyQ = s.applyQ ∧ (State.receptionDone s).unsaved = s.unsaved ∧ (State.receptionDone s).catchup = s.catchup ∧ (State.receptionDone s).serving = s.serving ∧ (State.receptionDone s).arb = s.arb ∧ (State.receptionDone s).serial = s.serial ∧ (State.receptionDone s).free = s.free ∧ (State.receptionDone s).pending = s.pending := by
  unfold State.receptionDone; (repeat' (first | split | dsimp only)) <;> simp
@[simp] theorem State.receptionDone_power (s : State) : (State.receptionDone s).power = s.power :=
  (State.receptionDone_frame s).1
@[simp] theorem State.receptionDone_nv (s : State) : (State.receptionDone s).nv = s.nv :=
  (State.receptionDone_frame s).2.1
@[simp] theorem State.receptionDone_port (s : State) : (State.receptionDone s).port = s.port :=
  (State.receptionDone_frame s).2.2.1
@[simp] theorem State.receptionDone_events (s : State) : (State.receptionDone s).events = s.events :=
  (State.receptionDone_frame s).2.2.2.1
@[simp] theorem State.receptionDone_ctl (s : State) : (State.receptionDone s).ctl = s.ctl :=
  (State.receptionDone_frame s).2.2.2.2.1
@[simp] theorem State.receptionDone_roster (s : State) : (State.receptionDone s).roster = s.roster :=
  (State.receptionDone_frame s).2.2.2.2.2.1
@[simp] theorem State.receptionDone_table (s : State) : (State.receptionDone s).table = s.table :=
  (State.receptionDone_frame s).2.2.2.2.2.2.1
@[simp] theorem State.receptionDone_out (s : State) : (State.receptionDone s).out = s.out :=
  (State.receptionDone_frame s).2.2.2.2.2.2.2.1
@[simp] theorem State.receptionDone_applyQ (s : State) : (State.receptionDone s).applyQ = s.applyQ :=
  (State.receptionDone_frame s).2.2.2.2.2.2.2.2.1
@[simp] theorem State.receptionDone_unsaved (s : State) : (State.receptionDone s).unsaved = s.unsaved :=
  (State.receptionDone_frame s).2.2.2.2.2.2.2.2.2.1
@[simp] theorem State.receptionDone_catchup (s : State) : (State.receptionDone s).catchup = s.catchup :=
  (State.receptionDone_frame s).2.2.2.2.2.2.2.2.2.2.1
@[simp] theorem State.receptionDone_serving (s : State) : (State.receptionDone s).serving = s.serving :=
  (State.receptionDone_frame s).2.2.2.2.2.2.2.2.2.2.2.1
@[simp] theorem State.receptionDone_arb (s : State) : (State.receptionDone s).arb = s.arb :=
  (State.receptionDone_frame s).2.2.2.2.2.2.2.2.2.2.2.2.1
@[simp] theorem State.receptionDone_serial (s : State) : (State.receptionDone s).serial = s.serial :=
  (State.receptionDone_frame s).2.2.2.2.2.2.2.2.2.2.2.2.2.1
@[simp] theorem State.receptionDone_free (s : State) : (State.receptionDone s).free = s.free :=
  (State.receptionDone_frame s).2.2.2.2.2.2.2.2.2.2.2.2.2.2.1
@[simp] theorem State.receptionDone_pending (s : State) : (State.receptionDone s).pending = s.pending :=
  (State.receptionDone_frame s).2.2.2.2.2.2.2.2.2.2.2.2.2.2.2

/-- Fields that `beaconSent` keeps. -/
theorem State.beaconSent_frame (s : State) (b : BeaconFrame) (walkLast : Option Region) (ack : StationMap) :
    (State.beaconSent s b walkLast ack).power = s.power ∧ (State.beaconSent s b walkLast ack).nv = s.nv ∧ (State.beaconSent s b walkLast ack).port = s.port ∧ (State.beaconSent s b walkLast ack).events = s.events ∧ (State.beaconSent s b walkLast ack).line = s.line ∧ (State.beaconSent s b walkLast ack).table = s.table ∧ (State.beaconSent s b walkLast ack).out = s.out ∧ (State.beaconSent s b walkLast ack).applyQ = s.applyQ ∧ (State.beaconSent s b walkLast ack).unsaved = s.unsaved ∧ (State.beaconSent s b walkLast ack).catchup = s.catchup ∧ (State.beaconSent s b walkLast ack).serving = s.serving ∧ (State.beaconSent s b walkLast ack).arb = s.arb ∧ (State.beaconSent s b walkLast ack).serial = s.serial ∧ (State.beaconSent s b walkLast ack).free = s.free ∧ (State.beaconSent s b walkLast ack).pending = s.pending := by
  unfold State.beaconSent; (repeat' (first | split | dsimp only)) <;> simp
@[simp] theorem State.beaconSent_power (s : State) (b : BeaconFrame) (walkLast : Option Region) (ack : StationMap) : (State.beaconSent s b walkLast ack).power = s.power :=
  (State.beaconSent_frame s b walkLast ack).1
@[simp] theorem State.beaconSent_nv (s : State) (b : BeaconFrame) (walkLast : Option Region) (ack : StationMap) : (State.beaconSent s b walkLast ack).nv = s.nv :=
  (State.beaconSent_frame s b walkLast ack).2.1
@[simp] theorem State.beaconSent_port (s : State) (b : BeaconFrame) (walkLast : Option Region) (ack : StationMap) : (State.beaconSent s b walkLast ack).port = s.port :=
  (State.beaconSent_frame s b walkLast ack).2.2.1
@[simp] theorem State.beaconSent_events (s : State) (b : BeaconFrame) (walkLast : Option Region) (ack : StationMap) : (State.beaconSent s b walkLast ack).events = s.events :=
  (State.beaconSent_frame s b walkLast ack).2.2.2.1
@[simp] theorem State.beaconSent_line (s : State) (b : BeaconFrame) (walkLast : Option Region) (ack : StationMap) : (State.beaconSent s b walkLast ack).line = s.line :=
  (State.beaconSent_frame s b walkLast ack).2.2.2.2.1
@[simp] theorem State.beaconSent_table (s : State) (b : BeaconFrame) (walkLast : Option Region) (ack : StationMap) : (State.beaconSent s b walkLast ack).table = s.table :=
  (State.beaconSent_frame s b walkLast ack).2.2.2.2.2.1
@[simp] theorem State.beaconSent_out (s : State) (b : BeaconFrame) (walkLast : Option Region) (ack : StationMap) : (State.beaconSent s b walkLast ack).out = s.out :=
  (State.beaconSent_frame s b walkLast ack).2.2.2.2.2.2.1
@[simp] theorem State.beaconSent_applyQ (s : State) (b : BeaconFrame) (walkLast : Option Region) (ack : StationMap) : (State.beaconSent s b walkLast ack).applyQ = s.applyQ :=
  (State.beaconSent_frame s b walkLast ack).2.2.2.2.2.2.2.1
@[simp] theorem State.beaconSent_unsaved (s : State) (b : BeaconFrame) (walkLast : Option Region) (ack : StationMap) : (State.beaconSent s b walkLast ack).unsaved = s.unsaved :=
  (State.beaconSent_frame s b walkLast ack).2.2.2.2.2.2.2.2.1
@[simp] theorem State.beaconSent_catchup (s : State) (b : BeaconFrame) (walkLast : Option Region) (ack : StationMap) : (State.beaconSent s b walkLast ack).catchup = s.catchup :=
  (State.beaconSent_frame s b walkLast ack).2.2.2.2.2.2.2.2.2.1
@[simp] theorem State.beaconSent_serving (s : State) (b : BeaconFrame) (walkLast : Option Region) (ack : StationMap) : (State.beaconSent s b walkLast ack).serving = s.serving :=
  (State.beaconSent_frame s b walkLast ack).2.2.2.2.2.2.2.2.2.2.1
@[simp] theorem State.beaconSent_arb (s : State) (b : BeaconFrame) (walkLast : Option Region) (ack : StationMap) : (State.beaconSent s b walkLast ack).arb = s.arb :=
  (State.beaconSent_frame s b walkLast ack).2.2.2.2.2.2.2.2.2.2.2.1
@[simp] theorem State.beaconSent_serial (s : State) (b : BeaconFrame) (walkLast : Option Region) (ack : StationMap) : (State.beaconSent s b walkLast ack).serial = s.serial :=
  (State.beaconSent_frame s b walkLast ack).2.2.2.2.2.2.2.2.2.2.2.2.1
@[simp] theorem State.beaconSent_free (s : State) (b : BeaconFrame) (walkLast : Option Region) (ack : StationMap) : (State.beaconSent s b walkLast ack).free = s.free :=
  (State.beaconSent_frame s b walkLast ack).2.2.2.2.2.2.2.2.2.2.2.2.2.1
@[simp] theorem State.beaconSent_pending (s : State) (b : BeaconFrame) (walkLast : Option Region) (ack : StationMap) : (State.beaconSent s b walkLast ack).pending = s.pending :=
  (State.beaconSent_frame s b walkLast ack).2.2.2.2.2.2.2.2.2.2.2.2.2.2

/-- Fields that `ownBeaconEnd` keeps. -/
theorem State.ownBeaconEnd_frame (s : State) (b : BeaconFrame) (walkLast : Option Region) (ack : StationMap) :
    (State.ownBeaconEnd s b walkLast ack).power = s.power ∧ (State.ownBeaconEnd s b walkLast ack).port = s.port ∧ (State.ownBeaconEnd s b walkLast ack).out = s.out ∧ (State.ownBeaconEnd s b walkLast ack).applyQ = s.applyQ ∧ (State.ownBeaconEnd s b walkLast ack).unsaved = s.unsaved ∧ (State.ownBeaconEnd s b walkLast ack).catchup = s.catchup ∧ (State.ownBeaconEnd s b walkLast ack).serving = s.serving ∧ (State.ownBeaconEnd s b walkLast ack).arb = s.arb ∧ (State.ownBeaconEnd s b walkLast ack).serial = s.serial ∧ (State.ownBeaconEnd s b walkLast ack).free = s.free ∧ (State.ownBeaconEnd s b walkLast ack).pending = s.pending := by
  unfold State.ownBeaconEnd; (repeat' (first | split | dsimp only)) <;> simp
@[simp] theorem State.ownBeaconEnd_power (s : State) (b : BeaconFrame) (walkLast : Option Region) (ack : StationMap) : (State.ownBeaconEnd s b walkLast ack).power = s.power :=
  (State.ownBeaconEnd_frame s b walkLast ack).1
@[simp] theorem State.ownBeaconEnd_port (s : State) (b : BeaconFrame) (walkLast : Option Region) (ack : StationMap) : (State.ownBeaconEnd s b walkLast ack).port = s.port :=
  (State.ownBeaconEnd_frame s b walkLast ack).2.1
@[simp] theorem State.ownBeaconEnd_out (s : State) (b : BeaconFrame) (walkLast : Option Region) (ack : StationMap) : (State.ownBeaconEnd s b walkLast ack).out = s.out :=
  (State.ownBeaconEnd_frame s b walkLast ack).2.2.1
@[simp] theorem State.ownBeaconEnd_applyQ (s : State) (b : BeaconFrame) (walkLast : Option Region) (ack : StationMap) : (State.ownBeaconEnd s b walkLast ack).applyQ = s.applyQ :=
  (State.ownBeaconEnd_frame s b walkLast ack).2.2.2.1
@[simp] theorem State.ownBeaconEnd_unsaved (s : State) (b : BeaconFrame) (walkLast : Option Region) (ack : StationMap) : (State.ownBeaconEnd s b walkLast ack).unsaved = s.unsaved :=
  (State.ownBeaconEnd_frame s b walkLast ack).2.2.2.2.1
@[simp] theorem State.ownBeaconEnd_catchup (s : State) (b : BeaconFrame) (walkLast : Option Region) (ack : StationMap) : (State.ownBeaconEnd s b walkLast ack).catchup = s.catchup :=
  (State.ownBeaconEnd_frame s b walkLast ack).2.2.2.2.2.1
@[simp] theorem State.ownBeaconEnd_serving (s : State) (b : BeaconFrame) (walkLast : Option Region) (ack : StationMap) : (State.ownBeaconEnd s b walkLast ack).serving = s.serving :=
  (State.ownBeaconEnd_frame s b walkLast ack).2.2.2.2.2.2.1
@[simp] theorem State.ownBeaconEnd_arb (s : State) (b : BeaconFrame) (walkLast : Option Region) (ack : StationMap) : (State.ownBeaconEnd s b walkLast ack).arb = s.arb :=
  (State.ownBeaconEnd_frame s b walkLast ack).2.2.2.2.2.2.2.1
@[simp] theorem State.ownBeaconEnd_serial (s : State) (b : BeaconFrame) (walkLast : Option Region) (ack : StationMap) : (State.ownBeaconEnd s b walkLast ack).serial = s.serial :=
  (State.ownBeaconEnd_frame s b walkLast ack).2.2.2.2.2.2.2.2.1
@[simp] theorem State.ownBeaconEnd_free (s : State) (b : BeaconFrame) (walkLast : Option Region) (ack : StationMap) : (State.ownBeaconEnd s b walkLast ack).free = s.free :=
  (State.ownBeaconEnd_frame s b walkLast ack).2.2.2.2.2.2.2.2.2.1
@[simp] theorem State.ownBeaconEnd_pending (s : State) (b : BeaconFrame) (walkLast : Option Region) (ack : StationMap) : (State.ownBeaconEnd s b walkLast ack).pending = s.pending :=
  (State.ownBeaconEnd_frame s b walkLast ack).2.2.2.2.2.2.2.2.2.2

/-- Fields that `beaconHeard` keeps. -/
theorem State.beaconHeard_frame (s : State) (b : BeaconFrame) :
    (State.beaconHeard s b).power = s.power ∧ (State.beaconHeard s b).port = s.port ∧ (State.beaconHeard s b).line = s.line ∧ (State.beaconHeard s b).applyQ = s.applyQ ∧ (State.beaconHeard s b).unsaved = s.unsaved ∧ (State.beaconHeard s b).free = s.free ∧ (State.beaconHeard s b).pending = s.pending := by
  unfold State.beaconHeard; (repeat' (first | split | dsimp only)) <;> simp
@[simp] theorem State.beaconHeard_power (s : State) (b : BeaconFrame) : (State.beaconHeard s b).power = s.power :=
  (State.beaconHeard_frame s b).1
@[simp] theorem State.beaconHeard_port (s : State) (b : BeaconFrame) : (State.beaconHeard s b).port = s.port :=
  (State.beaconHeard_frame s b).2.1
@[simp] theorem State.beaconHeard_line (s : State) (b : BeaconFrame) : (State.beaconHeard s b).line = s.line :=
  (State.beaconHeard_frame s b).2.2.1
@[simp] theorem State.beaconHeard_applyQ (s : State) (b : BeaconFrame) : (State.beaconHeard s b).applyQ = s.applyQ :=
  (State.beaconHeard_frame s b).2.2.2.1
@[simp] theorem State.beaconHeard_unsaved (s : State) (b : BeaconFrame) : (State.beaconHeard s b).unsaved = s.unsaved :=
  (State.beaconHeard_frame s b).2.2.2.2.1
@[simp] theorem State.beaconHeard_free (s : State) (b : BeaconFrame) : (State.beaconHeard s b).free = s.free :=
  (State.beaconHeard_frame s b).2.2.2.2.2.1
@[simp] theorem State.beaconHeard_pending (s : State) (b : BeaconFrame) : (State.beaconHeard s b).pending = s.pending :=
  (State.beaconHeard_frame s b).2.2.2.2.2.2

/-- Fields that `claimDecided` keeps. -/
theorem State.claimDecided_frame (s : State) (c : ClaimFrame) (source : ClaimSource) (ack : StationMap) :
    (State.claimDecided s c source ack).power = s.power ∧ (State.claimDecided s c source ack).line = s.line ∧ (State.claimDecided s c source ack).applyQ = s.applyQ ∧ (State.claimDecided s c source ack).unsaved = s.unsaved ∧ (State.claimDecided s c source ack).serial = s.serial ∧ (State.claimDecided s c source ack).free = s.free ∧ (State.claimDecided s c source ack).pending = s.pending := by
  unfold State.claimDecided; (repeat' (first | split | dsimp only)) <;> simp
@[simp] theorem State.claimDecided_power (s : State) (c : ClaimFrame) (source : ClaimSource) (ack : StationMap) : (State.claimDecided s c source ack).power = s.power :=
  (State.claimDecided_frame s c source ack).1
@[simp] theorem State.claimDecided_line (s : State) (c : ClaimFrame) (source : ClaimSource) (ack : StationMap) : (State.claimDecided s c source ack).line = s.line :=
  (State.claimDecided_frame s c source ack).2.1
@[simp] theorem State.claimDecided_applyQ (s : State) (c : ClaimFrame) (source : ClaimSource) (ack : StationMap) : (State.claimDecided s c source ack).applyQ = s.applyQ :=
  (State.claimDecided_frame s c source ack).2.2.1
@[simp] theorem State.claimDecided_unsaved (s : State) (c : ClaimFrame) (source : ClaimSource) (ack : StationMap) : (State.claimDecided s c source ack).unsaved = s.unsaved :=
  (State.claimDecided_frame s c source ack).2.2.2.1
@[simp] theorem State.claimDecided_serial (s : State) (c : ClaimFrame) (source : ClaimSource) (ack : StationMap) : (State.claimDecided s c source ack).serial = s.serial :=
  (State.claimDecided_frame s c source ack).2.2.2.2.1
@[simp] theorem State.claimDecided_free (s : State) (c : ClaimFrame) (source : ClaimSource) (ack : StationMap) : (State.claimDecided s c source ack).free = s.free :=
  (State.claimDecided_frame s c source ack).2.2.2.2.2.1
@[simp] theorem State.claimDecided_pending (s : State) (c : ClaimFrame) (source : ClaimSource) (ack : StationMap) : (State.claimDecided s c source ack).pending = s.pending :=
  (State.claimDecided_frame s c source ack).2.2.2.2.2.2

/-- Fields that `ownClaimEnd` keeps. -/
theorem State.ownClaimEnd_frame (s : State) (c : ClaimFrame) (ack : StationMap) :
    (State.ownClaimEnd s c ack).power = s.power ∧ (State.ownClaimEnd s c ack).applyQ = s.applyQ ∧ (State.ownClaimEnd s c ack).unsaved = s.unsaved ∧ (State.ownClaimEnd s c ack).serial = s.serial ∧ (State.ownClaimEnd s c ack).free = s.free ∧ (State.ownClaimEnd s c ack).pending = s.pending := by
  unfold State.ownClaimEnd; (repeat' (first | split | dsimp only)) <;> simp
@[simp] theorem State.ownClaimEnd_power (s : State) (c : ClaimFrame) (ack : StationMap) : (State.ownClaimEnd s c ack).power = s.power :=
  (State.ownClaimEnd_frame s c ack).1
@[simp] theorem State.ownClaimEnd_applyQ (s : State) (c : ClaimFrame) (ack : StationMap) : (State.ownClaimEnd s c ack).applyQ = s.applyQ :=
  (State.ownClaimEnd_frame s c ack).2.1
@[simp] theorem State.ownClaimEnd_unsaved (s : State) (c : ClaimFrame) (ack : StationMap) : (State.ownClaimEnd s c ack).unsaved = s.unsaved :=
  (State.ownClaimEnd_frame s c ack).2.2.1
@[simp] theorem State.ownClaimEnd_serial (s : State) (c : ClaimFrame) (ack : StationMap) : (State.ownClaimEnd s c ack).serial = s.serial :=
  (State.ownClaimEnd_frame s c ack).2.2.2.1
@[simp] theorem State.ownClaimEnd_free (s : State) (c : ClaimFrame) (ack : StationMap) : (State.ownClaimEnd s c ack).free = s.free :=
  (State.ownClaimEnd_frame s c ack).2.2.2.2.1
@[simp] theorem State.ownClaimEnd_pending (s : State) (c : ClaimFrame) (ack : StationMap) : (State.ownClaimEnd s c ack).pending = s.pending :=
  (State.ownClaimEnd_frame s c ack).2.2.2.2.2

/-- Fields that `decideClaim` keeps. -/
theorem State.decideClaim_frame (s : State) (c : ClaimFrame) (m : StationMap) :
    (State.decideClaim s c m).power = s.power ∧ (State.decideClaim s c m).line = s.line ∧ (State.decideClaim s c m).applyQ = s.applyQ ∧ (State.decideClaim s c m).unsaved = s.unsaved ∧ (State.decideClaim s c m).serial = s.serial ∧ (State.decideClaim s c m).free = s.free ∧ (State.decideClaim s c m).pending = s.pending := by
  unfold State.decideClaim; (repeat' (first | split | dsimp only)) <;> simp
@[simp] theorem State.decideClaim_power (s : State) (c : ClaimFrame) (m : StationMap) : (State.decideClaim s c m).power = s.power :=
  (State.decideClaim_frame s c m).1
@[simp] theorem State.decideClaim_line (s : State) (c : ClaimFrame) (m : StationMap) : (State.decideClaim s c m).line = s.line :=
  (State.decideClaim_frame s c m).2.1
@[simp] theorem State.decideClaim_applyQ (s : State) (c : ClaimFrame) (m : StationMap) : (State.decideClaim s c m).applyQ = s.applyQ :=
  (State.decideClaim_frame s c m).2.2.1
@[simp] theorem State.decideClaim_unsaved (s : State) (c : ClaimFrame) (m : StationMap) : (State.decideClaim s c m).unsaved = s.unsaved :=
  (State.decideClaim_frame s c m).2.2.2.1
@[simp] theorem State.decideClaim_serial (s : State) (c : ClaimFrame) (m : StationMap) : (State.decideClaim s c m).serial = s.serial :=
  (State.decideClaim_frame s c m).2.2.2.2.1
@[simp] theorem State.decideClaim_free (s : State) (c : ClaimFrame) (m : StationMap) : (State.decideClaim s c m).free = s.free :=
  (State.decideClaim_frame s c m).2.2.2.2.2.1
@[simp] theorem State.decideClaim_pending (s : State) (c : ClaimFrame) (m : StationMap) : (State.decideClaim s c m).pending = s.pending :=
  (State.decideClaim_frame s c m).2.2.2.2.2.2

/-- Fields that `claimHeard` keeps. -/
theorem State.claimHeard_frame (s : State) (acked : Bool) (c : ClaimFrame) (ack : StationMap) :
    (State.claimHeard s acked c ack).power = s.power ∧ (State.claimHeard s acked c ack).line = s.line ∧ (State.claimHeard s acked c ack).applyQ = s.applyQ ∧ (State.claimHeard s acked c ack).unsaved = s.unsaved ∧ (State.claimHeard s acked c ack).serial = s.serial ∧ (State.claimHeard s acked c ack).free = s.free ∧ (State.claimHeard s acked c ack).pending = s.pending := by
  unfold State.claimHeard; (repeat' (first | split | dsimp only)) <;> simp
@[simp] theorem State.claimHeard_power (s : State) (acked : Bool) (c : ClaimFrame) (ack : StationMap) : (State.claimHeard s acked c ack).power = s.power :=
  (State.claimHeard_frame s acked c ack).1
@[simp] theorem State.claimHeard_line (s : State) (acked : Bool) (c : ClaimFrame) (ack : StationMap) : (State.claimHeard s acked c ack).line = s.line :=
  (State.claimHeard_frame s acked c ack).2.1
@[simp] theorem State.claimHeard_applyQ (s : State) (acked : Bool) (c : ClaimFrame) (ack : StationMap) : (State.claimHeard s acked c ack).applyQ = s.applyQ :=
  (State.claimHeard_frame s acked c ack).2.2.1
@[simp] theorem State.claimHeard_unsaved (s : State) (acked : Bool) (c : ClaimFrame) (ack : StationMap) : (State.claimHeard s acked c ack).unsaved = s.unsaved :=
  (State.claimHeard_frame s acked c ack).2.2.2.1
@[simp] theorem State.claimHeard_serial (s : State) (acked : Bool) (c : ClaimFrame) (ack : StationMap) : (State.claimHeard s acked c ack).serial = s.serial :=
  (State.claimHeard_frame s acked c ack).2.2.2.2.1
@[simp] theorem State.claimHeard_free (s : State) (acked : Bool) (c : ClaimFrame) (ack : StationMap) : (State.claimHeard s acked c ack).free = s.free :=
  (State.claimHeard_frame s acked c ack).2.2.2.2.2.1
@[simp] theorem State.claimHeard_pending (s : State) (acked : Bool) (c : ClaimFrame) (ack : StationMap) : (State.claimHeard s acked c ack).pending = s.pending :=
  (State.claimHeard_frame s acked c ack).2.2.2.2.2.2

/-- Fields that `pullAnswered` keeps. -/
theorem State.pullAnswered_frame (s : State) (p : PullRecord) (ack : StationMap) :
    (State.pullAnswered s p ack).power = s.power ∧ (State.pullAnswered s p ack).port = s.port ∧ (State.pullAnswered s p ack).ctl = s.ctl ∧ (State.pullAnswered s p ack).line = s.line ∧ (State.pullAnswered s p ack).roster = s.roster ∧ (State.pullAnswered s p ack).out = s.out ∧ (State.pullAnswered s p ack).applyQ = s.applyQ ∧ (State.pullAnswered s p ack).unsaved = s.unsaved ∧ (State.pullAnswered s p ack).serving = s.serving ∧ (State.pullAnswered s p ack).arb = s.arb ∧ (State.pullAnswered s p ack).serial = s.serial ∧ (State.pullAnswered s p ack).free = s.free ∧ (State.pullAnswered s p ack).pending = s.pending := by
  unfold State.pullAnswered; (repeat' (first | split | dsimp only)) <;> simp
@[simp] theorem State.pullAnswered_power (s : State) (p : PullRecord) (ack : StationMap) : (State.pullAnswered s p ack).power = s.power :=
  (State.pullAnswered_frame s p ack).1
@[simp] theorem State.pullAnswered_port (s : State) (p : PullRecord) (ack : StationMap) : (State.pullAnswered s p ack).port = s.port :=
  (State.pullAnswered_frame s p ack).2.1
@[simp] theorem State.pullAnswered_ctl (s : State) (p : PullRecord) (ack : StationMap) : (State.pullAnswered s p ack).ctl = s.ctl :=
  (State.pullAnswered_frame s p ack).2.2.1
@[simp] theorem State.pullAnswered_line (s : State) (p : PullRecord) (ack : StationMap) : (State.pullAnswered s p ack).line = s.line :=
  (State.pullAnswered_frame s p ack).2.2.2.1
@[simp] theorem State.pullAnswered_roster (s : State) (p : PullRecord) (ack : StationMap) : (State.pullAnswered s p ack).roster = s.roster :=
  (State.pullAnswered_frame s p ack).2.2.2.2.1
@[simp] theorem State.pullAnswered_out (s : State) (p : PullRecord) (ack : StationMap) : (State.pullAnswered s p ack).out = s.out :=
  (State.pullAnswered_frame s p ack).2.2.2.2.2.1
@[simp] theorem State.pullAnswered_applyQ (s : State) (p : PullRecord) (ack : StationMap) : (State.pullAnswered s p ack).applyQ = s.applyQ :=
  (State.pullAnswered_frame s p ack).2.2.2.2.2.2.1
@[simp] theorem State.pullAnswered_unsaved (s : State) (p : PullRecord) (ack : StationMap) : (State.pullAnswered s p ack).unsaved = s.unsaved :=
  (State.pullAnswered_frame s p ack).2.2.2.2.2.2.2.1
@[simp] theorem State.pullAnswered_serving (s : State) (p : PullRecord) (ack : StationMap) : (State.pullAnswered s p ack).serving = s.serving :=
  (State.pullAnswered_frame s p ack).2.2.2.2.2.2.2.2.1
@[simp] theorem State.pullAnswered_arb (s : State) (p : PullRecord) (ack : StationMap) : (State.pullAnswered s p ack).arb = s.arb :=
  (State.pullAnswered_frame s p ack).2.2.2.2.2.2.2.2.2.1
@[simp] theorem State.pullAnswered_serial (s : State) (p : PullRecord) (ack : StationMap) : (State.pullAnswered s p ack).serial = s.serial :=
  (State.pullAnswered_frame s p ack).2.2.2.2.2.2.2.2.2.2.1
@[simp] theorem State.pullAnswered_free (s : State) (p : PullRecord) (ack : StationMap) : (State.pullAnswered s p ack).free = s.free :=
  (State.pullAnswered_frame s p ack).2.2.2.2.2.2.2.2.2.2.2.1
@[simp] theorem State.pullAnswered_pending (s : State) (p : PullRecord) (ack : StationMap) : (State.pullAnswered s p ack).pending = s.pending :=
  (State.pullAnswered_frame s p ack).2.2.2.2.2.2.2.2.2.2.2.2

/-- Fields that `ownPullEnd` keeps. -/
theorem State.ownPullEnd_frame (s : State) (ack : StationMap) :
    (State.ownPullEnd s ack).power = s.power ∧ (State.ownPullEnd s ack).port = s.port ∧ (State.ownPullEnd s ack).ctl = s.ctl ∧ (State.ownPullEnd s ack).roster = s.roster ∧ (State.ownPullEnd s ack).applyQ = s.applyQ ∧ (State.ownPullEnd s ack).unsaved = s.unsaved ∧ (State.ownPullEnd s ack).serving = s.serving ∧ (State.ownPullEnd s ack).arb = s.arb ∧ (State.ownPullEnd s ack).serial = s.serial ∧ (State.ownPullEnd s ack).free = s.free ∧ (State.ownPullEnd s ack).pending = s.pending := by
  unfold State.ownPullEnd; (repeat' (first | split | dsimp only)) <;> simp
@[simp] theorem State.ownPullEnd_power (s : State) (ack : StationMap) : (State.ownPullEnd s ack).power = s.power :=
  (State.ownPullEnd_frame s ack).1
@[simp] theorem State.ownPullEnd_port (s : State) (ack : StationMap) : (State.ownPullEnd s ack).port = s.port :=
  (State.ownPullEnd_frame s ack).2.1
@[simp] theorem State.ownPullEnd_ctl (s : State) (ack : StationMap) : (State.ownPullEnd s ack).ctl = s.ctl :=
  (State.ownPullEnd_frame s ack).2.2.1
@[simp] theorem State.ownPullEnd_roster (s : State) (ack : StationMap) : (State.ownPullEnd s ack).roster = s.roster :=
  (State.ownPullEnd_frame s ack).2.2.2.1
@[simp] theorem State.ownPullEnd_applyQ (s : State) (ack : StationMap) : (State.ownPullEnd s ack).applyQ = s.applyQ :=
  (State.ownPullEnd_frame s ack).2.2.2.2.1
@[simp] theorem State.ownPullEnd_unsaved (s : State) (ack : StationMap) : (State.ownPullEnd s ack).unsaved = s.unsaved :=
  (State.ownPullEnd_frame s ack).2.2.2.2.2.1
@[simp] theorem State.ownPullEnd_serving (s : State) (ack : StationMap) : (State.ownPullEnd s ack).serving = s.serving :=
  (State.ownPullEnd_frame s ack).2.2.2.2.2.2.1
@[simp] theorem State.ownPullEnd_arb (s : State) (ack : StationMap) : (State.ownPullEnd s ack).arb = s.arb :=
  (State.ownPullEnd_frame s ack).2.2.2.2.2.2.2.1
@[simp] theorem State.ownPullEnd_serial (s : State) (ack : StationMap) : (State.ownPullEnd s ack).serial = s.serial :=
  (State.ownPullEnd_frame s ack).2.2.2.2.2.2.2.2.1
@[simp] theorem State.ownPullEnd_free (s : State) (ack : StationMap) : (State.ownPullEnd s ack).free = s.free :=
  (State.ownPullEnd_frame s ack).2.2.2.2.2.2.2.2.2.1
@[simp] theorem State.ownPullEnd_pending (s : State) (ack : StationMap) : (State.ownPullEnd s ack).pending = s.pending :=
  (State.ownPullEnd_frame s ack).2.2.2.2.2.2.2.2.2.2

/-- Fields that `settledShort` keeps. -/
theorem State.settledShort_frame (s : State) (r : Region) (u : UpdateEntry) (missing : StationMap) :
    (State.settledShort s r u missing).power = s.power ∧ (State.settledShort s r u missing).nv = s.nv ∧ (State.settledShort s r u missing).port = s.port ∧ (State.settledShort s r u missing).ctl = s.ctl ∧ (State.settledShort s r u missing).line = s.line ∧ (State.settledShort s r u missing).roster = s.roster ∧ (State.settledShort s r u missing).table = s.table ∧ (State.settledShort s r u missing).applyQ = s.applyQ ∧ (State.settledShort s r u missing).unsaved = s.unsaved ∧ (State.settledShort s r u missing).catchup = s.catchup ∧ (State.settledShort s r u missing).serving = s.serving ∧ (State.settledShort s r u missing).arb = s.arb ∧ (State.settledShort s r u missing).serial = s.serial ∧ (State.settledShort s r u missing).free = s.free ∧ (State.settledShort s r u missing).pending = s.pending := by
  unfold State.settledShort; (repeat' (first | split | dsimp only)) <;> simp
@[simp] theorem State.settledShort_power (s : State) (r : Region) (u : UpdateEntry) (missing : StationMap) : (State.settledShort s r u missing).power = s.power :=
  (State.settledShort_frame s r u missing).1
@[simp] theorem State.settledShort_nv (s : State) (r : Region) (u : UpdateEntry) (missing : StationMap) : (State.settledShort s r u missing).nv = s.nv :=
  (State.settledShort_frame s r u missing).2.1
@[simp] theorem State.settledShort_port (s : State) (r : Region) (u : UpdateEntry) (missing : StationMap) : (State.settledShort s r u missing).port = s.port :=
  (State.settledShort_frame s r u missing).2.2.1
@[simp] theorem State.settledShort_ctl (s : State) (r : Region) (u : UpdateEntry) (missing : StationMap) : (State.settledShort s r u missing).ctl = s.ctl :=
  (State.settledShort_frame s r u missing).2.2.2.1
@[simp] theorem State.settledShort_line (s : State) (r : Region) (u : UpdateEntry) (missing : StationMap) : (State.settledShort s r u missing).line = s.line :=
  (State.settledShort_frame s r u missing).2.2.2.2.1
@[simp] theorem State.settledShort_roster (s : State) (r : Region) (u : UpdateEntry) (missing : StationMap) : (State.settledShort s r u missing).roster = s.roster :=
  (State.settledShort_frame s r u missing).2.2.2.2.2.1
@[simp] theorem State.settledShort_table (s : State) (r : Region) (u : UpdateEntry) (missing : StationMap) : (State.settledShort s r u missing).table = s.table :=
  (State.settledShort_frame s r u missing).2.2.2.2.2.2.1
@[simp] theorem State.settledShort_applyQ (s : State) (r : Region) (u : UpdateEntry) (missing : StationMap) : (State.settledShort s r u missing).applyQ = s.applyQ :=
  (State.settledShort_frame s r u missing).2.2.2.2.2.2.2.1
@[simp] theorem State.settledShort_unsaved (s : State) (r : Region) (u : UpdateEntry) (missing : StationMap) : (State.settledShort s r u missing).unsaved = s.unsaved :=
  (State.settledShort_frame s r u missing).2.2.2.2.2.2.2.2.1
@[simp] theorem State.settledShort_catchup (s : State) (r : Region) (u : UpdateEntry) (missing : StationMap) : (State.settledShort s r u missing).catchup = s.catchup :=
  (State.settledShort_frame s r u missing).2.2.2.2.2.2.2.2.2.1
@[simp] theorem State.settledShort_serving (s : State) (r : Region) (u : UpdateEntry) (missing : StationMap) : (State.settledShort s r u missing).serving = s.serving :=
  (State.settledShort_frame s r u missing).2.2.2.2.2.2.2.2.2.2.1
@[simp] theorem State.settledShort_arb (s : State) (r : Region) (u : UpdateEntry) (missing : StationMap) : (State.settledShort s r u missing).arb = s.arb :=
  (State.settledShort_frame s r u missing).2.2.2.2.2.2.2.2.2.2.2.1
@[simp] theorem State.settledShort_serial (s : State) (r : Region) (u : UpdateEntry) (missing : StationMap) : (State.settledShort s r u missing).serial = s.serial :=
  (State.settledShort_frame s r u missing).2.2.2.2.2.2.2.2.2.2.2.2.1
@[simp] theorem State.settledShort_free (s : State) (r : Region) (u : UpdateEntry) (missing : StationMap) : (State.settledShort s r u missing).free = s.free :=
  (State.settledShort_frame s r u missing).2.2.2.2.2.2.2.2.2.2.2.2.2.1
@[simp] theorem State.settledShort_pending (s : State) (r : Region) (u : UpdateEntry) (missing : StationMap) : (State.settledShort s r u missing).pending = s.pending :=
  (State.settledShort_frame s r u missing).2.2.2.2.2.2.2.2.2.2.2.2.2.2

/-- Fields that `retryUpdate` keeps. -/
theorem State.retryUpdate_frame (s : State) :
    (State.retryUpdate s).power = s.power ∧ (State.retryUpdate s).nv = s.nv ∧ (State.retryUpdate s).port = s.port ∧ (State.retryUpdate s).events = s.events ∧ (State.retryUpdate s).ctl = s.ctl ∧ (State.retryUpdate s).line = s.line ∧ (State.retryUpdate s).roster = s.roster ∧ (State.retryUpdate s).table = s.table ∧ (State.retryUpdate s).applyQ = s.applyQ ∧ (State.retryUpdate s).unsaved = s.unsaved ∧ (State.retryUpdate s).catchup = s.catchup ∧ (State.retryUpdate s).serving = s.serving ∧ (State.retryUpdate s).arb = s.arb ∧ (State.retryUpdate s).serial = s.serial ∧ (State.retryUpdate s).free = s.free ∧ (State.retryUpdate s).pending = s.pending := by
  unfold State.retryUpdate; (repeat' (first | split | dsimp only)) <;> simp
@[simp] theorem State.retryUpdate_power (s : State) : (State.retryUpdate s).power = s.power :=
  (State.retryUpdate_frame s).1
@[simp] theorem State.retryUpdate_nv (s : State) : (State.retryUpdate s).nv = s.nv :=
  (State.retryUpdate_frame s).2.1
@[simp] theorem State.retryUpdate_port (s : State) : (State.retryUpdate s).port = s.port :=
  (State.retryUpdate_frame s).2.2.1
@[simp] theorem State.retryUpdate_events (s : State) : (State.retryUpdate s).events = s.events :=
  (State.retryUpdate_frame s).2.2.2.1
@[simp] theorem State.retryUpdate_ctl (s : State) : (State.retryUpdate s).ctl = s.ctl :=
  (State.retryUpdate_frame s).2.2.2.2.1
@[simp] theorem State.retryUpdate_line (s : State) : (State.retryUpdate s).line = s.line :=
  (State.retryUpdate_frame s).2.2.2.2.2.1
@[simp] theorem State.retryUpdate_roster (s : State) : (State.retryUpdate s).roster = s.roster :=
  (State.retryUpdate_frame s).2.2.2.2.2.2.1
@[simp] theorem State.retryUpdate_table (s : State) : (State.retryUpdate s).table = s.table :=
  (State.retryUpdate_frame s).2.2.2.2.2.2.2.1
@[simp] theorem State.retryUpdate_applyQ (s : State) : (State.retryUpdate s).applyQ = s.applyQ :=
  (State.retryUpdate_frame s).2.2.2.2.2.2.2.2.1
@[simp] theorem State.retryUpdate_unsaved (s : State) : (State.retryUpdate s).unsaved = s.unsaved :=
  (State.retryUpdate_frame s).2.2.2.2.2.2.2.2.2.1
@[simp] theorem State.retryUpdate_catchup (s : State) : (State.retryUpdate s).catchup = s.catchup :=
  (State.retryUpdate_frame s).2.2.2.2.2.2.2.2.2.2.1
@[simp] theorem State.retryUpdate_serving (s : State) : (State.retryUpdate s).serving = s.serving :=
  (State.retryUpdate_frame s).2.2.2.2.2.2.2.2.2.2.2.1
@[simp] theorem State.retryUpdate_arb (s : State) : (State.retryUpdate s).arb = s.arb :=
  (State.retryUpdate_frame s).2.2.2.2.2.2.2.2.2.2.2.2.1
@[simp] theorem State.retryUpdate_serial (s : State) : (State.retryUpdate s).serial = s.serial :=
  (State.retryUpdate_frame s).2.2.2.2.2.2.2.2.2.2.2.2.2.1
@[simp] theorem State.retryUpdate_free (s : State) : (State.retryUpdate s).free = s.free :=
  (State.retryUpdate_frame s).2.2.2.2.2.2.2.2.2.2.2.2.2.2.1
@[simp] theorem State.retryUpdate_pending (s : State) : (State.retryUpdate s).pending = s.pending :=
  (State.retryUpdate_frame s).2.2.2.2.2.2.2.2.2.2.2.2.2.2.2

/-- Fields that `settleUpdate` keeps. -/
theorem State.settleUpdate_frame (s : State) (r : Region) (u : UpdateEntry) (doom : Doom) (missing : StationMap) :
    (State.settleUpdate s r u doom missing).power = s.power ∧ (State.settleUpdate s r u doom missing).nv = s.nv ∧ (State.settleUpdate s r u doom missing).port = s.port ∧ (State.settleUpdate s r u doom missing).line = s.line ∧ (State.settleUpdate s r u doom missing).roster = s.roster ∧ (State.settleUpdate s r u doom missing).table = s.table ∧ (State.settleUpdate s r u doom missing).applyQ = s.applyQ ∧ (State.settleUpdate s r u doom missing).unsaved = s.unsaved ∧ (State.settleUpdate s r u doom missing).catchup = s.catchup ∧ (State.settleUpdate s r u doom missing).serving = s.serving ∧ (State.settleUpdate s r u doom missing).arb = s.arb ∧ (State.settleUpdate s r u doom missing).serial = s.serial ∧ (State.settleUpdate s r u doom missing).free = s.free ∧ (State.settleUpdate s r u doom missing).pending = s.pending := by
  unfold State.settleUpdate; (repeat' (first | split | dsimp only)) <;> simp
@[simp] theorem State.settleUpdate_power (s : State) (r : Region) (u : UpdateEntry) (doom : Doom) (missing : StationMap) : (State.settleUpdate s r u doom missing).power = s.power :=
  (State.settleUpdate_frame s r u doom missing).1
@[simp] theorem State.settleUpdate_nv (s : State) (r : Region) (u : UpdateEntry) (doom : Doom) (missing : StationMap) : (State.settleUpdate s r u doom missing).nv = s.nv :=
  (State.settleUpdate_frame s r u doom missing).2.1
@[simp] theorem State.settleUpdate_port (s : State) (r : Region) (u : UpdateEntry) (doom : Doom) (missing : StationMap) : (State.settleUpdate s r u doom missing).port = s.port :=
  (State.settleUpdate_frame s r u doom missing).2.2.1
@[simp] theorem State.settleUpdate_line (s : State) (r : Region) (u : UpdateEntry) (doom : Doom) (missing : StationMap) : (State.settleUpdate s r u doom missing).line = s.line :=
  (State.settleUpdate_frame s r u doom missing).2.2.2.1
@[simp] theorem State.settleUpdate_roster (s : State) (r : Region) (u : UpdateEntry) (doom : Doom) (missing : StationMap) : (State.settleUpdate s r u doom missing).roster = s.roster :=
  (State.settleUpdate_frame s r u doom missing).2.2.2.2.1
@[simp] theorem State.settleUpdate_table (s : State) (r : Region) (u : UpdateEntry) (doom : Doom) (missing : StationMap) : (State.settleUpdate s r u doom missing).table = s.table :=
  (State.settleUpdate_frame s r u doom missing).2.2.2.2.2.1
@[simp] theorem State.settleUpdate_applyQ (s : State) (r : Region) (u : UpdateEntry) (doom : Doom) (missing : StationMap) : (State.settleUpdate s r u doom missing).applyQ = s.applyQ :=
  (State.settleUpdate_frame s r u doom missing).2.2.2.2.2.2.1
@[simp] theorem State.settleUpdate_unsaved (s : State) (r : Region) (u : UpdateEntry) (doom : Doom) (missing : StationMap) : (State.settleUpdate s r u doom missing).unsaved = s.unsaved :=
  (State.settleUpdate_frame s r u doom missing).2.2.2.2.2.2.2.1
@[simp] theorem State.settleUpdate_catchup (s : State) (r : Region) (u : UpdateEntry) (doom : Doom) (missing : StationMap) : (State.settleUpdate s r u doom missing).catchup = s.catchup :=
  (State.settleUpdate_frame s r u doom missing).2.2.2.2.2.2.2.2.1
@[simp] theorem State.settleUpdate_serving (s : State) (r : Region) (u : UpdateEntry) (doom : Doom) (missing : StationMap) : (State.settleUpdate s r u doom missing).serving = s.serving :=
  (State.settleUpdate_frame s r u doom missing).2.2.2.2.2.2.2.2.2.1
@[simp] theorem State.settleUpdate_arb (s : State) (r : Region) (u : UpdateEntry) (doom : Doom) (missing : StationMap) : (State.settleUpdate s r u doom missing).arb = s.arb :=
  (State.settleUpdate_frame s r u doom missing).2.2.2.2.2.2.2.2.2.2.1
@[simp] theorem State.settleUpdate_serial (s : State) (r : Region) (u : UpdateEntry) (doom : Doom) (missing : StationMap) : (State.settleUpdate s r u doom missing).serial = s.serial :=
  (State.settleUpdate_frame s r u doom missing).2.2.2.2.2.2.2.2.2.2.2.1
@[simp] theorem State.settleUpdate_free (s : State) (r : Region) (u : UpdateEntry) (doom : Doom) (missing : StationMap) : (State.settleUpdate s r u doom missing).free = s.free :=
  (State.settleUpdate_frame s r u doom missing).2.2.2.2.2.2.2.2.2.2.2.2.1
@[simp] theorem State.settleUpdate_pending (s : State) (r : Region) (u : UpdateEntry) (doom : Doom) (missing : StationMap) : (State.settleUpdate s r u doom missing).pending = s.pending :=
  (State.settleUpdate_frame s r u doom missing).2.2.2.2.2.2.2.2.2.2.2.2.2

/-- Fields that `ownUpdateEnd` keeps. -/
theorem State.ownUpdateEnd_frame (s : State) (ack : StationMap) :
    (State.ownUpdateEnd s ack).power = s.power ∧ (State.ownUpdateEnd s ack).nv = s.nv ∧ (State.ownUpdateEnd s ack).port = s.port ∧ (State.ownUpdateEnd s ack).roster = s.roster ∧ (State.ownUpdateEnd s ack).table = s.table ∧ (State.ownUpdateEnd s ack).applyQ = s.applyQ ∧ (State.ownUpdateEnd s ack).unsaved = s.unsaved ∧ (State.ownUpdateEnd s ack).catchup = s.catchup ∧ (State.ownUpdateEnd s ack).serving = s.serving ∧ (State.ownUpdateEnd s ack).arb = s.arb ∧ (State.ownUpdateEnd s ack).serial = s.serial ∧ (State.ownUpdateEnd s ack).free = s.free ∧ (State.ownUpdateEnd s ack).pending = s.pending := by
  unfold State.ownUpdateEnd; (repeat' (first | split | dsimp only)) <;> simp
@[simp] theorem State.ownUpdateEnd_power (s : State) (ack : StationMap) : (State.ownUpdateEnd s ack).power = s.power :=
  (State.ownUpdateEnd_frame s ack).1
@[simp] theorem State.ownUpdateEnd_nv (s : State) (ack : StationMap) : (State.ownUpdateEnd s ack).nv = s.nv :=
  (State.ownUpdateEnd_frame s ack).2.1
@[simp] theorem State.ownUpdateEnd_port (s : State) (ack : StationMap) : (State.ownUpdateEnd s ack).port = s.port :=
  (State.ownUpdateEnd_frame s ack).2.2.1
@[simp] theorem State.ownUpdateEnd_roster (s : State) (ack : StationMap) : (State.ownUpdateEnd s ack).roster = s.roster :=
  (State.ownUpdateEnd_frame s ack).2.2.2.1
@[simp] theorem State.ownUpdateEnd_table (s : State) (ack : StationMap) : (State.ownUpdateEnd s ack).table = s.table :=
  (State.ownUpdateEnd_frame s ack).2.2.2.2.1
@[simp] theorem State.ownUpdateEnd_applyQ (s : State) (ack : StationMap) : (State.ownUpdateEnd s ack).applyQ = s.applyQ :=
  (State.ownUpdateEnd_frame s ack).2.2.2.2.2.1
@[simp] theorem State.ownUpdateEnd_unsaved (s : State) (ack : StationMap) : (State.ownUpdateEnd s ack).unsaved = s.unsaved :=
  (State.ownUpdateEnd_frame s ack).2.2.2.2.2.2.1
@[simp] theorem State.ownUpdateEnd_catchup (s : State) (ack : StationMap) : (State.ownUpdateEnd s ack).catchup = s.catchup :=
  (State.ownUpdateEnd_frame s ack).2.2.2.2.2.2.2.1
@[simp] theorem State.ownUpdateEnd_serving (s : State) (ack : StationMap) : (State.ownUpdateEnd s ack).serving = s.serving :=
  (State.ownUpdateEnd_frame s ack).2.2.2.2.2.2.2.2.1
@[simp] theorem State.ownUpdateEnd_arb (s : State) (ack : StationMap) : (State.ownUpdateEnd s ack).arb = s.arb :=
  (State.ownUpdateEnd_frame s ack).2.2.2.2.2.2.2.2.2.1
@[simp] theorem State.ownUpdateEnd_serial (s : State) (ack : StationMap) : (State.ownUpdateEnd s ack).serial = s.serial :=
  (State.ownUpdateEnd_frame s ack).2.2.2.2.2.2.2.2.2.2.1
@[simp] theorem State.ownUpdateEnd_free (s : State) (ack : StationMap) : (State.ownUpdateEnd s ack).free = s.free :=
  (State.ownUpdateEnd_frame s ack).2.2.2.2.2.2.2.2.2.2.2.1
@[simp] theorem State.ownUpdateEnd_pending (s : State) (ack : StationMap) : (State.ownUpdateEnd s ack).pending = s.pending :=
  (State.ownUpdateEnd_frame s ack).2.2.2.2.2.2.2.2.2.2.2.2

/-- Fields that `imageAcked` keeps. -/
theorem State.imageAcked_frame (s : State) (v : ServingRecord) (i : ImageEntry) (ack : StationMap) :
    (State.imageAcked s v i ack).power = s.power ∧ (State.imageAcked s v i ack).port = s.port ∧ (State.imageAcked s v i ack).line = s.line ∧ (State.imageAcked s v i ack).roster = s.roster ∧ (State.imageAcked s v i ack).applyQ = s.applyQ ∧ (State.imageAcked s v i ack).unsaved = s.unsaved ∧ (State.imageAcked s v i ack).catchup = s.catchup ∧ (State.imageAcked s v i ack).serial = s.serial ∧ (State.imageAcked s v i ack).free = s.free ∧ (State.imageAcked s v i ack).pending = s.pending := by
  unfold State.imageAcked; (repeat' (first | split | dsimp only)) <;> simp
@[simp] theorem State.imageAcked_power (s : State) (v : ServingRecord) (i : ImageEntry) (ack : StationMap) : (State.imageAcked s v i ack).power = s.power :=
  (State.imageAcked_frame s v i ack).1
@[simp] theorem State.imageAcked_port (s : State) (v : ServingRecord) (i : ImageEntry) (ack : StationMap) : (State.imageAcked s v i ack).port = s.port :=
  (State.imageAcked_frame s v i ack).2.1
@[simp] theorem State.imageAcked_line (s : State) (v : ServingRecord) (i : ImageEntry) (ack : StationMap) : (State.imageAcked s v i ack).line = s.line :=
  (State.imageAcked_frame s v i ack).2.2.1
@[simp] theorem State.imageAcked_roster (s : State) (v : ServingRecord) (i : ImageEntry) (ack : StationMap) : (State.imageAcked s v i ack).roster = s.roster :=
  (State.imageAcked_frame s v i ack).2.2.2.1
@[simp] theorem State.imageAcked_applyQ (s : State) (v : ServingRecord) (i : ImageEntry) (ack : StationMap) : (State.imageAcked s v i ack).applyQ = s.applyQ :=
  (State.imageAcked_frame s v i ack).2.2.2.2.1
@[simp] theorem State.imageAcked_unsaved (s : State) (v : ServingRecord) (i : ImageEntry) (ack : StationMap) : (State.imageAcked s v i ack).unsaved = s.unsaved :=
  (State.imageAcked_frame s v i ack).2.2.2.2.2.1
@[simp] theorem State.imageAcked_catchup (s : State) (v : ServingRecord) (i : ImageEntry) (ack : StationMap) : (State.imageAcked s v i ack).catchup = s.catchup :=
  (State.imageAcked_frame s v i ack).2.2.2.2.2.2.1
@[simp] theorem State.imageAcked_serial (s : State) (v : ServingRecord) (i : ImageEntry) (ack : StationMap) : (State.imageAcked s v i ack).serial = s.serial :=
  (State.imageAcked_frame s v i ack).2.2.2.2.2.2.2.1
@[simp] theorem State.imageAcked_free (s : State) (v : ServingRecord) (i : ImageEntry) (ack : StationMap) : (State.imageAcked s v i ack).free = s.free :=
  (State.imageAcked_frame s v i ack).2.2.2.2.2.2.2.2.1
@[simp] theorem State.imageAcked_pending (s : State) (v : ServingRecord) (i : ImageEntry) (ack : StationMap) : (State.imageAcked s v i ack).pending = s.pending :=
  (State.imageAcked_frame s v i ack).2.2.2.2.2.2.2.2.2

/-- Fields that `ownImageEnd` keeps. -/
theorem State.ownImageEnd_frame (s : State) (ack : StationMap) :
    (State.ownImageEnd s ack).power = s.power ∧ (State.ownImageEnd s ack).port = s.port ∧ (State.ownImageEnd s ack).roster = s.roster ∧ (State.ownImageEnd s ack).applyQ = s.applyQ ∧ (State.ownImageEnd s ack).unsaved = s.unsaved ∧ (State.ownImageEnd s ack).catchup = s.catchup ∧ (State.ownImageEnd s ack).serial = s.serial ∧ (State.ownImageEnd s ack).free = s.free ∧ (State.ownImageEnd s ack).pending = s.pending := by
  unfold State.ownImageEnd; (repeat' (first | split | dsimp only)) <;> simp
@[simp] theorem State.ownImageEnd_power (s : State) (ack : StationMap) : (State.ownImageEnd s ack).power = s.power :=
  (State.ownImageEnd_frame s ack).1
@[simp] theorem State.ownImageEnd_port (s : State) (ack : StationMap) : (State.ownImageEnd s ack).port = s.port :=
  (State.ownImageEnd_frame s ack).2.1
@[simp] theorem State.ownImageEnd_roster (s : State) (ack : StationMap) : (State.ownImageEnd s ack).roster = s.roster :=
  (State.ownImageEnd_frame s ack).2.2.1
@[simp] theorem State.ownImageEnd_applyQ (s : State) (ack : StationMap) : (State.ownImageEnd s ack).applyQ = s.applyQ :=
  (State.ownImageEnd_frame s ack).2.2.2.1
@[simp] theorem State.ownImageEnd_unsaved (s : State) (ack : StationMap) : (State.ownImageEnd s ack).unsaved = s.unsaved :=
  (State.ownImageEnd_frame s ack).2.2.2.2.1
@[simp] theorem State.ownImageEnd_catchup (s : State) (ack : StationMap) : (State.ownImageEnd s ack).catchup = s.catchup :=
  (State.ownImageEnd_frame s ack).2.2.2.2.2.1
@[simp] theorem State.ownImageEnd_serial (s : State) (ack : StationMap) : (State.ownImageEnd s ack).serial = s.serial :=
  (State.ownImageEnd_frame s ack).2.2.2.2.2.2.1
@[simp] theorem State.ownImageEnd_free (s : State) (ack : StationMap) : (State.ownImageEnd s ack).free = s.free :=
  (State.ownImageEnd_frame s ack).2.2.2.2.2.2.2.1
@[simp] theorem State.ownImageEnd_pending (s : State) (ack : StationMap) : (State.ownImageEnd s ack).pending = s.pending :=
  (State.ownImageEnd_frame s ack).2.2.2.2.2.2.2.2

end Sys2Proof.Machine
end

