-- ==== Sys2Proof/Laws/TimersFrame.lean ====
section
/-! SUPPORT. What each operation of Machine/Timers.lean leaves as it is, field by field. -/

namespace Sys2Proof.Machine

/-- Fields that `silence` keeps. -/
theorem State.silence_frame (s : State) (n : Station) :
    (State.silence s n).power = s.power ∧ (State.silence s n).port = s.port ∧ (State.silence s n).line = s.line ∧ (State.silence s n).applyQ = s.applyQ ∧ (State.silence s n).unsaved = s.unsaved ∧ (State.silence s n).free = s.free ∧ (State.silence s n).pending = s.pending := by
  unfold State.silence; (repeat' (first | split | dsimp only)) <;> simp
@[simp] theorem State.silence_power (s : State) (n : Station) : (State.silence s n).power = s.power :=
  (State.silence_frame s n).1
@[simp] theorem State.silence_port (s : State) (n : Station) : (State.silence s n).port = s.port :=
  (State.silence_frame s n).2.1
@[simp] theorem State.silence_line (s : State) (n : Station) : (State.silence s n).line = s.line :=
  (State.silence_frame s n).2.2.1
@[simp] theorem State.silence_applyQ (s : State) (n : Station) : (State.silence s n).applyQ = s.applyQ :=
  (State.silence_frame s n).2.2.2.1
@[simp] theorem State.silence_unsaved (s : State) (n : Station) : (State.silence s n).unsaved = s.unsaved :=
  (State.silence_frame s n).2.2.2.2.1
@[simp] theorem State.silence_free (s : State) (n : Station) : (State.silence s n).free = s.free :=
  (State.silence_frame s n).2.2.2.2.2.1
@[simp] theorem State.silence_pending (s : State) (n : Station) : (State.silence s n).pending = s.pending :=
  (State.silence_frame s n).2.2.2.2.2.2

/-- Fields that `fallSilent` keeps. -/
theorem State.fallSilent_frame (s : State) (n : Station) :
    (State.fallSilent s n).power = s.power ∧ (State.fallSilent s n).port = s.port ∧ (State.fallSilent s n).line = s.line ∧ (State.fallSilent s n).applyQ = s.applyQ ∧ (State.fallSilent s n).unsaved = s.unsaved ∧ (State.fallSilent s n).free = s.free ∧ (State.fallSilent s n).pending = s.pending := by
  unfold State.fallSilent; (repeat' (first | split | dsimp only)) <;> simp
@[simp] theorem State.fallSilent_power (s : State) (n : Station) : (State.fallSilent s n).power = s.power :=
  (State.fallSilent_frame s n).1
@[simp] theorem State.fallSilent_port (s : State) (n : Station) : (State.fallSilent s n).port = s.port :=
  (State.fallSilent_frame s n).2.1
@[simp] theorem State.fallSilent_line (s : State) (n : Station) : (State.fallSilent s n).line = s.line :=
  (State.fallSilent_frame s n).2.2.1
@[simp] theorem State.fallSilent_applyQ (s : State) (n : Station) : (State.fallSilent s n).applyQ = s.applyQ :=
  (State.fallSilent_frame s n).2.2.2.1
@[simp] theorem State.fallSilent_unsaved (s : State) (n : Station) : (State.fallSilent s n).unsaved = s.unsaved :=
  (State.fallSilent_frame s n).2.2.2.2.1
@[simp] theorem State.fallSilent_free (s : State) (n : Station) : (State.fallSilent s n).free = s.free :=
  (State.fallSilent_frame s n).2.2.2.2.2.1
@[simp] theorem State.fallSilent_pending (s : State) (n : Station) : (State.fallSilent s n).pending = s.pending :=
  (State.fallSilent_frame s n).2.2.2.2.2.2

/-- Fields that `fallAbsent` keeps. -/
theorem State.fallAbsent_frame (s : State) (n : Station) :
    (State.fallAbsent s n).power = s.power ∧ (State.fallAbsent s n).port = s.port ∧ (State.fallAbsent s n).line = s.line ∧ (State.fallAbsent s n).applyQ = s.applyQ ∧ (State.fallAbsent s n).unsaved = s.unsaved ∧ (State.fallAbsent s n).free = s.free ∧ (State.fallAbsent s n).pending = s.pending := by
  unfold State.fallAbsent; (repeat' (first | split | dsimp only)) <;> simp
@[simp] theorem State.fallAbsent_power (s : State) (n : Station) : (State.fallAbsent s n).power = s.power :=
  (State.fallAbsent_frame s n).1
@[simp] theorem State.fallAbsent_port (s : State) (n : Station) : (State.fallAbsent s n).port = s.port :=
  (State.fallAbsent_frame s n).2.1
@[simp] theorem State.fallAbsent_line (s : State) (n : Station) : (State.fallAbsent s n).line = s.line :=
  (State.fallAbsent_frame s n).2.2.1
@[simp] theorem State.fallAbsent_applyQ (s : State) (n : Station) : (State.fallAbsent s n).applyQ = s.applyQ :=
  (State.fallAbsent_frame s n).2.2.2.1
@[simp] theorem State.fallAbsent_unsaved (s : State) (n : Station) : (State.fallAbsent s n).unsaved = s.unsaved :=
  (State.fallAbsent_frame s n).2.2.2.2.1
@[simp] theorem State.fallAbsent_free (s : State) (n : Station) : (State.fallAbsent s n).free = s.free :=
  (State.fallAbsent_frame s n).2.2.2.2.2.1
@[simp] theorem State.fallAbsent_pending (s : State) (n : Station) : (State.fallAbsent s n).pending = s.pending :=
  (State.fallAbsent_frame s n).2.2.2.2.2.2

/-- Fields that `joinComplete` keeps. -/
theorem State.joinComplete_frame (s : State) :
    (State.joinComplete s).power = s.power ∧ (State.joinComplete s).port = s.port ∧ (State.joinComplete s).line = s.line ∧ (State.joinComplete s).roster = s.roster ∧ (State.joinComplete s).applyQ = s.applyQ ∧ (State.joinComplete s).unsaved = s.unsaved ∧ (State.joinComplete s).serving = s.serving ∧ (State.joinComplete s).arb = s.arb ∧ (State.joinComplete s).serial = s.serial ∧ (State.joinComplete s).free = s.free ∧ (State.joinComplete s).pending = s.pending := by
  unfold State.joinComplete; (repeat' (first | split | dsimp only)) <;> simp
@[simp] theorem State.joinComplete_power (s : State) : (State.joinComplete s).power = s.power :=
  (State.joinComplete_frame s).1
@[simp] theorem State.joinComplete_port (s : State) : (State.joinComplete s).port = s.port :=
  (State.joinComplete_frame s).2.1
@[simp] theorem State.joinComplete_line (s : State) : (State.joinComplete s).line = s.line :=
  (State.joinComplete_frame s).2.2.1
@[simp] theorem State.joinComplete_roster (s : State) : (State.joinComplete s).roster = s.roster :=
  (State.joinComplete_frame s).2.2.2.1
@[simp] theorem State.joinComplete_applyQ (s : State) : (State.joinComplete s).applyQ = s.applyQ :=
  (State.joinComplete_frame s).2.2.2.2.1
@[simp] theorem State.joinComplete_unsaved (s : State) : (State.joinComplete s).unsaved = s.unsaved :=
  (State.joinComplete_frame s).2.2.2.2.2.1
@[simp] theorem State.joinComplete_serving (s : State) : (State.joinComplete s).serving = s.serving :=
  (State.joinComplete_frame s).2.2.2.2.2.2.1
@[simp] theorem State.joinComplete_arb (s : State) : (State.joinComplete s).arb = s.arb :=
  (State.joinComplete_frame s).2.2.2.2.2.2.2.1
@[simp] theorem State.joinComplete_serial (s : State) : (State.joinComplete s).serial = s.serial :=
  (State.joinComplete_frame s).2.2.2.2.2.2.2.2.1
@[simp] theorem State.joinComplete_free (s : State) : (State.joinComplete s).free = s.free :=
  (State.joinComplete_frame s).2.2.2.2.2.2.2.2.2.1
@[simp] theorem State.joinComplete_pending (s : State) : (State.joinComplete s).pending = s.pending :=
  (State.joinComplete_frame s).2.2.2.2.2.2.2.2.2.2

/-- Fields that `cut` keeps. -/
theorem State.cut_frame (s : State) :
    (State.cut s).power = s.power ∧ (State.cut s).nv = s.nv ∧ (State.cut s).port = s.port ∧ (State.cut s).line = s.line ∧ (State.cut s).roster = s.roster ∧ (State.cut s).table = s.table ∧ (State.cut s).applyQ = s.applyQ ∧ (State.cut s).unsaved = s.unsaved ∧ (State.cut s).catchup = s.catchup ∧ (State.cut s).serving = s.serving ∧ (State.cut s).arb = s.arb ∧ (State.cut s).serial = s.serial ∧ (State.cut s).free = s.free ∧ (State.cut s).pending = s.pending := by
  unfold State.cut; (repeat' (first | split | dsimp only)) <;> simp
@[simp] theorem State.cut_power (s : State) : (State.cut s).power = s.power :=
  (State.cut_frame s).1
@[simp] theorem State.cut_nv (s : State) : (State.cut s).nv = s.nv :=
  (State.cut_frame s).2.1
@[simp] theorem State.cut_port (s : State) : (State.cut s).port = s.port :=
  (State.cut_frame s).2.2.1
@[simp] theorem State.cut_line (s : State) : (State.cut s).line = s.line :=
  (State.cut_frame s).2.2.2.1
@[simp] theorem State.cut_roster (s : State) : (State.cut s).roster = s.roster :=
  (State.cut_frame s).2.2.2.2.1
@[simp] theorem State.cut_table (s : State) : (State.cut s).table = s.table :=
  (State.cut_frame s).2.2.2.2.2.1
@[simp] theorem State.cut_applyQ (s : State) : (State.cut s).applyQ = s.applyQ :=
  (State.cut_frame s).2.2.2.2.2.2.1
@[simp] theorem State.cut_unsaved (s : State) : (State.cut s).unsaved = s.unsaved :=
  (State.cut_frame s).2.2.2.2.2.2.2.1
@[simp] theorem State.cut_catchup (s : State) : (State.cut s).catchup = s.catchup :=
  (State.cut_frame s).2.2.2.2.2.2.2.2.1
@[simp] theorem State.cut_serving (s : State) : (State.cut s).serving = s.serving :=
  (State.cut_frame s).2.2.2.2.2.2.2.2.2.1
@[simp] theorem State.cut_arb (s : State) : (State.cut s).arb = s.arb :=
  (State.cut_frame s).2.2.2.2.2.2.2.2.2.2.1
@[simp] theorem State.cut_serial (s : State) : (State.cut s).serial = s.serial :=
  (State.cut_frame s).2.2.2.2.2.2.2.2.2.2.2.1
@[simp] theorem State.cut_free (s : State) : (State.cut s).free = s.free :=
  (State.cut_frame s).2.2.2.2.2.2.2.2.2.2.2.2.1
@[simp] theorem State.cut_pending (s : State) : (State.cut s).pending = s.pending :=
  (State.cut_frame s).2.2.2.2.2.2.2.2.2.2.2.2.2

/-- Fields that `answerExpired` keeps. -/
theorem State.answerExpired_frame (s : State) (p : PullRecord) :
    (State.answerExpired s p).power = s.power ∧ (State.answerExpired s p).port = s.port ∧ (State.answerExpired s p).line = s.line ∧ (State.answerExpired s p).roster = s.roster ∧ (State.answerExpired s p).applyQ = s.applyQ ∧ (State.answerExpired s p).unsaved = s.unsaved ∧ (State.answerExpired s p).serving = s.serving ∧ (State.answerExpired s p).arb = s.arb ∧ (State.answerExpired s p).serial = s.serial ∧ (State.answerExpired s p).free = s.free ∧ (State.answerExpired s p).pending = s.pending := by
  unfold State.answerExpired; (repeat' (first | split | dsimp only)) <;> simp
@[simp] theorem State.answerExpired_power (s : State) (p : PullRecord) : (State.answerExpired s p).power = s.power :=
  (State.answerExpired_frame s p).1
@[simp] theorem State.answerExpired_port (s : State) (p : PullRecord) : (State.answerExpired s p).port = s.port :=
  (State.answerExpired_frame s p).2.1
@[simp] theorem State.answerExpired_line (s : State) (p : PullRecord) : (State.answerExpired s p).line = s.line :=
  (State.answerExpired_frame s p).2.2.1
@[simp] theorem State.answerExpired_roster (s : State) (p : PullRecord) : (State.answerExpired s p).roster = s.roster :=
  (State.answerExpired_frame s p).2.2.2.1
@[simp] theorem State.answerExpired_applyQ (s : State) (p : PullRecord) : (State.answerExpired s p).applyQ = s.applyQ :=
  (State.answerExpired_frame s p).2.2.2.2.1
@[simp] theorem State.answerExpired_unsaved (s : State) (p : PullRecord) : (State.answerExpired s p).unsaved = s.unsaved :=
  (State.answerExpired_frame s p).2.2.2.2.2.1
@[simp] theorem State.answerExpired_serving (s : State) (p : PullRecord) : (State.answerExpired s p).serving = s.serving :=
  (State.answerExpired_frame s p).2.2.2.2.2.2.1
@[simp] theorem State.answerExpired_arb (s : State) (p : PullRecord) : (State.answerExpired s p).arb = s.arb :=
  (State.answerExpired_frame s p).2.2.2.2.2.2.2.1
@[simp] theorem State.answerExpired_serial (s : State) (p : PullRecord) : (State.answerExpired s p).serial = s.serial :=
  (State.answerExpired_frame s p).2.2.2.2.2.2.2.2.1
@[simp] theorem State.answerExpired_free (s : State) (p : PullRecord) : (State.answerExpired s p).free = s.free :=
  (State.answerExpired_frame s p).2.2.2.2.2.2.2.2.2.1
@[simp] theorem State.answerExpired_pending (s : State) (p : PullRecord) : (State.answerExpired s p).pending = s.pending :=
  (State.answerExpired_frame s p).2.2.2.2.2.2.2.2.2.2

/-- Fields that `advanceTimers` keeps. -/
theorem State.advanceTimers_frame (s : State) :
    (State.advanceTimers s).power = s.power ∧ (State.advanceTimers s).nv = s.nv ∧ (State.advanceTimers s).port = s.port ∧ (State.advanceTimers s).events = s.events ∧ (State.advanceTimers s).table = s.table ∧ (State.advanceTimers s).out = s.out ∧ (State.advanceTimers s).applyQ = s.applyQ ∧ (State.advanceTimers s).unsaved = s.unsaved ∧ (State.advanceTimers s).serving = s.serving ∧ (State.advanceTimers s).arb = s.arb ∧ (State.advanceTimers s).serial = s.serial ∧ (State.advanceTimers s).free = s.free ∧ (State.advanceTimers s).pending = s.pending := by
  exact ⟨rfl, rfl, rfl, rfl, rfl, rfl, rfl, rfl, rfl, rfl, rfl, rfl, rfl⟩
@[simp] theorem State.advanceTimers_power (s : State) : (State.advanceTimers s).power = s.power :=
  (State.advanceTimers_frame s).1
@[simp] theorem State.advanceTimers_nv (s : State) : (State.advanceTimers s).nv = s.nv :=
  (State.advanceTimers_frame s).2.1
@[simp] theorem State.advanceTimers_port (s : State) : (State.advanceTimers s).port = s.port :=
  (State.advanceTimers_frame s).2.2.1
@[simp] theorem State.advanceTimers_events (s : State) : (State.advanceTimers s).events = s.events :=
  (State.advanceTimers_frame s).2.2.2.1
@[simp] theorem State.advanceTimers_table (s : State) : (State.advanceTimers s).table = s.table :=
  (State.advanceTimers_frame s).2.2.2.2.1
@[simp] theorem State.advanceTimers_out (s : State) : (State.advanceTimers s).out = s.out :=
  (State.advanceTimers_frame s).2.2.2.2.2.1
@[simp] theorem State.advanceTimers_applyQ (s : State) : (State.advanceTimers s).applyQ = s.applyQ :=
  (State.advanceTimers_frame s).2.2.2.2.2.2.1
@[simp] theorem State.advanceTimers_unsaved (s : State) : (State.advanceTimers s).unsaved = s.unsaved :=
  (State.advanceTimers_frame s).2.2.2.2.2.2.2.1
@[simp] theorem State.advanceTimers_serving (s : State) : (State.advanceTimers s).serving = s.serving :=
  (State.advanceTimers_frame s).2.2.2.2.2.2.2.2.1
@[simp] theorem State.advanceTimers_arb (s : State) : (State.advanceTimers s).arb = s.arb :=
  (State.advanceTimers_frame s).2.2.2.2.2.2.2.2.2.1
@[simp] theorem State.advanceTimers_serial (s : State) : (State.advanceTimers s).serial = s.serial :=
  (State.advanceTimers_frame s).2.2.2.2.2.2.2.2.2.2.1
@[simp] theorem State.advanceTimers_free (s : State) : (State.advanceTimers s).free = s.free :=
  (State.advanceTimers_frame s).2.2.2.2.2.2.2.2.2.2.2.1
@[simp] theorem State.advanceTimers_pending (s : State) : (State.advanceTimers s).pending = s.pending :=
  (State.advanceTimers_frame s).2.2.2.2.2.2.2.2.2.2.2.2

/-- Fields that `tick` keeps. -/
theorem State.tick_frame (s : State) :
    (State.tick s).power = s.power ∧ (State.tick s).nv = s.nv ∧ (State.tick s).port = s.port ∧ (State.tick s).events = s.events ∧ (State.tick s).table = s.table ∧ (State.tick s).out = s.out ∧ (State.tick s).applyQ = s.applyQ ∧ (State.tick s).unsaved = s.unsaved ∧ (State.tick s).serving = s.serving ∧ (State.tick s).arb = s.arb ∧ (State.tick s).serial = s.serial ∧ (State.tick s).free = s.free := by
  unfold State.tick State.whenOn
  split <;> simp
@[simp] theorem State.tick_power (s : State) : (State.tick s).power = s.power :=
  (State.tick_frame s).1
@[simp] theorem State.tick_nv (s : State) : (State.tick s).nv = s.nv :=
  (State.tick_frame s).2.1
@[simp] theorem State.tick_port (s : State) : (State.tick s).port = s.port :=
  (State.tick_frame s).2.2.1
@[simp] theorem State.tick_events (s : State) : (State.tick s).events = s.events :=
  (State.tick_frame s).2.2.2.1
@[simp] theorem State.tick_table (s : State) : (State.tick s).table = s.table :=
  (State.tick_frame s).2.2.2.2.1
@[simp] theorem State.tick_out (s : State) : (State.tick s).out = s.out :=
  (State.tick_frame s).2.2.2.2.2.1
@[simp] theorem State.tick_applyQ (s : State) : (State.tick s).applyQ = s.applyQ :=
  (State.tick_frame s).2.2.2.2.2.2.1
@[simp] theorem State.tick_unsaved (s : State) : (State.tick s).unsaved = s.unsaved :=
  (State.tick_frame s).2.2.2.2.2.2.2.1
@[simp] theorem State.tick_serving (s : State) : (State.tick s).serving = s.serving :=
  (State.tick_frame s).2.2.2.2.2.2.2.2.1
@[simp] theorem State.tick_arb (s : State) : (State.tick s).arb = s.arb :=
  (State.tick_frame s).2.2.2.2.2.2.2.2.2.1
@[simp] theorem State.tick_serial (s : State) : (State.tick s).serial = s.serial :=
  (State.tick_frame s).2.2.2.2.2.2.2.2.2.2.1
@[simp] theorem State.tick_free (s : State) : (State.tick s).free = s.free :=
  (State.tick_frame s).2.2.2.2.2.2.2.2.2.2.2

end Sys2Proof.Machine
end

