-- ==== Sys2Proof/Laws/ResetsFrame.lean ====
section
/-! SUPPORT. What each operation of Machine/Resets.lean leaves as it is, field by field. -/

namespace Sys2Proof.Machine

/-- Fields that `cutWrite` keeps. -/
theorem State.cutWrite_frame (s : State) :
    (State.cutWrite s).power = s.power ∧ (State.cutWrite s).port = s.port ∧ (State.cutWrite s).events = s.events ∧ (State.cutWrite s).ctl = s.ctl ∧ (State.cutWrite s).line = s.line ∧ (State.cutWrite s).roster = s.roster ∧ (State.cutWrite s).table = s.table ∧ (State.cutWrite s).out = s.out ∧ (State.cutWrite s).applyQ = s.applyQ ∧ (State.cutWrite s).unsaved = s.unsaved ∧ (State.cutWrite s).catchup = s.catchup ∧ (State.cutWrite s).serving = s.serving ∧ (State.cutWrite s).arb = s.arb ∧ (State.cutWrite s).serial = s.serial ∧ (State.cutWrite s).pending = s.pending := by
  unfold State.cutWrite; (repeat' (first | split | dsimp only)) <;> simp
@[simp] theorem State.cutWrite_power (s : State) : (State.cutWrite s).power = s.power :=
  (State.cutWrite_frame s).1
@[simp] theorem State.cutWrite_port (s : State) : (State.cutWrite s).port = s.port :=
  (State.cutWrite_frame s).2.1
@[simp] theorem State.cutWrite_events (s : State) : (State.cutWrite s).events = s.events :=
  (State.cutWrite_frame s).2.2.1
@[simp] theorem State.cutWrite_ctl (s : State) : (State.cutWrite s).ctl = s.ctl :=
  (State.cutWrite_frame s).2.2.2.1
@[simp] theorem State.cutWrite_line (s : State) : (State.cutWrite s).line = s.line :=
  (State.cutWrite_frame s).2.2.2.2.1
@[simp] theorem State.cutWrite_roster (s : State) : (State.cutWrite s).roster = s.roster :=
  (State.cutWrite_frame s).2.2.2.2.2.1
@[simp] theorem State.cutWrite_table (s : State) : (State.cutWrite s).table = s.table :=
  (State.cutWrite_frame s).2.2.2.2.2.2.1
@[simp] theorem State.cutWrite_out (s : State) : (State.cutWrite s).out = s.out :=
  (State.cutWrite_frame s).2.2.2.2.2.2.2.1
@[simp] theorem State.cutWrite_applyQ (s : State) : (State.cutWrite s).applyQ = s.applyQ :=
  (State.cutWrite_frame s).2.2.2.2.2.2.2.2.1
@[simp] theorem State.cutWrite_unsaved (s : State) : (State.cutWrite s).unsaved = s.unsaved :=
  (State.cutWrite_frame s).2.2.2.2.2.2.2.2.2.1
@[simp] theorem State.cutWrite_catchup (s : State) : (State.cutWrite s).catchup = s.catchup :=
  (State.cutWrite_frame s).2.2.2.2.2.2.2.2.2.2.1
@[simp] theorem State.cutWrite_serving (s : State) : (State.cutWrite s).serving = s.serving :=
  (State.cutWrite_frame s).2.2.2.2.2.2.2.2.2.2.2.1
@[simp] theorem State.cutWrite_arb (s : State) : (State.cutWrite s).arb = s.arb :=
  (State.cutWrite_frame s).2.2.2.2.2.2.2.2.2.2.2.2.1
@[simp] theorem State.cutWrite_serial (s : State) : (State.cutWrite s).serial = s.serial :=
  (State.cutWrite_frame s).2.2.2.2.2.2.2.2.2.2.2.2.2.1
@[simp] theorem State.cutWrite_pending (s : State) : (State.cutWrite s).pending = s.pending :=
  (State.cutWrite_frame s).2.2.2.2.2.2.2.2.2.2.2.2.2.2

/-- Fields that `cutSetup` keeps. -/
theorem State.cutSetup_frame (s : State) :
    (State.cutSetup s).power = s.power ∧ (State.cutSetup s).port = s.port ∧ (State.cutSetup s).events = s.events ∧ (State.cutSetup s).ctl = s.ctl ∧ (State.cutSetup s).line = s.line ∧ (State.cutSetup s).roster = s.roster ∧ (State.cutSetup s).table = s.table ∧ (State.cutSetup s).out = s.out ∧ (State.cutSetup s).applyQ = s.applyQ ∧ (State.cutSetup s).unsaved = s.unsaved ∧ (State.cutSetup s).catchup = s.catchup ∧ (State.cutSetup s).serving = s.serving ∧ (State.cutSetup s).arb = s.arb ∧ (State.cutSetup s).serial = s.serial ∧ (State.cutSetup s).pending = s.pending := by
  unfold State.cutSetup; (repeat' (first | split | dsimp only)) <;> simp
@[simp] theorem State.cutSetup_power (s : State) : (State.cutSetup s).power = s.power :=
  (State.cutSetup_frame s).1
@[simp] theorem State.cutSetup_port (s : State) : (State.cutSetup s).port = s.port :=
  (State.cutSetup_frame s).2.1
@[simp] theorem State.cutSetup_events (s : State) : (State.cutSetup s).events = s.events :=
  (State.cutSetup_frame s).2.2.1
@[simp] theorem State.cutSetup_ctl (s : State) : (State.cutSetup s).ctl = s.ctl :=
  (State.cutSetup_frame s).2.2.2.1
@[simp] theorem State.cutSetup_line (s : State) : (State.cutSetup s).line = s.line :=
  (State.cutSetup_frame s).2.2.2.2.1
@[simp] theorem State.cutSetup_roster (s : State) : (State.cutSetup s).roster = s.roster :=
  (State.cutSetup_frame s).2.2.2.2.2.1
@[simp] theorem State.cutSetup_table (s : State) : (State.cutSetup s).table = s.table :=
  (State.cutSetup_frame s).2.2.2.2.2.2.1
@[simp] theorem State.cutSetup_out (s : State) : (State.cutSetup s).out = s.out :=
  (State.cutSetup_frame s).2.2.2.2.2.2.2.1
@[simp] theorem State.cutSetup_applyQ (s : State) : (State.cutSetup s).applyQ = s.applyQ :=
  (State.cutSetup_frame s).2.2.2.2.2.2.2.2.1
@[simp] theorem State.cutSetup_unsaved (s : State) : (State.cutSetup s).unsaved = s.unsaved :=
  (State.cutSetup_frame s).2.2.2.2.2.2.2.2.2.1
@[simp] theorem State.cutSetup_catchup (s : State) : (State.cutSetup s).catchup = s.catchup :=
  (State.cutSetup_frame s).2.2.2.2.2.2.2.2.2.2.1
@[simp] theorem State.cutSetup_serving (s : State) : (State.cutSetup s).serving = s.serving :=
  (State.cutSetup_frame s).2.2.2.2.2.2.2.2.2.2.2.1
@[simp] theorem State.cutSetup_arb (s : State) : (State.cutSetup s).arb = s.arb :=
  (State.cutSetup_frame s).2.2.2.2.2.2.2.2.2.2.2.2.1
@[simp] theorem State.cutSetup_serial (s : State) : (State.cutSetup s).serial = s.serial :=
  (State.cutSetup_frame s).2.2.2.2.2.2.2.2.2.2.2.2.2.1
@[simp] theorem State.cutSetup_pending (s : State) : (State.cutSetup s).pending = s.pending :=
  (State.cutSetup_frame s).2.2.2.2.2.2.2.2.2.2.2.2.2.2

/-- Fields that `losePower` keeps. -/
theorem State.losePower_frame (s : State) :
    (State.losePower s).pending = s.pending := by
  unfold State.losePower; (repeat' (first | split | dsimp only)) <;> simp
@[simp] theorem State.losePower_pending (s : State) : (State.losePower s).pending = s.pending :=
  (State.losePower_frame s)

/-- Fields that `assertReset` keeps. -/
theorem State.assertReset_frame (s : State) :
    (State.assertReset s).free = s.free ∧ (State.assertReset s).pending = s.pending := by
  unfold State.assertReset; (repeat' (first | split | dsimp only)) <;> simp
@[simp] theorem State.assertReset_free (s : State) : (State.assertReset s).free = s.free :=
  (State.assertReset_frame s).1
@[simp] theorem State.assertReset_pending (s : State) : (State.assertReset s).pending = s.pending :=
  (State.assertReset_frame s).2

/-- Fields that `releaseReset` keeps. -/
theorem State.releaseReset_frame (s : State) (straps : Straps) :
    (State.releaseReset s straps).free = s.free ∧ (State.releaseReset s straps).pending = s.pending := by
  unfold State.releaseReset; (repeat' (first | split | dsimp only)) <;> simp
@[simp] theorem State.releaseReset_free (s : State) (straps : Straps) : (State.releaseReset s straps).free = s.free :=
  (State.releaseReset_frame s straps).1
@[simp] theorem State.releaseReset_pending (s : State) (straps : Straps) : (State.releaseReset s straps).pending = s.pending :=
  (State.releaseReset_frame s straps).2

end Sys2Proof.Machine
end

