-- ==== Sys2Proof/Laws/OpsWithin.lean ====
section
/-! SUPPORT. What each operation of Machine/Ops.lean leaves as it is within the blocks it changes. -/

namespace Sys2Proof.Machine

/-- A change of a region entry that keeps its stamp keeps every copy stamp. -/
@[simp] theorem State.mapEntry_stamp (s : State) (r : Region) (q : Nat) (hq : q < 64) (f : RegionEntry → RegionEntry)
    (h : ∀ e, (f e).stamp = e.stamp) : (s.mapEntry r f).table[q].stamp = s.table[q].stamp := by
  simp only [State.mapEntry, State.setEntry, Vector.getElem_set]
  split
  · next h' => subst h'; simp [h]
  · rfl

/-- The cut counts entries and changes nothing else of the Station Controller. -/
theorem Controller.countCut_keeps (c : Controller) (cut : Bool) : c.countCut cut = { c with discarded := (c.countCut cut).discarded } := by
  unfold Controller.countCut; split <;> rfl

/-- Parts of its blocks that `setEntry` keeps. -/
theorem State.setEntry_within (s : State) (r : Region) (e : RegionEntry) :
    (State.setEntry s r e).nv.array = s.nv.array ∧ (State.setEntry s r e).nv.setup = s.nv.setup ∧ (State.setEntry s r e).nv.intent = s.nv.intent := by
  unfold State.setEntry; (repeat' (first | split | dsimp only)) <;> simp
@[simp] theorem State.setEntry_nv_array (s : State) (r : Region) (e : RegionEntry) : (State.setEntry s r e).nv.array = s.nv.array :=
  (State.setEntry_within s r e).1
@[simp] theorem State.setEntry_nv_setup (s : State) (r : Region) (e : RegionEntry) : (State.setEntry s r e).nv.setup = s.nv.setup :=
  (State.setEntry_within s r e).2.1
@[simp] theorem State.setEntry_nv_intent (s : State) (r : Region) (e : RegionEntry) : (State.setEntry s r e).nv.intent = s.nv.intent :=
  (State.setEntry_within s r e).2.2

/-- Parts of its blocks that `mapEntry` keeps. -/
theorem State.mapEntry_within (s : State) (r : Region) (f : RegionEntry → RegionEntry) :
    (State.mapEntry s r f).nv.array = s.nv.array ∧ (State.mapEntry s r f).nv.setup = s.nv.setup ∧ (State.mapEntry s r f).nv.intent = s.nv.intent := by
  unfold State.mapEntry; (repeat' (first | split | dsimp only)) <;> simp
@[simp] theorem State.mapEntry_nv_array (s : State) (r : Region) (f : RegionEntry → RegionEntry) : (State.mapEntry s r f).nv.array = s.nv.array :=
  (State.mapEntry_within s r f).1
@[simp] theorem State.mapEntry_nv_setup (s : State) (r : Region) (f : RegionEntry → RegionEntry) : (State.mapEntry s r f).nv.setup = s.nv.setup :=
  (State.mapEntry_within s r f).2.1
@[simp] theorem State.mapEntry_nv_intent (s : State) (r : Region) (f : RegionEntry → RegionEntry) : (State.mapEntry s r f).nv.intent = s.nv.intent :=
  (State.mapEntry_within s r f).2.2

/-- Parts of its blocks that `retain` keeps. -/
theorem State.retain_within (s : State) (r : Region) :
    (State.retain s r).nv.array = s.nv.array ∧ (State.retain s r).nv.setup = s.nv.setup ∧ (State.retain s r).nv.intent = s.nv.intent ∧ (∀ (q : Nat) (hq : q < 64), (State.retain s r).table[q].stamp = s.table[q].stamp) := by
  unfold State.retain; (repeat' (first | split | dsimp only)) <;> simp
@[simp] theorem State.retain_nv_array (s : State) (r : Region) : (State.retain s r).nv.array = s.nv.array :=
  (State.retain_within s r).1
@[simp] theorem State.retain_nv_setup (s : State) (r : Region) : (State.retain s r).nv.setup = s.nv.setup :=
  (State.retain_within s r).2.1
@[simp] theorem State.retain_nv_intent (s : State) (r : Region) : (State.retain s r).nv.intent = s.nv.intent :=
  (State.retain_within s r).2.2.1
@[simp] theorem State.retain_stamp (s : State) (r : Region) (q : Nat) (hq : q < 64) : (State.retain s r).table[q].stamp = s.table[q].stamp :=
  (State.retain_within s r).2.2.2 q hq

/-- Parts of its blocks that `takeApply` keeps. -/
theorem State.takeApply_within (s : State) (r : Region) (b : ApplyBody) :
    (State.takeApply s r b).nv.array = s.nv.array ∧ (State.takeApply s r b).nv.setup = s.nv.setup ∧ (State.takeApply s r b).nv.intent = s.nv.intent ∧ (∀ (q : Nat) (hq : q < 64), (State.takeApply s r b).table[q].stamp = s.table[q].stamp) := by
  unfold State.takeApply; (repeat' (first | split | dsimp only)) <;> simp
@[simp] theorem State.takeApply_nv_array (s : State) (r : Region) (b : ApplyBody) : (State.takeApply s r b).nv.array = s.nv.array :=
  (State.takeApply_within s r b).1
@[simp] theorem State.takeApply_nv_setup (s : State) (r : Region) (b : ApplyBody) : (State.takeApply s r b).nv.setup = s.nv.setup :=
  (State.takeApply_within s r b).2.1
@[simp] theorem State.takeApply_nv_intent (s : State) (r : Region) (b : ApplyBody) : (State.takeApply s r b).nv.intent = s.nv.intent :=
  (State.takeApply_within s r b).2.2.1
@[simp] theorem State.takeApply_stamp (s : State) (r : Region) (b : ApplyBody) (q : Nat) (hq : q < 64) : (State.takeApply s r b).table[q].stamp = s.table[q].stamp :=
  (State.takeApply_within s r b).2.2.2 q hq

/-- Parts of its blocks that `answer` keeps. -/
theorem State.answer_within (s : State) (code : Byte) (result : ResultCode) (data : List Byte) :
    (State.answer s code result data).port.refused = s.port.refused ∧ (State.answer s code result data).port.sdo = s.port.sdo := by
  unfold State.answer; (repeat' (first | split | dsimp only)) <;> simp
@[simp] theorem State.answer_port_refused (s : State) (code : Byte) (result : ResultCode) (data : List Byte) : (State.answer s code result data).port.refused = s.port.refused :=
  (State.answer_within s code result data).1
@[simp] theorem State.answer_port_sdo (s : State) (code : Byte) (result : ResultCode) (data : List Byte) : (State.answer s code result data).port.sdo = s.port.sdo :=
  (State.answer_within s code result data).2

/-- Parts of its blocks that `work` keeps. -/
theorem State.work_within (s : State) (w : Work) :
    (State.work s w).port.refused = s.port.refused ∧ (State.work s w).port.sdo = s.port.sdo := by
  unfold State.work; (repeat' (first | split | dsimp only)) <;> simp
@[simp] theorem State.work_port_refused (s : State) (w : Work) : (State.work s w).port.refused = s.port.refused :=
  (State.work_within s w).1
@[simp] theorem State.work_port_sdo (s : State) (w : Work) : (State.work s w).port.sdo = s.port.sdo :=
  (State.work_within s w).2

/-- Parts of its blocks that `departed` keeps. -/
theorem State.departed_within (s : State) (cut : Bool) (e : OutEntry) :
    (State.departed s cut e).ctl.number = s.ctl.number ∧ (State.departed s cut e).ctl.rate = s.ctl.rate ∧ (State.departed s cut e).ctl.members = s.ctl.members ∧ (State.departed s cut e).ctl.guardSet = s.ctl.guardSet ∧ (State.departed s cut e).ctl.state = s.ctl.state ∧ (State.departed s cut e).ctl.beaconDue = s.ctl.beaconDue ∧ (State.departed s cut e).ctl.beaconTimer = s.ctl.beaconTimer ∧ (State.departed s cut e).ctl.joining = s.ctl.joining := by
  unfold State.departed Controller.countCut; (repeat' (first | split | dsimp only)) <;> simp
@[simp] theorem State.departed_ctl_number (s : State) (cut : Bool) (e : OutEntry) : (State.departed s cut e).ctl.number = s.ctl.number :=
  (State.departed_within s cut e).1
@[simp] theorem State.departed_ctl_rate (s : State) (cut : Bool) (e : OutEntry) : (State.departed s cut e).ctl.rate = s.ctl.rate :=
  (State.departed_within s cut e).2.1
@[simp] theorem State.departed_ctl_members (s : State) (cut : Bool) (e : OutEntry) : (State.departed s cut e).ctl.members = s.ctl.members :=
  (State.departed_within s cut e).2.2.1
@[simp] theorem State.departed_ctl_guardSet (s : State) (cut : Bool) (e : OutEntry) : (State.departed s cut e).ctl.guardSet = s.ctl.guardSet :=
  (State.departed_within s cut e).2.2.2.1
@[simp] theorem State.departed_ctl_state (s : State) (cut : Bool) (e : OutEntry) : (State.departed s cut e).ctl.state = s.ctl.state :=
  (State.departed_within s cut e).2.2.2.2.1
@[simp] theorem State.departed_ctl_beaconDue (s : State) (cut : Bool) (e : OutEntry) : (State.departed s cut e).ctl.beaconDue = s.ctl.beaconDue :=
  (State.departed_within s cut e).2.2.2.2.2.1
@[simp] theorem State.departed_ctl_beaconTimer (s : State) (cut : Bool) (e : OutEntry) : (State.departed s cut e).ctl.beaconTimer = s.ctl.beaconTimer :=
  (State.departed_within s cut e).2.2.2.2.2.2.1
@[simp] theorem State.departed_ctl_joining (s : State) (cut : Bool) (e : OutEntry) : (State.departed s cut e).ctl.joining = s.ctl.joining :=
  (State.departed_within s cut e).2.2.2.2.2.2.2

/-- Parts of its blocks that `departAll` keeps. -/
theorem State.departAll_within (s : State) (cut : Bool) (gone : List OutEntry) :
    (State.departAll s cut gone).ctl.number = s.ctl.number ∧ (State.departAll s cut gone).ctl.rate = s.ctl.rate ∧ (State.departAll s cut gone).ctl.members = s.ctl.members ∧ (State.departAll s cut gone).ctl.guardSet = s.ctl.guardSet ∧ (State.departAll s cut gone).ctl.state = s.ctl.state ∧ (State.departAll s cut gone).ctl.beaconDue = s.ctl.beaconDue ∧ (State.departAll s cut gone).ctl.beaconTimer = s.ctl.beaconTimer ∧ (State.departAll s cut gone).ctl.joining = s.ctl.joining := by
  unfold State.departAll
  refine ⟨?_, ?_, ?_, ?_, ?_, ?_, ?_, ?_⟩
  · exact (foldl_keeps (fun t : State => t.ctl.number) _ (fun t x => by simp) _ _).trans (by simp)
  · exact (foldl_keeps (fun t : State => t.ctl.rate) _ (fun t x => by simp) _ _).trans (by simp)
  · exact (foldl_keeps (fun t : State => t.ctl.members) _ (fun t x => by simp) _ _).trans (by simp)
  · exact (foldl_keeps (fun t : State => t.ctl.guardSet) _ (fun t x => by simp) _ _).trans (by simp)
  · exact (foldl_keeps (fun t : State => t.ctl.state) _ (fun t x => by simp) _ _).trans (by simp)
  · exact (foldl_keeps (fun t : State => t.ctl.beaconDue) _ (fun t x => by simp) _ _).trans (by simp)
  · exact (foldl_keeps (fun t : State => t.ctl.beaconTimer) _ (fun t x => by simp) _ _).trans (by simp)
  · exact (foldl_keeps (fun t : State => t.ctl.joining) _ (fun t x => by simp) _ _).trans (by simp)
@[simp] theorem State.departAll_ctl_number (s : State) (cut : Bool) (gone : List OutEntry) : (State.departAll s cut gone).ctl.number = s.ctl.number :=
  (State.departAll_within s cut gone).1
@[simp] theorem State.departAll_ctl_rate (s : State) (cut : Bool) (gone : List OutEntry) : (State.departAll s cut gone).ctl.rate = s.ctl.rate :=
  (State.departAll_within s cut gone).2.1
@[simp] theorem State.departAll_ctl_members (s : State) (cut : Bool) (gone : List OutEntry) : (State.departAll s cut gone).ctl.members = s.ctl.members :=
  (State.departAll_within s cut gone).2.2.1
@[simp] theorem State.departAll_ctl_guardSet (s : State) (cut : Bool) (gone : List OutEntry) : (State.departAll s cut gone).ctl.guardSet = s.ctl.guardSet :=
  (State.departAll_within s cut gone).2.2.2.1
@[simp] theorem State.departAll_ctl_state (s : State) (cut : Bool) (gone : List OutEntry) : (State.departAll s cut gone).ctl.state = s.ctl.state :=
  (State.departAll_within s cut gone).2.2.2.2.1
@[simp] theorem State.departAll_ctl_beaconDue (s : State) (cut : Bool) (gone : List OutEntry) : (State.departAll s cut gone).ctl.beaconDue = s.ctl.beaconDue :=
  (State.departAll_within s cut gone).2.2.2.2.2.1
@[simp] theorem State.departAll_ctl_beaconTimer (s : State) (cut : Bool) (gone : List OutEntry) : (State.departAll s cut gone).ctl.beaconTimer = s.ctl.beaconTimer :=
  (State.departAll_within s cut gone).2.2.2.2.2.2.1
@[simp] theorem State.departAll_ctl_joining (s : State) (cut : Bool) (gone : List OutEntry) : (State.departAll s cut gone).ctl.joining = s.ctl.joining :=
  (State.departAll_within s cut gone).2.2.2.2.2.2.2

/-- Parts of its blocks that `discardEntries` keeps. -/
theorem State.discardEntries_within (s : State) (p : OutEntry → Bool) (cut : Bool) :
    (State.discardEntries s p cut).ctl.number = s.ctl.number ∧ (State.discardEntries s p cut).ctl.rate = s.ctl.rate ∧ (State.discardEntries s p cut).ctl.members = s.ctl.members ∧ (State.discardEntries s p cut).ctl.guardSet = s.ctl.guardSet ∧ (State.discardEntries s p cut).ctl.state = s.ctl.state ∧ (State.discardEntries s p cut).ctl.beaconDue = s.ctl.beaconDue ∧ (State.discardEntries s p cut).ctl.beaconTimer = s.ctl.beaconTimer ∧ (State.discardEntries s p cut).ctl.joining = s.ctl.joining := by
  unfold State.discardEntries; (repeat' (first | split | dsimp only)) <;> simp
@[simp] theorem State.discardEntries_ctl_number (s : State) (p : OutEntry → Bool) (cut : Bool) : (State.discardEntries s p cut).ctl.number = s.ctl.number :=
  (State.discardEntries_within s p cut).1
@[simp] theorem State.discardEntries_ctl_rate (s : State) (p : OutEntry → Bool) (cut : Bool) : (State.discardEntries s p cut).ctl.rate = s.ctl.rate :=
  (State.discardEntries_within s p cut).2.1
@[simp] theorem State.discardEntries_ctl_members (s : State) (p : OutEntry → Bool) (cut : Bool) : (State.discardEntries s p cut).ctl.members = s.ctl.members :=
  (State.discardEntries_within s p cut).2.2.1
@[simp] theorem State.discardEntries_ctl_guardSet (s : State) (p : OutEntry → Bool) (cut : Bool) : (State.discardEntries s p cut).ctl.guardSet = s.ctl.guardSet :=
  (State.discardEntries_within s p cut).2.2.2.1
@[simp] theorem State.discardEntries_ctl_state (s : State) (p : OutEntry → Bool) (cut : Bool) : (State.discardEntries s p cut).ctl.state = s.ctl.state :=
  (State.discardEntries_within s p cut).2.2.2.2.1
@[simp] theorem State.discardEntries_ctl_beaconDue (s : State) (p : OutEntry → Bool) (cut : Bool) : (State.discardEntries s p cut).ctl.beaconDue = s.ctl.beaconDue :=
  (State.discardEntries_within s p cut).2.2.2.2.2.1
@[simp] theorem State.discardEntries_ctl_beaconTimer (s : State) (p : OutEntry → Bool) (cut : Bool) : (State.discardEntries s p cut).ctl.beaconTimer = s.ctl.beaconTimer :=
  (State.discardEntries_within s p cut).2.2.2.2.2.2.1
@[simp] theorem State.discardEntries_ctl_joining (s : State) (p : OutEntry → Bool) (cut : Bool) : (State.discardEntries s p cut).ctl.joining = s.ctl.joining :=
  (State.discardEntries_within s p cut).2.2.2.2.2.2.2

/-- Parts of its blocks that `returnSending` keeps. -/
theorem State.returnSending_within (s : State) :
    (State.returnSending s).ctl.number = s.ctl.number ∧ (State.returnSending s).ctl.rate = s.ctl.rate ∧ (State.returnSending s).ctl.members = s.ctl.members ∧ (State.returnSending s).ctl.guardSet = s.ctl.guardSet ∧ (State.returnSending s).ctl.state = s.ctl.state ∧ (State.returnSending s).ctl.beaconDue = s.ctl.beaconDue ∧ (State.returnSending s).ctl.beaconTimer = s.ctl.beaconTimer ∧ (State.returnSending s).ctl.joining = s.ctl.joining := by
  unfold State.returnSending; (repeat' (first | split | dsimp only)) <;> simp
@[simp] theorem State.returnSending_ctl_number (s : State) : (State.returnSending s).ctl.number = s.ctl.number :=
  (State.returnSending_within s).1
@[simp] theorem State.returnSending_ctl_rate (s : State) : (State.returnSending s).ctl.rate = s.ctl.rate :=
  (State.returnSending_within s).2.1
@[simp] theorem State.returnSending_ctl_members (s : State) : (State.returnSending s).ctl.members = s.ctl.members :=
  (State.returnSending_within s).2.2.1
@[simp] theorem State.returnSending_ctl_guardSet (s : State) : (State.returnSending s).ctl.guardSet = s.ctl.guardSet :=
  (State.returnSending_within s).2.2.2.1
@[simp] theorem State.returnSending_ctl_state (s : State) : (State.returnSending s).ctl.state = s.ctl.state :=
  (State.returnSending_within s).2.2.2.2.1
@[simp] theorem State.returnSending_ctl_beaconDue (s : State) : (State.returnSending s).ctl.beaconDue = s.ctl.beaconDue :=
  (State.returnSending_within s).2.2.2.2.2.1
@[simp] theorem State.returnSending_ctl_beaconTimer (s : State) : (State.returnSending s).ctl.beaconTimer = s.ctl.beaconTimer :=
  (State.returnSending_within s).2.2.2.2.2.2.1
@[simp] theorem State.returnSending_ctl_joining (s : State) : (State.returnSending s).ctl.joining = s.ctl.joining :=
  (State.returnSending_within s).2.2.2.2.2.2.2

end Sys2Proof.Machine
end

