-- ==== Sys2Proof/Laws/ProtocolWithin.lean ====
section
/-! SUPPORT. What each operation of Machine/Protocol.lean leaves as it is within the blocks it changes. -/

namespace Sys2Proof.Machine

/-- With no pull to open, none opens. -/
theorem State.openPullsFrom_none (n : Nat) (s : State) (h : s.nextPull = none) : State.openPullsFrom (n + 1) s = s := by
  simp [State.openPullsFrom, h]

/-- With a pull to open, it opens and the rest follows. -/
theorem State.openPullsFrom_some (n : Nat) (s : State) (p : Region × Station × Cause) (h : s.nextPull = some p) :
    State.openPullsFrom (n + 1) s = State.openPullsFrom n (s.openPull p.1 p.2.1 p.2.2) := by
  simp [State.openPullsFrom, h]

/-- Clearing an owner's working flags keeps the stamp. -/
@[simp] theorem RegionEntry.clearFlags_stamp (e : RegionEntry) : e.clearFlags.stamp = e.stamp := rfl

/-- Clearing an owner's working flags keeps every copy stamp. -/
@[simp] theorem State.clearFlags_stamp (s : State) (r : Region) (q : Nat) (hq : q < 64) :
    (s.mapEntry r RegionEntry.clearFlags).table[q].stamp = s.table[q].stamp :=
  State.mapEntry_stamp s r q hq _ fun _ => rfl

/-- Parts of its blocks that `endServing` keeps. -/
theorem State.endServing_within (s : State) (r : Region) :
    (State.endServing s r).nv.array = s.nv.array ∧ (State.endServing s r).nv.setup = s.nv.setup ∧ (State.endServing s r).nv.intent = s.nv.intent ∧ (State.endServing s r).ctl.number = s.ctl.number ∧ (State.endServing s r).ctl.rate = s.ctl.rate ∧ (State.endServing s r).ctl.members = s.ctl.members ∧ (State.endServing s r).ctl.guardSet = s.ctl.guardSet ∧ (State.endServing s r).ctl.state = s.ctl.state ∧ (State.endServing s r).ctl.beaconDue = s.ctl.beaconDue ∧ (State.endServing s r).ctl.beaconTimer = s.ctl.beaconTimer ∧ (State.endServing s r).ctl.joining = s.ctl.joining ∧ (∀ (q : Nat) (hq : q < 64), (State.endServing s r).table[q].stamp = s.table[q].stamp) := by
  unfold State.endServing; (repeat' (first | split | dsimp only)) <;> simp
@[simp] theorem State.endServing_nv_array (s : State) (r : Region) : (State.endServing s r).nv.array = s.nv.array :=
  (State.endServing_within s r).1
@[simp] theorem State.endServing_nv_setup (s : State) (r : Region) : (State.endServing s r).nv.setup = s.nv.setup :=
  (State.endServing_within s r).2.1
@[simp] theorem State.endServing_nv_intent (s : State) (r : Region) : (State.endServing s r).nv.intent = s.nv.intent :=
  (State.endServing_within s r).2.2.1
@[simp] theorem State.endServing_ctl_number (s : State) (r : Region) : (State.endServing s r).ctl.number = s.ctl.number :=
  (State.endServing_within s r).2.2.2.1
@[simp] theorem State.endServing_ctl_rate (s : State) (r : Region) : (State.endServing s r).ctl.rate = s.ctl.rate :=
  (State.endServing_within s r).2.2.2.2.1
@[simp] theorem State.endServing_ctl_members (s : State) (r : Region) : (State.endServing s r).ctl.members = s.ctl.members :=
  (State.endServing_within s r).2.2.2.2.2.1
@[simp] theorem State.endServing_ctl_guardSet (s : State) (r : Region) : (State.endServing s r).ctl.guardSet = s.ctl.guardSet :=
  (State.endServing_within s r).2.2.2.2.2.2.1
@[simp] theorem State.endServing_ctl_state (s : State) (r : Region) : (State.endServing s r).ctl.state = s.ctl.state :=
  (State.endServing_within s r).2.2.2.2.2.2.2.1
@[simp] theorem State.endServing_ctl_beaconDue (s : State) (r : Region) : (State.endServing s r).ctl.beaconDue = s.ctl.beaconDue :=
  (State.endServing_within s r).2.2.2.2.2.2.2.2.1
@[simp] theorem State.endServing_ctl_beaconTimer (s : State) (r : Region) : (State.endServing s r).ctl.beaconTimer = s.ctl.beaconTimer :=
  (State.endServing_within s r).2.2.2.2.2.2.2.2.2.1
@[simp] theorem State.endServing_ctl_joining (s : State) (r : Region) : (State.endServing s r).ctl.joining = s.ctl.joining :=
  (State.endServing_within s r).2.2.2.2.2.2.2.2.2.2.1
@[simp] theorem State.endServing_stamp (s : State) (r : Region) (q : Nat) (hq : q < 64) : (State.endServing s r).table[q].stamp = s.table[q].stamp :=
  (State.endServing_within s r).2.2.2.2.2.2.2.2.2.2.2 q hq

/-- Parts of its blocks that `putTargets` keeps. -/
theorem State.putTargets_within (s : State) (v : ServingRecord) (ts : List Target) :
    (State.putTargets s v ts).nv.array = s.nv.array ∧ (State.putTargets s v ts).nv.setup = s.nv.setup ∧ (State.putTargets s v ts).nv.intent = s.nv.intent ∧ (State.putTargets s v ts).ctl.number = s.ctl.number ∧ (State.putTargets s v ts).ctl.rate = s.ctl.rate ∧ (State.putTargets s v ts).ctl.members = s.ctl.members ∧ (State.putTargets s v ts).ctl.guardSet = s.ctl.guardSet ∧ (State.putTargets s v ts).ctl.state = s.ctl.state ∧ (State.putTargets s v ts).ctl.beaconDue = s.ctl.beaconDue ∧ (State.putTargets s v ts).ctl.beaconTimer = s.ctl.beaconTimer ∧ (State.putTargets s v ts).ctl.joining = s.ctl.joining ∧ (∀ (q : Nat) (hq : q < 64), (State.putTargets s v ts).table[q].stamp = s.table[q].stamp) := by
  unfold State.putTargets; (repeat' (first | split | dsimp only)) <;> simp
@[simp] theorem State.putTargets_nv_array (s : State) (v : ServingRecord) (ts : List Target) : (State.putTargets s v ts).nv.array = s.nv.array :=
  (State.putTargets_within s v ts).1
@[simp] theorem State.putTargets_nv_setup (s : State) (v : ServingRecord) (ts : List Target) : (State.putTargets s v ts).nv.setup = s.nv.setup :=
  (State.putTargets_within s v ts).2.1
@[simp] theorem State.putTargets_nv_intent (s : State) (v : ServingRecord) (ts : List Target) : (State.putTargets s v ts).nv.intent = s.nv.intent :=
  (State.putTargets_within s v ts).2.2.1
@[simp] theorem State.putTargets_ctl_number (s : State) (v : ServingRecord) (ts : List Target) : (State.putTargets s v ts).ctl.number = s.ctl.number :=
  (State.putTargets_within s v ts).2.2.2.1
@[simp] theorem State.putTargets_ctl_rate (s : State) (v : ServingRecord) (ts : List Target) : (State.putTargets s v ts).ctl.rate = s.ctl.rate :=
  (State.putTargets_within s v ts).2.2.2.2.1
@[simp] theorem State.putTargets_ctl_members (s : State) (v : ServingRecord) (ts : List Target) : (State.putTargets s v ts).ctl.members = s.ctl.members :=
  (State.putTargets_within s v ts).2.2.2.2.2.1
@[simp] theorem State.putTargets_ctl_guardSet (s : State) (v : ServingRecord) (ts : List Target) : (State.putTargets s v ts).ctl.guardSet = s.ctl.guardSet :=
  (State.putTargets_within s v ts).2.2.2.2.2.2.1
@[simp] theorem State.putTargets_ctl_state (s : State) (v : ServingRecord) (ts : List Target) : (State.putTargets s v ts).ctl.state = s.ctl.state :=
  (State.putTargets_within s v ts).2.2.2.2.2.2.2.1
@[simp] theorem State.putTargets_ctl_beaconDue (s : State) (v : ServingRecord) (ts : List Target) : (State.putTargets s v ts).ctl.beaconDue = s.ctl.beaconDue :=
  (State.putTargets_within s v ts).2.2.2.2.2.2.2.2.1
@[simp] theorem State.putTargets_ctl_beaconTimer (s : State) (v : ServingRecord) (ts : List Target) : (State.putTargets s v ts).ctl.beaconTimer = s.ctl.beaconTimer :=
  (State.putTargets_within s v ts).2.2.2.2.2.2.2.2.2.1
@[simp] theorem State.putTargets_ctl_joining (s : State) (v : ServingRecord) (ts : List Target) : (State.putTargets s v ts).ctl.joining = s.ctl.joining :=
  (State.putTargets_within s v ts).2.2.2.2.2.2.2.2.2.2.1
@[simp] theorem State.putTargets_stamp (s : State) (v : ServingRecord) (ts : List Target) (q : Nat) (hq : q < 64) : (State.putTargets s v ts).table[q].stamp = s.table[q].stamp :=
  (State.putTargets_within s v ts).2.2.2.2.2.2.2.2.2.2.2 q hq

/-- Parts of its blocks that `dropTarget` keeps. -/
theorem State.dropTarget_within (s : State) (r : Region) (n : Station) :
    (State.dropTarget s r n).nv.array = s.nv.array ∧ (State.dropTarget s r n).nv.setup = s.nv.setup ∧ (State.dropTarget s r n).nv.intent = s.nv.intent ∧ (State.dropTarget s r n).ctl.number = s.ctl.number ∧ (State.dropTarget s r n).ctl.rate = s.ctl.rate ∧ (State.dropTarget s r n).ctl.members = s.ctl.members ∧ (State.dropTarget s r n).ctl.guardSet = s.ctl.guardSet ∧ (State.dropTarget s r n).ctl.state = s.ctl.state ∧ (State.dropTarget s r n).ctl.beaconDue = s.ctl.beaconDue ∧ (State.dropTarget s r n).ctl.beaconTimer = s.ctl.beaconTimer ∧ (State.dropTarget s r n).ctl.joining = s.ctl.joining ∧ (∀ (q : Nat) (hq : q < 64), (State.dropTarget s r n).table[q].stamp = s.table[q].stamp) := by
  unfold State.dropTarget; (repeat' (first | split | dsimp only)) <;> simp
@[simp] theorem State.dropTarget_nv_array (s : State) (r : Region) (n : Station) : (State.dropTarget s r n).nv.array = s.nv.array :=
  (State.dropTarget_within s r n).1
@[simp] theorem State.dropTarget_nv_setup (s : State) (r : Region) (n : Station) : (State.dropTarget s r n).nv.setup = s.nv.setup :=
  (State.dropTarget_within s r n).2.1
@[simp] theorem State.dropTarget_nv_intent (s : State) (r : Region) (n : Station) : (State.dropTarget s r n).nv.intent = s.nv.intent :=
  (State.dropTarget_within s r n).2.2.1
@[simp] theorem State.dropTarget_ctl_number (s : State) (r : Region) (n : Station) : (State.dropTarget s r n).ctl.number = s.ctl.number :=
  (State.dropTarget_within s r n).2.2.2.1
@[simp] theorem State.dropTarget_ctl_rate (s : State) (r : Region) (n : Station) : (State.dropTarget s r n).ctl.rate = s.ctl.rate :=
  (State.dropTarget_within s r n).2.2.2.2.1
@[simp] theorem State.dropTarget_ctl_members (s : State) (r : Region) (n : Station) : (State.dropTarget s r n).ctl.members = s.ctl.members :=
  (State.dropTarget_within s r n).2.2.2.2.2.1
@[simp] theorem State.dropTarget_ctl_guardSet (s : State) (r : Region) (n : Station) : (State.dropTarget s r n).ctl.guardSet = s.ctl.guardSet :=
  (State.dropTarget_within s r n).2.2.2.2.2.2.1
@[simp] theorem State.dropTarget_ctl_state (s : State) (r : Region) (n : Station) : (State.dropTarget s r n).ctl.state = s.ctl.state :=
  (State.dropTarget_within s r n).2.2.2.2.2.2.2.1
@[simp] theorem State.dropTarget_ctl_beaconDue (s : State) (r : Region) (n : Station) : (State.dropTarget s r n).ctl.beaconDue = s.ctl.beaconDue :=
  (State.dropTarget_within s r n).2.2.2.2.2.2.2.2.1
@[simp] theorem State.dropTarget_ctl_beaconTimer (s : State) (r : Region) (n : Station) : (State.dropTarget s r n).ctl.beaconTimer = s.ctl.beaconTimer :=
  (State.dropTarget_within s r n).2.2.2.2.2.2.2.2.2.1
@[simp] theorem State.dropTarget_ctl_joining (s : State) (r : Region) (n : Station) : (State.dropTarget s r n).ctl.joining = s.ctl.joining :=
  (State.dropTarget_within s r n).2.2.2.2.2.2.2.2.2.2.1
@[simp] theorem State.dropTarget_stamp (s : State) (r : Region) (n : Station) (q : Nat) (hq : q < 64) : (State.dropTarget s r n).table[q].stamp = s.table[q].stamp :=
  (State.dropTarget_within s r n).2.2.2.2.2.2.2.2.2.2.2 q hq

/-- Parts of its blocks that `dropTargets` keeps. -/
theorem State.dropTargets_within (s : State) (n : Station) :
    (State.dropTargets s n).nv.array = s.nv.array ∧ (State.dropTargets s n).nv.setup = s.nv.setup ∧ (State.dropTargets s n).nv.intent = s.nv.intent ∧ (State.dropTargets s n).ctl.number = s.ctl.number ∧ (State.dropTargets s n).ctl.rate = s.ctl.rate ∧ (State.dropTargets s n).ctl.members = s.ctl.members ∧ (State.dropTargets s n).ctl.guardSet = s.ctl.guardSet ∧ (State.dropTargets s n).ctl.state = s.ctl.state ∧ (State.dropTargets s n).ctl.beaconDue = s.ctl.beaconDue ∧ (State.dropTargets s n).ctl.beaconTimer = s.ctl.beaconTimer ∧ (State.dropTargets s n).ctl.joining = s.ctl.joining ∧ (∀ (q : Nat) (hq : q < 64), (State.dropTargets s n).table[q].stamp = s.table[q].stamp) := by
  unfold State.dropTargets
  refine ⟨?_, ?_, ?_, ?_, ?_, ?_, ?_, ?_, ?_, ?_, ?_, ?_⟩
  · exact (foldl_keeps (fun t : State => t.nv.array) _ (fun t x => by simp) _ _).trans (by simp)
  · exact (foldl_keeps (fun t : State => t.nv.setup) _ (fun t x => by simp) _ _).trans (by simp)
  · exact (foldl_keeps (fun t : State => t.nv.intent) _ (fun t x => by simp) _ _).trans (by simp)
  · exact (foldl_keeps (fun t : State => t.ctl.number) _ (fun t x => by simp) _ _).trans (by simp)
  · exact (foldl_keeps (fun t : State => t.ctl.rate) _ (fun t x => by simp) _ _).trans (by simp)
  · exact (foldl_keeps (fun t : State => t.ctl.members) _ (fun t x => by simp) _ _).trans (by simp)
  · exact (foldl_keeps (fun t : State => t.ctl.guardSet) _ (fun t x => by simp) _ _).trans (by simp)
  · exact (foldl_keeps (fun t : State => t.ctl.state) _ (fun t x => by simp) _ _).trans (by simp)
  · exact (foldl_keeps (fun t : State => t.ctl.beaconDue) _ (fun t x => by simp) _ _).trans (by simp)
  · exact (foldl_keeps (fun t : State => t.ctl.beaconTimer) _ (fun t x => by simp) _ _).trans (by simp)
  · exact (foldl_keeps (fun t : State => t.ctl.joining) _ (fun t x => by simp) _ _).trans (by simp)
  · intro q hq
    exact (foldl_keeps (fun t : State => t.table[q].stamp) _ (fun t x => by simp) _ _).trans (by simp)
@[simp] theorem State.dropTargets_nv_array (s : State) (n : Station) : (State.dropTargets s n).nv.array = s.nv.array :=
  (State.dropTargets_within s n).1
@[simp] theorem State.dropTargets_nv_setup (s : State) (n : Station) : (State.dropTargets s n).nv.setup = s.nv.setup :=
  (State.dropTargets_within s n).2.1
@[simp] theorem State.dropTargets_nv_intent (s : State) (n : Station) : (State.dropTargets s n).nv.intent = s.nv.intent :=
  (State.dropTargets_within s n).2.2.1
@[simp] theorem State.dropTargets_ctl_number (s : State) (n : Station) : (State.dropTargets s n).ctl.number = s.ctl.number :=
  (State.dropTargets_within s n).2.2.2.1
@[simp] theorem State.dropTargets_ctl_rate (s : State) (n : Station) : (State.dropTargets s n).ctl.rate = s.ctl.rate :=
  (State.dropTargets_within s n).2.2.2.2.1
@[simp] theorem State.dropTargets_ctl_members (s : State) (n : Station) : (State.dropTargets s n).ctl.members = s.ctl.members :=
  (State.dropTargets_within s n).2.2.2.2.2.1
@[simp] theorem State.dropTargets_ctl_guardSet (s : State) (n : Station) : (State.dropTargets s n).ctl.guardSet = s.ctl.guardSet :=
  (State.dropTargets_within s n).2.2.2.2.2.2.1
@[simp] theorem State.dropTargets_ctl_state (s : State) (n : Station) : (State.dropTargets s n).ctl.state = s.ctl.state :=
  (State.dropTargets_within s n).2.2.2.2.2.2.2.1
@[simp] theorem State.dropTargets_ctl_beaconDue (s : State) (n : Station) : (State.dropTargets s n).ctl.beaconDue = s.ctl.beaconDue :=
  (State.dropTargets_within s n).2.2.2.2.2.2.2.2.1
@[simp] theorem State.dropTargets_ctl_beaconTimer (s : State) (n : Station) : (State.dropTargets s n).ctl.beaconTimer = s.ctl.beaconTimer :=
  (State.dropTargets_within s n).2.2.2.2.2.2.2.2.2.1
@[simp] theorem State.dropTargets_ctl_joining (s : State) (n : Station) : (State.dropTargets s n).ctl.joining = s.ctl.joining :=
  (State.dropTargets_within s n).2.2.2.2.2.2.2.2.2.2.1
@[simp] theorem State.dropTargets_stamp (s : State) (n : Station) (q : Nat) (hq : q < 64) : (State.dropTargets s n).table[q].stamp = s.table[q].stamp :=
  (State.dropTargets_within s n).2.2.2.2.2.2.2.2.2.2.2 q hq

/-- Parts of its blocks that `endAllServing` keeps. -/
theorem State.endAllServing_within (s : State) :
    (State.endAllServing s).nv.array = s.nv.array ∧ (State.endAllServing s).nv.setup = s.nv.setup ∧ (State.endAllServing s).nv.intent = s.nv.intent ∧ (State.endAllServing s).ctl.number = s.ctl.number ∧ (State.endAllServing s).ctl.rate = s.ctl.rate ∧ (State.endAllServing s).ctl.members = s.ctl.members ∧ (State.endAllServing s).ctl.guardSet = s.ctl.guardSet ∧ (State.endAllServing s).ctl.state = s.ctl.state ∧ (State.endAllServing s).ctl.beaconDue = s.ctl.beaconDue ∧ (State.endAllServing s).ctl.beaconTimer = s.ctl.beaconTimer ∧ (State.endAllServing s).ctl.joining = s.ctl.joining ∧ (∀ (q : Nat) (hq : q < 64), (State.endAllServing s).table[q].stamp = s.table[q].stamp) := by
  unfold State.endAllServing
  refine ⟨?_, ?_, ?_, ?_, ?_, ?_, ?_, ?_, ?_, ?_, ?_, ?_⟩
  · exact (foldl_keeps (fun t : State => t.nv.array) _ (fun t x => by simp) _ _).trans (by simp)
  · exact (foldl_keeps (fun t : State => t.nv.setup) _ (fun t x => by simp) _ _).trans (by simp)
  · exact (foldl_keeps (fun t : State => t.nv.intent) _ (fun t x => by simp) _ _).trans (by simp)
  · exact (foldl_keeps (fun t : State => t.ctl.number) _ (fun t x => by simp) _ _).trans (by simp)
  · exact (foldl_keeps (fun t : State => t.ctl.rate) _ (fun t x => by simp) _ _).trans (by simp)
  · exact (foldl_keeps (fun t : State => t.ctl.members) _ (fun t x => by simp) _ _).trans (by simp)
  · exact (foldl_keeps (fun t : State => t.ctl.guardSet) _ (fun t x => by simp) _ _).trans (by simp)
  · exact (foldl_keeps (fun t : State => t.ctl.state) _ (fun t x => by simp) _ _).trans (by simp)
  · exact (foldl_keeps (fun t : State => t.ctl.beaconDue) _ (fun t x => by simp) _ _).trans (by simp)
  · exact (foldl_keeps (fun t : State => t.ctl.beaconTimer) _ (fun t x => by simp) _ _).trans (by simp)
  · exact (foldl_keeps (fun t : State => t.ctl.joining) _ (fun t x => by simp) _ _).trans (by simp)
  · intro q hq
    exact (foldl_keeps (fun t : State => t.table[q].stamp) _ (fun t x => by simp) _ _).trans (by simp)
@[simp] theorem State.endAllServing_nv_array (s : State) : (State.endAllServing s).nv.array = s.nv.array :=
  (State.endAllServing_within s).1
@[simp] theorem State.endAllServing_nv_setup (s : State) : (State.endAllServing s).nv.setup = s.nv.setup :=
  (State.endAllServing_within s).2.1
@[simp] theorem State.endAllServing_nv_intent (s : State) : (State.endAllServing s).nv.intent = s.nv.intent :=
  (State.endAllServing_within s).2.2.1
@[simp] theorem State.endAllServing_ctl_number (s : State) : (State.endAllServing s).ctl.number = s.ctl.number :=
  (State.endAllServing_within s).2.2.2.1
@[simp] theorem State.endAllServing_ctl_rate (s : State) : (State.endAllServing s).ctl.rate = s.ctl.rate :=
  (State.endAllServing_within s).2.2.2.2.1
@[simp] theorem State.endAllServing_ctl_members (s : State) : (State.endAllServing s).ctl.members = s.ctl.members :=
  (State.endAllServing_within s).2.2.2.2.2.1
@[simp] theorem State.endAllServing_ctl_guardSet (s : State) : (State.endAllServing s).ctl.guardSet = s.ctl.guardSet :=
  (State.endAllServing_within s).2.2.2.2.2.2.1
@[simp] theorem State.endAllServing_ctl_state (s : State) : (State.endAllServing s).ctl.state = s.ctl.state :=
  (State.endAllServing_within s).2.2.2.2.2.2.2.1
@[simp] theorem State.endAllServing_ctl_beaconDue (s : State) : (State.endAllServing s).ctl.beaconDue = s.ctl.beaconDue :=
  (State.endAllServing_within s).2.2.2.2.2.2.2.2.1
@[simp] theorem State.endAllServing_ctl_beaconTimer (s : State) : (State.endAllServing s).ctl.beaconTimer = s.ctl.beaconTimer :=
  (State.endAllServing_within s).2.2.2.2.2.2.2.2.2.1
@[simp] theorem State.endAllServing_ctl_joining (s : State) : (State.endAllServing s).ctl.joining = s.ctl.joining :=
  (State.endAllServing_within s).2.2.2.2.2.2.2.2.2.2.1
@[simp] theorem State.endAllServing_stamp (s : State) (q : Nat) (hq : q < 64) : (State.endAllServing s).table[q].stamp = s.table[q].stamp :=
  (State.endAllServing_within s).2.2.2.2.2.2.2.2.2.2.2 q hq

/-- Parts of its blocks that `restartServing` keeps. -/
theorem State.restartServing_within (s : State) (r : Region) :
    (State.restartServing s r).nv.array = s.nv.array ∧ (State.restartServing s r).nv.setup = s.nv.setup ∧ (State.restartServing s r).nv.intent = s.nv.intent ∧ (State.restartServing s r).ctl.number = s.ctl.number ∧ (State.restartServing s r).ctl.rate = s.ctl.rate ∧ (State.restartServing s r).ctl.members = s.ctl.members ∧ (State.restartServing s r).ctl.guardSet = s.ctl.guardSet ∧ (State.restartServing s r).ctl.state = s.ctl.state ∧ (State.restartServing s r).ctl.beaconDue = s.ctl.beaconDue ∧ (State.restartServing s r).ctl.beaconTimer = s.ctl.beaconTimer ∧ (State.restartServing s r).ctl.joining = s.ctl.joining ∧ (∀ (q : Nat) (hq : q < 64), (State.restartServing s r).table[q].stamp = s.table[q].stamp) := by
  unfold State.restartServing; (repeat' (first | split | dsimp only)) <;> simp
@[simp] theorem State.restartServing_nv_array (s : State) (r : Region) : (State.restartServing s r).nv.array = s.nv.array :=
  (State.restartServing_within s r).1
@[simp] theorem State.restartServing_nv_setup (s : State) (r : Region) : (State.restartServing s r).nv.setup = s.nv.setup :=
  (State.restartServing_within s r).2.1
@[simp] theorem State.restartServing_nv_intent (s : State) (r : Region) : (State.restartServing s r).nv.intent = s.nv.intent :=
  (State.restartServing_within s r).2.2.1
@[simp] theorem State.restartServing_ctl_number (s : State) (r : Region) : (State.restartServing s r).ctl.number = s.ctl.number :=
  (State.restartServing_within s r).2.2.2.1
@[simp] theorem State.restartServing_ctl_rate (s : State) (r : Region) : (State.restartServing s r).ctl.rate = s.ctl.rate :=
  (State.restartServing_within s r).2.2.2.2.1
@[simp] theorem State.restartServing_ctl_members (s : State) (r : Region) : (State.restartServing s r).ctl.members = s.ctl.members :=
  (State.restartServing_within s r).2.2.2.2.2.1
@[simp] theorem State.restartServing_ctl_guardSet (s : State) (r : Region) : (State.restartServing s r).ctl.guardSet = s.ctl.guardSet :=
  (State.restartServing_within s r).2.2.2.2.2.2.1
@[simp] theorem State.restartServing_ctl_state (s : State) (r : Region) : (State.restartServing s r).ctl.state = s.ctl.state :=
  (State.restartServing_within s r).2.2.2.2.2.2.2.1
@[simp] theorem State.restartServing_ctl_beaconDue (s : State) (r : Region) : (State.restartServing s r).ctl.beaconDue = s.ctl.beaconDue :=
  (State.restartServing_within s r).2.2.2.2.2.2.2.2.1
@[simp] theorem State.restartServing_ctl_beaconTimer (s : State) (r : Region) : (State.restartServing s r).ctl.beaconTimer = s.ctl.beaconTimer :=
  (State.restartServing_within s r).2.2.2.2.2.2.2.2.2.1
@[simp] theorem State.restartServing_ctl_joining (s : State) (r : Region) : (State.restartServing s r).ctl.joining = s.ctl.joining :=
  (State.restartServing_within s r).2.2.2.2.2.2.2.2.2.2.1
@[simp] theorem State.restartServing_stamp (s : State) (r : Region) (q : Nat) (hq : q < 64) : (State.restartServing s r).table[q].stamp = s.table[q].stamp :=
  (State.restartServing_within s r).2.2.2.2.2.2.2.2.2.2.2 q hq

/-- Parts of its blocks that `abandonWrite` keeps. -/
theorem State.abandonWrite_within (s : State) (r : Region) :
    (State.abandonWrite s r).port.refused = s.port.refused ∧ (State.abandonWrite s r).port.sdo = s.port.sdo := by
  unfold State.abandonWrite; (repeat' (first | split | dsimp only)) <;> simp
@[simp] theorem State.abandonWrite_port_refused (s : State) (r : Region) : (State.abandonWrite s r).port.refused = s.port.refused :=
  (State.abandonWrite_within s r).1
@[simp] theorem State.abandonWrite_port_sdo (s : State) (r : Region) : (State.abandonWrite s r).port.sdo = s.port.sdo :=
  (State.abandonWrite_within s r).2

/-- Parts of its blocks that `dropHeld` keeps. -/
theorem State.dropHeld_within (s : State) (r : Region) :
    (State.dropHeld s r).nv.array = s.nv.array ∧ (State.dropHeld s r).nv.setup = s.nv.setup ∧ (State.dropHeld s r).nv.intent = s.nv.intent ∧ (∀ (q : Nat) (hq : q < 64), (State.dropHeld s r).table[q].stamp = s.table[q].stamp) := by
  unfold State.dropHeld; (repeat' (first | split | dsimp only)) <;> simp
@[simp] theorem State.dropHeld_nv_array (s : State) (r : Region) : (State.dropHeld s r).nv.array = s.nv.array :=
  (State.dropHeld_within s r).1
@[simp] theorem State.dropHeld_nv_setup (s : State) (r : Region) : (State.dropHeld s r).nv.setup = s.nv.setup :=
  (State.dropHeld_within s r).2.1
@[simp] theorem State.dropHeld_nv_intent (s : State) (r : Region) : (State.dropHeld s r).nv.intent = s.nv.intent :=
  (State.dropHeld_within s r).2.2.1
@[simp] theorem State.dropHeld_stamp (s : State) (r : Region) (q : Nat) (hq : q < 64) : (State.dropHeld s r).table[q].stamp = s.table[q].stamp :=
  (State.dropHeld_within s r).2.2.2 q hq

/-- Parts of its blocks that `sweepAct` keeps. -/
theorem State.sweepAct_within (s : State) :
    (State.sweepAct s).1.nv.array = s.nv.array ∧ (State.sweepAct s).1.nv.setup = s.nv.setup ∧ (State.sweepAct s).1.nv.intent = s.nv.intent ∧ (∀ (q : Nat) (hq : q < 64), (State.sweepAct s).1.table[q].stamp = s.table[q].stamp) := by
  unfold State.sweepAct; (repeat' (first | split | dsimp only)) <;> simp
@[simp] theorem State.sweepAct_nv_array (s : State) : (State.sweepAct s).1.nv.array = s.nv.array :=
  (State.sweepAct_within s).1
@[simp] theorem State.sweepAct_nv_setup (s : State) : (State.sweepAct s).1.nv.setup = s.nv.setup :=
  (State.sweepAct_within s).2.1
@[simp] theorem State.sweepAct_nv_intent (s : State) : (State.sweepAct s).1.nv.intent = s.nv.intent :=
  (State.sweepAct_within s).2.2.1
@[simp] theorem State.sweepAct_stamp (s : State) (q : Nat) (hq : q < 64) : (State.sweepAct s).1.table[q].stamp = s.table[q].stamp :=
  (State.sweepAct_within s).2.2.2 q hq

/-- Parts of its blocks that `sweepFrom` keeps. -/
theorem State.sweepFrom_within (n : Nat) (s : State) :
    (State.sweepFrom n s).nv.array = s.nv.array ∧ (State.sweepFrom n s).nv.setup = s.nv.setup ∧ (State.sweepFrom n s).nv.intent = s.nv.intent ∧ (∀ (q : Nat) (hq : q < 64), (State.sweepFrom n s).table[q].stamp = s.table[q].stamp) := by
  induction n generalizing s with
  | zero => simp [State.sweepFrom]
  | succ n ih => unfold State.sweepFrom; (repeat' split) <;> simp [ih]
@[simp] theorem State.sweepFrom_nv_array (n : Nat) (s : State) : (State.sweepFrom n s).nv.array = s.nv.array :=
  (State.sweepFrom_within n s).1
@[simp] theorem State.sweepFrom_nv_setup (n : Nat) (s : State) : (State.sweepFrom n s).nv.setup = s.nv.setup :=
  (State.sweepFrom_within n s).2.1
@[simp] theorem State.sweepFrom_nv_intent (n : Nat) (s : State) : (State.sweepFrom n s).nv.intent = s.nv.intent :=
  (State.sweepFrom_within n s).2.2.1
@[simp] theorem State.sweepFrom_stamp (n : Nat) (s : State) (q : Nat) (hq : q < 64) : (State.sweepFrom n s).table[q].stamp = s.table[q].stamp :=
  (State.sweepFrom_within n s).2.2.2 q hq

/-- Parts of its blocks that `sweepWalk` keeps. -/
theorem State.sweepWalk_within (s : State) :
    (State.sweepWalk s).nv.array = s.nv.array ∧ (State.sweepWalk s).nv.setup = s.nv.setup ∧ (State.sweepWalk s).nv.intent = s.nv.intent ∧ (∀ (q : Nat) (hq : q < 64), (State.sweepWalk s).table[q].stamp = s.table[q].stamp) := by
  unfold State.sweepWalk; (repeat' (first | split | dsimp only)) <;> simp
@[simp] theorem State.sweepWalk_nv_array (s : State) : (State.sweepWalk s).nv.array = s.nv.array :=
  (State.sweepWalk_within s).1
@[simp] theorem State.sweepWalk_nv_setup (s : State) : (State.sweepWalk s).nv.setup = s.nv.setup :=
  (State.sweepWalk_within s).2.1
@[simp] theorem State.sweepWalk_nv_intent (s : State) : (State.sweepWalk s).nv.intent = s.nv.intent :=
  (State.sweepWalk_within s).2.2.1
@[simp] theorem State.sweepWalk_stamp (s : State) (q : Nat) (hq : q < 64) : (State.sweepWalk s).table[q].stamp = s.table[q].stamp :=
  (State.sweepWalk_within s).2.2.2 q hq

/-- Parts of its blocks that `closePull` keeps. -/
theorem State.closePull_within (s : State) (r : Region) (park : Bool) :
    (State.closePull s r park).nv.array = s.nv.array ∧ (State.closePull s r park).nv.setup = s.nv.setup ∧ (State.closePull s r park).nv.intent = s.nv.intent ∧ (State.closePull s r park).ctl.number = s.ctl.number ∧ (State.closePull s r park).ctl.rate = s.ctl.rate ∧ (State.closePull s r park).ctl.members = s.ctl.members ∧ (State.closePull s r park).ctl.guardSet = s.ctl.guardSet ∧ (State.closePull s r park).ctl.state = s.ctl.state ∧ (State.closePull s r park).ctl.beaconDue = s.ctl.beaconDue ∧ (State.closePull s r park).ctl.beaconTimer = s.ctl.beaconTimer ∧ (State.closePull s r park).ctl.joining = s.ctl.joining ∧ (∀ (q : Nat) (hq : q < 64), (State.closePull s r park).table[q].stamp = s.table[q].stamp) := by
  unfold State.closePull; (repeat' (first | split | dsimp only)) <;> simp
@[simp] theorem State.closePull_nv_array (s : State) (r : Region) (park : Bool) : (State.closePull s r park).nv.array = s.nv.array :=
  (State.closePull_within s r park).1
@[simp] theorem State.closePull_nv_setup (s : State) (r : Region) (park : Bool) : (State.closePull s r park).nv.setup = s.nv.setup :=
  (State.closePull_within s r park).2.1
@[simp] theorem State.closePull_nv_intent (s : State) (r : Region) (park : Bool) : (State.closePull s r park).nv.intent = s.nv.intent :=
  (State.closePull_within s r park).2.2.1
@[simp] theorem State.closePull_ctl_number (s : State) (r : Region) (park : Bool) : (State.closePull s r park).ctl.number = s.ctl.number :=
  (State.closePull_within s r park).2.2.2.1
@[simp] theorem State.closePull_ctl_rate (s : State) (r : Region) (park : Bool) : (State.closePull s r park).ctl.rate = s.ctl.rate :=
  (State.closePull_within s r park).2.2.2.2.1
@[simp] theorem State.closePull_ctl_members (s : State) (r : Region) (park : Bool) : (State.closePull s r park).ctl.members = s.ctl.members :=
  (State.closePull_within s r park).2.2.2.2.2.1
@[simp] theorem State.closePull_ctl_guardSet (s : State) (r : Region) (park : Bool) : (State.closePull s r park).ctl.guardSet = s.ctl.guardSet :=
  (State.closePull_within s r park).2.2.2.2.2.2.1
@[simp] theorem State.closePull_ctl_state (s : State) (r : Region) (park : Bool) : (State.closePull s r park).ctl.state = s.ctl.state :=
  (State.closePull_within s r park).2.2.2.2.2.2.2.1
@[simp] theorem State.closePull_ctl_beaconDue (s : State) (r : Region) (park : Bool) : (State.closePull s r park).ctl.beaconDue = s.ctl.beaconDue :=
  (State.closePull_within s r park).2.2.2.2.2.2.2.2.1
@[simp] theorem State.closePull_ctl_beaconTimer (s : State) (r : Region) (park : Bool) : (State.closePull s r park).ctl.beaconTimer = s.ctl.beaconTimer :=
  (State.closePull_within s r park).2.2.2.2.2.2.2.2.2.1
@[simp] theorem State.closePull_ctl_joining (s : State) (r : Region) (park : Bool) : (State.closePull s r park).ctl.joining = s.ctl.joining :=
  (State.closePull_within s r park).2.2.2.2.2.2.2.2.2.2.1
@[simp] theorem State.closePull_stamp (s : State) (r : Region) (park : Bool) (q : Nat) (hq : q < 64) : (State.closePull s r park).table[q].stamp = s.table[q].stamp :=
  (State.closePull_within s r park).2.2.2.2.2.2.2.2.2.2.2 q hq

/-- Parts of its blocks that `closeAllPulls` keeps. -/
theorem State.closeAllPulls_within (s : State) :
    (State.closeAllPulls s).nv.array = s.nv.array ∧ (State.closeAllPulls s).nv.setup = s.nv.setup ∧ (State.closeAllPulls s).nv.intent = s.nv.intent ∧ (State.closeAllPulls s).ctl.number = s.ctl.number ∧ (State.closeAllPulls s).ctl.rate = s.ctl.rate ∧ (State.closeAllPulls s).ctl.members = s.ctl.members ∧ (State.closeAllPulls s).ctl.guardSet = s.ctl.guardSet ∧ (State.closeAllPulls s).ctl.state = s.ctl.state ∧ (State.closeAllPulls s).ctl.beaconDue = s.ctl.beaconDue ∧ (State.closeAllPulls s).ctl.beaconTimer = s.ctl.beaconTimer ∧ (State.closeAllPulls s).ctl.joining = s.ctl.joining ∧ (∀ (q : Nat) (hq : q < 64), (State.closeAllPulls s).table[q].stamp = s.table[q].stamp) := by
  unfold State.closeAllPulls
  refine ⟨?_, ?_, ?_, ?_, ?_, ?_, ?_, ?_, ?_, ?_, ?_, ?_⟩
  · exact (foldl_keeps (fun t : State => t.nv.array) _ (fun t x => by simp) _ _).trans (by simp)
  · exact (foldl_keeps (fun t : State => t.nv.setup) _ (fun t x => by simp) _ _).trans (by simp)
  · exact (foldl_keeps (fun t : State => t.nv.intent) _ (fun t x => by simp) _ _).trans (by simp)
  · exact (foldl_keeps (fun t : State => t.ctl.number) _ (fun t x => by simp) _ _).trans (by simp)
  · exact (foldl_keeps (fun t : State => t.ctl.rate) _ (fun t x => by simp) _ _).trans (by simp)
  · exact (foldl_keeps (fun t : State => t.ctl.members) _ (fun t x => by simp) _ _).trans (by simp)
  · exact (foldl_keeps (fun t : State => t.ctl.guardSet) _ (fun t x => by simp) _ _).trans (by simp)
  · exact (foldl_keeps (fun t : State => t.ctl.state) _ (fun t x => by simp) _ _).trans (by simp)
  · exact (foldl_keeps (fun t : State => t.ctl.beaconDue) _ (fun t x => by simp) _ _).trans (by simp)
  · exact (foldl_keeps (fun t : State => t.ctl.beaconTimer) _ (fun t x => by simp) _ _).trans (by simp)
  · exact (foldl_keeps (fun t : State => t.ctl.joining) _ (fun t x => by simp) _ _).trans (by simp)
  · intro q hq
    exact (foldl_keeps (fun t : State => t.table[q].stamp) _ (fun t x => by simp) _ _).trans (by simp)
@[simp] theorem State.closeAllPulls_nv_array (s : State) : (State.closeAllPulls s).nv.array = s.nv.array :=
  (State.closeAllPulls_within s).1
@[simp] theorem State.closeAllPulls_nv_setup (s : State) : (State.closeAllPulls s).nv.setup = s.nv.setup :=
  (State.closeAllPulls_within s).2.1
@[simp] theorem State.closeAllPulls_nv_intent (s : State) : (State.closeAllPulls s).nv.intent = s.nv.intent :=
  (State.closeAllPulls_within s).2.2.1
@[simp] theorem State.closeAllPulls_ctl_number (s : State) : (State.closeAllPulls s).ctl.number = s.ctl.number :=
  (State.closeAllPulls_within s).2.2.2.1
@[simp] theorem State.closeAllPulls_ctl_rate (s : State) : (State.closeAllPulls s).ctl.rate = s.ctl.rate :=
  (State.closeAllPulls_within s).2.2.2.2.1
@[simp] theorem State.closeAllPulls_ctl_members (s : State) : (State.closeAllPulls s).ctl.members = s.ctl.members :=
  (State.closeAllPulls_within s).2.2.2.2.2.1
@[simp] theorem State.closeAllPulls_ctl_guardSet (s : State) : (State.closeAllPulls s).ctl.guardSet = s.ctl.guardSet :=
  (State.closeAllPulls_within s).2.2.2.2.2.2.1
@[simp] theorem State.closeAllPulls_ctl_state (s : State) : (State.closeAllPulls s).ctl.state = s.ctl.state :=
  (State.closeAllPulls_within s).2.2.2.2.2.2.2.1
@[simp] theorem State.closeAllPulls_ctl_beaconDue (s : State) : (State.closeAllPulls s).ctl.beaconDue = s.ctl.beaconDue :=
  (State.closeAllPulls_within s).2.2.2.2.2.2.2.2.1
@[simp] theorem State.closeAllPulls_ctl_beaconTimer (s : State) : (State.closeAllPulls s).ctl.beaconTimer = s.ctl.beaconTimer :=
  (State.closeAllPulls_within s).2.2.2.2.2.2.2.2.2.1
@[simp] theorem State.closeAllPulls_ctl_joining (s : State) : (State.closeAllPulls s).ctl.joining = s.ctl.joining :=
  (State.closeAllPulls_within s).2.2.2.2.2.2.2.2.2.2.1
@[simp] theorem State.closeAllPulls_stamp (s : State) (q : Nat) (hq : q < 64) : (State.closeAllPulls s).table[q].stamp = s.table[q].stamp :=
  (State.closeAllPulls_within s).2.2.2.2.2.2.2.2.2.2.2 q hq

/-- Parts of its blocks that `openPull` keeps. -/
theorem State.openPull_within (s : State) (r : Region) (n : Station) (kept : Cause) :
    (State.openPull s r n kept).nv.array = s.nv.array ∧ (State.openPull s r n kept).nv.setup = s.nv.setup ∧ (State.openPull s r n kept).nv.intent = s.nv.intent ∧ (∀ (q : Nat) (hq : q < 64), (State.openPull s r n kept).table[q].stamp = s.table[q].stamp) := by
  unfold State.openPull; (repeat' (first | split | dsimp only)) <;> simp
@[simp] theorem State.openPull_nv_array (s : State) (r : Region) (n : Station) (kept : Cause) : (State.openPull s r n kept).nv.array = s.nv.array :=
  (State.openPull_within s r n kept).1
@[simp] theorem State.openPull_nv_setup (s : State) (r : Region) (n : Station) (kept : Cause) : (State.openPull s r n kept).nv.setup = s.nv.setup :=
  (State.openPull_within s r n kept).2.1
@[simp] theorem State.openPull_nv_intent (s : State) (r : Region) (n : Station) (kept : Cause) : (State.openPull s r n kept).nv.intent = s.nv.intent :=
  (State.openPull_within s r n kept).2.2.1
@[simp] theorem State.openPull_stamp (s : State) (r : Region) (n : Station) (kept : Cause) (q : Nat) (hq : q < 64) : (State.openPull s r n kept).table[q].stamp = s.table[q].stamp :=
  (State.openPull_within s r n kept).2.2.2 q hq

/-- Parts of its blocks that `openPullsFrom` keeps. -/
theorem State.openPullsFrom_within (n : Nat) (s : State) :
    (State.openPullsFrom n s).nv.array = s.nv.array ∧ (State.openPullsFrom n s).nv.setup = s.nv.setup ∧ (State.openPullsFrom n s).nv.intent = s.nv.intent ∧ (∀ (q : Nat) (hq : q < 64), (State.openPullsFrom n s).table[q].stamp = s.table[q].stamp) := by
  induction n generalizing s with
  | zero => simp [State.openPullsFrom]
  | succ n ih =>
    rcases h : s.nextPull with _ | p
    · simp [State.openPullsFrom_none n s h]
    · simp [State.openPullsFrom_some n s p h, ih]
@[simp] theorem State.openPullsFrom_nv_array (n : Nat) (s : State) : (State.openPullsFrom n s).nv.array = s.nv.array :=
  (State.openPullsFrom_within n s).1
@[simp] theorem State.openPullsFrom_nv_setup (n : Nat) (s : State) : (State.openPullsFrom n s).nv.setup = s.nv.setup :=
  (State.openPullsFrom_within n s).2.1
@[simp] theorem State.openPullsFrom_nv_intent (n : Nat) (s : State) : (State.openPullsFrom n s).nv.intent = s.nv.intent :=
  (State.openPullsFrom_within n s).2.2.1
@[simp] theorem State.openPullsFrom_stamp (n : Nat) (s : State) (q : Nat) (hq : q < 64) : (State.openPullsFrom n s).table[q].stamp = s.table[q].stamp :=
  (State.openPullsFrom_within n s).2.2.2 q hq

/-- Parts of its blocks that `openPulls` keeps. -/
theorem State.openPulls_within (s : State) :
    (State.openPulls s).nv.array = s.nv.array ∧ (State.openPulls s).nv.setup = s.nv.setup ∧ (State.openPulls s).nv.intent = s.nv.intent ∧ (∀ (q : Nat) (hq : q < 64), (State.openPulls s).table[q].stamp = s.table[q].stamp) := by
  unfold State.openPulls; (repeat' (first | split | dsimp only)) <;> simp
@[simp] theorem State.openPulls_nv_array (s : State) : (State.openPulls s).nv.array = s.nv.array :=
  (State.openPulls_within s).1
@[simp] theorem State.openPulls_nv_setup (s : State) : (State.openPulls s).nv.setup = s.nv.setup :=
  (State.openPulls_within s).2.1
@[simp] theorem State.openPulls_nv_intent (s : State) : (State.openPulls s).nv.intent = s.nv.intent :=
  (State.openPulls_within s).2.2.1
@[simp] theorem State.openPulls_stamp (s : State) (q : Nat) (hq : q < 64) : (State.openPulls s).table[q].stamp = s.table[q].stamp :=
  (State.openPulls_within s).2.2.2 q hq

/-- Parts of its blocks that `markStale` keeps. -/
theorem State.markStale_within (s : State) (r : Region) (c : Cause) :
    (State.markStale s r c).nv.array = s.nv.array ∧ (State.markStale s r c).nv.setup = s.nv.setup ∧ (State.markStale s r c).nv.intent = s.nv.intent ∧ (∀ (q : Nat) (hq : q < 64), (State.markStale s r c).table[q].stamp = s.table[q].stamp) := by
  unfold State.markStale; (repeat' (first | split | dsimp only)) <;> simp
@[simp] theorem State.markStale_nv_array (s : State) (r : Region) (c : Cause) : (State.markStale s r c).nv.array = s.nv.array :=
  (State.markStale_within s r c).1
@[simp] theorem State.markStale_nv_setup (s : State) (r : Region) (c : Cause) : (State.markStale s r c).nv.setup = s.nv.setup :=
  (State.markStale_within s r c).2.1
@[simp] theorem State.markStale_nv_intent (s : State) (r : Region) (c : Cause) : (State.markStale s r c).nv.intent = s.nv.intent :=
  (State.markStale_within s r c).2.2.1
@[simp] theorem State.markStale_stamp (s : State) (r : Region) (c : Cause) (q : Nat) (hq : q < 64) : (State.markStale s r c).table[q].stamp = s.table[q].stamp :=
  (State.markStale_within s r c).2.2.2 q hq

/-- Parts of its blocks that `dropFront` keeps. -/
theorem State.dropFront_within (s : State) (r : Region) :
    (State.dropFront s r).roster.entries = s.roster.entries ∧ (State.dropFront s r).roster.lastAck = s.roster.lastAck ∧ (State.dropFront s r).roster.cursor = s.roster.cursor := by
  unfold State.dropFront; (repeat' (first | split | dsimp only)) <;> simp
@[simp] theorem State.dropFront_roster_entries (s : State) (r : Region) : (State.dropFront s r).roster.entries = s.roster.entries :=
  (State.dropFront_within s r).1
@[simp] theorem State.dropFront_roster_lastAck (s : State) (r : Region) : (State.dropFront s r).roster.lastAck = s.roster.lastAck :=
  (State.dropFront_within s r).2.1
@[simp] theorem State.dropFront_roster_cursor (s : State) (r : Region) : (State.dropFront s r).roster.cursor = s.roster.cursor :=
  (State.dropFront_within s r).2.2

/-- Parts of its blocks that `surrender` keeps. -/
theorem State.surrender_within (s : State) (r : Region) :
    (State.surrender s r).nv.array = s.nv.array ∧ (State.surrender s r).nv.setup = s.nv.setup ∧ (State.surrender s r).nv.intent = s.nv.intent ∧ (State.surrender s r).ctl.number = s.ctl.number ∧ (State.surrender s r).ctl.rate = s.ctl.rate ∧ (State.surrender s r).ctl.members = s.ctl.members ∧ (State.surrender s r).ctl.guardSet = s.ctl.guardSet ∧ (State.surrender s r).ctl.state = s.ctl.state ∧ (State.surrender s r).ctl.beaconDue = s.ctl.beaconDue ∧ (State.surrender s r).ctl.beaconTimer = s.ctl.beaconTimer ∧ (State.surrender s r).ctl.joining = s.ctl.joining ∧ (State.surrender s r).roster.entries = s.roster.entries ∧ (State.surrender s r).roster.lastAck = s.roster.lastAck ∧ (State.surrender s r).roster.cursor = s.roster.cursor ∧ (State.surrender s r).port.refused = s.port.refused ∧ (State.surrender s r).port.sdo = s.port.sdo ∧ (∀ (q : Nat) (hq : q < 64), (State.surrender s r).table[q].stamp = s.table[q].stamp) := by
  unfold State.surrender; (repeat' (first | split | dsimp only)) <;> simp
@[simp] theorem State.surrender_nv_array (s : State) (r : Region) : (State.surrender s r).nv.array = s.nv.array :=
  (State.surrender_within s r).1
@[simp] theorem State.surrender_nv_setup (s : State) (r : Region) : (State.surrender s r).nv.setup = s.nv.setup :=
  (State.surrender_within s r).2.1
@[simp] theorem State.surrender_nv_intent (s : State) (r : Region) : (State.surrender s r).nv.intent = s.nv.intent :=
  (State.surrender_within s r).2.2.1
@[simp] theorem State.surrender_ctl_number (s : State) (r : Region) : (State.surrender s r).ctl.number = s.ctl.number :=
  (State.surrender_within s r).2.2.2.1
@[simp] theorem State.surrender_ctl_rate (s : State) (r : Region) : (State.surrender s r).ctl.rate = s.ctl.rate :=
  (State.surrender_within s r).2.2.2.2.1
@[simp] theorem State.surrender_ctl_members (s : State) (r : Region) : (State.surrender s r).ctl.members = s.ctl.members :=
  (State.surrender_within s r).2.2.2.2.2.1
@[simp] theorem State.surrender_ctl_guardSet (s : State) (r : Region) : (State.surrender s r).ctl.guardSet = s.ctl.guardSet :=
  (State.surrender_within s r).2.2.2.2.2.2.1
@[simp] theorem State.surrender_ctl_state (s : State) (r : Region) : (State.surrender s r).ctl.state = s.ctl.state :=
  (State.surrender_within s r).2.2.2.2.2.2.2.1
@[simp] theorem State.surrender_ctl_beaconDue (s : State) (r : Region) : (State.surrender s r).ctl.beaconDue = s.ctl.beaconDue :=
  (State.surrender_within s r).2.2.2.2.2.2.2.2.1
@[simp] theorem State.surrender_ctl_beaconTimer (s : State) (r : Region) : (State.surrender s r).ctl.beaconTimer = s.ctl.beaconTimer :=
  (State.surrender_within s r).2.2.2.2.2.2.2.2.2.1
@[simp] theorem State.surrender_ctl_joining (s : State) (r : Region) : (State.surrender s r).ctl.joining = s.ctl.joining :=
  (State.surrender_within s r).2.2.2.2.2.2.2.2.2.2.1
@[simp] theorem State.surrender_roster_entries (s : State) (r : Region) : (State.surrender s r).roster.entries = s.roster.entries :=
  (State.surrender_within s r).2.2.2.2.2.2.2.2.2.2.2.1
@[simp] theorem State.surrender_roster_lastAck (s : State) (r : Region) : (State.surrender s r).roster.lastAck = s.roster.lastAck :=
  (State.surrender_within s r).2.2.2.2.2.2.2.2.2.2.2.2.1
@[simp] theorem State.surrender_roster_cursor (s : State) (r : Region) : (State.surrender s r).roster.cursor = s.roster.cursor :=
  (State.surrender_within s r).2.2.2.2.2.2.2.2.2.2.2.2.2.1
@[simp] theorem State.surrender_port_refused (s : State) (r : Region) : (State.surrender s r).port.refused = s.port.refused :=
  (State.surrender_within s r).2.2.2.2.2.2.2.2.2.2.2.2.2.2.1
@[simp] theorem State.surrender_port_sdo (s : State) (r : Region) : (State.surrender s r).port.sdo = s.port.sdo :=
  (State.surrender_within s r).2.2.2.2.2.2.2.2.2.2.2.2.2.2.2.1
@[simp] theorem State.surrender_stamp (s : State) (r : Region) (q : Nat) (hq : q < 64) : (State.surrender s r).table[q].stamp = s.table[q].stamp :=
  (State.surrender_within s r).2.2.2.2.2.2.2.2.2.2.2.2.2.2.2.2 q hq

/-- Parts of its blocks that `assume` keeps. -/
theorem State.assume_within (s : State) (r : Region) :
    (State.assume s r).nv.array = s.nv.array ∧ (State.assume s r).nv.setup = s.nv.setup ∧ (State.assume s r).nv.intent = s.nv.intent ∧ (∀ (q : Nat) (hq : q < 64), (State.assume s r).table[q].stamp = s.table[q].stamp) := by
  unfold State.assume; (repeat' (first | split | dsimp only)) <;> simp
@[simp] theorem State.assume_nv_array (s : State) (r : Region) : (State.assume s r).nv.array = s.nv.array :=
  (State.assume_within s r).1
@[simp] theorem State.assume_nv_setup (s : State) (r : Region) : (State.assume s r).nv.setup = s.nv.setup :=
  (State.assume_within s r).2.1
@[simp] theorem State.assume_nv_intent (s : State) (r : Region) : (State.assume s r).nv.intent = s.nv.intent :=
  (State.assume_within s r).2.2.1
@[simp] theorem State.assume_stamp (s : State) (r : Region) (q : Nat) (hq : q < 64) : (State.assume s r).table[q].stamp = s.table[q].stamp :=
  (State.assume_within s r).2.2.2 q hq

/-- Parts of its blocks that `partOld` keeps. -/
theorem State.partOld_within (s : State) (r : Region) (self : Bool) :
    (State.partOld s r self).nv.array = s.nv.array ∧ (State.partOld s r self).nv.setup = s.nv.setup ∧ (State.partOld s r self).nv.intent = s.nv.intent ∧ (State.partOld s r self).ctl.number = s.ctl.number ∧ (State.partOld s r self).ctl.rate = s.ctl.rate ∧ (State.partOld s r self).ctl.members = s.ctl.members ∧ (State.partOld s r self).ctl.guardSet = s.ctl.guardSet ∧ (State.partOld s r self).ctl.state = s.ctl.state ∧ (State.partOld s r self).ctl.beaconDue = s.ctl.beaconDue ∧ (State.partOld s r self).ctl.beaconTimer = s.ctl.beaconTimer ∧ (State.partOld s r self).ctl.joining = s.ctl.joining ∧ (State.partOld s r self).roster.entries = s.roster.entries ∧ (State.partOld s r self).roster.lastAck = s.roster.lastAck ∧ (State.partOld s r self).roster.cursor = s.roster.cursor ∧ (State.partOld s r self).port.refused = s.port.refused ∧ (State.partOld s r self).port.sdo = s.port.sdo ∧ (∀ (q : Nat) (hq : q < 64), (State.partOld s r self).table[q].stamp = s.table[q].stamp) := by
  unfold State.partOld; (repeat' (first | split | dsimp only)) <;> simp
@[simp] theorem State.partOld_nv_array (s : State) (r : Region) (self : Bool) : (State.partOld s r self).nv.array = s.nv.array :=
  (State.partOld_within s r self).1
@[simp] theorem State.partOld_nv_setup (s : State) (r : Region) (self : Bool) : (State.partOld s r self).nv.setup = s.nv.setup :=
  (State.partOld_within s r self).2.1
@[simp] theorem State.partOld_nv_intent (s : State) (r : Region) (self : Bool) : (State.partOld s r self).nv.intent = s.nv.intent :=
  (State.partOld_within s r self).2.2.1
@[simp] theorem State.partOld_ctl_number (s : State) (r : Region) (self : Bool) : (State.partOld s r self).ctl.number = s.ctl.number :=
  (State.partOld_within s r self).2.2.2.1
@[simp] theorem State.partOld_ctl_rate (s : State) (r : Region) (self : Bool) : (State.partOld s r self).ctl.rate = s.ctl.rate :=
  (State.partOld_within s r self).2.2.2.2.1
@[simp] theorem State.partOld_ctl_members (s : State) (r : Region) (self : Bool) : (State.partOld s r self).ctl.members = s.ctl.members :=
  (State.partOld_within s r self).2.2.2.2.2.1
@[simp] theorem State.partOld_ctl_guardSet (s : State) (r : Region) (self : Bool) : (State.partOld s r self).ctl.guardSet = s.ctl.guardSet :=
  (State.partOld_within s r self).2.2.2.2.2.2.1
@[simp] theorem State.partOld_ctl_state (s : State) (r : Region) (self : Bool) : (State.partOld s r self).ctl.state = s.ctl.state :=
  (State.partOld_within s r self).2.2.2.2.2.2.2.1
@[simp] theorem State.partOld_ctl_beaconDue (s : State) (r : Region) (self : Bool) : (State.partOld s r self).ctl.beaconDue = s.ctl.beaconDue :=
  (State.partOld_within s r self).2.2.2.2.2.2.2.2.1
@[simp] theorem State.partOld_ctl_beaconTimer (s : State) (r : Region) (self : Bool) : (State.partOld s r self).ctl.beaconTimer = s.ctl.beaconTimer :=
  (State.partOld_within s r self).2.2.2.2.2.2.2.2.2.1
@[simp] theorem State.partOld_ctl_joining (s : State) (r : Region) (self : Bool) : (State.partOld s r self).ctl.joining = s.ctl.joining :=
  (State.partOld_within s r self).2.2.2.2.2.2.2.2.2.2.1
@[simp] theorem State.partOld_roster_entries (s : State) (r : Region) (self : Bool) : (State.partOld s r self).roster.entries = s.roster.entries :=
  (State.partOld_within s r self).2.2.2.2.2.2.2.2.2.2.2.1
@[simp] theorem State.partOld_roster_lastAck (s : State) (r : Region) (self : Bool) : (State.partOld s r self).roster.lastAck = s.roster.lastAck :=
  (State.partOld_within s r self).2.2.2.2.2.2.2.2.2.2.2.2.1
@[simp] theorem State.partOld_roster_cursor (s : State) (r : Region) (self : Bool) : (State.partOld s r self).roster.cursor = s.roster.cursor :=
  (State.partOld_within s r self).2.2.2.2.2.2.2.2.2.2.2.2.2.1
@[simp] theorem State.partOld_port_refused (s : State) (r : Region) (self : Bool) : (State.partOld s r self).port.refused = s.port.refused :=
  (State.partOld_within s r self).2.2.2.2.2.2.2.2.2.2.2.2.2.2.1
@[simp] theorem State.partOld_port_sdo (s : State) (r : Region) (self : Bool) : (State.partOld s r self).port.sdo = s.port.sdo :=
  (State.partOld_within s r self).2.2.2.2.2.2.2.2.2.2.2.2.2.2.2.1
@[simp] theorem State.partOld_stamp (s : State) (r : Region) (self : Bool) (q : Nat) (hq : q < 64) : (State.partOld s r self).table[q].stamp = s.table[q].stamp :=
  (State.partOld_within s r self).2.2.2.2.2.2.2.2.2.2.2.2.2.2.2.2 q hq

/-- Parts of its blocks that `partNew` keeps. -/
theorem State.partNew_within (s : State) (r : Region) (self : Bool) :
    (State.partNew s r self).nv.array = s.nv.array ∧ (State.partNew s r self).nv.setup = s.nv.setup ∧ (State.partNew s r self).nv.intent = s.nv.intent ∧ (∀ (q : Nat) (hq : q < 64), (State.partNew s r self).table[q].stamp = s.table[q].stamp) := by
  unfold State.partNew; (repeat' (first | split | dsimp only)) <;> simp
@[simp] theorem State.partNew_nv_array (s : State) (r : Region) (self : Bool) : (State.partNew s r self).nv.array = s.nv.array :=
  (State.partNew_within s r self).1
@[simp] theorem State.partNew_nv_setup (s : State) (r : Region) (self : Bool) : (State.partNew s r self).nv.setup = s.nv.setup :=
  (State.partNew_within s r self).2.1
@[simp] theorem State.partNew_nv_intent (s : State) (r : Region) (self : Bool) : (State.partNew s r self).nv.intent = s.nv.intent :=
  (State.partNew_within s r self).2.2.1
@[simp] theorem State.partNew_stamp (s : State) (r : Region) (self : Bool) (q : Nat) (hq : q < 64) : (State.partNew s r self).table[q].stamp = s.table[q].stamp :=
  (State.partNew_within s r self).2.2.2 q hq

/-- Parts of its blocks that `changeOwner` keeps. -/
theorem State.changeOwner_within (s : State) (r : Region) (o : Option Owner) :
    (State.changeOwner s r o).nv.array = s.nv.array ∧ (State.changeOwner s r o).nv.setup = s.nv.setup ∧ (State.changeOwner s r o).nv.intent = s.nv.intent ∧ (State.changeOwner s r o).ctl.number = s.ctl.number ∧ (State.changeOwner s r o).ctl.rate = s.ctl.rate ∧ (State.changeOwner s r o).ctl.members = s.ctl.members ∧ (State.changeOwner s r o).ctl.guardSet = s.ctl.guardSet ∧ (State.changeOwner s r o).ctl.state = s.ctl.state ∧ (State.changeOwner s r o).ctl.beaconDue = s.ctl.beaconDue ∧ (State.changeOwner s r o).ctl.beaconTimer = s.ctl.beaconTimer ∧ (State.changeOwner s r o).ctl.joining = s.ctl.joining ∧ (State.changeOwner s r o).roster.entries = s.roster.entries ∧ (State.changeOwner s r o).roster.lastAck = s.roster.lastAck ∧ (State.changeOwner s r o).roster.cursor = s.roster.cursor ∧ (State.changeOwner s r o).port.refused = s.port.refused ∧ (State.changeOwner s r o).port.sdo = s.port.sdo ∧ (∀ (q : Nat) (hq : q < 64), (State.changeOwner s r o).table[q].stamp = s.table[q].stamp) := by
  unfold State.changeOwner; (repeat' (first | split | dsimp only)) <;> simp
@[simp] theorem State.changeOwner_nv_array (s : State) (r : Region) (o : Option Owner) : (State.changeOwner s r o).nv.array = s.nv.array :=
  (State.changeOwner_within s r o).1
@[simp] theorem State.changeOwner_nv_setup (s : State) (r : Region) (o : Option Owner) : (State.changeOwner s r o).nv.setup = s.nv.setup :=
  (State.changeOwner_within s r o).2.1
@[simp] theorem State.changeOwner_nv_intent (s : State) (r : Region) (o : Option Owner) : (State.changeOwner s r o).nv.intent = s.nv.intent :=
  (State.changeOwner_within s r o).2.2.1
@[simp] theorem State.changeOwner_ctl_number (s : State) (r : Region) (o : Option Owner) : (State.changeOwner s r o).ctl.number = s.ctl.number :=
  (State.changeOwner_within s r o).2.2.2.1
@[simp] theorem State.changeOwner_ctl_rate (s : State) (r : Region) (o : Option Owner) : (State.changeOwner s r o).ctl.rate = s.ctl.rate :=
  (State.changeOwner_within s r o).2.2.2.2.1
@[simp] theorem State.changeOwner_ctl_members (s : State) (r : Region) (o : Option Owner) : (State.changeOwner s r o).ctl.members = s.ctl.members :=
  (State.changeOwner_within s r o).2.2.2.2.2.1
@[simp] theorem State.changeOwner_ctl_guardSet (s : State) (r : Region) (o : Option Owner) : (State.changeOwner s r o).ctl.guardSet = s.ctl.guardSet :=
  (State.changeOwner_within s r o).2.2.2.2.2.2.1
@[simp] theorem State.changeOwner_ctl_state (s : State) (r : Region) (o : Option Owner) : (State.changeOwner s r o).ctl.state = s.ctl.state :=
  (State.changeOwner_within s r o).2.2.2.2.2.2.2.1
@[simp] theorem State.changeOwner_ctl_beaconDue (s : State) (r : Region) (o : Option Owner) : (State.changeOwner s r o).ctl.beaconDue = s.ctl.beaconDue :=
  (State.changeOwner_within s r o).2.2.2.2.2.2.2.2.1
@[simp] theorem State.changeOwner_ctl_beaconTimer (s : State) (r : Region) (o : Option Owner) : (State.changeOwner s r o).ctl.beaconTimer = s.ctl.beaconTimer :=
  (State.changeOwner_within s r o).2.2.2.2.2.2.2.2.2.1
@[simp] theorem State.changeOwner_ctl_joining (s : State) (r : Region) (o : Option Owner) : (State.changeOwner s r o).ctl.joining = s.ctl.joining :=
  (State.changeOwner_within s r o).2.2.2.2.2.2.2.2.2.2.1
@[simp] theorem State.changeOwner_roster_entries (s : State) (r : Region) (o : Option Owner) : (State.changeOwner s r o).roster.entries = s.roster.entries :=
  (State.changeOwner_within s r o).2.2.2.2.2.2.2.2.2.2.2.1
@[simp] theorem State.changeOwner_roster_lastAck (s : State) (r : Region) (o : Option Owner) : (State.changeOwner s r o).roster.lastAck = s.roster.lastAck :=
  (State.changeOwner_within s r o).2.2.2.2.2.2.2.2.2.2.2.2.1
@[simp] theorem State.changeOwner_roster_cursor (s : State) (r : Region) (o : Option Owner) : (State.changeOwner s r o).roster.cursor = s.roster.cursor :=
  (State.changeOwner_within s r o).2.2.2.2.2.2.2.2.2.2.2.2.2.1
@[simp] theorem State.changeOwner_port_refused (s : State) (r : Region) (o : Option Owner) : (State.changeOwner s r o).port.refused = s.port.refused :=
  (State.changeOwner_within s r o).2.2.2.2.2.2.2.2.2.2.2.2.2.2.1
@[simp] theorem State.changeOwner_port_sdo (s : State) (r : Region) (o : Option Owner) : (State.changeOwner s r o).port.sdo = s.port.sdo :=
  (State.changeOwner_within s r o).2.2.2.2.2.2.2.2.2.2.2.2.2.2.2.1
@[simp] theorem State.changeOwner_stamp (s : State) (r : Region) (o : Option Owner) (q : Nat) (hq : q < 64) : (State.changeOwner s r o).table[q].stamp = s.table[q].stamp :=
  (State.changeOwner_within s r o).2.2.2.2.2.2.2.2.2.2.2.2.2.2.2.2 q hq

/-- Parts of its blocks that `setState` keeps. -/
theorem State.setState_within (s : State) (st : StationState) :
    (State.setState s st).ctl.number = s.ctl.number ∧ (State.setState s st).ctl.rate = s.ctl.rate ∧ (State.setState s st).ctl.members = s.ctl.members ∧ (State.setState s st).ctl.guardSet = s.ctl.guardSet ∧ (State.setState s st).ctl.beaconDue = s.ctl.beaconDue ∧ (State.setState s st).ctl.beaconTimer = s.ctl.beaconTimer ∧ (State.setState s st).ctl.joining = s.ctl.joining := by
  unfold State.setState; (repeat' (first | split | dsimp only)) <;> simp
@[simp] theorem State.setState_ctl_number (s : State) (st : StationState) : (State.setState s st).ctl.number = s.ctl.number :=
  (State.setState_within s st).1
@[simp] theorem State.setState_ctl_rate (s : State) (st : StationState) : (State.setState s st).ctl.rate = s.ctl.rate :=
  (State.setState_within s st).2.1
@[simp] theorem State.setState_ctl_members (s : State) (st : StationState) : (State.setState s st).ctl.members = s.ctl.members :=
  (State.setState_within s st).2.2.1
@[simp] theorem State.setState_ctl_guardSet (s : State) (st : StationState) : (State.setState s st).ctl.guardSet = s.ctl.guardSet :=
  (State.setState_within s st).2.2.2.1
@[simp] theorem State.setState_ctl_beaconDue (s : State) (st : StationState) : (State.setState s st).ctl.beaconDue = s.ctl.beaconDue :=
  (State.setState_within s st).2.2.2.2.1
@[simp] theorem State.setState_ctl_beaconTimer (s : State) (st : StationState) : (State.setState s st).ctl.beaconTimer = s.ctl.beaconTimer :=
  (State.setState_within s st).2.2.2.2.2.1
@[simp] theorem State.setState_ctl_joining (s : State) (st : StationState) : (State.setState s st).ctl.joining = s.ctl.joining :=
  (State.setState_within s st).2.2.2.2.2.2

/-- Parts of its blocks that `quorumCheck` keeps. -/
theorem State.quorumCheck_within (s : State) :
    (State.quorumCheck s).nv.array = s.nv.array ∧ (State.quorumCheck s).nv.setup = s.nv.setup ∧ (State.quorumCheck s).nv.intent = s.nv.intent ∧ (State.quorumCheck s).ctl.number = s.ctl.number ∧ (State.quorumCheck s).ctl.rate = s.ctl.rate ∧ (State.quorumCheck s).ctl.members = s.ctl.members ∧ (State.quorumCheck s).ctl.guardSet = s.ctl.guardSet ∧ (State.quorumCheck s).ctl.beaconDue = s.ctl.beaconDue ∧ (State.quorumCheck s).ctl.beaconTimer = s.ctl.beaconTimer ∧ (State.quorumCheck s).ctl.joining = s.ctl.joining ∧ (∀ (q : Nat) (hq : q < 64), (State.quorumCheck s).table[q].stamp = s.table[q].stamp) := by
  unfold State.quorumCheck; (repeat' (first | split | dsimp only)) <;> simp
@[simp] theorem State.quorumCheck_nv_array (s : State) : (State.quorumCheck s).nv.array = s.nv.array :=
  (State.quorumCheck_within s).1
@[simp] theorem State.quorumCheck_nv_setup (s : State) : (State.quorumCheck s).nv.setup = s.nv.setup :=
  (State.quorumCheck_within s).2.1
@[simp] theorem State.quorumCheck_nv_intent (s : State) : (State.quorumCheck s).nv.intent = s.nv.intent :=
  (State.quorumCheck_within s).2.2.1
@[simp] theorem State.quorumCheck_ctl_number (s : State) : (State.quorumCheck s).ctl.number = s.ctl.number :=
  (State.quorumCheck_within s).2.2.2.1
@[simp] theorem State.quorumCheck_ctl_rate (s : State) : (State.quorumCheck s).ctl.rate = s.ctl.rate :=
  (State.quorumCheck_within s).2.2.2.2.1
@[simp] theorem State.quorumCheck_ctl_members (s : State) : (State.quorumCheck s).ctl.members = s.ctl.members :=
  (State.quorumCheck_within s).2.2.2.2.2.1
@[simp] theorem State.quorumCheck_ctl_guardSet (s : State) : (State.quorumCheck s).ctl.guardSet = s.ctl.guardSet :=
  (State.quorumCheck_within s).2.2.2.2.2.2.1
@[simp] theorem State.quorumCheck_ctl_beaconDue (s : State) : (State.quorumCheck s).ctl.beaconDue = s.ctl.beaconDue :=
  (State.quorumCheck_within s).2.2.2.2.2.2.2.1
@[simp] theorem State.quorumCheck_ctl_beaconTimer (s : State) : (State.quorumCheck s).ctl.beaconTimer = s.ctl.beaconTimer :=
  (State.quorumCheck_within s).2.2.2.2.2.2.2.2.1
@[simp] theorem State.quorumCheck_ctl_joining (s : State) : (State.quorumCheck s).ctl.joining = s.ctl.joining :=
  (State.quorumCheck_within s).2.2.2.2.2.2.2.2.2.1
@[simp] theorem State.quorumCheck_stamp (s : State) (q : Nat) (hq : q < 64) : (State.quorumCheck s).table[q].stamp = s.table[q].stamp :=
  (State.quorumCheck_within s).2.2.2.2.2.2.2.2.2.2 q hq

/-- Parts of its blocks that `mapRosterEntry` keeps. -/
theorem State.mapRosterEntry_within (s : State) (n : Station) (f : RosterEntry → RosterEntry) :
    (State.mapRosterEntry s n f).roster.lastAck = s.roster.lastAck ∧ (State.mapRosterEntry s n f).roster.cursor = s.roster.cursor := by
  unfold State.mapRosterEntry; (repeat' (first | split | dsimp only)) <;> simp
@[simp] theorem State.mapRosterEntry_roster_lastAck (s : State) (n : Station) (f : RosterEntry → RosterEntry) : (State.mapRosterEntry s n f).roster.lastAck = s.roster.lastAck :=
  (State.mapRosterEntry_within s n f).1
@[simp] theorem State.mapRosterEntry_roster_cursor (s : State) (n : Station) (f : RosterEntry → RosterEntry) : (State.mapRosterEntry s n f).roster.cursor = s.roster.cursor :=
  (State.mapRosterEntry_within s n f).2

/-- Parts of its blocks that `targetsFollow` keeps. -/
theorem State.targetsFollow_within (s : State) (n : Station) (st : Presence) :
    (State.targetsFollow s n st).nv.array = s.nv.array ∧ (State.targetsFollow s n st).nv.setup = s.nv.setup ∧ (State.targetsFollow s n st).nv.intent = s.nv.intent ∧ (State.targetsFollow s n st).ctl.number = s.ctl.number ∧ (State.targetsFollow s n st).ctl.rate = s.ctl.rate ∧ (State.targetsFollow s n st).ctl.members = s.ctl.members ∧ (State.targetsFollow s n st).ctl.guardSet = s.ctl.guardSet ∧ (State.targetsFollow s n st).ctl.state = s.ctl.state ∧ (State.targetsFollow s n st).ctl.beaconDue = s.ctl.beaconDue ∧ (State.targetsFollow s n st).ctl.beaconTimer = s.ctl.beaconTimer ∧ (State.targetsFollow s n st).ctl.joining = s.ctl.joining ∧ (∀ (q : Nat) (hq : q < 64), (State.targetsFollow s n st).table[q].stamp = s.table[q].stamp) := by
  unfold State.targetsFollow; (repeat' (first | split | dsimp only)) <;> simp
@[simp] theorem State.targetsFollow_nv_array (s : State) (n : Station) (st : Presence) : (State.targetsFollow s n st).nv.array = s.nv.array :=
  (State.targetsFollow_within s n st).1
@[simp] theorem State.targetsFollow_nv_setup (s : State) (n : Station) (st : Presence) : (State.targetsFollow s n st).nv.setup = s.nv.setup :=
  (State.targetsFollow_within s n st).2.1
@[simp] theorem State.targetsFollow_nv_intent (s : State) (n : Station) (st : Presence) : (State.targetsFollow s n st).nv.intent = s.nv.intent :=
  (State.targetsFollow_within s n st).2.2.1
@[simp] theorem State.targetsFollow_ctl_number (s : State) (n : Station) (st : Presence) : (State.targetsFollow s n st).ctl.number = s.ctl.number :=
  (State.targetsFollow_within s n st).2.2.2.1
@[simp] theorem State.targetsFollow_ctl_rate (s : State) (n : Station) (st : Presence) : (State.targetsFollow s n st).ctl.rate = s.ctl.rate :=
  (State.targetsFollow_within s n st).2.2.2.2.1
@[simp] theorem State.targetsFollow_ctl_members (s : State) (n : Station) (st : Presence) : (State.targetsFollow s n st).ctl.members = s.ctl.members :=
  (State.targetsFollow_within s n st).2.2.2.2.2.1
@[simp] theorem State.targetsFollow_ctl_guardSet (s : State) (n : Station) (st : Presence) : (State.targetsFollow s n st).ctl.guardSet = s.ctl.guardSet :=
  (State.targetsFollow_within s n st).2.2.2.2.2.2.1
@[simp] theorem State.targetsFollow_ctl_state (s : State) (n : Station) (st : Presence) : (State.targetsFollow s n st).ctl.state = s.ctl.state :=
  (State.targetsFollow_within s n st).2.2.2.2.2.2.2.1
@[simp] theorem State.targetsFollow_ctl_beaconDue (s : State) (n : Station) (st : Presence) : (State.targetsFollow s n st).ctl.beaconDue = s.ctl.beaconDue :=
  (State.targetsFollow_within s n st).2.2.2.2.2.2.2.2.1
@[simp] theorem State.targetsFollow_ctl_beaconTimer (s : State) (n : Station) (st : Presence) : (State.targetsFollow s n st).ctl.beaconTimer = s.ctl.beaconTimer :=
  (State.targetsFollow_within s n st).2.2.2.2.2.2.2.2.2.1
@[simp] theorem State.targetsFollow_ctl_joining (s : State) (n : Station) (st : Presence) : (State.targetsFollow s n st).ctl.joining = s.ctl.joining :=
  (State.targetsFollow_within s n st).2.2.2.2.2.2.2.2.2.2.1
@[simp] theorem State.targetsFollow_stamp (s : State) (n : Station) (st : Presence) (q : Nat) (hq : q < 64) : (State.targetsFollow s n st).table[q].stamp = s.table[q].stamp :=
  (State.targetsFollow_within s n st).2.2.2.2.2.2.2.2.2.2.2 q hq

/-- Parts of its blocks that `differsFollows` keeps. -/
theorem State.differsFollows_within (s : State) (n : Station) (st : Presence) :
    (State.differsFollows s n st).roster.lastAck = s.roster.lastAck ∧ (State.differsFollows s n st).roster.cursor = s.roster.cursor := by
  unfold State.differsFollows; (repeat' (first | split | dsimp only)) <;> simp
@[simp] theorem State.differsFollows_roster_lastAck (s : State) (n : Station) (st : Presence) : (State.differsFollows s n st).roster.lastAck = s.roster.lastAck :=
  (State.differsFollows_within s n st).1
@[simp] theorem State.differsFollows_roster_cursor (s : State) (n : Station) (st : Presence) : (State.differsFollows s n st).roster.cursor = s.roster.cursor :=
  (State.differsFollows_within s n st).2

/-- Parts of its blocks that `statusChange` keeps. -/
theorem State.statusChange_within (s : State) (n : Station) (st : Presence) :
    (State.statusChange s n st).nv.array = s.nv.array ∧ (State.statusChange s n st).nv.setup = s.nv.setup ∧ (State.statusChange s n st).nv.intent = s.nv.intent ∧ (State.statusChange s n st).ctl.number = s.ctl.number ∧ (State.statusChange s n st).ctl.rate = s.ctl.rate ∧ (State.statusChange s n st).ctl.members = s.ctl.members ∧ (State.statusChange s n st).ctl.guardSet = s.ctl.guardSet ∧ (State.statusChange s n st).ctl.beaconDue = s.ctl.beaconDue ∧ (State.statusChange s n st).ctl.beaconTimer = s.ctl.beaconTimer ∧ (State.statusChange s n st).ctl.joining = s.ctl.joining ∧ (State.statusChange s n st).roster.lastAck = s.roster.lastAck ∧ (State.statusChange s n st).roster.cursor = s.roster.cursor ∧ (∀ (q : Nat) (hq : q < 64), (State.statusChange s n st).table[q].stamp = s.table[q].stamp) := by
  unfold State.statusChange; (repeat' (first | split | dsimp only)) <;> simp
@[simp] theorem State.statusChange_nv_array (s : State) (n : Station) (st : Presence) : (State.statusChange s n st).nv.array = s.nv.array :=
  (State.statusChange_within s n st).1
@[simp] theorem State.statusChange_nv_setup (s : State) (n : Station) (st : Presence) : (State.statusChange s n st).nv.setup = s.nv.setup :=
  (State.statusChange_within s n st).2.1
@[simp] theorem State.statusChange_nv_intent (s : State) (n : Station) (st : Presence) : (State.statusChange s n st).nv.intent = s.nv.intent :=
  (State.statusChange_within s n st).2.2.1
@[simp] theorem State.statusChange_ctl_number (s : State) (n : Station) (st : Presence) : (State.statusChange s n st).ctl.number = s.ctl.number :=
  (State.statusChange_within s n st).2.2.2.1
@[simp] theorem State.statusChange_ctl_rate (s : State) (n : Station) (st : Presence) : (State.statusChange s n st).ctl.rate = s.ctl.rate :=
  (State.statusChange_within s n st).2.2.2.2.1
@[simp] theorem State.statusChange_ctl_members (s : State) (n : Station) (st : Presence) : (State.statusChange s n st).ctl.members = s.ctl.members :=
  (State.statusChange_within s n st).2.2.2.2.2.1
@[simp] theorem State.statusChange_ctl_guardSet (s : State) (n : Station) (st : Presence) : (State.statusChange s n st).ctl.guardSet = s.ctl.guardSet :=
  (State.statusChange_within s n st).2.2.2.2.2.2.1
@[simp] theorem State.statusChange_ctl_beaconDue (s : State) (n : Station) (st : Presence) : (State.statusChange s n st).ctl.beaconDue = s.ctl.beaconDue :=
  (State.statusChange_within s n st).2.2.2.2.2.2.2.1
@[simp] theorem State.statusChange_ctl_beaconTimer (s : State) (n : Station) (st : Presence) : (State.statusChange s n st).ctl.beaconTimer = s.ctl.beaconTimer :=
  (State.statusChange_within s n st).2.2.2.2.2.2.2.2.1
@[simp] theorem State.statusChange_ctl_joining (s : State) (n : Station) (st : Presence) : (State.statusChange s n st).ctl.joining = s.ctl.joining :=
  (State.statusChange_within s n st).2.2.2.2.2.2.2.2.2.1
@[simp] theorem State.statusChange_roster_lastAck (s : State) (n : Station) (st : Presence) : (State.statusChange s n st).roster.lastAck = s.roster.lastAck :=
  (State.statusChange_within s n st).2.2.2.2.2.2.2.2.2.2.1
@[simp] theorem State.statusChange_roster_cursor (s : State) (n : Station) (st : Presence) : (State.statusChange s n st).roster.cursor = s.roster.cursor :=
  (State.statusChange_within s n st).2.2.2.2.2.2.2.2.2.2.2.1
@[simp] theorem State.statusChange_stamp (s : State) (n : Station) (st : Presence) (q : Nat) (hq : q < 64) : (State.statusChange s n st).table[q].stamp = s.table[q].stamp :=
  (State.statusChange_within s n st).2.2.2.2.2.2.2.2.2.2.2.2 q hq

/-- Parts of its blocks that `clearRoster` keeps. -/
theorem State.clearRoster_within (s : State) :
    (State.clearRoster s).roster.lastAck = s.roster.lastAck ∧ (State.clearRoster s).roster.cursor = s.roster.cursor := by
  unfold State.clearRoster; (repeat' (first | split | dsimp only)) <;> simp
@[simp] theorem State.clearRoster_roster_lastAck (s : State) : (State.clearRoster s).roster.lastAck = s.roster.lastAck :=
  (State.clearRoster_within s).1
@[simp] theorem State.clearRoster_roster_cursor (s : State) : (State.clearRoster s).roster.cursor = s.roster.cursor :=
  (State.clearRoster_within s).2

/-- Parts of its blocks that `followFrame` keeps. -/
theorem State.followFrame_within (s : State) (f : Frame) :
    (State.followFrame s f).nv.array = s.nv.array ∧ (State.followFrame s f).nv.setup = s.nv.setup ∧ (State.followFrame s f).nv.intent = s.nv.intent ∧ (State.followFrame s f).ctl.number = s.ctl.number ∧ (State.followFrame s f).ctl.rate = s.ctl.rate ∧ (State.followFrame s f).ctl.members = s.ctl.members ∧ (State.followFrame s f).ctl.guardSet = s.ctl.guardSet ∧ (State.followFrame s f).ctl.beaconDue = s.ctl.beaconDue ∧ (State.followFrame s f).ctl.beaconTimer = s.ctl.beaconTimer ∧ (State.followFrame s f).ctl.joining = s.ctl.joining ∧ (State.followFrame s f).roster.lastAck = s.roster.lastAck ∧ (State.followFrame s f).roster.cursor = s.roster.cursor ∧ (∀ (q : Nat) (hq : q < 64), (State.followFrame s f).table[q].stamp = s.table[q].stamp) := by
  unfold State.followFrame; (repeat' (first | split | dsimp only)) <;> simp
@[simp] theorem State.followFrame_nv_array (s : State) (f : Frame) : (State.followFrame s f).nv.array = s.nv.array :=
  (State.followFrame_within s f).1
@[simp] theorem State.followFrame_nv_setup (s : State) (f : Frame) : (State.followFrame s f).nv.setup = s.nv.setup :=
  (State.followFrame_within s f).2.1
@[simp] theorem State.followFrame_nv_intent (s : State) (f : Frame) : (State.followFrame s f).nv.intent = s.nv.intent :=
  (State.followFrame_within s f).2.2.1
@[simp] theorem State.followFrame_ctl_number (s : State) (f : Frame) : (State.followFrame s f).ctl.number = s.ctl.number :=
  (State.followFrame_within s f).2.2.2.1
@[simp] theorem State.followFrame_ctl_rate (s : State) (f : Frame) : (State.followFrame s f).ctl.rate = s.ctl.rate :=
  (State.followFrame_within s f).2.2.2.2.1
@[simp] theorem State.followFrame_ctl_members (s : State) (f : Frame) : (State.followFrame s f).ctl.members = s.ctl.members :=
  (State.followFrame_within s f).2.2.2.2.2.1
@[simp] theorem State.followFrame_ctl_guardSet (s : State) (f : Frame) : (State.followFrame s f).ctl.guardSet = s.ctl.guardSet :=
  (State.followFrame_within s f).2.2.2.2.2.2.1
@[simp] theorem State.followFrame_ctl_beaconDue (s : State) (f : Frame) : (State.followFrame s f).ctl.beaconDue = s.ctl.beaconDue :=
  (State.followFrame_within s f).2.2.2.2.2.2.2.1
@[simp] theorem State.followFrame_ctl_beaconTimer (s : State) (f : Frame) : (State.followFrame s f).ctl.beaconTimer = s.ctl.beaconTimer :=
  (State.followFrame_within s f).2.2.2.2.2.2.2.2.1
@[simp] theorem State.followFrame_ctl_joining (s : State) (f : Frame) : (State.followFrame s f).ctl.joining = s.ctl.joining :=
  (State.followFrame_within s f).2.2.2.2.2.2.2.2.2.1
@[simp] theorem State.followFrame_roster_lastAck (s : State) (f : Frame) : (State.followFrame s f).roster.lastAck = s.roster.lastAck :=
  (State.followFrame_within s f).2.2.2.2.2.2.2.2.2.2.1
@[simp] theorem State.followFrame_roster_cursor (s : State) (f : Frame) : (State.followFrame s f).roster.cursor = s.roster.cursor :=
  (State.followFrame_within s f).2.2.2.2.2.2.2.2.2.2.2.1
@[simp] theorem State.followFrame_stamp (s : State) (f : Frame) (q : Nat) (hq : q < 64) : (State.followFrame s f).table[q].stamp = s.table[q].stamp :=
  (State.followFrame_within s f).2.2.2.2.2.2.2.2.2.2.2.2 q hq

/-- Parts of its blocks that `checkMembers` keeps. -/
theorem State.checkMembers_within (s : State) (f : Frame) :
    (State.checkMembers s f).roster.lastAck = s.roster.lastAck ∧ (State.checkMembers s f).roster.cursor = s.roster.cursor := by
  unfold State.checkMembers; (repeat' (first | split | dsimp only)) <;> simp
@[simp] theorem State.checkMembers_roster_lastAck (s : State) (f : Frame) : (State.checkMembers s f).roster.lastAck = s.roster.lastAck :=
  (State.checkMembers_within s f).1
@[simp] theorem State.checkMembers_roster_cursor (s : State) (f : Frame) : (State.checkMembers s f).roster.cursor = s.roster.cursor :=
  (State.checkMembers_within s f).2

/-- Parts of its blocks that `rosterHandoff` keeps. -/
theorem State.rosterHandoff_within (s : State) (f : Frame) :
    (State.rosterHandoff s f).nv.array = s.nv.array ∧ (State.rosterHandoff s f).nv.setup = s.nv.setup ∧ (State.rosterHandoff s f).nv.intent = s.nv.intent ∧ (State.rosterHandoff s f).ctl.number = s.ctl.number ∧ (State.rosterHandoff s f).ctl.rate = s.ctl.rate ∧ (State.rosterHandoff s f).ctl.members = s.ctl.members ∧ (State.rosterHandoff s f).ctl.guardSet = s.ctl.guardSet ∧ (State.rosterHandoff s f).ctl.beaconDue = s.ctl.beaconDue ∧ (State.rosterHandoff s f).ctl.beaconTimer = s.ctl.beaconTimer ∧ (State.rosterHandoff s f).ctl.joining = s.ctl.joining ∧ (State.rosterHandoff s f).roster.lastAck = s.roster.lastAck ∧ (State.rosterHandoff s f).roster.cursor = s.roster.cursor ∧ (∀ (q : Nat) (hq : q < 64), (State.rosterHandoff s f).table[q].stamp = s.table[q].stamp) := by
  unfold State.rosterHandoff; (repeat' (first | split | dsimp only)) <;> simp
@[simp] theorem State.rosterHandoff_nv_array (s : State) (f : Frame) : (State.rosterHandoff s f).nv.array = s.nv.array :=
  (State.rosterHandoff_within s f).1
@[simp] theorem State.rosterHandoff_nv_setup (s : State) (f : Frame) : (State.rosterHandoff s f).nv.setup = s.nv.setup :=
  (State.rosterHandoff_within s f).2.1
@[simp] theorem State.rosterHandoff_nv_intent (s : State) (f : Frame) : (State.rosterHandoff s f).nv.intent = s.nv.intent :=
  (State.rosterHandoff_within s f).2.2.1
@[simp] theorem State.rosterHandoff_ctl_number (s : State) (f : Frame) : (State.rosterHandoff s f).ctl.number = s.ctl.number :=
  (State.rosterHandoff_within s f).2.2.2.1
@[simp] theorem State.rosterHandoff_ctl_rate (s : State) (f : Frame) : (State.rosterHandoff s f).ctl.rate = s.ctl.rate :=
  (State.rosterHandoff_within s f).2.2.2.2.1
@[simp] theorem State.rosterHandoff_ctl_members (s : State) (f : Frame) : (State.rosterHandoff s f).ctl.members = s.ctl.members :=
  (State.rosterHandoff_within s f).2.2.2.2.2.1
@[simp] theorem State.rosterHandoff_ctl_guardSet (s : State) (f : Frame) : (State.rosterHandoff s f).ctl.guardSet = s.ctl.guardSet :=
  (State.rosterHandoff_within s f).2.2.2.2.2.2.1
@[simp] theorem State.rosterHandoff_ctl_beaconDue (s : State) (f : Frame) : (State.rosterHandoff s f).ctl.beaconDue = s.ctl.beaconDue :=
  (State.rosterHandoff_within s f).2.2.2.2.2.2.2.1
@[simp] theorem State.rosterHandoff_ctl_beaconTimer (s : State) (f : Frame) : (State.rosterHandoff s f).ctl.beaconTimer = s.ctl.beaconTimer :=
  (State.rosterHandoff_within s f).2.2.2.2.2.2.2.2.1
@[simp] theorem State.rosterHandoff_ctl_joining (s : State) (f : Frame) : (State.rosterHandoff s f).ctl.joining = s.ctl.joining :=
  (State.rosterHandoff_within s f).2.2.2.2.2.2.2.2.2.1
@[simp] theorem State.rosterHandoff_roster_lastAck (s : State) (f : Frame) : (State.rosterHandoff s f).roster.lastAck = s.roster.lastAck :=
  (State.rosterHandoff_within s f).2.2.2.2.2.2.2.2.2.2.1
@[simp] theorem State.rosterHandoff_roster_cursor (s : State) (f : Frame) : (State.rosterHandoff s f).roster.cursor = s.roster.cursor :=
  (State.rosterHandoff_within s f).2.2.2.2.2.2.2.2.2.2.2.1
@[simp] theorem State.rosterHandoff_stamp (s : State) (f : Frame) (q : Nat) (hq : q < 64) : (State.rosterHandoff s f).table[q].stamp = s.table[q].stamp :=
  (State.rosterHandoff_within s f).2.2.2.2.2.2.2.2.2.2.2.2 q hq

/-- Parts of its blocks that `learnOwner` keeps. -/
theorem State.learnOwner_within (s : State) (r : Region) (o : Station) (e : Epoch) :
    (State.learnOwner s r o e).nv.array = s.nv.array ∧ (State.learnOwner s r o e).nv.setup = s.nv.setup ∧ (State.learnOwner s r o e).nv.intent = s.nv.intent ∧ (State.learnOwner s r o e).ctl.number = s.ctl.number ∧ (State.learnOwner s r o e).ctl.rate = s.ctl.rate ∧ (State.learnOwner s r o e).ctl.members = s.ctl.members ∧ (State.learnOwner s r o e).ctl.guardSet = s.ctl.guardSet ∧ (State.learnOwner s r o e).ctl.state = s.ctl.state ∧ (State.learnOwner s r o e).ctl.beaconDue = s.ctl.beaconDue ∧ (State.learnOwner s r o e).ctl.beaconTimer = s.ctl.beaconTimer ∧ (State.learnOwner s r o e).ctl.joining = s.ctl.joining ∧ (State.learnOwner s r o e).roster.entries = s.roster.entries ∧ (State.learnOwner s r o e).roster.lastAck = s.roster.lastAck ∧ (State.learnOwner s r o e).roster.cursor = s.roster.cursor ∧ (State.learnOwner s r o e).port.refused = s.port.refused ∧ (State.learnOwner s r o e).port.sdo = s.port.sdo ∧ (∀ (q : Nat) (hq : q < 64), (State.learnOwner s r o e).table[q].stamp = s.table[q].stamp) := by
  unfold State.learnOwner; (repeat' (first | split | dsimp only)) <;> simp
@[simp] theorem State.learnOwner_nv_array (s : State) (r : Region) (o : Station) (e : Epoch) : (State.learnOwner s r o e).nv.array = s.nv.array :=
  (State.learnOwner_within s r o e).1
@[simp] theorem State.learnOwner_nv_setup (s : State) (r : Region) (o : Station) (e : Epoch) : (State.learnOwner s r o e).nv.setup = s.nv.setup :=
  (State.learnOwner_within s r o e).2.1
@[simp] theorem State.learnOwner_nv_intent (s : State) (r : Region) (o : Station) (e : Epoch) : (State.learnOwner s r o e).nv.intent = s.nv.intent :=
  (State.learnOwner_within s r o e).2.2.1
@[simp] theorem State.learnOwner_ctl_number (s : State) (r : Region) (o : Station) (e : Epoch) : (State.learnOwner s r o e).ctl.number = s.ctl.number :=
  (State.learnOwner_within s r o e).2.2.2.1
@[simp] theorem State.learnOwner_ctl_rate (s : State) (r : Region) (o : Station) (e : Epoch) : (State.learnOwner s r o e).ctl.rate = s.ctl.rate :=
  (State.learnOwner_within s r o e).2.2.2.2.1
@[simp] theorem State.learnOwner_ctl_members (s : State) (r : Region) (o : Station) (e : Epoch) : (State.learnOwner s r o e).ctl.members = s.ctl.members :=
  (State.learnOwner_within s r o e).2.2.2.2.2.1
@[simp] theorem State.learnOwner_ctl_guardSet (s : State) (r : Region) (o : Station) (e : Epoch) : (State.learnOwner s r o e).ctl.guardSet = s.ctl.guardSet :=
  (State.learnOwner_within s r o e).2.2.2.2.2.2.1
@[simp] theorem State.learnOwner_ctl_state (s : State) (r : Region) (o : Station) (e : Epoch) : (State.learnOwner s r o e).ctl.state = s.ctl.state :=
  (State.learnOwner_within s r o e).2.2.2.2.2.2.2.1
@[simp] theorem State.learnOwner_ctl_beaconDue (s : State) (r : Region) (o : Station) (e : Epoch) : (State.learnOwner s r o e).ctl.beaconDue = s.ctl.beaconDue :=
  (State.learnOwner_within s r o e).2.2.2.2.2.2.2.2.1
@[simp] theorem State.learnOwner_ctl_beaconTimer (s : State) (r : Region) (o : Station) (e : Epoch) : (State.learnOwner s r o e).ctl.beaconTimer = s.ctl.beaconTimer :=
  (State.learnOwner_within s r o e).2.2.2.2.2.2.2.2.2.1
@[simp] theorem State.learnOwner_ctl_joining (s : State) (r : Region) (o : Station) (e : Epoch) : (State.learnOwner s r o e).ctl.joining = s.ctl.joining :=
  (State.learnOwner_within s r o e).2.2.2.2.2.2.2.2.2.2.1
@[simp] theorem State.learnOwner_roster_entries (s : State) (r : Region) (o : Station) (e : Epoch) : (State.learnOwner s r o e).roster.entries = s.roster.entries :=
  (State.learnOwner_within s r o e).2.2.2.2.2.2.2.2.2.2.2.1
@[simp] theorem State.learnOwner_roster_lastAck (s : State) (r : Region) (o : Station) (e : Epoch) : (State.learnOwner s r o e).roster.lastAck = s.roster.lastAck :=
  (State.learnOwner_within s r o e).2.2.2.2.2.2.2.2.2.2.2.2.1
@[simp] theorem State.learnOwner_roster_cursor (s : State) (r : Region) (o : Station) (e : Epoch) : (State.learnOwner s r o e).roster.cursor = s.roster.cursor :=
  (State.learnOwner_within s r o e).2.2.2.2.2.2.2.2.2.2.2.2.2.1
@[simp] theorem State.learnOwner_port_refused (s : State) (r : Region) (o : Station) (e : Epoch) : (State.learnOwner s r o e).port.refused = s.port.refused :=
  (State.learnOwner_within s r o e).2.2.2.2.2.2.2.2.2.2.2.2.2.2.1
@[simp] theorem State.learnOwner_port_sdo (s : State) (r : Region) (o : Station) (e : Epoch) : (State.learnOwner s r o e).port.sdo = s.port.sdo :=
  (State.learnOwner_within s r o e).2.2.2.2.2.2.2.2.2.2.2.2.2.2.2.1
@[simp] theorem State.learnOwner_stamp (s : State) (r : Region) (o : Station) (e : Epoch) (q : Nat) (hq : q < 64) : (State.learnOwner s r o e).table[q].stamp = s.table[q].stamp :=
  (State.learnOwner_within s r o e).2.2.2.2.2.2.2.2.2.2.2.2.2.2.2.2 q hq

/-- Parts of its blocks that `addFront` keeps. -/
theorem State.addFront_within (s : State) (r : Region) :
    (State.addFront s r).roster.entries = s.roster.entries ∧ (State.addFront s r).roster.lastAck = s.roster.lastAck ∧ (State.addFront s r).roster.cursor = s.roster.cursor := by
  unfold State.addFront; (repeat' (first | split | dsimp only)) <;> simp
@[simp] theorem State.addFront_roster_entries (s : State) (r : Region) : (State.addFront s r).roster.entries = s.roster.entries :=
  (State.addFront_within s r).1
@[simp] theorem State.addFront_roster_lastAck (s : State) (r : Region) : (State.addFront s r).roster.lastAck = s.roster.lastAck :=
  (State.addFront_within s r).2.1
@[simp] theorem State.addFront_roster_cursor (s : State) (r : Region) : (State.addFront s r).roster.cursor = s.roster.cursor :=
  (State.addFront_within s r).2.2

/-- Parts of its blocks that `loseConflict` keeps. -/
theorem State.loseConflict_within (s : State) (r : Region) (o : Station) (stamp : Stamp) :
    (State.loseConflict s r o stamp).nv.array = s.nv.array ∧ (State.loseConflict s r o stamp).nv.setup = s.nv.setup ∧ (State.loseConflict s r o stamp).nv.intent = s.nv.intent ∧ (State.loseConflict s r o stamp).ctl.number = s.ctl.number ∧ (State.loseConflict s r o stamp).ctl.rate = s.ctl.rate ∧ (State.loseConflict s r o stamp).ctl.members = s.ctl.members ∧ (State.loseConflict s r o stamp).ctl.guardSet = s.ctl.guardSet ∧ (State.loseConflict s r o stamp).ctl.state = s.ctl.state ∧ (State.loseConflict s r o stamp).ctl.beaconDue = s.ctl.beaconDue ∧ (State.loseConflict s r o stamp).ctl.beaconTimer = s.ctl.beaconTimer ∧ (State.loseConflict s r o stamp).ctl.joining = s.ctl.joining ∧ (State.loseConflict s r o stamp).roster.entries = s.roster.entries ∧ (State.loseConflict s r o stamp).roster.lastAck = s.roster.lastAck ∧ (State.loseConflict s r o stamp).roster.cursor = s.roster.cursor ∧ (State.loseConflict s r o stamp).port.refused = s.port.refused ∧ (State.loseConflict s r o stamp).port.sdo = s.port.sdo ∧ (∀ (q : Nat) (hq : q < 64), (State.loseConflict s r o stamp).table[q].stamp = s.table[q].stamp) := by
  unfold State.loseConflict; (repeat' (first | split | dsimp only)) <;> simp
@[simp] theorem State.loseConflict_nv_array (s : State) (r : Region) (o : Station) (stamp : Stamp) : (State.loseConflict s r o stamp).nv.array = s.nv.array :=
  (State.loseConflict_within s r o stamp).1
@[simp] theorem State.loseConflict_nv_setup (s : State) (r : Region) (o : Station) (stamp : Stamp) : (State.loseConflict s r o stamp).nv.setup = s.nv.setup :=
  (State.loseConflict_within s r o stamp).2.1
@[simp] theorem State.loseConflict_nv_intent (s : State) (r : Region) (o : Station) (stamp : Stamp) : (State.loseConflict s r o stamp).nv.intent = s.nv.intent :=
  (State.loseConflict_within s r o stamp).2.2.1
@[simp] theorem State.loseConflict_ctl_number (s : State) (r : Region) (o : Station) (stamp : Stamp) : (State.loseConflict s r o stamp).ctl.number = s.ctl.number :=
  (State.loseConflict_within s r o stamp).2.2.2.1
@[simp] theorem State.loseConflict_ctl_rate (s : State) (r : Region) (o : Station) (stamp : Stamp) : (State.loseConflict s r o stamp).ctl.rate = s.ctl.rate :=
  (State.loseConflict_within s r o stamp).2.2.2.2.1
@[simp] theorem State.loseConflict_ctl_members (s : State) (r : Region) (o : Station) (stamp : Stamp) : (State.loseConflict s r o stamp).ctl.members = s.ctl.members :=
  (State.loseConflict_within s r o stamp).2.2.2.2.2.1
@[simp] theorem State.loseConflict_ctl_guardSet (s : State) (r : Region) (o : Station) (stamp : Stamp) : (State.loseConflict s r o stamp).ctl.guardSet = s.ctl.guardSet :=
  (State.loseConflict_within s r o stamp).2.2.2.2.2.2.1
@[simp] theorem State.loseConflict_ctl_state (s : State) (r : Region) (o : Station) (stamp : Stamp) : (State.loseConflict s r o stamp).ctl.state = s.ctl.state :=
  (State.loseConflict_within s r o stamp).2.2.2.2.2.2.2.1
@[simp] theorem State.loseConflict_ctl_beaconDue (s : State) (r : Region) (o : Station) (stamp : Stamp) : (State.loseConflict s r o stamp).ctl.beaconDue = s.ctl.beaconDue :=
  (State.loseConflict_within s r o stamp).2.2.2.2.2.2.2.2.1
@[simp] theorem State.loseConflict_ctl_beaconTimer (s : State) (r : Region) (o : Station) (stamp : Stamp) : (State.loseConflict s r o stamp).ctl.beaconTimer = s.ctl.beaconTimer :=
  (State.loseConflict_within s r o stamp).2.2.2.2.2.2.2.2.2.1
@[simp] theorem State.loseConflict_ctl_joining (s : State) (r : Region) (o : Station) (stamp : Stamp) : (State.loseConflict s r o stamp).ctl.joining = s.ctl.joining :=
  (State.loseConflict_within s r o stamp).2.2.2.2.2.2.2.2.2.2.1
@[simp] theorem State.loseConflict_roster_entries (s : State) (r : Region) (o : Station) (stamp : Stamp) : (State.loseConflict s r o stamp).roster.entries = s.roster.entries :=
  (State.loseConflict_within s r o stamp).2.2.2.2.2.2.2.2.2.2.2.1
@[simp] theorem State.loseConflict_roster_lastAck (s : State) (r : Region) (o : Station) (stamp : Stamp) : (State.loseConflict s r o stamp).roster.lastAck = s.roster.lastAck :=
  (State.loseConflict_within s r o stamp).2.2.2.2.2.2.2.2.2.2.2.2.1
@[simp] theorem State.loseConflict_roster_cursor (s : State) (r : Region) (o : Station) (stamp : Stamp) : (State.loseConflict s r o stamp).roster.cursor = s.roster.cursor :=
  (State.loseConflict_within s r o stamp).2.2.2.2.2.2.2.2.2.2.2.2.2.1
@[simp] theorem State.loseConflict_port_refused (s : State) (r : Region) (o : Station) (stamp : Stamp) : (State.loseConflict s r o stamp).port.refused = s.port.refused :=
  (State.loseConflict_within s r o stamp).2.2.2.2.2.2.2.2.2.2.2.2.2.2.1
@[simp] theorem State.loseConflict_port_sdo (s : State) (r : Region) (o : Station) (stamp : Stamp) : (State.loseConflict s r o stamp).port.sdo = s.port.sdo :=
  (State.loseConflict_within s r o stamp).2.2.2.2.2.2.2.2.2.2.2.2.2.2.2.1
@[simp] theorem State.loseConflict_stamp (s : State) (r : Region) (o : Station) (stamp : Stamp) (q : Nat) (hq : q < 64) : (State.loseConflict s r o stamp).table[q].stamp = s.table[q].stamp :=
  (State.loseConflict_within s r o stamp).2.2.2.2.2.2.2.2.2.2.2.2.2.2.2.2 q hq

/-- Parts of its blocks that `resolveConflict` keeps. -/
theorem State.resolveConflict_within (s : State) (r : Region) (o : Station) (stamp : Stamp) :
    (State.resolveConflict s r o stamp).nv.array = s.nv.array ∧ (State.resolveConflict s r o stamp).nv.setup = s.nv.setup ∧ (State.resolveConflict s r o stamp).nv.intent = s.nv.intent ∧ (State.resolveConflict s r o stamp).ctl.number = s.ctl.number ∧ (State.resolveConflict s r o stamp).ctl.rate = s.ctl.rate ∧ (State.resolveConflict s r o stamp).ctl.members = s.ctl.members ∧ (State.resolveConflict s r o stamp).ctl.guardSet = s.ctl.guardSet ∧ (State.resolveConflict s r o stamp).ctl.state = s.ctl.state ∧ (State.resolveConflict s r o stamp).ctl.beaconDue = s.ctl.beaconDue ∧ (State.resolveConflict s r o stamp).ctl.beaconTimer = s.ctl.beaconTimer ∧ (State.resolveConflict s r o stamp).ctl.joining = s.ctl.joining ∧ (State.resolveConflict s r o stamp).roster.entries = s.roster.entries ∧ (State.resolveConflict s r o stamp).roster.lastAck = s.roster.lastAck ∧ (State.resolveConflict s r o stamp).roster.cursor = s.roster.cursor ∧ (State.resolveConflict s r o stamp).port.refused = s.port.refused ∧ (State.resolveConflict s r o stamp).port.sdo = s.port.sdo ∧ (∀ (q : Nat) (hq : q < 64), (State.resolveConflict s r o stamp).table[q].stamp = s.table[q].stamp) := by
  unfold State.resolveConflict; (repeat' (first | split | dsimp only)) <;> simp
@[simp] theorem State.resolveConflict_nv_array (s : State) (r : Region) (o : Station) (stamp : Stamp) : (State.resolveConflict s r o stamp).nv.array = s.nv.array :=
  (State.resolveConflict_within s r o stamp).1
@[simp] theorem State.resolveConflict_nv_setup (s : State) (r : Region) (o : Station) (stamp : Stamp) : (State.resolveConflict s r o stamp).nv.setup = s.nv.setup :=
  (State.resolveConflict_within s r o stamp).2.1
@[simp] theorem State.resolveConflict_nv_intent (s : State) (r : Region) (o : Station) (stamp : Stamp) : (State.resolveConflict s r o stamp).nv.intent = s.nv.intent :=
  (State.resolveConflict_within s r o stamp).2.2.1
@[simp] theorem State.resolveConflict_ctl_number (s : State) (r : Region) (o : Station) (stamp : Stamp) : (State.resolveConflict s r o stamp).ctl.number = s.ctl.number :=
  (State.resolveConflict_within s r o stamp).2.2.2.1
@[simp] theorem State.resolveConflict_ctl_rate (s : State) (r : Region) (o : Station) (stamp : Stamp) : (State.resolveConflict s r o stamp).ctl.rate = s.ctl.rate :=
  (State.resolveConflict_within s r o stamp).2.2.2.2.1
@[simp] theorem State.resolveConflict_ctl_members (s : State) (r : Region) (o : Station) (stamp : Stamp) : (State.resolveConflict s r o stamp).ctl.members = s.ctl.members :=
  (State.resolveConflict_within s r o stamp).2.2.2.2.2.1
@[simp] theorem State.resolveConflict_ctl_guardSet (s : State) (r : Region) (o : Station) (stamp : Stamp) : (State.resolveConflict s r o stamp).ctl.guardSet = s.ctl.guardSet :=
  (State.resolveConflict_within s r o stamp).2.2.2.2.2.2.1
@[simp] theorem State.resolveConflict_ctl_state (s : State) (r : Region) (o : Station) (stamp : Stamp) : (State.resolveConflict s r o stamp).ctl.state = s.ctl.state :=
  (State.resolveConflict_within s r o stamp).2.2.2.2.2.2.2.1
@[simp] theorem State.resolveConflict_ctl_beaconDue (s : State) (r : Region) (o : Station) (stamp : Stamp) : (State.resolveConflict s r o stamp).ctl.beaconDue = s.ctl.beaconDue :=
  (State.resolveConflict_within s r o stamp).2.2.2.2.2.2.2.2.1
@[simp] theorem State.resolveConflict_ctl_beaconTimer (s : State) (r : Region) (o : Station) (stamp : Stamp) : (State.resolveConflict s r o stamp).ctl.beaconTimer = s.ctl.beaconTimer :=
  (State.resolveConflict_within s r o stamp).2.2.2.2.2.2.2.2.2.1
@[simp] theorem State.resolveConflict_ctl_joining (s : State) (r : Region) (o : Station) (stamp : Stamp) : (State.resolveConflict s r o stamp).ctl.joining = s.ctl.joining :=
  (State.resolveConflict_within s r o stamp).2.2.2.2.2.2.2.2.2.2.1
@[simp] theorem State.resolveConflict_roster_entries (s : State) (r : Region) (o : Station) (stamp : Stamp) : (State.resolveConflict s r o stamp).roster.entries = s.roster.entries :=
  (State.resolveConflict_within s r o stamp).2.2.2.2.2.2.2.2.2.2.2.1
@[simp] theorem State.resolveConflict_roster_lastAck (s : State) (r : Region) (o : Station) (stamp : Stamp) : (State.resolveConflict s r o stamp).roster.lastAck = s.roster.lastAck :=
  (State.resolveConflict_within s r o stamp).2.2.2.2.2.2.2.2.2.2.2.2.1
@[simp] theorem State.resolveConflict_roster_cursor (s : State) (r : Region) (o : Station) (stamp : Stamp) : (State.resolveConflict s r o stamp).roster.cursor = s.roster.cursor :=
  (State.resolveConflict_within s r o stamp).2.2.2.2.2.2.2.2.2.2.2.2.2.1
@[simp] theorem State.resolveConflict_port_refused (s : State) (r : Region) (o : Station) (stamp : Stamp) : (State.resolveConflict s r o stamp).port.refused = s.port.refused :=
  (State.resolveConflict_within s r o stamp).2.2.2.2.2.2.2.2.2.2.2.2.2.2.1
@[simp] theorem State.resolveConflict_port_sdo (s : State) (r : Region) (o : Station) (stamp : Stamp) : (State.resolveConflict s r o stamp).port.sdo = s.port.sdo :=
  (State.resolveConflict_within s r o stamp).2.2.2.2.2.2.2.2.2.2.2.2.2.2.2.1
@[simp] theorem State.resolveConflict_stamp (s : State) (r : Region) (o : Station) (stamp : Stamp) (q : Nat) (hq : q < 64) : (State.resolveConflict s r o stamp).table[q].stamp = s.table[q].stamp :=
  (State.resolveConflict_within s r o stamp).2.2.2.2.2.2.2.2.2.2.2.2.2.2.2.2 q hq

/-- Parts of its blocks that `claimCopy` keeps. -/
theorem State.claimCopy_within (s : State) (r : Region) (stamp : Stamp) :
    (State.claimCopy s r stamp).nv.array = s.nv.array ∧ (State.claimCopy s r stamp).nv.setup = s.nv.setup ∧ (State.claimCopy s r stamp).nv.intent = s.nv.intent := by
  unfold State.claimCopy; (repeat' (first | split | dsimp only)) <;> simp
@[simp] theorem State.claimCopy_nv_array (s : State) (r : Region) (stamp : Stamp) : (State.claimCopy s r stamp).nv.array = s.nv.array :=
  (State.claimCopy_within s r stamp).1
@[simp] theorem State.claimCopy_nv_setup (s : State) (r : Region) (stamp : Stamp) : (State.claimCopy s r stamp).nv.setup = s.nv.setup :=
  (State.claimCopy_within s r stamp).2.1
@[simp] theorem State.claimCopy_nv_intent (s : State) (r : Region) (stamp : Stamp) : (State.claimCopy s r stamp).nv.intent = s.nv.intent :=
  (State.claimCopy_within s r stamp).2.2

/-- Parts of its blocks that `yielded` keeps. -/
theorem State.yielded_within (s : State) (r : Region) (former : Bool) :
    (State.yielded s r former).nv.array = s.nv.array ∧ (State.yielded s r former).nv.setup = s.nv.setup ∧ (State.yielded s r former).nv.intent = s.nv.intent ∧ (∀ (q : Nat) (hq : q < 64), (State.yielded s r former).table[q].stamp = s.table[q].stamp) := by
  unfold State.yielded; (repeat' (first | split | dsimp only)) <;> simp
@[simp] theorem State.yielded_nv_array (s : State) (r : Region) (former : Bool) : (State.yielded s r former).nv.array = s.nv.array :=
  (State.yielded_within s r former).1
@[simp] theorem State.yielded_nv_setup (s : State) (r : Region) (former : Bool) : (State.yielded s r former).nv.setup = s.nv.setup :=
  (State.yielded_within s r former).2.1
@[simp] theorem State.yielded_nv_intent (s : State) (r : Region) (former : Bool) : (State.yielded s r former).nv.intent = s.nv.intent :=
  (State.yielded_within s r former).2.2.1
@[simp] theorem State.yielded_stamp (s : State) (r : Region) (former : Bool) (q : Nat) (hq : q < 64) : (State.yielded s r former).table[q].stamp = s.table[q].stamp :=
  (State.yielded_within s r former).2.2.2 q hq

/-- Parts of its blocks that `claimOwner` keeps. -/
theorem State.claimOwner_within (s : State) (c : Station) (r : Region) (stamp : Stamp) :
    (State.claimOwner s c r stamp).nv.array = s.nv.array ∧ (State.claimOwner s c r stamp).nv.setup = s.nv.setup ∧ (State.claimOwner s c r stamp).nv.intent = s.nv.intent ∧ (State.claimOwner s c r stamp).ctl.number = s.ctl.number ∧ (State.claimOwner s c r stamp).ctl.rate = s.ctl.rate ∧ (State.claimOwner s c r stamp).ctl.members = s.ctl.members ∧ (State.claimOwner s c r stamp).ctl.guardSet = s.ctl.guardSet ∧ (State.claimOwner s c r stamp).ctl.state = s.ctl.state ∧ (State.claimOwner s c r stamp).ctl.beaconDue = s.ctl.beaconDue ∧ (State.claimOwner s c r stamp).ctl.beaconTimer = s.ctl.beaconTimer ∧ (State.claimOwner s c r stamp).ctl.joining = s.ctl.joining ∧ (State.claimOwner s c r stamp).roster.entries = s.roster.entries ∧ (State.claimOwner s c r stamp).roster.lastAck = s.roster.lastAck ∧ (State.claimOwner s c r stamp).roster.cursor = s.roster.cursor ∧ (State.claimOwner s c r stamp).port.refused = s.port.refused ∧ (State.claimOwner s c r stamp).port.sdo = s.port.sdo ∧ (∀ (q : Nat) (hq : q < 64), (State.claimOwner s c r stamp).table[q].stamp = s.table[q].stamp) := by
  unfold State.claimOwner; (repeat' (first | split | dsimp only)) <;> simp
@[simp] theorem State.claimOwner_nv_array (s : State) (c : Station) (r : Region) (stamp : Stamp) : (State.claimOwner s c r stamp).nv.array = s.nv.array :=
  (State.claimOwner_within s c r stamp).1
@[simp] theorem State.claimOwner_nv_setup (s : State) (c : Station) (r : Region) (stamp : Stamp) : (State.claimOwner s c r stamp).nv.setup = s.nv.setup :=
  (State.claimOwner_within s c r stamp).2.1
@[simp] theorem State.claimOwner_nv_intent (s : State) (c : Station) (r : Region) (stamp : Stamp) : (State.claimOwner s c r stamp).nv.intent = s.nv.intent :=
  (State.claimOwner_within s c r stamp).2.2.1
@[simp] theorem State.claimOwner_ctl_number (s : State) (c : Station) (r : Region) (stamp : Stamp) : (State.claimOwner s c r stamp).ctl.number = s.ctl.number :=
  (State.claimOwner_within s c r stamp).2.2.2.1
@[simp] theorem State.claimOwner_ctl_rate (s : State) (c : Station) (r : Region) (stamp : Stamp) : (State.claimOwner s c r stamp).ctl.rate = s.ctl.rate :=
  (State.claimOwner_within s c r stamp).2.2.2.2.1
@[simp] theorem State.claimOwner_ctl_members (s : State) (c : Station) (r : Region) (stamp : Stamp) : (State.claimOwner s c r stamp).ctl.members = s.ctl.members :=
  (State.claimOwner_within s c r stamp).2.2.2.2.2.1
@[simp] theorem State.claimOwner_ctl_guardSet (s : State) (c : Station) (r : Region) (stamp : Stamp) : (State.claimOwner s c r stamp).ctl.guardSet = s.ctl.guardSet :=
  (State.claimOwner_within s c r stamp).2.2.2.2.2.2.1
@[simp] theorem State.claimOwner_ctl_state (s : State) (c : Station) (r : Region) (stamp : Stamp) : (State.claimOwner s c r stamp).ctl.state = s.ctl.state :=
  (State.claimOwner_within s c r stamp).2.2.2.2.2.2.2.1
@[simp] theorem State.claimOwner_ctl_beaconDue (s : State) (c : Station) (r : Region) (stamp : Stamp) : (State.claimOwner s c r stamp).ctl.beaconDue = s.ctl.beaconDue :=
  (State.claimOwner_within s c r stamp).2.2.2.2.2.2.2.2.1
@[simp] theorem State.claimOwner_ctl_beaconTimer (s : State) (c : Station) (r : Region) (stamp : Stamp) : (State.claimOwner s c r stamp).ctl.beaconTimer = s.ctl.beaconTimer :=
  (State.claimOwner_within s c r stamp).2.2.2.2.2.2.2.2.2.1
@[simp] theorem State.claimOwner_ctl_joining (s : State) (c : Station) (r : Region) (stamp : Stamp) : (State.claimOwner s c r stamp).ctl.joining = s.ctl.joining :=
  (State.claimOwner_within s c r stamp).2.2.2.2.2.2.2.2.2.2.1
@[simp] theorem State.claimOwner_roster_entries (s : State) (c : Station) (r : Region) (stamp : Stamp) : (State.claimOwner s c r stamp).roster.entries = s.roster.entries :=
  (State.claimOwner_within s c r stamp).2.2.2.2.2.2.2.2.2.2.2.1
@[simp] theorem State.claimOwner_roster_lastAck (s : State) (c : Station) (r : Region) (stamp : Stamp) : (State.claimOwner s c r stamp).roster.lastAck = s.roster.lastAck :=
  (State.claimOwner_within s c r stamp).2.2.2.2.2.2.2.2.2.2.2.2.1
@[simp] theorem State.claimOwner_roster_cursor (s : State) (c : Station) (r : Region) (stamp : Stamp) : (State.claimOwner s c r stamp).roster.cursor = s.roster.cursor :=
  (State.claimOwner_within s c r stamp).2.2.2.2.2.2.2.2.2.2.2.2.2.1
@[simp] theorem State.claimOwner_port_refused (s : State) (c : Station) (r : Region) (stamp : Stamp) : (State.claimOwner s c r stamp).port.refused = s.port.refused :=
  (State.claimOwner_within s c r stamp).2.2.2.2.2.2.2.2.2.2.2.2.2.2.1
@[simp] theorem State.claimOwner_port_sdo (s : State) (c : Station) (r : Region) (stamp : Stamp) : (State.claimOwner s c r stamp).port.sdo = s.port.sdo :=
  (State.claimOwner_within s c r stamp).2.2.2.2.2.2.2.2.2.2.2.2.2.2.2.1
@[simp] theorem State.claimOwner_stamp (s : State) (c : Station) (r : Region) (stamp : Stamp) (q : Nat) (hq : q < 64) : (State.claimOwner s c r stamp).table[q].stamp = s.table[q].stamp :=
  (State.claimOwner_within s c r stamp).2.2.2.2.2.2.2.2.2.2.2.2.2.2.2.2 q hq

/-- Parts of its blocks that `applyClaim` keeps. -/
theorem State.applyClaim_within (s : State) (c : Station) (r : Region) (stamp : Stamp) :
    (State.applyClaim s c r stamp).nv.array = s.nv.array ∧ (State.applyClaim s c r stamp).nv.setup = s.nv.setup ∧ (State.applyClaim s c r stamp).nv.intent = s.nv.intent ∧ (State.applyClaim s c r stamp).ctl.number = s.ctl.number ∧ (State.applyClaim s c r stamp).ctl.rate = s.ctl.rate ∧ (State.applyClaim s c r stamp).ctl.members = s.ctl.members ∧ (State.applyClaim s c r stamp).ctl.guardSet = s.ctl.guardSet ∧ (State.applyClaim s c r stamp).ctl.state = s.ctl.state ∧ (State.applyClaim s c r stamp).ctl.beaconDue = s.ctl.beaconDue ∧ (State.applyClaim s c r stamp).ctl.beaconTimer = s.ctl.beaconTimer ∧ (State.applyClaim s c r stamp).ctl.joining = s.ctl.joining ∧ (State.applyClaim s c r stamp).roster.entries = s.roster.entries ∧ (State.applyClaim s c r stamp).roster.lastAck = s.roster.lastAck ∧ (State.applyClaim s c r stamp).roster.cursor = s.roster.cursor ∧ (State.applyClaim s c r stamp).port.refused = s.port.refused ∧ (State.applyClaim s c r stamp).port.sdo = s.port.sdo := by
  unfold State.applyClaim; (repeat' (first | split | dsimp only)) <;> simp
@[simp] theorem State.applyClaim_nv_array (s : State) (c : Station) (r : Region) (stamp : Stamp) : (State.applyClaim s c r stamp).nv.array = s.nv.array :=
  (State.applyClaim_within s c r stamp).1
@[simp] theorem State.applyClaim_nv_setup (s : State) (c : Station) (r : Region) (stamp : Stamp) : (State.applyClaim s c r stamp).nv.setup = s.nv.setup :=
  (State.applyClaim_within s c r stamp).2.1
@[simp] theorem State.applyClaim_nv_intent (s : State) (c : Station) (r : Region) (stamp : Stamp) : (State.applyClaim s c r stamp).nv.intent = s.nv.intent :=
  (State.applyClaim_within s c r stamp).2.2.1
@[simp] theorem State.applyClaim_ctl_number (s : State) (c : Station) (r : Region) (stamp : Stamp) : (State.applyClaim s c r stamp).ctl.number = s.ctl.number :=
  (State.applyClaim_within s c r stamp).2.2.2.1
@[simp] theorem State.applyClaim_ctl_rate (s : State) (c : Station) (r : Region) (stamp : Stamp) : (State.applyClaim s c r stamp).ctl.rate = s.ctl.rate :=
  (State.applyClaim_within s c r stamp).2.2.2.2.1
@[simp] theorem State.applyClaim_ctl_members (s : State) (c : Station) (r : Region) (stamp : Stamp) : (State.applyClaim s c r stamp).ctl.members = s.ctl.members :=
  (State.applyClaim_within s c r stamp).2.2.2.2.2.1
@[simp] theorem State.applyClaim_ctl_guardSet (s : State) (c : Station) (r : Region) (stamp : Stamp) : (State.applyClaim s c r stamp).ctl.guardSet = s.ctl.guardSet :=
  (State.applyClaim_within s c r stamp).2.2.2.2.2.2.1
@[simp] theorem State.applyClaim_ctl_state (s : State) (c : Station) (r : Region) (stamp : Stamp) : (State.applyClaim s c r stamp).ctl.state = s.ctl.state :=
  (State.applyClaim_within s c r stamp).2.2.2.2.2.2.2.1
@[simp] theorem State.applyClaim_ctl_beaconDue (s : State) (c : Station) (r : Region) (stamp : Stamp) : (State.applyClaim s c r stamp).ctl.beaconDue = s.ctl.beaconDue :=
  (State.applyClaim_within s c r stamp).2.2.2.2.2.2.2.2.1
@[simp] theorem State.applyClaim_ctl_beaconTimer (s : State) (c : Station) (r : Region) (stamp : Stamp) : (State.applyClaim s c r stamp).ctl.beaconTimer = s.ctl.beaconTimer :=
  (State.applyClaim_within s c r stamp).2.2.2.2.2.2.2.2.2.1
@[simp] theorem State.applyClaim_ctl_joining (s : State) (c : Station) (r : Region) (stamp : Stamp) : (State.applyClaim s c r stamp).ctl.joining = s.ctl.joining :=
  (State.applyClaim_within s c r stamp).2.2.2.2.2.2.2.2.2.2.1
@[simp] theorem State.applyClaim_roster_entries (s : State) (c : Station) (r : Region) (stamp : Stamp) : (State.applyClaim s c r stamp).roster.entries = s.roster.entries :=
  (State.applyClaim_within s c r stamp).2.2.2.2.2.2.2.2.2.2.2.1
@[simp] theorem State.applyClaim_roster_lastAck (s : State) (c : Station) (r : Region) (stamp : Stamp) : (State.applyClaim s c r stamp).roster.lastAck = s.roster.lastAck :=
  (State.applyClaim_within s c r stamp).2.2.2.2.2.2.2.2.2.2.2.2.1
@[simp] theorem State.applyClaim_roster_cursor (s : State) (c : Station) (r : Region) (stamp : Stamp) : (State.applyClaim s c r stamp).roster.cursor = s.roster.cursor :=
  (State.applyClaim_within s c r stamp).2.2.2.2.2.2.2.2.2.2.2.2.2.1
@[simp] theorem State.applyClaim_port_refused (s : State) (c : Station) (r : Region) (stamp : Stamp) : (State.applyClaim s c r stamp).port.refused = s.port.refused :=
  (State.applyClaim_within s c r stamp).2.2.2.2.2.2.2.2.2.2.2.2.2.2.1
@[simp] theorem State.applyClaim_port_sdo (s : State) (c : Station) (r : Region) (stamp : Stamp) : (State.applyClaim s c r stamp).port.sdo = s.port.sdo :=
  (State.applyClaim_within s c r stamp).2.2.2.2.2.2.2.2.2.2.2.2.2.2.2

/-- Parts of its blocks that `wakeUp` keeps. -/
theorem State.wakeUp_within (s : State) (coincidence : Option Region) :
    (State.wakeUp s coincidence).nv.array = s.nv.array ∧ (State.wakeUp s coincidence).nv.setup = s.nv.setup ∧ (State.wakeUp s coincidence).nv.intent = s.nv.intent ∧ (State.wakeUp s coincidence).ctl.number = s.ctl.number ∧ (State.wakeUp s coincidence).ctl.rate = s.ctl.rate ∧ (State.wakeUp s coincidence).ctl.members = s.ctl.members ∧ (State.wakeUp s coincidence).ctl.guardSet = s.ctl.guardSet ∧ (State.wakeUp s coincidence).ctl.beaconDue = s.ctl.beaconDue ∧ (State.wakeUp s coincidence).ctl.beaconTimer = s.ctl.beaconTimer ∧ (State.wakeUp s coincidence).ctl.joining = s.ctl.joining ∧ (∀ (q : Nat) (hq : q < 64), (State.wakeUp s coincidence).table[q].stamp = s.table[q].stamp) := by
  unfold State.wakeUp; (repeat' (first | split | dsimp only)) <;> simp
@[simp] theorem State.wakeUp_nv_array (s : State) (coincidence : Option Region) : (State.wakeUp s coincidence).nv.array = s.nv.array :=
  (State.wakeUp_within s coincidence).1
@[simp] theorem State.wakeUp_nv_setup (s : State) (coincidence : Option Region) : (State.wakeUp s coincidence).nv.setup = s.nv.setup :=
  (State.wakeUp_within s coincidence).2.1
@[simp] theorem State.wakeUp_nv_intent (s : State) (coincidence : Option Region) : (State.wakeUp s coincidence).nv.intent = s.nv.intent :=
  (State.wakeUp_within s coincidence).2.2.1
@[simp] theorem State.wakeUp_ctl_number (s : State) (coincidence : Option Region) : (State.wakeUp s coincidence).ctl.number = s.ctl.number :=
  (State.wakeUp_within s coincidence).2.2.2.1
@[simp] theorem State.wakeUp_ctl_rate (s : State) (coincidence : Option Region) : (State.wakeUp s coincidence).ctl.rate = s.ctl.rate :=
  (State.wakeUp_within s coincidence).2.2.2.2.1
@[simp] theorem State.wakeUp_ctl_members (s : State) (coincidence : Option Region) : (State.wakeUp s coincidence).ctl.members = s.ctl.members :=
  (State.wakeUp_within s coincidence).2.2.2.2.2.1
@[simp] theorem State.wakeUp_ctl_guardSet (s : State) (coincidence : Option Region) : (State.wakeUp s coincidence).ctl.guardSet = s.ctl.guardSet :=
  (State.wakeUp_within s coincidence).2.2.2.2.2.2.1
@[simp] theorem State.wakeUp_ctl_beaconDue (s : State) (coincidence : Option Region) : (State.wakeUp s coincidence).ctl.beaconDue = s.ctl.beaconDue :=
  (State.wakeUp_within s coincidence).2.2.2.2.2.2.2.1
@[simp] theorem State.wakeUp_ctl_beaconTimer (s : State) (coincidence : Option Region) : (State.wakeUp s coincidence).ctl.beaconTimer = s.ctl.beaconTimer :=
  (State.wakeUp_within s coincidence).2.2.2.2.2.2.2.2.1
@[simp] theorem State.wakeUp_ctl_joining (s : State) (coincidence : Option Region) : (State.wakeUp s coincidence).ctl.joining = s.ctl.joining :=
  (State.wakeUp_within s coincidence).2.2.2.2.2.2.2.2.2.1
@[simp] theorem State.wakeUp_stamp (s : State) (coincidence : Option Region) (q : Nat) (hq : q < 64) : (State.wakeUp s coincidence).table[q].stamp = s.table[q].stamp :=
  (State.wakeUp_within s coincidence).2.2.2.2.2.2.2.2.2.2 q hq

/-- Parts of its blocks that `endVote` keeps. -/
theorem State.endVote_within (s : State) (r : Region) :
    (State.endVote s r).nv.array = s.nv.array ∧ (State.endVote s r).nv.setup = s.nv.setup ∧ (State.endVote s r).nv.intent = s.nv.intent ∧ (∀ (q : Nat) (hq : q < 64), (State.endVote s r).table[q].stamp = s.table[q].stamp) := by
  unfold State.endVote; (repeat' (first | split | dsimp only)) <;> simp
@[simp] theorem State.endVote_nv_array (s : State) (r : Region) : (State.endVote s r).nv.array = s.nv.array :=
  (State.endVote_within s r).1
@[simp] theorem State.endVote_nv_setup (s : State) (r : Region) : (State.endVote s r).nv.setup = s.nv.setup :=
  (State.endVote_within s r).2.1
@[simp] theorem State.endVote_nv_intent (s : State) (r : Region) : (State.endVote s r).nv.intent = s.nv.intent :=
  (State.endVote_within s r).2.2.1
@[simp] theorem State.endVote_stamp (s : State) (r : Region) (q : Nat) (hq : q < 64) : (State.endVote s r).table[q].stamp = s.table[q].stamp :=
  (State.endVote_within s r).2.2.2 q hq

/-- Parts of its blocks that `dropFrame` keeps. -/
theorem State.dropFrame_within (s : State) :
    (State.dropFrame s).nv.array = s.nv.array ∧ (State.dropFrame s).nv.setup = s.nv.setup ∧ (State.dropFrame s).nv.intent = s.nv.intent ∧ (State.dropFrame s).line.slot = s.line.slot ∧ (State.dropFrame s).line.faults = s.line.faults ∧ (State.dropFrame s).line.strangers = s.line.strangers ∧ (∀ (q : Nat) (hq : q < 64), (State.dropFrame s).table[q].stamp = s.table[q].stamp) := by
  unfold State.dropFrame; (repeat' (first | split | dsimp only)) <;> simp
@[simp] theorem State.dropFrame_nv_array (s : State) : (State.dropFrame s).nv.array = s.nv.array :=
  (State.dropFrame_within s).1
@[simp] theorem State.dropFrame_nv_setup (s : State) : (State.dropFrame s).nv.setup = s.nv.setup :=
  (State.dropFrame_within s).2.1
@[simp] theorem State.dropFrame_nv_intent (s : State) : (State.dropFrame s).nv.intent = s.nv.intent :=
  (State.dropFrame_within s).2.2.1
@[simp] theorem State.dropFrame_line_slot (s : State) : (State.dropFrame s).line.slot = s.line.slot :=
  (State.dropFrame_within s).2.2.2.1
@[simp] theorem State.dropFrame_line_faults (s : State) : (State.dropFrame s).line.faults = s.line.faults :=
  (State.dropFrame_within s).2.2.2.2.1
@[simp] theorem State.dropFrame_line_strangers (s : State) : (State.dropFrame s).line.strangers = s.line.strangers :=
  (State.dropFrame_within s).2.2.2.2.2.1
@[simp] theorem State.dropFrame_stamp (s : State) (q : Nat) (hq : q < 64) : (State.dropFrame s).table[q].stamp = s.table[q].stamp :=
  (State.dropFrame_within s).2.2.2.2.2.2 q hq

/-- Parts of its blocks that `lineOff` keeps. -/
theorem State.lineOff_within (s : State) :
    (State.lineOff s).nv.array = s.nv.array ∧ (State.lineOff s).nv.setup = s.nv.setup ∧ (State.lineOff s).nv.intent = s.nv.intent ∧ (State.lineOff s).line.faults = s.line.faults ∧ (∀ (q : Nat) (hq : q < 64), (State.lineOff s).table[q].stamp = s.table[q].stamp) := by
  unfold State.lineOff; (repeat' (first | split | dsimp only)) <;> simp
@[simp] theorem State.lineOff_nv_array (s : State) : (State.lineOff s).nv.array = s.nv.array :=
  (State.lineOff_within s).1
@[simp] theorem State.lineOff_nv_setup (s : State) : (State.lineOff s).nv.setup = s.nv.setup :=
  (State.lineOff_within s).2.1
@[simp] theorem State.lineOff_nv_intent (s : State) : (State.lineOff s).nv.intent = s.nv.intent :=
  (State.lineOff_within s).2.2.1
@[simp] theorem State.lineOff_line_faults (s : State) : (State.lineOff s).line.faults = s.line.faults :=
  (State.lineOff_within s).2.2.2.1
@[simp] theorem State.lineOff_stamp (s : State) (q : Nat) (hq : q < 64) : (State.lineOff s).table[q].stamp = s.table[q].stamp :=
  (State.lineOff_within s).2.2.2.2 q hq

/-- Parts of its blocks that `disown` keeps. -/
theorem State.disown_within (s : State) (r : Region) :
    (State.disown s r).nv.array = s.nv.array ∧ (State.disown s r).nv.setup = s.nv.setup ∧ (State.disown s r).nv.intent = s.nv.intent ∧ (State.disown s r).ctl.number = s.ctl.number ∧ (State.disown s r).ctl.rate = s.ctl.rate ∧ (State.disown s r).ctl.members = s.ctl.members ∧ (State.disown s r).ctl.guardSet = s.ctl.guardSet ∧ (State.disown s r).ctl.state = s.ctl.state ∧ (State.disown s r).ctl.beaconDue = s.ctl.beaconDue ∧ (State.disown s r).ctl.beaconTimer = s.ctl.beaconTimer ∧ (State.disown s r).ctl.joining = s.ctl.joining ∧ (State.disown s r).roster.entries = s.roster.entries ∧ (State.disown s r).roster.lastAck = s.roster.lastAck ∧ (State.disown s r).roster.cursor = s.roster.cursor ∧ (State.disown s r).port.refused = s.port.refused ∧ (State.disown s r).port.sdo = s.port.sdo ∧ (∀ (q : Nat) (hq : q < 64), (State.disown s r).table[q].stamp = s.table[q].stamp) := by
  unfold State.disown; (repeat' (first | split | dsimp only)) <;> simp
@[simp] theorem State.disown_nv_array (s : State) (r : Region) : (State.disown s r).nv.array = s.nv.array :=
  (State.disown_within s r).1
@[simp] theorem State.disown_nv_setup (s : State) (r : Region) : (State.disown s r).nv.setup = s.nv.setup :=
  (State.disown_within s r).2.1
@[simp] theorem State.disown_nv_intent (s : State) (r : Region) : (State.disown s r).nv.intent = s.nv.intent :=
  (State.disown_within s r).2.2.1
@[simp] theorem State.disown_ctl_number (s : State) (r : Region) : (State.disown s r).ctl.number = s.ctl.number :=
  (State.disown_within s r).2.2.2.1
@[simp] theorem State.disown_ctl_rate (s : State) (r : Region) : (State.disown s r).ctl.rate = s.ctl.rate :=
  (State.disown_within s r).2.2.2.2.1
@[simp] theorem State.disown_ctl_members (s : State) (r : Region) : (State.disown s r).ctl.members = s.ctl.members :=
  (State.disown_within s r).2.2.2.2.2.1
@[simp] theorem State.disown_ctl_guardSet (s : State) (r : Region) : (State.disown s r).ctl.guardSet = s.ctl.guardSet :=
  (State.disown_within s r).2.2.2.2.2.2.1
@[simp] theorem State.disown_ctl_state (s : State) (r : Region) : (State.disown s r).ctl.state = s.ctl.state :=
  (State.disown_within s r).2.2.2.2.2.2.2.1
@[simp] theorem State.disown_ctl_beaconDue (s : State) (r : Region) : (State.disown s r).ctl.beaconDue = s.ctl.beaconDue :=
  (State.disown_within s r).2.2.2.2.2.2.2.2.1
@[simp] theorem State.disown_ctl_beaconTimer (s : State) (r : Region) : (State.disown s r).ctl.beaconTimer = s.ctl.beaconTimer :=
  (State.disown_within s r).2.2.2.2.2.2.2.2.2.1
@[simp] theorem State.disown_ctl_joining (s : State) (r : Region) : (State.disown s r).ctl.joining = s.ctl.joining :=
  (State.disown_within s r).2.2.2.2.2.2.2.2.2.2.1
@[simp] theorem State.disown_roster_entries (s : State) (r : Region) : (State.disown s r).roster.entries = s.roster.entries :=
  (State.disown_within s r).2.2.2.2.2.2.2.2.2.2.2.1
@[simp] theorem State.disown_roster_lastAck (s : State) (r : Region) : (State.disown s r).roster.lastAck = s.roster.lastAck :=
  (State.disown_within s r).2.2.2.2.2.2.2.2.2.2.2.2.1
@[simp] theorem State.disown_roster_cursor (s : State) (r : Region) : (State.disown s r).roster.cursor = s.roster.cursor :=
  (State.disown_within s r).2.2.2.2.2.2.2.2.2.2.2.2.2.1
@[simp] theorem State.disown_port_refused (s : State) (r : Region) : (State.disown s r).port.refused = s.port.refused :=
  (State.disown_within s r).2.2.2.2.2.2.2.2.2.2.2.2.2.2.1
@[simp] theorem State.disown_port_sdo (s : State) (r : Region) : (State.disown s r).port.sdo = s.port.sdo :=
  (State.disown_within s r).2.2.2.2.2.2.2.2.2.2.2.2.2.2.2.1
@[simp] theorem State.disown_stamp (s : State) (r : Region) (q : Nat) (hq : q < 64) : (State.disown s r).table[q].stamp = s.table[q].stamp :=
  (State.disown_within s r).2.2.2.2.2.2.2.2.2.2.2.2.2.2.2.2 q hq

/-- Parts of its blocks that `haltRegion` keeps. -/
theorem State.haltRegion_within (s : State) (r : Region) :
    (State.haltRegion s r).nv.array = s.nv.array ∧ (State.haltRegion s r).nv.setup = s.nv.setup ∧ (State.haltRegion s r).nv.intent = s.nv.intent ∧ (State.haltRegion s r).ctl.number = s.ctl.number ∧ (State.haltRegion s r).ctl.rate = s.ctl.rate ∧ (State.haltRegion s r).ctl.members = s.ctl.members ∧ (State.haltRegion s r).ctl.guardSet = s.ctl.guardSet ∧ (State.haltRegion s r).ctl.state = s.ctl.state ∧ (State.haltRegion s r).ctl.beaconDue = s.ctl.beaconDue ∧ (State.haltRegion s r).ctl.beaconTimer = s.ctl.beaconTimer ∧ (State.haltRegion s r).ctl.joining = s.ctl.joining ∧ (State.haltRegion s r).roster.entries = s.roster.entries ∧ (State.haltRegion s r).roster.lastAck = s.roster.lastAck ∧ (State.haltRegion s r).roster.cursor = s.roster.cursor ∧ (State.haltRegion s r).port.refused = s.port.refused ∧ (State.haltRegion s r).port.sdo = s.port.sdo ∧ (∀ (q : Nat) (hq : q < 64), (State.haltRegion s r).table[q].stamp = s.table[q].stamp) := by
  unfold State.haltRegion; (repeat' (first | split | dsimp only)) <;> simp
@[simp] theorem State.haltRegion_nv_array (s : State) (r : Region) : (State.haltRegion s r).nv.array = s.nv.array :=
  (State.haltRegion_within s r).1
@[simp] theorem State.haltRegion_nv_setup (s : State) (r : Region) : (State.haltRegion s r).nv.setup = s.nv.setup :=
  (State.haltRegion_within s r).2.1
@[simp] theorem State.haltRegion_nv_intent (s : State) (r : Region) : (State.haltRegion s r).nv.intent = s.nv.intent :=
  (State.haltRegion_within s r).2.2.1
@[simp] theorem State.haltRegion_ctl_number (s : State) (r : Region) : (State.haltRegion s r).ctl.number = s.ctl.number :=
  (State.haltRegion_within s r).2.2.2.1
@[simp] theorem State.haltRegion_ctl_rate (s : State) (r : Region) : (State.haltRegion s r).ctl.rate = s.ctl.rate :=
  (State.haltRegion_within s r).2.2.2.2.1
@[simp] theorem State.haltRegion_ctl_members (s : State) (r : Region) : (State.haltRegion s r).ctl.members = s.ctl.members :=
  (State.haltRegion_within s r).2.2.2.2.2.1
@[simp] theorem State.haltRegion_ctl_guardSet (s : State) (r : Region) : (State.haltRegion s r).ctl.guardSet = s.ctl.guardSet :=
  (State.haltRegion_within s r).2.2.2.2.2.2.1
@[simp] theorem State.haltRegion_ctl_state (s : State) (r : Region) : (State.haltRegion s r).ctl.state = s.ctl.state :=
  (State.haltRegion_within s r).2.2.2.2.2.2.2.1
@[simp] theorem State.haltRegion_ctl_beaconDue (s : State) (r : Region) : (State.haltRegion s r).ctl.beaconDue = s.ctl.beaconDue :=
  (State.haltRegion_within s r).2.2.2.2.2.2.2.2.1
@[simp] theorem State.haltRegion_ctl_beaconTimer (s : State) (r : Region) : (State.haltRegion s r).ctl.beaconTimer = s.ctl.beaconTimer :=
  (State.haltRegion_within s r).2.2.2.2.2.2.2.2.2.1
@[simp] theorem State.haltRegion_ctl_joining (s : State) (r : Region) : (State.haltRegion s r).ctl.joining = s.ctl.joining :=
  (State.haltRegion_within s r).2.2.2.2.2.2.2.2.2.2.1
@[simp] theorem State.haltRegion_roster_entries (s : State) (r : Region) : (State.haltRegion s r).roster.entries = s.roster.entries :=
  (State.haltRegion_within s r).2.2.2.2.2.2.2.2.2.2.2.1
@[simp] theorem State.haltRegion_roster_lastAck (s : State) (r : Region) : (State.haltRegion s r).roster.lastAck = s.roster.lastAck :=
  (State.haltRegion_within s r).2.2.2.2.2.2.2.2.2.2.2.2.1
@[simp] theorem State.haltRegion_roster_cursor (s : State) (r : Region) : (State.haltRegion s r).roster.cursor = s.roster.cursor :=
  (State.haltRegion_within s r).2.2.2.2.2.2.2.2.2.2.2.2.2.1
@[simp] theorem State.haltRegion_port_refused (s : State) (r : Region) : (State.haltRegion s r).port.refused = s.port.refused :=
  (State.haltRegion_within s r).2.2.2.2.2.2.2.2.2.2.2.2.2.2.1
@[simp] theorem State.haltRegion_port_sdo (s : State) (r : Region) : (State.haltRegion s r).port.sdo = s.port.sdo :=
  (State.haltRegion_within s r).2.2.2.2.2.2.2.2.2.2.2.2.2.2.2.1
@[simp] theorem State.haltRegion_stamp (s : State) (r : Region) (q : Nat) (hq : q < 64) : (State.haltRegion s r).table[q].stamp = s.table[q].stamp :=
  (State.haltRegion_within s r).2.2.2.2.2.2.2.2.2.2.2.2.2.2.2.2 q hq

/-- Parts of its blocks that `haltApply` keeps. -/
theorem State.haltApply_within (s : State) :
    (State.haltApply s).nv.array = s.nv.array ∧ (State.haltApply s).nv.setup = s.nv.setup ∧ (State.haltApply s).nv.intent = s.nv.intent ∧ (State.haltApply s).ctl.number = s.ctl.number ∧ (State.haltApply s).ctl.rate = s.ctl.rate ∧ (State.haltApply s).ctl.members = s.ctl.members ∧ (State.haltApply s).ctl.guardSet = s.ctl.guardSet ∧ (State.haltApply s).ctl.state = s.ctl.state ∧ (State.haltApply s).ctl.beaconDue = s.ctl.beaconDue ∧ (State.haltApply s).ctl.beaconTimer = s.ctl.beaconTimer ∧ (State.haltApply s).ctl.joining = s.ctl.joining ∧ (State.haltApply s).roster.entries = s.roster.entries ∧ (State.haltApply s).roster.lastAck = s.roster.lastAck ∧ (State.haltApply s).roster.cursor = s.roster.cursor ∧ (State.haltApply s).port.refused = s.port.refused ∧ (State.haltApply s).port.sdo = s.port.sdo ∧ (∀ (q : Nat) (hq : q < 64), (State.haltApply s).table[q].stamp = s.table[q].stamp) := by
  unfold State.haltApply
  refine ⟨?_, ?_, ?_, ?_, ?_, ?_, ?_, ?_, ?_, ?_, ?_, ?_, ?_, ?_, ?_, ?_, ?_⟩
  · exact (foldl_keeps (fun t : State => t.nv.array) _ (fun t x => by simp) _ _).trans (by simp)
  · exact (foldl_keeps (fun t : State => t.nv.setup) _ (fun t x => by simp) _ _).trans (by simp)
  · exact (foldl_keeps (fun t : State => t.nv.intent) _ (fun t x => by simp) _ _).trans (by simp)
  · exact (foldl_keeps (fun t : State => t.ctl.number) _ (fun t x => by simp) _ _).trans (by simp)
  · exact (foldl_keeps (fun t : State => t.ctl.rate) _ (fun t x => by simp) _ _).trans (by simp)
  · exact (foldl_keeps (fun t : State => t.ctl.members) _ (fun t x => by simp) _ _).trans (by simp)
  · exact (foldl_keeps (fun t : State => t.ctl.guardSet) _ (fun t x => by simp) _ _).trans (by simp)
  · exact (foldl_keeps (fun t : State => t.ctl.state) _ (fun t x => by simp) _ _).trans (by simp)
  · exact (foldl_keeps (fun t : State => t.ctl.beaconDue) _ (fun t x => by simp) _ _).trans (by simp)
  · exact (foldl_keeps (fun t : State => t.ctl.beaconTimer) _ (fun t x => by simp) _ _).trans (by simp)
  · exact (foldl_keeps (fun t : State => t.ctl.joining) _ (fun t x => by simp) _ _).trans (by simp)
  · exact (foldl_keeps (fun t : State => t.roster.entries) _ (fun t x => by simp) _ _).trans (by simp)
  · exact (foldl_keeps (fun t : State => t.roster.lastAck) _ (fun t x => by simp) _ _).trans (by simp)
  · exact (foldl_keeps (fun t : State => t.roster.cursor) _ (fun t x => by simp) _ _).trans (by simp)
  · exact (foldl_keeps (fun t : State => t.port.refused) _ (fun t x => by simp) _ _).trans (by simp)
  · exact (foldl_keeps (fun t : State => t.port.sdo) _ (fun t x => by simp) _ _).trans (by simp)
  · intro q hq
    exact (foldl_keeps (fun t : State => t.table[q].stamp) _ (fun t x => by simp) _ _).trans (by simp)
@[simp] theorem State.haltApply_nv_array (s : State) : (State.haltApply s).nv.array = s.nv.array :=
  (State.haltApply_within s).1
@[simp] theorem State.haltApply_nv_setup (s : State) : (State.haltApply s).nv.setup = s.nv.setup :=
  (State.haltApply_within s).2.1
@[simp] theorem State.haltApply_nv_intent (s : State) : (State.haltApply s).nv.intent = s.nv.intent :=
  (State.haltApply_within s).2.2.1
@[simp] theorem State.haltApply_ctl_number (s : State) : (State.haltApply s).ctl.number = s.ctl.number :=
  (State.haltApply_within s).2.2.2.1
@[simp] theorem State.haltApply_ctl_rate (s : State) : (State.haltApply s).ctl.rate = s.ctl.rate :=
  (State.haltApply_within s).2.2.2.2.1
@[simp] theorem State.haltApply_ctl_members (s : State) : (State.haltApply s).ctl.members = s.ctl.members :=
  (State.haltApply_within s).2.2.2.2.2.1
@[simp] theorem State.haltApply_ctl_guardSet (s : State) : (State.haltApply s).ctl.guardSet = s.ctl.guardSet :=
  (State.haltApply_within s).2.2.2.2.2.2.1
@[simp] theorem State.haltApply_ctl_state (s : State) : (State.haltApply s).ctl.state = s.ctl.state :=
  (State.haltApply_within s).2.2.2.2.2.2.2.1
@[simp] theorem State.haltApply_ctl_beaconDue (s : State) : (State.haltApply s).ctl.beaconDue = s.ctl.beaconDue :=
  (State.haltApply_within s).2.2.2.2.2.2.2.2.1
@[simp] theorem State.haltApply_ctl_beaconTimer (s : State) : (State.haltApply s).ctl.beaconTimer = s.ctl.beaconTimer :=
  (State.haltApply_within s).2.2.2.2.2.2.2.2.2.1
@[simp] theorem State.haltApply_ctl_joining (s : State) : (State.haltApply s).ctl.joining = s.ctl.joining :=
  (State.haltApply_within s).2.2.2.2.2.2.2.2.2.2.1
@[simp] theorem State.haltApply_roster_entries (s : State) : (State.haltApply s).roster.entries = s.roster.entries :=
  (State.haltApply_within s).2.2.2.2.2.2.2.2.2.2.2.1
@[simp] theorem State.haltApply_roster_lastAck (s : State) : (State.haltApply s).roster.lastAck = s.roster.lastAck :=
  (State.haltApply_within s).2.2.2.2.2.2.2.2.2.2.2.2.1
@[simp] theorem State.haltApply_roster_cursor (s : State) : (State.haltApply s).roster.cursor = s.roster.cursor :=
  (State.haltApply_within s).2.2.2.2.2.2.2.2.2.2.2.2.2.1
@[simp] theorem State.haltApply_port_refused (s : State) : (State.haltApply s).port.refused = s.port.refused :=
  (State.haltApply_within s).2.2.2.2.2.2.2.2.2.2.2.2.2.2.1
@[simp] theorem State.haltApply_port_sdo (s : State) : (State.haltApply s).port.sdo = s.port.sdo :=
  (State.haltApply_within s).2.2.2.2.2.2.2.2.2.2.2.2.2.2.2.1
@[simp] theorem State.haltApply_stamp (s : State) (q : Nat) (hq : q < 64) : (State.haltApply s).table[q].stamp = s.table[q].stamp :=
  (State.haltApply_within s).2.2.2.2.2.2.2.2.2.2.2.2.2.2.2.2 q hq

/-- Parts of its blocks that `stopTimers` keeps. -/
theorem State.stopTimers_within (s : State) :
    (State.stopTimers s).ctl.number = s.ctl.number ∧ (State.stopTimers s).ctl.rate = s.ctl.rate ∧ (State.stopTimers s).ctl.members = s.ctl.members ∧ (State.stopTimers s).ctl.guardSet = s.ctl.guardSet ∧ (State.stopTimers s).ctl.state = s.ctl.state ∧ (State.stopTimers s).ctl.joining = s.ctl.joining := by
  unfold State.stopTimers; (repeat' (first | split | dsimp only)) <;> simp
@[simp] theorem State.stopTimers_ctl_number (s : State) : (State.stopTimers s).ctl.number = s.ctl.number :=
  (State.stopTimers_within s).1
@[simp] theorem State.stopTimers_ctl_rate (s : State) : (State.stopTimers s).ctl.rate = s.ctl.rate :=
  (State.stopTimers_within s).2.1
@[simp] theorem State.stopTimers_ctl_members (s : State) : (State.stopTimers s).ctl.members = s.ctl.members :=
  (State.stopTimers_within s).2.2.1
@[simp] theorem State.stopTimers_ctl_guardSet (s : State) : (State.stopTimers s).ctl.guardSet = s.ctl.guardSet :=
  (State.stopTimers_within s).2.2.2.1
@[simp] theorem State.stopTimers_ctl_state (s : State) : (State.stopTimers s).ctl.state = s.ctl.state :=
  (State.stopTimers_within s).2.2.2.2.1
@[simp] theorem State.stopTimers_ctl_joining (s : State) : (State.stopTimers s).ctl.joining = s.ctl.joining :=
  (State.stopTimers_within s).2.2.2.2.2

/-- Parts of its blocks that `halt` keeps. -/
theorem State.halt_within (s : State) (c : HaltCause) :
    (State.halt s c).nv.array = s.nv.array ∧ (State.halt s c).nv.setup = s.nv.setup ∧ (State.halt s c).nv.intent = s.nv.intent ∧ (State.halt s c).ctl.number = s.ctl.number ∧ (State.halt s c).ctl.rate = s.ctl.rate ∧ (State.halt s c).ctl.members = s.ctl.members ∧ (State.halt s c).ctl.guardSet = s.ctl.guardSet ∧ (State.halt s c).ctl.joining = s.ctl.joining ∧ (State.halt s c).roster.lastAck = s.roster.lastAck ∧ (State.halt s c).roster.cursor = s.roster.cursor ∧ (State.halt s c).line.faults = s.line.faults ∧ (State.halt s c).port.refused = s.port.refused ∧ (State.halt s c).port.sdo = s.port.sdo ∧ (∀ (q : Nat) (hq : q < 64), (State.halt s c).table[q].stamp = s.table[q].stamp) := by
  unfold State.halt; (repeat' (first | split | dsimp only)) <;> simp
@[simp] theorem State.halt_nv_array (s : State) (c : HaltCause) : (State.halt s c).nv.array = s.nv.array :=
  (State.halt_within s c).1
@[simp] theorem State.halt_nv_setup (s : State) (c : HaltCause) : (State.halt s c).nv.setup = s.nv.setup :=
  (State.halt_within s c).2.1
@[simp] theorem State.halt_nv_intent (s : State) (c : HaltCause) : (State.halt s c).nv.intent = s.nv.intent :=
  (State.halt_within s c).2.2.1
@[simp] theorem State.halt_ctl_number (s : State) (c : HaltCause) : (State.halt s c).ctl.number = s.ctl.number :=
  (State.halt_within s c).2.2.2.1
@[simp] theorem State.halt_ctl_rate (s : State) (c : HaltCause) : (State.halt s c).ctl.rate = s.ctl.rate :=
  (State.halt_within s c).2.2.2.2.1
@[simp] theorem State.halt_ctl_members (s : State) (c : HaltCause) : (State.halt s c).ctl.members = s.ctl.members :=
  (State.halt_within s c).2.2.2.2.2.1
@[simp] theorem State.halt_ctl_guardSet (s : State) (c : HaltCause) : (State.halt s c).ctl.guardSet = s.ctl.guardSet :=
  (State.halt_within s c).2.2.2.2.2.2.1
@[simp] theorem State.halt_ctl_joining (s : State) (c : HaltCause) : (State.halt s c).ctl.joining = s.ctl.joining :=
  (State.halt_within s c).2.2.2.2.2.2.2.1
@[simp] theorem State.halt_roster_lastAck (s : State) (c : HaltCause) : (State.halt s c).roster.lastAck = s.roster.lastAck :=
  (State.halt_within s c).2.2.2.2.2.2.2.2.1
@[simp] theorem State.halt_roster_cursor (s : State) (c : HaltCause) : (State.halt s c).roster.cursor = s.roster.cursor :=
  (State.halt_within s c).2.2.2.2.2.2.2.2.2.1
@[simp] theorem State.halt_line_faults (s : State) (c : HaltCause) : (State.halt s c).line.faults = s.line.faults :=
  (State.halt_within s c).2.2.2.2.2.2.2.2.2.2.1
@[simp] theorem State.halt_port_refused (s : State) (c : HaltCause) : (State.halt s c).port.refused = s.port.refused :=
  (State.halt_within s c).2.2.2.2.2.2.2.2.2.2.2.1
@[simp] theorem State.halt_port_sdo (s : State) (c : HaltCause) : (State.halt s c).port.sdo = s.port.sdo :=
  (State.halt_within s c).2.2.2.2.2.2.2.2.2.2.2.2.1
@[simp] theorem State.halt_stamp (s : State) (c : HaltCause) (q : Nat) (hq : q < 64) : (State.halt s c).table[q].stamp = s.table[q].stamp :=
  (State.halt_within s c).2.2.2.2.2.2.2.2.2.2.2.2.2 q hq

/-- Parts of its blocks that `forgetOwners` keeps. -/
theorem State.forgetOwners_within (s : State) :
    (∀ (q : Nat) (hq : q < 64), (State.forgetOwners s).table[q].stamp = s.table[q].stamp) := by
  unfold State.forgetOwners; (repeat' (first | split | dsimp only)) <;> simp
@[simp] theorem State.forgetOwners_stamp (s : State) (q : Nat) (hq : q < 64) : (State.forgetOwners s).table[q].stamp = s.table[q].stamp :=
  (State.forgetOwners_within s) q hq

/-- Parts of its blocks that `goOffline` keeps. -/
theorem State.goOffline_within (s : State) :
    (State.goOffline s).nv.array = s.nv.array ∧ (State.goOffline s).nv.setup = s.nv.setup ∧ (State.goOffline s).nv.intent = s.nv.intent ∧ (State.goOffline s).ctl.number = s.ctl.number ∧ (State.goOffline s).ctl.rate = s.ctl.rate ∧ (State.goOffline s).ctl.members = s.ctl.members ∧ (State.goOffline s).ctl.guardSet = s.ctl.guardSet ∧ (State.goOffline s).ctl.beaconTimer = s.ctl.beaconTimer ∧ (State.goOffline s).ctl.joining = s.ctl.joining ∧ (State.goOffline s).roster.lastAck = s.roster.lastAck ∧ (State.goOffline s).roster.cursor = s.roster.cursor ∧ (State.goOffline s).line.faults = s.line.faults ∧ (∀ (q : Nat) (hq : q < 64), (State.goOffline s).table[q].stamp = s.table[q].stamp) := by
  unfold State.goOffline; (repeat' (first | split | dsimp only)) <;> simp
@[simp] theorem State.goOffline_nv_array (s : State) : (State.goOffline s).nv.array = s.nv.array :=
  (State.goOffline_within s).1
@[simp] theorem State.goOffline_nv_setup (s : State) : (State.goOffline s).nv.setup = s.nv.setup :=
  (State.goOffline_within s).2.1
@[simp] theorem State.goOffline_nv_intent (s : State) : (State.goOffline s).nv.intent = s.nv.intent :=
  (State.goOffline_within s).2.2.1
@[simp] theorem State.goOffline_ctl_number (s : State) : (State.goOffline s).ctl.number = s.ctl.number :=
  (State.goOffline_within s).2.2.2.1
@[simp] theorem State.goOffline_ctl_rate (s : State) : (State.goOffline s).ctl.rate = s.ctl.rate :=
  (State.goOffline_within s).2.2.2.2.1
@[simp] theorem State.goOffline_ctl_members (s : State) : (State.goOffline s).ctl.members = s.ctl.members :=
  (State.goOffline_within s).2.2.2.2.2.1
@[simp] theorem State.goOffline_ctl_guardSet (s : State) : (State.goOffline s).ctl.guardSet = s.ctl.guardSet :=
  (State.goOffline_within s).2.2.2.2.2.2.1
@[simp] theorem State.goOffline_ctl_beaconTimer (s : State) : (State.goOffline s).ctl.beaconTimer = s.ctl.beaconTimer :=
  (State.goOffline_within s).2.2.2.2.2.2.2.1
@[simp] theorem State.goOffline_ctl_joining (s : State) : (State.goOffline s).ctl.joining = s.ctl.joining :=
  (State.goOffline_within s).2.2.2.2.2.2.2.2.1
@[simp] theorem State.goOffline_roster_lastAck (s : State) : (State.goOffline s).roster.lastAck = s.roster.lastAck :=
  (State.goOffline_within s).2.2.2.2.2.2.2.2.2.1
@[simp] theorem State.goOffline_roster_cursor (s : State) : (State.goOffline s).roster.cursor = s.roster.cursor :=
  (State.goOffline_within s).2.2.2.2.2.2.2.2.2.2.1
@[simp] theorem State.goOffline_line_faults (s : State) : (State.goOffline s).line.faults = s.line.faults :=
  (State.goOffline_within s).2.2.2.2.2.2.2.2.2.2.2.1
@[simp] theorem State.goOffline_stamp (s : State) (q : Nat) (hq : q < 64) : (State.goOffline s).table[q].stamp = s.table[q].stamp :=
  (State.goOffline_within s).2.2.2.2.2.2.2.2.2.2.2.2 q hq

/-- Parts of its blocks that `drainEnd` keeps. -/
theorem State.drainEnd_within (s : State) :
    (State.drainEnd s).ctl.number = s.ctl.number ∧ (State.drainEnd s).ctl.rate = s.ctl.rate ∧ (State.drainEnd s).ctl.members = s.ctl.members ∧ (State.drainEnd s).ctl.guardSet = s.ctl.guardSet ∧ (State.drainEnd s).ctl.state = s.ctl.state ∧ (State.drainEnd s).ctl.beaconTimer = s.ctl.beaconTimer ∧ (State.drainEnd s).ctl.joining = s.ctl.joining := by
  unfold State.drainEnd; (repeat' (first | split | dsimp only)) <;> simp
@[simp] theorem State.drainEnd_ctl_number (s : State) : (State.drainEnd s).ctl.number = s.ctl.number :=
  (State.drainEnd_within s).1
@[simp] theorem State.drainEnd_ctl_rate (s : State) : (State.drainEnd s).ctl.rate = s.ctl.rate :=
  (State.drainEnd_within s).2.1
@[simp] theorem State.drainEnd_ctl_members (s : State) : (State.drainEnd s).ctl.members = s.ctl.members :=
  (State.drainEnd_within s).2.2.1
@[simp] theorem State.drainEnd_ctl_guardSet (s : State) : (State.drainEnd s).ctl.guardSet = s.ctl.guardSet :=
  (State.drainEnd_within s).2.2.2.1
@[simp] theorem State.drainEnd_ctl_state (s : State) : (State.drainEnd s).ctl.state = s.ctl.state :=
  (State.drainEnd_within s).2.2.2.2.1
@[simp] theorem State.drainEnd_ctl_beaconTimer (s : State) : (State.drainEnd s).ctl.beaconTimer = s.ctl.beaconTimer :=
  (State.drainEnd_within s).2.2.2.2.2.1
@[simp] theorem State.drainEnd_ctl_joining (s : State) : (State.drainEnd s).ctl.joining = s.ctl.joining :=
  (State.drainEnd_within s).2.2.2.2.2.2

/-- Parts of its blocks that `finalEnd` keeps. -/
theorem State.finalEnd_within (s : State) :
    (State.finalEnd s).nv.array = s.nv.array ∧ (State.finalEnd s).nv.setup = s.nv.setup ∧ (State.finalEnd s).nv.intent = s.nv.intent ∧ (State.finalEnd s).ctl.number = s.ctl.number ∧ (State.finalEnd s).ctl.rate = s.ctl.rate ∧ (State.finalEnd s).ctl.members = s.ctl.members ∧ (State.finalEnd s).ctl.guardSet = s.ctl.guardSet ∧ (State.finalEnd s).ctl.beaconTimer = s.ctl.beaconTimer ∧ (State.finalEnd s).ctl.joining = s.ctl.joining ∧ (State.finalEnd s).roster.lastAck = s.roster.lastAck ∧ (State.finalEnd s).roster.cursor = s.roster.cursor ∧ (State.finalEnd s).line.faults = s.line.faults ∧ (∀ (q : Nat) (hq : q < 64), (State.finalEnd s).table[q].stamp = s.table[q].stamp) := by
  unfold State.finalEnd; (repeat' (first | split | dsimp only)) <;> simp
@[simp] theorem State.finalEnd_nv_array (s : State) : (State.finalEnd s).nv.array = s.nv.array :=
  (State.finalEnd_within s).1
@[simp] theorem State.finalEnd_nv_setup (s : State) : (State.finalEnd s).nv.setup = s.nv.setup :=
  (State.finalEnd_within s).2.1
@[simp] theorem State.finalEnd_nv_intent (s : State) : (State.finalEnd s).nv.intent = s.nv.intent :=
  (State.finalEnd_within s).2.2.1
@[simp] theorem State.finalEnd_ctl_number (s : State) : (State.finalEnd s).ctl.number = s.ctl.number :=
  (State.finalEnd_within s).2.2.2.1
@[simp] theorem State.finalEnd_ctl_rate (s : State) : (State.finalEnd s).ctl.rate = s.ctl.rate :=
  (State.finalEnd_within s).2.2.2.2.1
@[simp] theorem State.finalEnd_ctl_members (s : State) : (State.finalEnd s).ctl.members = s.ctl.members :=
  (State.finalEnd_within s).2.2.2.2.2.1
@[simp] theorem State.finalEnd_ctl_guardSet (s : State) : (State.finalEnd s).ctl.guardSet = s.ctl.guardSet :=
  (State.finalEnd_within s).2.2.2.2.2.2.1
@[simp] theorem State.finalEnd_ctl_beaconTimer (s : State) : (State.finalEnd s).ctl.beaconTimer = s.ctl.beaconTimer :=
  (State.finalEnd_within s).2.2.2.2.2.2.2.1
@[simp] theorem State.finalEnd_ctl_joining (s : State) : (State.finalEnd s).ctl.joining = s.ctl.joining :=
  (State.finalEnd_within s).2.2.2.2.2.2.2.2.1
@[simp] theorem State.finalEnd_roster_lastAck (s : State) : (State.finalEnd s).roster.lastAck = s.roster.lastAck :=
  (State.finalEnd_within s).2.2.2.2.2.2.2.2.2.1
@[simp] theorem State.finalEnd_roster_cursor (s : State) : (State.finalEnd s).roster.cursor = s.roster.cursor :=
  (State.finalEnd_within s).2.2.2.2.2.2.2.2.2.2.1
@[simp] theorem State.finalEnd_line_faults (s : State) : (State.finalEnd s).line.faults = s.line.faults :=
  (State.finalEnd_within s).2.2.2.2.2.2.2.2.2.2.2.1
@[simp] theorem State.finalEnd_stamp (s : State) (q : Nat) (hq : q < 64) : (State.finalEnd s).table[q].stamp = s.table[q].stamp :=
  (State.finalEnd_within s).2.2.2.2.2.2.2.2.2.2.2.2 q hq

end Sys2Proof.Machine
end

