-- ==== Sys2Proof/Laws/ArbiterWithin.lean ====
section
/-! SUPPORT. What each operation of Machine/Arbiter.lean leaves as it is within the blocks it changes. -/

namespace Sys2Proof.Machine

/-- Parts of its blocks that `setIntent` keeps. -/
theorem State.setIntent_within (s : State) (i : Option Intent) :
    (State.setIntent s i).nv.array = s.nv.array ∧ (State.setIntent s i).nv.regions = s.nv.regions ∧ (State.setIntent s i).nv.setup = s.nv.setup := by
  unfold State.setIntent; (repeat' (first | split | dsimp only)) <;> simp
@[simp] theorem State.setIntent_nv_array (s : State) (i : Option Intent) : (State.setIntent s i).nv.array = s.nv.array :=
  (State.setIntent_within s i).1
@[simp] theorem State.setIntent_nv_regions (s : State) (i : Option Intent) : (State.setIntent s i).nv.regions = s.nv.regions :=
  (State.setIntent_within s i).2.1
@[simp] theorem State.setIntent_nv_setup (s : State) (i : Option Intent) : (State.setIntent s i).nv.setup = s.nv.setup :=
  (State.setIntent_within s i).2.2

/-- Parts of its blocks that `grantHost` keeps. -/
theorem State.grantHost_within (s : State) :
    (State.grantHost s).nv.array = s.nv.array ∧ (State.grantHost s).nv.regions = s.nv.regions ∧ (State.grantHost s).nv.setup = s.nv.setup := by
  unfold State.grantHost; (repeat' (first | split | dsimp only)) <;> simp
@[simp] theorem State.grantHost_nv_array (s : State) : (State.grantHost s).nv.array = s.nv.array :=
  (State.grantHost_within s).1
@[simp] theorem State.grantHost_nv_regions (s : State) : (State.grantHost s).nv.regions = s.nv.regions :=
  (State.grantHost_within s).2.1
@[simp] theorem State.grantHost_nv_setup (s : State) : (State.grantHost s).nv.setup = s.nv.setup :=
  (State.grantHost_within s).2.2

/-- Parts of its blocks that `grantHead` keeps. -/
theorem State.grantHead_within (s : State) :
    (State.grantHead s).nv.array = s.nv.array ∧ (State.grantHead s).nv.regions = s.nv.regions ∧ (State.grantHead s).nv.setup = s.nv.setup := by
  unfold State.grantHead; (repeat' (first | split | dsimp only)) <;> simp
@[simp] theorem State.grantHead_nv_array (s : State) : (State.grantHead s).nv.array = s.nv.array :=
  (State.grantHead_within s).1
@[simp] theorem State.grantHead_nv_regions (s : State) : (State.grantHead s).nv.regions = s.nv.regions :=
  (State.grantHead_within s).2.1
@[simp] theorem State.grantHead_nv_setup (s : State) : (State.grantHead s).nv.setup = s.nv.setup :=
  (State.grantHead_within s).2.2

/-- Parts of its blocks that `arbitrate` keeps. -/
theorem State.arbitrate_within (s : State) :
    (State.arbitrate s).nv.array = s.nv.array ∧ (State.arbitrate s).nv.regions = s.nv.regions ∧ (State.arbitrate s).nv.setup = s.nv.setup := by
  unfold State.arbitrate; (repeat' (first | split | dsimp only)) <;> simp
@[simp] theorem State.arbitrate_nv_array (s : State) : (State.arbitrate s).nv.array = s.nv.array :=
  (State.arbitrate_within s).1
@[simp] theorem State.arbitrate_nv_regions (s : State) : (State.arbitrate s).nv.regions = s.nv.regions :=
  (State.arbitrate_within s).2.1
@[simp] theorem State.arbitrate_nv_setup (s : State) : (State.arbitrate s).nv.setup = s.nv.setup :=
  (State.arbitrate_within s).2.2

/-- Parts of its blocks that `resume` keeps. -/
theorem State.resume_within (s : State) :
    (State.resume s).nv.array = s.nv.array ∧ (State.resume s).nv.setup = s.nv.setup ∧ (∀ (q : Nat) (hq : q < 64), (State.resume s).table[q].stamp = s.table[q].stamp) := by
  unfold State.resume; (repeat' (first | split | dsimp only)) <;> simp
@[simp] theorem State.resume_nv_array (s : State) : (State.resume s).nv.array = s.nv.array :=
  (State.resume_within s).1
@[simp] theorem State.resume_nv_setup (s : State) : (State.resume s).nv.setup = s.nv.setup :=
  (State.resume_within s).2.1
@[simp] theorem State.resume_stamp (s : State) (q : Nat) (hq : q < 64) : (State.resume s).table[q].stamp = s.table[q].stamp :=
  (State.resume_within s).2.2 q hq

/-- Parts of its blocks that `settle` keeps. -/
theorem State.settle_within (s : State) :
    (State.settle s).nv.array = s.nv.array ∧ (State.settle s).nv.setup = s.nv.setup ∧ (State.settle s).ctl.number = s.ctl.number ∧ (State.settle s).ctl.rate = s.ctl.rate ∧ (State.settle s).ctl.members = s.ctl.members ∧ (State.settle s).ctl.guardSet = s.ctl.guardSet ∧ (State.settle s).ctl.state = s.ctl.state ∧ (State.settle s).ctl.beaconTimer = s.ctl.beaconTimer ∧ (State.settle s).ctl.joining = s.ctl.joining ∧ (∀ (q : Nat) (hq : q < 64), (State.settle s).table[q].stamp = s.table[q].stamp) := by
  unfold State.settle; (repeat' (first | split | dsimp only)) <;> simp
@[simp] theorem State.settle_nv_array (s : State) : (State.settle s).nv.array = s.nv.array :=
  (State.settle_within s).1
@[simp] theorem State.settle_nv_setup (s : State) : (State.settle s).nv.setup = s.nv.setup :=
  (State.settle_within s).2.1
@[simp] theorem State.settle_ctl_number (s : State) : (State.settle s).ctl.number = s.ctl.number :=
  (State.settle_within s).2.2.1
@[simp] theorem State.settle_ctl_rate (s : State) : (State.settle s).ctl.rate = s.ctl.rate :=
  (State.settle_within s).2.2.2.1
@[simp] theorem State.settle_ctl_members (s : State) : (State.settle s).ctl.members = s.ctl.members :=
  (State.settle_within s).2.2.2.2.1
@[simp] theorem State.settle_ctl_guardSet (s : State) : (State.settle s).ctl.guardSet = s.ctl.guardSet :=
  (State.settle_within s).2.2.2.2.2.1
@[simp] theorem State.settle_ctl_state (s : State) : (State.settle s).ctl.state = s.ctl.state :=
  (State.settle_within s).2.2.2.2.2.2.1
@[simp] theorem State.settle_ctl_beaconTimer (s : State) : (State.settle s).ctl.beaconTimer = s.ctl.beaconTimer :=
  (State.settle_within s).2.2.2.2.2.2.2.1
@[simp] theorem State.settle_ctl_joining (s : State) : (State.settle s).ctl.joining = s.ctl.joining :=
  (State.settle_within s).2.2.2.2.2.2.2.2.1
@[simp] theorem State.settle_stamp (s : State) (q : Nat) (hq : q < 64) : (State.settle s).table[q].stamp = s.table[q].stamp :=
  (State.settle_within s).2.2.2.2.2.2.2.2.2 q hq

/-- Parts of its blocks that `afterAttempt` keeps. -/
theorem State.afterAttempt_within (s : State) :
    (State.afterAttempt s).nv.array = s.nv.array ∧ (State.afterAttempt s).nv.setup = s.nv.setup ∧ (State.afterAttempt s).ctl.number = s.ctl.number ∧ (State.afterAttempt s).ctl.rate = s.ctl.rate ∧ (State.afterAttempt s).ctl.members = s.ctl.members ∧ (State.afterAttempt s).ctl.guardSet = s.ctl.guardSet ∧ (State.afterAttempt s).ctl.beaconTimer = s.ctl.beaconTimer ∧ (State.afterAttempt s).ctl.joining = s.ctl.joining ∧ (State.afterAttempt s).roster.lastAck = s.roster.lastAck ∧ (State.afterAttempt s).roster.cursor = s.roster.cursor ∧ (State.afterAttempt s).line.faults = s.line.faults ∧ (∀ (q : Nat) (hq : q < 64), (State.afterAttempt s).table[q].stamp = s.table[q].stamp) := by
  unfold State.afterAttempt; (repeat' (first | split | dsimp only)) <;> simp
@[simp] theorem State.afterAttempt_nv_array (s : State) : (State.afterAttempt s).nv.array = s.nv.array :=
  (State.afterAttempt_within s).1
@[simp] theorem State.afterAttempt_nv_setup (s : State) : (State.afterAttempt s).nv.setup = s.nv.setup :=
  (State.afterAttempt_within s).2.1
@[simp] theorem State.afterAttempt_ctl_number (s : State) : (State.afterAttempt s).ctl.number = s.ctl.number :=
  (State.afterAttempt_within s).2.2.1
@[simp] theorem State.afterAttempt_ctl_rate (s : State) : (State.afterAttempt s).ctl.rate = s.ctl.rate :=
  (State.afterAttempt_within s).2.2.2.1
@[simp] theorem State.afterAttempt_ctl_members (s : State) : (State.afterAttempt s).ctl.members = s.ctl.members :=
  (State.afterAttempt_within s).2.2.2.2.1
@[simp] theorem State.afterAttempt_ctl_guardSet (s : State) : (State.afterAttempt s).ctl.guardSet = s.ctl.guardSet :=
  (State.afterAttempt_within s).2.2.2.2.2.1
@[simp] theorem State.afterAttempt_ctl_beaconTimer (s : State) : (State.afterAttempt s).ctl.beaconTimer = s.ctl.beaconTimer :=
  (State.afterAttempt_within s).2.2.2.2.2.2.1
@[simp] theorem State.afterAttempt_ctl_joining (s : State) : (State.afterAttempt s).ctl.joining = s.ctl.joining :=
  (State.afterAttempt_within s).2.2.2.2.2.2.2.1
@[simp] theorem State.afterAttempt_roster_lastAck (s : State) : (State.afterAttempt s).roster.lastAck = s.roster.lastAck :=
  (State.afterAttempt_within s).2.2.2.2.2.2.2.2.1
@[simp] theorem State.afterAttempt_roster_cursor (s : State) : (State.afterAttempt s).roster.cursor = s.roster.cursor :=
  (State.afterAttempt_within s).2.2.2.2.2.2.2.2.2.1
@[simp] theorem State.afterAttempt_line_faults (s : State) : (State.afterAttempt s).line.faults = s.line.faults :=
  (State.afterAttempt_within s).2.2.2.2.2.2.2.2.2.2.1
@[simp] theorem State.afterAttempt_stamp (s : State) (q : Nat) (hq : q < 64) : (State.afterAttempt s).table[q].stamp = s.table[q].stamp :=
  (State.afterAttempt_within s).2.2.2.2.2.2.2.2.2.2.2 q hq

end Sys2Proof.Machine
end

