-- ==== Sys2Proof/Laws/HostPortWithin.lean ====
section
/-! SUPPORT. What each operation of Machine/HostPort.lean leaves as it is within the blocks it changes. -/

namespace Sys2Proof.Machine

/-- Parts of its blocks that `refusePut` keeps. -/
theorem State.refusePut_within (s : State) :
    (State.refusePut s).port.sdo = s.port.sdo := by
  unfold State.refusePut; (repeat' (first | split | dsimp only)) <;> simp
@[simp] theorem State.refusePut_port_sdo (s : State) : (State.refusePut s).port.sdo = s.port.sdo :=
  (State.refusePut_within s)

/-- Parts of its blocks that `undriven` keeps. -/
theorem State.undriven_within (s : State) :
    (State.undriven s).port.refused = s.port.refused := by
  unfold State.undriven; (repeat' (first | split | dsimp only)) <;> simp
@[simp] theorem State.undriven_port_refused (s : State) : (State.undriven s).port.refused = s.port.refused :=
  (State.undriven_within s)

/-- Parts of its blocks that `takeBits` keeps. -/
theorem State.takeBits_within (s : State) (bits : Nat) :
    (State.takeBits s bits).port.refused = s.port.refused := by
  unfold State.takeBits; (repeat' (first | split | dsimp only)) <;> simp
@[simp] theorem State.takeBits_port_refused (s : State) (bits : Nat) : (State.takeBits s bits).port.refused = s.port.refused :=
  (State.takeBits_within s bits)

end Sys2Proof.Machine
end

