-- ==== Sys2Proof/Laws/HostCommandsWithin.lean ====
section
/-! SUPPORT. What each operation of Machine/HostCommands.lean leaves as it is within the blocks it changes. -/

namespace Sys2Proof.Machine

/-- Parts of its blocks that `startRead` keeps. -/
theorem State.startRead_within (s : State) (r : Region) (offset length : Nat) :
    (State.startRead s r offset length).nv.array = s.nv.array ∧ (State.startRead s r offset length).nv.regions = s.nv.regions ∧ (State.startRead s r offset length).nv.setup = s.nv.setup ∧ (State.startRead s r offset length).port.refused = s.port.refused ∧ (State.startRead s r offset length).port.sdo = s.port.sdo := by
  unfold State.startRead; (repeat' (first | split | dsimp only)) <;> simp
@[simp] theorem State.startRead_nv_array (s : State) (r : Region) (offset length : Nat) : (State.startRead s r offset length).nv.array = s.nv.array :=
  (State.startRead_within s r offset length).1
@[simp] theorem State.startRead_nv_regions (s : State) (r : Region) (offset length : Nat) : (State.startRead s r offset length).nv.regions = s.nv.regions :=
  (State.startRead_within s r offset length).2.1
@[simp] theorem State.startRead_nv_setup (s : State) (r : Region) (offset length : Nat) : (State.startRead s r offset length).nv.setup = s.nv.setup :=
  (State.startRead_within s r offset length).2.2.1
@[simp] theorem State.startRead_port_refused (s : State) (r : Region) (offset length : Nat) : (State.startRead s r offset length).port.refused = s.port.refused :=
  (State.startRead_within s r offset length).2.2.2.1
@[simp] theorem State.startRead_port_sdo (s : State) (r : Region) (offset length : Nat) : (State.startRead s r offset length).port.sdo = s.port.sdo :=
  (State.startRead_within s r offset length).2.2.2.2

/-- Parts of its blocks that `startClaim` keeps. -/
theorem State.startClaim_within (s : State) (r : Region) (guardPin : Bool) :
    (State.startClaim s r guardPin).port.refused = s.port.refused ∧ (State.startClaim s r guardPin).port.sdo = s.port.sdo := by
  unfold State.startClaim; (repeat' (first | split | dsimp only)) <;> simp
@[simp] theorem State.startClaim_port_refused (s : State) (r : Region) (guardPin : Bool) : (State.startClaim s r guardPin).port.refused = s.port.refused :=
  (State.startClaim_within s r guardPin).1
@[simp] theorem State.startClaim_port_sdo (s : State) (r : Region) (guardPin : Bool) : (State.startClaim s r guardPin).port.sdo = s.port.sdo :=
  (State.startClaim_within s r guardPin).2

/-- Parts of its blocks that `setYield` keeps. -/
theorem State.setYield_within (s : State) (code : Byte) (r : Region) (yes : Bool) :
    (State.setYield s code r yes).nv.array = s.nv.array ∧ (State.setYield s code r yes).nv.setup = s.nv.setup ∧ (State.setYield s code r yes).nv.intent = s.nv.intent ∧ (State.setYield s code r yes).port.refused = s.port.refused ∧ (State.setYield s code r yes).port.sdo = s.port.sdo ∧ (∀ (q : Nat) (hq : q < 64), (State.setYield s code r yes).table[q].stamp = s.table[q].stamp) := by
  unfold State.setYield; (repeat' (first | split | dsimp only)) <;> simp
@[simp] theorem State.setYield_nv_array (s : State) (code : Byte) (r : Region) (yes : Bool) : (State.setYield s code r yes).nv.array = s.nv.array :=
  (State.setYield_within s code r yes).1
@[simp] theorem State.setYield_nv_setup (s : State) (code : Byte) (r : Region) (yes : Bool) : (State.setYield s code r yes).nv.setup = s.nv.setup :=
  (State.setYield_within s code r yes).2.1
@[simp] theorem State.setYield_nv_intent (s : State) (code : Byte) (r : Region) (yes : Bool) : (State.setYield s code r yes).nv.intent = s.nv.intent :=
  (State.setYield_within s code r yes).2.2.1
@[simp] theorem State.setYield_port_refused (s : State) (code : Byte) (r : Region) (yes : Bool) : (State.setYield s code r yes).port.refused = s.port.refused :=
  (State.setYield_within s code r yes).2.2.2.1
@[simp] theorem State.setYield_port_sdo (s : State) (code : Byte) (r : Region) (yes : Bool) : (State.setYield s code r yes).port.sdo = s.port.sdo :=
  (State.setYield_within s code r yes).2.2.2.2.1
@[simp] theorem State.setYield_stamp (s : State) (code : Byte) (r : Region) (yes : Bool) (q : Nat) (hq : q < 64) : (State.setYield s code r yes).table[q].stamp = s.table[q].stamp :=
  (State.setYield_within s code r yes).2.2.2.2.2 q hq

/-- Parts of its blocks that `formatIntent` keeps. -/
theorem State.formatIntent_within (s : State) :
    (State.formatIntent s).nv.array = s.nv.array ∧ (State.formatIntent s).nv.regions = s.nv.regions ∧ (State.formatIntent s).nv.setup = s.nv.setup := by
  unfold State.formatIntent; (repeat' (first | split | dsimp only)) <;> simp
@[simp] theorem State.formatIntent_nv_array (s : State) : (State.formatIntent s).nv.array = s.nv.array :=
  (State.formatIntent_within s).1
@[simp] theorem State.formatIntent_nv_regions (s : State) : (State.formatIntent s).nv.regions = s.nv.regions :=
  (State.formatIntent_within s).2.1
@[simp] theorem State.formatIntent_nv_setup (s : State) : (State.formatIntent s).nv.setup = s.nv.setup :=
  (State.formatIntent_within s).2.2

/-- Parts of its blocks that `startListening` keeps. -/
theorem State.startListening_within (s : State) :
    (State.startListening s).ctl.number = s.ctl.number ∧ (State.startListening s).ctl.rate = s.ctl.rate ∧ (State.startListening s).ctl.members = s.ctl.members ∧ (State.startListening s).ctl.guardSet = s.ctl.guardSet ∧ (State.startListening s).ctl.beaconDue = s.ctl.beaconDue ∧ (State.startListening s).ctl.beaconTimer = s.ctl.beaconTimer ∧ (State.startListening s).ctl.joining = s.ctl.joining ∧ (State.startListening s).line.rx = s.line.rx ∧ (State.startListening s).line.slot = s.line.slot ∧ (State.startListening s).line.strangers = s.line.strangers := by
  unfold State.startListening; (repeat' (first | split | dsimp only)) <;> simp
@[simp] theorem State.startListening_ctl_number (s : State) : (State.startListening s).ctl.number = s.ctl.number :=
  (State.startListening_within s).1
@[simp] theorem State.startListening_ctl_rate (s : State) : (State.startListening s).ctl.rate = s.ctl.rate :=
  (State.startListening_within s).2.1
@[simp] theorem State.startListening_ctl_members (s : State) : (State.startListening s).ctl.members = s.ctl.members :=
  (State.startListening_within s).2.2.1
@[simp] theorem State.startListening_ctl_guardSet (s : State) : (State.startListening s).ctl.guardSet = s.ctl.guardSet :=
  (State.startListening_within s).2.2.2.1
@[simp] theorem State.startListening_ctl_beaconDue (s : State) : (State.startListening s).ctl.beaconDue = s.ctl.beaconDue :=
  (State.startListening_within s).2.2.2.2.1
@[simp] theorem State.startListening_ctl_beaconTimer (s : State) : (State.startListening s).ctl.beaconTimer = s.ctl.beaconTimer :=
  (State.startListening_within s).2.2.2.2.2.1
@[simp] theorem State.startListening_ctl_joining (s : State) : (State.startListening s).ctl.joining = s.ctl.joining :=
  (State.startListening_within s).2.2.2.2.2.2.1
@[simp] theorem State.startListening_line_rx (s : State) : (State.startListening s).line.rx = s.line.rx :=
  (State.startListening_within s).2.2.2.2.2.2.2.1
@[simp] theorem State.startListening_line_slot (s : State) : (State.startListening s).line.slot = s.line.slot :=
  (State.startListening_within s).2.2.2.2.2.2.2.2.1
@[simp] theorem State.startListening_line_strangers (s : State) : (State.startListening s).line.strangers = s.line.strangers :=
  (State.startListening_within s).2.2.2.2.2.2.2.2.2

/-- Parts of its blocks that `startLeaving` keeps. -/
theorem State.startLeaving_within (s : State) :
    (State.startLeaving s).nv.array = s.nv.array ∧ (State.startLeaving s).nv.setup = s.nv.setup ∧ (State.startLeaving s).nv.intent = s.nv.intent ∧ (State.startLeaving s).ctl.number = s.ctl.number ∧ (State.startLeaving s).ctl.rate = s.ctl.rate ∧ (State.startLeaving s).ctl.members = s.ctl.members ∧ (State.startLeaving s).ctl.guardSet = s.ctl.guardSet ∧ (State.startLeaving s).ctl.joining = s.ctl.joining ∧ (∀ (q : Nat) (hq : q < 64), (State.startLeaving s).table[q].stamp = s.table[q].stamp) := by
  unfold State.startLeaving; (repeat' (first | split | dsimp only)) <;> simp
@[simp] theorem State.startLeaving_nv_array (s : State) : (State.startLeaving s).nv.array = s.nv.array :=
  (State.startLeaving_within s).1
@[simp] theorem State.startLeaving_nv_setup (s : State) : (State.startLeaving s).nv.setup = s.nv.setup :=
  (State.startLeaving_within s).2.1
@[simp] theorem State.startLeaving_nv_intent (s : State) : (State.startLeaving s).nv.intent = s.nv.intent :=
  (State.startLeaving_within s).2.2.1
@[simp] theorem State.startLeaving_ctl_number (s : State) : (State.startLeaving s).ctl.number = s.ctl.number :=
  (State.startLeaving_within s).2.2.2.1
@[simp] theorem State.startLeaving_ctl_rate (s : State) : (State.startLeaving s).ctl.rate = s.ctl.rate :=
  (State.startLeaving_within s).2.2.2.2.1
@[simp] theorem State.startLeaving_ctl_members (s : State) : (State.startLeaving s).ctl.members = s.ctl.members :=
  (State.startLeaving_within s).2.2.2.2.2.1
@[simp] theorem State.startLeaving_ctl_guardSet (s : State) : (State.startLeaving s).ctl.guardSet = s.ctl.guardSet :=
  (State.startLeaving_within s).2.2.2.2.2.2.1
@[simp] theorem State.startLeaving_ctl_joining (s : State) : (State.startLeaving s).ctl.joining = s.ctl.joining :=
  (State.startLeaving_within s).2.2.2.2.2.2.2.1
@[simp] theorem State.startLeaving_stamp (s : State) (q : Nat) (hq : q < 64) : (State.startLeaving s).table[q].stamp = s.table[q].stamp :=
  (State.startLeaving_within s).2.2.2.2.2.2.2.2 q hq

end Sys2Proof.Machine
end

