-- ==== Sys2Proof/Laws/RecoveryWithin.lean ====
section
/-! SUPPORT. What each operation of Machine/Recovery.lean leaves as it is within the blocks it changes. -/

namespace Sys2Proof.Machine

/-- Parts of its blocks that `clearWorking` keeps. -/
theorem State.clearWorking_within (s : State) (p : Power) :
    (State.clearWorking s p).nv.array = s.nv.array ∧ (State.clearWorking s p).nv.regions = s.nv.regions ∧ (State.clearWorking s p).nv.setup = s.nv.setup ∧ (State.clearWorking s p).nv.intent = s.nv.intent ∧ (State.clearWorking s p).ctl.number = s.ctl.number ∧ (State.clearWorking s p).ctl.rate = s.ctl.rate ∧ (State.clearWorking s p).ctl.members = s.ctl.members ∧ (State.clearWorking s p).ctl.guardSet = s.ctl.guardSet := by
  simp [State.clearWorking, State.clearWorking, Retained.recover]
@[simp] theorem State.clearWorking_nv_array (s : State) (p : Power) : (State.clearWorking s p).nv.array = s.nv.array :=
  (State.clearWorking_within s p).1
@[simp] theorem State.clearWorking_nv_regions (s : State) (p : Power) : (State.clearWorking s p).nv.regions = s.nv.regions :=
  (State.clearWorking_within s p).2.1
@[simp] theorem State.clearWorking_nv_setup (s : State) (p : Power) : (State.clearWorking s p).nv.setup = s.nv.setup :=
  (State.clearWorking_within s p).2.2.1
@[simp] theorem State.clearWorking_nv_intent (s : State) (p : Power) : (State.clearWorking s p).nv.intent = s.nv.intent :=
  (State.clearWorking_within s p).2.2.2.1
@[simp] theorem State.clearWorking_ctl_number (s : State) (p : Power) : (State.clearWorking s p).ctl.number = s.ctl.number :=
  (State.clearWorking_within s p).2.2.2.2.1
@[simp] theorem State.clearWorking_ctl_rate (s : State) (p : Power) : (State.clearWorking s p).ctl.rate = s.ctl.rate :=
  (State.clearWorking_within s p).2.2.2.2.2.1
@[simp] theorem State.clearWorking_ctl_members (s : State) (p : Power) : (State.clearWorking s p).ctl.members = s.ctl.members :=
  (State.clearWorking_within s p).2.2.2.2.2.2.1
@[simp] theorem State.clearWorking_ctl_guardSet (s : State) (p : Power) : (State.clearWorking s p).ctl.guardSet = s.ctl.guardSet :=
  (State.clearWorking_within s p).2.2.2.2.2.2.2

/-- Parts of its blocks that `recover` keeps. -/
theorem State.recover_within (s : State) (c : ResetCause) (straps : Straps) :
    (State.recover s c straps).nv.array = s.nv.array ∧ (State.recover s c straps).nv.setup = s.nv.setup := by
  simp [State.recover, State.clearWorking, Retained.recover]
@[simp] theorem State.recover_nv_array (s : State) (c : ResetCause) (straps : Straps) : (State.recover s c straps).nv.array = s.nv.array :=
  (State.recover_within s c straps).1
@[simp] theorem State.recover_nv_setup (s : State) (c : ResetCause) (straps : Straps) : (State.recover s c straps).nv.setup = s.nv.setup :=
  (State.recover_within s c straps).2

/-- Parts of its blocks that `finishOp` keeps. -/
theorem State.finishOp_within (s : State) :
    (State.finishOp s).nv.array = s.nv.array ∧ (State.finishOp s).nv.setup = s.nv.setup := by
  unfold State.finishOp; (repeat' (first | split | dsimp only)) <;> simp
@[simp] theorem State.finishOp_nv_array (s : State) : (State.finishOp s).nv.array = s.nv.array :=
  (State.finishOp_within s).1
@[simp] theorem State.finishOp_nv_setup (s : State) : (State.finishOp s).nv.setup = s.nv.setup :=
  (State.finishOp_within s).2

/-- Parts of its blocks that `writeArray` keeps. -/
theorem State.writeArray_within (s : State) (r : Region) (k : Nat) (data : List Byte) :
    (State.writeArray s r k data).nv.regions = s.nv.regions ∧ (State.writeArray s r k data).nv.setup = s.nv.setup ∧ (State.writeArray s r k data).nv.intent = s.nv.intent := by
  unfold State.writeArray; (repeat' (first | split | dsimp only)) <;> simp
@[simp] theorem State.writeArray_nv_regions (s : State) (r : Region) (k : Nat) (data : List Byte) : (State.writeArray s r k data).nv.regions = s.nv.regions :=
  (State.writeArray_within s r k data).1
@[simp] theorem State.writeArray_nv_setup (s : State) (r : Region) (k : Nat) (data : List Byte) : (State.writeArray s r k data).nv.setup = s.nv.setup :=
  (State.writeArray_within s r k data).2.1
@[simp] theorem State.writeArray_nv_intent (s : State) (r : Region) (k : Nat) (data : List Byte) : (State.writeArray s r k data).nv.intent = s.nv.intent :=
  (State.writeArray_within s r k data).2.2

end Sys2Proof.Machine
end

