-- ==== Sys2Proof/Laws/ArrayEventsWithin.lean ====
section
/-! SUPPORT. What each operation of Machine/ArrayEvents.lean leaves as it is within the blocks it changes. -/

namespace Sys2Proof.Machine

/-- Parts of its blocks that `setupWritten` keeps. -/
theorem State.setupWritten_within (s : State) (members : StationMap) (guardSet : RegionMap) :
    (State.setupWritten s members guardSet).nv.array = s.nv.array ∧ (State.setupWritten s members guardSet).nv.regions = s.nv.regions ∧ (State.setupWritten s members guardSet).nv.intent = s.nv.intent ∧ (State.setupWritten s members guardSet).ctl.number = s.ctl.number ∧ (State.setupWritten s members guardSet).ctl.rate = s.ctl.rate ∧ (State.setupWritten s members guardSet).ctl.state = s.ctl.state ∧ (State.setupWritten s members guardSet).ctl.beaconDue = s.ctl.beaconDue ∧ (State.setupWritten s members guardSet).ctl.beaconTimer = s.ctl.beaconTimer ∧ (State.setupWritten s members guardSet).ctl.joining = s.ctl.joining ∧ (State.setupWritten s members guardSet).port.refused = s.port.refused ∧ (State.setupWritten s members guardSet).port.sdo = s.port.sdo := by
  unfold State.setupWritten; (repeat' (first | split | dsimp only)) <;> simp
@[simp] theorem State.setupWritten_nv_array (s : State) (members : StationMap) (guardSet : RegionMap) : (State.setupWritten s members guardSet).nv.array = s.nv.array :=
  (State.setupWritten_within s members guardSet).1
@[simp] theorem State.setupWritten_nv_regions (s : State) (members : StationMap) (guardSet : RegionMap) : (State.setupWritten s members guardSet).nv.regions = s.nv.regions :=
  (State.setupWritten_within s members guardSet).2.1
@[simp] theorem State.setupWritten_nv_intent (s : State) (members : StationMap) (guardSet : RegionMap) : (State.setupWritten s members guardSet).nv.intent = s.nv.intent :=
  (State.setupWritten_within s members guardSet).2.2.1
@[simp] theorem State.setupWritten_ctl_number (s : State) (members : StationMap) (guardSet : RegionMap) : (State.setupWritten s members guardSet).ctl.number = s.ctl.number :=
  (State.setupWritten_within s members guardSet).2.2.2.1
@[simp] theorem State.setupWritten_ctl_rate (s : State) (members : StationMap) (guardSet : RegionMap) : (State.setupWritten s members guardSet).ctl.rate = s.ctl.rate :=
  (State.setupWritten_within s members guardSet).2.2.2.2.1
@[simp] theorem State.setupWritten_ctl_state (s : State) (members : StationMap) (guardSet : RegionMap) : (State.setupWritten s members guardSet).ctl.state = s.ctl.state :=
  (State.setupWritten_within s members guardSet).2.2.2.2.2.1
@[simp] theorem State.setupWritten_ctl_beaconDue (s : State) (members : StationMap) (guardSet : RegionMap) : (State.setupWritten s members guardSet).ctl.beaconDue = s.ctl.beaconDue :=
  (State.setupWritten_within s members guardSet).2.2.2.2.2.2.1
@[simp] theorem State.setupWritten_ctl_beaconTimer (s : State) (members : StationMap) (guardSet : RegionMap) : (State.setupWritten s members guardSet).ctl.beaconTimer = s.ctl.beaconTimer :=
  (State.setupWritten_within s members guardSet).2.2.2.2.2.2.2.1
@[simp] theorem State.setupWritten_ctl_joining (s : State) (members : StationMap) (guardSet : RegionMap) : (State.setupWritten s members guardSet).ctl.joining = s.ctl.joining :=
  (State.setupWritten_within s members guardSet).2.2.2.2.2.2.2.2.1
@[simp] theorem State.setupWritten_port_refused (s : State) (members : StationMap) (guardSet : RegionMap) : (State.setupWritten s members guardSet).port.refused = s.port.refused :=
  (State.setupWritten_within s members guardSet).2.2.2.2.2.2.2.2.2.1
@[simp] theorem State.setupWritten_port_sdo (s : State) (members : StationMap) (guardSet : RegionMap) : (State.setupWritten s members guardSet).port.sdo = s.port.sdo :=
  (State.setupWritten_within s members guardSet).2.2.2.2.2.2.2.2.2.2

/-- Parts of its blocks that `formatRegionDone` keeps. -/
theorem State.formatRegionDone_within (s : State) (r : Region) :
    (State.formatRegionDone s r).nv.array = s.nv.array ∧ (State.formatRegionDone s r).nv.setup = s.nv.setup := by
  unfold State.formatRegionDone; (repeat' (first | split | dsimp only)) <;> simp
@[simp] theorem State.formatRegionDone_nv_array (s : State) (r : Region) : (State.formatRegionDone s r).nv.array = s.nv.array :=
  (State.formatRegionDone_within s r).1
@[simp] theorem State.formatRegionDone_nv_setup (s : State) (r : Region) : (State.formatRegionDone s r).nv.setup = s.nv.setup :=
  (State.formatRegionDone_within s r).2

/-- Parts of its blocks that `formatNext` keeps. -/
theorem State.formatNext_within (s : State) (r : Region) (k : Chunk) :
    (State.formatNext s r k).nv.array = s.nv.array ∧ (State.formatNext s r k).nv.setup = s.nv.setup ∧ (State.formatNext s r k).port.refused = s.port.refused ∧ (State.formatNext s r k).port.sdo = s.port.sdo := by
  unfold State.formatNext; (repeat' (first | split | dsimp only)) <;> simp
@[simp] theorem State.formatNext_nv_array (s : State) (r : Region) (k : Chunk) : (State.formatNext s r k).nv.array = s.nv.array :=
  (State.formatNext_within s r k).1
@[simp] theorem State.formatNext_nv_setup (s : State) (r : Region) (k : Chunk) : (State.formatNext s r k).nv.setup = s.nv.setup :=
  (State.formatNext_within s r k).2.1
@[simp] theorem State.formatNext_port_refused (s : State) (r : Region) (k : Chunk) : (State.formatNext s r k).port.refused = s.port.refused :=
  (State.formatNext_within s r k).2.2.1
@[simp] theorem State.formatNext_port_sdo (s : State) (r : Region) (k : Chunk) : (State.formatNext s r k).port.sdo = s.port.sdo :=
  (State.formatNext_within s r k).2.2.2

/-- Parts of its blocks that `formatStep` keeps. -/
theorem State.formatStep_within (s : State) (r : Region) (k : Chunk) :
    (State.formatStep s r k).nv.setup = s.nv.setup ∧ (State.formatStep s r k).port.refused = s.port.refused ∧ (State.formatStep s r k).port.sdo = s.port.sdo := by
  unfold State.formatStep; (repeat' (first | split | dsimp only)) <;> simp
@[simp] theorem State.formatStep_nv_setup (s : State) (r : Region) (k : Chunk) : (State.formatStep s r k).nv.setup = s.nv.setup :=
  (State.formatStep_within s r k).1
@[simp] theorem State.formatStep_port_refused (s : State) (r : Region) (k : Chunk) : (State.formatStep s r k).port.refused = s.port.refused :=
  (State.formatStep_within s r k).2.1
@[simp] theorem State.formatStep_port_sdo (s : State) (r : Region) (k : Chunk) : (State.formatStep s r k).port.sdo = s.port.sdo :=
  (State.formatStep_within s r k).2.2

/-- Parts of its blocks that `readPiece` keeps. -/
theorem State.readPiece_within (s : State) (w : ReadWork) :
    (State.readPiece s w).port.refused = s.port.refused ∧ (State.readPiece s w).port.sdo = s.port.sdo := by
  unfold State.readPiece; (repeat' (first | split | dsimp only)) <;> simp
@[simp] theorem State.readPiece_port_refused (s : State) (w : ReadWork) : (State.readPiece s w).port.refused = s.port.refused :=
  (State.readPiece_within s w).1
@[simp] theorem State.readPiece_port_sdo (s : State) (w : ReadWork) : (State.readPiece s w).port.sdo = s.port.sdo :=
  (State.readPiece_within s w).2

/-- Parts of its blocks that `ownerWrote` keeps. -/
theorem State.ownerWrote_within (s : State) (w : WriteWork) :
    (State.ownerWrote s w).nv.array = s.nv.array ∧ (State.ownerWrote s w).nv.setup = s.nv.setup ∧ (State.ownerWrote s w).ctl.number = s.ctl.number ∧ (State.ownerWrote s w).ctl.rate = s.ctl.rate ∧ (State.ownerWrote s w).ctl.members = s.ctl.members ∧ (State.ownerWrote s w).ctl.guardSet = s.ctl.guardSet ∧ (State.ownerWrote s w).ctl.state = s.ctl.state ∧ (State.ownerWrote s w).ctl.beaconDue = s.ctl.beaconDue ∧ (State.ownerWrote s w).ctl.beaconTimer = s.ctl.beaconTimer ∧ (State.ownerWrote s w).ctl.joining = s.ctl.joining ∧ (State.ownerWrote s w).port.refused = s.port.refused ∧ (State.ownerWrote s w).port.sdo = s.port.sdo := by
  unfold State.ownerWrote; (repeat' (first | split | dsimp only)) <;> simp
@[simp] theorem State.ownerWrote_nv_array (s : State) (w : WriteWork) : (State.ownerWrote s w).nv.array = s.nv.array :=
  (State.ownerWrote_within s w).1
@[simp] theorem State.ownerWrote_nv_setup (s : State) (w : WriteWork) : (State.ownerWrote s w).nv.setup = s.nv.setup :=
  (State.ownerWrote_within s w).2.1
@[simp] theorem State.ownerWrote_ctl_number (s : State) (w : WriteWork) : (State.ownerWrote s w).ctl.number = s.ctl.number :=
  (State.ownerWrote_within s w).2.2.1
@[simp] theorem State.ownerWrote_ctl_rate (s : State) (w : WriteWork) : (State.ownerWrote s w).ctl.rate = s.ctl.rate :=
  (State.ownerWrote_within s w).2.2.2.1
@[simp] theorem State.ownerWrote_ctl_members (s : State) (w : WriteWork) : (State.ownerWrote s w).ctl.members = s.ctl.members :=
  (State.ownerWrote_within s w).2.2.2.2.1
@[simp] theorem State.ownerWrote_ctl_guardSet (s : State) (w : WriteWork) : (State.ownerWrote s w).ctl.guardSet = s.ctl.guardSet :=
  (State.ownerWrote_within s w).2.2.2.2.2.1
@[simp] theorem State.ownerWrote_ctl_state (s : State) (w : WriteWork) : (State.ownerWrote s w).ctl.state = s.ctl.state :=
  (State.ownerWrote_within s w).2.2.2.2.2.2.1
@[simp] theorem State.ownerWrote_ctl_beaconDue (s : State) (w : WriteWork) : (State.ownerWrote s w).ctl.beaconDue = s.ctl.beaconDue :=
  (State.ownerWrote_within s w).2.2.2.2.2.2.2.1
@[simp] theorem State.ownerWrote_ctl_beaconTimer (s : State) (w : WriteWork) : (State.ownerWrote s w).ctl.beaconTimer = s.ctl.beaconTimer :=
  (State.ownerWrote_within s w).2.2.2.2.2.2.2.2.1
@[simp] theorem State.ownerWrote_ctl_joining (s : State) (w : WriteWork) : (State.ownerWrote s w).ctl.joining = s.ctl.joining :=
  (State.ownerWrote_within s w).2.2.2.2.2.2.2.2.2.1
@[simp] theorem State.ownerWrote_port_refused (s : State) (w : WriteWork) : (State.ownerWrote s w).port.refused = s.port.refused :=
  (State.ownerWrote_within s w).2.2.2.2.2.2.2.2.2.2.1
@[simp] theorem State.ownerWrote_port_sdo (s : State) (w : WriteWork) : (State.ownerWrote s w).port.sdo = s.port.sdo :=
  (State.ownerWrote_within s w).2.2.2.2.2.2.2.2.2.2.2

/-- Parts of its blocks that `concludeWrite` keeps. -/
theorem State.concludeWrite_within (s : State) (w : WriteWork) :
    (State.concludeWrite s w).nv.array = s.nv.array ∧ (State.concludeWrite s w).nv.setup = s.nv.setup ∧ (State.concludeWrite s w).ctl.number = s.ctl.number ∧ (State.concludeWrite s w).ctl.rate = s.ctl.rate ∧ (State.concludeWrite s w).ctl.members = s.ctl.members ∧ (State.concludeWrite s w).ctl.guardSet = s.ctl.guardSet ∧ (State.concludeWrite s w).ctl.state = s.ctl.state ∧ (State.concludeWrite s w).ctl.beaconDue = s.ctl.beaconDue ∧ (State.concludeWrite s w).ctl.beaconTimer = s.ctl.beaconTimer ∧ (State.concludeWrite s w).ctl.joining = s.ctl.joining ∧ (State.concludeWrite s w).port.refused = s.port.refused ∧ (State.concludeWrite s w).port.sdo = s.port.sdo := by
  unfold State.concludeWrite; (repeat' (first | split | dsimp only)) <;> simp
@[simp] theorem State.concludeWrite_nv_array (s : State) (w : WriteWork) : (State.concludeWrite s w).nv.array = s.nv.array :=
  (State.concludeWrite_within s w).1
@[simp] theorem State.concludeWrite_nv_setup (s : State) (w : WriteWork) : (State.concludeWrite s w).nv.setup = s.nv.setup :=
  (State.concludeWrite_within s w).2.1
@[simp] theorem State.concludeWrite_ctl_number (s : State) (w : WriteWork) : (State.concludeWrite s w).ctl.number = s.ctl.number :=
  (State.concludeWrite_within s w).2.2.1
@[simp] theorem State.concludeWrite_ctl_rate (s : State) (w : WriteWork) : (State.concludeWrite s w).ctl.rate = s.ctl.rate :=
  (State.concludeWrite_within s w).2.2.2.1
@[simp] theorem State.concludeWrite_ctl_members (s : State) (w : WriteWork) : (State.concludeWrite s w).ctl.members = s.ctl.members :=
  (State.concludeWrite_within s w).2.2.2.2.1
@[simp] theorem State.concludeWrite_ctl_guardSet (s : State) (w : WriteWork) : (State.concludeWrite s w).ctl.guardSet = s.ctl.guardSet :=
  (State.concludeWrite_within s w).2.2.2.2.2.1
@[simp] theorem State.concludeWrite_ctl_state (s : State) (w : WriteWork) : (State.concludeWrite s w).ctl.state = s.ctl.state :=
  (State.concludeWrite_within s w).2.2.2.2.2.2.1
@[simp] theorem State.concludeWrite_ctl_beaconDue (s : State) (w : WriteWork) : (State.concludeWrite s w).ctl.beaconDue = s.ctl.beaconDue :=
  (State.concludeWrite_within s w).2.2.2.2.2.2.2.1
@[simp] theorem State.concludeWrite_ctl_beaconTimer (s : State) (w : WriteWork) : (State.concludeWrite s w).ctl.beaconTimer = s.ctl.beaconTimer :=
  (State.concludeWrite_within s w).2.2.2.2.2.2.2.2.1
@[simp] theorem State.concludeWrite_ctl_joining (s : State) (w : WriteWork) : (State.concludeWrite s w).ctl.joining = s.ctl.joining :=
  (State.concludeWrite_within s w).2.2.2.2.2.2.2.2.2.1
@[simp] theorem State.concludeWrite_port_refused (s : State) (w : WriteWork) : (State.concludeWrite s w).port.refused = s.port.refused :=
  (State.concludeWrite_within s w).2.2.2.2.2.2.2.2.2.2.1
@[simp] theorem State.concludeWrite_port_sdo (s : State) (w : WriteWork) : (State.concludeWrite s w).port.sdo = s.port.sdo :=
  (State.concludeWrite_within s w).2.2.2.2.2.2.2.2.2.2.2

/-- Parts of its blocks that `writeDone` keeps. -/
theorem State.writeDone_within (s : State) (w : WriteWork) :
    (State.writeDone s w).nv.setup = s.nv.setup ∧ (State.writeDone s w).ctl.number = s.ctl.number ∧ (State.writeDone s w).ctl.rate = s.ctl.rate ∧ (State.writeDone s w).ctl.members = s.ctl.members ∧ (State.writeDone s w).ctl.guardSet = s.ctl.guardSet ∧ (State.writeDone s w).ctl.state = s.ctl.state ∧ (State.writeDone s w).ctl.beaconDue = s.ctl.beaconDue ∧ (State.writeDone s w).ctl.beaconTimer = s.ctl.beaconTimer ∧ (State.writeDone s w).ctl.joining = s.ctl.joining ∧ (State.writeDone s w).port.refused = s.port.refused ∧ (State.writeDone s w).port.sdo = s.port.sdo := by
  unfold State.writeDone; (repeat' (first | split | dsimp only)) <;> simp
@[simp] theorem State.writeDone_nv_setup (s : State) (w : WriteWork) : (State.writeDone s w).nv.setup = s.nv.setup :=
  (State.writeDone_within s w).1
@[simp] theorem State.writeDone_ctl_number (s : State) (w : WriteWork) : (State.writeDone s w).ctl.number = s.ctl.number :=
  (State.writeDone_within s w).2.1
@[simp] theorem State.writeDone_ctl_rate (s : State) (w : WriteWork) : (State.writeDone s w).ctl.rate = s.ctl.rate :=
  (State.writeDone_within s w).2.2.1
@[simp] theorem State.writeDone_ctl_members (s : State) (w : WriteWork) : (State.writeDone s w).ctl.members = s.ctl.members :=
  (State.writeDone_within s w).2.2.2.1
@[simp] theorem State.writeDone_ctl_guardSet (s : State) (w : WriteWork) : (State.writeDone s w).ctl.guardSet = s.ctl.guardSet :=
  (State.writeDone_within s w).2.2.2.2.1
@[simp] theorem State.writeDone_ctl_state (s : State) (w : WriteWork) : (State.writeDone s w).ctl.state = s.ctl.state :=
  (State.writeDone_within s w).2.2.2.2.2.1
@[simp] theorem State.writeDone_ctl_beaconDue (s : State) (w : WriteWork) : (State.writeDone s w).ctl.beaconDue = s.ctl.beaconDue :=
  (State.writeDone_within s w).2.2.2.2.2.2.1
@[simp] theorem State.writeDone_ctl_beaconTimer (s : State) (w : WriteWork) : (State.writeDone s w).ctl.beaconTimer = s.ctl.beaconTimer :=
  (State.writeDone_within s w).2.2.2.2.2.2.2.1
@[simp] theorem State.writeDone_ctl_joining (s : State) (w : WriteWork) : (State.writeDone s w).ctl.joining = s.ctl.joining :=
  (State.writeDone_within s w).2.2.2.2.2.2.2.2.1
@[simp] theorem State.writeDone_port_refused (s : State) (w : WriteWork) : (State.writeDone s w).port.refused = s.port.refused :=
  (State.writeDone_within s w).2.2.2.2.2.2.2.2.2.1
@[simp] theorem State.writeDone_port_sdo (s : State) (w : WriteWork) : (State.writeDone s w).port.sdo = s.port.sdo :=
  (State.writeDone_within s w).2.2.2.2.2.2.2.2.2.2

/-- Parts of its blocks that `completePull` keeps. -/
theorem State.completePull_within (s : State) (p : PullRecord) (collecting : Stamp) :
    (State.completePull s p collecting).nv.array = s.nv.array ∧ (State.completePull s p collecting).nv.setup = s.nv.setup ∧ (State.completePull s p collecting).nv.intent = s.nv.intent ∧ (State.completePull s p collecting).ctl.number = s.ctl.number ∧ (State.completePull s p collecting).ctl.rate = s.ctl.rate ∧ (State.completePull s p collecting).ctl.members = s.ctl.members ∧ (State.completePull s p collecting).ctl.guardSet = s.ctl.guardSet ∧ (State.completePull s p collecting).ctl.state = s.ctl.state ∧ (State.completePull s p collecting).ctl.beaconDue = s.ctl.beaconDue ∧ (State.completePull s p collecting).ctl.beaconTimer = s.ctl.beaconTimer ∧ (State.completePull s p collecting).ctl.joining = s.ctl.joining := by
  unfold State.completePull; (repeat' (first | split | dsimp only)) <;> simp
@[simp] theorem State.completePull_nv_array (s : State) (p : PullRecord) (collecting : Stamp) : (State.completePull s p collecting).nv.array = s.nv.array :=
  (State.completePull_within s p collecting).1
@[simp] theorem State.completePull_nv_setup (s : State) (p : PullRecord) (collecting : Stamp) : (State.completePull s p collecting).nv.setup = s.nv.setup :=
  (State.completePull_within s p collecting).2.1
@[simp] theorem State.completePull_nv_intent (s : State) (p : PullRecord) (collecting : Stamp) : (State.completePull s p collecting).nv.intent = s.nv.intent :=
  (State.completePull_within s p collecting).2.2.1
@[simp] theorem State.completePull_ctl_number (s : State) (p : PullRecord) (collecting : Stamp) : (State.completePull s p collecting).ctl.number = s.ctl.number :=
  (State.completePull_within s p collecting).2.2.2.1
@[simp] theorem State.completePull_ctl_rate (s : State) (p : PullRecord) (collecting : Stamp) : (State.completePull s p collecting).ctl.rate = s.ctl.rate :=
  (State.completePull_within s p collecting).2.2.2.2.1
@[simp] theorem State.completePull_ctl_members (s : State) (p : PullRecord) (collecting : Stamp) : (State.completePull s p collecting).ctl.members = s.ctl.members :=
  (State.completePull_within s p collecting).2.2.2.2.2.1
@[simp] theorem State.completePull_ctl_guardSet (s : State) (p : PullRecord) (collecting : Stamp) : (State.completePull s p collecting).ctl.guardSet = s.ctl.guardSet :=
  (State.completePull_within s p collecting).2.2.2.2.2.2.1
@[simp] theorem State.completePull_ctl_state (s : State) (p : PullRecord) (collecting : Stamp) : (State.completePull s p collecting).ctl.state = s.ctl.state :=
  (State.completePull_within s p collecting).2.2.2.2.2.2.2.1
@[simp] theorem State.completePull_ctl_beaconDue (s : State) (p : PullRecord) (collecting : Stamp) : (State.completePull s p collecting).ctl.beaconDue = s.ctl.beaconDue :=
  (State.completePull_within s p collecting).2.2.2.2.2.2.2.2.1
@[simp] theorem State.completePull_ctl_beaconTimer (s : State) (p : PullRecord) (collecting : Stamp) : (State.completePull s p collecting).ctl.beaconTimer = s.ctl.beaconTimer :=
  (State.completePull_within s p collecting).2.2.2.2.2.2.2.2.2.1
@[simp] theorem State.completePull_ctl_joining (s : State) (p : PullRecord) (collecting : Stamp) : (State.completePull s p collecting).ctl.joining = s.ctl.joining :=
  (State.completePull_within s p collecting).2.2.2.2.2.2.2.2.2.2

/-- Parts of its blocks that `chunkWritten` keeps. -/
theorem State.chunkWritten_within (s : State) (k : Chunk) (stamp : Stamp) (pull : Nat) :
    (State.chunkWritten s k stamp pull).nv.array = s.nv.array ∧ (State.chunkWritten s k stamp pull).nv.setup = s.nv.setup ∧ (State.chunkWritten s k stamp pull).nv.intent = s.nv.intent ∧ (State.chunkWritten s k stamp pull).ctl.number = s.ctl.number ∧ (State.chunkWritten s k stamp pull).ctl.rate = s.ctl.rate ∧ (State.chunkWritten s k stamp pull).ctl.members = s.ctl.members ∧ (State.chunkWritten s k stamp pull).ctl.guardSet = s.ctl.guardSet ∧ (State.chunkWritten s k stamp pull).ctl.state = s.ctl.state ∧ (State.chunkWritten s k stamp pull).ctl.beaconDue = s.ctl.beaconDue ∧ (State.chunkWritten s k stamp pull).ctl.beaconTimer = s.ctl.beaconTimer ∧ (State.chunkWritten s k stamp pull).ctl.joining = s.ctl.joining := by
  unfold State.chunkWritten; (repeat' (first | split | dsimp only)) <;> simp
@[simp] theorem State.chunkWritten_nv_array (s : State) (k : Chunk) (stamp : Stamp) (pull : Nat) : (State.chunkWritten s k stamp pull).nv.array = s.nv.array :=
  (State.chunkWritten_within s k stamp pull).1
@[simp] theorem State.chunkWritten_nv_setup (s : State) (k : Chunk) (stamp : Stamp) (pull : Nat) : (State.chunkWritten s k stamp pull).nv.setup = s.nv.setup :=
  (State.chunkWritten_within s k stamp pull).2.1
@[simp] theorem State.chunkWritten_nv_intent (s : State) (k : Chunk) (stamp : Stamp) (pull : Nat) : (State.chunkWritten s k stamp pull).nv.intent = s.nv.intent :=
  (State.chunkWritten_within s k stamp pull).2.2.1
@[simp] theorem State.chunkWritten_ctl_number (s : State) (k : Chunk) (stamp : Stamp) (pull : Nat) : (State.chunkWritten s k stamp pull).ctl.number = s.ctl.number :=
  (State.chunkWritten_within s k stamp pull).2.2.2.1
@[simp] theorem State.chunkWritten_ctl_rate (s : State) (k : Chunk) (stamp : Stamp) (pull : Nat) : (State.chunkWritten s k stamp pull).ctl.rate = s.ctl.rate :=
  (State.chunkWritten_within s k stamp pull).2.2.2.2.1
@[simp] theorem State.chunkWritten_ctl_members (s : State) (k : Chunk) (stamp : Stamp) (pull : Nat) : (State.chunkWritten s k stamp pull).ctl.members = s.ctl.members :=
  (State.chunkWritten_within s k stamp pull).2.2.2.2.2.1
@[simp] theorem State.chunkWritten_ctl_guardSet (s : State) (k : Chunk) (stamp : Stamp) (pull : Nat) : (State.chunkWritten s k stamp pull).ctl.guardSet = s.ctl.guardSet :=
  (State.chunkWritten_within s k stamp pull).2.2.2.2.2.2.1
@[simp] theorem State.chunkWritten_ctl_state (s : State) (k : Chunk) (stamp : Stamp) (pull : Nat) : (State.chunkWritten s k stamp pull).ctl.state = s.ctl.state :=
  (State.chunkWritten_within s k stamp pull).2.2.2.2.2.2.2.1
@[simp] theorem State.chunkWritten_ctl_beaconDue (s : State) (k : Chunk) (stamp : Stamp) (pull : Nat) : (State.chunkWritten s k stamp pull).ctl.beaconDue = s.ctl.beaconDue :=
  (State.chunkWritten_within s k stamp pull).2.2.2.2.2.2.2.2.1
@[simp] theorem State.chunkWritten_ctl_beaconTimer (s : State) (k : Chunk) (stamp : Stamp) (pull : Nat) : (State.chunkWritten s k stamp pull).ctl.beaconTimer = s.ctl.beaconTimer :=
  (State.chunkWritten_within s k stamp pull).2.2.2.2.2.2.2.2.2.1
@[simp] theorem State.chunkWritten_ctl_joining (s : State) (k : Chunk) (stamp : Stamp) (pull : Nat) : (State.chunkWritten s k stamp pull).ctl.joining = s.ctl.joining :=
  (State.chunkWritten_within s k stamp pull).2.2.2.2.2.2.2.2.2.2

/-- Parts of its blocks that `chunkWrittenInReset` keeps. -/
theorem State.chunkWrittenInReset_within (s : State) (k : Chunk) (stamp : Stamp) (pull : Nat) :
    (State.chunkWrittenInReset s k stamp pull).nv.array = s.nv.array ∧ (State.chunkWrittenInReset s k stamp pull).nv.setup = s.nv.setup ∧ (State.chunkWrittenInReset s k stamp pull).nv.intent = s.nv.intent ∧ (State.chunkWrittenInReset s k stamp pull).ctl.number = s.ctl.number ∧ (State.chunkWrittenInReset s k stamp pull).ctl.rate = s.ctl.rate ∧ (State.chunkWrittenInReset s k stamp pull).ctl.members = s.ctl.members ∧ (State.chunkWrittenInReset s k stamp pull).ctl.guardSet = s.ctl.guardSet ∧ (State.chunkWrittenInReset s k stamp pull).ctl.state = s.ctl.state ∧ (State.chunkWrittenInReset s k stamp pull).ctl.beaconDue = s.ctl.beaconDue ∧ (State.chunkWrittenInReset s k stamp pull).ctl.beaconTimer = s.ctl.beaconTimer ∧ (State.chunkWrittenInReset s k stamp pull).ctl.joining = s.ctl.joining := by
  unfold State.chunkWrittenInReset; (repeat' (first | split | dsimp only)) <;> simp
@[simp] theorem State.chunkWrittenInReset_nv_array (s : State) (k : Chunk) (stamp : Stamp) (pull : Nat) : (State.chunkWrittenInReset s k stamp pull).nv.array = s.nv.array :=
  (State.chunkWrittenInReset_within s k stamp pull).1
@[simp] theorem State.chunkWrittenInReset_nv_setup (s : State) (k : Chunk) (stamp : Stamp) (pull : Nat) : (State.chunkWrittenInReset s k stamp pull).nv.setup = s.nv.setup :=
  (State.chunkWrittenInReset_within s k stamp pull).2.1
@[simp] theorem State.chunkWrittenInReset_nv_intent (s : State) (k : Chunk) (stamp : Stamp) (pull : Nat) : (State.chunkWrittenInReset s k stamp pull).nv.intent = s.nv.intent :=
  (State.chunkWrittenInReset_within s k stamp pull).2.2.1
@[simp] theorem State.chunkWrittenInReset_ctl_number (s : State) (k : Chunk) (stamp : Stamp) (pull : Nat) : (State.chunkWrittenInReset s k stamp pull).ctl.number = s.ctl.number :=
  (State.chunkWrittenInReset_within s k stamp pull).2.2.2.1
@[simp] theorem State.chunkWrittenInReset_ctl_rate (s : State) (k : Chunk) (stamp : Stamp) (pull : Nat) : (State.chunkWrittenInReset s k stamp pull).ctl.rate = s.ctl.rate :=
  (State.chunkWrittenInReset_within s k stamp pull).2.2.2.2.1
@[simp] theorem State.chunkWrittenInReset_ctl_members (s : State) (k : Chunk) (stamp : Stamp) (pull : Nat) : (State.chunkWrittenInReset s k stamp pull).ctl.members = s.ctl.members :=
  (State.chunkWrittenInReset_within s k stamp pull).2.2.2.2.2.1
@[simp] theorem State.chunkWrittenInReset_ctl_guardSet (s : State) (k : Chunk) (stamp : Stamp) (pull : Nat) : (State.chunkWrittenInReset s k stamp pull).ctl.guardSet = s.ctl.guardSet :=
  (State.chunkWrittenInReset_within s k stamp pull).2.2.2.2.2.2.1
@[simp] theorem State.chunkWrittenInReset_ctl_state (s : State) (k : Chunk) (stamp : Stamp) (pull : Nat) : (State.chunkWrittenInReset s k stamp pull).ctl.state = s.ctl.state :=
  (State.chunkWrittenInReset_within s k stamp pull).2.2.2.2.2.2.2.1
@[simp] theorem State.chunkWrittenInReset_ctl_beaconDue (s : State) (k : Chunk) (stamp : Stamp) (pull : Nat) : (State.chunkWrittenInReset s k stamp pull).ctl.beaconDue = s.ctl.beaconDue :=
  (State.chunkWrittenInReset_within s k stamp pull).2.2.2.2.2.2.2.2.1
@[simp] theorem State.chunkWrittenInReset_ctl_beaconTimer (s : State) (k : Chunk) (stamp : Stamp) (pull : Nat) : (State.chunkWrittenInReset s k stamp pull).ctl.beaconTimer = s.ctl.beaconTimer :=
  (State.chunkWrittenInReset_within s k stamp pull).2.2.2.2.2.2.2.2.2.1
@[simp] theorem State.chunkWrittenInReset_ctl_joining (s : State) (k : Chunk) (stamp : Stamp) (pull : Nat) : (State.chunkWrittenInReset s k stamp pull).ctl.joining = s.ctl.joining :=
  (State.chunkWrittenInReset_within s k stamp pull).2.2.2.2.2.2.2.2.2.2

/-- Parts of its blocks that `applied` keeps. -/
theorem State.applied_within (s : State) (b : ApplyBody) :
    (State.applied s b).nv.array = s.nv.array ∧ (State.applied s b).nv.setup = s.nv.setup ∧ (State.applied s b).nv.intent = s.nv.intent ∧ (State.applied s b).ctl.number = s.ctl.number ∧ (State.applied s b).ctl.rate = s.ctl.rate ∧ (State.applied s b).ctl.members = s.ctl.members ∧ (State.applied s b).ctl.guardSet = s.ctl.guardSet ∧ (State.applied s b).ctl.state = s.ctl.state ∧ (State.applied s b).ctl.beaconDue = s.ctl.beaconDue ∧ (State.applied s b).ctl.beaconTimer = s.ctl.beaconTimer ∧ (State.applied s b).ctl.joining = s.ctl.joining := by
  unfold State.applied; (repeat' (first | split | dsimp only)) <;> simp
@[simp] theorem State.applied_nv_array (s : State) (b : ApplyBody) : (State.applied s b).nv.array = s.nv.array :=
  (State.applied_within s b).1
@[simp] theorem State.applied_nv_setup (s : State) (b : ApplyBody) : (State.applied s b).nv.setup = s.nv.setup :=
  (State.applied_within s b).2.1
@[simp] theorem State.applied_nv_intent (s : State) (b : ApplyBody) : (State.applied s b).nv.intent = s.nv.intent :=
  (State.applied_within s b).2.2.1
@[simp] theorem State.applied_ctl_number (s : State) (b : ApplyBody) : (State.applied s b).ctl.number = s.ctl.number :=
  (State.applied_within s b).2.2.2.1
@[simp] theorem State.applied_ctl_rate (s : State) (b : ApplyBody) : (State.applied s b).ctl.rate = s.ctl.rate :=
  (State.applied_within s b).2.2.2.2.1
@[simp] theorem State.applied_ctl_members (s : State) (b : ApplyBody) : (State.applied s b).ctl.members = s.ctl.members :=
  (State.applied_within s b).2.2.2.2.2.1
@[simp] theorem State.applied_ctl_guardSet (s : State) (b : ApplyBody) : (State.applied s b).ctl.guardSet = s.ctl.guardSet :=
  (State.applied_within s b).2.2.2.2.2.2.1
@[simp] theorem State.applied_ctl_state (s : State) (b : ApplyBody) : (State.applied s b).ctl.state = s.ctl.state :=
  (State.applied_within s b).2.2.2.2.2.2.2.1
@[simp] theorem State.applied_ctl_beaconDue (s : State) (b : ApplyBody) : (State.applied s b).ctl.beaconDue = s.ctl.beaconDue :=
  (State.applied_within s b).2.2.2.2.2.2.2.2.1
@[simp] theorem State.applied_ctl_beaconTimer (s : State) (b : ApplyBody) : (State.applied s b).ctl.beaconTimer = s.ctl.beaconTimer :=
  (State.applied_within s b).2.2.2.2.2.2.2.2.2.1
@[simp] theorem State.applied_ctl_joining (s : State) (b : ApplyBody) : (State.applied s b).ctl.joining = s.ctl.joining :=
  (State.applied_within s b).2.2.2.2.2.2.2.2.2.2

/-- Parts of its blocks that `applyDone` keeps. -/
theorem State.applyDone_within (s : State) (e : ApplyEntry) (rest : List ApplyEntry) :
    (State.applyDone s e rest).nv.setup = s.nv.setup ∧ (State.applyDone s e rest).ctl.number = s.ctl.number ∧ (State.applyDone s e rest).ctl.rate = s.ctl.rate ∧ (State.applyDone s e rest).ctl.members = s.ctl.members ∧ (State.applyDone s e rest).ctl.guardSet = s.ctl.guardSet ∧ (State.applyDone s e rest).ctl.state = s.ctl.state ∧ (State.applyDone s e rest).ctl.beaconDue = s.ctl.beaconDue ∧ (State.applyDone s e rest).ctl.beaconTimer = s.ctl.beaconTimer ∧ (State.applyDone s e rest).ctl.joining = s.ctl.joining := by
  unfold State.applyDone; (repeat' (first | split | dsimp only)) <;> simp
@[simp] theorem State.applyDone_nv_setup (s : State) (e : ApplyEntry) (rest : List ApplyEntry) : (State.applyDone s e rest).nv.setup = s.nv.setup :=
  (State.applyDone_within s e rest).1
@[simp] theorem State.applyDone_ctl_number (s : State) (e : ApplyEntry) (rest : List ApplyEntry) : (State.applyDone s e rest).ctl.number = s.ctl.number :=
  (State.applyDone_within s e rest).2.1
@[simp] theorem State.applyDone_ctl_rate (s : State) (e : ApplyEntry) (rest : List ApplyEntry) : (State.applyDone s e rest).ctl.rate = s.ctl.rate :=
  (State.applyDone_within s e rest).2.2.1
@[simp] theorem State.applyDone_ctl_members (s : State) (e : ApplyEntry) (rest : List ApplyEntry) : (State.applyDone s e rest).ctl.members = s.ctl.members :=
  (State.applyDone_within s e rest).2.2.2.1
@[simp] theorem State.applyDone_ctl_guardSet (s : State) (e : ApplyEntry) (rest : List ApplyEntry) : (State.applyDone s e rest).ctl.guardSet = s.ctl.guardSet :=
  (State.applyDone_within s e rest).2.2.2.2.1
@[simp] theorem State.applyDone_ctl_state (s : State) (e : ApplyEntry) (rest : List ApplyEntry) : (State.applyDone s e rest).ctl.state = s.ctl.state :=
  (State.applyDone_within s e rest).2.2.2.2.2.1
@[simp] theorem State.applyDone_ctl_beaconDue (s : State) (e : ApplyEntry) (rest : List ApplyEntry) : (State.applyDone s e rest).ctl.beaconDue = s.ctl.beaconDue :=
  (State.applyDone_within s e rest).2.2.2.2.2.2.1
@[simp] theorem State.applyDone_ctl_beaconTimer (s : State) (e : ApplyEntry) (rest : List ApplyEntry) : (State.applyDone s e rest).ctl.beaconTimer = s.ctl.beaconTimer :=
  (State.applyDone_within s e rest).2.2.2.2.2.2.2.1
@[simp] theorem State.applyDone_ctl_joining (s : State) (e : ApplyEntry) (rest : List ApplyEntry) : (State.applyDone s e rest).ctl.joining = s.ctl.joining :=
  (State.applyDone_within s e rest).2.2.2.2.2.2.2.2

end Sys2Proof.Machine
end

