-- ==== Sys2Proof/Laws/LineEventsWithin.lean ====
section
/-! SUPPORT. What each operation of Machine/LineEvents.lean leaves as it is within the blocks it changes. -/

namespace Sys2Proof.Machine

/-- Parts of its blocks that `sendBeacon` keeps. -/
theorem State.sendBeacon_within (s : State) :
    (State.sendBeacon s).ctl.number = s.ctl.number ∧ (State.sendBeacon s).ctl.rate = s.ctl.rate ∧ (State.sendBeacon s).ctl.members = s.ctl.members ∧ (State.sendBeacon s).ctl.guardSet = s.ctl.guardSet ∧ (State.sendBeacon s).ctl.state = s.ctl.state ∧ (State.sendBeacon s).ctl.beaconTimer = s.ctl.beaconTimer ∧ (State.sendBeacon s).ctl.joining = s.ctl.joining ∧ (State.sendBeacon s).line.rx = s.line.rx ∧ (State.sendBeacon s).line.faults = s.line.faults ∧ (State.sendBeacon s).line.strangers = s.line.strangers := by
  unfold State.sendBeacon; (repeat' (first | split | dsimp only)) <;> simp
@[simp] theorem State.sendBeacon_ctl_number (s : State) : (State.sendBeacon s).ctl.number = s.ctl.number :=
  (State.sendBeacon_within s).1
@[simp] theorem State.sendBeacon_ctl_rate (s : State) : (State.sendBeacon s).ctl.rate = s.ctl.rate :=
  (State.sendBeacon_within s).2.1
@[simp] theorem State.sendBeacon_ctl_members (s : State) : (State.sendBeacon s).ctl.members = s.ctl.members :=
  (State.sendBeacon_within s).2.2.1
@[simp] theorem State.sendBeacon_ctl_guardSet (s : State) : (State.sendBeacon s).ctl.guardSet = s.ctl.guardSet :=
  (State.sendBeacon_within s).2.2.2.1
@[simp] theorem State.sendBeacon_ctl_state (s : State) : (State.sendBeacon s).ctl.state = s.ctl.state :=
  (State.sendBeacon_within s).2.2.2.2.1
@[simp] theorem State.sendBeacon_ctl_beaconTimer (s : State) : (State.sendBeacon s).ctl.beaconTimer = s.ctl.beaconTimer :=
  (State.sendBeacon_within s).2.2.2.2.2.1
@[simp] theorem State.sendBeacon_ctl_joining (s : State) : (State.sendBeacon s).ctl.joining = s.ctl.joining :=
  (State.sendBeacon_within s).2.2.2.2.2.2.1
@[simp] theorem State.sendBeacon_line_rx (s : State) : (State.sendBeacon s).line.rx = s.line.rx :=
  (State.sendBeacon_within s).2.2.2.2.2.2.2.1
@[simp] theorem State.sendBeacon_line_faults (s : State) : (State.sendBeacon s).line.faults = s.line.faults :=
  (State.sendBeacon_within s).2.2.2.2.2.2.2.2.1
@[simp] theorem State.sendBeacon_line_strangers (s : State) : (State.sendBeacon s).line.strangers = s.line.strangers :=
  (State.sendBeacon_within s).2.2.2.2.2.2.2.2.2

/-- Parts of its blocks that `unheldUnless` keeps. -/
theorem State.unheldUnless_within (s : State) (won : Bool) (r : Region) :
    (State.unheldUnless s won r).nv.array = s.nv.array ∧ (State.unheldUnless s won r).nv.setup = s.nv.setup ∧ (State.unheldUnless s won r).nv.intent = s.nv.intent ∧ (∀ (q : Nat) (hq : q < 64), (State.unheldUnless s won r).table[q].stamp = s.table[q].stamp) := by
  unfold State.unheldUnless; (repeat' (first | split | dsimp only)) <;> simp
@[simp] theorem State.unheldUnless_nv_array (s : State) (won : Bool) (r : Region) : (State.unheldUnless s won r).nv.array = s.nv.array :=
  (State.unheldUnless_within s won r).1
@[simp] theorem State.unheldUnless_nv_setup (s : State) (won : Bool) (r : Region) : (State.unheldUnless s won r).nv.setup = s.nv.setup :=
  (State.unheldUnless_within s won r).2.1
@[simp] theorem State.unheldUnless_nv_intent (s : State) (won : Bool) (r : Region) : (State.unheldUnless s won r).nv.intent = s.nv.intent :=
  (State.unheldUnless_within s won r).2.2.1
@[simp] theorem State.unheldUnless_stamp (s : State) (won : Bool) (r : Region) (q : Nat) (hq : q < 64) : (State.unheldUnless s won r).table[q].stamp = s.table[q].stamp :=
  (State.unheldUnless_within s won r).2.2.2 q hq

/-- Parts of its blocks that `claimOver` keeps. -/
theorem State.claimOver_within (s : State) (r : Region) (source : ClaimSource) (won : Bool) :
    (State.claimOver s r source won).nv.array = s.nv.array ∧ (State.claimOver s r source won).nv.setup = s.nv.setup ∧ (State.claimOver s r source won).nv.intent = s.nv.intent ∧ (∀ (q : Nat) (hq : q < 64), (State.claimOver s r source won).table[q].stamp = s.table[q].stamp) := by
  unfold State.claimOver; (repeat' (first | split | dsimp only)) <;> simp
@[simp] theorem State.claimOver_nv_array (s : State) (r : Region) (source : ClaimSource) (won : Bool) : (State.claimOver s r source won).nv.array = s.nv.array :=
  (State.claimOver_within s r source won).1
@[simp] theorem State.claimOver_nv_setup (s : State) (r : Region) (source : ClaimSource) (won : Bool) : (State.claimOver s r source won).nv.setup = s.nv.setup :=
  (State.claimOver_within s r source won).2.1
@[simp] theorem State.claimOver_nv_intent (s : State) (r : Region) (source : ClaimSource) (won : Bool) : (State.claimOver s r source won).nv.intent = s.nv.intent :=
  (State.claimOver_within s r source won).2.2.1
@[simp] theorem State.claimOver_stamp (s : State) (r : Region) (source : ClaimSource) (won : Bool) (q : Nat) (hq : q < 64) : (State.claimOver s r source won).table[q].stamp = s.table[q].stamp :=
  (State.claimOver_within s r source won).2.2.2 q hq

/-- Parts of its blocks that `withdraw` keeps. -/
theorem State.withdraw_within (s : State) (e : OutEntry) (source : ClaimSource) (why : LostReason) :
    (State.withdraw s e source why).nv.array = s.nv.array ∧ (State.withdraw s e source why).nv.setup = s.nv.setup ∧ (State.withdraw s e source why).nv.intent = s.nv.intent ∧ (∀ (q : Nat) (hq : q < 64), (State.withdraw s e source why).table[q].stamp = s.table[q].stamp) := by
  unfold State.withdraw; (repeat' (first | split | dsimp only)) <;> simp
@[simp] theorem State.withdraw_nv_array (s : State) (e : OutEntry) (source : ClaimSource) (why : LostReason) : (State.withdraw s e source why).nv.array = s.nv.array :=
  (State.withdraw_within s e source why).1
@[simp] theorem State.withdraw_nv_setup (s : State) (e : OutEntry) (source : ClaimSource) (why : LostReason) : (State.withdraw s e source why).nv.setup = s.nv.setup :=
  (State.withdraw_within s e source why).2.1
@[simp] theorem State.withdraw_nv_intent (s : State) (e : OutEntry) (source : ClaimSource) (why : LostReason) : (State.withdraw s e source why).nv.intent = s.nv.intent :=
  (State.withdraw_within s e source why).2.2.1
@[simp] theorem State.withdraw_stamp (s : State) (e : OutEntry) (source : ClaimSource) (why : LostReason) (q : Nat) (hq : q < 64) : (State.withdraw s e source why).table[q].stamp = s.table[q].stamp :=
  (State.withdraw_within s e source why).2.2.2 q hq

/-- Parts of its blocks that `sendEntry` keeps. -/
theorem State.sendEntry_within (s : State) (e : OutEntry) :
    (State.sendEntry s e).line.rx = s.line.rx ∧ (State.sendEntry s e).line.faults = s.line.faults ∧ (State.sendEntry s e).line.strangers = s.line.strangers := by
  unfold State.sendEntry; (repeat' (first | split | dsimp only)) <;> simp
@[simp] theorem State.sendEntry_line_rx (s : State) (e : OutEntry) : (State.sendEntry s e).line.rx = s.line.rx :=
  (State.sendEntry_within s e).1
@[simp] theorem State.sendEntry_line_faults (s : State) (e : OutEntry) : (State.sendEntry s e).line.faults = s.line.faults :=
  (State.sendEntry_within s e).2.1
@[simp] theorem State.sendEntry_line_strangers (s : State) (e : OutEntry) : (State.sendEntry s e).line.strangers = s.line.strangers :=
  (State.sendEntry_within s e).2.2

/-- Parts of its blocks that `offerFrom` keeps. -/
theorem State.offerFrom_within (n : Nat) (s : State) :
    (State.offerFrom n s).nv.array = s.nv.array ∧ (State.offerFrom n s).nv.setup = s.nv.setup ∧ (State.offerFrom n s).nv.intent = s.nv.intent ∧ (State.offerFrom n s).ctl.number = s.ctl.number ∧ (State.offerFrom n s).ctl.rate = s.ctl.rate ∧ (State.offerFrom n s).ctl.members = s.ctl.members ∧ (State.offerFrom n s).ctl.guardSet = s.ctl.guardSet ∧ (State.offerFrom n s).ctl.state = s.ctl.state ∧ (State.offerFrom n s).ctl.beaconTimer = s.ctl.beaconTimer ∧ (State.offerFrom n s).ctl.joining = s.ctl.joining ∧ (State.offerFrom n s).line.rx = s.line.rx ∧ (State.offerFrom n s).line.faults = s.line.faults ∧ (State.offerFrom n s).line.strangers = s.line.strangers ∧ (∀ (q : Nat) (hq : q < 64), (State.offerFrom n s).table[q].stamp = s.table[q].stamp) := by
  induction n generalizing s with
  | zero => simp [State.offerFrom]
  | succ n ih => rcases h : s.nextOffer <;> simp [State.offerFrom, h, ih]
@[simp] theorem State.offerFrom_nv_array (n : Nat) (s : State) : (State.offerFrom n s).nv.array = s.nv.array :=
  (State.offerFrom_within n s).1
@[simp] theorem State.offerFrom_nv_setup (n : Nat) (s : State) : (State.offerFrom n s).nv.setup = s.nv.setup :=
  (State.offerFrom_within n s).2.1
@[simp] theorem State.offerFrom_nv_intent (n : Nat) (s : State) : (State.offerFrom n s).nv.intent = s.nv.intent :=
  (State.offerFrom_within n s).2.2.1
@[simp] theorem State.offerFrom_ctl_number (n : Nat) (s : State) : (State.offerFrom n s).ctl.number = s.ctl.number :=
  (State.offerFrom_within n s).2.2.2.1
@[simp] theorem State.offerFrom_ctl_rate (n : Nat) (s : State) : (State.offerFrom n s).ctl.rate = s.ctl.rate :=
  (State.offerFrom_within n s).2.2.2.2.1
@[simp] theorem State.offerFrom_ctl_members (n : Nat) (s : State) : (State.offerFrom n s).ctl.members = s.ctl.members :=
  (State.offerFrom_within n s).2.2.2.2.2.1
@[simp] theorem State.offerFrom_ctl_guardSet (n : Nat) (s : State) : (State.offerFrom n s).ctl.guardSet = s.ctl.guardSet :=
  (State.offerFrom_within n s).2.2.2.2.2.2.1
@[simp] theorem State.offerFrom_ctl_state (n : Nat) (s : State) : (State.offerFrom n s).ctl.state = s.ctl.state :=
  (State.offerFrom_within n s).2.2.2.2.2.2.2.1
@[simp] theorem State.offerFrom_ctl_beaconTimer (n : Nat) (s : State) : (State.offerFrom n s).ctl.beaconTimer = s.ctl.beaconTimer :=
  (State.offerFrom_within n s).2.2.2.2.2.2.2.2.1
@[simp] theorem State.offerFrom_ctl_joining (n : Nat) (s : State) : (State.offerFrom n s).ctl.joining = s.ctl.joining :=
  (State.offerFrom_within n s).2.2.2.2.2.2.2.2.2.1
@[simp] theorem State.offerFrom_line_rx (n : Nat) (s : State) : (State.offerFrom n s).line.rx = s.line.rx :=
  (State.offerFrom_within n s).2.2.2.2.2.2.2.2.2.2.1
@[simp] theorem State.offerFrom_line_faults (n : Nat) (s : State) : (State.offerFrom n s).line.faults = s.line.faults :=
  (State.offerFrom_within n s).2.2.2.2.2.2.2.2.2.2.2.1
@[simp] theorem State.offerFrom_line_strangers (n : Nat) (s : State) : (State.offerFrom n s).line.strangers = s.line.strangers :=
  (State.offerFrom_within n s).2.2.2.2.2.2.2.2.2.2.2.2.1
@[simp] theorem State.offerFrom_stamp (n : Nat) (s : State) (q : Nat) (hq : q < 64) : (State.offerFrom n s).table[q].stamp = s.table[q].stamp :=
  (State.offerFrom_within n s).2.2.2.2.2.2.2.2.2.2.2.2.2 q hq

/-- Parts of its blocks that `offer` keeps. -/
theorem State.offer_within (s : State) :
    (State.offer s).nv.array = s.nv.array ∧ (State.offer s).nv.setup = s.nv.setup ∧ (State.offer s).nv.intent = s.nv.intent ∧ (State.offer s).ctl.number = s.ctl.number ∧ (State.offer s).ctl.rate = s.ctl.rate ∧ (State.offer s).ctl.members = s.ctl.members ∧ (State.offer s).ctl.guardSet = s.ctl.guardSet ∧ (State.offer s).ctl.state = s.ctl.state ∧ (State.offer s).ctl.beaconTimer = s.ctl.beaconTimer ∧ (State.offer s).ctl.joining = s.ctl.joining ∧ (State.offer s).line.rx = s.line.rx ∧ (State.offer s).line.faults = s.line.faults ∧ (State.offer s).line.strangers = s.line.strangers ∧ (∀ (q : Nat) (hq : q < 64), (State.offer s).table[q].stamp = s.table[q].stamp) := by
  unfold State.offer; (repeat' (first | split | dsimp only)) <;> simp
@[simp] theorem State.offer_nv_array (s : State) : (State.offer s).nv.array = s.nv.array :=
  (State.offer_within s).1
@[simp] theorem State.offer_nv_setup (s : State) : (State.offer s).nv.setup = s.nv.setup :=
  (State.offer_within s).2.1
@[simp] theorem State.offer_nv_intent (s : State) : (State.offer s).nv.intent = s.nv.intent :=
  (State.offer_within s).2.2.1
@[simp] theorem State.offer_ctl_number (s : State) : (State.offer s).ctl.number = s.ctl.number :=
  (State.offer_within s).2.2.2.1
@[simp] theorem State.offer_ctl_rate (s : State) : (State.offer s).ctl.rate = s.ctl.rate :=
  (State.offer_within s).2.2.2.2.1
@[simp] theorem State.offer_ctl_members (s : State) : (State.offer s).ctl.members = s.ctl.members :=
  (State.offer_within s).2.2.2.2.2.1
@[simp] theorem State.offer_ctl_guardSet (s : State) : (State.offer s).ctl.guardSet = s.ctl.guardSet :=
  (State.offer_within s).2.2.2.2.2.2.1
@[simp] theorem State.offer_ctl_state (s : State) : (State.offer s).ctl.state = s.ctl.state :=
  (State.offer_within s).2.2.2.2.2.2.2.1
@[simp] theorem State.offer_ctl_beaconTimer (s : State) : (State.offer s).ctl.beaconTimer = s.ctl.beaconTimer :=
  (State.offer_within s).2.2.2.2.2.2.2.2.1
@[simp] theorem State.offer_ctl_joining (s : State) : (State.offer s).ctl.joining = s.ctl.joining :=
  (State.offer_within s).2.2.2.2.2.2.2.2.2.1
@[simp] theorem State.offer_line_rx (s : State) : (State.offer s).line.rx = s.line.rx :=
  (State.offer_within s).2.2.2.2.2.2.2.2.2.2.1
@[simp] theorem State.offer_line_faults (s : State) : (State.offer s).line.faults = s.line.faults :=
  (State.offer_within s).2.2.2.2.2.2.2.2.2.2.2.1
@[simp] theorem State.offer_line_strangers (s : State) : (State.offer s).line.strangers = s.line.strangers :=
  (State.offer_within s).2.2.2.2.2.2.2.2.2.2.2.2.1
@[simp] theorem State.offer_stamp (s : State) (q : Nat) (hq : q < 64) : (State.offer s).table[q].stamp = s.table[q].stamp :=
  (State.offer_within s).2.2.2.2.2.2.2.2.2.2.2.2.2 q hq

/-- Parts of its blocks that `returnBeacon` keeps. -/
theorem State.returnBeacon_within (s : State) (b : BeaconFrame) :
    (State.returnBeacon s b).ctl.number = s.ctl.number ∧ (State.returnBeacon s b).ctl.rate = s.ctl.rate ∧ (State.returnBeacon s b).ctl.members = s.ctl.members ∧ (State.returnBeacon s b).ctl.guardSet = s.ctl.guardSet ∧ (State.returnBeacon s b).ctl.state = s.ctl.state ∧ (State.returnBeacon s b).ctl.beaconTimer = s.ctl.beaconTimer ∧ (State.returnBeacon s b).ctl.joining = s.ctl.joining := by
  unfold State.returnBeacon; (repeat' (first | split | dsimp only)) <;> simp
@[simp] theorem State.returnBeacon_ctl_number (s : State) (b : BeaconFrame) : (State.returnBeacon s b).ctl.number = s.ctl.number :=
  (State.returnBeacon_within s b).1
@[simp] theorem State.returnBeacon_ctl_rate (s : State) (b : BeaconFrame) : (State.returnBeacon s b).ctl.rate = s.ctl.rate :=
  (State.returnBeacon_within s b).2.1
@[simp] theorem State.returnBeacon_ctl_members (s : State) (b : BeaconFrame) : (State.returnBeacon s b).ctl.members = s.ctl.members :=
  (State.returnBeacon_within s b).2.2.1
@[simp] theorem State.returnBeacon_ctl_guardSet (s : State) (b : BeaconFrame) : (State.returnBeacon s b).ctl.guardSet = s.ctl.guardSet :=
  (State.returnBeacon_within s b).2.2.2.1
@[simp] theorem State.returnBeacon_ctl_state (s : State) (b : BeaconFrame) : (State.returnBeacon s b).ctl.state = s.ctl.state :=
  (State.returnBeacon_within s b).2.2.2.2.1
@[simp] theorem State.returnBeacon_ctl_beaconTimer (s : State) (b : BeaconFrame) : (State.returnBeacon s b).ctl.beaconTimer = s.ctl.beaconTimer :=
  (State.returnBeacon_within s b).2.2.2.2.2.1
@[simp] theorem State.returnBeacon_ctl_joining (s : State) (b : BeaconFrame) : (State.returnBeacon s b).ctl.joining = s.ctl.joining :=
  (State.returnBeacon_within s b).2.2.2.2.2.2

/-- Parts of its blocks that `attemptLost` keeps. -/
theorem State.attemptLost_within (s : State) (t : TxSlot) :
    (State.attemptLost s t).ctl.number = s.ctl.number ∧ (State.attemptLost s t).ctl.rate = s.ctl.rate ∧ (State.attemptLost s t).ctl.members = s.ctl.members ∧ (State.attemptLost s t).ctl.guardSet = s.ctl.guardSet ∧ (State.attemptLost s t).ctl.state = s.ctl.state ∧ (State.attemptLost s t).ctl.beaconTimer = s.ctl.beaconTimer ∧ (State.attemptLost s t).ctl.joining = s.ctl.joining ∧ (State.attemptLost s t).line.rx = s.line.rx ∧ (State.attemptLost s t).line.faults = s.line.faults ∧ (State.attemptLost s t).line.strangers = s.line.strangers := by
  unfold State.attemptLost; (repeat' (first | split | dsimp only)) <;> simp
@[simp] theorem State.attemptLost_ctl_number (s : State) (t : TxSlot) : (State.attemptLost s t).ctl.number = s.ctl.number :=
  (State.attemptLost_within s t).1
@[simp] theorem State.attemptLost_ctl_rate (s : State) (t : TxSlot) : (State.attemptLost s t).ctl.rate = s.ctl.rate :=
  (State.attemptLost_within s t).2.1
@[simp] theorem State.attemptLost_ctl_members (s : State) (t : TxSlot) : (State.attemptLost s t).ctl.members = s.ctl.members :=
  (State.attemptLost_within s t).2.2.1
@[simp] theorem State.attemptLost_ctl_guardSet (s : State) (t : TxSlot) : (State.attemptLost s t).ctl.guardSet = s.ctl.guardSet :=
  (State.attemptLost_within s t).2.2.2.1
@[simp] theorem State.attemptLost_ctl_state (s : State) (t : TxSlot) : (State.attemptLost s t).ctl.state = s.ctl.state :=
  (State.attemptLost_within s t).2.2.2.2.1
@[simp] theorem State.attemptLost_ctl_beaconTimer (s : State) (t : TxSlot) : (State.attemptLost s t).ctl.beaconTimer = s.ctl.beaconTimer :=
  (State.attemptLost_within s t).2.2.2.2.2.1
@[simp] theorem State.attemptLost_ctl_joining (s : State) (t : TxSlot) : (State.attemptLost s t).ctl.joining = s.ctl.joining :=
  (State.attemptLost_within s t).2.2.2.2.2.2.1
@[simp] theorem State.attemptLost_line_rx (s : State) (t : TxSlot) : (State.attemptLost s t).line.rx = s.line.rx :=
  (State.attemptLost_within s t).2.2.2.2.2.2.2.1
@[simp] theorem State.attemptLost_line_faults (s : State) (t : TxSlot) : (State.attemptLost s t).line.faults = s.line.faults :=
  (State.attemptLost_within s t).2.2.2.2.2.2.2.2.1
@[simp] theorem State.attemptLost_line_strangers (s : State) (t : TxSlot) : (State.attemptLost s t).line.strangers = s.line.strangers :=
  (State.attemptLost_within s t).2.2.2.2.2.2.2.2.2

/-- Parts of its blocks that `countFault` keeps. -/
theorem State.countFault_within (s : State) :
    (State.countFault s).nv.array = s.nv.array ∧ (State.countFault s).nv.setup = s.nv.setup ∧ (State.countFault s).nv.intent = s.nv.intent ∧ (State.countFault s).ctl.number = s.ctl.number ∧ (State.countFault s).ctl.rate = s.ctl.rate ∧ (State.countFault s).ctl.members = s.ctl.members ∧ (State.countFault s).ctl.guardSet = s.ctl.guardSet ∧ (State.countFault s).ctl.joining = s.ctl.joining ∧ (State.countFault s).roster.lastAck = s.roster.lastAck ∧ (State.countFault s).roster.cursor = s.roster.cursor ∧ (State.countFault s).port.refused = s.port.refused ∧ (State.countFault s).port.sdo = s.port.sdo ∧ (∀ (q : Nat) (hq : q < 64), (State.countFault s).table[q].stamp = s.table[q].stamp) := by
  unfold State.countFault; (repeat' (first | split | dsimp only)) <;> simp
@[simp] theorem State.countFault_nv_array (s : State) : (State.countFault s).nv.array = s.nv.array :=
  (State.countFault_within s).1
@[simp] theorem State.countFault_nv_setup (s : State) : (State.countFault s).nv.setup = s.nv.setup :=
  (State.countFault_within s).2.1
@[simp] theorem State.countFault_nv_intent (s : State) : (State.countFault s).nv.intent = s.nv.intent :=
  (State.countFault_within s).2.2.1
@[simp] theorem State.countFault_ctl_number (s : State) : (State.countFault s).ctl.number = s.ctl.number :=
  (State.countFault_within s).2.2.2.1
@[simp] theorem State.countFault_ctl_rate (s : State) : (State.countFault s).ctl.rate = s.ctl.rate :=
  (State.countFault_within s).2.2.2.2.1
@[simp] theorem State.countFault_ctl_members (s : State) : (State.countFault s).ctl.members = s.ctl.members :=
  (State.countFault_within s).2.2.2.2.2.1
@[simp] theorem State.countFault_ctl_guardSet (s : State) : (State.countFault s).ctl.guardSet = s.ctl.guardSet :=
  (State.countFault_within s).2.2.2.2.2.2.1
@[simp] theorem State.countFault_ctl_joining (s : State) : (State.countFault s).ctl.joining = s.ctl.joining :=
  (State.countFault_within s).2.2.2.2.2.2.2.1
@[simp] theorem State.countFault_roster_lastAck (s : State) : (State.countFault s).roster.lastAck = s.roster.lastAck :=
  (State.countFault_within s).2.2.2.2.2.2.2.2.1
@[simp] theorem State.countFault_roster_cursor (s : State) : (State.countFault s).roster.cursor = s.roster.cursor :=
  (State.countFault_within s).2.2.2.2.2.2.2.2.2.1
@[simp] theorem State.countFault_port_refused (s : State) : (State.countFault s).port.refused = s.port.refused :=
  (State.countFault_within s).2.2.2.2.2.2.2.2.2.2.1
@[simp] theorem State.countFault_port_sdo (s : State) : (State.countFault s).port.sdo = s.port.sdo :=
  (State.countFault_within s).2.2.2.2.2.2.2.2.2.2.2.1
@[simp] theorem State.countFault_stamp (s : State) (q : Nat) (hq : q < 64) : (State.countFault s).table[q].stamp = s.table[q].stamp :=
  (State.countFault_within s).2.2.2.2.2.2.2.2.2.2.2.2 q hq

/-- Parts of its blocks that `strangerHeard` keeps. -/
theorem State.strangerHeard_within (s : State) (n : Station) :
    (State.strangerHeard s n).line.rx = s.line.rx ∧ (State.strangerHeard s n).line.slot = s.line.slot ∧ (State.strangerHeard s n).line.faults = s.line.faults := by
  unfold State.strangerHeard; (repeat' (first | split | dsimp only)) <;> simp
@[simp] theorem State.strangerHeard_line_rx (s : State) (n : Station) : (State.strangerHeard s n).line.rx = s.line.rx :=
  (State.strangerHeard_within s n).1
@[simp] theorem State.strangerHeard_line_slot (s : State) (n : Station) : (State.strangerHeard s n).line.slot = s.line.slot :=
  (State.strangerHeard_within s n).2.1
@[simp] theorem State.strangerHeard_line_faults (s : State) (n : Station) : (State.strangerHeard s n).line.faults = s.line.faults :=
  (State.strangerHeard_within s n).2.2

end Sys2Proof.Machine
end

