-- ==== Sys2Proof/Laws/ReceptionWithin.lean ====
section
/-! SUPPORT. What each operation of Machine/Reception.lean leaves as it is within the blocks it changes. -/

namespace Sys2Proof.Machine

/-- Parts of its blocks that `compareStamp` keeps. -/
theorem State.compareStamp_within (s : State) (o : Station) (e : CensusEntry) :
    (State.compareStamp s o e).nv.array = s.nv.array ∧ (State.compareStamp s o e).nv.setup = s.nv.setup ∧ (State.compareStamp s o e).nv.intent = s.nv.intent ∧ (∀ (q : Nat) (hq : q < 64), (State.compareStamp s o e).table[q].stamp = s.table[q].stamp) := by
  unfold State.compareStamp; (repeat' (first | split | dsimp only)) <;> simp
@[simp] theorem State.compareStamp_nv_array (s : State) (o : Station) (e : CensusEntry) : (State.compareStamp s o e).nv.array = s.nv.array :=
  (State.compareStamp_within s o e).1
@[simp] theorem State.compareStamp_nv_setup (s : State) (o : Station) (e : CensusEntry) : (State.compareStamp s o e).nv.setup = s.nv.setup :=
  (State.compareStamp_within s o e).2.1
@[simp] theorem State.compareStamp_nv_intent (s : State) (o : Station) (e : CensusEntry) : (State.compareStamp s o e).nv.intent = s.nv.intent :=
  (State.compareStamp_within s o e).2.2.1
@[simp] theorem State.compareStamp_stamp (s : State) (o : Station) (e : CensusEntry) (q : Nat) (hq : q < 64) : (State.compareStamp s o e).table[q].stamp = s.table[q].stamp :=
  (State.compareStamp_within s o e).2.2.2 q hq

/-- Parts of its blocks that `compareIfOwner` keeps. -/
theorem State.compareIfOwner_within (s : State) (o : Station) (e : CensusEntry) :
    (State.compareIfOwner s o e).nv.array = s.nv.array ∧ (State.compareIfOwner s o e).nv.setup = s.nv.setup ∧ (State.compareIfOwner s o e).nv.intent = s.nv.intent ∧ (∀ (q : Nat) (hq : q < 64), (State.compareIfOwner s o e).table[q].stamp = s.table[q].stamp) := by
  unfold State.compareIfOwner; (repeat' (first | split | dsimp only)) <;> simp
@[simp] theorem State.compareIfOwner_nv_array (s : State) (o : Station) (e : CensusEntry) : (State.compareIfOwner s o e).nv.array = s.nv.array :=
  (State.compareIfOwner_within s o e).1
@[simp] theorem State.compareIfOwner_nv_setup (s : State) (o : Station) (e : CensusEntry) : (State.compareIfOwner s o e).nv.setup = s.nv.setup :=
  (State.compareIfOwner_within s o e).2.1
@[simp] theorem State.compareIfOwner_nv_intent (s : State) (o : Station) (e : CensusEntry) : (State.compareIfOwner s o e).nv.intent = s.nv.intent :=
  (State.compareIfOwner_within s o e).2.2.1
@[simp] theorem State.compareIfOwner_stamp (s : State) (o : Station) (e : CensusEntry) (q : Nat) (hq : q < 64) : (State.compareIfOwner s o e).table[q].stamp = s.table[q].stamp :=
  (State.compareIfOwner_within s o e).2.2.2 q hq

/-- Parts of its blocks that `censusCase` keeps. -/
theorem State.censusCase_within (s : State) (o : Station) (e : CensusEntry) :
    (State.censusCase s o e).nv.array = s.nv.array ∧ (State.censusCase s o e).nv.setup = s.nv.setup ∧ (State.censusCase s o e).nv.intent = s.nv.intent ∧ (State.censusCase s o e).ctl.number = s.ctl.number ∧ (State.censusCase s o e).ctl.rate = s.ctl.rate ∧ (State.censusCase s o e).ctl.members = s.ctl.members ∧ (State.censusCase s o e).ctl.guardSet = s.ctl.guardSet ∧ (State.censusCase s o e).ctl.state = s.ctl.state ∧ (State.censusCase s o e).ctl.beaconDue = s.ctl.beaconDue ∧ (State.censusCase s o e).ctl.beaconTimer = s.ctl.beaconTimer ∧ (State.censusCase s o e).ctl.joining = s.ctl.joining ∧ (State.censusCase s o e).roster.entries = s.roster.entries ∧ (State.censusCase s o e).roster.lastAck = s.roster.lastAck ∧ (State.censusCase s o e).roster.cursor = s.roster.cursor ∧ (State.censusCase s o e).port.refused = s.port.refused ∧ (State.censusCase s o e).port.sdo = s.port.sdo ∧ (∀ (q : Nat) (hq : q < 64), (State.censusCase s o e).table[q].stamp = s.table[q].stamp) := by
  unfold State.censusCase; (repeat' (first | split | dsimp only)) <;> simp
@[simp] theorem State.censusCase_nv_array (s : State) (o : Station) (e : CensusEntry) : (State.censusCase s o e).nv.array = s.nv.array :=
  (State.censusCase_within s o e).1
@[simp] theorem State.censusCase_nv_setup (s : State) (o : Station) (e : CensusEntry) : (State.censusCase s o e).nv.setup = s.nv.setup :=
  (State.censusCase_within s o e).2.1
@[simp] theorem State.censusCase_nv_intent (s : State) (o : Station) (e : CensusEntry) : (State.censusCase s o e).nv.intent = s.nv.intent :=
  (State.censusCase_within s o e).2.2.1
@[simp] theorem State.censusCase_ctl_number (s : State) (o : Station) (e : CensusEntry) : (State.censusCase s o e).ctl.number = s.ctl.number :=
  (State.censusCase_within s o e).2.2.2.1
@[simp] theorem State.censusCase_ctl_rate (s : State) (o : Station) (e : CensusEntry) : (State.censusCase s o e).ctl.rate = s.ctl.rate :=
  (State.censusCase_within s o e).2.2.2.2.1
@[simp] theorem State.censusCase_ctl_members (s : State) (o : Station) (e : CensusEntry) : (State.censusCase s o e).ctl.members = s.ctl.members :=
  (State.censusCase_within s o e).2.2.2.2.2.1
@[simp] theorem State.censusCase_ctl_guardSet (s : State) (o : Station) (e : CensusEntry) : (State.censusCase s o e).ctl.guardSet = s.ctl.guardSet :=
  (State.censusCase_within s o e).2.2.2.2.2.2.1
@[simp] theorem State.censusCase_ctl_state (s : State) (o : Station) (e : CensusEntry) : (State.censusCase s o e).ctl.state = s.ctl.state :=
  (State.censusCase_within s o e).2.2.2.2.2.2.2.1
@[simp] theorem State.censusCase_ctl_beaconDue (s : State) (o : Station) (e : CensusEntry) : (State.censusCase s o e).ctl.beaconDue = s.ctl.beaconDue :=
  (State.censusCase_within s o e).2.2.2.2.2.2.2.2.1
@[simp] theorem State.censusCase_ctl_beaconTimer (s : State) (o : Station) (e : CensusEntry) : (State.censusCase s o e).ctl.beaconTimer = s.ctl.beaconTimer :=
  (State.censusCase_within s o e).2.2.2.2.2.2.2.2.2.1
@[simp] theorem State.censusCase_ctl_joining (s : State) (o : Station) (e : CensusEntry) : (State.censusCase s o e).ctl.joining = s.ctl.joining :=
  (State.censusCase_within s o e).2.2.2.2.2.2.2.2.2.2.1
@[simp] theorem State.censusCase_roster_entries (s : State) (o : Station) (e : CensusEntry) : (State.censusCase s o e).roster.entries = s.roster.entries :=
  (State.censusCase_within s o e).2.2.2.2.2.2.2.2.2.2.2.1
@[simp] theorem State.censusCase_roster_lastAck (s : State) (o : Station) (e : CensusEntry) : (State.censusCase s o e).roster.lastAck = s.roster.lastAck :=
  (State.censusCase_within s o e).2.2.2.2.2.2.2.2.2.2.2.2.1
@[simp] theorem State.censusCase_roster_cursor (s : State) (o : Station) (e : CensusEntry) : (State.censusCase s o e).roster.cursor = s.roster.cursor :=
  (State.censusCase_within s o e).2.2.2.2.2.2.2.2.2.2.2.2.2.1
@[simp] theorem State.censusCase_port_refused (s : State) (o : Station) (e : CensusEntry) : (State.censusCase s o e).port.refused = s.port.refused :=
  (State.censusCase_within s o e).2.2.2.2.2.2.2.2.2.2.2.2.2.2.1
@[simp] theorem State.censusCase_port_sdo (s : State) (o : Station) (e : CensusEntry) : (State.censusCase s o e).port.sdo = s.port.sdo :=
  (State.censusCase_within s o e).2.2.2.2.2.2.2.2.2.2.2.2.2.2.2.1
@[simp] theorem State.censusCase_stamp (s : State) (o : Station) (e : CensusEntry) (q : Nat) (hq : q < 64) : (State.censusCase s o e).table[q].stamp = s.table[q].stamp :=
  (State.censusCase_within s o e).2.2.2.2.2.2.2.2.2.2.2.2.2.2.2.2 q hq

/-- Parts of its blocks that `censusEntry` keeps. -/
theorem State.censusEntry_within (o : Station) (s : State) (e : CensusEntry) :
    (State.censusEntry o s e).nv.array = s.nv.array ∧ (State.censusEntry o s e).nv.setup = s.nv.setup ∧ (State.censusEntry o s e).nv.intent = s.nv.intent ∧ (State.censusEntry o s e).ctl.number = s.ctl.number ∧ (State.censusEntry o s e).ctl.rate = s.ctl.rate ∧ (State.censusEntry o s e).ctl.members = s.ctl.members ∧ (State.censusEntry o s e).ctl.guardSet = s.ctl.guardSet ∧ (State.censusEntry o s e).ctl.state = s.ctl.state ∧ (State.censusEntry o s e).ctl.beaconDue = s.ctl.beaconDue ∧ (State.censusEntry o s e).ctl.beaconTimer = s.ctl.beaconTimer ∧ (State.censusEntry o s e).ctl.joining = s.ctl.joining ∧ (State.censusEntry o s e).roster.entries = s.roster.entries ∧ (State.censusEntry o s e).roster.lastAck = s.roster.lastAck ∧ (State.censusEntry o s e).roster.cursor = s.roster.cursor ∧ (State.censusEntry o s e).port.refused = s.port.refused ∧ (State.censusEntry o s e).port.sdo = s.port.sdo ∧ (∀ (q : Nat) (hq : q < 64), (State.censusEntry o s e).table[q].stamp = s.table[q].stamp) := by
  unfold State.censusEntry; (repeat' (first | split | dsimp only)) <;> simp
@[simp] theorem State.censusEntry_nv_array (o : Station) (s : State) (e : CensusEntry) : (State.censusEntry o s e).nv.array = s.nv.array :=
  (State.censusEntry_within o s e).1
@[simp] theorem State.censusEntry_nv_setup (o : Station) (s : State) (e : CensusEntry) : (State.censusEntry o s e).nv.setup = s.nv.setup :=
  (State.censusEntry_within o s e).2.1
@[simp] theorem State.censusEntry_nv_intent (o : Station) (s : State) (e : CensusEntry) : (State.censusEntry o s e).nv.intent = s.nv.intent :=
  (State.censusEntry_within o s e).2.2.1
@[simp] theorem State.censusEntry_ctl_number (o : Station) (s : State) (e : CensusEntry) : (State.censusEntry o s e).ctl.number = s.ctl.number :=
  (State.censusEntry_within o s e).2.2.2.1
@[simp] theorem State.censusEntry_ctl_rate (o : Station) (s : State) (e : CensusEntry) : (State.censusEntry o s e).ctl.rate = s.ctl.rate :=
  (State.censusEntry_within o s e).2.2.2.2.1
@[simp] theorem State.censusEntry_ctl_members (o : Station) (s : State) (e : CensusEntry) : (State.censusEntry o s e).ctl.members = s.ctl.members :=
  (State.censusEntry_within o s e).2.2.2.2.2.1
@[simp] theorem State.censusEntry_ctl_guardSet (o : Station) (s : State) (e : CensusEntry) : (State.censusEntry o s e).ctl.guardSet = s.ctl.guardSet :=
  (State.censusEntry_within o s e).2.2.2.2.2.2.1
@[simp] theorem State.censusEntry_ctl_state (o : Station) (s : State) (e : CensusEntry) : (State.censusEntry o s e).ctl.state = s.ctl.state :=
  (State.censusEntry_within o s e).2.2.2.2.2.2.2.1
@[simp] theorem State.censusEntry_ctl_beaconDue (o : Station) (s : State) (e : CensusEntry) : (State.censusEntry o s e).ctl.beaconDue = s.ctl.beaconDue :=
  (State.censusEntry_within o s e).2.2.2.2.2.2.2.2.1
@[simp] theorem State.censusEntry_ctl_beaconTimer (o : Station) (s : State) (e : CensusEntry) : (State.censusEntry o s e).ctl.beaconTimer = s.ctl.beaconTimer :=
  (State.censusEntry_within o s e).2.2.2.2.2.2.2.2.2.1
@[simp] theorem State.censusEntry_ctl_joining (o : Station) (s : State) (e : CensusEntry) : (State.censusEntry o s e).ctl.joining = s.ctl.joining :=
  (State.censusEntry_within o s e).2.2.2.2.2.2.2.2.2.2.1
@[simp] theorem State.censusEntry_roster_entries (o : Station) (s : State) (e : CensusEntry) : (State.censusEntry o s e).roster.entries = s.roster.entries :=
  (State.censusEntry_within o s e).2.2.2.2.2.2.2.2.2.2.2.1
@[simp] theorem State.censusEntry_roster_lastAck (o : Station) (s : State) (e : CensusEntry) : (State.censusEntry o s e).roster.lastAck = s.roster.lastAck :=
  (State.censusEntry_within o s e).2.2.2.2.2.2.2.2.2.2.2.2.1
@[simp] theorem State.censusEntry_roster_cursor (o : Station) (s : State) (e : CensusEntry) : (State.censusEntry o s e).roster.cursor = s.roster.cursor :=
  (State.censusEntry_within o s e).2.2.2.2.2.2.2.2.2.2.2.2.2.1
@[simp] theorem State.censusEntry_port_refused (o : Station) (s : State) (e : CensusEntry) : (State.censusEntry o s e).port.refused = s.port.refused :=
  (State.censusEntry_within o s e).2.2.2.2.2.2.2.2.2.2.2.2.2.2.1
@[simp] theorem State.censusEntry_port_sdo (o : Station) (s : State) (e : CensusEntry) : (State.censusEntry o s e).port.sdo = s.port.sdo :=
  (State.censusEntry_within o s e).2.2.2.2.2.2.2.2.2.2.2.2.2.2.2.1
@[simp] theorem State.censusEntry_stamp (o : Station) (s : State) (e : CensusEntry) (q : Nat) (hq : q < 64) : (State.censusEntry o s e).table[q].stamp = s.table[q].stamp :=
  (State.censusEntry_within o s e).2.2.2.2.2.2.2.2.2.2.2.2.2.2.2.2 q hq

/-- Parts of its blocks that `censusList` keeps. -/
theorem State.censusList_within (s : State) (o : Station) (es : List CensusEntry) :
    (State.censusList s o es).nv.array = s.nv.array ∧ (State.censusList s o es).nv.setup = s.nv.setup ∧ (State.censusList s o es).nv.intent = s.nv.intent ∧ (State.censusList s o es).ctl.number = s.ctl.number ∧ (State.censusList s o es).ctl.rate = s.ctl.rate ∧ (State.censusList s o es).ctl.members = s.ctl.members ∧ (State.censusList s o es).ctl.guardSet = s.ctl.guardSet ∧ (State.censusList s o es).ctl.state = s.ctl.state ∧ (State.censusList s o es).ctl.beaconDue = s.ctl.beaconDue ∧ (State.censusList s o es).ctl.beaconTimer = s.ctl.beaconTimer ∧ (State.censusList s o es).ctl.joining = s.ctl.joining ∧ (State.censusList s o es).roster.entries = s.roster.entries ∧ (State.censusList s o es).roster.lastAck = s.roster.lastAck ∧ (State.censusList s o es).roster.cursor = s.roster.cursor ∧ (State.censusList s o es).port.refused = s.port.refused ∧ (State.censusList s o es).port.sdo = s.port.sdo ∧ (∀ (q : Nat) (hq : q < 64), (State.censusList s o es).table[q].stamp = s.table[q].stamp) := by
  unfold State.censusList
  refine ⟨?_, ?_, ?_, ?_, ?_, ?_, ?_, ?_, ?_, ?_, ?_, ?_, ?_, ?_, ?_, ?_, ?_⟩
  · exact (foldl_keeps (fun t : State => t.nv.array) _ (fun t x => by simp) _ _).trans (by simp)
  · exact (foldl_keeps (fun t : State => t.nv.setup) _ (fun t x => by simp) _ _).trans (by simp)
  · exact (foldl_keeps (fun t : State => t.nv.intent) _ (fun t x => by simp) _ _).trans (by simp)
  · exact (foldl_keeps (fun t : State => t.ctl.number) _ (fun t x => by simp) _ _).trans (by simp)
  · exact (foldl_keeps (fun t : State => t.ctl.rate) _ (fun t x => by simp) _ _).trans (by simp)
  · exact (foldl_keeps (fun t : State => t.ctl.members) _ (fun t x => by simp) _ _).trans (by simp)
  · exact (foldl_keeps (fun t : State => t.ctl.guardSet) _ (fun t x => by simp) _ _).trans (by simp)
  · exact (foldl_keeps (fun t : State => t.ctl.state) _ (fun t x => by simp) _ _).trans (by simp)
  · exact (foldl_keeps (fun t : State => t.ctl.beaconDue) _ (fun t x => by simp) _ _).trans (by simp)
  · exact (foldl_keeps (fun t : State => t.ctl.beaconTimer) _ (fun t x => by simp) _ _).trans (by simp)
  · exact (foldl_keeps (fun t : State => t.ctl.joining) _ (fun t x => by simp) _ _).trans (by simp)
  · exact (foldl_keeps (fun t : State => t.roster.entries) _ (fun t x => by simp) _ _).trans (by simp)
  · exact (foldl_keeps (fun t : State => t.roster.lastAck) _ (fun t x => by simp) _ _).trans (by simp)
  · exact (foldl_keeps (fun t : State => t.roster.cursor) _ (fun t x => by simp) _ _).trans (by simp)
  · exact (foldl_keeps (fun t : State => t.port.refused) _ (fun t x => by simp) _ _).trans (by simp)
  · exact (foldl_keeps (fun t : State => t.port.sdo) _ (fun t x => by simp) _ _).trans (by simp)
  · intro q hq
    exact (foldl_keeps (fun t : State => t.table[q].stamp) _ (fun t x => by simp) _ _).trans (by simp)
@[simp] theorem State.censusList_nv_array (s : State) (o : Station) (es : List CensusEntry) : (State.censusList s o es).nv.array = s.nv.array :=
  (State.censusList_within s o es).1
@[simp] theorem State.censusList_nv_setup (s : State) (o : Station) (es : List CensusEntry) : (State.censusList s o es).nv.setup = s.nv.setup :=
  (State.censusList_within s o es).2.1
@[simp] theorem State.censusList_nv_intent (s : State) (o : Station) (es : List CensusEntry) : (State.censusList s o es).nv.intent = s.nv.intent :=
  (State.censusList_within s o es).2.2.1
@[simp] theorem State.censusList_ctl_number (s : State) (o : Station) (es : List CensusEntry) : (State.censusList s o es).ctl.number = s.ctl.number :=
  (State.censusList_within s o es).2.2.2.1
@[simp] theorem State.censusList_ctl_rate (s : State) (o : Station) (es : List CensusEntry) : (State.censusList s o es).ctl.rate = s.ctl.rate :=
  (State.censusList_within s o es).2.2.2.2.1
@[simp] theorem State.censusList_ctl_members (s : State) (o : Station) (es : List CensusEntry) : (State.censusList s o es).ctl.members = s.ctl.members :=
  (State.censusList_within s o es).2.2.2.2.2.1
@[simp] theorem State.censusList_ctl_guardSet (s : State) (o : Station) (es : List CensusEntry) : (State.censusList s o es).ctl.guardSet = s.ctl.guardSet :=
  (State.censusList_within s o es).2.2.2.2.2.2.1
@[simp] theorem State.censusList_ctl_state (s : State) (o : Station) (es : List CensusEntry) : (State.censusList s o es).ctl.state = s.ctl.state :=
  (State.censusList_within s o es).2.2.2.2.2.2.2.1
@[simp] theorem State.censusList_ctl_beaconDue (s : State) (o : Station) (es : List CensusEntry) : (State.censusList s o es).ctl.beaconDue = s.ctl.beaconDue :=
  (State.censusList_within s o es).2.2.2.2.2.2.2.2.1
@[simp] theorem State.censusList_ctl_beaconTimer (s : State) (o : Station) (es : List CensusEntry) : (State.censusList s o es).ctl.beaconTimer = s.ctl.beaconTimer :=
  (State.censusList_within s o es).2.2.2.2.2.2.2.2.2.1
@[simp] theorem State.censusList_ctl_joining (s : State) (o : Station) (es : List CensusEntry) : (State.censusList s o es).ctl.joining = s.ctl.joining :=
  (State.censusList_within s o es).2.2.2.2.2.2.2.2.2.2.1
@[simp] theorem State.censusList_roster_entries (s : State) (o : Station) (es : List CensusEntry) : (State.censusList s o es).roster.entries = s.roster.entries :=
  (State.censusList_within s o es).2.2.2.2.2.2.2.2.2.2.2.1
@[simp] theorem State.censusList_roster_lastAck (s : State) (o : Station) (es : List CensusEntry) : (State.censusList s o es).roster.lastAck = s.roster.lastAck :=
  (State.censusList_within s o es).2.2.2.2.2.2.2.2.2.2.2.2.1
@[simp] theorem State.censusList_roster_cursor (s : State) (o : Station) (es : List CensusEntry) : (State.censusList s o es).roster.cursor = s.roster.cursor :=
  (State.censusList_within s o es).2.2.2.2.2.2.2.2.2.2.2.2.2.1
@[simp] theorem State.censusList_port_refused (s : State) (o : Station) (es : List CensusEntry) : (State.censusList s o es).port.refused = s.port.refused :=
  (State.censusList_within s o es).2.2.2.2.2.2.2.2.2.2.2.2.2.2.1
@[simp] theorem State.censusList_port_sdo (s : State) (o : Station) (es : List CensusEntry) : (State.censusList s o es).port.sdo = s.port.sdo :=
  (State.censusList_within s o es).2.2.2.2.2.2.2.2.2.2.2.2.2.2.2.1
@[simp] theorem State.censusList_stamp (s : State) (o : Station) (es : List CensusEntry) (q : Nat) (hq : q < 64) : (State.censusList s o es).table[q].stamp = s.table[q].stamp :=
  (State.censusList_within s o es).2.2.2.2.2.2.2.2.2.2.2.2.2.2.2.2 q hq

/-- Parts of its blocks that `markIfBehind` keeps. -/
theorem State.markIfBehind_within (s : State) (u : UpdateFrame) :
    (State.markIfBehind s u).nv.array = s.nv.array ∧ (State.markIfBehind s u).nv.setup = s.nv.setup ∧ (State.markIfBehind s u).nv.intent = s.nv.intent ∧ (∀ (q : Nat) (hq : q < 64), (State.markIfBehind s u).table[q].stamp = s.table[q].stamp) := by
  unfold State.markIfBehind; (repeat' (first | split | dsimp only)) <;> simp
@[simp] theorem State.markIfBehind_nv_array (s : State) (u : UpdateFrame) : (State.markIfBehind s u).nv.array = s.nv.array :=
  (State.markIfBehind_within s u).1
@[simp] theorem State.markIfBehind_nv_setup (s : State) (u : UpdateFrame) : (State.markIfBehind s u).nv.setup = s.nv.setup :=
  (State.markIfBehind_within s u).2.1
@[simp] theorem State.markIfBehind_nv_intent (s : State) (u : UpdateFrame) : (State.markIfBehind s u).nv.intent = s.nv.intent :=
  (State.markIfBehind_within s u).2.2.1
@[simp] theorem State.markIfBehind_stamp (s : State) (u : UpdateFrame) (q : Nat) (hq : q < 64) : (State.markIfBehind s u).table[q].stamp = s.table[q].stamp :=
  (State.markIfBehind_within s u).2.2.2 q hq

/-- Parts of its blocks that `listen` keeps. -/
theorem State.listen_within (s : State) (f : Frame) :
    (State.listen s f).nv.array = s.nv.array ∧ (State.listen s f).nv.setup = s.nv.setup ∧ (State.listen s f).nv.intent = s.nv.intent ∧ (State.listen s f).ctl.number = s.ctl.number ∧ (State.listen s f).ctl.rate = s.ctl.rate ∧ (State.listen s f).ctl.members = s.ctl.members ∧ (State.listen s f).ctl.guardSet = s.ctl.guardSet ∧ (State.listen s f).ctl.state = s.ctl.state ∧ (State.listen s f).ctl.beaconDue = s.ctl.beaconDue ∧ (State.listen s f).ctl.beaconTimer = s.ctl.beaconTimer ∧ (State.listen s f).ctl.joining = s.ctl.joining ∧ (State.listen s f).roster.entries = s.roster.entries ∧ (State.listen s f).roster.lastAck = s.roster.lastAck ∧ (State.listen s f).roster.cursor = s.roster.cursor ∧ (State.listen s f).port.refused = s.port.refused ∧ (State.listen s f).port.sdo = s.port.sdo ∧ (∀ (q : Nat) (hq : q < 64), (State.listen s f).table[q].stamp = s.table[q].stamp) := by
  unfold State.listen; (repeat' (first | split | dsimp only)) <;> simp
@[simp] theorem State.listen_nv_array (s : State) (f : Frame) : (State.listen s f).nv.array = s.nv.array :=
  (State.listen_within s f).1
@[simp] theorem State.listen_nv_setup (s : State) (f : Frame) : (State.listen s f).nv.setup = s.nv.setup :=
  (State.listen_within s f).2.1
@[simp] theorem State.listen_nv_intent (s : State) (f : Frame) : (State.listen s f).nv.intent = s.nv.intent :=
  (State.listen_within s f).2.2.1
@[simp] theorem State.listen_ctl_number (s : State) (f : Frame) : (State.listen s f).ctl.number = s.ctl.number :=
  (State.listen_within s f).2.2.2.1
@[simp] theorem State.listen_ctl_rate (s : State) (f : Frame) : (State.listen s f).ctl.rate = s.ctl.rate :=
  (State.listen_within s f).2.2.2.2.1
@[simp] theorem State.listen_ctl_members (s : State) (f : Frame) : (State.listen s f).ctl.members = s.ctl.members :=
  (State.listen_within s f).2.2.2.2.2.1
@[simp] theorem State.listen_ctl_guardSet (s : State) (f : Frame) : (State.listen s f).ctl.guardSet = s.ctl.guardSet :=
  (State.listen_within s f).2.2.2.2.2.2.1
@[simp] theorem State.listen_ctl_state (s : State) (f : Frame) : (State.listen s f).ctl.state = s.ctl.state :=
  (State.listen_within s f).2.2.2.2.2.2.2.1
@[simp] theorem State.listen_ctl_beaconDue (s : State) (f : Frame) : (State.listen s f).ctl.beaconDue = s.ctl.beaconDue :=
  (State.listen_within s f).2.2.2.2.2.2.2.2.1
@[simp] theorem State.listen_ctl_beaconTimer (s : State) (f : Frame) : (State.listen s f).ctl.beaconTimer = s.ctl.beaconTimer :=
  (State.listen_within s f).2.2.2.2.2.2.2.2.2.1
@[simp] theorem State.listen_ctl_joining (s : State) (f : Frame) : (State.listen s f).ctl.joining = s.ctl.joining :=
  (State.listen_within s f).2.2.2.2.2.2.2.2.2.2.1
@[simp] theorem State.listen_roster_entries (s : State) (f : Frame) : (State.listen s f).roster.entries = s.roster.entries :=
  (State.listen_within s f).2.2.2.2.2.2.2.2.2.2.2.1
@[simp] theorem State.listen_roster_lastAck (s : State) (f : Frame) : (State.listen s f).roster.lastAck = s.roster.lastAck :=
  (State.listen_within s f).2.2.2.2.2.2.2.2.2.2.2.2.1
@[simp] theorem State.listen_roster_cursor (s : State) (f : Frame) : (State.listen s f).roster.cursor = s.roster.cursor :=
  (State.listen_within s f).2.2.2.2.2.2.2.2.2.2.2.2.2.1
@[simp] theorem State.listen_port_refused (s : State) (f : Frame) : (State.listen s f).port.refused = s.port.refused :=
  (State.listen_within s f).2.2.2.2.2.2.2.2.2.2.2.2.2.2.1
@[simp] theorem State.listen_port_sdo (s : State) (f : Frame) : (State.listen s f).port.sdo = s.port.sdo :=
  (State.listen_within s f).2.2.2.2.2.2.2.2.2.2.2.2.2.2.2.1
@[simp] theorem State.listen_stamp (s : State) (f : Frame) (q : Nat) (hq : q < 64) : (State.listen s f).table[q].stamp = s.table[q].stamp :=
  (State.listen_within s f).2.2.2.2.2.2.2.2.2.2.2.2.2.2.2.2 q hq

/-- Parts of its blocks that `listenIfListening` keeps. -/
theorem State.listenIfListening_within (s : State) (f : Frame) :
    (State.listenIfListening s f).nv.array = s.nv.array ∧ (State.listenIfListening s f).nv.setup = s.nv.setup ∧ (State.listenIfListening s f).nv.intent = s.nv.intent ∧ (State.listenIfListening s f).ctl.number = s.ctl.number ∧ (State.listenIfListening s f).ctl.rate = s.ctl.rate ∧ (State.listenIfListening s f).ctl.members = s.ctl.members ∧ (State.listenIfListening s f).ctl.guardSet = s.ctl.guardSet ∧ (State.listenIfListening s f).ctl.state = s.ctl.state ∧ (State.listenIfListening s f).ctl.beaconDue = s.ctl.beaconDue ∧ (State.listenIfListening s f).ctl.beaconTimer = s.ctl.beaconTimer ∧ (State.listenIfListening s f).ctl.joining = s.ctl.joining ∧ (State.listenIfListening s f).roster.entries = s.roster.entries ∧ (State.listenIfListening s f).roster.lastAck = s.roster.lastAck ∧ (State.listenIfListening s f).roster.cursor = s.roster.cursor ∧ (State.listenIfListening s f).port.refused = s.port.refused ∧ (State.listenIfListening s f).port.sdo = s.port.sdo ∧ (∀ (q : Nat) (hq : q < 64), (State.listenIfListening s f).table[q].stamp = s.table[q].stamp) := by
  unfold State.listenIfListening; (repeat' (first | split | dsimp only)) <;> simp
@[simp] theorem State.listenIfListening_nv_array (s : State) (f : Frame) : (State.listenIfListening s f).nv.array = s.nv.array :=
  (State.listenIfListening_within s f).1
@[simp] theorem State.listenIfListening_nv_setup (s : State) (f : Frame) : (State.listenIfListening s f).nv.setup = s.nv.setup :=
  (State.listenIfListening_within s f).2.1
@[simp] theorem State.listenIfListening_nv_intent (s : State) (f : Frame) : (State.listenIfListening s f).nv.intent = s.nv.intent :=
  (State.listenIfListening_within s f).2.2.1
@[simp] theorem State.listenIfListening_ctl_number (s : State) (f : Frame) : (State.listenIfListening s f).ctl.number = s.ctl.number :=
  (State.listenIfListening_within s f).2.2.2.1
@[simp] theorem State.listenIfListening_ctl_rate (s : State) (f : Frame) : (State.listenIfListening s f).ctl.rate = s.ctl.rate :=
  (State.listenIfListening_within s f).2.2.2.2.1
@[simp] theorem State.listenIfListening_ctl_members (s : State) (f : Frame) : (State.listenIfListening s f).ctl.members = s.ctl.members :=
  (State.listenIfListening_within s f).2.2.2.2.2.1
@[simp] theorem State.listenIfListening_ctl_guardSet (s : State) (f : Frame) : (State.listenIfListening s f).ctl.guardSet = s.ctl.guardSet :=
  (State.listenIfListening_within s f).2.2.2.2.2.2.1
@[simp] theorem State.listenIfListening_ctl_state (s : State) (f : Frame) : (State.listenIfListening s f).ctl.state = s.ctl.state :=
  (State.listenIfListening_within s f).2.2.2.2.2.2.2.1
@[simp] theorem State.listenIfListening_ctl_beaconDue (s : State) (f : Frame) : (State.listenIfListening s f).ctl.beaconDue = s.ctl.beaconDue :=
  (State.listenIfListening_within s f).2.2.2.2.2.2.2.2.1
@[simp] theorem State.listenIfListening_ctl_beaconTimer (s : State) (f : Frame) : (State.listenIfListening s f).ctl.beaconTimer = s.ctl.beaconTimer :=
  (State.listenIfListening_within s f).2.2.2.2.2.2.2.2.2.1
@[simp] theorem State.listenIfListening_ctl_joining (s : State) (f : Frame) : (State.listenIfListening s f).ctl.joining = s.ctl.joining :=
  (State.listenIfListening_within s f).2.2.2.2.2.2.2.2.2.2.1
@[simp] theorem State.listenIfListening_roster_entries (s : State) (f : Frame) : (State.listenIfListening s f).roster.entries = s.roster.entries :=
  (State.listenIfListening_within s f).2.2.2.2.2.2.2.2.2.2.2.1
@[simp] theorem State.listenIfListening_roster_lastAck (s : State) (f : Frame) : (State.listenIfListening s f).roster.lastAck = s.roster.lastAck :=
  (State.listenIfListening_within s f).2.2.2.2.2.2.2.2.2.2.2.2.1
@[simp] theorem State.listenIfListening_roster_cursor (s : State) (f : Frame) : (State.listenIfListening s f).roster.cursor = s.roster.cursor :=
  (State.listenIfListening_within s f).2.2.2.2.2.2.2.2.2.2.2.2.2.1
@[simp] theorem State.listenIfListening_port_refused (s : State) (f : Frame) : (State.listenIfListening s f).port.refused = s.port.refused :=
  (State.listenIfListening_within s f).2.2.2.2.2.2.2.2.2.2.2.2.2.2.1
@[simp] theorem State.listenIfListening_port_sdo (s : State) (f : Frame) : (State.listenIfListening s f).port.sdo = s.port.sdo :=
  (State.listenIfListening_within s f).2.2.2.2.2.2.2.2.2.2.2.2.2.2.2.1
@[simp] theorem State.listenIfListening_stamp (s : State) (f : Frame) (q : Nat) (hq : q < 64) : (State.listenIfListening s f).table[q].stamp = s.table[q].stamp :=
  (State.listenIfListening_within s f).2.2.2.2.2.2.2.2.2.2.2.2.2.2.2.2 q hq

/-- Parts of its blocks that `handOn` keeps. -/
theorem State.handOn_within (s : State) (f : Frame) :
    (State.handOn s f).nv.array = s.nv.array ∧ (State.handOn s f).nv.setup = s.nv.setup ∧ (State.handOn s f).nv.intent = s.nv.intent ∧ (State.handOn s f).ctl.number = s.ctl.number ∧ (State.handOn s f).ctl.rate = s.ctl.rate ∧ (State.handOn s f).ctl.members = s.ctl.members ∧ (State.handOn s f).ctl.guardSet = s.ctl.guardSet ∧ (State.handOn s f).ctl.beaconDue = s.ctl.beaconDue ∧ (State.handOn s f).ctl.beaconTimer = s.ctl.beaconTimer ∧ (State.handOn s f).ctl.joining = s.ctl.joining ∧ (State.handOn s f).roster.lastAck = s.roster.lastAck ∧ (State.handOn s f).roster.cursor = s.roster.cursor ∧ (State.handOn s f).port.refused = s.port.refused ∧ (State.handOn s f).port.sdo = s.port.sdo ∧ (∀ (q : Nat) (hq : q < 64), (State.handOn s f).table[q].stamp = s.table[q].stamp) := by
  unfold State.handOn; (repeat' (first | split | dsimp only)) <;> simp
@[simp] theorem State.handOn_nv_array (s : State) (f : Frame) : (State.handOn s f).nv.array = s.nv.array :=
  (State.handOn_within s f).1
@[simp] theorem State.handOn_nv_setup (s : State) (f : Frame) : (State.handOn s f).nv.setup = s.nv.setup :=
  (State.handOn_within s f).2.1
@[simp] theorem State.handOn_nv_intent (s : State) (f : Frame) : (State.handOn s f).nv.intent = s.nv.intent :=
  (State.handOn_within s f).2.2.1
@[simp] theorem State.handOn_ctl_number (s : State) (f : Frame) : (State.handOn s f).ctl.number = s.ctl.number :=
  (State.handOn_within s f).2.2.2.1
@[simp] theorem State.handOn_ctl_rate (s : State) (f : Frame) : (State.handOn s f).ctl.rate = s.ctl.rate :=
  (State.handOn_within s f).2.2.2.2.1
@[simp] theorem State.handOn_ctl_members (s : State) (f : Frame) : (State.handOn s f).ctl.members = s.ctl.members :=
  (State.handOn_within s f).2.2.2.2.2.1
@[simp] theorem State.handOn_ctl_guardSet (s : State) (f : Frame) : (State.handOn s f).ctl.guardSet = s.ctl.guardSet :=
  (State.handOn_within s f).2.2.2.2.2.2.1
@[simp] theorem State.handOn_ctl_beaconDue (s : State) (f : Frame) : (State.handOn s f).ctl.beaconDue = s.ctl.beaconDue :=
  (State.handOn_within s f).2.2.2.2.2.2.2.1
@[simp] theorem State.handOn_ctl_beaconTimer (s : State) (f : Frame) : (State.handOn s f).ctl.beaconTimer = s.ctl.beaconTimer :=
  (State.handOn_within s f).2.2.2.2.2.2.2.2.1
@[simp] theorem State.handOn_ctl_joining (s : State) (f : Frame) : (State.handOn s f).ctl.joining = s.ctl.joining :=
  (State.handOn_within s f).2.2.2.2.2.2.2.2.2.1
@[simp] theorem State.handOn_roster_lastAck (s : State) (f : Frame) : (State.handOn s f).roster.lastAck = s.roster.lastAck :=
  (State.handOn_within s f).2.2.2.2.2.2.2.2.2.2.1
@[simp] theorem State.handOn_roster_cursor (s : State) (f : Frame) : (State.handOn s f).roster.cursor = s.roster.cursor :=
  (State.handOn_within s f).2.2.2.2.2.2.2.2.2.2.2.1
@[simp] theorem State.handOn_port_refused (s : State) (f : Frame) : (State.handOn s f).port.refused = s.port.refused :=
  (State.handOn_within s f).2.2.2.2.2.2.2.2.2.2.2.2.1
@[simp] theorem State.handOn_port_sdo (s : State) (f : Frame) : (State.handOn s f).port.sdo = s.port.sdo :=
  (State.handOn_within s f).2.2.2.2.2.2.2.2.2.2.2.2.2.1
@[simp] theorem State.handOn_stamp (s : State) (f : Frame) (q : Nat) (hq : q < 64) : (State.handOn s f).table[q].stamp = s.table[q].stamp :=
  (State.handOn_within s f).2.2.2.2.2.2.2.2.2.2.2.2.2.2 q hq

/-- Parts of its blocks that `ownNumberHeard` keeps. -/
theorem State.ownNumberHeard_within (s : State) (f : Frame) :
    (State.ownNumberHeard s f).nv.array = s.nv.array ∧ (State.ownNumberHeard s f).nv.setup = s.nv.setup ∧ (State.ownNumberHeard s f).ctl.number = s.ctl.number ∧ (State.ownNumberHeard s f).ctl.rate = s.ctl.rate ∧ (State.ownNumberHeard s f).ctl.members = s.ctl.members ∧ (State.ownNumberHeard s f).ctl.guardSet = s.ctl.guardSet ∧ (State.ownNumberHeard s f).ctl.joining = s.ctl.joining ∧ (State.ownNumberHeard s f).roster.lastAck = s.roster.lastAck ∧ (State.ownNumberHeard s f).roster.cursor = s.roster.cursor ∧ (State.ownNumberHeard s f).line.faults = s.line.faults ∧ (State.ownNumberHeard s f).port.refused = s.port.refused ∧ (State.ownNumberHeard s f).port.sdo = s.port.sdo ∧ (∀ (q : Nat) (hq : q < 64), (State.ownNumberHeard s f).table[q].stamp = s.table[q].stamp) := by
  unfold State.ownNumberHeard; (repeat' (first | split | dsimp only)) <;> simp
@[simp] theorem State.ownNumberHeard_nv_array (s : State) (f : Frame) : (State.ownNumberHeard s f).nv.array = s.nv.array :=
  (State.ownNumberHeard_within s f).1
@[simp] theorem State.ownNumberHeard_nv_setup (s : State) (f : Frame) : (State.ownNumberHeard s f).nv.setup = s.nv.setup :=
  (State.ownNumberHeard_within s f).2.1
@[simp] theorem State.ownNumberHeard_ctl_number (s : State) (f : Frame) : (State.ownNumberHeard s f).ctl.number = s.ctl.number :=
  (State.ownNumberHeard_within s f).2.2.1
@[simp] theorem State.ownNumberHeard_ctl_rate (s : State) (f : Frame) : (State.ownNumberHeard s f).ctl.rate = s.ctl.rate :=
  (State.ownNumberHeard_within s f).2.2.2.1
@[simp] theorem State.ownNumberHeard_ctl_members (s : State) (f : Frame) : (State.ownNumberHeard s f).ctl.members = s.ctl.members :=
  (State.ownNumberHeard_within s f).2.2.2.2.1
@[simp] theorem State.ownNumberHeard_ctl_guardSet (s : State) (f : Frame) : (State.ownNumberHeard s f).ctl.guardSet = s.ctl.guardSet :=
  (State.ownNumberHeard_within s f).2.2.2.2.2.1
@[simp] theorem State.ownNumberHeard_ctl_joining (s : State) (f : Frame) : (State.ownNumberHeard s f).ctl.joining = s.ctl.joining :=
  (State.ownNumberHeard_within s f).2.2.2.2.2.2.1
@[simp] theorem State.ownNumberHeard_roster_lastAck (s : State) (f : Frame) : (State.ownNumberHeard s f).roster.lastAck = s.roster.lastAck :=
  (State.ownNumberHeard_within s f).2.2.2.2.2.2.2.1
@[simp] theorem State.ownNumberHeard_roster_cursor (s : State) (f : Frame) : (State.ownNumberHeard s f).roster.cursor = s.roster.cursor :=
  (State.ownNumberHeard_within s f).2.2.2.2.2.2.2.2.1
@[simp] theorem State.ownNumberHeard_line_faults (s : State) (f : Frame) : (State.ownNumberHeard s f).line.faults = s.line.faults :=
  (State.ownNumberHeard_within s f).2.2.2.2.2.2.2.2.2.1
@[simp] theorem State.ownNumberHeard_port_refused (s : State) (f : Frame) : (State.ownNumberHeard s f).port.refused = s.port.refused :=
  (State.ownNumberHeard_within s f).2.2.2.2.2.2.2.2.2.2.1
@[simp] theorem State.ownNumberHeard_port_sdo (s : State) (f : Frame) : (State.ownNumberHeard s f).port.sdo = s.port.sdo :=
  (State.ownNumberHeard_within s f).2.2.2.2.2.2.2.2.2.2.2.1
@[simp] theorem State.ownNumberHeard_stamp (s : State) (f : Frame) (q : Nat) (hq : q < 64) : (State.ownNumberHeard s f).table[q].stamp = s.table[q].stamp :=
  (State.ownNumberHeard_within s f).2.2.2.2.2.2.2.2.2.2.2.2 q hq

/-- Parts of its blocks that `holdFrame` keeps. -/
theorem State.holdFrame_within (s : State) (f : Frame) (bit acked : Bool) :
    (State.holdFrame s f bit acked).line.slot = s.line.slot ∧ (State.holdFrame s f bit acked).line.faults = s.line.faults ∧ (State.holdFrame s f bit acked).line.strangers = s.line.strangers := by
  unfold State.holdFrame; (repeat' (first | split | dsimp only)) <;> simp
@[simp] theorem State.holdFrame_line_slot (s : State) (f : Frame) (bit acked : Bool) : (State.holdFrame s f bit acked).line.slot = s.line.slot :=
  (State.holdFrame_within s f bit acked).1
@[simp] theorem State.holdFrame_line_faults (s : State) (f : Frame) (bit acked : Bool) : (State.holdFrame s f bit acked).line.faults = s.line.faults :=
  (State.holdFrame_within s f bit acked).2.1
@[simp] theorem State.holdFrame_line_strangers (s : State) (f : Frame) (bit acked : Bool) : (State.holdFrame s f bit acked).line.strangers = s.line.strangers :=
  (State.holdFrame_within s f bit acked).2.2

/-- Parts of its blocks that `beaconAct` keeps. -/
theorem State.beaconAct_within (b : BeaconFrame) (s : State) :
    (State.beaconAct b s).2.nv.array = s.nv.array ∧ (State.beaconAct b s).2.nv.setup = s.nv.setup ∧ (State.beaconAct b s).2.nv.intent = s.nv.intent ∧ (State.beaconAct b s).2.ctl.number = s.ctl.number ∧ (State.beaconAct b s).2.ctl.rate = s.ctl.rate ∧ (State.beaconAct b s).2.ctl.members = s.ctl.members ∧ (State.beaconAct b s).2.ctl.guardSet = s.ctl.guardSet ∧ (State.beaconAct b s).2.ctl.state = s.ctl.state ∧ (State.beaconAct b s).2.ctl.beaconDue = s.ctl.beaconDue ∧ (State.beaconAct b s).2.ctl.beaconTimer = s.ctl.beaconTimer ∧ (State.beaconAct b s).2.ctl.joining = s.ctl.joining ∧ (State.beaconAct b s).2.roster.entries = s.roster.entries ∧ (State.beaconAct b s).2.roster.lastAck = s.roster.lastAck ∧ (State.beaconAct b s).2.roster.cursor = s.roster.cursor ∧ (State.beaconAct b s).2.port.refused = s.port.refused ∧ (State.beaconAct b s).2.port.sdo = s.port.sdo ∧ (∀ (q : Nat) (hq : q < 64), (State.beaconAct b s).2.table[q].stamp = s.table[q].stamp) := by
  unfold State.beaconAct; (repeat' (first | split | dsimp only)) <;> simp
@[simp] theorem State.beaconAct_nv_array (b : BeaconFrame) (s : State) : (State.beaconAct b s).2.nv.array = s.nv.array :=
  (State.beaconAct_within b s).1
@[simp] theorem State.beaconAct_nv_setup (b : BeaconFrame) (s : State) : (State.beaconAct b s).2.nv.setup = s.nv.setup :=
  (State.beaconAct_within b s).2.1
@[simp] theorem State.beaconAct_nv_intent (b : BeaconFrame) (s : State) : (State.beaconAct b s).2.nv.intent = s.nv.intent :=
  (State.beaconAct_within b s).2.2.1
@[simp] theorem State.beaconAct_ctl_number (b : BeaconFrame) (s : State) : (State.beaconAct b s).2.ctl.number = s.ctl.number :=
  (State.beaconAct_within b s).2.2.2.1
@[simp] theorem State.beaconAct_ctl_rate (b : BeaconFrame) (s : State) : (State.beaconAct b s).2.ctl.rate = s.ctl.rate :=
  (State.beaconAct_within b s).2.2.2.2.1
@[simp] theorem State.beaconAct_ctl_members (b : BeaconFrame) (s : State) : (State.beaconAct b s).2.ctl.members = s.ctl.members :=
  (State.beaconAct_within b s).2.2.2.2.2.1
@[simp] theorem State.beaconAct_ctl_guardSet (b : BeaconFrame) (s : State) : (State.beaconAct b s).2.ctl.guardSet = s.ctl.guardSet :=
  (State.beaconAct_within b s).2.2.2.2.2.2.1
@[simp] theorem State.beaconAct_ctl_state (b : BeaconFrame) (s : State) : (State.beaconAct b s).2.ctl.state = s.ctl.state :=
  (State.beaconAct_within b s).2.2.2.2.2.2.2.1
@[simp] theorem State.beaconAct_ctl_beaconDue (b : BeaconFrame) (s : State) : (State.beaconAct b s).2.ctl.beaconDue = s.ctl.beaconDue :=
  (State.beaconAct_within b s).2.2.2.2.2.2.2.2.1
@[simp] theorem State.beaconAct_ctl_beaconTimer (b : BeaconFrame) (s : State) : (State.beaconAct b s).2.ctl.beaconTimer = s.ctl.beaconTimer :=
  (State.beaconAct_within b s).2.2.2.2.2.2.2.2.2.1
@[simp] theorem State.beaconAct_ctl_joining (b : BeaconFrame) (s : State) : (State.beaconAct b s).2.ctl.joining = s.ctl.joining :=
  (State.beaconAct_within b s).2.2.2.2.2.2.2.2.2.2.1
@[simp] theorem State.beaconAct_roster_entries (b : BeaconFrame) (s : State) : (State.beaconAct b s).2.roster.entries = s.roster.entries :=
  (State.beaconAct_within b s).2.2.2.2.2.2.2.2.2.2.2.1
@[simp] theorem State.beaconAct_roster_lastAck (b : BeaconFrame) (s : State) : (State.beaconAct b s).2.roster.lastAck = s.roster.lastAck :=
  (State.beaconAct_within b s).2.2.2.2.2.2.2.2.2.2.2.2.1
@[simp] theorem State.beaconAct_roster_cursor (b : BeaconFrame) (s : State) : (State.beaconAct b s).2.roster.cursor = s.roster.cursor :=
  (State.beaconAct_within b s).2.2.2.2.2.2.2.2.2.2.2.2.2.1
@[simp] theorem State.beaconAct_port_refused (b : BeaconFrame) (s : State) : (State.beaconAct b s).2.port.refused = s.port.refused :=
  (State.beaconAct_within b s).2.2.2.2.2.2.2.2.2.2.2.2.2.2.1
@[simp] theorem State.beaconAct_port_sdo (b : BeaconFrame) (s : State) : (State.beaconAct b s).2.port.sdo = s.port.sdo :=
  (State.beaconAct_within b s).2.2.2.2.2.2.2.2.2.2.2.2.2.2.2.1
@[simp] theorem State.beaconAct_stamp (b : BeaconFrame) (s : State) (q : Nat) (hq : q < 64) : (State.beaconAct b s).2.table[q].stamp = s.table[q].stamp :=
  (State.beaconAct_within b s).2.2.2.2.2.2.2.2.2.2.2.2.2.2.2.2 q hq

/-- Parts of its blocks that `holdVote` keeps. -/
theorem State.holdVote_within (s : State) (r : Region) (bit : Bool) :
    (State.holdVote s r bit).nv.array = s.nv.array ∧ (State.holdVote s r bit).nv.setup = s.nv.setup ∧ (State.holdVote s r bit).nv.intent = s.nv.intent ∧ (∀ (q : Nat) (hq : q < 64), (State.holdVote s r bit).table[q].stamp = s.table[q].stamp) := by
  unfold State.holdVote; (repeat' (first | split | dsimp only)) <;> simp
@[simp] theorem State.holdVote_nv_array (s : State) (r : Region) (bit : Bool) : (State.holdVote s r bit).nv.array = s.nv.array :=
  (State.holdVote_within s r bit).1
@[simp] theorem State.holdVote_nv_setup (s : State) (r : Region) (bit : Bool) : (State.holdVote s r bit).nv.setup = s.nv.setup :=
  (State.holdVote_within s r bit).2.1
@[simp] theorem State.holdVote_nv_intent (s : State) (r : Region) (bit : Bool) : (State.holdVote s r bit).nv.intent = s.nv.intent :=
  (State.holdVote_within s r bit).2.2.1
@[simp] theorem State.holdVote_stamp (s : State) (r : Region) (bit : Bool) (q : Nat) (hq : q < 64) : (State.holdVote s r bit).table[q].stamp = s.table[q].stamp :=
  (State.holdVote_within s r bit).2.2.2 q hq

/-- Parts of its blocks that `wakeIfAsked` keeps. -/
theorem State.wakeIfAsked_within (s : State) (r : Region) :
    (State.wakeIfAsked s r).nv.array = s.nv.array ∧ (State.wakeIfAsked s r).nv.setup = s.nv.setup ∧ (State.wakeIfAsked s r).nv.intent = s.nv.intent ∧ (State.wakeIfAsked s r).ctl.number = s.ctl.number ∧ (State.wakeIfAsked s r).ctl.rate = s.ctl.rate ∧ (State.wakeIfAsked s r).ctl.members = s.ctl.members ∧ (State.wakeIfAsked s r).ctl.guardSet = s.ctl.guardSet ∧ (State.wakeIfAsked s r).ctl.beaconDue = s.ctl.beaconDue ∧ (State.wakeIfAsked s r).ctl.beaconTimer = s.ctl.beaconTimer ∧ (State.wakeIfAsked s r).ctl.joining = s.ctl.joining ∧ (∀ (q : Nat) (hq : q < 64), (State.wakeIfAsked s r).table[q].stamp = s.table[q].stamp) := by
  unfold State.wakeIfAsked; (repeat' (first | split | dsimp only)) <;> simp
@[simp] theorem State.wakeIfAsked_nv_array (s : State) (r : Region) : (State.wakeIfAsked s r).nv.array = s.nv.array :=
  (State.wakeIfAsked_within s r).1
@[simp] theorem State.wakeIfAsked_nv_setup (s : State) (r : Region) : (State.wakeIfAsked s r).nv.setup = s.nv.setup :=
  (State.wakeIfAsked_within s r).2.1
@[simp] theorem State.wakeIfAsked_nv_intent (s : State) (r : Region) : (State.wakeIfAsked s r).nv.intent = s.nv.intent :=
  (State.wakeIfAsked_within s r).2.2.1
@[simp] theorem State.wakeIfAsked_ctl_number (s : State) (r : Region) : (State.wakeIfAsked s r).ctl.number = s.ctl.number :=
  (State.wakeIfAsked_within s r).2.2.2.1
@[simp] theorem State.wakeIfAsked_ctl_rate (s : State) (r : Region) : (State.wakeIfAsked s r).ctl.rate = s.ctl.rate :=
  (State.wakeIfAsked_within s r).2.2.2.2.1
@[simp] theorem State.wakeIfAsked_ctl_members (s : State) (r : Region) : (State.wakeIfAsked s r).ctl.members = s.ctl.members :=
  (State.wakeIfAsked_within s r).2.2.2.2.2.1
@[simp] theorem State.wakeIfAsked_ctl_guardSet (s : State) (r : Region) : (State.wakeIfAsked s r).ctl.guardSet = s.ctl.guardSet :=
  (State.wakeIfAsked_within s r).2.2.2.2.2.2.1
@[simp] theorem State.wakeIfAsked_ctl_beaconDue (s : State) (r : Region) : (State.wakeIfAsked s r).ctl.beaconDue = s.ctl.beaconDue :=
  (State.wakeIfAsked_within s r).2.2.2.2.2.2.2.1
@[simp] theorem State.wakeIfAsked_ctl_beaconTimer (s : State) (r : Region) : (State.wakeIfAsked s r).ctl.beaconTimer = s.ctl.beaconTimer :=
  (State.wakeIfAsked_within s r).2.2.2.2.2.2.2.2.1
@[simp] theorem State.wakeIfAsked_ctl_joining (s : State) (r : Region) : (State.wakeIfAsked s r).ctl.joining = s.ctl.joining :=
  (State.wakeIfAsked_within s r).2.2.2.2.2.2.2.2.2.1
@[simp] theorem State.wakeIfAsked_stamp (s : State) (r : Region) (q : Nat) (hq : q < 64) : (State.wakeIfAsked s r).table[q].stamp = s.table[q].stamp :=
  (State.wakeIfAsked_within s r).2.2.2.2.2.2.2.2.2.2 q hq

/-- Parts of its blocks that `claimAct` keeps. -/
theorem State.claimAct_within (c : ClaimFrame) (guardPin : Bool) (s : State) :
    (State.claimAct c guardPin s).2.nv.array = s.nv.array ∧ (State.claimAct c guardPin s).2.nv.setup = s.nv.setup ∧ (State.claimAct c guardPin s).2.nv.intent = s.nv.intent ∧ (State.claimAct c guardPin s).2.ctl.number = s.ctl.number ∧ (State.claimAct c guardPin s).2.ctl.rate = s.ctl.rate ∧ (State.claimAct c guardPin s).2.ctl.members = s.ctl.members ∧ (State.claimAct c guardPin s).2.ctl.guardSet = s.ctl.guardSet ∧ (State.claimAct c guardPin s).2.ctl.beaconDue = s.ctl.beaconDue ∧ (State.claimAct c guardPin s).2.ctl.beaconTimer = s.ctl.beaconTimer ∧ (State.claimAct c guardPin s).2.ctl.joining = s.ctl.joining ∧ (∀ (q : Nat) (hq : q < 64), (State.claimAct c guardPin s).2.table[q].stamp = s.table[q].stamp) := by
  unfold State.claimAct; (repeat' (first | split | dsimp only)) <;> simp
@[simp] theorem State.claimAct_nv_array (c : ClaimFrame) (guardPin : Bool) (s : State) : (State.claimAct c guardPin s).2.nv.array = s.nv.array :=
  (State.claimAct_within c guardPin s).1
@[simp] theorem State.claimAct_nv_setup (c : ClaimFrame) (guardPin : Bool) (s : State) : (State.claimAct c guardPin s).2.nv.setup = s.nv.setup :=
  (State.claimAct_within c guardPin s).2.1
@[simp] theorem State.claimAct_nv_intent (c : ClaimFrame) (guardPin : Bool) (s : State) : (State.claimAct c guardPin s).2.nv.intent = s.nv.intent :=
  (State.claimAct_within c guardPin s).2.2.1
@[simp] theorem State.claimAct_ctl_number (c : ClaimFrame) (guardPin : Bool) (s : State) : (State.claimAct c guardPin s).2.ctl.number = s.ctl.number :=
  (State.claimAct_within c guardPin s).2.2.2.1
@[simp] theorem State.claimAct_ctl_rate (c : ClaimFrame) (guardPin : Bool) (s : State) : (State.claimAct c guardPin s).2.ctl.rate = s.ctl.rate :=
  (State.claimAct_within c guardPin s).2.2.2.2.1
@[simp] theorem State.claimAct_ctl_members (c : ClaimFrame) (guardPin : Bool) (s : State) : (State.claimAct c guardPin s).2.ctl.members = s.ctl.members :=
  (State.claimAct_within c guardPin s).2.2.2.2.2.1
@[simp] theorem State.claimAct_ctl_guardSet (c : ClaimFrame) (guardPin : Bool) (s : State) : (State.claimAct c guardPin s).2.ctl.guardSet = s.ctl.guardSet :=
  (State.claimAct_within c guardPin s).2.2.2.2.2.2.1
@[simp] theorem State.claimAct_ctl_beaconDue (c : ClaimFrame) (guardPin : Bool) (s : State) : (State.claimAct c guardPin s).2.ctl.beaconDue = s.ctl.beaconDue :=
  (State.claimAct_within c guardPin s).2.2.2.2.2.2.2.1
@[simp] theorem State.claimAct_ctl_beaconTimer (c : ClaimFrame) (guardPin : Bool) (s : State) : (State.claimAct c guardPin s).2.ctl.beaconTimer = s.ctl.beaconTimer :=
  (State.claimAct_within c guardPin s).2.2.2.2.2.2.2.2.1
@[simp] theorem State.claimAct_ctl_joining (c : ClaimFrame) (guardPin : Bool) (s : State) : (State.claimAct c guardPin s).2.ctl.joining = s.ctl.joining :=
  (State.claimAct_within c guardPin s).2.2.2.2.2.2.2.2.2.1
@[simp] theorem State.claimAct_stamp (c : ClaimFrame) (guardPin : Bool) (s : State) (q : Nat) (hq : q < 64) : (State.claimAct c guardPin s).2.table[q].stamp = s.table[q].stamp :=
  (State.claimAct_within c guardPin s).2.2.2.2.2.2.2.2.2.2 q hq

/-- Parts of its blocks that `decidePull` keeps. -/
theorem State.decidePull_within (s : State) (p : PullFrame) :
    (State.decidePull s p).2.nv.array = s.nv.array ∧ (State.decidePull s p).2.nv.setup = s.nv.setup ∧ (State.decidePull s p).2.nv.intent = s.nv.intent ∧ (State.decidePull s p).2.ctl.number = s.ctl.number ∧ (State.decidePull s p).2.ctl.rate = s.ctl.rate ∧ (State.decidePull s p).2.ctl.members = s.ctl.members ∧ (State.decidePull s p).2.ctl.guardSet = s.ctl.guardSet ∧ (State.decidePull s p).2.ctl.state = s.ctl.state ∧ (State.decidePull s p).2.ctl.beaconDue = s.ctl.beaconDue ∧ (State.decidePull s p).2.ctl.beaconTimer = s.ctl.beaconTimer ∧ (State.decidePull s p).2.ctl.joining = s.ctl.joining ∧ (∀ (q : Nat) (hq : q < 64), (State.decidePull s p).2.table[q].stamp = s.table[q].stamp) := by
  unfold State.decidePull; (repeat' (first | split | dsimp only)) <;> simp
@[simp] theorem State.decidePull_nv_array (s : State) (p : PullFrame) : (State.decidePull s p).2.nv.array = s.nv.array :=
  (State.decidePull_within s p).1
@[simp] theorem State.decidePull_nv_setup (s : State) (p : PullFrame) : (State.decidePull s p).2.nv.setup = s.nv.setup :=
  (State.decidePull_within s p).2.1
@[simp] theorem State.decidePull_nv_intent (s : State) (p : PullFrame) : (State.decidePull s p).2.nv.intent = s.nv.intent :=
  (State.decidePull_within s p).2.2.1
@[simp] theorem State.decidePull_ctl_number (s : State) (p : PullFrame) : (State.decidePull s p).2.ctl.number = s.ctl.number :=
  (State.decidePull_within s p).2.2.2.1
@[simp] theorem State.decidePull_ctl_rate (s : State) (p : PullFrame) : (State.decidePull s p).2.ctl.rate = s.ctl.rate :=
  (State.decidePull_within s p).2.2.2.2.1
@[simp] theorem State.decidePull_ctl_members (s : State) (p : PullFrame) : (State.decidePull s p).2.ctl.members = s.ctl.members :=
  (State.decidePull_within s p).2.2.2.2.2.1
@[simp] theorem State.decidePull_ctl_guardSet (s : State) (p : PullFrame) : (State.decidePull s p).2.ctl.guardSet = s.ctl.guardSet :=
  (State.decidePull_within s p).2.2.2.2.2.2.1
@[simp] theorem State.decidePull_ctl_state (s : State) (p : PullFrame) : (State.decidePull s p).2.ctl.state = s.ctl.state :=
  (State.decidePull_within s p).2.2.2.2.2.2.2.1
@[simp] theorem State.decidePull_ctl_beaconDue (s : State) (p : PullFrame) : (State.decidePull s p).2.ctl.beaconDue = s.ctl.beaconDue :=
  (State.decidePull_within s p).2.2.2.2.2.2.2.2.1
@[simp] theorem State.decidePull_ctl_beaconTimer (s : State) (p : PullFrame) : (State.decidePull s p).2.ctl.beaconTimer = s.ctl.beaconTimer :=
  (State.decidePull_within s p).2.2.2.2.2.2.2.2.2.1
@[simp] theorem State.decidePull_ctl_joining (s : State) (p : PullFrame) : (State.decidePull s p).2.ctl.joining = s.ctl.joining :=
  (State.decidePull_within s p).2.2.2.2.2.2.2.2.2.2.1
@[simp] theorem State.decidePull_stamp (s : State) (p : PullFrame) (q : Nat) (hq : q < 64) : (State.decidePull s p).2.table[q].stamp = s.table[q].stamp :=
  (State.decidePull_within s p).2.2.2.2.2.2.2.2.2.2.2 q hq

/-- Parts of its blocks that `pullAct` keeps. -/
theorem State.pullAct_within (p : PullFrame) (s : State) :
    (State.pullAct p s).2.nv.array = s.nv.array ∧ (State.pullAct p s).2.nv.setup = s.nv.setup ∧ (State.pullAct p s).2.nv.intent = s.nv.intent ∧ (State.pullAct p s).2.ctl.number = s.ctl.number ∧ (State.pullAct p s).2.ctl.rate = s.ctl.rate ∧ (State.pullAct p s).2.ctl.members = s.ctl.members ∧ (State.pullAct p s).2.ctl.guardSet = s.ctl.guardSet ∧ (State.pullAct p s).2.ctl.beaconDue = s.ctl.beaconDue ∧ (State.pullAct p s).2.ctl.beaconTimer = s.ctl.beaconTimer ∧ (State.pullAct p s).2.ctl.joining = s.ctl.joining ∧ (∀ (q : Nat) (hq : q < 64), (State.pullAct p s).2.table[q].stamp = s.table[q].stamp) := by
  unfold State.pullAct; (repeat' (first | split | dsimp only)) <;> simp
@[simp] theorem State.pullAct_nv_array (p : PullFrame) (s : State) : (State.pullAct p s).2.nv.array = s.nv.array :=
  (State.pullAct_within p s).1
@[simp] theorem State.pullAct_nv_setup (p : PullFrame) (s : State) : (State.pullAct p s).2.nv.setup = s.nv.setup :=
  (State.pullAct_within p s).2.1
@[simp] theorem State.pullAct_nv_intent (p : PullFrame) (s : State) : (State.pullAct p s).2.nv.intent = s.nv.intent :=
  (State.pullAct_within p s).2.2.1
@[simp] theorem State.pullAct_ctl_number (p : PullFrame) (s : State) : (State.pullAct p s).2.ctl.number = s.ctl.number :=
  (State.pullAct_within p s).2.2.2.1
@[simp] theorem State.pullAct_ctl_rate (p : PullFrame) (s : State) : (State.pullAct p s).2.ctl.rate = s.ctl.rate :=
  (State.pullAct_within p s).2.2.2.2.1
@[simp] theorem State.pullAct_ctl_members (p : PullFrame) (s : State) : (State.pullAct p s).2.ctl.members = s.ctl.members :=
  (State.pullAct_within p s).2.2.2.2.2.1
@[simp] theorem State.pullAct_ctl_guardSet (p : PullFrame) (s : State) : (State.pullAct p s).2.ctl.guardSet = s.ctl.guardSet :=
  (State.pullAct_within p s).2.2.2.2.2.2.1
@[simp] theorem State.pullAct_ctl_beaconDue (p : PullFrame) (s : State) : (State.pullAct p s).2.ctl.beaconDue = s.ctl.beaconDue :=
  (State.pullAct_within p s).2.2.2.2.2.2.2.1
@[simp] theorem State.pullAct_ctl_beaconTimer (p : PullFrame) (s : State) : (State.pullAct p s).2.ctl.beaconTimer = s.ctl.beaconTimer :=
  (State.pullAct_within p s).2.2.2.2.2.2.2.2.1
@[simp] theorem State.pullAct_ctl_joining (p : PullFrame) (s : State) : (State.pullAct p s).2.ctl.joining = s.ctl.joining :=
  (State.pullAct_within p s).2.2.2.2.2.2.2.2.2.1
@[simp] theorem State.pullAct_stamp (p : PullFrame) (s : State) (q : Nat) (hq : q < 64) : (State.pullAct p s).2.table[q].stamp = s.table[q].stamp :=
  (State.pullAct_within p s).2.2.2.2.2.2.2.2.2.2 q hq

/-- Parts of its blocks that `takeUpdate` keeps. -/
theorem State.takeUpdate_within (s : State) (u : UpdateFrame) :
    (State.takeUpdate s u).2.nv.array = s.nv.array ∧ (State.takeUpdate s u).2.nv.setup = s.nv.setup ∧ (State.takeUpdate s u).2.nv.intent = s.nv.intent := by
  unfold State.takeUpdate; (repeat' (first | split | dsimp only)) <;> simp
@[simp] theorem State.takeUpdate_nv_array (s : State) (u : UpdateFrame) : (State.takeUpdate s u).2.nv.array = s.nv.array :=
  (State.takeUpdate_within s u).1
@[simp] theorem State.takeUpdate_nv_setup (s : State) (u : UpdateFrame) : (State.takeUpdate s u).2.nv.setup = s.nv.setup :=
  (State.takeUpdate_within s u).2.1
@[simp] theorem State.takeUpdate_nv_intent (s : State) (u : UpdateFrame) : (State.takeUpdate s u).2.nv.intent = s.nv.intent :=
  (State.takeUpdate_within s u).2.2

/-- Parts of its blocks that `compareUpdate` keeps. -/
theorem State.compareUpdate_within (s : State) (u : UpdateFrame) :
    (State.compareUpdate s u).2.nv.array = s.nv.array ∧ (State.compareUpdate s u).2.nv.setup = s.nv.setup ∧ (State.compareUpdate s u).2.nv.intent = s.nv.intent := by
  unfold State.compareUpdate; (repeat' (first | split | dsimp only)) <;> simp
@[simp] theorem State.compareUpdate_nv_array (s : State) (u : UpdateFrame) : (State.compareUpdate s u).2.nv.array = s.nv.array :=
  (State.compareUpdate_within s u).1
@[simp] theorem State.compareUpdate_nv_setup (s : State) (u : UpdateFrame) : (State.compareUpdate s u).2.nv.setup = s.nv.setup :=
  (State.compareUpdate_within s u).2.1
@[simp] theorem State.compareUpdate_nv_intent (s : State) (u : UpdateFrame) : (State.compareUpdate s u).2.nv.intent = s.nv.intent :=
  (State.compareUpdate_within s u).2.2

/-- Parts of its blocks that `updateIfOwner` keeps. -/
theorem State.updateIfOwner_within (s : State) (u : UpdateFrame) :
    (State.updateIfOwner s u).2.nv.array = s.nv.array ∧ (State.updateIfOwner s u).2.nv.setup = s.nv.setup ∧ (State.updateIfOwner s u).2.nv.intent = s.nv.intent := by
  unfold State.updateIfOwner; (repeat' (first | split | dsimp only)) <;> simp
@[simp] theorem State.updateIfOwner_nv_array (s : State) (u : UpdateFrame) : (State.updateIfOwner s u).2.nv.array = s.nv.array :=
  (State.updateIfOwner_within s u).1
@[simp] theorem State.updateIfOwner_nv_setup (s : State) (u : UpdateFrame) : (State.updateIfOwner s u).2.nv.setup = s.nv.setup :=
  (State.updateIfOwner_within s u).2.1
@[simp] theorem State.updateIfOwner_nv_intent (s : State) (u : UpdateFrame) : (State.updateIfOwner s u).2.nv.intent = s.nv.intent :=
  (State.updateIfOwner_within s u).2.2

/-- Parts of its blocks that `updateAct` keeps. -/
theorem State.updateAct_within (u : UpdateFrame) (s : State) :
    (State.updateAct u s).2.nv.array = s.nv.array ∧ (State.updateAct u s).2.nv.setup = s.nv.setup ∧ (State.updateAct u s).2.nv.intent = s.nv.intent ∧ (State.updateAct u s).2.ctl.number = s.ctl.number ∧ (State.updateAct u s).2.ctl.rate = s.ctl.rate ∧ (State.updateAct u s).2.ctl.members = s.ctl.members ∧ (State.updateAct u s).2.ctl.guardSet = s.ctl.guardSet ∧ (State.updateAct u s).2.ctl.state = s.ctl.state ∧ (State.updateAct u s).2.ctl.beaconDue = s.ctl.beaconDue ∧ (State.updateAct u s).2.ctl.beaconTimer = s.ctl.beaconTimer ∧ (State.updateAct u s).2.ctl.joining = s.ctl.joining ∧ (State.updateAct u s).2.roster.entries = s.roster.entries ∧ (State.updateAct u s).2.roster.lastAck = s.roster.lastAck ∧ (State.updateAct u s).2.roster.cursor = s.roster.cursor ∧ (State.updateAct u s).2.port.refused = s.port.refused ∧ (State.updateAct u s).2.port.sdo = s.port.sdo := by
  unfold State.updateAct; (repeat' (first | split | dsimp only)) <;> simp
@[simp] theorem State.updateAct_nv_array (u : UpdateFrame) (s : State) : (State.updateAct u s).2.nv.array = s.nv.array :=
  (State.updateAct_within u s).1
@[simp] theorem State.updateAct_nv_setup (u : UpdateFrame) (s : State) : (State.updateAct u s).2.nv.setup = s.nv.setup :=
  (State.updateAct_within u s).2.1
@[simp] theorem State.updateAct_nv_intent (u : UpdateFrame) (s : State) : (State.updateAct u s).2.nv.intent = s.nv.intent :=
  (State.updateAct_within u s).2.2.1
@[simp] theorem State.updateAct_ctl_number (u : UpdateFrame) (s : State) : (State.updateAct u s).2.ctl.number = s.ctl.number :=
  (State.updateAct_within u s).2.2.2.1
@[simp] theorem State.updateAct_ctl_rate (u : UpdateFrame) (s : State) : (State.updateAct u s).2.ctl.rate = s.ctl.rate :=
  (State.updateAct_within u s).2.2.2.2.1
@[simp] theorem State.updateAct_ctl_members (u : UpdateFrame) (s : State) : (State.updateAct u s).2.ctl.members = s.ctl.members :=
  (State.updateAct_within u s).2.2.2.2.2.1
@[simp] theorem State.updateAct_ctl_guardSet (u : UpdateFrame) (s : State) : (State.updateAct u s).2.ctl.guardSet = s.ctl.guardSet :=
  (State.updateAct_within u s).2.2.2.2.2.2.1
@[simp] theorem State.updateAct_ctl_state (u : UpdateFrame) (s : State) : (State.updateAct u s).2.ctl.state = s.ctl.state :=
  (State.updateAct_within u s).2.2.2.2.2.2.2.1
@[simp] theorem State.updateAct_ctl_beaconDue (u : UpdateFrame) (s : State) : (State.updateAct u s).2.ctl.beaconDue = s.ctl.beaconDue :=
  (State.updateAct_within u s).2.2.2.2.2.2.2.2.1
@[simp] theorem State.updateAct_ctl_beaconTimer (u : UpdateFrame) (s : State) : (State.updateAct u s).2.ctl.beaconTimer = s.ctl.beaconTimer :=
  (State.updateAct_within u s).2.2.2.2.2.2.2.2.2.1
@[simp] theorem State.updateAct_ctl_joining (u : UpdateFrame) (s : State) : (State.updateAct u s).2.ctl.joining = s.ctl.joining :=
  (State.updateAct_within u s).2.2.2.2.2.2.2.2.2.2.1
@[simp] theorem State.updateAct_roster_entries (u : UpdateFrame) (s : State) : (State.updateAct u s).2.roster.entries = s.roster.entries :=
  (State.updateAct_within u s).2.2.2.2.2.2.2.2.2.2.2.1
@[simp] theorem State.updateAct_roster_lastAck (u : UpdateFrame) (s : State) : (State.updateAct u s).2.roster.lastAck = s.roster.lastAck :=
  (State.updateAct_within u s).2.2.2.2.2.2.2.2.2.2.2.2.1
@[simp] theorem State.updateAct_roster_cursor (u : UpdateFrame) (s : State) : (State.updateAct u s).2.roster.cursor = s.roster.cursor :=
  (State.updateAct_within u s).2.2.2.2.2.2.2.2.2.2.2.2.2.1
@[simp] theorem State.updateAct_port_refused (u : UpdateFrame) (s : State) : (State.updateAct u s).2.port.refused = s.port.refused :=
  (State.updateAct_within u s).2.2.2.2.2.2.2.2.2.2.2.2.2.2.1
@[simp] theorem State.updateAct_port_sdo (u : UpdateFrame) (s : State) : (State.updateAct u s).2.port.sdo = s.port.sdo :=
  (State.updateAct_within u s).2.2.2.2.2.2.2.2.2.2.2.2.2.2.2

/-- Parts of its blocks that `takeChunk` keeps. -/
theorem State.takeChunk_within (s : State) (p : PullRecord) (i : ImageFrame) :
    (State.takeChunk s p i).2.nv.array = s.nv.array ∧ (State.takeChunk s p i).2.nv.setup = s.nv.setup ∧ (State.takeChunk s p i).2.nv.intent = s.nv.intent ∧ (∀ (q : Nat) (hq : q < 64), (State.takeChunk s p i).2.table[q].stamp = s.table[q].stamp) := by
  unfold State.takeChunk; (repeat' (first | split | dsimp only)) <;> simp
@[simp] theorem State.takeChunk_nv_array (s : State) (p : PullRecord) (i : ImageFrame) : (State.takeChunk s p i).2.nv.array = s.nv.array :=
  (State.takeChunk_within s p i).1
@[simp] theorem State.takeChunk_nv_setup (s : State) (p : PullRecord) (i : ImageFrame) : (State.takeChunk s p i).2.nv.setup = s.nv.setup :=
  (State.takeChunk_within s p i).2.1
@[simp] theorem State.takeChunk_nv_intent (s : State) (p : PullRecord) (i : ImageFrame) : (State.takeChunk s p i).2.nv.intent = s.nv.intent :=
  (State.takeChunk_within s p i).2.2.1
@[simp] theorem State.takeChunk_stamp (s : State) (p : PullRecord) (i : ImageFrame) (q : Nat) (hq : q < 64) : (State.takeChunk s p i).2.table[q].stamp = s.table[q].stamp :=
  (State.takeChunk_within s p i).2.2.2 q hq

/-- Parts of its blocks that `collect` keeps. -/
theorem State.collect_within (s : State) (p : PullRecord) (i : ImageFrame) :
    (State.collect s p i).2.nv.array = s.nv.array ∧ (State.collect s p i).2.nv.setup = s.nv.setup ∧ (State.collect s p i).2.nv.intent = s.nv.intent ∧ (∀ (q : Nat) (hq : q < 64), (State.collect s p i).2.table[q].stamp = s.table[q].stamp) := by
  unfold State.collect; (repeat' (first | split | dsimp only)) <;> simp
@[simp] theorem State.collect_nv_array (s : State) (p : PullRecord) (i : ImageFrame) : (State.collect s p i).2.nv.array = s.nv.array :=
  (State.collect_within s p i).1
@[simp] theorem State.collect_nv_setup (s : State) (p : PullRecord) (i : ImageFrame) : (State.collect s p i).2.nv.setup = s.nv.setup :=
  (State.collect_within s p i).2.1
@[simp] theorem State.collect_nv_intent (s : State) (p : PullRecord) (i : ImageFrame) : (State.collect s p i).2.nv.intent = s.nv.intent :=
  (State.collect_within s p i).2.2.1
@[simp] theorem State.collect_stamp (s : State) (p : PullRecord) (i : ImageFrame) (q : Nat) (hq : q < 64) : (State.collect s p i).2.table[q].stamp = s.table[q].stamp :=
  (State.collect_within s p i).2.2.2 q hq

/-- Parts of its blocks that `collectIfAsked` keeps. -/
theorem State.collectIfAsked_within (s : State) (i : ImageFrame) :
    (State.collectIfAsked s i).2.nv.array = s.nv.array ∧ (State.collectIfAsked s i).2.nv.setup = s.nv.setup ∧ (State.collectIfAsked s i).2.nv.intent = s.nv.intent ∧ (∀ (q : Nat) (hq : q < 64), (State.collectIfAsked s i).2.table[q].stamp = s.table[q].stamp) := by
  unfold State.collectIfAsked; (repeat' (first | split | dsimp only)) <;> simp
@[simp] theorem State.collectIfAsked_nv_array (s : State) (i : ImageFrame) : (State.collectIfAsked s i).2.nv.array = s.nv.array :=
  (State.collectIfAsked_within s i).1
@[simp] theorem State.collectIfAsked_nv_setup (s : State) (i : ImageFrame) : (State.collectIfAsked s i).2.nv.setup = s.nv.setup :=
  (State.collectIfAsked_within s i).2.1
@[simp] theorem State.collectIfAsked_nv_intent (s : State) (i : ImageFrame) : (State.collectIfAsked s i).2.nv.intent = s.nv.intent :=
  (State.collectIfAsked_within s i).2.2.1
@[simp] theorem State.collectIfAsked_stamp (s : State) (i : ImageFrame) (q : Nat) (hq : q < 64) : (State.collectIfAsked s i).2.table[q].stamp = s.table[q].stamp :=
  (State.collectIfAsked_within s i).2.2.2 q hq

/-- Parts of its blocks that `imageAct` keeps. -/
theorem State.imageAct_within (i : ImageFrame) (s : State) :
    (State.imageAct i s).2.nv.array = s.nv.array ∧ (State.imageAct i s).2.nv.setup = s.nv.setup ∧ (State.imageAct i s).2.nv.intent = s.nv.intent ∧ (State.imageAct i s).2.ctl.number = s.ctl.number ∧ (State.imageAct i s).2.ctl.rate = s.ctl.rate ∧ (State.imageAct i s).2.ctl.members = s.ctl.members ∧ (State.imageAct i s).2.ctl.guardSet = s.ctl.guardSet ∧ (State.imageAct i s).2.ctl.state = s.ctl.state ∧ (State.imageAct i s).2.ctl.beaconDue = s.ctl.beaconDue ∧ (State.imageAct i s).2.ctl.beaconTimer = s.ctl.beaconTimer ∧ (State.imageAct i s).2.ctl.joining = s.ctl.joining ∧ (State.imageAct i s).2.roster.entries = s.roster.entries ∧ (State.imageAct i s).2.roster.lastAck = s.roster.lastAck ∧ (State.imageAct i s).2.roster.cursor = s.roster.cursor ∧ (State.imageAct i s).2.port.refused = s.port.refused ∧ (State.imageAct i s).2.port.sdo = s.port.sdo ∧ (∀ (q : Nat) (hq : q < 64), (State.imageAct i s).2.table[q].stamp = s.table[q].stamp) := by
  unfold State.imageAct; (repeat' (first | split | dsimp only)) <;> simp
@[simp] theorem State.imageAct_nv_array (i : ImageFrame) (s : State) : (State.imageAct i s).2.nv.array = s.nv.array :=
  (State.imageAct_within i s).1
@[simp] theorem State.imageAct_nv_setup (i : ImageFrame) (s : State) : (State.imageAct i s).2.nv.setup = s.nv.setup :=
  (State.imageAct_within i s).2.1
@[simp] theorem State.imageAct_nv_intent (i : ImageFrame) (s : State) : (State.imageAct i s).2.nv.intent = s.nv.intent :=
  (State.imageAct_within i s).2.2.1
@[simp] theorem State.imageAct_ctl_number (i : ImageFrame) (s : State) : (State.imageAct i s).2.ctl.number = s.ctl.number :=
  (State.imageAct_within i s).2.2.2.1
@[simp] theorem State.imageAct_ctl_rate (i : ImageFrame) (s : State) : (State.imageAct i s).2.ctl.rate = s.ctl.rate :=
  (State.imageAct_within i s).2.2.2.2.1
@[simp] theorem State.imageAct_ctl_members (i : ImageFrame) (s : State) : (State.imageAct i s).2.ctl.members = s.ctl.members :=
  (State.imageAct_within i s).2.2.2.2.2.1
@[simp] theorem State.imageAct_ctl_guardSet (i : ImageFrame) (s : State) : (State.imageAct i s).2.ctl.guardSet = s.ctl.guardSet :=
  (State.imageAct_within i s).2.2.2.2.2.2.1
@[simp] theorem State.imageAct_ctl_state (i : ImageFrame) (s : State) : (State.imageAct i s).2.ctl.state = s.ctl.state :=
  (State.imageAct_within i s).2.2.2.2.2.2.2.1
@[simp] theorem State.imageAct_ctl_beaconDue (i : ImageFrame) (s : State) : (State.imageAct i s).2.ctl.beaconDue = s.ctl.beaconDue :=
  (State.imageAct_within i s).2.2.2.2.2.2.2.2.1
@[simp] theorem State.imageAct_ctl_beaconTimer (i : ImageFrame) (s : State) : (State.imageAct i s).2.ctl.beaconTimer = s.ctl.beaconTimer :=
  (State.imageAct_within i s).2.2.2.2.2.2.2.2.2.1
@[simp] theorem State.imageAct_ctl_joining (i : ImageFrame) (s : State) : (State.imageAct i s).2.ctl.joining = s.ctl.joining :=
  (State.imageAct_within i s).2.2.2.2.2.2.2.2.2.2.1
@[simp] theorem State.imageAct_roster_entries (i : ImageFrame) (s : State) : (State.imageAct i s).2.roster.entries = s.roster.entries :=
  (State.imageAct_within i s).2.2.2.2.2.2.2.2.2.2.2.1
@[simp] theorem State.imageAct_roster_lastAck (i : ImageFrame) (s : State) : (State.imageAct i s).2.roster.lastAck = s.roster.lastAck :=
  (State.imageAct_within i s).2.2.2.2.2.2.2.2.2.2.2.2.1
@[simp] theorem State.imageAct_roster_cursor (i : ImageFrame) (s : State) : (State.imageAct i s).2.roster.cursor = s.roster.cursor :=
  (State.imageAct_within i s).2.2.2.2.2.2.2.2.2.2.2.2.2.1
@[simp] theorem State.imageAct_port_refused (i : ImageFrame) (s : State) : (State.imageAct i s).2.port.refused = s.port.refused :=
  (State.imageAct_within i s).2.2.2.2.2.2.2.2.2.2.2.2.2.2.1
@[simp] theorem State.imageAct_port_sdo (i : ImageFrame) (s : State) : (State.imageAct i s).2.port.sdo = s.port.sdo :=
  (State.imageAct_within i s).2.2.2.2.2.2.2.2.2.2.2.2.2.2.2.1
@[simp] theorem State.imageAct_stamp (i : ImageFrame) (s : State) (q : Nat) (hq : q < 64) : (State.imageAct i s).2.table[q].stamp = s.table[q].stamp :=
  (State.imageAct_within i s).2.2.2.2.2.2.2.2.2.2.2.2.2.2.2.2 q hq

end Sys2Proof.Machine
end

