-- ==== Sys2Proof/Laws/FrameEndsWithin.lean ====
section
/-! SUPPORT. What each operation of Machine/FrameEnds.lean leaves as it is within the blocks it changes. -/

namespace Sys2Proof.Machine

/-- Parts of its blocks that `attemptDone` keeps. -/
theorem State.attemptDone_within (s : State) :
    (State.attemptDone s).line.rx = s.line.rx ∧ (State.attemptDone s).line.strangers = s.line.strangers := by
  unfold State.attemptDone; (repeat' (first | split | dsimp only)) <;> simp
@[simp] theorem State.attemptDone_line_rx (s : State) : (State.attemptDone s).line.rx = s.line.rx :=
  (State.attemptDone_within s).1
@[simp] theorem State.attemptDone_line_strangers (s : State) : (State.attemptDone s).line.strangers = s.line.strangers :=
  (State.attemptDone_within s).2

/-- Parts of its blocks that `receptionDone` keeps. -/
theorem State.receptionDone_within (s : State) :
    (State.receptionDone s).line.slot = s.line.slot ∧ (State.receptionDone s).line.faults = s.line.faults ∧ (State.receptionDone s).line.strangers = s.line.strangers := by
  unfold State.receptionDone; (repeat' (first | split | dsimp only)) <;> simp
@[simp] theorem State.receptionDone_line_slot (s : State) : (State.receptionDone s).line.slot = s.line.slot :=
  (State.receptionDone_within s).1
@[simp] theorem State.receptionDone_line_faults (s : State) : (State.receptionDone s).line.faults = s.line.faults :=
  (State.receptionDone_within s).2.1
@[simp] theorem State.receptionDone_line_strangers (s : State) : (State.receptionDone s).line.strangers = s.line.strangers :=
  (State.receptionDone_within s).2.2

/-- Parts of its blocks that `beaconSent` keeps. -/
theorem State.beaconSent_within (s : State) (b : BeaconFrame) (walkLast : Option Region) (ack : StationMap) :
    (State.beaconSent s b walkLast ack).ctl.number = s.ctl.number ∧ (State.beaconSent s b walkLast ack).ctl.rate = s.ctl.rate ∧ (State.beaconSent s b walkLast ack).ctl.members = s.ctl.members ∧ (State.beaconSent s b walkLast ack).ctl.guardSet = s.ctl.guardSet ∧ (State.beaconSent s b walkLast ack).ctl.state = s.ctl.state ∧ (State.beaconSent s b walkLast ack).ctl.beaconDue = s.ctl.beaconDue ∧ (State.beaconSent s b walkLast ack).ctl.beaconTimer = s.ctl.beaconTimer ∧ (State.beaconSent s b walkLast ack).roster.entries = s.roster.entries := by
  unfold State.beaconSent; (repeat' (first | split | dsimp only)) <;> simp
@[simp] theorem State.beaconSent_ctl_number (s : State) (b : BeaconFrame) (walkLast : Option Region) (ack : StationMap) : (State.beaconSent s b walkLast ack).ctl.number = s.ctl.number :=
  (State.beaconSent_within s b walkLast ack).1
@[simp] theorem State.beaconSent_ctl_rate (s : State) (b : BeaconFrame) (walkLast : Option Region) (ack : StationMap) : (State.beaconSent s b walkLast ack).ctl.rate = s.ctl.rate :=
  (State.beaconSent_within s b walkLast ack).2.1
@[simp] theorem State.beaconSent_ctl_members (s : State) (b : BeaconFrame) (walkLast : Option Region) (ack : StationMap) : (State.beaconSent s b walkLast ack).ctl.members = s.ctl.members :=
  (State.beaconSent_within s b walkLast ack).2.2.1
@[simp] theorem State.beaconSent_ctl_guardSet (s : State) (b : BeaconFrame) (walkLast : Option Region) (ack : StationMap) : (State.beaconSent s b walkLast ack).ctl.guardSet = s.ctl.guardSet :=
  (State.beaconSent_within s b walkLast ack).2.2.2.1
@[simp] theorem State.beaconSent_ctl_state (s : State) (b : BeaconFrame) (walkLast : Option Region) (ack : StationMap) : (State.beaconSent s b walkLast ack).ctl.state = s.ctl.state :=
  (State.beaconSent_within s b walkLast ack).2.2.2.2.1
@[simp] theorem State.beaconSent_ctl_beaconDue (s : State) (b : BeaconFrame) (walkLast : Option Region) (ack : StationMap) : (State.beaconSent s b walkLast ack).ctl.beaconDue = s.ctl.beaconDue :=
  (State.beaconSent_within s b walkLast ack).2.2.2.2.2.1
@[simp] theorem State.beaconSent_ctl_beaconTimer (s : State) (b : BeaconFrame) (walkLast : Option Region) (ack : StationMap) : (State.beaconSent s b walkLast ack).ctl.beaconTimer = s.ctl.beaconTimer :=
  (State.beaconSent_within s b walkLast ack).2.2.2.2.2.2.1
@[simp] theorem State.beaconSent_roster_entries (s : State) (b : BeaconFrame) (walkLast : Option Region) (ack : StationMap) : (State.beaconSent s b walkLast ack).roster.entries = s.roster.entries :=
  (State.beaconSent_within s b walkLast ack).2.2.2.2.2.2.2

/-- Parts of its blocks that `ownBeaconEnd` keeps. -/
theorem State.ownBeaconEnd_within (s : State) (b : BeaconFrame) (walkLast : Option Region) (ack : StationMap) :
    (State.ownBeaconEnd s b walkLast ack).nv.array = s.nv.array ∧ (State.ownBeaconEnd s b walkLast ack).nv.setup = s.nv.setup ∧ (State.ownBeaconEnd s b walkLast ack).nv.intent = s.nv.intent ∧ (State.ownBeaconEnd s b walkLast ack).ctl.number = s.ctl.number ∧ (State.ownBeaconEnd s b walkLast ack).ctl.rate = s.ctl.rate ∧ (State.ownBeaconEnd s b walkLast ack).ctl.members = s.ctl.members ∧ (State.ownBeaconEnd s b walkLast ack).ctl.guardSet = s.ctl.guardSet ∧ (State.ownBeaconEnd s b walkLast ack).ctl.beaconTimer = s.ctl.beaconTimer ∧ (∀ (q : Nat) (hq : q < 64), (State.ownBeaconEnd s b walkLast ack).table[q].stamp = s.table[q].stamp) := by
  unfold State.ownBeaconEnd; (repeat' (first | split | dsimp only)) <;> simp
@[simp] theorem State.ownBeaconEnd_nv_array (s : State) (b : BeaconFrame) (walkLast : Option Region) (ack : StationMap) : (State.ownBeaconEnd s b walkLast ack).nv.array = s.nv.array :=
  (State.ownBeaconEnd_within s b walkLast ack).1
@[simp] theorem State.ownBeaconEnd_nv_setup (s : State) (b : BeaconFrame) (walkLast : Option Region) (ack : StationMap) : (State.ownBeaconEnd s b walkLast ack).nv.setup = s.nv.setup :=
  (State.ownBeaconEnd_within s b walkLast ack).2.1
@[simp] theorem State.ownBeaconEnd_nv_intent (s : State) (b : BeaconFrame) (walkLast : Option Region) (ack : StationMap) : (State.ownBeaconEnd s b walkLast ack).nv.intent = s.nv.intent :=
  (State.ownBeaconEnd_within s b walkLast ack).2.2.1
@[simp] theorem State.ownBeaconEnd_ctl_number (s : State) (b : BeaconFrame) (walkLast : Option Region) (ack : StationMap) : (State.ownBeaconEnd s b walkLast ack).ctl.number = s.ctl.number :=
  (State.ownBeaconEnd_within s b walkLast ack).2.2.2.1
@[simp] theorem State.ownBeaconEnd_ctl_rate (s : State) (b : BeaconFrame) (walkLast : Option Region) (ack : StationMap) : (State.ownBeaconEnd s b walkLast ack).ctl.rate = s.ctl.rate :=
  (State.ownBeaconEnd_within s b walkLast ack).2.2.2.2.1
@[simp] theorem State.ownBeaconEnd_ctl_members (s : State) (b : BeaconFrame) (walkLast : Option Region) (ack : StationMap) : (State.ownBeaconEnd s b walkLast ack).ctl.members = s.ctl.members :=
  (State.ownBeaconEnd_within s b walkLast ack).2.2.2.2.2.1
@[simp] theorem State.ownBeaconEnd_ctl_guardSet (s : State) (b : BeaconFrame) (walkLast : Option Region) (ack : StationMap) : (State.ownBeaconEnd s b walkLast ack).ctl.guardSet = s.ctl.guardSet :=
  (State.ownBeaconEnd_within s b walkLast ack).2.2.2.2.2.2.1
@[simp] theorem State.ownBeaconEnd_ctl_beaconTimer (s : State) (b : BeaconFrame) (walkLast : Option Region) (ack : StationMap) : (State.ownBeaconEnd s b walkLast ack).ctl.beaconTimer = s.ctl.beaconTimer :=
  (State.ownBeaconEnd_within s b walkLast ack).2.2.2.2.2.2.2.1
@[simp] theorem State.ownBeaconEnd_stamp (s : State) (b : BeaconFrame) (walkLast : Option Region) (ack : StationMap) (q : Nat) (hq : q < 64) : (State.ownBeaconEnd s b walkLast ack).table[q].stamp = s.table[q].stamp :=
  (State.ownBeaconEnd_within s b walkLast ack).2.2.2.2.2.2.2.2 q hq

/-- Parts of its blocks that `beaconHeard` keeps. -/
theorem State.beaconHeard_within (s : State) (b : BeaconFrame) :
    (State.beaconHeard s b).nv.array = s.nv.array ∧ (State.beaconHeard s b).nv.setup = s.nv.setup ∧ (State.beaconHeard s b).nv.intent = s.nv.intent ∧ (State.beaconHeard s b).ctl.number = s.ctl.number ∧ (State.beaconHeard s b).ctl.rate = s.ctl.rate ∧ (State.beaconHeard s b).ctl.members = s.ctl.members ∧ (State.beaconHeard s b).ctl.guardSet = s.ctl.guardSet ∧ (State.beaconHeard s b).ctl.beaconDue = s.ctl.beaconDue ∧ (State.beaconHeard s b).ctl.beaconTimer = s.ctl.beaconTimer ∧ (State.beaconHeard s b).ctl.joining = s.ctl.joining ∧ (State.beaconHeard s b).roster.lastAck = s.roster.lastAck ∧ (State.beaconHeard s b).roster.cursor = s.roster.cursor ∧ (∀ (q : Nat) (hq : q < 64), (State.beaconHeard s b).table[q].stamp = s.table[q].stamp) := by
  unfold State.beaconHeard; (repeat' (first | split | dsimp only)) <;> simp
@[simp] theorem State.beaconHeard_nv_array (s : State) (b : BeaconFrame) : (State.beaconHeard s b).nv.array = s.nv.array :=
  (State.beaconHeard_within s b).1
@[simp] theorem State.beaconHeard_nv_setup (s : State) (b : BeaconFrame) : (State.beaconHeard s b).nv.setup = s.nv.setup :=
  (State.beaconHeard_within s b).2.1
@[simp] theorem State.beaconHeard_nv_intent (s : State) (b : BeaconFrame) : (State.beaconHeard s b).nv.intent = s.nv.intent :=
  (State.beaconHeard_within s b).2.2.1
@[simp] theorem State.beaconHeard_ctl_number (s : State) (b : BeaconFrame) : (State.beaconHeard s b).ctl.number = s.ctl.number :=
  (State.beaconHeard_within s b).2.2.2.1
@[simp] theorem State.beaconHeard_ctl_rate (s : State) (b : BeaconFrame) : (State.beaconHeard s b).ctl.rate = s.ctl.rate :=
  (State.beaconHeard_within s b).2.2.2.2.1
@[simp] theorem State.beaconHeard_ctl_members (s : State) (b : BeaconFrame) : (State.beaconHeard s b).ctl.members = s.ctl.members :=
  (State.beaconHeard_within s b).2.2.2.2.2.1
@[simp] theorem State.beaconHeard_ctl_guardSet (s : State) (b : BeaconFrame) : (State.beaconHeard s b).ctl.guardSet = s.ctl.guardSet :=
  (State.beaconHeard_within s b).2.2.2.2.2.2.1
@[simp] theorem State.beaconHeard_ctl_beaconDue (s : State) (b : BeaconFrame) : (State.beaconHeard s b).ctl.beaconDue = s.ctl.beaconDue :=
  (State.beaconHeard_within s b).2.2.2.2.2.2.2.1
@[simp] theorem State.beaconHeard_ctl_beaconTimer (s : State) (b : BeaconFrame) : (State.beaconHeard s b).ctl.beaconTimer = s.ctl.beaconTimer :=
  (State.beaconHeard_within s b).2.2.2.2.2.2.2.2.1
@[simp] theorem State.beaconHeard_ctl_joining (s : State) (b : BeaconFrame) : (State.beaconHeard s b).ctl.joining = s.ctl.joining :=
  (State.beaconHeard_within s b).2.2.2.2.2.2.2.2.2.1
@[simp] theorem State.beaconHeard_roster_lastAck (s : State) (b : BeaconFrame) : (State.beaconHeard s b).roster.lastAck = s.roster.lastAck :=
  (State.beaconHeard_within s b).2.2.2.2.2.2.2.2.2.2.1
@[simp] theorem State.beaconHeard_roster_cursor (s : State) (b : BeaconFrame) : (State.beaconHeard s b).roster.cursor = s.roster.cursor :=
  (State.beaconHeard_within s b).2.2.2.2.2.2.2.2.2.2.2.1
@[simp] theorem State.beaconHeard_stamp (s : State) (b : BeaconFrame) (q : Nat) (hq : q < 64) : (State.beaconHeard s b).table[q].stamp = s.table[q].stamp :=
  (State.beaconHeard_within s b).2.2.2.2.2.2.2.2.2.2.2.2 q hq

/-- Parts of its blocks that `claimDecided` keeps. -/
theorem State.claimDecided_within (s : State) (c : ClaimFrame) (source : ClaimSource) (ack : StationMap) :
    (State.claimDecided s c source ack).nv.array = s.nv.array ∧ (State.claimDecided s c source ack).nv.setup = s.nv.setup ∧ (State.claimDecided s c source ack).nv.intent = s.nv.intent ∧ (State.claimDecided s c source ack).ctl.number = s.ctl.number ∧ (State.claimDecided s c source ack).ctl.rate = s.ctl.rate ∧ (State.claimDecided s c source ack).ctl.members = s.ctl.members ∧ (State.claimDecided s c source ack).ctl.guardSet = s.ctl.guardSet ∧ (State.claimDecided s c source ack).ctl.state = s.ctl.state ∧ (State.claimDecided s c source ack).ctl.beaconDue = s.ctl.beaconDue ∧ (State.claimDecided s c source ack).ctl.beaconTimer = s.ctl.beaconTimer ∧ (State.claimDecided s c source ack).ctl.joining = s.ctl.joining ∧ (State.claimDecided s c source ack).roster.entries = s.roster.entries ∧ (State.claimDecided s c source ack).roster.lastAck = s.roster.lastAck ∧ (State.claimDecided s c source ack).roster.cursor = s.roster.cursor ∧ (State.claimDecided s c source ack).port.refused = s.port.refused ∧ (State.claimDecided s c source ack).port.sdo = s.port.sdo := by
  unfold State.claimDecided; (repeat' (first | split | dsimp only)) <;> simp
@[simp] theorem State.claimDecided_nv_array (s : State) (c : ClaimFrame) (source : ClaimSource) (ack : StationMap) : (State.claimDecided s c source ack).nv.array = s.nv.array :=
  (State.claimDecided_within s c source ack).1
@[simp] theorem State.claimDecided_nv_setup (s : State) (c : ClaimFrame) (source : ClaimSource) (ack : StationMap) : (State.claimDecided s c source ack).nv.setup = s.nv.setup :=
  (State.claimDecided_within s c source ack).2.1
@[simp] theorem State.claimDecided_nv_intent (s : State) (c : ClaimFrame) (source : ClaimSource) (ack : StationMap) : (State.claimDecided s c source ack).nv.intent = s.nv.intent :=
  (State.claimDecided_within s c source ack).2.2.1
@[simp] theorem State.claimDecided_ctl_number (s : State) (c : ClaimFrame) (source : ClaimSource) (ack : StationMap) : (State.claimDecided s c source ack).ctl.number = s.ctl.number :=
  (State.claimDecided_within s c source ack).2.2.2.1
@[simp] theorem State.claimDecided_ctl_rate (s : State) (c : ClaimFrame) (source : ClaimSource) (ack : StationMap) : (State.claimDecided s c source ack).ctl.rate = s.ctl.rate :=
  (State.claimDecided_within s c source ack).2.2.2.2.1
@[simp] theorem State.claimDecided_ctl_members (s : State) (c : ClaimFrame) (source : ClaimSource) (ack : StationMap) : (State.claimDecided s c source ack).ctl.members = s.ctl.members :=
  (State.claimDecided_within s c source ack).2.2.2.2.2.1
@[simp] theorem State.claimDecided_ctl_guardSet (s : State) (c : ClaimFrame) (source : ClaimSource) (ack : StationMap) : (State.claimDecided s c source ack).ctl.guardSet = s.ctl.guardSet :=
  (State.claimDecided_within s c source ack).2.2.2.2.2.2.1
@[simp] theorem State.claimDecided_ctl_state (s : State) (c : ClaimFrame) (source : ClaimSource) (ack : StationMap) : (State.claimDecided s c source ack).ctl.state = s.ctl.state :=
  (State.claimDecided_within s c source ack).2.2.2.2.2.2.2.1
@[simp] theorem State.claimDecided_ctl_beaconDue (s : State) (c : ClaimFrame) (source : ClaimSource) (ack : StationMap) : (State.claimDecided s c source ack).ctl.beaconDue = s.ctl.beaconDue :=
  (State.claimDecided_within s c source ack).2.2.2.2.2.2.2.2.1
@[simp] theorem State.claimDecided_ctl_beaconTimer (s : State) (c : ClaimFrame) (source : ClaimSource) (ack : StationMap) : (State.claimDecided s c source ack).ctl.beaconTimer = s.ctl.beaconTimer :=
  (State.claimDecided_within s c source ack).2.2.2.2.2.2.2.2.2.1
@[simp] theorem State.claimDecided_ctl_joining (s : State) (c : ClaimFrame) (source : ClaimSource) (ack : StationMap) : (State.claimDecided s c source ack).ctl.joining = s.ctl.joining :=
  (State.claimDecided_within s c source ack).2.2.2.2.2.2.2.2.2.2.1
@[simp] theorem State.claimDecided_roster_entries (s : State) (c : ClaimFrame) (source : ClaimSource) (ack : StationMap) : (State.claimDecided s c source ack).roster.entries = s.roster.entries :=
  (State.claimDecided_within s c source ack).2.2.2.2.2.2.2.2.2.2.2.1
@[simp] theorem State.claimDecided_roster_lastAck (s : State) (c : ClaimFrame) (source : ClaimSource) (ack : StationMap) : (State.claimDecided s c source ack).roster.lastAck = s.roster.lastAck :=
  (State.claimDecided_within s c source ack).2.2.2.2.2.2.2.2.2.2.2.2.1
@[simp] theorem State.claimDecided_roster_cursor (s : State) (c : ClaimFrame) (source : ClaimSource) (ack : StationMap) : (State.claimDecided s c source ack).roster.cursor = s.roster.cursor :=
  (State.claimDecided_within s c source ack).2.2.2.2.2.2.2.2.2.2.2.2.2.1
@[simp] theorem State.claimDecided_port_refused (s : State) (c : ClaimFrame) (source : ClaimSource) (ack : StationMap) : (State.claimDecided s c source ack).port.refused = s.port.refused :=
  (State.claimDecided_within s c source ack).2.2.2.2.2.2.2.2.2.2.2.2.2.2.1
@[simp] theorem State.claimDecided_port_sdo (s : State) (c : ClaimFrame) (source : ClaimSource) (ack : StationMap) : (State.claimDecided s c source ack).port.sdo = s.port.sdo :=
  (State.claimDecided_within s c source ack).2.2.2.2.2.2.2.2.2.2.2.2.2.2.2

/-- Parts of its blocks that `ownClaimEnd` keeps. -/
theorem State.ownClaimEnd_within (s : State) (c : ClaimFrame) (ack : StationMap) :
    (State.ownClaimEnd s c ack).nv.array = s.nv.array ∧ (State.ownClaimEnd s c ack).nv.setup = s.nv.setup ∧ (State.ownClaimEnd s c ack).nv.intent = s.nv.intent ∧ (State.ownClaimEnd s c ack).ctl.number = s.ctl.number ∧ (State.ownClaimEnd s c ack).ctl.rate = s.ctl.rate ∧ (State.ownClaimEnd s c ack).ctl.members = s.ctl.members ∧ (State.ownClaimEnd s c ack).ctl.guardSet = s.ctl.guardSet ∧ (State.ownClaimEnd s c ack).ctl.state = s.ctl.state ∧ (State.ownClaimEnd s c ack).ctl.beaconDue = s.ctl.beaconDue ∧ (State.ownClaimEnd s c ack).ctl.beaconTimer = s.ctl.beaconTimer ∧ (State.ownClaimEnd s c ack).ctl.joining = s.ctl.joining ∧ (State.ownClaimEnd s c ack).roster.entries = s.roster.entries ∧ (State.ownClaimEnd s c ack).roster.lastAck = s.roster.lastAck ∧ (State.ownClaimEnd s c ack).roster.cursor = s.roster.cursor ∧ (State.ownClaimEnd s c ack).line.rx = s.line.rx ∧ (State.ownClaimEnd s c ack).line.strangers = s.line.strangers ∧ (State.ownClaimEnd s c ack).port.refused = s.port.refused ∧ (State.ownClaimEnd s c ack).port.sdo = s.port.sdo := by
  unfold State.ownClaimEnd; (repeat' (first | split | dsimp only)) <;> simp
@[simp] theorem State.ownClaimEnd_nv_array (s : State) (c : ClaimFrame) (ack : StationMap) : (State.ownClaimEnd s c ack).nv.array = s.nv.array :=
  (State.ownClaimEnd_within s c ack).1
@[simp] theorem State.ownClaimEnd_nv_setup (s : State) (c : ClaimFrame) (ack : StationMap) : (State.ownClaimEnd s c ack).nv.setup = s.nv.setup :=
  (State.ownClaimEnd_within s c ack).2.1
@[simp] theorem State.ownClaimEnd_nv_intent (s : State) (c : ClaimFrame) (ack : StationMap) : (State.ownClaimEnd s c ack).nv.intent = s.nv.intent :=
  (State.ownClaimEnd_within s c ack).2.2.1
@[simp] theorem State.ownClaimEnd_ctl_number (s : State) (c : ClaimFrame) (ack : StationMap) : (State.ownClaimEnd s c ack).ctl.number = s.ctl.number :=
  (State.ownClaimEnd_within s c ack).2.2.2.1
@[simp] theorem State.ownClaimEnd_ctl_rate (s : State) (c : ClaimFrame) (ack : StationMap) : (State.ownClaimEnd s c ack).ctl.rate = s.ctl.rate :=
  (State.ownClaimEnd_within s c ack).2.2.2.2.1
@[simp] theorem State.ownClaimEnd_ctl_members (s : State) (c : ClaimFrame) (ack : StationMap) : (State.ownClaimEnd s c ack).ctl.members = s.ctl.members :=
  (State.ownClaimEnd_within s c ack).2.2.2.2.2.1
@[simp] theorem State.ownClaimEnd_ctl_guardSet (s : State) (c : ClaimFrame) (ack : StationMap) : (State.ownClaimEnd s c ack).ctl.guardSet = s.ctl.guardSet :=
  (State.ownClaimEnd_within s c ack).2.2.2.2.2.2.1
@[simp] theorem State.ownClaimEnd_ctl_state (s : State) (c : ClaimFrame) (ack : StationMap) : (State.ownClaimEnd s c ack).ctl.state = s.ctl.state :=
  (State.ownClaimEnd_within s c ack).2.2.2.2.2.2.2.1
@[simp] theorem State.ownClaimEnd_ctl_beaconDue (s : State) (c : ClaimFrame) (ack : StationMap) : (State.ownClaimEnd s c ack).ctl.beaconDue = s.ctl.beaconDue :=
  (State.ownClaimEnd_within s c ack).2.2.2.2.2.2.2.2.1
@[simp] theorem State.ownClaimEnd_ctl_beaconTimer (s : State) (c : ClaimFrame) (ack : StationMap) : (State.ownClaimEnd s c ack).ctl.beaconTimer = s.ctl.beaconTimer :=
  (State.ownClaimEnd_within s c ack).2.2.2.2.2.2.2.2.2.1
@[simp] theorem State.ownClaimEnd_ctl_joining (s : State) (c : ClaimFrame) (ack : StationMap) : (State.ownClaimEnd s c ack).ctl.joining = s.ctl.joining :=
  (State.ownClaimEnd_within s c ack).2.2.2.2.2.2.2.2.2.2.1
@[simp] theorem State.ownClaimEnd_roster_entries (s : State) (c : ClaimFrame) (ack : StationMap) : (State.ownClaimEnd s c ack).roster.entries = s.roster.entries :=
  (State.ownClaimEnd_within s c ack).2.2.2.2.2.2.2.2.2.2.2.1
@[simp] theorem State.ownClaimEnd_roster_lastAck (s : State) (c : ClaimFrame) (ack : StationMap) : (State.ownClaimEnd s c ack).roster.lastAck = s.roster.lastAck :=
  (State.ownClaimEnd_within s c ack).2.2.2.2.2.2.2.2.2.2.2.2.1
@[simp] theorem State.ownClaimEnd_roster_cursor (s : State) (c : ClaimFrame) (ack : StationMap) : (State.ownClaimEnd s c ack).roster.cursor = s.roster.cursor :=
  (State.ownClaimEnd_within s c ack).2.2.2.2.2.2.2.2.2.2.2.2.2.1
@[simp] theorem State.ownClaimEnd_line_rx (s : State) (c : ClaimFrame) (ack : StationMap) : (State.ownClaimEnd s c ack).line.rx = s.line.rx :=
  (State.ownClaimEnd_within s c ack).2.2.2.2.2.2.2.2.2.2.2.2.2.2.1
@[simp] theorem State.ownClaimEnd_line_strangers (s : State) (c : ClaimFrame) (ack : StationMap) : (State.ownClaimEnd s c ack).line.strangers = s.line.strangers :=
  (State.ownClaimEnd_within s c ack).2.2.2.2.2.2.2.2.2.2.2.2.2.2.2.1
@[simp] theorem State.ownClaimEnd_port_refused (s : State) (c : ClaimFrame) (ack : StationMap) : (State.ownClaimEnd s c ack).port.refused = s.port.refused :=
  (State.ownClaimEnd_within s c ack).2.2.2.2.2.2.2.2.2.2.2.2.2.2.2.2.1
@[simp] theorem State.ownClaimEnd_port_sdo (s : State) (c : ClaimFrame) (ack : StationMap) : (State.ownClaimEnd s c ack).port.sdo = s.port.sdo :=
  (State.ownClaimEnd_within s c ack).2.2.2.2.2.2.2.2.2.2.2.2.2.2.2.2.2

/-- Parts of its blocks that `decideClaim` keeps. -/
theorem State.decideClaim_within (s : State) (c : ClaimFrame) (m : StationMap) :
    (State.decideClaim s c m).nv.array = s.nv.array ∧ (State.decideClaim s c m).nv.setup = s.nv.setup ∧ (State.decideClaim s c m).nv.intent = s.nv.intent ∧ (State.decideClaim s c m).ctl.number = s.ctl.number ∧ (State.decideClaim s c m).ctl.rate = s.ctl.rate ∧ (State.decideClaim s c m).ctl.members = s.ctl.members ∧ (State.decideClaim s c m).ctl.guardSet = s.ctl.guardSet ∧ (State.decideClaim s c m).ctl.state = s.ctl.state ∧ (State.decideClaim s c m).ctl.beaconDue = s.ctl.beaconDue ∧ (State.decideClaim s c m).ctl.beaconTimer = s.ctl.beaconTimer ∧ (State.decideClaim s c m).ctl.joining = s.ctl.joining ∧ (State.decideClaim s c m).roster.entries = s.roster.entries ∧ (State.decideClaim s c m).roster.lastAck = s.roster.lastAck ∧ (State.decideClaim s c m).roster.cursor = s.roster.cursor ∧ (State.decideClaim s c m).port.refused = s.port.refused ∧ (State.decideClaim s c m).port.sdo = s.port.sdo := by
  unfold State.decideClaim; (repeat' (first | split | dsimp only)) <;> simp
@[simp] theorem State.decideClaim_nv_array (s : State) (c : ClaimFrame) (m : StationMap) : (State.decideClaim s c m).nv.array = s.nv.array :=
  (State.decideClaim_within s c m).1
@[simp] theorem State.decideClaim_nv_setup (s : State) (c : ClaimFrame) (m : StationMap) : (State.decideClaim s c m).nv.setup = s.nv.setup :=
  (State.decideClaim_within s c m).2.1
@[simp] theorem State.decideClaim_nv_intent (s : State) (c : ClaimFrame) (m : StationMap) : (State.decideClaim s c m).nv.intent = s.nv.intent :=
  (State.decideClaim_within s c m).2.2.1
@[simp] theorem State.decideClaim_ctl_number (s : State) (c : ClaimFrame) (m : StationMap) : (State.decideClaim s c m).ctl.number = s.ctl.number :=
  (State.decideClaim_within s c m).2.2.2.1
@[simp] theorem State.decideClaim_ctl_rate (s : State) (c : ClaimFrame) (m : StationMap) : (State.decideClaim s c m).ctl.rate = s.ctl.rate :=
  (State.decideClaim_within s c m).2.2.2.2.1
@[simp] theorem State.decideClaim_ctl_members (s : State) (c : ClaimFrame) (m : StationMap) : (State.decideClaim s c m).ctl.members = s.ctl.members :=
  (State.decideClaim_within s c m).2.2.2.2.2.1
@[simp] theorem State.decideClaim_ctl_guardSet (s : State) (c : ClaimFrame) (m : StationMap) : (State.decideClaim s c m).ctl.guardSet = s.ctl.guardSet :=
  (State.decideClaim_within s c m).2.2.2.2.2.2.1
@[simp] theorem State.decideClaim_ctl_state (s : State) (c : ClaimFrame) (m : StationMap) : (State.decideClaim s c m).ctl.state = s.ctl.state :=
  (State.decideClaim_within s c m).2.2.2.2.2.2.2.1
@[simp] theorem State.decideClaim_ctl_beaconDue (s : State) (c : ClaimFrame) (m : StationMap) : (State.decideClaim s c m).ctl.beaconDue = s.ctl.beaconDue :=
  (State.decideClaim_within s c m).2.2.2.2.2.2.2.2.1
@[simp] theorem State.decideClaim_ctl_beaconTimer (s : State) (c : ClaimFrame) (m : StationMap) : (State.decideClaim s c m).ctl.beaconTimer = s.ctl.beaconTimer :=
  (State.decideClaim_within s c m).2.2.2.2.2.2.2.2.2.1
@[simp] theorem State.decideClaim_ctl_joining (s : State) (c : ClaimFrame) (m : StationMap) : (State.decideClaim s c m).ctl.joining = s.ctl.joining :=
  (State.decideClaim_within s c m).2.2.2.2.2.2.2.2.2.2.1
@[simp] theorem State.decideClaim_roster_entries (s : State) (c : ClaimFrame) (m : StationMap) : (State.decideClaim s c m).roster.entries = s.roster.entries :=
  (State.decideClaim_within s c m).2.2.2.2.2.2.2.2.2.2.2.1
@[simp] theorem State.decideClaim_roster_lastAck (s : State) (c : ClaimFrame) (m : StationMap) : (State.decideClaim s c m).roster.lastAck = s.roster.lastAck :=
  (State.decideClaim_within s c m).2.2.2.2.2.2.2.2.2.2.2.2.1
@[simp] theorem State.decideClaim_roster_cursor (s : State) (c : ClaimFrame) (m : StationMap) : (State.decideClaim s c m).roster.cursor = s.roster.cursor :=
  (State.decideClaim_within s c m).2.2.2.2.2.2.2.2.2.2.2.2.2.1
@[simp] theorem State.decideClaim_port_refused (s : State) (c : ClaimFrame) (m : StationMap) : (State.decideClaim s c m).port.refused = s.port.refused :=
  (State.decideClaim_within s c m).2.2.2.2.2.2.2.2.2.2.2.2.2.2.1
@[simp] theorem State.decideClaim_port_sdo (s : State) (c : ClaimFrame) (m : StationMap) : (State.decideClaim s c m).port.sdo = s.port.sdo :=
  (State.decideClaim_within s c m).2.2.2.2.2.2.2.2.2.2.2.2.2.2.2

/-- Parts of its blocks that `claimHeard` keeps. -/
theorem State.claimHeard_within (s : State) (acked : Bool) (c : ClaimFrame) (ack : StationMap) :
    (State.claimHeard s acked c ack).nv.array = s.nv.array ∧ (State.claimHeard s acked c ack).nv.setup = s.nv.setup ∧ (State.claimHeard s acked c ack).nv.intent = s.nv.intent ∧ (State.claimHeard s acked c ack).ctl.number = s.ctl.number ∧ (State.claimHeard s acked c ack).ctl.rate = s.ctl.rate ∧ (State.claimHeard s acked c ack).ctl.members = s.ctl.members ∧ (State.claimHeard s acked c ack).ctl.guardSet = s.ctl.guardSet ∧ (State.claimHeard s acked c ack).ctl.state = s.ctl.state ∧ (State.claimHeard s acked c ack).ctl.beaconDue = s.ctl.beaconDue ∧ (State.claimHeard s acked c ack).ctl.beaconTimer = s.ctl.beaconTimer ∧ (State.claimHeard s acked c ack).ctl.joining = s.ctl.joining ∧ (State.claimHeard s acked c ack).roster.entries = s.roster.entries ∧ (State.claimHeard s acked c ack).roster.lastAck = s.roster.lastAck ∧ (State.claimHeard s acked c ack).roster.cursor = s.roster.cursor ∧ (State.claimHeard s acked c ack).port.refused = s.port.refused ∧ (State.claimHeard s acked c ack).port.sdo = s.port.sdo := by
  unfold State.claimHeard; (repeat' (first | split | dsimp only)) <;> simp
@[simp] theorem State.claimHeard_nv_array (s : State) (acked : Bool) (c : ClaimFrame) (ack : StationMap) : (State.claimHeard s acked c ack).nv.array = s.nv.array :=
  (State.claimHeard_within s acked c ack).1
@[simp] theorem State.claimHeard_nv_setup (s : State) (acked : Bool) (c : ClaimFrame) (ack : StationMap) : (State.claimHeard s acked c ack).nv.setup = s.nv.setup :=
  (State.claimHeard_within s acked c ack).2.1
@[simp] theorem State.claimHeard_nv_intent (s : State) (acked : Bool) (c : ClaimFrame) (ack : StationMap) : (State.claimHeard s acked c ack).nv.intent = s.nv.intent :=
  (State.claimHeard_within s acked c ack).2.2.1
@[simp] theorem State.claimHeard_ctl_number (s : State) (acked : Bool) (c : ClaimFrame) (ack : StationMap) : (State.claimHeard s acked c ack).ctl.number = s.ctl.number :=
  (State.claimHeard_within s acked c ack).2.2.2.1
@[simp] theorem State.claimHeard_ctl_rate (s : State) (acked : Bool) (c : ClaimFrame) (ack : StationMap) : (State.claimHeard s acked c ack).ctl.rate = s.ctl.rate :=
  (State.claimHeard_within s acked c ack).2.2.2.2.1
@[simp] theorem State.claimHeard_ctl_members (s : State) (acked : Bool) (c : ClaimFrame) (ack : StationMap) : (State.claimHeard s acked c ack).ctl.members = s.ctl.members :=
  (State.claimHeard_within s acked c ack).2.2.2.2.2.1
@[simp] theorem State.claimHeard_ctl_guardSet (s : State) (acked : Bool) (c : ClaimFrame) (ack : StationMap) : (State.claimHeard s acked c ack).ctl.guardSet = s.ctl.guardSet :=
  (State.claimHeard_within s acked c ack).2.2.2.2.2.2.1
@[simp] theorem State.claimHeard_ctl_state (s : State) (acked : Bool) (c : ClaimFrame) (ack : StationMap) : (State.claimHeard s acked c ack).ctl.state = s.ctl.state :=
  (State.claimHeard_within s acked c ack).2.2.2.2.2.2.2.1
@[simp] theorem State.claimHeard_ctl_beaconDue (s : State) (acked : Bool) (c : ClaimFrame) (ack : StationMap) : (State.claimHeard s acked c ack).ctl.beaconDue = s.ctl.beaconDue :=
  (State.claimHeard_within s acked c ack).2.2.2.2.2.2.2.2.1
@[simp] theorem State.claimHeard_ctl_beaconTimer (s : State) (acked : Bool) (c : ClaimFrame) (ack : StationMap) : (State.claimHeard s acked c ack).ctl.beaconTimer = s.ctl.beaconTimer :=
  (State.claimHeard_within s acked c ack).2.2.2.2.2.2.2.2.2.1
@[simp] theorem State.claimHeard_ctl_joining (s : State) (acked : Bool) (c : ClaimFrame) (ack : StationMap) : (State.claimHeard s acked c ack).ctl.joining = s.ctl.joining :=
  (State.claimHeard_within s acked c ack).2.2.2.2.2.2.2.2.2.2.1
@[simp] theorem State.claimHeard_roster_entries (s : State) (acked : Bool) (c : ClaimFrame) (ack : StationMap) : (State.claimHeard s acked c ack).roster.entries = s.roster.entries :=
  (State.claimHeard_within s acked c ack).2.2.2.2.2.2.2.2.2.2.2.1
@[simp] theorem State.claimHeard_roster_lastAck (s : State) (acked : Bool) (c : ClaimFrame) (ack : StationMap) : (State.claimHeard s acked c ack).roster.lastAck = s.roster.lastAck :=
  (State.claimHeard_within s acked c ack).2.2.2.2.2.2.2.2.2.2.2.2.1
@[simp] theorem State.claimHeard_roster_cursor (s : State) (acked : Bool) (c : ClaimFrame) (ack : StationMap) : (State.claimHeard s acked c ack).roster.cursor = s.roster.cursor :=
  (State.claimHeard_within s acked c ack).2.2.2.2.2.2.2.2.2.2.2.2.2.1
@[simp] theorem State.claimHeard_port_refused (s : State) (acked : Bool) (c : ClaimFrame) (ack : StationMap) : (State.claimHeard s acked c ack).port.refused = s.port.refused :=
  (State.claimHeard_within s acked c ack).2.2.2.2.2.2.2.2.2.2.2.2.2.2.1
@[simp] theorem State.claimHeard_port_sdo (s : State) (acked : Bool) (c : ClaimFrame) (ack : StationMap) : (State.claimHeard s acked c ack).port.sdo = s.port.sdo :=
  (State.claimHeard_within s acked c ack).2.2.2.2.2.2.2.2.2.2.2.2.2.2.2

/-- Parts of its blocks that `pullAnswered` keeps. -/
theorem State.pullAnswered_within (s : State) (p : PullRecord) (ack : StationMap) :
    (State.pullAnswered s p ack).nv.array = s.nv.array ∧ (State.pullAnswered s p ack).nv.setup = s.nv.setup ∧ (State.pullAnswered s p ack).nv.intent = s.nv.intent ∧ (∀ (q : Nat) (hq : q < 64), (State.pullAnswered s p ack).table[q].stamp = s.table[q].stamp) := by
  unfold State.pullAnswered; (repeat' (first | split | dsimp only)) <;> simp
@[simp] theorem State.pullAnswered_nv_array (s : State) (p : PullRecord) (ack : StationMap) : (State.pullAnswered s p ack).nv.array = s.nv.array :=
  (State.pullAnswered_within s p ack).1
@[simp] theorem State.pullAnswered_nv_setup (s : State) (p : PullRecord) (ack : StationMap) : (State.pullAnswered s p ack).nv.setup = s.nv.setup :=
  (State.pullAnswered_within s p ack).2.1
@[simp] theorem State.pullAnswered_nv_intent (s : State) (p : PullRecord) (ack : StationMap) : (State.pullAnswered s p ack).nv.intent = s.nv.intent :=
  (State.pullAnswered_within s p ack).2.2.1
@[simp] theorem State.pullAnswered_stamp (s : State) (p : PullRecord) (ack : StationMap) (q : Nat) (hq : q < 64) : (State.pullAnswered s p ack).table[q].stamp = s.table[q].stamp :=
  (State.pullAnswered_within s p ack).2.2.2 q hq

/-- Parts of its blocks that `ownPullEnd` keeps. -/
theorem State.ownPullEnd_within (s : State) (ack : StationMap) :
    (State.ownPullEnd s ack).nv.array = s.nv.array ∧ (State.ownPullEnd s ack).nv.setup = s.nv.setup ∧ (State.ownPullEnd s ack).nv.intent = s.nv.intent ∧ (State.ownPullEnd s ack).line.rx = s.line.rx ∧ (State.ownPullEnd s ack).line.strangers = s.line.strangers ∧ (∀ (q : Nat) (hq : q < 64), (State.ownPullEnd s ack).table[q].stamp = s.table[q].stamp) := by
  unfold State.ownPullEnd; (repeat' (first | split | dsimp only)) <;> simp
@[simp] theorem State.ownPullEnd_nv_array (s : State) (ack : StationMap) : (State.ownPullEnd s ack).nv.array = s.nv.array :=
  (State.ownPullEnd_within s ack).1
@[simp] theorem State.ownPullEnd_nv_setup (s : State) (ack : StationMap) : (State.ownPullEnd s ack).nv.setup = s.nv.setup :=
  (State.ownPullEnd_within s ack).2.1
@[simp] theorem State.ownPullEnd_nv_intent (s : State) (ack : StationMap) : (State.ownPullEnd s ack).nv.intent = s.nv.intent :=
  (State.ownPullEnd_within s ack).2.2.1
@[simp] theorem State.ownPullEnd_line_rx (s : State) (ack : StationMap) : (State.ownPullEnd s ack).line.rx = s.line.rx :=
  (State.ownPullEnd_within s ack).2.2.2.1
@[simp] theorem State.ownPullEnd_line_strangers (s : State) (ack : StationMap) : (State.ownPullEnd s ack).line.strangers = s.line.strangers :=
  (State.ownPullEnd_within s ack).2.2.2.2.1
@[simp] theorem State.ownPullEnd_stamp (s : State) (ack : StationMap) (q : Nat) (hq : q < 64) : (State.ownPullEnd s ack).table[q].stamp = s.table[q].stamp :=
  (State.ownPullEnd_within s ack).2.2.2.2.2 q hq

/-- Parts of its blocks that `settleUpdate` keeps. -/
theorem State.settleUpdate_within (s : State) (r : Region) (u : UpdateEntry) (doom : Doom) (missing : StationMap) :
    (State.settleUpdate s r u doom missing).ctl.number = s.ctl.number ∧ (State.settleUpdate s r u doom missing).ctl.rate = s.ctl.rate ∧ (State.settleUpdate s r u doom missing).ctl.members = s.ctl.members ∧ (State.settleUpdate s r u doom missing).ctl.guardSet = s.ctl.guardSet ∧ (State.settleUpdate s r u doom missing).ctl.state = s.ctl.state ∧ (State.settleUpdate s r u doom missing).ctl.beaconDue = s.ctl.beaconDue ∧ (State.settleUpdate s r u doom missing).ctl.beaconTimer = s.ctl.beaconTimer ∧ (State.settleUpdate s r u doom missing).ctl.joining = s.ctl.joining := by
  unfold State.settleUpdate; (repeat' (first | split | dsimp only)) <;> simp
@[simp] theorem State.settleUpdate_ctl_number (s : State) (r : Region) (u : UpdateEntry) (doom : Doom) (missing : StationMap) : (State.settleUpdate s r u doom missing).ctl.number = s.ctl.number :=
  (State.settleUpdate_within s r u doom missing).1
@[simp] theorem State.settleUpdate_ctl_rate (s : State) (r : Region) (u : UpdateEntry) (doom : Doom) (missing : StationMap) : (State.settleUpdate s r u doom missing).ctl.rate = s.ctl.rate :=
  (State.settleUpdate_within s r u doom missing).2.1
@[simp] theorem State.settleUpdate_ctl_members (s : State) (r : Region) (u : UpdateEntry) (doom : Doom) (missing : StationMap) : (State.settleUpdate s r u doom missing).ctl.members = s.ctl.members :=
  (State.settleUpdate_within s r u doom missing).2.2.1
@[simp] theorem State.settleUpdate_ctl_guardSet (s : State) (r : Region) (u : UpdateEntry) (doom : Doom) (missing : StationMap) : (State.settleUpdate s r u doom missing).ctl.guardSet = s.ctl.guardSet :=
  (State.settleUpdate_within s r u doom missing).2.2.2.1
@[simp] theorem State.settleUpdate_ctl_state (s : State) (r : Region) (u : UpdateEntry) (doom : Doom) (missing : StationMap) : (State.settleUpdate s r u doom missing).ctl.state = s.ctl.state :=
  (State.settleUpdate_within s r u doom missing).2.2.2.2.1
@[simp] theorem State.settleUpdate_ctl_beaconDue (s : State) (r : Region) (u : UpdateEntry) (doom : Doom) (missing : StationMap) : (State.settleUpdate s r u doom missing).ctl.beaconDue = s.ctl.beaconDue :=
  (State.settleUpdate_within s r u doom missing).2.2.2.2.2.1
@[simp] theorem State.settleUpdate_ctl_beaconTimer (s : State) (r : Region) (u : UpdateEntry) (doom : Doom) (missing : StationMap) : (State.settleUpdate s r u doom missing).ctl.beaconTimer = s.ctl.beaconTimer :=
  (State.settleUpdate_within s r u doom missing).2.2.2.2.2.2.1
@[simp] theorem State.settleUpdate_ctl_joining (s : State) (r : Region) (u : UpdateEntry) (doom : Doom) (missing : StationMap) : (State.settleUpdate s r u doom missing).ctl.joining = s.ctl.joining :=
  (State.settleUpdate_within s r u doom missing).2.2.2.2.2.2.2

/-- Parts of its blocks that `ownUpdateEnd` keeps. -/
theorem State.ownUpdateEnd_within (s : State) (ack : StationMap) :
    (State.ownUpdateEnd s ack).ctl.number = s.ctl.number ∧ (State.ownUpdateEnd s ack).ctl.rate = s.ctl.rate ∧ (State.ownUpdateEnd s ack).ctl.members = s.ctl.members ∧ (State.ownUpdateEnd s ack).ctl.guardSet = s.ctl.guardSet ∧ (State.ownUpdateEnd s ack).ctl.state = s.ctl.state ∧ (State.ownUpdateEnd s ack).ctl.beaconDue = s.ctl.beaconDue ∧ (State.ownUpdateEnd s ack).ctl.beaconTimer = s.ctl.beaconTimer ∧ (State.ownUpdateEnd s ack).ctl.joining = s.ctl.joining ∧ (State.ownUpdateEnd s ack).line.rx = s.line.rx ∧ (State.ownUpdateEnd s ack).line.strangers = s.line.strangers := by
  unfold State.ownUpdateEnd; (repeat' (first | split | dsimp only)) <;> simp
@[simp] theorem State.ownUpdateEnd_ctl_number (s : State) (ack : StationMap) : (State.ownUpdateEnd s ack).ctl.number = s.ctl.number :=
  (State.ownUpdateEnd_within s ack).1
@[simp] theorem State.ownUpdateEnd_ctl_rate (s : State) (ack : StationMap) : (State.ownUpdateEnd s ack).ctl.rate = s.ctl.rate :=
  (State.ownUpdateEnd_within s ack).2.1
@[simp] theorem State.ownUpdateEnd_ctl_members (s : State) (ack : StationMap) : (State.ownUpdateEnd s ack).ctl.members = s.ctl.members :=
  (State.ownUpdateEnd_within s ack).2.2.1
@[simp] theorem State.ownUpdateEnd_ctl_guardSet (s : State) (ack : StationMap) : (State.ownUpdateEnd s ack).ctl.guardSet = s.ctl.guardSet :=
  (State.ownUpdateEnd_within s ack).2.2.2.1
@[simp] theorem State.ownUpdateEnd_ctl_state (s : State) (ack : StationMap) : (State.ownUpdateEnd s ack).ctl.state = s.ctl.state :=
  (State.ownUpdateEnd_within s ack).2.2.2.2.1
@[simp] theorem State.ownUpdateEnd_ctl_beaconDue (s : State) (ack : StationMap) : (State.ownUpdateEnd s ack).ctl.beaconDue = s.ctl.beaconDue :=
  (State.ownUpdateEnd_within s ack).2.2.2.2.2.1
@[simp] theorem State.ownUpdateEnd_ctl_beaconTimer (s : State) (ack : StationMap) : (State.ownUpdateEnd s ack).ctl.beaconTimer = s.ctl.beaconTimer :=
  (State.ownUpdateEnd_within s ack).2.2.2.2.2.2.1
@[simp] theorem State.ownUpdateEnd_ctl_joining (s : State) (ack : StationMap) : (State.ownUpdateEnd s ack).ctl.joining = s.ctl.joining :=
  (State.ownUpdateEnd_within s ack).2.2.2.2.2.2.2.1
@[simp] theorem State.ownUpdateEnd_line_rx (s : State) (ack : StationMap) : (State.ownUpdateEnd s ack).line.rx = s.line.rx :=
  (State.ownUpdateEnd_within s ack).2.2.2.2.2.2.2.2.1
@[simp] theorem State.ownUpdateEnd_line_strangers (s : State) (ack : StationMap) : (State.ownUpdateEnd s ack).line.strangers = s.line.strangers :=
  (State.ownUpdateEnd_within s ack).2.2.2.2.2.2.2.2.2

/-- Parts of its blocks that `imageAcked` keeps. -/
theorem State.imageAcked_within (s : State) (v : ServingRecord) (i : ImageEntry) (ack : StationMap) :
    (State.imageAcked s v i ack).nv.array = s.nv.array ∧ (State.imageAcked s v i ack).nv.setup = s.nv.setup ∧ (State.imageAcked s v i ack).nv.intent = s.nv.intent ∧ (State.imageAcked s v i ack).ctl.number = s.ctl.number ∧ (State.imageAcked s v i ack).ctl.rate = s.ctl.rate ∧ (State.imageAcked s v i ack).ctl.members = s.ctl.members ∧ (State.imageAcked s v i ack).ctl.guardSet = s.ctl.guardSet ∧ (State.imageAcked s v i ack).ctl.state = s.ctl.state ∧ (State.imageAcked s v i ack).ctl.beaconDue = s.ctl.beaconDue ∧ (State.imageAcked s v i ack).ctl.beaconTimer = s.ctl.beaconTimer ∧ (State.imageAcked s v i ack).ctl.joining = s.ctl.joining ∧ (∀ (q : Nat) (hq : q < 64), (State.imageAcked s v i ack).table[q].stamp = s.table[q].stamp) := by
  unfold State.imageAcked; (repeat' (first | split | dsimp only)) <;> simp
@[simp] theorem State.imageAcked_nv_array (s : State) (v : ServingRecord) (i : ImageEntry) (ack : StationMap) : (State.imageAcked s v i ack).nv.array = s.nv.array :=
  (State.imageAcked_within s v i ack).1
@[simp] theorem State.imageAcked_nv_setup (s : State) (v : ServingRecord) (i : ImageEntry) (ack : StationMap) : (State.imageAcked s v i ack).nv.setup = s.nv.setup :=
  (State.imageAcked_within s v i ack).2.1
@[simp] theorem State.imageAcked_nv_intent (s : State) (v : ServingRecord) (i : ImageEntry) (ack : StationMap) : (State.imageAcked s v i ack).nv.intent = s.nv.intent :=
  (State.imageAcked_within s v i ack).2.2.1
@[simp] theorem State.imageAcked_ctl_number (s : State) (v : ServingRecord) (i : ImageEntry) (ack : StationMap) : (State.imageAcked s v i ack).ctl.number = s.ctl.number :=
  (State.imageAcked_within s v i ack).2.2.2.1
@[simp] theorem State.imageAcked_ctl_rate (s : State) (v : ServingRecord) (i : ImageEntry) (ack : StationMap) : (State.imageAcked s v i ack).ctl.rate = s.ctl.rate :=
  (State.imageAcked_within s v i ack).2.2.2.2.1
@[simp] theorem State.imageAcked_ctl_members (s : State) (v : ServingRecord) (i : ImageEntry) (ack : StationMap) : (State.imageAcked s v i ack).ctl.members = s.ctl.members :=
  (State.imageAcked_within s v i ack).2.2.2.2.2.1
@[simp] theorem State.imageAcked_ctl_guardSet (s : State) (v : ServingRecord) (i : ImageEntry) (ack : StationMap) : (State.imageAcked s v i ack).ctl.guardSet = s.ctl.guardSet :=
  (State.imageAcked_within s v i ack).2.2.2.2.2.2.1
@[simp] theorem State.imageAcked_ctl_state (s : State) (v : ServingRecord) (i : ImageEntry) (ack : StationMap) : (State.imageAcked s v i ack).ctl.state = s.ctl.state :=
  (State.imageAcked_within s v i ack).2.2.2.2.2.2.2.1
@[simp] theorem State.imageAcked_ctl_beaconDue (s : State) (v : ServingRecord) (i : ImageEntry) (ack : StationMap) : (State.imageAcked s v i ack).ctl.beaconDue = s.ctl.beaconDue :=
  (State.imageAcked_within s v i ack).2.2.2.2.2.2.2.2.1
@[simp] theorem State.imageAcked_ctl_beaconTimer (s : State) (v : ServingRecord) (i : ImageEntry) (ack : StationMap) : (State.imageAcked s v i ack).ctl.beaconTimer = s.ctl.beaconTimer :=
  (State.imageAcked_within s v i ack).2.2.2.2.2.2.2.2.2.1
@[simp] theorem State.imageAcked_ctl_joining (s : State) (v : ServingRecord) (i : ImageEntry) (ack : StationMap) : (State.imageAcked s v i ack).ctl.joining = s.ctl.joining :=
  (State.imageAcked_within s v i ack).2.2.2.2.2.2.2.2.2.2.1
@[simp] theorem State.imageAcked_stamp (s : State) (v : ServingRecord) (i : ImageEntry) (ack : StationMap) (q : Nat) (hq : q < 64) : (State.imageAcked s v i ack).table[q].stamp = s.table[q].stamp :=
  (State.imageAcked_within s v i ack).2.2.2.2.2.2.2.2.2.2.2 q hq

/-- Parts of its blocks that `ownImageEnd` keeps. -/
theorem State.ownImageEnd_within (s : State) (ack : StationMap) :
    (State.ownImageEnd s ack).nv.array = s.nv.array ∧ (State.ownImageEnd s ack).nv.setup = s.nv.setup ∧ (State.ownImageEnd s ack).nv.intent = s.nv.intent ∧ (State.ownImageEnd s ack).ctl.number = s.ctl.number ∧ (State.ownImageEnd s ack).ctl.rate = s.ctl.rate ∧ (State.ownImageEnd s ack).ctl.members = s.ctl.members ∧ (State.ownImageEnd s ack).ctl.guardSet = s.ctl.guardSet ∧ (State.ownImageEnd s ack).ctl.state = s.ctl.state ∧ (State.ownImageEnd s ack).ctl.beaconDue = s.ctl.beaconDue ∧ (State.ownImageEnd s ack).ctl.beaconTimer = s.ctl.beaconTimer ∧ (State.ownImageEnd s ack).ctl.joining = s.ctl.joining ∧ (State.ownImageEnd s ack).line.rx = s.line.rx ∧ (State.ownImageEnd s ack).line.strangers = s.line.strangers ∧ (∀ (q : Nat) (hq : q < 64), (State.ownImageEnd s ack).table[q].stamp = s.table[q].stamp) := by
  unfold State.ownImageEnd; (repeat' (first | split | dsimp only)) <;> simp
@[simp] theorem State.ownImageEnd_nv_array (s : State) (ack : StationMap) : (State.ownImageEnd s ack).nv.array = s.nv.array :=
  (State.ownImageEnd_within s ack).1
@[simp] theorem State.ownImageEnd_nv_setup (s : State) (ack : StationMap) : (State.ownImageEnd s ack).nv.setup = s.nv.setup :=
  (State.ownImageEnd_within s ack).2.1
@[simp] theorem State.ownImageEnd_nv_intent (s : State) (ack : StationMap) : (State.ownImageEnd s ack).nv.intent = s.nv.intent :=
  (State.ownImageEnd_within s ack).2.2.1
@[simp] theorem State.ownImageEnd_ctl_number (s : State) (ack : StationMap) : (State.ownImageEnd s ack).ctl.number = s.ctl.number :=
  (State.ownImageEnd_within s ack).2.2.2.1
@[simp] theorem State.ownImageEnd_ctl_rate (s : State) (ack : StationMap) : (State.ownImageEnd s ack).ctl.rate = s.ctl.rate :=
  (State.ownImageEnd_within s ack).2.2.2.2.1
@[simp] theorem State.ownImageEnd_ctl_members (s : State) (ack : StationMap) : (State.ownImageEnd s ack).ctl.members = s.ctl.members :=
  (State.ownImageEnd_within s ack).2.2.2.2.2.1
@[simp] theorem State.ownImageEnd_ctl_guardSet (s : State) (ack : StationMap) : (State.ownImageEnd s ack).ctl.guardSet = s.ctl.guardSet :=
  (State.ownImageEnd_within s ack).2.2.2.2.2.2.1
@[simp] theorem State.ownImageEnd_ctl_state (s : State) (ack : StationMap) : (State.ownImageEnd s ack).ctl.state = s.ctl.state :=
  (State.ownImageEnd_within s ack).2.2.2.2.2.2.2.1
@[simp] theorem State.ownImageEnd_ctl_beaconDue (s : State) (ack : StationMap) : (State.ownImageEnd s ack).ctl.beaconDue = s.ctl.beaconDue :=
  (State.ownImageEnd_within s ack).2.2.2.2.2.2.2.2.1
@[simp] theorem State.ownImageEnd_ctl_beaconTimer (s : State) (ack : StationMap) : (State.ownImageEnd s ack).ctl.beaconTimer = s.ctl.beaconTimer :=
  (State.ownImageEnd_within s ack).2.2.2.2.2.2.2.2.2.1
@[simp] theorem State.ownImageEnd_ctl_joining (s : State) (ack : StationMap) : (State.ownImageEnd s ack).ctl.joining = s.ctl.joining :=
  (State.ownImageEnd_within s ack).2.2.2.2.2.2.2.2.2.2.1
@[simp] theorem State.ownImageEnd_line_rx (s : State) (ack : StationMap) : (State.ownImageEnd s ack).line.rx = s.line.rx :=
  (State.ownImageEnd_within s ack).2.2.2.2.2.2.2.2.2.2.2.1
@[simp] theorem State.ownImageEnd_line_strangers (s : State) (ack : StationMap) : (State.ownImageEnd s ack).line.strangers = s.line.strangers :=
  (State.ownImageEnd_within s ack).2.2.2.2.2.2.2.2.2.2.2.2.1
@[simp] theorem State.ownImageEnd_stamp (s : State) (ack : StationMap) (q : Nat) (hq : q < 64) : (State.ownImageEnd s ack).table[q].stamp = s.table[q].stamp :=
  (State.ownImageEnd_within s ack).2.2.2.2.2.2.2.2.2.2.2.2.2 q hq

end Sys2Proof.Machine
end

