-- ==== Sys2Proof/Laws/TimersWithin.lean ====
section
/-! SUPPORT. What each operation of Machine/Timers.lean leaves as it is within the blocks it changes. -/

namespace Sys2Proof.Machine

/-- Parts of its blocks that `silence` keeps. -/
theorem State.silence_within (s : State) (n : Station) :
    (State.silence s n).nv.array = s.nv.array ∧ (State.silence s n).nv.setup = s.nv.setup ∧ (State.silence s n).nv.intent = s.nv.intent ∧ (State.silence s n).ctl.number = s.ctl.number ∧ (State.silence s n).ctl.rate = s.ctl.rate ∧ (State.silence s n).ctl.members = s.ctl.members ∧ (State.silence s n).ctl.guardSet = s.ctl.guardSet ∧ (State.silence s n).ctl.beaconDue = s.ctl.beaconDue ∧ (State.silence s n).ctl.beaconTimer = s.ctl.beaconTimer ∧ (State.silence s n).ctl.joining = s.ctl.joining ∧ (State.silence s n).roster.lastAck = s.roster.lastAck ∧ (State.silence s n).roster.cursor = s.roster.cursor ∧ (∀ (q : Nat) (hq : q < 64), (State.silence s n).table[q].stamp = s.table[q].stamp) := by
  unfold State.silence; (repeat' (first | split | dsimp only)) <;> simp
@[simp] theorem State.silence_nv_array (s : State) (n : Station) : (State.silence s n).nv.array = s.nv.array :=
  (State.silence_within s n).1
@[simp] theorem State.silence_nv_setup (s : State) (n : Station) : (State.silence s n).nv.setup = s.nv.setup :=
  (State.silence_within s n).2.1
@[simp] theorem State.silence_nv_intent (s : State) (n : Station) : (State.silence s n).nv.intent = s.nv.intent :=
  (State.silence_within s n).2.2.1
@[simp] theorem State.silence_ctl_number (s : State) (n : Station) : (State.silence s n).ctl.number = s.ctl.number :=
  (State.silence_within s n).2.2.2.1
@[simp] theorem State.silence_ctl_rate (s : State) (n : Station) : (State.silence s n).ctl.rate = s.ctl.rate :=
  (State.silence_within s n).2.2.2.2.1
@[simp] theorem State.silence_ctl_members (s : State) (n : Station) : (State.silence s n).ctl.members = s.ctl.members :=
  (State.silence_within s n).2.2.2.2.2.1
@[simp] theorem State.silence_ctl_guardSet (s : State) (n : Station) : (State.silence s n).ctl.guardSet = s.ctl.guardSet :=
  (State.silence_within s n).2.2.2.2.2.2.1
@[simp] theorem State.silence_ctl_beaconDue (s : State) (n : Station) : (State.silence s n).ctl.beaconDue = s.ctl.beaconDue :=
  (State.silence_within s n).2.2.2.2.2.2.2.1
@[simp] theorem State.silence_ctl_beaconTimer (s : State) (n : Station) : (State.silence s n).ctl.beaconTimer = s.ctl.beaconTimer :=
  (State.silence_within s n).2.2.2.2.2.2.2.2.1
@[simp] theorem State.silence_ctl_joining (s : State) (n : Station) : (State.silence s n).ctl.joining = s.ctl.joining :=
  (State.silence_within s n).2.2.2.2.2.2.2.2.2.1
@[simp] theorem State.silence_roster_lastAck (s : State) (n : Station) : (State.silence s n).roster.lastAck = s.roster.lastAck :=
  (State.silence_within s n).2.2.2.2.2.2.2.2.2.2.1
@[simp] theorem State.silence_roster_cursor (s : State) (n : Station) : (State.silence s n).roster.cursor = s.roster.cursor :=
  (State.silence_within s n).2.2.2.2.2.2.2.2.2.2.2.1
@[simp] theorem State.silence_stamp (s : State) (n : Station) (q : Nat) (hq : q < 64) : (State.silence s n).table[q].stamp = s.table[q].stamp :=
  (State.silence_within s n).2.2.2.2.2.2.2.2.2.2.2.2 q hq

/-- Parts of its blocks that `fallSilent` keeps. -/
theorem State.fallSilent_within (s : State) (n : Station) :
    (State.fallSilent s n).nv.array = s.nv.array ∧ (State.fallSilent s n).nv.setup = s.nv.setup ∧ (State.fallSilent s n).nv.intent = s.nv.intent ∧ (State.fallSilent s n).ctl.number = s.ctl.number ∧ (State.fallSilent s n).ctl.rate = s.ctl.rate ∧ (State.fallSilent s n).ctl.members = s.ctl.members ∧ (State.fallSilent s n).ctl.guardSet = s.ctl.guardSet ∧ (State.fallSilent s n).ctl.beaconDue = s.ctl.beaconDue ∧ (State.fallSilent s n).ctl.beaconTimer = s.ctl.beaconTimer ∧ (State.fallSilent s n).ctl.joining = s.ctl.joining ∧ (State.fallSilent s n).roster.lastAck = s.roster.lastAck ∧ (State.fallSilent s n).roster.cursor = s.roster.cursor ∧ (∀ (q : Nat) (hq : q < 64), (State.fallSilent s n).table[q].stamp = s.table[q].stamp) := by
  unfold State.fallSilent; (repeat' (first | split | dsimp only)) <;> simp
@[simp] theorem State.fallSilent_nv_array (s : State) (n : Station) : (State.fallSilent s n).nv.array = s.nv.array :=
  (State.fallSilent_within s n).1
@[simp] theorem State.fallSilent_nv_setup (s : State) (n : Station) : (State.fallSilent s n).nv.setup = s.nv.setup :=
  (State.fallSilent_within s n).2.1
@[simp] theorem State.fallSilent_nv_intent (s : State) (n : Station) : (State.fallSilent s n).nv.intent = s.nv.intent :=
  (State.fallSilent_within s n).2.2.1
@[simp] theorem State.fallSilent_ctl_number (s : State) (n : Station) : (State.fallSilent s n).ctl.number = s.ctl.number :=
  (State.fallSilent_within s n).2.2.2.1
@[simp] theorem State.fallSilent_ctl_rate (s : State) (n : Station) : (State.fallSilent s n).ctl.rate = s.ctl.rate :=
  (State.fallSilent_within s n).2.2.2.2.1
@[simp] theorem State.fallSilent_ctl_members (s : State) (n : Station) : (State.fallSilent s n).ctl.members = s.ctl.members :=
  (State.fallSilent_within s n).2.2.2.2.2.1
@[simp] theorem State.fallSilent_ctl_guardSet (s : State) (n : Station) : (State.fallSilent s n).ctl.guardSet = s.ctl.guardSet :=
  (State.fallSilent_within s n).2.2.2.2.2.2.1
@[simp] theorem State.fallSilent_ctl_beaconDue (s : State) (n : Station) : (State.fallSilent s n).ctl.beaconDue = s.ctl.beaconDue :=
  (State.fallSilent_within s n).2.2.2.2.2.2.2.1
@[simp] theorem State.fallSilent_ctl_beaconTimer (s : State) (n : Station) : (State.fallSilent s n).ctl.beaconTimer = s.ctl.beaconTimer :=
  (State.fallSilent_within s n).2.2.2.2.2.2.2.2.1
@[simp] theorem State.fallSilent_ctl_joining (s : State) (n : Station) : (State.fallSilent s n).ctl.joining = s.ctl.joining :=
  (State.fallSilent_within s n).2.2.2.2.2.2.2.2.2.1
@[simp] theorem State.fallSilent_roster_lastAck (s : State) (n : Station) : (State.fallSilent s n).roster.lastAck = s.roster.lastAck :=
  (State.fallSilent_within s n).2.2.2.2.2.2.2.2.2.2.1
@[simp] theorem State.fallSilent_roster_cursor (s : State) (n : Station) : (State.fallSilent s n).roster.cursor = s.roster.cursor :=
  (State.fallSilent_within s n).2.2.2.2.2.2.2.2.2.2.2.1
@[simp] theorem State.fallSilent_stamp (s : State) (n : Station) (q : Nat) (hq : q < 64) : (State.fallSilent s n).table[q].stamp = s.table[q].stamp :=
  (State.fallSilent_within s n).2.2.2.2.2.2.2.2.2.2.2.2 q hq

/-- Parts of its blocks that `fallAbsent` keeps. -/
theorem State.fallAbsent_within (s : State) (n : Station) :
    (State.fallAbsent s n).nv.array = s.nv.array ∧ (State.fallAbsent s n).nv.setup = s.nv.setup ∧ (State.fallAbsent s n).nv.intent = s.nv.intent ∧ (State.fallAbsent s n).ctl.number = s.ctl.number ∧ (State.fallAbsent s n).ctl.rate = s.ctl.rate ∧ (State.fallAbsent s n).ctl.members = s.ctl.members ∧ (State.fallAbsent s n).ctl.guardSet = s.ctl.guardSet ∧ (State.fallAbsent s n).ctl.beaconDue = s.ctl.beaconDue ∧ (State.fallAbsent s n).ctl.beaconTimer = s.ctl.beaconTimer ∧ (State.fallAbsent s n).ctl.joining = s.ctl.joining ∧ (State.fallAbsent s n).roster.lastAck = s.roster.lastAck ∧ (State.fallAbsent s n).roster.cursor = s.roster.cursor ∧ (∀ (q : Nat) (hq : q < 64), (State.fallAbsent s n).table[q].stamp = s.table[q].stamp) := by
  unfold State.fallAbsent; (repeat' (first | split | dsimp only)) <;> simp
@[simp] theorem State.fallAbsent_nv_array (s : State) (n : Station) : (State.fallAbsent s n).nv.array = s.nv.array :=
  (State.fallAbsent_within s n).1
@[simp] theorem State.fallAbsent_nv_setup (s : State) (n : Station) : (State.fallAbsent s n).nv.setup = s.nv.setup :=
  (State.fallAbsent_within s n).2.1
@[simp] theorem State.fallAbsent_nv_intent (s : State) (n : Station) : (State.fallAbsent s n).nv.intent = s.nv.intent :=
  (State.fallAbsent_within s n).2.2.1
@[simp] theorem State.fallAbsent_ctl_number (s : State) (n : Station) : (State.fallAbsent s n).ctl.number = s.ctl.number :=
  (State.fallAbsent_within s n).2.2.2.1
@[simp] theorem State.fallAbsent_ctl_rate (s : State) (n : Station) : (State.fallAbsent s n).ctl.rate = s.ctl.rate :=
  (State.fallAbsent_within s n).2.2.2.2.1
@[simp] theorem State.fallAbsent_ctl_members (s : State) (n : Station) : (State.fallAbsent s n).ctl.members = s.ctl.members :=
  (State.fallAbsent_within s n).2.2.2.2.2.1
@[simp] theorem State.fallAbsent_ctl_guardSet (s : State) (n : Station) : (State.fallAbsent s n).ctl.guardSet = s.ctl.guardSet :=
  (State.fallAbsent_within s n).2.2.2.2.2.2.1
@[simp] theorem State.fallAbsent_ctl_beaconDue (s : State) (n : Station) : (State.fallAbsent s n).ctl.beaconDue = s.ctl.beaconDue :=
  (State.fallAbsent_within s n).2.2.2.2.2.2.2.1
@[simp] theorem State.fallAbsent_ctl_beaconTimer (s : State) (n : Station) : (State.fallAbsent s n).ctl.beaconTimer = s.ctl.beaconTimer :=
  (State.fallAbsent_within s n).2.2.2.2.2.2.2.2.1
@[simp] theorem State.fallAbsent_ctl_joining (s : State) (n : Station) : (State.fallAbsent s n).ctl.joining = s.ctl.joining :=
  (State.fallAbsent_within s n).2.2.2.2.2.2.2.2.2.1
@[simp] theorem State.fallAbsent_roster_lastAck (s : State) (n : Station) : (State.fallAbsent s n).roster.lastAck = s.roster.lastAck :=
  (State.fallAbsent_within s n).2.2.2.2.2.2.2.2.2.2.1
@[simp] theorem State.fallAbsent_roster_cursor (s : State) (n : Station) : (State.fallAbsent s n).roster.cursor = s.roster.cursor :=
  (State.fallAbsent_within s n).2.2.2.2.2.2.2.2.2.2.2.1
@[simp] theorem State.fallAbsent_stamp (s : State) (n : Station) (q : Nat) (hq : q < 64) : (State.fallAbsent s n).table[q].stamp = s.table[q].stamp :=
  (State.fallAbsent_within s n).2.2.2.2.2.2.2.2.2.2.2.2 q hq

/-- Parts of its blocks that `joinComplete` keeps. -/
theorem State.joinComplete_within (s : State) :
    (State.joinComplete s).nv.array = s.nv.array ∧ (State.joinComplete s).nv.setup = s.nv.setup ∧ (State.joinComplete s).nv.intent = s.nv.intent ∧ (State.joinComplete s).ctl.number = s.ctl.number ∧ (State.joinComplete s).ctl.rate = s.ctl.rate ∧ (State.joinComplete s).ctl.members = s.ctl.members ∧ (State.joinComplete s).ctl.guardSet = s.ctl.guardSet ∧ (∀ (q : Nat) (hq : q < 64), (State.joinComplete s).table[q].stamp = s.table[q].stamp) := by
  unfold State.joinComplete; (repeat' (first | split | dsimp only)) <;> simp
@[simp] theorem State.joinComplete_nv_array (s : State) : (State.joinComplete s).nv.array = s.nv.array :=
  (State.joinComplete_within s).1
@[simp] theorem State.joinComplete_nv_setup (s : State) : (State.joinComplete s).nv.setup = s.nv.setup :=
  (State.joinComplete_within s).2.1
@[simp] theorem State.joinComplete_nv_intent (s : State) : (State.joinComplete s).nv.intent = s.nv.intent :=
  (State.joinComplete_within s).2.2.1
@[simp] theorem State.joinComplete_ctl_number (s : State) : (State.joinComplete s).ctl.number = s.ctl.number :=
  (State.joinComplete_within s).2.2.2.1
@[simp] theorem State.joinComplete_ctl_rate (s : State) : (State.joinComplete s).ctl.rate = s.ctl.rate :=
  (State.joinComplete_within s).2.2.2.2.1
@[simp] theorem State.joinComplete_ctl_members (s : State) : (State.joinComplete s).ctl.members = s.ctl.members :=
  (State.joinComplete_within s).2.2.2.2.2.1
@[simp] theorem State.joinComplete_ctl_guardSet (s : State) : (State.joinComplete s).ctl.guardSet = s.ctl.guardSet :=
  (State.joinComplete_within s).2.2.2.2.2.2.1
@[simp] theorem State.joinComplete_stamp (s : State) (q : Nat) (hq : q < 64) : (State.joinComplete s).table[q].stamp = s.table[q].stamp :=
  (State.joinComplete_within s).2.2.2.2.2.2.2 q hq

/-- Parts of its blocks that `cut` keeps. -/
theorem State.cut_within (s : State) :
    (State.cut s).ctl.number = s.ctl.number ∧ (State.cut s).ctl.rate = s.ctl.rate ∧ (State.cut s).ctl.members = s.ctl.members ∧ (State.cut s).ctl.guardSet = s.ctl.guardSet ∧ (State.cut s).ctl.state = s.ctl.state ∧ (State.cut s).ctl.beaconDue = s.ctl.beaconDue ∧ (State.cut s).ctl.beaconTimer = s.ctl.beaconTimer ∧ (State.cut s).ctl.joining = s.ctl.joining := by
  unfold State.cut; (repeat' (first | split | dsimp only)) <;> simp
@[simp] theorem State.cut_ctl_number (s : State) : (State.cut s).ctl.number = s.ctl.number :=
  (State.cut_within s).1
@[simp] theorem State.cut_ctl_rate (s : State) : (State.cut s).ctl.rate = s.ctl.rate :=
  (State.cut_within s).2.1
@[simp] theorem State.cut_ctl_members (s : State) : (State.cut s).ctl.members = s.ctl.members :=
  (State.cut_within s).2.2.1
@[simp] theorem State.cut_ctl_guardSet (s : State) : (State.cut s).ctl.guardSet = s.ctl.guardSet :=
  (State.cut_within s).2.2.2.1
@[simp] theorem State.cut_ctl_state (s : State) : (State.cut s).ctl.state = s.ctl.state :=
  (State.cut_within s).2.2.2.2.1
@[simp] theorem State.cut_ctl_beaconDue (s : State) : (State.cut s).ctl.beaconDue = s.ctl.beaconDue :=
  (State.cut_within s).2.2.2.2.2.1
@[simp] theorem State.cut_ctl_beaconTimer (s : State) : (State.cut s).ctl.beaconTimer = s.ctl.beaconTimer :=
  (State.cut_within s).2.2.2.2.2.2.1
@[simp] theorem State.cut_ctl_joining (s : State) : (State.cut s).ctl.joining = s.ctl.joining :=
  (State.cut_within s).2.2.2.2.2.2.2

/-- Parts of its blocks that `answerExpired` keeps. -/
theorem State.answerExpired_within (s : State) (p : PullRecord) :
    (State.answerExpired s p).nv.array = s.nv.array ∧ (State.answerExpired s p).nv.setup = s.nv.setup ∧ (State.answerExpired s p).nv.intent = s.nv.intent ∧ (State.answerExpired s p).ctl.number = s.ctl.number ∧ (State.answerExpired s p).ctl.rate = s.ctl.rate ∧ (State.answerExpired s p).ctl.members = s.ctl.members ∧ (State.answerExpired s p).ctl.guardSet = s.ctl.guardSet ∧ (State.answerExpired s p).ctl.state = s.ctl.state ∧ (State.answerExpired s p).ctl.beaconDue = s.ctl.beaconDue ∧ (State.answerExpired s p).ctl.beaconTimer = s.ctl.beaconTimer ∧ (State.answerExpired s p).ctl.joining = s.ctl.joining ∧ (∀ (q : Nat) (hq : q < 64), (State.answerExpired s p).table[q].stamp = s.table[q].stamp) := by
  unfold State.answerExpired; (repeat' (first | split | dsimp only)) <;> simp
@[simp] theorem State.answerExpired_nv_array (s : State) (p : PullRecord) : (State.answerExpired s p).nv.array = s.nv.array :=
  (State.answerExpired_within s p).1
@[simp] theorem State.answerExpired_nv_setup (s : State) (p : PullRecord) : (State.answerExpired s p).nv.setup = s.nv.setup :=
  (State.answerExpired_within s p).2.1
@[simp] theorem State.answerExpired_nv_intent (s : State) (p : PullRecord) : (State.answerExpired s p).nv.intent = s.nv.intent :=
  (State.answerExpired_within s p).2.2.1
@[simp] theorem State.answerExpired_ctl_number (s : State) (p : PullRecord) : (State.answerExpired s p).ctl.number = s.ctl.number :=
  (State.answerExpired_within s p).2.2.2.1
@[simp] theorem State.answerExpired_ctl_rate (s : State) (p : PullRecord) : (State.answerExpired s p).ctl.rate = s.ctl.rate :=
  (State.answerExpired_within s p).2.2.2.2.1
@[simp] theorem State.answerExpired_ctl_members (s : State) (p : PullRecord) : (State.answerExpired s p).ctl.members = s.ctl.members :=
  (State.answerExpired_within s p).2.2.2.2.2.1
@[simp] theorem State.answerExpired_ctl_guardSet (s : State) (p : PullRecord) : (State.answerExpired s p).ctl.guardSet = s.ctl.guardSet :=
  (State.answerExpired_within s p).2.2.2.2.2.2.1
@[simp] theorem State.answerExpired_ctl_state (s : State) (p : PullRecord) : (State.answerExpired s p).ctl.state = s.ctl.state :=
  (State.answerExpired_within s p).2.2.2.2.2.2.2.1
@[simp] theorem State.answerExpired_ctl_beaconDue (s : State) (p : PullRecord) : (State.answerExpired s p).ctl.beaconDue = s.ctl.beaconDue :=
  (State.answerExpired_within s p).2.2.2.2.2.2.2.2.1
@[simp] theorem State.answerExpired_ctl_beaconTimer (s : State) (p : PullRecord) : (State.answerExpired s p).ctl.beaconTimer = s.ctl.beaconTimer :=
  (State.answerExpired_within s p).2.2.2.2.2.2.2.2.2.1
@[simp] theorem State.answerExpired_ctl_joining (s : State) (p : PullRecord) : (State.answerExpired s p).ctl.joining = s.ctl.joining :=
  (State.answerExpired_within s p).2.2.2.2.2.2.2.2.2.2.1
@[simp] theorem State.answerExpired_stamp (s : State) (p : PullRecord) (q : Nat) (hq : q < 64) : (State.answerExpired s p).table[q].stamp = s.table[q].stamp :=
  (State.answerExpired_within s p).2.2.2.2.2.2.2.2.2.2.2 q hq

/-- Parts of its blocks that `advanceTimers` keeps. -/
theorem State.advanceTimers_within (s : State) :
    (State.advanceTimers s).ctl.number = s.ctl.number ∧ (State.advanceTimers s).ctl.rate = s.ctl.rate ∧ (State.advanceTimers s).ctl.members = s.ctl.members ∧ (State.advanceTimers s).ctl.guardSet = s.ctl.guardSet ∧ (State.advanceTimers s).ctl.state = s.ctl.state ∧ (State.advanceTimers s).ctl.beaconDue = s.ctl.beaconDue ∧ (State.advanceTimers s).ctl.joining = s.ctl.joining ∧ (State.advanceTimers s).roster.lastAck = s.roster.lastAck ∧ (State.advanceTimers s).roster.cursor = s.roster.cursor ∧ (State.advanceTimers s).line.rx = s.line.rx ∧ (State.advanceTimers s).line.slot = s.line.slot ∧ (State.advanceTimers s).line.faults = s.line.faults := by
  simp [State.advanceTimers]
@[simp] theorem State.advanceTimers_ctl_number (s : State) : (State.advanceTimers s).ctl.number = s.ctl.number :=
  (State.advanceTimers_within s).1
@[simp] theorem State.advanceTimers_ctl_rate (s : State) : (State.advanceTimers s).ctl.rate = s.ctl.rate :=
  (State.advanceTimers_within s).2.1
@[simp] theorem State.advanceTimers_ctl_members (s : State) : (State.advanceTimers s).ctl.members = s.ctl.members :=
  (State.advanceTimers_within s).2.2.1
@[simp] theorem State.advanceTimers_ctl_guardSet (s : State) : (State.advanceTimers s).ctl.guardSet = s.ctl.guardSet :=
  (State.advanceTimers_within s).2.2.2.1
@[simp] theorem State.advanceTimers_ctl_state (s : State) : (State.advanceTimers s).ctl.state = s.ctl.state :=
  (State.advanceTimers_within s).2.2.2.2.1
@[simp] theorem State.advanceTimers_ctl_beaconDue (s : State) : (State.advanceTimers s).ctl.beaconDue = s.ctl.beaconDue :=
  (State.advanceTimers_within s).2.2.2.2.2.1
@[simp] theorem State.advanceTimers_ctl_joining (s : State) : (State.advanceTimers s).ctl.joining = s.ctl.joining :=
  (State.advanceTimers_within s).2.2.2.2.2.2.1
@[simp] theorem State.advanceTimers_roster_lastAck (s : State) : (State.advanceTimers s).roster.lastAck = s.roster.lastAck :=
  (State.advanceTimers_within s).2.2.2.2.2.2.2.1
@[simp] theorem State.advanceTimers_roster_cursor (s : State) : (State.advanceTimers s).roster.cursor = s.roster.cursor :=
  (State.advanceTimers_within s).2.2.2.2.2.2.2.2.1
@[simp] theorem State.advanceTimers_line_rx (s : State) : (State.advanceTimers s).line.rx = s.line.rx :=
  (State.advanceTimers_within s).2.2.2.2.2.2.2.2.2.1
@[simp] theorem State.advanceTimers_line_slot (s : State) : (State.advanceTimers s).line.slot = s.line.slot :=
  (State.advanceTimers_within s).2.2.2.2.2.2.2.2.2.2.1
@[simp] theorem State.advanceTimers_line_faults (s : State) : (State.advanceTimers s).line.faults = s.line.faults :=
  (State.advanceTimers_within s).2.2.2.2.2.2.2.2.2.2.2

/-- Parts of its blocks that `tick` keeps. -/
theorem State.tick_within (s : State) :
    (State.tick s).ctl.number = s.ctl.number ∧ (State.tick s).ctl.rate = s.ctl.rate ∧ (State.tick s).ctl.members = s.ctl.members ∧ (State.tick s).ctl.guardSet = s.ctl.guardSet ∧ (State.tick s).ctl.state = s.ctl.state ∧ (State.tick s).ctl.beaconDue = s.ctl.beaconDue ∧ (State.tick s).ctl.joining = s.ctl.joining ∧ (State.tick s).roster.lastAck = s.roster.lastAck ∧ (State.tick s).roster.cursor = s.roster.cursor ∧ (State.tick s).line.rx = s.line.rx ∧ (State.tick s).line.slot = s.line.slot ∧ (State.tick s).line.faults = s.line.faults := by
  unfold State.tick State.whenOn
  split <;> simp
@[simp] theorem State.tick_ctl_number (s : State) : (State.tick s).ctl.number = s.ctl.number :=
  (State.tick_within s).1
@[simp] theorem State.tick_ctl_rate (s : State) : (State.tick s).ctl.rate = s.ctl.rate :=
  (State.tick_within s).2.1
@[simp] theorem State.tick_ctl_members (s : State) : (State.tick s).ctl.members = s.ctl.members :=
  (State.tick_within s).2.2.1
@[simp] theorem State.tick_ctl_guardSet (s : State) : (State.tick s).ctl.guardSet = s.ctl.guardSet :=
  (State.tick_within s).2.2.2.1
@[simp] theorem State.tick_ctl_state (s : State) : (State.tick s).ctl.state = s.ctl.state :=
  (State.tick_within s).2.2.2.2.1
@[simp] theorem State.tick_ctl_beaconDue (s : State) : (State.tick s).ctl.beaconDue = s.ctl.beaconDue :=
  (State.tick_within s).2.2.2.2.2.1
@[simp] theorem State.tick_ctl_joining (s : State) : (State.tick s).ctl.joining = s.ctl.joining :=
  (State.tick_within s).2.2.2.2.2.2.1
@[simp] theorem State.tick_roster_lastAck (s : State) : (State.tick s).roster.lastAck = s.roster.lastAck :=
  (State.tick_within s).2.2.2.2.2.2.2.1
@[simp] theorem State.tick_roster_cursor (s : State) : (State.tick s).roster.cursor = s.roster.cursor :=
  (State.tick_within s).2.2.2.2.2.2.2.2.1
@[simp] theorem State.tick_line_rx (s : State) : (State.tick s).line.rx = s.line.rx :=
  (State.tick_within s).2.2.2.2.2.2.2.2.2.1
@[simp] theorem State.tick_line_slot (s : State) : (State.tick s).line.slot = s.line.slot :=
  (State.tick_within s).2.2.2.2.2.2.2.2.2.2.1
@[simp] theorem State.tick_line_faults (s : State) : (State.tick s).line.faults = s.line.faults :=
  (State.tick_within s).2.2.2.2.2.2.2.2.2.2.2

end Sys2Proof.Machine
end

