-- ==== Sys2Proof/Laws/ResetsWithin.lean ====
section
/-! SUPPORT. What each operation of Machine/Resets.lean leaves as it is within the blocks it changes. -/

namespace Sys2Proof.Machine

/-- Parts of its blocks that `cutWrite` keeps. -/
theorem State.cutWrite_within (s : State) :
    (State.cutWrite s).nv.regions = s.nv.regions ∧ (State.cutWrite s).nv.setup = s.nv.setup ∧ (State.cutWrite s).nv.intent = s.nv.intent := by
  unfold State.cutWrite; (repeat' (first | split | dsimp only)) <;> simp
@[simp] theorem State.cutWrite_nv_regions (s : State) : (State.cutWrite s).nv.regions = s.nv.regions :=
  (State.cutWrite_within s).1
@[simp] theorem State.cutWrite_nv_setup (s : State) : (State.cutWrite s).nv.setup = s.nv.setup :=
  (State.cutWrite_within s).2.1
@[simp] theorem State.cutWrite_nv_intent (s : State) : (State.cutWrite s).nv.intent = s.nv.intent :=
  (State.cutWrite_within s).2.2

/-- Parts of its blocks that `cutSetup` keeps. -/
theorem State.cutSetup_within (s : State) :
    (State.cutSetup s).nv.array = s.nv.array ∧ (State.cutSetup s).nv.regions = s.nv.regions ∧ (State.cutSetup s).nv.intent = s.nv.intent := by
  unfold State.cutSetup; (repeat' (first | split | dsimp only)) <;> simp
@[simp] theorem State.cutSetup_nv_array (s : State) : (State.cutSetup s).nv.array = s.nv.array :=
  (State.cutSetup_within s).1
@[simp] theorem State.cutSetup_nv_regions (s : State) : (State.cutSetup s).nv.regions = s.nv.regions :=
  (State.cutSetup_within s).2.1
@[simp] theorem State.cutSetup_nv_intent (s : State) : (State.cutSetup s).nv.intent = s.nv.intent :=
  (State.cutSetup_within s).2.2

/-- Parts of its blocks that `losePower` keeps. -/
theorem State.losePower_within (s : State) :
    (State.losePower s).nv.regions = s.nv.regions ∧ (State.losePower s).nv.intent = s.nv.intent ∧ (State.losePower s).ctl.number = s.ctl.number ∧ (State.losePower s).ctl.rate = s.ctl.rate ∧ (State.losePower s).ctl.members = s.ctl.members ∧ (State.losePower s).ctl.guardSet = s.ctl.guardSet := by
  unfold State.losePower; (repeat' (first | split | dsimp only)) <;> simp
@[simp] theorem State.losePower_nv_regions (s : State) : (State.losePower s).nv.regions = s.nv.regions :=
  (State.losePower_within s).1
@[simp] theorem State.losePower_nv_intent (s : State) : (State.losePower s).nv.intent = s.nv.intent :=
  (State.losePower_within s).2.1
@[simp] theorem State.losePower_ctl_number (s : State) : (State.losePower s).ctl.number = s.ctl.number :=
  (State.losePower_within s).2.2.1
@[simp] theorem State.losePower_ctl_rate (s : State) : (State.losePower s).ctl.rate = s.ctl.rate :=
  (State.losePower_within s).2.2.2.1
@[simp] theorem State.losePower_ctl_members (s : State) : (State.losePower s).ctl.members = s.ctl.members :=
  (State.losePower_within s).2.2.2.2.1
@[simp] theorem State.losePower_ctl_guardSet (s : State) : (State.losePower s).ctl.guardSet = s.ctl.guardSet :=
  (State.losePower_within s).2.2.2.2.2

/-- Parts of its blocks that `assertReset` keeps. -/
theorem State.assertReset_within (s : State) :
    (State.assertReset s).nv.array = s.nv.array ∧ (State.assertReset s).nv.regions = s.nv.regions ∧ (State.assertReset s).nv.setup = s.nv.setup ∧ (State.assertReset s).nv.intent = s.nv.intent ∧ (State.assertReset s).ctl.number = s.ctl.number ∧ (State.assertReset s).ctl.rate = s.ctl.rate ∧ (State.assertReset s).ctl.members = s.ctl.members ∧ (State.assertReset s).ctl.guardSet = s.ctl.guardSet := by
  unfold State.assertReset; (repeat' (first | split | dsimp only)) <;> simp
@[simp] theorem State.assertReset_nv_array (s : State) : (State.assertReset s).nv.array = s.nv.array :=
  (State.assertReset_within s).1
@[simp] theorem State.assertReset_nv_regions (s : State) : (State.assertReset s).nv.regions = s.nv.regions :=
  (State.assertReset_within s).2.1
@[simp] theorem State.assertReset_nv_setup (s : State) : (State.assertReset s).nv.setup = s.nv.setup :=
  (State.assertReset_within s).2.2.1
@[simp] theorem State.assertReset_nv_intent (s : State) : (State.assertReset s).nv.intent = s.nv.intent :=
  (State.assertReset_within s).2.2.2.1
@[simp] theorem State.assertReset_ctl_number (s : State) : (State.assertReset s).ctl.number = s.ctl.number :=
  (State.assertReset_within s).2.2.2.2.1
@[simp] theorem State.assertReset_ctl_rate (s : State) : (State.assertReset s).ctl.rate = s.ctl.rate :=
  (State.assertReset_within s).2.2.2.2.2.1
@[simp] theorem State.assertReset_ctl_members (s : State) : (State.assertReset s).ctl.members = s.ctl.members :=
  (State.assertReset_within s).2.2.2.2.2.2.1
@[simp] theorem State.assertReset_ctl_guardSet (s : State) : (State.assertReset s).ctl.guardSet = s.ctl.guardSet :=
  (State.assertReset_within s).2.2.2.2.2.2.2

/-- Parts of its blocks that `releaseReset` keeps. -/
theorem State.releaseReset_within (s : State) (straps : Straps) :
    (State.releaseReset s straps).nv.array = s.nv.array ∧ (State.releaseReset s straps).nv.setup = s.nv.setup := by
  unfold State.releaseReset; (repeat' (first | split | dsimp only)) <;> simp
@[simp] theorem State.releaseReset_nv_array (s : State) (straps : Straps) : (State.releaseReset s straps).nv.array = s.nv.array :=
  (State.releaseReset_within s straps).1
@[simp] theorem State.releaseReset_nv_setup (s : State) (straps : Straps) : (State.releaseReset s straps).nv.setup = s.nv.setup :=
  (State.releaseReset_within s straps).2

end Sys2Proof.Machine
end

