-- ==== Sys2Proof/Laws/EventsOk.lean ====
section
/-! SUPPORT. The form of the event queue (R184, R185) is kept by every operation that posts. -/

namespace Sys2Proof.Machine

/-- A fold keeps a property that each of its steps keeps. -/
theorem foldl_preserves {α β : Type} (P : β → Prop) (f : β → α → β) (h : ∀ t x, P t → P (f t x)) (l : List α) (s : β)
    (hs : P s) : P (l.foldl f s) := by
  induction l generalizing s with
  | nil => exact hs
  | cons x xs ih => exact ih _ (h _ _ hs)

/-- The form of the event queue, taken apart at its newest record. -/
theorem eventsOk_concat (q : List Event) (e : Event) :
    eventsOk (q ++ [e]) = true ↔ q.length ≤ Config.eventLimit ∧ (∀ x ∈ q, x.isOverflow = false ∧ x.countOk = true)
      ∧ e.countOk = true ∧ (q.length < Config.eventLimit ∨ e.isOverflow = true) := by
  simp only [eventsOk, List.dropLast_concat, List.all_append, List.getLast?_concat, Bool.and_eq_true, decide_eq_true_eq,
    List.all_eq_true, List.length_append, List.length_singleton, Option.any_some, Bool.not_eq_true', List.mem_singleton,
    forall_eq]
  constructor
  · rintro ⟨⟨⟨h1, h2⟩, h3, h4⟩, h5⟩
    exact ⟨h1, fun x hx => ⟨h2 x hx, h3 x hx⟩, h4, by rcases h5 with h5 | h5 <;> [exact Or.inl (by omega); exact Or.inr h5]⟩
  · rintro ⟨h1, h2, h3, h4⟩
    exact ⟨⟨⟨h1, fun x hx => (h2 x hx).1⟩, fun x hx => (h2 x hx).2, h3⟩, by rcases h4 with h4 | h4 <;> [exact Or.inl (by omega); exact Or.inr h4]⟩

/-- Posting keeps the form of the queue (R185). The event posted is no OVERFLOW record. -/
theorem postTo_eventsOk (q : List Event) (e : Event) (hq : eventsOk q = true) (he : e.isOverflow = false)
    (hc : e.countOk = true) : eventsOk (postTo q e) = true := by
  rcases List.eq_nil_or_concat' q with rfl | ⟨p, x, rfl⟩
  · simp [postTo, Config.eventLimit, eventsOk, hc]
  · rw [eventsOk_concat] at hq
    obtain ⟨h1, h2, h3, h4⟩ := hq
    by_cases hx : x.isOverflow = true
    · cases x <;> simp_all [Event.isOverflow, postTo, eventsOk_concat, Event.countOk, Config.overflowLimit]
    · have hl : p.length < Config.eventLimit := by simpa [hx] using h4
      have hpt : postTo (p ++ [x]) e
          = if (p ++ [x]).length < Config.eventLimit then p ++ [x] ++ [e] else p ++ [x] ++ [.overflow 1] := by
        cases x <;> simp_all [Event.isOverflow, postTo]
      have hall : ∀ y ∈ p ++ [x], y.isOverflow = false ∧ y.countOk = true := by
        intro y hy
        rcases List.mem_append.1 hy with hy | hy
        · exact h2 y hy
        · simp_all
      rw [hpt]
      split
      · rename_i h'
        exact (eventsOk_concat _ _).2 ⟨Nat.le_of_lt h', hall, hc, Or.inl h'⟩
      · exact (eventsOk_concat _ _).2 ⟨by simpa using hl, hall, by decide, Or.inr rfl⟩

/-- Taking the oldest record keeps the form of the queue (R181). -/
theorem tail_eventsOk (e : Event) (q : List Event) (h : eventsOk (e :: q) = true) : eventsOk q = true := by
  rcases List.eq_nil_or_concat' q with rfl | ⟨p, x, rfl⟩
  · decide
  · rw [← List.cons_append, eventsOk_concat] at h
    obtain ⟨h1, h2, h3, h4⟩ := h
    simp only [List.length_cons] at h1 h4
    refine (eventsOk_concat _ _).2 ⟨by omega, fun y hy => h2 y (List.mem_cons_of_mem _ hy), h3, ?_⟩
    rcases h4 with h4 | h4
    · exact Or.inl (by omega)
    · exact Or.inr h4

@[simp] theorem Event.isOverflow_resetDone (c : ResetCause) (m : RegionMap) : Event.isOverflow (.resetDone c m) = false := rfl
@[simp] theorem Event.isOverflow_joined : Event.isOverflow (.joined) = false := rfl
@[simp] theorem Event.isOverflow_left (n : Nat) : Event.isOverflow (.left n) = false := rfl
@[simp] theorem Event.isOverflow_isolation (b : Bool) : Event.isOverflow (.isolation b) = false := rfl
@[simp] theorem Event.isOverflow_woken (r : Option Region) : Event.isOverflow (.woken r) = false := rfl
@[simp] theorem Event.isOverflow_station (n : Station) (p : Presence) : Event.isOverflow (.station n p) = false := rfl
@[simp] theorem Event.isOverflow_membersDiffer (n : Station) : Event.isOverflow (.membersDiffer n) = false := rfl
@[simp] theorem Event.isOverflow_stranger (n : Station) : Event.isOverflow (.stranger n) = false := rfl
@[simp] theorem Event.isOverflow_claimDone (r : Region) (a : StationMap) (c : ClaimSource) (l : Option LostReason) : Event.isOverflow (.claimDone r a c l) = false := rfl
@[simp] theorem Event.isOverflow_ownershipLost (r : Region) (b : Bool) : Event.isOverflow (.ownershipLost r b) = false := rfl
@[simp] theorem Event.isOverflow_fenceDone (m : StationMap) (n : Nat) : Event.isOverflow (.fenceDone m n) = false := rfl
@[simp] theorem Event.isOverflow_short (r : Region) (m : StationMap) : Event.isOverflow (.short r m) = false := rfl
@[simp] theorem Event.isOverflow_regionStale (r : Region) (c : Cause) : Event.isOverflow (.regionStale r c) = false := rfl
@[simp] theorem Event.isOverflow_regionCurrent (r : Region) : Event.isOverflow (.regionCurrent r) = false := rfl
@[simp] theorem Event.isOverflow_pullFailed (r : Region) : Event.isOverflow (.pullFailed r) = false := rfl
@[simp] theorem Event.isOverflow_stampAhead (r : Region) (n : Station) : Event.isOverflow (.stampAhead r n) = false := rfl
@[simp] theorem Event.isOverflow_halted (c : HaltCause) : Event.isOverflow (.halted c) = false := rfl

/-- Posting an event other than OVERFLOW keeps the form of the queue (R185). -/
@[simp] theorem State.post_eventsOk (s : State) (e : Event) (h : eventsOk s.events = true)
    (he : ¬ (e.isOverflow = true)) : eventsOk (s.post e).events = true :=
  postTo_eventsOk _ _ h (by simpa using he) (by cases e <;> simp_all [Event.isOverflow, Event.countOk])

@[simp] theorem State.checkFence_eventsOk (s : State) (h : eventsOk s.events = true) : eventsOk (State.checkFence s).events = true := by
  unfold State.checkFence; (repeat' (first | split | dsimp only)) <;> simp (maxDischargeDepth := 20) [h]
@[simp] theorem State.discardEntries_eventsOk (s : State) (p : OutEntry → Bool) (cut : Bool) (h : eventsOk s.events = true) : eventsOk (State.discardEntries s p cut).events = true := by
  unfold State.discardEntries; (repeat' (first | split | dsimp only)) <;> simp (maxDischargeDepth := 20) [h]
@[simp] theorem State.returnSending_eventsOk (s : State) (h : eventsOk s.events = true) : eventsOk (State.returnSending s).events = true := by
  unfold State.returnSending; (repeat' (first | split | dsimp only)) <;> simp (maxDischargeDepth := 20) [h]
@[simp] theorem State.endServing_eventsOk (s : State) (r : Region) (h : eventsOk s.events = true) : eventsOk (State.endServing s r).events = true := by
  unfold State.endServing; (repeat' (first | split | dsimp only)) <;> simp (maxDischargeDepth := 20) [h]
@[simp] theorem State.putTargets_eventsOk (s : State) (v : ServingRecord) (ts : List Target) (h : eventsOk s.events = true) : eventsOk (State.putTargets s v ts).events = true := by
  unfold State.putTargets; (repeat' (first | split | dsimp only)) <;> simp (maxDischargeDepth := 20) [h]
@[simp] theorem State.dropTarget_eventsOk (s : State) (r : Region) (n : Station) (h : eventsOk s.events = true) : eventsOk (State.dropTarget s r n).events = true := by
  unfold State.dropTarget; (repeat' (first | split | dsimp only)) <;> simp (maxDischargeDepth := 20) [h]
@[simp] theorem State.dropTargets_eventsOk (s : State) (n : Station) (h : eventsOk s.events = true) : eventsOk (State.dropTargets s n).events = true := by
  unfold State.dropTargets
  exact foldl_preserves (fun t : State => eventsOk t.events = true) _ (fun t x ht => by simp [ht]) _ _ (by simp (maxDischargeDepth := 20) [h])
@[simp] theorem State.endAllServing_eventsOk (s : State) (h : eventsOk s.events = true) : eventsOk (State.endAllServing s).events = true := by
  unfold State.endAllServing
  exact foldl_preserves (fun t : State => eventsOk t.events = true) _ (fun t x ht => by simp [ht]) _ _ (by simp (maxDischargeDepth := 20) [h])
@[simp] theorem State.restartServing_eventsOk (s : State) (r : Region) (h : eventsOk s.events = true) : eventsOk (State.restartServing s r).events = true := by
  unfold State.restartServing; (repeat' (first | split | dsimp only)) <;> simp (maxDischargeDepth := 20) [h]
@[simp] theorem State.sweepAct_eventsOk (s : State) (h : eventsOk s.events = true) : eventsOk (State.sweepAct s).1.events = true := by
  unfold State.sweepAct; (repeat' (first | split | dsimp only)) <;> simp (maxDischargeDepth := 20) [h]
@[simp] theorem State.sweepFrom_eventsOk (n : Nat) (s : State) (h : eventsOk s.events = true) : eventsOk (State.sweepFrom n s).events = true := by
  induction n generalizing s with
  | zero => simpa [State.sweepFrom] using h
  | succ n ih => unfold State.sweepFrom; (repeat' split) <;> simp (maxDischargeDepth := 20) [ih, h]
@[simp] theorem State.sweepWalk_eventsOk (s : State) (h : eventsOk s.events = true) : eventsOk (State.sweepWalk s).events = true := by
  unfold State.sweepWalk; (repeat' (first | split | dsimp only)) <;> simp (maxDischargeDepth := 20) [h]
@[simp] theorem State.postStale_eventsOk (s : State) (r : Region) (h : eventsOk s.events = true) : eventsOk (State.postStale s r).events = true := by
  unfold State.postStale; (repeat' (first | split | dsimp only)) <;> simp (maxDischargeDepth := 20) [h]
@[simp] theorem State.afterClosure_eventsOk (s : State) (r : Region) (park : Bool) (h : eventsOk s.events = true) : eventsOk (State.afterClosure s r park).events = true := by
  unfold State.afterClosure; (repeat' (first | split | dsimp only)) <;> simp (maxDischargeDepth := 20) [h]
@[simp] theorem State.closePull_eventsOk (s : State) (r : Region) (park : Bool) (h : eventsOk s.events = true) : eventsOk (State.closePull s r park).events = true := by
  unfold State.closePull; (repeat' (first | split | dsimp only)) <;> simp (maxDischargeDepth := 20) [h]
@[simp] theorem State.closeAllPulls_eventsOk (s : State) (h : eventsOk s.events = true) : eventsOk (State.closeAllPulls s).events = true := by
  unfold State.closeAllPulls
  exact foldl_preserves (fun t : State => eventsOk t.events = true) _ (fun t x ht => by simp [ht]) _ _ (by simp (maxDischargeDepth := 20) [h])
@[simp] theorem State.reportMark_eventsOk (s : State) (r : Region) (c : Cause) (h : eventsOk s.events = true) : eventsOk (State.reportMark s r c).events = true := by
  unfold State.reportMark; (repeat' (first | split | dsimp only)) <;> simp (maxDischargeDepth := 20) [h]
@[simp] theorem State.markStale_eventsOk (s : State) (r : Region) (c : Cause) (h : eventsOk s.events = true) : eventsOk (State.markStale s r c).events = true := by
  unfold State.markStale; (repeat' (first | split | dsimp only)) <;> simp (maxDischargeDepth := 20) [h]
@[simp] theorem State.surrender_eventsOk (s : State) (r : Region) (h : eventsOk s.events = true) : eventsOk (State.surrender s r).events = true := by
  unfold State.surrender; (repeat' (first | split | dsimp only)) <;> simp (maxDischargeDepth := 20) [h]
@[simp] theorem State.partOld_eventsOk (s : State) (r : Region) (self : Bool) (h : eventsOk s.events = true) : eventsOk (State.partOld s r self).events = true := by
  unfold State.partOld; (repeat' (first | split | dsimp only)) <;> simp (maxDischargeDepth := 20) [h]
@[simp] theorem State.changeOwner_eventsOk (s : State) (r : Region) (o : Option Owner) (h : eventsOk s.events = true) : eventsOk (State.changeOwner s r o).events = true := by
  unfold State.changeOwner; (repeat' (first | split | dsimp only)) <;> simp (maxDischargeDepth := 20) [h]
@[simp] theorem State.quorumCheck_eventsOk (s : State) (h : eventsOk s.events = true) : eventsOk (State.quorumCheck s).events = true := by
  unfold State.quorumCheck; (repeat' (first | split | dsimp only)) <;> simp (maxDischargeDepth := 20) [h]
@[simp] theorem State.targetsFollow_eventsOk (s : State) (n : Station) (st : Presence) (h : eventsOk s.events = true) : eventsOk (State.targetsFollow s n st).events = true := by
  unfold State.targetsFollow; (repeat' (first | split | dsimp only)) <;> simp (maxDischargeDepth := 20) [h]
@[simp] theorem State.statusChange_eventsOk (s : State) (n : Station) (st : Presence) (h : eventsOk s.events = true) : eventsOk (State.statusChange s n st).events = true := by
  unfold State.statusChange; (repeat' (first | split | dsimp only)) <;> simp (maxDischargeDepth := 20) [h]
@[simp] theorem State.followFrame_eventsOk (s : State) (f : Frame) (h : eventsOk s.events = true) : eventsOk (State.followFrame s f).events = true := by
  unfold State.followFrame; (repeat' (first | split | dsimp only)) <;> simp (maxDischargeDepth := 20) [h]
@[simp] theorem State.checkMembers_eventsOk (s : State) (f : Frame) (h : eventsOk s.events = true) : eventsOk (State.checkMembers s f).events = true := by
  unfold State.checkMembers; (repeat' (first | split | dsimp only)) <;> simp (maxDischargeDepth := 20) [h]
@[simp] theorem State.rosterHandoff_eventsOk (s : State) (f : Frame) (h : eventsOk s.events = true) : eventsOk (State.rosterHandoff s f).events = true := by
  unfold State.rosterHandoff; (repeat' (first | split | dsimp only)) <;> simp (maxDischargeDepth := 20) [h]
@[simp] theorem State.learnOwner_eventsOk (s : State) (r : Region) (o : Station) (e : Epoch) (h : eventsOk s.events = true) : eventsOk (State.learnOwner s r o e).events = true := by
  unfold State.learnOwner; (repeat' (first | split | dsimp only)) <;> simp (maxDischargeDepth := 20) [h]
@[simp] theorem State.loseConflict_eventsOk (s : State) (r : Region) (o : Station) (stamp : Stamp) (h : eventsOk s.events = true) : eventsOk (State.loseConflict s r o stamp).events = true := by
  unfold State.loseConflict; (repeat' (first | split | dsimp only)) <;> simp (maxDischargeDepth := 20) [h]
@[simp] theorem State.resolveConflict_eventsOk (s : State) (r : Region) (o : Station) (stamp : Stamp) (h : eventsOk s.events = true) : eventsOk (State.resolveConflict s r o stamp).events = true := by
  unfold State.resolveConflict; (repeat' (first | split | dsimp only)) <;> simp (maxDischargeDepth := 20) [h]
@[simp] theorem State.claimCopy_eventsOk (s : State) (r : Region) (stamp : Stamp) (h : eventsOk s.events = true) : eventsOk (State.claimCopy s r stamp).events = true := by
  unfold State.claimCopy; (repeat' (first | split | dsimp only)) <;> simp (maxDischargeDepth := 20) [h]
@[simp] theorem State.yielded_eventsOk (s : State) (r : Region) (former : Bool) (h : eventsOk s.events = true) : eventsOk (State.yielded s r former).events = true := by
  unfold State.yielded; (repeat' (first | split | dsimp only)) <;> simp (maxDischargeDepth := 20) [h]
@[simp] theorem State.claimOwner_eventsOk (s : State) (c : Station) (r : Region) (stamp : Stamp) (h : eventsOk s.events = true) : eventsOk (State.claimOwner s c r stamp).events = true := by
  unfold State.claimOwner; (repeat' (first | split | dsimp only)) <;> simp (maxDischargeDepth := 20) [h]
@[simp] theorem State.applyClaim_eventsOk (s : State) (c : Station) (r : Region) (stamp : Stamp) (h : eventsOk s.events = true) : eventsOk (State.applyClaim s c r stamp).events = true := by
  unfold State.applyClaim; (repeat' (first | split | dsimp only)) <;> simp (maxDischargeDepth := 20) [h]
@[simp] theorem State.postStales_eventsOk (s : State) (rs : List Region) (h : eventsOk s.events = true) : eventsOk (State.postStales s rs).events = true := by
  unfold State.postStales
  exact foldl_preserves (fun t : State => eventsOk t.events = true) _ (fun t x ht => by simp [ht]) _ _ (by simp (maxDischargeDepth := 20) [h])
@[simp] theorem State.postIsolation_eventsOk (s : State) (h : eventsOk s.events = true) : eventsOk (State.postIsolation s).events = true := by
  unfold State.postIsolation; (repeat' (first | split | dsimp only)) <;> simp (maxDischargeDepth := 20) [h]
@[simp] theorem State.wakeUp_eventsOk (s : State) (coincidence : Option Region) (h : eventsOk s.events = true) : eventsOk (State.wakeUp s coincidence).events = true := by
  unfold State.wakeUp; (repeat' (first | split | dsimp only)) <;> simp (maxDischargeDepth := 20) [h]
@[simp] theorem State.disown_eventsOk (s : State) (r : Region) (h : eventsOk s.events = true) : eventsOk (State.disown s r).events = true := by
  unfold State.disown; (repeat' (first | split | dsimp only)) <;> simp (maxDischargeDepth := 20) [h]
@[simp] theorem State.haltRegion_eventsOk (s : State) (r : Region) (h : eventsOk s.events = true) : eventsOk (State.haltRegion s r).events = true := by
  unfold State.haltRegion; (repeat' (first | split | dsimp only)) <;> simp (maxDischargeDepth := 20) [h]
@[simp] theorem State.haltApply_eventsOk (s : State) (h : eventsOk s.events = true) : eventsOk (State.haltApply s).events = true := by
  unfold State.haltApply
  exact foldl_preserves (fun t : State => eventsOk t.events = true) _ (fun t x ht => by simp [ht]) _ _ (by simp (maxDischargeDepth := 20) [h])
@[simp] theorem State.halt_eventsOk (s : State) (c : HaltCause) (h : eventsOk s.events = true) : eventsOk (State.halt s c).events = true := by
  unfold State.halt; (repeat' (first | split | dsimp only)) <;> simp (maxDischargeDepth := 20) [h]
@[simp] theorem State.goOffline_eventsOk (s : State) (h : eventsOk s.events = true) : eventsOk (State.goOffline s).events = true := by
  unfold State.goOffline; (repeat' (first | split | dsimp only)) <;> simp (maxDischargeDepth := 20) [h]
@[simp] theorem State.finalEnd_eventsOk (s : State) (h : eventsOk s.events = true) : eventsOk (State.finalEnd s).events = true := by
  unfold State.finalEnd; (repeat' (first | split | dsimp only)) <;> simp (maxDischargeDepth := 20) [h]
@[simp] theorem State.afterAttempt_eventsOk (s : State) (h : eventsOk s.events = true) : eventsOk (State.afterAttempt s).events = true := by
  unfold State.afterAttempt; (repeat' (first | split | dsimp only)) <;> simp (maxDischargeDepth := 20) [h]
@[simp] theorem State.startLeaving_eventsOk (s : State) (h : eventsOk s.events = true) : eventsOk (State.startLeaving s).events = true := by
  unfold State.startLeaving; (repeat' (first | split | dsimp only)) <;> simp (maxDischargeDepth := 20) [h]
@[simp] theorem State.clearWorking_eventsOk (s : State) (p : Power) (h : eventsOk s.events = true) : eventsOk (State.clearWorking s p).events = true := by
  rfl
@[simp] theorem State.recover_eventsOk (s : State) (c : ResetCause) (straps : Straps) (h : eventsOk s.events = true) : eventsOk (State.recover s c straps).events = true := by
  simp [State.recover, eventsOk, Event.isOverflow, Event.countOk, Config.eventLimit]
@[simp] theorem State.finishOp_eventsOk (s : State) (h : eventsOk s.events = true) : eventsOk (State.finishOp s).events = true := by
  unfold State.finishOp; (repeat' (first | split | dsimp only)) <;> simp (maxDischargeDepth := 20) [h]
@[simp] theorem State.ownerWrote_eventsOk (s : State) (w : WriteWork) (h : eventsOk s.events = true) : eventsOk (State.ownerWrote s w).events = true := by
  unfold State.ownerWrote; (repeat' (first | split | dsimp only)) <;> simp (maxDischargeDepth := 20) [h]
@[simp] theorem State.concludeWrite_eventsOk (s : State) (w : WriteWork) (h : eventsOk s.events = true) : eventsOk (State.concludeWrite s w).events = true := by
  unfold State.concludeWrite; (repeat' (first | split | dsimp only)) <;> simp (maxDischargeDepth := 20) [h]
@[simp] theorem State.writeDone_eventsOk (s : State) (w : WriteWork) (h : eventsOk s.events = true) : eventsOk (State.writeDone s w).events = true := by
  unfold State.writeDone; (repeat' (first | split | dsimp only)) <;> simp (maxDischargeDepth := 20) [h]
@[simp] theorem State.completePull_eventsOk (s : State) (p : PullRecord) (collecting : Stamp) (h : eventsOk s.events = true) : eventsOk (State.completePull s p collecting).events = true := by
  unfold State.completePull; (repeat' (first | split | dsimp only)) <;> simp (maxDischargeDepth := 20) [h]
@[simp] theorem State.chunkWritten_eventsOk (s : State) (k : Chunk) (stamp : Stamp) (pull : Nat) (h : eventsOk s.events = true) : eventsOk (State.chunkWritten s k stamp pull).events = true := by
  unfold State.chunkWritten; (repeat' (first | split | dsimp only)) <;> simp (maxDischargeDepth := 20) [h]
@[simp] theorem State.chunkWrittenInReset_eventsOk (s : State) (k : Chunk) (stamp : Stamp) (pull : Nat) (h : eventsOk s.events = true) : eventsOk (State.chunkWrittenInReset s k stamp pull).events = true := by
  unfold State.chunkWrittenInReset; (repeat' (first | split | dsimp only)) <;> simp (maxDischargeDepth := 20) [h]
@[simp] theorem State.applied_eventsOk (s : State) (b : ApplyBody) (h : eventsOk s.events = true) : eventsOk (State.applied s b).events = true := by
  unfold State.applied; (repeat' (first | split | dsimp only)) <;> simp (maxDischargeDepth := 20) [h]
@[simp] theorem State.applyDone_eventsOk (s : State) (e : ApplyEntry) (rest : List ApplyEntry) (h : eventsOk s.events = true) : eventsOk (State.applyDone s e rest).events = true := by
  unfold State.applyDone; (repeat' (first | split | dsimp only)) <;> simp (maxDischargeDepth := 20) [h]
@[simp] theorem State.claimOver_eventsOk (s : State) (r : Region) (source : ClaimSource) (won : Bool) (h : eventsOk s.events = true) : eventsOk (State.claimOver s r source won).events = true := by
  unfold State.claimOver; (repeat' (first | split | dsimp only)) <;> simp (maxDischargeDepth := 20) [h]
@[simp] theorem State.withdraw_eventsOk (s : State) (e : OutEntry) (source : ClaimSource) (why : LostReason) (h : eventsOk s.events = true) : eventsOk (State.withdraw s e source why).events = true := by
  unfold State.withdraw; (repeat' (first | split | dsimp only)) <;> simp (maxDischargeDepth := 20) [h]
@[simp] theorem State.offerFrom_eventsOk (n : Nat) (s : State) (h : eventsOk s.events = true) : eventsOk (State.offerFrom n s).events = true := by
  induction n generalizing s with
  | zero => simpa [State.offerFrom] using h
  | succ n ih => rcases h' : s.nextOffer <;> simp (maxDischargeDepth := 20) [State.offerFrom, h', ih, h]
@[simp] theorem State.offer_eventsOk (s : State) (h : eventsOk s.events = true) : eventsOk (State.offer s).events = true := by
  unfold State.offer; (repeat' (first | split | dsimp only)) <;> simp (maxDischargeDepth := 20) [h]
@[simp] theorem State.attemptLost_eventsOk (s : State) (t : TxSlot) (h : eventsOk s.events = true) : eventsOk (State.attemptLost s t).events = true := by
  unfold State.attemptLost; (repeat' (first | split | dsimp only)) <;> simp (maxDischargeDepth := 20) [h]
@[simp] theorem State.countFault_eventsOk (s : State) (h : eventsOk s.events = true) : eventsOk (State.countFault s).events = true := by
  unfold State.countFault; (repeat' (first | split | dsimp only)) <;> simp (maxDischargeDepth := 20) [h]
@[simp] theorem State.postStranger_eventsOk (s : State) (n : Station) (h : eventsOk s.events = true) : eventsOk (State.postStranger s n).events = true := by
  unfold State.postStranger; (repeat' (first | split | dsimp only)) <;> simp (maxDischargeDepth := 20) [h]
@[simp] theorem State.strangerHeard_eventsOk (s : State) (n : Station) (h : eventsOk s.events = true) : eventsOk (State.strangerHeard s n).events = true := by
  unfold State.strangerHeard; (repeat' (first | split | dsimp only)) <;> simp (maxDischargeDepth := 20) [h]
@[simp] theorem State.compareStamp_eventsOk (s : State) (o : Station) (e : CensusEntry) (h : eventsOk s.events = true) : eventsOk (State.compareStamp s o e).events = true := by
  unfold State.compareStamp; (repeat' (first | split | dsimp only)) <;> simp (maxDischargeDepth := 20) [h]
@[simp] theorem State.compareIfOwner_eventsOk (s : State) (o : Station) (e : CensusEntry) (h : eventsOk s.events = true) : eventsOk (State.compareIfOwner s o e).events = true := by
  unfold State.compareIfOwner; (repeat' (first | split | dsimp only)) <;> simp (maxDischargeDepth := 20) [h]
@[simp] theorem State.censusCase_eventsOk (s : State) (o : Station) (e : CensusEntry) (h : eventsOk s.events = true) : eventsOk (State.censusCase s o e).events = true := by
  unfold State.censusCase; (repeat' (first | split | dsimp only)) <;> simp (maxDischargeDepth := 20) [h]
@[simp] theorem State.censusEntry_eventsOk (o : Station) (s : State) (e : CensusEntry) (h : eventsOk s.events = true) : eventsOk (State.censusEntry o s e).events = true := by
  unfold State.censusEntry; (repeat' (first | split | dsimp only)) <;> simp (maxDischargeDepth := 20) [h]
@[simp] theorem State.censusList_eventsOk (s : State) (o : Station) (es : List CensusEntry) (h : eventsOk s.events = true) : eventsOk (State.censusList s o es).events = true := by
  unfold State.censusList
  exact foldl_preserves (fun t : State => eventsOk t.events = true) _ (fun t x ht => by simp [ht]) _ _ (by simp (maxDischargeDepth := 20) [h])
@[simp] theorem State.markIfBehind_eventsOk (s : State) (u : UpdateFrame) (h : eventsOk s.events = true) : eventsOk (State.markIfBehind s u).events = true := by
  unfold State.markIfBehind; (repeat' (first | split | dsimp only)) <;> simp (maxDischargeDepth := 20) [h]
@[simp] theorem State.listen_eventsOk (s : State) (f : Frame) (h : eventsOk s.events = true) : eventsOk (State.listen s f).events = true := by
  unfold State.listen; (repeat' (first | split | dsimp only)) <;> simp (maxDischargeDepth := 20) [h]
@[simp] theorem State.listenIfListening_eventsOk (s : State) (f : Frame) (h : eventsOk s.events = true) : eventsOk (State.listenIfListening s f).events = true := by
  unfold State.listenIfListening; (repeat' (first | split | dsimp only)) <;> simp (maxDischargeDepth := 20) [h]
@[simp] theorem State.handOn_eventsOk (s : State) (f : Frame) (h : eventsOk s.events = true) : eventsOk (State.handOn s f).events = true := by
  unfold State.handOn; (repeat' (first | split | dsimp only)) <;> simp (maxDischargeDepth := 20) [h]
@[simp] theorem State.ownNumberHeard_eventsOk (s : State) (f : Frame) (h : eventsOk s.events = true) : eventsOk (State.ownNumberHeard s f).events = true := by
  unfold State.ownNumberHeard; (repeat' (first | split | dsimp only)) <;> simp (maxDischargeDepth := 20) [h]
@[simp] theorem State.beaconAct_eventsOk (b : BeaconFrame) (s : State) (h : eventsOk s.events = true) : eventsOk (State.beaconAct b s).2.events = true := by
  unfold State.beaconAct; (repeat' (first | split | dsimp only)) <;> simp (maxDischargeDepth := 20) [h]
@[simp] theorem State.wakeIfAsked_eventsOk (s : State) (r : Region) (h : eventsOk s.events = true) : eventsOk (State.wakeIfAsked s r).events = true := by
  unfold State.wakeIfAsked; (repeat' (first | split | dsimp only)) <;> simp (maxDischargeDepth := 20) [h]
@[simp] theorem State.claimAct_eventsOk (c : ClaimFrame) (guardPin : Bool) (s : State) (h : eventsOk s.events = true) : eventsOk (State.claimAct c guardPin s).2.events = true := by
  unfold State.claimAct; (repeat' (first | split | dsimp only)) <;> simp (maxDischargeDepth := 20) [h]
@[simp] theorem State.decidePull_eventsOk (s : State) (p : PullFrame) (h : eventsOk s.events = true) : eventsOk (State.decidePull s p).2.events = true := by
  unfold State.decidePull; (repeat' (first | split | dsimp only)) <;> simp (maxDischargeDepth := 20) [h]
@[simp] theorem State.pullAct_eventsOk (p : PullFrame) (s : State) (h : eventsOk s.events = true) : eventsOk (State.pullAct p s).2.events = true := by
  unfold State.pullAct; (repeat' (first | split | dsimp only)) <;> simp (maxDischargeDepth := 20) [h]
@[simp] theorem State.compareUpdate_eventsOk (s : State) (u : UpdateFrame) (h : eventsOk s.events = true) : eventsOk (State.compareUpdate s u).2.events = true := by
  unfold State.compareUpdate; (repeat' (first | split | dsimp only)) <;> simp (maxDischargeDepth := 20) [h]
@[simp] theorem State.updateIfOwner_eventsOk (s : State) (u : UpdateFrame) (h : eventsOk s.events = true) : eventsOk (State.updateIfOwner s u).2.events = true := by
  unfold State.updateIfOwner; (repeat' (first | split | dsimp only)) <;> simp (maxDischargeDepth := 20) [h]
@[simp] theorem State.updateAct_eventsOk (u : UpdateFrame) (s : State) (h : eventsOk s.events = true) : eventsOk (State.updateAct u s).2.events = true := by
  unfold State.updateAct; (repeat' (first | split | dsimp only)) <;> simp (maxDischargeDepth := 20) [h]
@[simp] theorem State.imageAct_eventsOk (i : ImageFrame) (s : State) (h : eventsOk s.events = true) : eventsOk (State.imageAct i s).2.events = true := by
  unfold State.imageAct; (repeat' (first | split | dsimp only)) <;> simp (maxDischargeDepth := 20) [h]
@[simp] theorem State.ownBeaconEnd_eventsOk (s : State) (b : BeaconFrame) (walkLast : Option Region) (ack : StationMap) (h : eventsOk s.events = true) : eventsOk (State.ownBeaconEnd s b walkLast ack).events = true := by
  unfold State.ownBeaconEnd; (repeat' (first | split | dsimp only)) <;> simp (maxDischargeDepth := 20) [h]
@[simp] theorem State.beaconHeard_eventsOk (s : State) (b : BeaconFrame) (h : eventsOk s.events = true) : eventsOk (State.beaconHeard s b).events = true := by
  unfold State.beaconHeard; (repeat' (first | split | dsimp only)) <;> simp (maxDischargeDepth := 20) [h]
@[simp] theorem State.claimDecided_eventsOk (s : State) (c : ClaimFrame) (source : ClaimSource) (ack : StationMap) (h : eventsOk s.events = true) : eventsOk (State.claimDecided s c source ack).events = true := by
  unfold State.claimDecided; (repeat' (first | split | dsimp only)) <;> simp (maxDischargeDepth := 20) [h]
@[simp] theorem State.ownClaimEnd_eventsOk (s : State) (c : ClaimFrame) (ack : StationMap) (h : eventsOk s.events = true) : eventsOk (State.ownClaimEnd s c ack).events = true := by
  unfold State.ownClaimEnd; (repeat' (first | split | dsimp only)) <;> simp (maxDischargeDepth := 20) [h]
@[simp] theorem State.decideClaim_eventsOk (s : State) (c : ClaimFrame) (m : StationMap) (h : eventsOk s.events = true) : eventsOk (State.decideClaim s c m).events = true := by
  unfold State.decideClaim; (repeat' (first | split | dsimp only)) <;> simp (maxDischargeDepth := 20) [h]
@[simp] theorem State.claimHeard_eventsOk (s : State) (acked : Bool) (c : ClaimFrame) (ack : StationMap) (h : eventsOk s.events = true) : eventsOk (State.claimHeard s acked c ack).events = true := by
  unfold State.claimHeard; (repeat' (first | split | dsimp only)) <;> simp (maxDischargeDepth := 20) [h]
@[simp] theorem State.pullAnswered_eventsOk (s : State) (p : PullRecord) (ack : StationMap) (h : eventsOk s.events = true) : eventsOk (State.pullAnswered s p ack).events = true := by
  unfold State.pullAnswered; (repeat' (first | split | dsimp only)) <;> simp (maxDischargeDepth := 20) [h]
@[simp] theorem State.ownPullEnd_eventsOk (s : State) (ack : StationMap) (h : eventsOk s.events = true) : eventsOk (State.ownPullEnd s ack).events = true := by
  unfold State.ownPullEnd; (repeat' (first | split | dsimp only)) <;> simp (maxDischargeDepth := 20) [h]
@[simp] theorem State.settledShort_eventsOk (s : State) (r : Region) (u : UpdateEntry) (missing : StationMap) (h : eventsOk s.events = true) : eventsOk (State.settledShort s r u missing).events = true := by
  unfold State.settledShort; (repeat' (first | split | dsimp only)) <;> simp (maxDischargeDepth := 20) [h]
@[simp] theorem State.settleUpdate_eventsOk (s : State) (r : Region) (u : UpdateEntry) (doom : Doom) (missing : StationMap) (h : eventsOk s.events = true) : eventsOk (State.settleUpdate s r u doom missing).events = true := by
  unfold State.settleUpdate; (repeat' (first | split | dsimp only)) <;> simp (maxDischargeDepth := 20) [h]
@[simp] theorem State.ownUpdateEnd_eventsOk (s : State) (ack : StationMap) (h : eventsOk s.events = true) : eventsOk (State.ownUpdateEnd s ack).events = true := by
  unfold State.ownUpdateEnd; (repeat' (first | split | dsimp only)) <;> simp (maxDischargeDepth := 20) [h]
@[simp] theorem State.imageAcked_eventsOk (s : State) (v : ServingRecord) (i : ImageEntry) (ack : StationMap) (h : eventsOk s.events = true) : eventsOk (State.imageAcked s v i ack).events = true := by
  unfold State.imageAcked; (repeat' (first | split | dsimp only)) <;> simp (maxDischargeDepth := 20) [h]
@[simp] theorem State.ownImageEnd_eventsOk (s : State) (ack : StationMap) (h : eventsOk s.events = true) : eventsOk (State.ownImageEnd s ack).events = true := by
  unfold State.ownImageEnd; (repeat' (first | split | dsimp only)) <;> simp (maxDischargeDepth := 20) [h]
@[simp] theorem State.silence_eventsOk (s : State) (n : Station) (h : eventsOk s.events = true) : eventsOk (State.silence s n).events = true := by
  unfold State.silence; (repeat' (first | split | dsimp only)) <;> simp (maxDischargeDepth := 20) [h]
@[simp] theorem State.fallSilent_eventsOk (s : State) (n : Station) (h : eventsOk s.events = true) : eventsOk (State.fallSilent s n).events = true := by
  unfold State.fallSilent; (repeat' (first | split | dsimp only)) <;> simp (maxDischargeDepth := 20) [h]
@[simp] theorem State.fallAbsent_eventsOk (s : State) (n : Station) (h : eventsOk s.events = true) : eventsOk (State.fallAbsent s n).events = true := by
  unfold State.fallAbsent; (repeat' (first | split | dsimp only)) <;> simp (maxDischargeDepth := 20) [h]
@[simp] theorem State.joinComplete_eventsOk (s : State) (h : eventsOk s.events = true) : eventsOk (State.joinComplete s).events = true := by
  unfold State.joinComplete; (repeat' (first | split | dsimp only)) <;> simp (maxDischargeDepth := 20) [h]
@[simp] theorem State.cut_eventsOk (s : State) (h : eventsOk s.events = true) : eventsOk (State.cut s).events = true := by
  unfold State.cut; (repeat' (first | split | dsimp only)) <;> simp (maxDischargeDepth := 20) [h]
@[simp] theorem State.answerExpired_eventsOk (s : State) (p : PullRecord) (h : eventsOk s.events = true) : eventsOk (State.answerExpired s p).events = true := by
  unfold State.answerExpired; (repeat' (first | split | dsimp only)) <;> simp (maxDischargeDepth := 20) [h]
@[simp] theorem State.losePower_eventsOk (s : State) (h : eventsOk s.events = true) : eventsOk (State.losePower s).events = true := by
  unfold State.losePower; (repeat' (first | split | dsimp only)) <;> simp (maxDischargeDepth := 20) [h]
@[simp] theorem State.assertReset_eventsOk (s : State) (h : eventsOk s.events = true) : eventsOk (State.assertReset s).events = true := by
  unfold State.assertReset; (repeat' (first | split | dsimp only)) <;> simp (maxDischargeDepth := 20) [h]
@[simp] theorem State.releaseReset_eventsOk (s : State) (straps : Straps) (h : eventsOk s.events = true) : eventsOk (State.releaseReset s straps).events = true := by
  unfold State.releaseReset; (repeat' (first | split | dsimp only)) <;> simp (maxDischargeDepth := 20) [h]

end Sys2Proof.Machine
end

