-- ==== Sys2Proof/Laws/Retained.lean ====
section
/-! SUPPORT. The retained image of every region follows its working entry (R8), through every operation that changes either. -/

namespace Sys2Proof.Machine

/-- Every region outside `X` has its retained image following its working entry, with the differences of R8. -/
def retainedFor (X : List Region) (tab : Vector RegionEntry 64) (regs : Vector NvRegion 64) (w : Region → Bool) : Prop :=
  ∀ r : Region, r ∉ X → regs[r] = nvImage tab[r] (w r)

variable {X : List Region}

/-- A region entry written has its image, and every other region is as before. -/
theorem retainedFor_set {X : List Region} (s : State) (r : Region) (e : RegionEntry)
    (h : retainedFor (r :: X) s.table s.nv.regions s.unwritten) :
    retainedFor X (s.setEntry r e).table (s.setEntry r e).nv.regions s.unwritten := by
  intro q hq
  simp only [State.setEntry, Fin.getElem_fin, Vector.getElem_set]
  split
  · next hrq => have : r = q := Fin.ext hrq
                subst this; rfl
  · next hrq => exact h q (by simp only [List.mem_cons, not_or]; exact ⟨fun e => hrq (by rw [e]), hq⟩)

theorem retainedFor_weaken {X Y : List Region} {tab regs w} (h : retainedFor X tab regs w) (hs : ∀ r ∈ X, r ∈ Y) :
    retainedFor Y tab regs w := fun r hr => h r fun hx => hr (hs r hx)

/-- Every region outside `X` has its retained image following its working entry (R8). -/
def State.retainedBut (X : List Region) (s : State) : Prop := retainedFor X s.table s.nv.regions s.unwritten

@[simp] theorem State.setPower_retained (s : State) (x) : (s.setPower x).retainedBut X ↔ s.retainedBut X := Iff.rfl
@[simp] theorem State.setPort_retained (s : State) (x) : (s.setPort x).retainedBut X ↔ s.retainedBut X := Iff.rfl
@[simp] theorem State.mapPort_retained (s : State) (f) : (s.mapPort f).retainedBut X ↔ s.retainedBut X := Iff.rfl
@[simp] theorem State.setEvents_retained (s : State) (x) : (s.setEvents x).retainedBut X ↔ s.retainedBut X := Iff.rfl
@[simp] theorem State.setCtl_retained (s : State) (x) : (s.setCtl x).retainedBut X ↔ s.retainedBut X := Iff.rfl
@[simp] theorem State.mapCtl_retained (s : State) (f) : (s.mapCtl f).retainedBut X ↔ s.retainedBut X := Iff.rfl
@[simp] theorem State.setLine_retained (s : State) (x) : (s.setLine x).retainedBut X ↔ s.retainedBut X := Iff.rfl
@[simp] theorem State.mapLine_retained (s : State) (f) : (s.mapLine f).retainedBut X ↔ s.retainedBut X := Iff.rfl
@[simp] theorem State.setRoster_retained (s : State) (x) : (s.setRoster x).retainedBut X ↔ s.retainedBut X := Iff.rfl
@[simp] theorem State.mapRoster_retained (s : State) (f) : (s.mapRoster f).retainedBut X ↔ s.retainedBut X := Iff.rfl
@[simp] theorem State.setOut_retained (s : State) (x) : (s.setOut x).retainedBut X ↔ s.retainedBut X := Iff.rfl
@[simp] theorem State.mapOut_retained (s : State) (f) : (s.mapOut f).retainedBut X ↔ s.retainedBut X := Iff.rfl
@[simp] theorem State.setCatchup_retained (s : State) (x) : (s.setCatchup x).retainedBut X ↔ s.retainedBut X := Iff.rfl
@[simp] theorem State.mapCatchup_retained (s : State) (f) : (s.mapCatchup f).retainedBut X ↔ s.retainedBut X := Iff.rfl
@[simp] theorem State.setServing_retained (s : State) (x) : (s.setServing x).retainedBut X ↔ s.retainedBut X := Iff.rfl
@[simp] theorem State.setArb_retained (s : State) (x) : (s.setArb x).retainedBut X ↔ s.retainedBut X := Iff.rfl
@[simp] theorem State.setSerial_retained (s : State) (x) : (s.setSerial x).retainedBut X ↔ s.retainedBut X := Iff.rfl
@[simp] theorem State.setFree_retained (s : State) (x) : (s.setFree x).retainedBut X ↔ s.retainedBut X := Iff.rfl
@[simp] theorem State.setPending_retained (s : State) (x) : (s.setPending x).retainedBut X ↔ s.retainedBut X := Iff.rfl

/-- A change of the retained state that keeps its regions. -/
@[simp] theorem State.mapNv_retained (s : State) (f : Retained → Retained) (hf : (f s.nv).regions = s.nv.regions) :
    (s.mapNv f).retainedBut X ↔ s.retainedBut X := by
  simp only [State.retainedBut, State.mapNv_table, State.mapNv_nv, hf]; exact Iff.rfl

@[simp] theorem State.setEntry_retained (s : State) (r : Region) (e : RegionEntry) (h : s.retainedBut X) :
    (s.setEntry r e).retainedBut X :=
  retainedFor_set s r e (retainedFor_weaken h fun _ => List.mem_cons_of_mem _)

@[simp] theorem State.mapEntry_retained (s : State) (r : Region) (f : RegionEntry → RegionEntry) (h : s.retainedBut X) :
    (s.mapEntry r f).retainedBut X :=
  State.setEntry_retained s r _ h

/-- A region written again has its image whatever it was before. -/
theorem State.mapEntry_retains (s : State) (r : Region) (f : RegionEntry → RegionEntry) (h : s.retainedBut (r :: X)) :
    (s.mapEntry r f).retainedBut X :=
  retainedFor_set s r _ h

/-- A change of what is unwritten leaves the images right but for the regions it concerns. -/
theorem retainedFor_queue {tab regs} {w w' : Region → Bool} (Y : List Region) (h : retainedFor X tab regs w)
    (hq : ∀ r, r ∉ Y → w' r = w r) : retainedFor (Y ++ X) tab regs w' := by
  intro r hr
  rw [List.mem_append, not_or] at hr
  rw [hq r hr.1]; exact h r hr.2

@[simp] theorem State.takeApply_retained (s : State) (r : Region) (b : ApplyBody) (h : s.retainedBut X) :
    (s.takeApply r b).retainedBut X := by
  refine State.mapEntry_retains _ r id ?_
  have h' : retainedFor ([r] ++ X) s.table s.nv.regions (s.appendApply r b).unwritten :=
    retainedFor_queue [r] h fun q hq => by
      have : (r == q) = false := by simp only [List.mem_singleton] at hq; simp [Ne.symm hq]
      simp [State.appendApply, State.unwritten, this]
  exact h'

@[simp] theorem State.forgetOwners_retained (s : State) (h : s.retainedBut X) : s.forgetOwners.retainedBut X := by
  intro r hr
  show s.nv.regions[r] = _
  rw [h r hr]
  simp [State.forgetOwners, nvImage, RegionEntry.clearFlags, State.unwritten]

/-- Regions rewritten one after another have their images. -/
theorem retainedBut_fold (f : State → Region → State)
    (hf : ∀ (X : List Region) t r, t.retainedBut (r :: X) → (f t r).retainedBut X) (l : List Region) (s : State)
    (h : s.retainedBut (l ++ X)) : (l.foldl f s).retainedBut X := by
  induction l generalizing s with
  | nil => exact h
  | cons r l ih => exact ih _ (hf _ _ _ h)

/-- The entries that a clearing keeps and removes make up the queue. -/
theorem State.applyQ_any (s : State) (r : Region) (h : r ∉ s.applyCleared.map (·.region)) :
    s.applyInProgress.any (fun e => e.region == r) = s.applyQ.any (fun e => e.region == r) := by
  have hc : ∀ l : List ApplyEntry, r ∉ l.map (·.region) → l.any (fun e => e.region == r) = false := by
    intro l hl
    simp only [List.any_eq_false, beq_iff_eq]
    intro e he hr
    exact hl (List.mem_map.2 ⟨e, he, hr⟩)
  unfold State.applyInProgress
  unfold State.applyCleared at h
  split
  · rename_i h'
    rw [if_pos h'] at h
    conv_rhs => rw [← List.take_append_drop 1 s.applyQ, List.any_append, hc _ h, Bool.or_false]
  · rename_i h'
    rw [if_neg h'] at h
    simp [hc _ h]

/-- FORMAT's clearing changes no image: what it clears stays marked (R8, log 35). -/
@[simp] theorem State.formatClear_retained (s : State) (h : s.retainedBut X) : s.formatClear.retainedBut X := by
  have hw : ∀ r, s.formatClear.unwritten r = s.unwritten r := by
    intro r
    simp only [State.formatClear, State.unwritten, State.setUnsaved_applyQ, State.setApplyQ_applyQ, State.setUnsaved_unsaved,
      inMap_mapOf]
    unfold State.applyInProgress State.applyCleared
    split
    · conv_rhs => rw [← List.take_append_drop 1 s.applyQ, List.any_append]
      cases inMap s.unsaved r <;> simp
    · cases inMap s.unsaved r <;> simp
  exact retainedFor_queue [] h fun r _ => hw r

/-- A zeroed region is no longer marked unwritten (R143). -/
@[simp] theorem State.formatRegionDone_retained (s : State) (r : Region) (h : s.retainedBut X) :
    (s.formatRegionDone r).retainedBut X := by
  have h' : ((s.setUnsaved (dropBit s.unsaved r))).retainedBut ([r] ++ X) :=
    retainedFor_queue [r] h fun q hq => by
      have : q ≠ r := by simpa using hq
      simp [State.unwritten, this]
  unfold State.formatRegionDone
  exact (State.mapNv_retained _ _ rfl).2 (State.mapEntry_retains _ r _ h')


@[simp] theorem State.post_retained (s : State) (e : Event) (h : State.retainedBut X s) : State.retainedBut X (State.post s e) := by
  unfold State.post; (repeat' (first | split | dsimp only)) <;> simp (maxDischargeDepth := 20) [h]
@[simp] theorem State.retain_retained (s : State) (r : Region) (h : State.retainedBut X s) : State.retainedBut X (State.retain s r) := by
  unfold State.retain; (repeat' (first | split | dsimp only)) <;> simp (maxDischargeDepth := 20) [h]
@[simp] theorem State.countSerial_retained (s : State) (h : State.retainedBut X s) : State.retainedBut X (State.countSerial s) := by
  unfold State.countSerial; (repeat' (first | split | dsimp only)) <;> simp (maxDischargeDepth := 20) [h]
@[simp] theorem State.answer_retained (s : State) (code : Byte) (result : ResultCode) (data : List Byte) (h : State.retainedBut X s) : State.retainedBut X (State.answer s code result data) := by
  unfold State.answer; (repeat' (first | split | dsimp only)) <;> simp (maxDischargeDepth := 20) [h]
@[simp] theorem State.work_retained (s : State) (w : Work) (h : State.retainedBut X s) : State.retainedBut X (State.work s w) := by
  unfold State.work; (repeat' (first | split | dsimp only)) <;> simp (maxDischargeDepth := 20) [h]
@[simp] theorem State.setEntries_retained (s : State) (es : List OutEntry) (h : State.retainedBut X s) : State.retainedBut X (State.setEntries s es) := by
  unfold State.setEntries; (repeat' (first | split | dsimp only)) <;> simp (maxDischargeDepth := 20) [h]
@[simp] theorem State.checkFence_retained (s : State) (h : State.retainedBut X s) : State.retainedBut X (State.checkFence s) := by
  unfold State.checkFence; (repeat' (first | split | dsimp only)) <;> simp (maxDischargeDepth := 20) [h]
@[simp] theorem State.departed_retained (s : State) (cut : Bool) (e : OutEntry) (h : State.retainedBut X s) : State.retainedBut X (State.departed s cut e) := by
  unfold State.departed; (repeat' (first | split | dsimp only)) <;> simp (maxDischargeDepth := 20) [h]
@[simp] theorem State.departAll_retained (s : State) (cut : Bool) (gone : List OutEntry) (h : State.retainedBut X s) : State.retainedBut X (State.departAll s cut gone) := by
  unfold State.departAll
  exact foldl_preserves (fun t : State => State.retainedBut X t) _ (fun t x ht => by simp [ht]) _ _ (by simp (maxDischargeDepth := 20) [h])
@[simp] theorem State.discardEntries_retained (s : State) (p : OutEntry → Bool) (cut : Bool) (h : State.retainedBut X s) : State.retainedBut X (State.discardEntries s p cut) := by
  unfold State.discardEntries; (repeat' (first | split | dsimp only)) <;> simp (maxDischargeDepth := 20) [h]
@[simp] theorem State.removeSending_retained (s : State) (h : State.retainedBut X s) : State.retainedBut X (State.removeSending s) := by
  unfold State.removeSending; (repeat' (first | split | dsimp only)) <;> simp (maxDischargeDepth := 20) [h]
@[simp] theorem State.returnSending_retained (s : State) (h : State.retainedBut X s) : State.retainedBut X (State.returnSending s) := by
  unfold State.returnSending; (repeat' (first | split | dsimp only)) <;> simp (maxDischargeDepth := 20) [h]
@[simp] theorem State.releaseHold_retained (s : State) (h : State.retainedBut X s) : State.retainedBut X (State.releaseHold s) := by
  unfold State.releaseHold; (repeat' (first | split | dsimp only)) <;> simp (maxDischargeDepth := 20) [h]
@[simp] theorem State.putServing_retained (s : State) (v : ServingRecord) (h : State.retainedBut X s) : State.retainedBut X (State.putServing s v) := by
  unfold State.putServing; (repeat' (first | split | dsimp only)) <;> simp (maxDischargeDepth := 20) [h]
@[simp] theorem State.dropRead_retained (s : State) (r : Region) (h : State.retainedBut X s) : State.retainedBut X (State.dropRead s r) := by
  unfold State.dropRead; (repeat' (first | split | dsimp only)) <;> simp (maxDischargeDepth := 20) [h]
@[simp] theorem State.dropServing_retained (s : State) (r : Region) (h : State.retainedBut X s) : State.retainedBut X (State.dropServing s r) := by
  unfold State.dropServing; (repeat' (first | split | dsimp only)) <;> simp (maxDischargeDepth := 20) [h]
@[simp] theorem State.endServing_retained (s : State) (r : Region) (h : State.retainedBut X s) : State.retainedBut X (State.endServing s r) := by
  unfold State.endServing; (repeat' (first | split | dsimp only)) <;> simp (maxDischargeDepth := 20) [h]
@[simp] theorem State.putTargets_retained (s : State) (v : ServingRecord) (ts : List Target) (h : State.retainedBut X s) : State.retainedBut X (State.putTargets s v ts) := by
  unfold State.putTargets; (repeat' (first | split | dsimp only)) <;> simp (maxDischargeDepth := 20) [h]
@[simp] theorem State.dropTarget_retained (s : State) (r : Region) (n : Station) (h : State.retainedBut X s) : State.retainedBut X (State.dropTarget s r n) := by
  unfold State.dropTarget; (repeat' (first | split | dsimp only)) <;> simp (maxDischargeDepth := 20) [h]
@[simp] theorem State.dropTargets_retained (s : State) (n : Station) (h : State.retainedBut X s) : State.retainedBut X (State.dropTargets s n) := by
  unfold State.dropTargets
  exact foldl_preserves (fun t : State => State.retainedBut X t) _ (fun t x ht => by simp [ht]) _ _ (by simp (maxDischargeDepth := 20) [h])
@[simp] theorem State.endAllServing_retained (s : State) (h : State.retainedBut X s) : State.retainedBut X (State.endAllServing s) := by
  unfold State.endAllServing
  exact foldl_preserves (fun t : State => State.retainedBut X t) _ (fun t x ht => by simp [ht]) _ _ (by simp (maxDischargeDepth := 20) [h])
@[simp] theorem State.requestRead_retained (s : State) (r : Region) (h : State.retainedBut X s) : State.retainedBut X (State.requestRead s r) := by
  unfold State.requestRead; (repeat' (first | split | dsimp only)) <;> simp (maxDischargeDepth := 20) [h]
@[simp] theorem State.requestReads_retained (s : State) (h : State.retainedBut X s) : State.retainedBut X (State.requestReads s) := by
  unfold State.requestReads
  exact foldl_preserves (fun t : State => State.retainedBut X t) _ (fun t x ht => by simp [ht]) _ _ (by simp (maxDischargeDepth := 20) [h])
@[simp] theorem State.serve_retained (s : State) (r : Region) (q : Station) (h : State.retainedBut X s) : State.retainedBut X (State.serve s r q) := by
  unfold State.serve; (repeat' (first | split | dsimp only)) <;> simp (maxDischargeDepth := 20) [h]
@[simp] theorem State.restartServing_retained (s : State) (r : Region) (h : State.retainedBut X s) : State.retainedBut X (State.restartServing s r) := by
  unfold State.restartServing; (repeat' (first | split | dsimp only)) <;> simp (maxDischargeDepth := 20) [h]
@[simp] theorem State.abandonWrite_retained (s : State) (r : Region) (h : State.retainedBut X s) : State.retainedBut X (State.abandonWrite s r) := by
  unfold State.abandonWrite; (repeat' (first | split | dsimp only)) <;> simp (maxDischargeDepth := 20) [h]
@[simp] theorem State.setSweep_retained (s : State) (w : Sweep) (h : State.retainedBut X s) : State.retainedBut X (State.setSweep s w) := by
  unfold State.setSweep; (repeat' (first | split | dsimp only)) <;> simp (maxDischargeDepth := 20) [h]
@[simp] theorem State.dropHeld_retained (s : State) (r : Region) (h : State.retainedBut X s) : State.retainedBut X (State.dropHeld s r) := by
  unfold State.dropHeld; (repeat' (first | split | dsimp only)) <;> simp (maxDischargeDepth := 20) [h]
@[simp] theorem State.appendEntry_retained (s : State) (r : Region) (b : EntryBody) (h : State.retainedBut X s) : State.retainedBut X (State.appendEntry s r b) := by
  unfold State.appendEntry; (repeat' (first | split | dsimp only)) <;> simp (maxDischargeDepth := 20) [h]
@[simp] theorem State.sweepAct_retained (s : State) (h : State.retainedBut X s) : State.retainedBut X (State.sweepAct s).1 := by
  unfold State.sweepAct; (repeat' (first | split | dsimp only)) <;> simp (maxDischargeDepth := 20) [h]
@[simp] theorem State.sweepFrom_retained (n : Nat) (s : State) (h : State.retainedBut X s) : State.retainedBut X (State.sweepFrom n s) := by
  induction n generalizing s with
  | zero => simpa [State.sweepFrom] using h
  | succ n ih => unfold State.sweepFrom; (repeat' split) <;> simp (maxDischargeDepth := 20) [ih, h]
@[simp] theorem State.sweepWalk_retained (s : State) (h : State.retainedBut X s) : State.retainedBut X (State.sweepWalk s) := by
  unfold State.sweepWalk; (repeat' (first | split | dsimp only)) <;> simp (maxDischargeDepth := 20) [h]
@[simp] theorem State.listRegion_retained (s : State) (r : Region) (h : State.retainedBut X s) : State.retainedBut X (State.listRegion s r) := by
  unfold State.listRegion; (repeat' (first | split | dsimp only)) <;> simp (maxDischargeDepth := 20) [h]
@[simp] theorem State.dropPull_retained (s : State) (r : Region) (h : State.retainedBut X s) : State.retainedBut X (State.dropPull s r) := by
  unfold State.dropPull; (repeat' (first | split | dsimp only)) <;> simp (maxDischargeDepth := 20) [h]
@[simp] theorem State.postStale_retained (s : State) (r : Region) (h : State.retainedBut X s) : State.retainedBut X (State.postStale s r) := by
  unfold State.postStale; (repeat' (first | split | dsimp only)) <;> simp (maxDischargeDepth := 20) [h]
@[simp] theorem State.parkRegion_retained (s : State) (r : Region) (h : State.retainedBut X s) : State.retainedBut X (State.parkRegion s r) := by
  unfold State.parkRegion; (repeat' (first | split | dsimp only)) <;> simp (maxDischargeDepth := 20) [h]
@[simp] theorem State.afterClosure_retained (s : State) (r : Region) (park : Bool) (h : State.retainedBut X s) : State.retainedBut X (State.afterClosure s r park) := by
  unfold State.afterClosure; (repeat' (first | split | dsimp only)) <;> simp (maxDischargeDepth := 20) [h]
@[simp] theorem State.closePull_retained (s : State) (r : Region) (park : Bool) (h : State.retainedBut X s) : State.retainedBut X (State.closePull s r park) := by
  unfold State.closePull; (repeat' (first | split | dsimp only)) <;> simp (maxDischargeDepth := 20) [h]
@[simp] theorem State.closeAllPulls_retained (s : State) (h : State.retainedBut X s) : State.retainedBut X (State.closeAllPulls s) := by
  unfold State.closeAllPulls
  exact foldl_preserves (fun t : State => State.retainedBut X t) _ (fun t x ht => by simp [ht]) _ _ (by simp (maxDischargeDepth := 20) [h])
@[simp] theorem State.queuePull_retained (s : State) (p : PullRecord) (h : State.retainedBut X s) : State.retainedBut X (State.queuePull s p) := by
  unfold State.queuePull; (repeat' (first | split | dsimp only)) <;> simp (maxDischargeDepth := 20) [h]
@[simp] theorem State.queuePulls_retained (s : State) (h : State.retainedBut X s) : State.retainedBut X (State.queuePulls s) := by
  unfold State.queuePulls
  exact foldl_preserves (fun t : State => State.retainedBut X t) _ (fun t x ht => by simp [ht]) _ _ (by simp (maxDischargeDepth := 20) [h])
@[simp] theorem State.addPull_retained (s : State) (r : Region) (n : Station) (h : State.retainedBut X s) : State.retainedBut X (State.addPull s r n) := by
  unfold State.addPull; (repeat' (first | split | dsimp only)) <;> simp (maxDischargeDepth := 20) [h]
@[simp] theorem State.openPull_retained (s : State) (r : Region) (n : Station) (kept : Cause) (h : State.retainedBut X s) : State.retainedBut X (State.openPull s r n kept) := by
  unfold State.openPull; (repeat' (first | split | dsimp only)) <;> simp (maxDischargeDepth := 20) [h]
@[simp] theorem State.openPullsFrom_retained (n : Nat) (s : State) (h : State.retainedBut X s) : State.retainedBut X (State.openPullsFrom n s) := by
  induction n generalizing s with
  | zero => simpa [State.openPullsFrom] using h
  | succ n ih =>
    rcases h' : s.nextPull with _ | p
    · simpa [State.openPullsFrom_none n s h'] using h
    · rw [State.openPullsFrom_some n s p h']; exact ih _ (by simp [h])
@[simp] theorem State.openPulls_retained (s : State) (h : State.retainedBut X s) : State.retainedBut X (State.openPulls s) := by
  unfold State.openPulls; (repeat' (first | split | dsimp only)) <;> simp (maxDischargeDepth := 20) [h]
@[simp] theorem State.reportMark_retained (s : State) (r : Region) (c : Cause) (h : State.retainedBut X s) : State.retainedBut X (State.reportMark s r c) := by
  unfold State.reportMark; (repeat' (first | split | dsimp only)) <;> simp (maxDischargeDepth := 20) [h]
@[simp] theorem State.unpark_retained (s : State) (r : Region) (h : State.retainedBut X s) : State.retainedBut X (State.unpark s r) := by
  unfold State.unpark; (repeat' (first | split | dsimp only)) <;> simp (maxDischargeDepth := 20) [h]
@[simp] theorem State.markStale_retained (s : State) (r : Region) (c : Cause) (h : State.retainedBut X s) : State.retainedBut X (State.markStale s r c) := by
  unfold State.markStale; (repeat' (first | split | dsimp only)) <;> simp (maxDischargeDepth := 20) [h]
@[simp] theorem State.dropFront_retained (s : State) (r : Region) (h : State.retainedBut X s) : State.retainedBut X (State.dropFront s r) := by
  unfold State.dropFront; (repeat' (first | split | dsimp only)) <;> simp (maxDischargeDepth := 20) [h]
@[simp] theorem State.surrender_retained (s : State) (r : Region) (h : State.retainedBut X s) : State.retainedBut X (State.surrender s r) := by
  unfold State.surrender; (repeat' (first | split | dsimp only)) <;> simp (maxDischargeDepth := 20) [h]
@[simp] theorem State.assume_retained (s : State) (r : Region) (h : State.retainedBut X s) : State.retainedBut X (State.assume s r) := by
  unfold State.assume; (repeat' (first | split | dsimp only)) <;> simp (maxDischargeDepth := 20) [h]
@[simp] theorem State.partOld_retained (s : State) (r : Region) (self : Bool) (h : State.retainedBut X s) : State.retainedBut X (State.partOld s r self) := by
  unfold State.partOld; (repeat' (first | split | dsimp only)) <;> simp (maxDischargeDepth := 20) [h]
@[simp] theorem State.partNew_retained (s : State) (r : Region) (self : Bool) (h : State.retainedBut X s) : State.retainedBut X (State.partNew s r self) := by
  unfold State.partNew; (repeat' (first | split | dsimp only)) <;> simp (maxDischargeDepth := 20) [h]
@[simp] theorem State.changeOwner_retained (s : State) (r : Region) (o : Option Owner) (h : State.retainedBut X s) : State.retainedBut X (State.changeOwner s r o) := by
  unfold State.changeOwner; (repeat' (first | split | dsimp only)) <;> simp (maxDischargeDepth := 20) [h]
@[simp] theorem State.setState_retained (s : State) (st : StationState) (h : State.retainedBut X s) : State.retainedBut X (State.setState s st) := by
  unfold State.setState; (repeat' (first | split | dsimp only)) <;> simp (maxDischargeDepth := 20) [h]
@[simp] theorem State.quorumCheck_retained (s : State) (h : State.retainedBut X s) : State.retainedBut X (State.quorumCheck s) := by
  unfold State.quorumCheck; (repeat' (first | split | dsimp only)) <;> simp (maxDischargeDepth := 20) [h]
@[simp] theorem State.mapRosterEntry_retained (s : State) (n : Station) (f : RosterEntry → RosterEntry) (h : State.retainedBut X s) : State.retainedBut X (State.mapRosterEntry s n f) := by
  unfold State.mapRosterEntry; (repeat' (first | split | dsimp only)) <;> simp (maxDischargeDepth := 20) [h]
@[simp] theorem State.targetsFollow_retained (s : State) (n : Station) (st : Presence) (h : State.retainedBut X s) : State.retainedBut X (State.targetsFollow s n st) := by
  unfold State.targetsFollow; (repeat' (first | split | dsimp only)) <;> simp (maxDischargeDepth := 20) [h]
@[simp] theorem State.differsFollows_retained (s : State) (n : Station) (st : Presence) (h : State.retainedBut X s) : State.retainedBut X (State.differsFollows s n st) := by
  unfold State.differsFollows; (repeat' (first | split | dsimp only)) <;> simp (maxDischargeDepth := 20) [h]
@[simp] theorem State.statusChange_retained (s : State) (n : Station) (st : Presence) (h : State.retainedBut X s) : State.retainedBut X (State.statusChange s n st) := by
  unfold State.statusChange; (repeat' (first | split | dsimp only)) <;> simp (maxDischargeDepth := 20) [h]
@[simp] theorem State.clearRoster_retained (s : State) (h : State.retainedBut X s) : State.retainedBut X (State.clearRoster s) := by
  unfold State.clearRoster; (repeat' (first | split | dsimp only)) <;> simp (maxDischargeDepth := 20) [h]
@[simp] theorem State.followFrame_retained (s : State) (f : Frame) (h : State.retainedBut X s) : State.retainedBut X (State.followFrame s f) := by
  unfold State.followFrame; (repeat' (first | split | dsimp only)) <;> simp (maxDischargeDepth := 20) [h]
@[simp] theorem State.checkMembers_retained (s : State) (f : Frame) (h : State.retainedBut X s) : State.retainedBut X (State.checkMembers s f) := by
  unfold State.checkMembers; (repeat' (first | split | dsimp only)) <;> simp (maxDischargeDepth := 20) [h]
@[simp] theorem State.rosterHandoff_retained (s : State) (f : Frame) (h : State.retainedBut X s) : State.retainedBut X (State.rosterHandoff s f) := by
  unfold State.rosterHandoff; (repeat' (first | split | dsimp only)) <;> simp (maxDischargeDepth := 20) [h]
@[simp] theorem State.learnOwner_retained (s : State) (r : Region) (o : Station) (e : Epoch) (h : State.retainedBut X s) : State.retainedBut X (State.learnOwner s r o e) := by
  unfold State.learnOwner; (repeat' (first | split | dsimp only)) <;> simp (maxDischargeDepth := 20) [h]
@[simp] theorem State.addFront_retained (s : State) (r : Region) (h : State.retainedBut X s) : State.retainedBut X (State.addFront s r) := by
  unfold State.addFront; (repeat' (first | split | dsimp only)) <;> simp (maxDischargeDepth := 20) [h]
@[simp] theorem State.loseConflict_retained (s : State) (r : Region) (o : Station) (stamp : Stamp) (h : State.retainedBut X s) : State.retainedBut X (State.loseConflict s r o stamp) := by
  unfold State.loseConflict; (repeat' (first | split | dsimp only)) <;> simp (maxDischargeDepth := 20) [h]
@[simp] theorem State.resolveConflict_retained (s : State) (r : Region) (o : Station) (stamp : Stamp) (h : State.retainedBut X s) : State.retainedBut X (State.resolveConflict s r o stamp) := by
  unfold State.resolveConflict; (repeat' (first | split | dsimp only)) <;> simp (maxDischargeDepth := 20) [h]
@[simp] theorem State.claimCopy_retained (s : State) (r : Region) (stamp : Stamp) (h : State.retainedBut X s) : State.retainedBut X (State.claimCopy s r stamp) := by
  unfold State.claimCopy; (repeat' (first | split | dsimp only)) <;> simp (maxDischargeDepth := 20) [h]
@[simp] theorem State.yielded_retained (s : State) (r : Region) (former : Bool) (h : State.retainedBut X s) : State.retainedBut X (State.yielded s r former) := by
  unfold State.yielded; (repeat' (first | split | dsimp only)) <;> simp (maxDischargeDepth := 20) [h]
@[simp] theorem State.claimOwner_retained (s : State) (c : Station) (r : Region) (stamp : Stamp) (h : State.retainedBut X s) : State.retainedBut X (State.claimOwner s c r stamp) := by
  unfold State.claimOwner; (repeat' (first | split | dsimp only)) <;> simp (maxDischargeDepth := 20) [h]
@[simp] theorem State.applyClaim_retained (s : State) (c : Station) (r : Region) (stamp : Stamp) (h : State.retainedBut X s) : State.retainedBut X (State.applyClaim s c r stamp) := by
  unfold State.applyClaim; (repeat' (first | split | dsimp only)) <;> simp (maxDischargeDepth := 20) [h]
@[simp] theorem State.postStales_retained (s : State) (rs : List Region) (h : State.retainedBut X s) : State.retainedBut X (State.postStales s rs) := by
  unfold State.postStales
  exact foldl_preserves (fun t : State => State.retainedBut X t) _ (fun t x ht => by simp [ht]) _ _ (by simp (maxDischargeDepth := 20) [h])
@[simp] theorem State.postIsolation_retained (s : State) (h : State.retainedBut X s) : State.retainedBut X (State.postIsolation s) := by
  unfold State.postIsolation; (repeat' (first | split | dsimp only)) <;> simp (maxDischargeDepth := 20) [h]
@[simp] theorem State.wakeUp_retained (s : State) (coincidence : Option Region) (h : State.retainedBut X s) : State.retainedBut X (State.wakeUp s coincidence) := by
  unfold State.wakeUp; (repeat' (first | split | dsimp only)) <;> simp (maxDischargeDepth := 20) [h]
@[simp] theorem State.endVote_retained (s : State) (r : Region) (h : State.retainedBut X s) : State.retainedBut X (State.endVote s r) := by
  unfold State.endVote; (repeat' (first | split | dsimp only)) <;> simp (maxDischargeDepth := 20) [h]
@[simp] theorem State.dropFrame_retained (s : State) (h : State.retainedBut X s) : State.retainedBut X (State.dropFrame s) := by
  unfold State.dropFrame; (repeat' (first | split | dsimp only)) <;> simp (maxDischargeDepth := 20) [h]
@[simp] theorem State.lineOff_retained (s : State) (h : State.retainedBut X s) : State.retainedBut X (State.lineOff s) := by
  unfold State.lineOff; (repeat' (first | split | dsimp only)) <;> simp (maxDischargeDepth := 20) [h]
@[simp] theorem State.disown_retained (s : State) (r : Region) (h : State.retainedBut X s) : State.retainedBut X (State.disown s r) := by
  unfold State.disown; (repeat' (first | split | dsimp only)) <;> simp (maxDischargeDepth := 20) [h]
@[simp] theorem State.haltRegion_retained (s : State) (r : Region) (h : State.retainedBut X s) : State.retainedBut X (State.haltRegion s r) := by
  unfold State.haltRegion; (repeat' (first | split | dsimp only)) <;> simp (maxDischargeDepth := 20) [h]
@[simp] theorem State.haltApply_retained (s : State) (h : s.retainedBut X) : s.haltApply.retainedBut X :=
  retainedBut_fold _ (fun _ t r ht => State.disown_retained _ r (State.mapEntry_retains t r _ ht)) _ _
    (retainedFor_queue _ h fun r hr => by simp [State.unwritten, State.applyQ_any s r hr])
@[simp] theorem State.stopTimers_retained (s : State) (h : State.retainedBut X s) : State.retainedBut X (State.stopTimers s) := by
  unfold State.stopTimers; (repeat' (first | split | dsimp only)) <;> simp (maxDischargeDepth := 20) [h]
@[simp] theorem State.clearOutbox_retained (s : State) (h : State.retainedBut X s) : State.retainedBut X (State.clearOutbox s) := by
  unfold State.clearOutbox; (repeat' (first | split | dsimp only)) <;> simp (maxDischargeDepth := 20) [h]
@[simp] theorem State.halt_retained (s : State) (c : HaltCause) (h : State.retainedBut X s) : State.retainedBut X (State.halt s c) := by
  unfold State.halt; (repeat' (first | split | dsimp only)) <;> simp (maxDischargeDepth := 20) [h]
@[simp] theorem State.goOffline_retained (s : State) (h : State.retainedBut X s) : State.retainedBut X (State.goOffline s) := by
  unfold State.goOffline; (repeat' (first | split | dsimp only)) <;> simp (maxDischargeDepth := 20) [h]
@[simp] theorem State.drainEnd_retained (s : State) (h : State.retainedBut X s) : State.retainedBut X (State.drainEnd s) := by
  unfold State.drainEnd; (repeat' (first | split | dsimp only)) <;> simp (maxDischargeDepth := 20) [h]
@[simp] theorem State.finalEnd_retained (s : State) (h : State.retainedBut X s) : State.retainedBut X (State.finalEnd s) := by
  unfold State.finalEnd; (repeat' (first | split | dsimp only)) <;> simp (maxDischargeDepth := 20) [h]
@[simp] theorem State.setIntent_retained (s : State) (i : Option Intent) (h : State.retainedBut X s) : State.retainedBut X (State.setIntent s i) := by
  unfold State.setIntent; (repeat' (first | split | dsimp only)) <;> simp (maxDischargeDepth := 20) [h]
@[simp] theorem State.grantHost_retained (s : State) (h : State.retainedBut X s) : State.retainedBut X (State.grantHost s) := by
  unfold State.grantHost; (repeat' (first | split | dsimp only)) <;> simp (maxDischargeDepth := 20) [h]
@[simp] theorem State.grantHead_retained (s : State) (h : State.retainedBut X s) : State.retainedBut X (State.grantHead s) := by
  unfold State.grantHead; (repeat' (first | split | dsimp only)) <;> simp (maxDischargeDepth := 20) [h]
@[simp] theorem State.grantImage_retained (s : State) (v : ServingRecord) (h : State.retainedBut X s) : State.retainedBut X (State.grantImage s v) := by
  unfold State.grantImage; (repeat' (first | split | dsimp only)) <;> simp (maxDischargeDepth := 20) [h]
@[simp] theorem State.arbitrate_retained (s : State) (h : State.retainedBut X s) : State.retainedBut X (State.arbitrate s) := by
  unfold State.arbitrate; (repeat' (first | split | dsimp only)) <;> simp (maxDischargeDepth := 20) [h]
@[simp] theorem State.resume_retained (s : State) (h : State.retainedBut X s) : State.retainedBut X (State.resume s) := by
  unfold State.resume; (repeat' (first | split | dsimp only)) <;> simp (maxDischargeDepth := 20) [h]
@[simp] theorem State.settle_retained (s : State) (h : State.retainedBut X s) : State.retainedBut X (State.settle s) := by
  unfold State.settle; (repeat' (first | split | dsimp only)) <;> simp (maxDischargeDepth := 20) [h]
@[simp] theorem State.afterAttempt_retained (s : State) (h : State.retainedBut X s) : State.retainedBut X (State.afterAttempt s) := by
  unfold State.afterAttempt; (repeat' (first | split | dsimp only)) <;> simp (maxDischargeDepth := 20) [h]
@[simp] theorem State.refusePut_retained (s : State) (h : State.retainedBut X s) : State.retainedBut X (State.refusePut s) := by
  unfold State.refusePut; (repeat' (first | split | dsimp only)) <;> simp (maxDischargeDepth := 20) [h]
@[simp] theorem State.undriven_retained (s : State) (h : State.retainedBut X s) : State.retainedBut X (State.undriven s) := by
  unfold State.undriven; (repeat' (first | split | dsimp only)) <;> simp (maxDischargeDepth := 20) [h]
@[simp] theorem State.takeBits_retained (s : State) (bits : Nat) (h : State.retainedBut X s) : State.retainedBut X (State.takeBits s bits) := by
  unfold State.takeBits; (repeat' (first | split | dsimp only)) <;> simp (maxDischargeDepth := 20) [h]
@[simp] theorem State.pollBit_retained (s : State) (h : State.retainedBut X s) : State.retainedBut X (State.pollBit s) := by
  unfold State.pollBit; (repeat' (first | split | dsimp only)) <;> simp (maxDischargeDepth := 20) [h]
@[simp] theorem State.pollBits_retained (n : Nat) (s : State) (h : State.retainedBut X s) : State.retainedBut X (State.pollBits n s) := by
  induction n generalizing s with
  | zero => simpa [State.pollBits] using h
  | succ n ih => unfold State.pollBits; exact ih _ (by simp [h])
@[simp] theorem State.pollRun_retained (s : State) (run : PollRun) (h : State.retainedBut X s) : State.retainedBut X (State.pollRun s run) := by
  unfold State.pollRun; (repeat' (first | split | dsimp only)) <;> simp (maxDischargeDepth := 20) [h]
@[simp] theorem State.startRead_retained (s : State) (r : Region) (offset length : Nat) (h : State.retainedBut X s) : State.retainedBut X (State.startRead s r offset length) := by
  unfold State.startRead; (repeat' (first | split | dsimp only)) <;> simp (maxDischargeDepth := 20) [h]
@[simp] theorem State.takeRoom_retained (s : State) (r : Region) (h : State.retainedBut X s) : State.retainedBut X (State.takeRoom s r) := by
  unfold State.takeRoom; (repeat' (first | split | dsimp only)) <;> simp (maxDischargeDepth := 20) [h]
@[simp] theorem State.startClaim_retained (s : State) (r : Region) (guardPin : Bool) (h : State.retainedBut X s) : State.retainedBut X (State.startClaim s r guardPin) := by
  unfold State.startClaim; (repeat' (first | split | dsimp only)) <;> simp (maxDischargeDepth := 20) [h]
@[simp] theorem State.setYield_retained (s : State) (code : Byte) (r : Region) (yes : Bool) (h : State.retainedBut X s) : State.retainedBut X (State.setYield s code r yes) := by
  unfold State.setYield; (repeat' (first | split | dsimp only)) <;> simp (maxDischargeDepth := 20) [h]
@[simp] theorem State.openFence_retained (s : State) (h : State.retainedBut X s) : State.retainedBut X (State.openFence s) := by
  unfold State.openFence; (repeat' (first | split | dsimp only)) <;> simp (maxDischargeDepth := 20) [h]
@[simp] theorem State.formatIntent_retained (s : State) (h : State.retainedBut X s) : State.retainedBut X (State.formatIntent s) := by
  unfold State.formatIntent; (repeat' (first | split | dsimp only)) <;> simp (maxDischargeDepth := 20) [h]
@[simp] theorem State.startListening_retained (s : State) (h : State.retainedBut X s) : State.retainedBut X (State.startListening s) := by
  unfold State.startListening; (repeat' (first | split | dsimp only)) <;> simp (maxDischargeDepth := 20) [h]
@[simp] theorem State.startLeaving_retained (s : State) (h : State.retainedBut X s) : State.retainedBut X (State.startLeaving s) := by
  unfold State.startLeaving; (repeat' (first | split | dsimp only)) <;> simp (maxDischargeDepth := 20) [h]
@[simp] theorem State.endOp_retained (s : State) (h : State.retainedBut X s) : State.retainedBut X (State.endOp s) := by
  unfold State.endOp; (repeat' (first | split | dsimp only)) <;> simp (maxDischargeDepth := 20) [h]
@[simp] theorem State.writeArray_retained (s : State) (r : Region) (k : Nat) (data : List Byte) (h : State.retainedBut X s) : State.retainedBut X (State.writeArray s r k data) := by
  unfold State.writeArray; (repeat' (first | split | dsimp only)) <;> simp (maxDischargeDepth := 20) [h]
@[simp] theorem State.setupWritten_retained (s : State) (members : StationMap) (guardSet : RegionMap) (h : State.retainedBut X s) : State.retainedBut X (State.setupWritten s members guardSet) := by
  unfold State.setupWritten; (repeat' (first | split | dsimp only)) <;> simp (maxDischargeDepth := 20) [h]
@[simp] theorem State.formatNext_retained (s : State) (r : Region) (k : Chunk) (h : State.retainedBut X s) : State.retainedBut X (State.formatNext s r k) := by
  unfold State.formatNext; (repeat' (first | split | dsimp only)) <;> simp (maxDischargeDepth := 20) [h]
@[simp] theorem State.formatStep_retained (s : State) (r : Region) (k : Chunk) (h : State.retainedBut X s) : State.retainedBut X (State.formatStep s r k) := by
  unfold State.formatStep; (repeat' (first | split | dsimp only)) <;> simp (maxDischargeDepth := 20) [h]
@[simp] theorem State.readPiece_retained (s : State) (w : ReadWork) (h : State.retainedBut X s) : State.retainedBut X (State.readPiece s w) := by
  unfold State.readPiece; (repeat' (first | split | dsimp only)) <;> simp (maxDischargeDepth := 20) [h]
@[simp] theorem State.queueWrite_retained (s : State) (w : WriteWork) (e : RegionEntry) (h : State.retainedBut X s) : State.retainedBut X (State.queueWrite s w e) := by
  unfold State.queueWrite; (repeat' (first | split | dsimp only)) <;> simp (maxDischargeDepth := 20) [h]
@[simp] theorem State.ownerWrote_retained (s : State) (w : WriteWork) (h : State.retainedBut X s) : State.retainedBut X (State.ownerWrote s w) := by
  unfold State.ownerWrote; (repeat' (first | split | dsimp only)) <;> simp (maxDischargeDepth := 20) [h]
@[simp] theorem State.concludeWrite_retained (s : State) (w : WriteWork) (h : State.retainedBut X s) : State.retainedBut X (State.concludeWrite s w) := by
  unfold State.concludeWrite; (repeat' (first | split | dsimp only)) <;> simp (maxDischargeDepth := 20) [h]
@[simp] theorem State.writeDone_retained (s : State) (w : WriteWork) (h : State.retainedBut X s) : State.retainedBut X (State.writeDone s w) := by
  unfold State.writeDone; (repeat' (first | split | dsimp only)) <;> simp (maxDischargeDepth := 20) [h]
@[simp] theorem State.putPull_retained (s : State) (p : PullRecord) (h : State.retainedBut X s) : State.retainedBut X (State.putPull s p) := by
  unfold State.putPull; (repeat' (first | split | dsimp only)) <;> simp (maxDischargeDepth := 20) [h]
@[simp] theorem State.completePull_retained (s : State) (p : PullRecord) (collecting : Stamp) (h : State.retainedBut X s) : State.retainedBut X (State.completePull s p collecting) := by
  unfold State.completePull; (repeat' (first | split | dsimp only)) <;> simp (maxDischargeDepth := 20) [h]
@[simp] theorem State.chunkWritten_retained (s : State) (k : Chunk) (stamp : Stamp) (pull : Nat) (h : State.retainedBut X s) : State.retainedBut X (State.chunkWritten s k stamp pull) := by
  unfold State.chunkWritten; (repeat' (first | split | dsimp only)) <;> simp (maxDischargeDepth := 20) [h]
@[simp] theorem State.chunkWrittenInReset_retained (s : State) (k : Chunk) (stamp : Stamp) (pull : Nat) (h : State.retainedBut X s) : State.retainedBut X (State.chunkWrittenInReset s k stamp pull) := by
  unfold State.chunkWrittenInReset; (repeat' (first | split | dsimp only)) <;> simp (maxDischargeDepth := 20) [h]
@[simp] theorem State.applied_retained (s : State) (b : ApplyBody) (h : State.retainedBut X s) : State.retainedBut X (State.applied s b) := by
  unfold State.applied; (repeat' (first | split | dsimp only)) <;> simp (maxDischargeDepth := 20) [h]
@[simp] theorem State.applyDone_retained (s : State) (e : ApplyEntry) (rest : List ApplyEntry) (hq : s.applyQ = e :: rest)
    (h : s.retainedBut X) : (s.applyDone e rest).retainedBut X := by
  have h' : (((s.writeArray e.region e.body.span.1 e.body.span.2).endOp).setApplyQ rest).retainedBut ([e.region] ++ X) :=
    retainedFor_queue [e.region] (by simpa [State.retainedBut] using h) fun q hq' => by
      have : (e.region == q) = false := by simp only [List.mem_singleton] at hq'; simp [Ne.symm hq']
      simp [hq, State.unwritten, this]
  exact (State.setIntent_retained _ _ (State.mapEntry_retains _ _ id (State.applied_retained _ _ h')))
@[simp] theorem State.chunkRead_retained (s : State) (r : Region) (k : Chunk) (stamp : Stamp) (live : Bool) (h : State.retainedBut X s) : State.retainedBut X (State.chunkRead s r k stamp live) := by
  unfold State.chunkRead; (repeat' (first | split | dsimp only)) <;> simp (maxDischargeDepth := 20) [h]
@[simp] theorem State.sendBeacon_retained (s : State) (h : State.retainedBut X s) : State.retainedBut X (State.sendBeacon s) := by
  unfold State.sendBeacon; (repeat' (first | split | dsimp only)) <;> simp (maxDischargeDepth := 20) [h]
@[simp] theorem State.unheldUnless_retained (s : State) (won : Bool) (r : Region) (h : State.retainedBut X s) : State.retainedBut X (State.unheldUnless s won r) := by
  unfold State.unheldUnless; (repeat' (first | split | dsimp only)) <;> simp (maxDischargeDepth := 20) [h]
@[simp] theorem State.claimOver_retained (s : State) (r : Region) (source : ClaimSource) (won : Bool) (h : State.retainedBut X s) : State.retainedBut X (State.claimOver s r source won) := by
  unfold State.claimOver; (repeat' (first | split | dsimp only)) <;> simp (maxDischargeDepth := 20) [h]
@[simp] theorem State.withdraw_retained (s : State) (e : OutEntry) (source : ClaimSource) (why : LostReason) (h : State.retainedBut X s) : State.retainedBut X (State.withdraw s e source why) := by
  unfold State.withdraw; (repeat' (first | split | dsimp only)) <;> simp (maxDischargeDepth := 20) [h]
@[simp] theorem State.sendEntry_retained (s : State) (e : OutEntry) (h : State.retainedBut X s) : State.retainedBut X (State.sendEntry s e) := by
  unfold State.sendEntry; (repeat' (first | split | dsimp only)) <;> simp (maxDischargeDepth := 20) [h]
@[simp] theorem State.offerFrom_retained (n : Nat) (s : State) (h : State.retainedBut X s) : State.retainedBut X (State.offerFrom n s) := by
  induction n generalizing s with
  | zero => simpa [State.offerFrom] using h
  | succ n ih => rcases h' : s.nextOffer <;> simp (maxDischargeDepth := 20) [State.offerFrom, h', ih, h]
@[simp] theorem State.offer_retained (s : State) (h : State.retainedBut X s) : State.retainedBut X (State.offer s) := by
  unfold State.offer; (repeat' (first | split | dsimp only)) <;> simp (maxDischargeDepth := 20) [h]
@[simp] theorem State.returnBeacon_retained (s : State) (b : BeaconFrame) (h : State.retainedBut X s) : State.retainedBut X (State.returnBeacon s b) := by
  unfold State.returnBeacon; (repeat' (first | split | dsimp only)) <;> simp (maxDischargeDepth := 20) [h]
@[simp] theorem State.attemptLost_retained (s : State) (t : TxSlot) (h : State.retainedBut X s) : State.retainedBut X (State.attemptLost s t) := by
  unfold State.attemptLost; (repeat' (first | split | dsimp only)) <;> simp (maxDischargeDepth := 20) [h]
@[simp] theorem State.countFault_retained (s : State) (h : State.retainedBut X s) : State.retainedBut X (State.countFault s) := by
  unfold State.countFault; (repeat' (first | split | dsimp only)) <;> simp (maxDischargeDepth := 20) [h]
@[simp] theorem State.answerAfterFault_retained (s : State) (place : FaultPlace) (f : Frame) (h : State.retainedBut X s) : State.retainedBut X (State.answerAfterFault s place f) := by
  unfold State.answerAfterFault; (repeat' (first | split | dsimp only)) <;> simp (maxDischargeDepth := 20) [h]
@[simp] theorem State.postStranger_retained (s : State) (n : Station) (h : State.retainedBut X s) : State.retainedBut X (State.postStranger s n) := by
  unfold State.postStranger; (repeat' (first | split | dsimp only)) <;> simp (maxDischargeDepth := 20) [h]
@[simp] theorem State.strangerHeard_retained (s : State) (n : Station) (h : State.retainedBut X s) : State.retainedBut X (State.strangerHeard s n) := by
  unfold State.strangerHeard; (repeat' (first | split | dsimp only)) <;> simp (maxDischargeDepth := 20) [h]
@[simp] theorem State.imageHeard_retained (s : State) (i : ImageFrame) (h : State.retainedBut X s) : State.retainedBut X (State.imageHeard s i) := by
  unfold State.imageHeard; (repeat' (first | split | dsimp only)) <;> simp (maxDischargeDepth := 20) [h]
@[simp] theorem State.compareStamp_retained (s : State) (o : Station) (e : CensusEntry) (h : State.retainedBut X s) : State.retainedBut X (State.compareStamp s o e) := by
  unfold State.compareStamp; (repeat' (first | split | dsimp only)) <;> simp (maxDischargeDepth := 20) [h]
@[simp] theorem State.compareIfOwner_retained (s : State) (o : Station) (e : CensusEntry) (h : State.retainedBut X s) : State.retainedBut X (State.compareIfOwner s o e) := by
  unfold State.compareIfOwner; (repeat' (first | split | dsimp only)) <;> simp (maxDischargeDepth := 20) [h]
@[simp] theorem State.censusCase_retained (s : State) (o : Station) (e : CensusEntry) (h : State.retainedBut X s) : State.retainedBut X (State.censusCase s o e) := by
  unfold State.censusCase; (repeat' (first | split | dsimp only)) <;> simp (maxDischargeDepth := 20) [h]
@[simp] theorem State.censusEntry_retained (o : Station) (s : State) (e : CensusEntry) (h : State.retainedBut X s) : State.retainedBut X (State.censusEntry o s e) := by
  unfold State.censusEntry; (repeat' (first | split | dsimp only)) <;> simp (maxDischargeDepth := 20) [h]
@[simp] theorem State.censusList_retained (s : State) (o : Station) (es : List CensusEntry) (h : State.retainedBut X s) : State.retainedBut X (State.censusList s o es) := by
  unfold State.censusList
  exact foldl_preserves (fun t : State => State.retainedBut X t) _ (fun t x ht => by simp [ht]) _ _ (by simp (maxDischargeDepth := 20) [h])
@[simp] theorem State.markIfBehind_retained (s : State) (u : UpdateFrame) (h : State.retainedBut X s) : State.retainedBut X (State.markIfBehind s u) := by
  unfold State.markIfBehind; (repeat' (first | split | dsimp only)) <;> simp (maxDischargeDepth := 20) [h]
@[simp] theorem State.listen_retained (s : State) (f : Frame) (h : State.retainedBut X s) : State.retainedBut X (State.listen s f) := by
  unfold State.listen; (repeat' (first | split | dsimp only)) <;> simp (maxDischargeDepth := 20) [h]
@[simp] theorem State.restartAnswer_retained (s : State) (f : Frame) (h : State.retainedBut X s) : State.retainedBut X (State.restartAnswer s f) := by
  unfold State.restartAnswer; (repeat' (first | split | dsimp only)) <;> simp (maxDischargeDepth := 20) [h]
@[simp] theorem State.listenIfListening_retained (s : State) (f : Frame) (h : State.retainedBut X s) : State.retainedBut X (State.listenIfListening s f) := by
  unfold State.listenIfListening; (repeat' (first | split | dsimp only)) <;> simp (maxDischargeDepth := 20) [h]
@[simp] theorem State.handOn_retained (s : State) (f : Frame) (h : State.retainedBut X s) : State.retainedBut X (State.handOn s f) := by
  unfold State.handOn; (repeat' (first | split | dsimp only)) <;> simp (maxDischargeDepth := 20) [h]
@[simp] theorem State.ownNumberHeard_retained (s : State) (f : Frame) (h : State.retainedBut X s) : State.retainedBut X (State.ownNumberHeard s f) := by
  unfold State.ownNumberHeard; (repeat' (first | split | dsimp only)) <;> simp (maxDischargeDepth := 20) [h]
@[simp] theorem State.holdFrame_retained (s : State) (f : Frame) (bit acked : Bool) (h : State.retainedBut X s) : State.retainedBut X (State.holdFrame s f bit acked) := by
  unfold State.holdFrame; (repeat' (first | split | dsimp only)) <;> simp (maxDischargeDepth := 20) [h]
@[simp] theorem State.beaconAct_retained (b : BeaconFrame) (s : State) (h : State.retainedBut X s) : State.retainedBut X (State.beaconAct b s).2 := by
  unfold State.beaconAct; (repeat' (first | split | dsimp only)) <;> simp (maxDischargeDepth := 20) [h]
@[simp] theorem State.holdVote_retained (s : State) (r : Region) (bit : Bool) (h : State.retainedBut X s) : State.retainedBut X (State.holdVote s r bit) := by
  unfold State.holdVote; (repeat' (first | split | dsimp only)) <;> simp (maxDischargeDepth := 20) [h]
@[simp] theorem State.wakeIfAsked_retained (s : State) (r : Region) (h : State.retainedBut X s) : State.retainedBut X (State.wakeIfAsked s r) := by
  unfold State.wakeIfAsked; (repeat' (first | split | dsimp only)) <;> simp (maxDischargeDepth := 20) [h]
@[simp] theorem State.claimAct_retained (c : ClaimFrame) (guardPin : Bool) (s : State) (h : State.retainedBut X s) : State.retainedBut X (State.claimAct c guardPin s).2 := by
  unfold State.claimAct; (repeat' (first | split | dsimp only)) <;> simp (maxDischargeDepth := 20) [h]
@[simp] theorem State.decidePull_retained (s : State) (p : PullFrame) (h : State.retainedBut X s) : State.retainedBut X (State.decidePull s p).2 := by
  unfold State.decidePull; (repeat' (first | split | dsimp only)) <;> simp (maxDischargeDepth := 20) [h]
@[simp] theorem State.pullAct_retained (p : PullFrame) (s : State) (h : State.retainedBut X s) : State.retainedBut X (State.pullAct p s).2 := by
  unfold State.pullAct; (repeat' (first | split | dsimp only)) <;> simp (maxDischargeDepth := 20) [h]
@[simp] theorem State.takeUpdate_retained (s : State) (u : UpdateFrame) (h : State.retainedBut X s) : State.retainedBut X (State.takeUpdate s u).2 := by
  unfold State.takeUpdate; (repeat' (first | split | dsimp only)) <;> simp (maxDischargeDepth := 20) [h]
@[simp] theorem State.compareUpdate_retained (s : State) (u : UpdateFrame) (h : State.retainedBut X s) : State.retainedBut X (State.compareUpdate s u).2 := by
  unfold State.compareUpdate; (repeat' (first | split | dsimp only)) <;> simp (maxDischargeDepth := 20) [h]
@[simp] theorem State.updateIfOwner_retained (s : State) (u : UpdateFrame) (h : State.retainedBut X s) : State.retainedBut X (State.updateIfOwner s u).2 := by
  unfold State.updateIfOwner; (repeat' (first | split | dsimp only)) <;> simp (maxDischargeDepth := 20) [h]
@[simp] theorem State.updateAct_retained (u : UpdateFrame) (s : State) (h : State.retainedBut X s) : State.retainedBut X (State.updateAct u s).2 := by
  unfold State.updateAct; (repeat' (first | split | dsimp only)) <;> simp (maxDischargeDepth := 20) [h]
@[simp] theorem State.takeChunk_retained (s : State) (p : PullRecord) (i : ImageFrame) (h : State.retainedBut X s) : State.retainedBut X (State.takeChunk s p i).2 := by
  unfold State.takeChunk; (repeat' (first | split | dsimp only)) <;> simp (maxDischargeDepth := 20) [h]
@[simp] theorem State.collect_retained (s : State) (p : PullRecord) (i : ImageFrame) (h : State.retainedBut X s) : State.retainedBut X (State.collect s p i).2 := by
  unfold State.collect; (repeat' (first | split | dsimp only)) <;> simp (maxDischargeDepth := 20) [h]
@[simp] theorem State.collectIfAsked_retained (s : State) (i : ImageFrame) (h : State.retainedBut X s) : State.retainedBut X (State.collectIfAsked s i).2 := by
  unfold State.collectIfAsked; (repeat' (first | split | dsimp only)) <;> simp (maxDischargeDepth := 20) [h]
@[simp] theorem State.imageAct_retained (i : ImageFrame) (s : State) (h : State.retainedBut X s) : State.retainedBut X (State.imageAct i s).2 := by
  unfold State.imageAct; (repeat' (first | split | dsimp only)) <;> simp (maxDischargeDepth := 20) [h]
@[simp] theorem State.attemptDone_retained (s : State) (h : State.retainedBut X s) : State.retainedBut X (State.attemptDone s) := by
  unfold State.attemptDone; (repeat' (first | split | dsimp only)) <;> simp (maxDischargeDepth := 20) [h]
@[simp] theorem State.receptionDone_retained (s : State) (h : State.retainedBut X s) : State.retainedBut X (State.receptionDone s) := by
  unfold State.receptionDone; (repeat' (first | split | dsimp only)) <;> simp (maxDischargeDepth := 20) [h]
@[simp] theorem State.beaconSent_retained (s : State) (b : BeaconFrame) (walkLast : Option Region) (ack : StationMap) (h : State.retainedBut X s) : State.retainedBut X (State.beaconSent s b walkLast ack) := by
  unfold State.beaconSent; (repeat' (first | split | dsimp only)) <;> simp (maxDischargeDepth := 20) [h]
@[simp] theorem State.ownBeaconEnd_retained (s : State) (b : BeaconFrame) (walkLast : Option Region) (ack : StationMap) (h : State.retainedBut X s) : State.retainedBut X (State.ownBeaconEnd s b walkLast ack) := by
  unfold State.ownBeaconEnd; (repeat' (first | split | dsimp only)) <;> simp (maxDischargeDepth := 20) [h]
@[simp] theorem State.beaconHeard_retained (s : State) (b : BeaconFrame) (h : State.retainedBut X s) : State.retainedBut X (State.beaconHeard s b) := by
  unfold State.beaconHeard; (repeat' (first | split | dsimp only)) <;> simp (maxDischargeDepth := 20) [h]
@[simp] theorem State.claimDecided_retained (s : State) (c : ClaimFrame) (source : ClaimSource) (ack : StationMap) (h : State.retainedBut X s) : State.retainedBut X (State.claimDecided s c source ack) := by
  unfold State.claimDecided; (repeat' (first | split | dsimp only)) <;> simp (maxDischargeDepth := 20) [h]
@[simp] theorem State.ownClaimEnd_retained (s : State) (c : ClaimFrame) (ack : StationMap) (h : State.retainedBut X s) : State.retainedBut X (State.ownClaimEnd s c ack) := by
  unfold State.ownClaimEnd; (repeat' (first | split | dsimp only)) <;> simp (maxDischargeDepth := 20) [h]
@[simp] theorem State.decideClaim_retained (s : State) (c : ClaimFrame) (m : StationMap) (h : State.retainedBut X s) : State.retainedBut X (State.decideClaim s c m) := by
  unfold State.decideClaim; (repeat' (first | split | dsimp only)) <;> simp (maxDischargeDepth := 20) [h]
@[simp] theorem State.claimHeard_retained (s : State) (acked : Bool) (c : ClaimFrame) (ack : StationMap) (h : State.retainedBut X s) : State.retainedBut X (State.claimHeard s acked c ack) := by
  unfold State.claimHeard; (repeat' (first | split | dsimp only)) <;> simp (maxDischargeDepth := 20) [h]
@[simp] theorem State.pullAnswered_retained (s : State) (p : PullRecord) (ack : StationMap) (h : State.retainedBut X s) : State.retainedBut X (State.pullAnswered s p ack) := by
  unfold State.pullAnswered; (repeat' (first | split | dsimp only)) <;> simp (maxDischargeDepth := 20) [h]
@[simp] theorem State.ownPullEnd_retained (s : State) (ack : StationMap) (h : State.retainedBut X s) : State.retainedBut X (State.ownPullEnd s ack) := by
  unfold State.ownPullEnd; (repeat' (first | split | dsimp only)) <;> simp (maxDischargeDepth := 20) [h]
@[simp] theorem State.settledShort_retained (s : State) (r : Region) (u : UpdateEntry) (missing : StationMap) (h : State.retainedBut X s) : State.retainedBut X (State.settledShort s r u missing) := by
  unfold State.settledShort; (repeat' (first | split | dsimp only)) <;> simp (maxDischargeDepth := 20) [h]
@[simp] theorem State.retryUpdate_retained (s : State) (h : State.retainedBut X s) : State.retainedBut X (State.retryUpdate s) := by
  unfold State.retryUpdate; (repeat' (first | split | dsimp only)) <;> simp (maxDischargeDepth := 20) [h]
@[simp] theorem State.settleUpdate_retained (s : State) (r : Region) (u : UpdateEntry) (doom : Doom) (missing : StationMap) (h : State.retainedBut X s) : State.retainedBut X (State.settleUpdate s r u doom missing) := by
  unfold State.settleUpdate; (repeat' (first | split | dsimp only)) <;> simp (maxDischargeDepth := 20) [h]
@[simp] theorem State.ownUpdateEnd_retained (s : State) (ack : StationMap) (h : State.retainedBut X s) : State.retainedBut X (State.ownUpdateEnd s ack) := by
  unfold State.ownUpdateEnd; (repeat' (first | split | dsimp only)) <;> simp (maxDischargeDepth := 20) [h]
@[simp] theorem State.imageAcked_retained (s : State) (v : ServingRecord) (i : ImageEntry) (ack : StationMap) (h : State.retainedBut X s) : State.retainedBut X (State.imageAcked s v i ack) := by
  unfold State.imageAcked; (repeat' (first | split | dsimp only)) <;> simp (maxDischargeDepth := 20) [h]
@[simp] theorem State.ownImageEnd_retained (s : State) (ack : StationMap) (h : State.retainedBut X s) : State.retainedBut X (State.ownImageEnd s ack) := by
  unfold State.ownImageEnd; (repeat' (first | split | dsimp only)) <;> simp (maxDischargeDepth := 20) [h]
@[simp] theorem State.silence_retained (s : State) (n : Station) (h : State.retainedBut X s) : State.retainedBut X (State.silence s n) := by
  unfold State.silence; (repeat' (first | split | dsimp only)) <;> simp (maxDischargeDepth := 20) [h]
@[simp] theorem State.fallSilent_retained (s : State) (n : Station) (h : State.retainedBut X s) : State.retainedBut X (State.fallSilent s n) := by
  unfold State.fallSilent; (repeat' (first | split | dsimp only)) <;> simp (maxDischargeDepth := 20) [h]
@[simp] theorem State.fallAbsent_retained (s : State) (n : Station) (h : State.retainedBut X s) : State.retainedBut X (State.fallAbsent s n) := by
  unfold State.fallAbsent; (repeat' (first | split | dsimp only)) <;> simp (maxDischargeDepth := 20) [h]
@[simp] theorem State.joinComplete_retained (s : State) (h : State.retainedBut X s) : State.retainedBut X (State.joinComplete s) := by
  unfold State.joinComplete; (repeat' (first | split | dsimp only)) <;> simp (maxDischargeDepth := 20) [h]
@[simp] theorem State.cut_retained (s : State) (h : State.retainedBut X s) : State.retainedBut X (State.cut s) := by
  unfold State.cut; (repeat' (first | split | dsimp only)) <;> simp (maxDischargeDepth := 20) [h]
@[simp] theorem State.answerExpired_retained (s : State) (p : PullRecord) (h : State.retainedBut X s) : State.retainedBut X (State.answerExpired s p) := by
  unfold State.answerExpired; (repeat' (first | split | dsimp only)) <;> simp (maxDischargeDepth := 20) [h]
@[simp] theorem State.advanceTimers_retained (s : State) (h : s.retainedBut X) : s.advanceTimers.retainedBut X := h
@[simp] theorem State.tick_retained (s : State) (h : State.retainedBut X s) : State.retainedBut X (State.tick s) := by
  unfold State.tick State.whenOn; (repeat' (first | split | dsimp only)) <;> simp (maxDischargeDepth := 20) [h]
@[simp] theorem State.cutWrite_retained (s : State) (h : State.retainedBut X s) : State.retainedBut X (State.cutWrite s) := by
  unfold State.cutWrite; (repeat' (first | split | dsimp only)) <;> simp (maxDischargeDepth := 20) [h]
@[simp] theorem State.cutSetup_retained (s : State) (h : State.retainedBut X s) : State.retainedBut X (State.cutSetup s) := by
  unfold State.cutSetup; (repeat' (first | split | dsimp only)) <;> simp (maxDischargeDepth := 20) [h]

end Sys2Proof.Machine
end

