-- ==== Sys2Proof/Laws/Stamps.lean ====
section
/-! SUPPORT. No operation but a FORMAT step lowers a copy stamp (R3). -/

namespace Sys2Proof.Machine

/-- Every copy stamp is at least the one that `base` holds for its region. -/
def State.stampsFrom (base : Vector Stamp 64) (s : State) : Prop := ∀ r : Region, stampUpTo base[r] s.table[r].stamp

variable {base : Vector Stamp 64}

@[simp] theorem State.setPower_stamps (s : State) (x) : (s.setPower x).stampsFrom base ↔ s.stampsFrom base := Iff.rfl
@[simp] theorem State.setNv_stamps (s : State) (x) : (s.setNv x).stampsFrom base ↔ s.stampsFrom base := Iff.rfl
@[simp] theorem State.mapNv_stamps (s : State) (f) : (s.mapNv f).stampsFrom base ↔ s.stampsFrom base := Iff.rfl
@[simp] theorem State.setPort_stamps (s : State) (x) : (s.setPort x).stampsFrom base ↔ s.stampsFrom base := Iff.rfl
@[simp] theorem State.mapPort_stamps (s : State) (f) : (s.mapPort f).stampsFrom base ↔ s.stampsFrom base := Iff.rfl
@[simp] theorem State.setEvents_stamps (s : State) (x) : (s.setEvents x).stampsFrom base ↔ s.stampsFrom base := Iff.rfl
@[simp] theorem State.setCtl_stamps (s : State) (x) : (s.setCtl x).stampsFrom base ↔ s.stampsFrom base := Iff.rfl
@[simp] theorem State.mapCtl_stamps (s : State) (f) : (s.mapCtl f).stampsFrom base ↔ s.stampsFrom base := Iff.rfl
@[simp] theorem State.setLine_stamps (s : State) (x) : (s.setLine x).stampsFrom base ↔ s.stampsFrom base := Iff.rfl
@[simp] theorem State.mapLine_stamps (s : State) (f) : (s.mapLine f).stampsFrom base ↔ s.stampsFrom base := Iff.rfl
@[simp] theorem State.setRoster_stamps (s : State) (x) : (s.setRoster x).stampsFrom base ↔ s.stampsFrom base := Iff.rfl
@[simp] theorem State.mapRoster_stamps (s : State) (f) : (s.mapRoster f).stampsFrom base ↔ s.stampsFrom base := Iff.rfl
@[simp] theorem State.setOut_stamps (s : State) (x) : (s.setOut x).stampsFrom base ↔ s.stampsFrom base := Iff.rfl
@[simp] theorem State.mapOut_stamps (s : State) (f) : (s.mapOut f).stampsFrom base ↔ s.stampsFrom base := Iff.rfl
@[simp] theorem State.setApplyQ_stamps (s : State) (x) : (s.setApplyQ x).stampsFrom base ↔ s.stampsFrom base := Iff.rfl
@[simp] theorem State.setUnsaved_stamps (s : State) (x) : (s.setUnsaved x).stampsFrom base ↔ s.stampsFrom base := Iff.rfl
@[simp] theorem State.setCatchup_stamps (s : State) (x) : (s.setCatchup x).stampsFrom base ↔ s.stampsFrom base := Iff.rfl
@[simp] theorem State.mapCatchup_stamps (s : State) (f) : (s.mapCatchup f).stampsFrom base ↔ s.stampsFrom base := Iff.rfl
@[simp] theorem State.setServing_stamps (s : State) (x) : (s.setServing x).stampsFrom base ↔ s.stampsFrom base := Iff.rfl
@[simp] theorem State.setArb_stamps (s : State) (x) : (s.setArb x).stampsFrom base ↔ s.stampsFrom base := Iff.rfl
@[simp] theorem State.setSerial_stamps (s : State) (x) : (s.setSerial x).stampsFrom base ↔ s.stampsFrom base := Iff.rfl
@[simp] theorem State.setFree_stamps (s : State) (x) : (s.setFree x).stampsFrom base ↔ s.stampsFrom base := Iff.rfl
@[simp] theorem State.setPending_stamps (s : State) (x) : (s.setPending x).stampsFrom base ↔ s.stampsFrom base := Iff.rfl

/-- Stamp order is transitive. -/
theorem stampUpTo_trans {a b c : Stamp} (h : stampUpTo a b) (h' : stampUpTo b c) : stampUpTo a c := by
  simp only [stampUpTo, stampLower, Bool.or_eq_false_iff, decide_eq_false_iff_not, Bool.and_eq_false_iff, beq_eq_false_iff_ne,
    ne_eq, BitVec.toNat_inj.symm] at *
  omega

/-- A stamp is not lower than itself. -/
@[simp] theorem stampUpTo_refl (a : Stamp) : stampUpTo a a := by simp [stampUpTo, stampLower]

/-- One host WRITE does not lower a stamp (R2). -/
theorem stampUpTo_nextVersion (a : Stamp) : stampUpTo a (nextVersion a) := by
  unfold nextVersion
  split
  · exact stampUpTo_refl a
  · rename_i h
    have hv : a.version.toNat ≠ 0xFFFFFFFFFFFF := fun e => h (BitVec.eq_of_toNat_eq (by simpa [Config.versionCeiling] using e))
    have := a.version.isLt
    have : (a.version + 1).toNat = a.version.toNat + 1 := by
      rw [BitVec.toNat_add]; simp; omega
    simp only [stampUpTo, stampLower, this, Bool.or_eq_false_iff, decide_eq_false_iff_not, Bool.and_eq_false_iff]
    omega

/-- An effective claim does not lower a stamp (R2). -/
theorem stampUpTo_nextEpoch (a : Stamp) : stampUpTo a (nextEpoch a) := by
  unfold nextEpoch
  split
  · exact stampUpTo_refl a
  · rename_i h
    have hv : a.epoch.toNat ≠ 0xFFFF := fun e => h (BitVec.eq_of_toNat_eq (by simpa [Config.epochCeiling] using e))
    have := a.epoch.isLt
    have h1 : (a.epoch + 1).toNat = a.epoch.toNat + 1 := by
      rw [BitVec.toNat_add]; simp; omega
    have h2 : (a.epoch + 1 == a.epoch) = false := by
      rw [beq_eq_false_iff_ne]; intro e; rw [e] at h1; omega
    simp only [stampUpTo, stampLower, h1, h2, Bool.or_eq_false_iff, decide_eq_false_iff_not, Bool.and_eq_false_iff]
    omega

/-- A region entry changed to a stamp that is not lower keeps the bound. -/
theorem State.mapEntry_stampsUp (s : State) (r : Region) (f : RegionEntry → RegionEntry)
    (hf : stampUpTo s.table[r].stamp (f s.table[r]).stamp) (h : s.stampsFrom base) : (s.mapEntry r f).stampsFrom base := by
  intro q
  simp only [State.mapEntry, State.setEntry, Fin.getElem_fin, Vector.getElem_set]
  split
  · next e => have : r = q := Fin.ext e
              subst this; exact stampUpTo_trans (h r) hf
  · exact h q

@[simp] theorem State.mapEntry_stamps (s : State) (r : Region) (f : RegionEntry → RegionEntry)
    (hf : ∀ e, (f e).stamp = e.stamp) (h : s.stampsFrom base) : (s.mapEntry r f).stampsFrom base :=
  State.mapEntry_stampsUp s r f (by rw [hf]; exact stampUpTo_refl _) h

@[simp] theorem State.forgetOwners_stamps (s : State) (h : s.stampsFrom base) : s.forgetOwners.stampsFrom base := by
  intro r
  have := h r
  simpa [State.forgetOwners, RegionEntry.clearFlags] using this


@[simp] theorem State.post_stamps (s : State) (e : Event) (h : State.stampsFrom base s) : State.stampsFrom base (State.post s e) := by
  unfold State.post; (repeat' (first | split | dsimp only)) <;> simp (maxDischargeDepth := 20) [h]
@[simp] theorem State.retain_stamps (s : State) (r : Region) (h : State.stampsFrom base s) : State.stampsFrom base (State.retain s r) := by
  unfold State.retain; (repeat' (first | split | dsimp only)) <;> simp (maxDischargeDepth := 20) [h]
@[simp] theorem State.countSerial_stamps (s : State) (h : State.stampsFrom base s) : State.stampsFrom base (State.countSerial s) := by
  unfold State.countSerial; (repeat' (first | split | dsimp only)) <;> simp (maxDischargeDepth := 20) [h]
@[simp] theorem State.appendApply_stamps (s : State) (r : Region) (b : ApplyBody) (h : State.stampsFrom base s) : State.stampsFrom base (State.appendApply s r b) := by
  unfold State.appendApply; (repeat' (first | split | dsimp only)) <;> simp (maxDischargeDepth := 20) [h]
@[simp] theorem State.takeApply_stamps (s : State) (r : Region) (b : ApplyBody) (h : State.stampsFrom base s) : State.stampsFrom base (State.takeApply s r b) := by
  unfold State.takeApply; (repeat' (first | split | dsimp only)) <;> simp (maxDischargeDepth := 20) [h]
@[simp] theorem State.answer_stamps (s : State) (code : Byte) (result : ResultCode) (data : List Byte) (h : State.stampsFrom base s) : State.stampsFrom base (State.answer s code result data) := by
  unfold State.answer; (repeat' (first | split | dsimp only)) <;> simp (maxDischargeDepth := 20) [h]
@[simp] theorem State.work_stamps (s : State) (w : Work) (h : State.stampsFrom base s) : State.stampsFrom base (State.work s w) := by
  unfold State.work; (repeat' (first | split | dsimp only)) <;> simp (maxDischargeDepth := 20) [h]
@[simp] theorem State.setEntries_stamps (s : State) (es : List OutEntry) (h : State.stampsFrom base s) : State.stampsFrom base (State.setEntries s es) := by
  unfold State.setEntries; (repeat' (first | split | dsimp only)) <;> simp (maxDischargeDepth := 20) [h]
@[simp] theorem State.checkFence_stamps (s : State) (h : State.stampsFrom base s) : State.stampsFrom base (State.checkFence s) := by
  unfold State.checkFence; (repeat' (first | split | dsimp only)) <;> simp (maxDischargeDepth := 20) [h]
@[simp] theorem State.departed_stamps (s : State) (cut : Bool) (e : OutEntry) (h : State.stampsFrom base s) : State.stampsFrom base (State.departed s cut e) := by
  unfold State.departed; (repeat' (first | split | dsimp only)) <;> simp (maxDischargeDepth := 20) [h]
@[simp] theorem State.departAll_stamps (s : State) (cut : Bool) (gone : List OutEntry) (h : State.stampsFrom base s) : State.stampsFrom base (State.departAll s cut gone) := by
  unfold State.departAll
  exact foldl_preserves (fun t : State => State.stampsFrom base t) _ (fun t x ht => by simp [ht]) _ _ (by simp (maxDischargeDepth := 20) [h])
@[simp] theorem State.discardEntries_stamps (s : State) (p : OutEntry → Bool) (cut : Bool) (h : State.stampsFrom base s) : State.stampsFrom base (State.discardEntries s p cut) := by
  unfold State.discardEntries; (repeat' (first | split | dsimp only)) <;> simp (maxDischargeDepth := 20) [h]
@[simp] theorem State.removeSending_stamps (s : State) (h : State.stampsFrom base s) : State.stampsFrom base (State.removeSending s) := by
  unfold State.removeSending; (repeat' (first | split | dsimp only)) <;> simp (maxDischargeDepth := 20) [h]
@[simp] theorem State.returnSending_stamps (s : State) (h : State.stampsFrom base s) : State.stampsFrom base (State.returnSending s) := by
  unfold State.returnSending; (repeat' (first | split | dsimp only)) <;> simp (maxDischargeDepth := 20) [h]
@[simp] theorem State.releaseHold_stamps (s : State) (h : State.stampsFrom base s) : State.stampsFrom base (State.releaseHold s) := by
  unfold State.releaseHold; (repeat' (first | split | dsimp only)) <;> simp (maxDischargeDepth := 20) [h]
@[simp] theorem State.putServing_stamps (s : State) (v : ServingRecord) (h : State.stampsFrom base s) : State.stampsFrom base (State.putServing s v) := by
  unfold State.putServing; (repeat' (first | split | dsimp only)) <;> simp (maxDischargeDepth := 20) [h]
@[simp] theorem State.dropRead_stamps (s : State) (r : Region) (h : State.stampsFrom base s) : State.stampsFrom base (State.dropRead s r) := by
  unfold State.dropRead; (repeat' (first | split | dsimp only)) <;> simp (maxDischargeDepth := 20) [h]
@[simp] theorem State.dropServing_stamps (s : State) (r : Region) (h : State.stampsFrom base s) : State.stampsFrom base (State.dropServing s r) := by
  unfold State.dropServing; (repeat' (first | split | dsimp only)) <;> simp (maxDischargeDepth := 20) [h]
@[simp] theorem State.endServing_stamps (s : State) (r : Region) (h : State.stampsFrom base s) : State.stampsFrom base (State.endServing s r) := by
  unfold State.endServing; (repeat' (first | split | dsimp only)) <;> simp (maxDischargeDepth := 20) [h]
@[simp] theorem State.putTargets_stamps (s : State) (v : ServingRecord) (ts : List Target) (h : State.stampsFrom base s) : State.stampsFrom base (State.putTargets s v ts) := by
  unfold State.putTargets; (repeat' (first | split | dsimp only)) <;> simp (maxDischargeDepth := 20) [h]
@[simp] theorem State.dropTarget_stamps (s : State) (r : Region) (n : Station) (h : State.stampsFrom base s) : State.stampsFrom base (State.dropTarget s r n) := by
  unfold State.dropTarget; (repeat' (first | split | dsimp only)) <;> simp (maxDischargeDepth := 20) [h]
@[simp] theorem State.dropTargets_stamps (s : State) (n : Station) (h : State.stampsFrom base s) : State.stampsFrom base (State.dropTargets s n) := by
  unfold State.dropTargets
  exact foldl_preserves (fun t : State => State.stampsFrom base t) _ (fun t x ht => by simp [ht]) _ _ (by simp (maxDischargeDepth := 20) [h])
@[simp] theorem State.endAllServing_stamps (s : State) (h : State.stampsFrom base s) : State.stampsFrom base (State.endAllServing s) := by
  unfold State.endAllServing
  exact foldl_preserves (fun t : State => State.stampsFrom base t) _ (fun t x ht => by simp [ht]) _ _ (by simp (maxDischargeDepth := 20) [h])
@[simp] theorem State.requestRead_stamps (s : State) (r : Region) (h : State.stampsFrom base s) : State.stampsFrom base (State.requestRead s r) := by
  unfold State.requestRead; (repeat' (first | split | dsimp only)) <;> simp (maxDischargeDepth := 20) [h]
@[simp] theorem State.requestReads_stamps (s : State) (h : State.stampsFrom base s) : State.stampsFrom base (State.requestReads s) := by
  unfold State.requestReads
  exact foldl_preserves (fun t : State => State.stampsFrom base t) _ (fun t x ht => by simp [ht]) _ _ (by simp (maxDischargeDepth := 20) [h])
@[simp] theorem State.serve_stamps (s : State) (r : Region) (q : Station) (h : State.stampsFrom base s) : State.stampsFrom base (State.serve s r q) := by
  unfold State.serve; (repeat' (first | split | dsimp only)) <;> simp (maxDischargeDepth := 20) [h]
@[simp] theorem State.restartServing_stamps (s : State) (r : Region) (h : State.stampsFrom base s) : State.stampsFrom base (State.restartServing s r) := by
  unfold State.restartServing; (repeat' (first | split | dsimp only)) <;> simp (maxDischargeDepth := 20) [h]
@[simp] theorem State.abandonWrite_stamps (s : State) (r : Region) (h : State.stampsFrom base s) : State.stampsFrom base (State.abandonWrite s r) := by
  unfold State.abandonWrite; (repeat' (first | split | dsimp only)) <;> simp (maxDischargeDepth := 20) [h]
@[simp] theorem State.setSweep_stamps (s : State) (w : Sweep) (h : State.stampsFrom base s) : State.stampsFrom base (State.setSweep s w) := by
  unfold State.setSweep; (repeat' (first | split | dsimp only)) <;> simp (maxDischargeDepth := 20) [h]
@[simp] theorem State.dropHeld_stamps (s : State) (r : Region) (h : State.stampsFrom base s) : State.stampsFrom base (State.dropHeld s r) := by
  unfold State.dropHeld; (repeat' (first | split | dsimp only)) <;> simp (maxDischargeDepth := 20) [h]
@[simp] theorem State.appendEntry_stamps (s : State) (r : Region) (b : EntryBody) (h : State.stampsFrom base s) : State.stampsFrom base (State.appendEntry s r b) := by
  unfold State.appendEntry; (repeat' (first | split | dsimp only)) <;> simp (maxDischargeDepth := 20) [h]
@[simp] theorem State.sweepAct_stamps (s : State) (h : State.stampsFrom base s) : State.stampsFrom base (State.sweepAct s).1 := by
  unfold State.sweepAct; (repeat' (first | split | dsimp only)) <;> simp (maxDischargeDepth := 20) [h]
@[simp] theorem State.sweepFrom_stamps (n : Nat) (s : State) (h : State.stampsFrom base s) : State.stampsFrom base (State.sweepFrom n s) := by
  induction n generalizing s with
  | zero => simpa [State.sweepFrom] using h
  | succ n ih => unfold State.sweepFrom; (repeat' split) <;> simp (maxDischargeDepth := 20) [ih, h]
@[simp] theorem State.sweepWalk_stamps (s : State) (h : State.stampsFrom base s) : State.stampsFrom base (State.sweepWalk s) := by
  unfold State.sweepWalk; (repeat' (first | split | dsimp only)) <;> simp (maxDischargeDepth := 20) [h]
@[simp] theorem State.listRegion_stamps (s : State) (r : Region) (h : State.stampsFrom base s) : State.stampsFrom base (State.listRegion s r) := by
  unfold State.listRegion; (repeat' (first | split | dsimp only)) <;> simp (maxDischargeDepth := 20) [h]
@[simp] theorem State.dropPull_stamps (s : State) (r : Region) (h : State.stampsFrom base s) : State.stampsFrom base (State.dropPull s r) := by
  unfold State.dropPull; (repeat' (first | split | dsimp only)) <;> simp (maxDischargeDepth := 20) [h]
@[simp] theorem State.postStale_stamps (s : State) (r : Region) (h : State.stampsFrom base s) : State.stampsFrom base (State.postStale s r) := by
  unfold State.postStale; (repeat' (first | split | dsimp only)) <;> simp (maxDischargeDepth := 20) [h]
@[simp] theorem State.parkRegion_stamps (s : State) (r : Region) (h : State.stampsFrom base s) : State.stampsFrom base (State.parkRegion s r) := by
  unfold State.parkRegion; (repeat' (first | split | dsimp only)) <;> simp (maxDischargeDepth := 20) [h]
@[simp] theorem State.afterClosure_stamps (s : State) (r : Region) (park : Bool) (h : State.stampsFrom base s) : State.stampsFrom base (State.afterClosure s r park) := by
  unfold State.afterClosure; (repeat' (first | split | dsimp only)) <;> simp (maxDischargeDepth := 20) [h]
@[simp] theorem State.closePull_stamps (s : State) (r : Region) (park : Bool) (h : State.stampsFrom base s) : State.stampsFrom base (State.closePull s r park) := by
  unfold State.closePull; (repeat' (first | split | dsimp only)) <;> simp (maxDischargeDepth := 20) [h]
@[simp] theorem State.closeAllPulls_stamps (s : State) (h : State.stampsFrom base s) : State.stampsFrom base (State.closeAllPulls s) := by
  unfold State.closeAllPulls
  exact foldl_preserves (fun t : State => State.stampsFrom base t) _ (fun t x ht => by simp [ht]) _ _ (by simp (maxDischargeDepth := 20) [h])
@[simp] theorem State.queuePull_stamps (s : State) (p : PullRecord) (h : State.stampsFrom base s) : State.stampsFrom base (State.queuePull s p) := by
  unfold State.queuePull; (repeat' (first | split | dsimp only)) <;> simp (maxDischargeDepth := 20) [h]
@[simp] theorem State.queuePulls_stamps (s : State) (h : State.stampsFrom base s) : State.stampsFrom base (State.queuePulls s) := by
  unfold State.queuePulls
  exact foldl_preserves (fun t : State => State.stampsFrom base t) _ (fun t x ht => by simp [ht]) _ _ (by simp (maxDischargeDepth := 20) [h])
@[simp] theorem State.addPull_stamps (s : State) (r : Region) (n : Station) (h : State.stampsFrom base s) : State.stampsFrom base (State.addPull s r n) := by
  unfold State.addPull; (repeat' (first | split | dsimp only)) <;> simp (maxDischargeDepth := 20) [h]
@[simp] theorem State.openPull_stamps (s : State) (r : Region) (n : Station) (kept : Cause) (h : State.stampsFrom base s) : State.stampsFrom base (State.openPull s r n kept) := by
  unfold State.openPull; (repeat' (first | split | dsimp only)) <;> simp (maxDischargeDepth := 20) [h]
@[simp] theorem State.openPullsFrom_stamps (n : Nat) (s : State) (h : State.stampsFrom base s) : State.stampsFrom base (State.openPullsFrom n s) := by
  induction n generalizing s with
  | zero => simpa [State.openPullsFrom] using h
  | succ n ih =>
    rcases h' : s.nextPull with _ | p
    · simpa [State.openPullsFrom_none n s h'] using h
    · rw [State.openPullsFrom_some n s p h']; exact ih _ (by simp [h])
@[simp] theorem State.openPulls_stamps (s : State) (h : State.stampsFrom base s) : State.stampsFrom base (State.openPulls s) := by
  unfold State.openPulls; (repeat' (first | split | dsimp only)) <;> simp (maxDischargeDepth := 20) [h]
@[simp] theorem State.reportMark_stamps (s : State) (r : Region) (c : Cause) (h : State.stampsFrom base s) : State.stampsFrom base (State.reportMark s r c) := by
  unfold State.reportMark; (repeat' (first | split | dsimp only)) <;> simp (maxDischargeDepth := 20) [h]
@[simp] theorem State.unpark_stamps (s : State) (r : Region) (h : State.stampsFrom base s) : State.stampsFrom base (State.unpark s r) := by
  unfold State.unpark; (repeat' (first | split | dsimp only)) <;> simp (maxDischargeDepth := 20) [h]
@[simp] theorem State.markStale_stamps (s : State) (r : Region) (c : Cause) (h : State.stampsFrom base s) : State.stampsFrom base (State.markStale s r c) := by
  unfold State.markStale; (repeat' (first | split | dsimp only)) <;> simp (maxDischargeDepth := 20) [h]
@[simp] theorem State.dropFront_stamps (s : State) (r : Region) (h : State.stampsFrom base s) : State.stampsFrom base (State.dropFront s r) := by
  unfold State.dropFront; (repeat' (first | split | dsimp only)) <;> simp (maxDischargeDepth := 20) [h]
@[simp] theorem State.surrender_stamps (s : State) (r : Region) (h : s.stampsFrom base) : (s.surrender r).stampsFrom base := by
  unfold State.surrender
  have := State.mapEntry_stamps (base := base) (s.endServing r) r RegionEntry.clearFlags (fun _ => rfl) (by simp [h])
  simp (maxDischargeDepth := 20) [this]
@[simp] theorem State.assume_stamps (s : State) (r : Region) (h : State.stampsFrom base s) : State.stampsFrom base (State.assume s r) := by
  unfold State.assume; (repeat' (first | split | dsimp only)) <;> simp (maxDischargeDepth := 20) [h]
@[simp] theorem State.partOld_stamps (s : State) (r : Region) (self : Bool) (h : State.stampsFrom base s) : State.stampsFrom base (State.partOld s r self) := by
  unfold State.partOld; (repeat' (first | split | dsimp only)) <;> simp (maxDischargeDepth := 20) [h]
@[simp] theorem State.partNew_stamps (s : State) (r : Region) (self : Bool) (h : State.stampsFrom base s) : State.stampsFrom base (State.partNew s r self) := by
  unfold State.partNew; (repeat' (first | split | dsimp only)) <;> simp (maxDischargeDepth := 20) [h]
@[simp] theorem State.changeOwner_stamps (s : State) (r : Region) (o : Option Owner) (h : State.stampsFrom base s) : State.stampsFrom base (State.changeOwner s r o) := by
  unfold State.changeOwner; (repeat' (first | split | dsimp only)) <;> simp (maxDischargeDepth := 20) [h]
@[simp] theorem State.setState_stamps (s : State) (st : StationState) (h : State.stampsFrom base s) : State.stampsFrom base (State.setState s st) := by
  unfold State.setState; (repeat' (first | split | dsimp only)) <;> simp (maxDischargeDepth := 20) [h]
@[simp] theorem State.quorumCheck_stamps (s : State) (h : State.stampsFrom base s) : State.stampsFrom base (State.quorumCheck s) := by
  unfold State.quorumCheck; (repeat' (first | split | dsimp only)) <;> simp (maxDischargeDepth := 20) [h]
@[simp] theorem State.mapRosterEntry_stamps (s : State) (n : Station) (f : RosterEntry → RosterEntry) (h : State.stampsFrom base s) : State.stampsFrom base (State.mapRosterEntry s n f) := by
  unfold State.mapRosterEntry; (repeat' (first | split | dsimp only)) <;> simp (maxDischargeDepth := 20) [h]
@[simp] theorem State.targetsFollow_stamps (s : State) (n : Station) (st : Presence) (h : State.stampsFrom base s) : State.stampsFrom base (State.targetsFollow s n st) := by
  unfold State.targetsFollow; (repeat' (first | split | dsimp only)) <;> simp (maxDischargeDepth := 20) [h]
@[simp] theorem State.differsFollows_stamps (s : State) (n : Station) (st : Presence) (h : State.stampsFrom base s) : State.stampsFrom base (State.differsFollows s n st) := by
  unfold State.differsFollows; (repeat' (first | split | dsimp only)) <;> simp (maxDischargeDepth := 20) [h]
@[simp] theorem State.statusChange_stamps (s : State) (n : Station) (st : Presence) (h : State.stampsFrom base s) : State.stampsFrom base (State.statusChange s n st) := by
  unfold State.statusChange; (repeat' (first | split | dsimp only)) <;> simp (maxDischargeDepth := 20) [h]
@[simp] theorem State.clearRoster_stamps (s : State) (h : State.stampsFrom base s) : State.stampsFrom base (State.clearRoster s) := by
  unfold State.clearRoster; (repeat' (first | split | dsimp only)) <;> simp (maxDischargeDepth := 20) [h]
@[simp] theorem State.followFrame_stamps (s : State) (f : Frame) (h : State.stampsFrom base s) : State.stampsFrom base (State.followFrame s f) := by
  unfold State.followFrame; (repeat' (first | split | dsimp only)) <;> simp (maxDischargeDepth := 20) [h]
@[simp] theorem State.checkMembers_stamps (s : State) (f : Frame) (h : State.stampsFrom base s) : State.stampsFrom base (State.checkMembers s f) := by
  unfold State.checkMembers; (repeat' (first | split | dsimp only)) <;> simp (maxDischargeDepth := 20) [h]
@[simp] theorem State.rosterHandoff_stamps (s : State) (f : Frame) (h : State.stampsFrom base s) : State.stampsFrom base (State.rosterHandoff s f) := by
  unfold State.rosterHandoff; (repeat' (first | split | dsimp only)) <;> simp (maxDischargeDepth := 20) [h]
@[simp] theorem State.learnOwner_stamps (s : State) (r : Region) (o : Station) (e : Epoch) (h : State.stampsFrom base s) : State.stampsFrom base (State.learnOwner s r o e) := by
  unfold State.learnOwner; (repeat' (first | split | dsimp only)) <;> simp (maxDischargeDepth := 20) [h]
@[simp] theorem State.addFront_stamps (s : State) (r : Region) (h : State.stampsFrom base s) : State.stampsFrom base (State.addFront s r) := by
  unfold State.addFront; (repeat' (first | split | dsimp only)) <;> simp (maxDischargeDepth := 20) [h]
@[simp] theorem State.loseConflict_stamps (s : State) (r : Region) (o : Station) (stamp : Stamp) (h : State.stampsFrom base s) : State.stampsFrom base (State.loseConflict s r o stamp) := by
  unfold State.loseConflict; (repeat' (first | split | dsimp only)) <;> simp (maxDischargeDepth := 20) [h]
@[simp] theorem State.resolveConflict_stamps (s : State) (r : Region) (o : Station) (stamp : Stamp) (h : State.stampsFrom base s) : State.stampsFrom base (State.resolveConflict s r o stamp) := by
  unfold State.resolveConflict; (repeat' (first | split | dsimp only)) <;> simp (maxDischargeDepth := 20) [h]
@[simp] theorem State.claimCopy_stamps (s : State) (r : Region) (stamp : Stamp) (h : s.stampsFrom base) :
    (s.claimCopy r stamp).stampsFrom base := by
  unfold State.claimCopy
  split
  · rename_i e
    exact State.mapEntry_stampsUp _ _ _ (by rw [e]; exact stampUpTo_nextEpoch _) h
  · simp [h]
@[simp] theorem State.yielded_stamps (s : State) (r : Region) (former : Bool) (h : State.stampsFrom base s) : State.stampsFrom base (State.yielded s r former) := by
  unfold State.yielded; (repeat' (first | split | dsimp only)) <;> simp (maxDischargeDepth := 20) [h]
@[simp] theorem State.claimOwner_stamps (s : State) (c : Station) (r : Region) (stamp : Stamp) (h : State.stampsFrom base s) : State.stampsFrom base (State.claimOwner s c r stamp) := by
  unfold State.claimOwner; (repeat' (first | split | dsimp only)) <;> simp (maxDischargeDepth := 20) [h]
@[simp] theorem State.applyClaim_stamps (s : State) (c : Station) (r : Region) (stamp : Stamp) (h : State.stampsFrom base s) : State.stampsFrom base (State.applyClaim s c r stamp) := by
  unfold State.applyClaim; (repeat' (first | split | dsimp only)) <;> simp (maxDischargeDepth := 20) [h]
@[simp] theorem State.postStales_stamps (s : State) (rs : List Region) (h : State.stampsFrom base s) : State.stampsFrom base (State.postStales s rs) := by
  unfold State.postStales
  exact foldl_preserves (fun t : State => State.stampsFrom base t) _ (fun t x ht => by simp [ht]) _ _ (by simp (maxDischargeDepth := 20) [h])
@[simp] theorem State.postIsolation_stamps (s : State) (h : State.stampsFrom base s) : State.stampsFrom base (State.postIsolation s) := by
  unfold State.postIsolation; (repeat' (first | split | dsimp only)) <;> simp (maxDischargeDepth := 20) [h]
@[simp] theorem State.wakeUp_stamps (s : State) (coincidence : Option Region) (h : State.stampsFrom base s) : State.stampsFrom base (State.wakeUp s coincidence) := by
  unfold State.wakeUp; (repeat' (first | split | dsimp only)) <;> simp (maxDischargeDepth := 20) [h]
@[simp] theorem State.endVote_stamps (s : State) (r : Region) (h : State.stampsFrom base s) : State.stampsFrom base (State.endVote s r) := by
  unfold State.endVote; (repeat' (first | split | dsimp only)) <;> simp (maxDischargeDepth := 20) [h]
@[simp] theorem State.dropFrame_stamps (s : State) (h : State.stampsFrom base s) : State.stampsFrom base (State.dropFrame s) := by
  unfold State.dropFrame; (repeat' (first | split | dsimp only)) <;> simp (maxDischargeDepth := 20) [h]
@[simp] theorem State.lineOff_stamps (s : State) (h : State.stampsFrom base s) : State.stampsFrom base (State.lineOff s) := by
  unfold State.lineOff; (repeat' (first | split | dsimp only)) <;> simp (maxDischargeDepth := 20) [h]
@[simp] theorem State.disown_stamps (s : State) (r : Region) (h : State.stampsFrom base s) : State.stampsFrom base (State.disown s r) := by
  unfold State.disown; (repeat' (first | split | dsimp only)) <;> simp (maxDischargeDepth := 20) [h]
@[simp] theorem State.haltRegion_stamps (s : State) (r : Region) (h : State.stampsFrom base s) : State.stampsFrom base (State.haltRegion s r) := by
  unfold State.haltRegion; (repeat' (first | split | dsimp only)) <;> simp (maxDischargeDepth := 20) [h]
@[simp] theorem State.haltApply_stamps (s : State) (h : State.stampsFrom base s) : State.stampsFrom base (State.haltApply s) := by
  unfold State.haltApply
  exact foldl_preserves (fun t : State => State.stampsFrom base t) _ (fun t x ht => by simp [ht]) _ _ (by simp (maxDischargeDepth := 20) [h])
@[simp] theorem State.stopTimers_stamps (s : State) (h : State.stampsFrom base s) : State.stampsFrom base (State.stopTimers s) := by
  unfold State.stopTimers; (repeat' (first | split | dsimp only)) <;> simp (maxDischargeDepth := 20) [h]
@[simp] theorem State.clearOutbox_stamps (s : State) (h : State.stampsFrom base s) : State.stampsFrom base (State.clearOutbox s) := by
  unfold State.clearOutbox; (repeat' (first | split | dsimp only)) <;> simp (maxDischargeDepth := 20) [h]
@[simp] theorem State.halt_stamps (s : State) (c : HaltCause) (h : State.stampsFrom base s) : State.stampsFrom base (State.halt s c) := by
  unfold State.halt; (repeat' (first | split | dsimp only)) <;> simp (maxDischargeDepth := 20) [h]
@[simp] theorem State.goOffline_stamps (s : State) (h : State.stampsFrom base s) : State.stampsFrom base (State.goOffline s) := by
  unfold State.goOffline; (repeat' (first | split | dsimp only)) <;> simp (maxDischargeDepth := 20) [h]
@[simp] theorem State.drainEnd_stamps (s : State) (h : State.stampsFrom base s) : State.stampsFrom base (State.drainEnd s) := by
  unfold State.drainEnd; (repeat' (first | split | dsimp only)) <;> simp (maxDischargeDepth := 20) [h]
@[simp] theorem State.finalEnd_stamps (s : State) (h : State.stampsFrom base s) : State.stampsFrom base (State.finalEnd s) := by
  unfold State.finalEnd; (repeat' (first | split | dsimp only)) <;> simp (maxDischargeDepth := 20) [h]
@[simp] theorem State.setIntent_stamps (s : State) (i : Option Intent) (h : State.stampsFrom base s) : State.stampsFrom base (State.setIntent s i) := by
  unfold State.setIntent; (repeat' (first | split | dsimp only)) <;> simp (maxDischargeDepth := 20) [h]
@[simp] theorem State.grantHost_stamps (s : State) (h : State.stampsFrom base s) : State.stampsFrom base (State.grantHost s) := by
  unfold State.grantHost; (repeat' (first | split | dsimp only)) <;> simp (maxDischargeDepth := 20) [h]
@[simp] theorem State.grantHead_stamps (s : State) (h : State.stampsFrom base s) : State.stampsFrom base (State.grantHead s) := by
  unfold State.grantHead; (repeat' (first | split | dsimp only)) <;> simp (maxDischargeDepth := 20) [h]
@[simp] theorem State.grantImage_stamps (s : State) (v : ServingRecord) (h : State.stampsFrom base s) : State.stampsFrom base (State.grantImage s v) := by
  unfold State.grantImage; (repeat' (first | split | dsimp only)) <;> simp (maxDischargeDepth := 20) [h]
@[simp] theorem State.arbitrate_stamps (s : State) (h : State.stampsFrom base s) : State.stampsFrom base (State.arbitrate s) := by
  unfold State.arbitrate; (repeat' (first | split | dsimp only)) <;> simp (maxDischargeDepth := 20) [h]
@[simp] theorem State.resume_stamps (s : State) (h : State.stampsFrom base s) : State.stampsFrom base (State.resume s) := by
  unfold State.resume; (repeat' (first | split | dsimp only)) <;> simp (maxDischargeDepth := 20) [h]
@[simp] theorem State.settle_stamps (s : State) (h : State.stampsFrom base s) : State.stampsFrom base (State.settle s) := by
  unfold State.settle; (repeat' (first | split | dsimp only)) <;> simp (maxDischargeDepth := 20) [h]
@[simp] theorem State.afterAttempt_stamps (s : State) (h : State.stampsFrom base s) : State.stampsFrom base (State.afterAttempt s) := by
  unfold State.afterAttempt; (repeat' (first | split | dsimp only)) <;> simp (maxDischargeDepth := 20) [h]
@[simp] theorem State.refusePut_stamps (s : State) (h : State.stampsFrom base s) : State.stampsFrom base (State.refusePut s) := by
  unfold State.refusePut; (repeat' (first | split | dsimp only)) <;> simp (maxDischargeDepth := 20) [h]
@[simp] theorem State.undriven_stamps (s : State) (h : State.stampsFrom base s) : State.stampsFrom base (State.undriven s) := by
  unfold State.undriven; (repeat' (first | split | dsimp only)) <;> simp (maxDischargeDepth := 20) [h]
@[simp] theorem State.takeBits_stamps (s : State) (bits : Nat) (h : State.stampsFrom base s) : State.stampsFrom base (State.takeBits s bits) := by
  unfold State.takeBits; (repeat' (first | split | dsimp only)) <;> simp (maxDischargeDepth := 20) [h]
@[simp] theorem State.pollBit_stamps (s : State) (h : State.stampsFrom base s) : State.stampsFrom base (State.pollBit s) := by
  unfold State.pollBit; (repeat' (first | split | dsimp only)) <;> simp (maxDischargeDepth := 20) [h]
@[simp] theorem State.pollBits_stamps (n : Nat) (s : State) (h : State.stampsFrom base s) : State.stampsFrom base (State.pollBits n s) := by
  induction n generalizing s with
  | zero => simpa [State.pollBits] using h
  | succ n ih => unfold State.pollBits; exact ih _ (by simp [h])
@[simp] theorem State.pollRun_stamps (s : State) (run : PollRun) (h : State.stampsFrom base s) : State.stampsFrom base (State.pollRun s run) := by
  unfold State.pollRun; (repeat' (first | split | dsimp only)) <;> simp (maxDischargeDepth := 20) [h]
@[simp] theorem State.startRead_stamps (s : State) (r : Region) (offset length : Nat) (h : State.stampsFrom base s) : State.stampsFrom base (State.startRead s r offset length) := by
  unfold State.startRead; (repeat' (first | split | dsimp only)) <;> simp (maxDischargeDepth := 20) [h]
@[simp] theorem State.takeRoom_stamps (s : State) (r : Region) (h : State.stampsFrom base s) : State.stampsFrom base (State.takeRoom s r) := by
  unfold State.takeRoom; (repeat' (first | split | dsimp only)) <;> simp (maxDischargeDepth := 20) [h]
@[simp] theorem State.startClaim_stamps (s : State) (r : Region) (guardPin : Bool) (h : State.stampsFrom base s) : State.stampsFrom base (State.startClaim s r guardPin) := by
  unfold State.startClaim; (repeat' (first | split | dsimp only)) <;> simp (maxDischargeDepth := 20) [h]
@[simp] theorem State.setYield_stamps (s : State) (code : Byte) (r : Region) (yes : Bool) (h : State.stampsFrom base s) : State.stampsFrom base (State.setYield s code r yes) := by
  unfold State.setYield; (repeat' (first | split | dsimp only)) <;> simp (maxDischargeDepth := 20) [h]
@[simp] theorem State.openFence_stamps (s : State) (h : State.stampsFrom base s) : State.stampsFrom base (State.openFence s) := by
  unfold State.openFence; (repeat' (first | split | dsimp only)) <;> simp (maxDischargeDepth := 20) [h]
@[simp] theorem State.formatClear_stamps (s : State) (h : State.stampsFrom base s) : State.stampsFrom base (State.formatClear s) := by
  unfold State.formatClear; (repeat' (first | split | dsimp only)) <;> simp (maxDischargeDepth := 20) [h]
@[simp] theorem State.formatIntent_stamps (s : State) (h : State.stampsFrom base s) : State.stampsFrom base (State.formatIntent s) := by
  unfold State.formatIntent; (repeat' (first | split | dsimp only)) <;> simp (maxDischargeDepth := 20) [h]
@[simp] theorem State.startListening_stamps (s : State) (h : State.stampsFrom base s) : State.stampsFrom base (State.startListening s) := by
  unfold State.startListening; (repeat' (first | split | dsimp only)) <;> simp (maxDischargeDepth := 20) [h]
@[simp] theorem State.startLeaving_stamps (s : State) (h : State.stampsFrom base s) : State.stampsFrom base (State.startLeaving s) := by
  unfold State.startLeaving; (repeat' (first | split | dsimp only)) <;> simp (maxDischargeDepth := 20) [h]
@[simp] theorem State.endOp_stamps (s : State) (h : State.stampsFrom base s) : State.stampsFrom base (State.endOp s) := by
  unfold State.endOp; (repeat' (first | split | dsimp only)) <;> simp (maxDischargeDepth := 20) [h]
@[simp] theorem State.writeArray_stamps (s : State) (r : Region) (k : Nat) (data : List Byte) (h : State.stampsFrom base s) : State.stampsFrom base (State.writeArray s r k data) := by
  unfold State.writeArray; (repeat' (first | split | dsimp only)) <;> simp (maxDischargeDepth := 20) [h]
@[simp] theorem State.setupWritten_stamps (s : State) (members : StationMap) (guardSet : RegionMap) (h : State.stampsFrom base s) : State.stampsFrom base (State.setupWritten s members guardSet) := by
  unfold State.setupWritten; (repeat' (first | split | dsimp only)) <;> simp (maxDischargeDepth := 20) [h]
@[simp] theorem State.readPiece_stamps (s : State) (w : ReadWork) (h : State.stampsFrom base s) : State.stampsFrom base (State.readPiece s w) := by
  unfold State.readPiece; (repeat' (first | split | dsimp only)) <;> simp (maxDischargeDepth := 20) [h]
@[simp] theorem State.queueWrite_stamps (s : State) (w : WriteWork) (e : RegionEntry) (h : State.stampsFrom base s) : State.stampsFrom base (State.queueWrite s w e) := by
  unfold State.queueWrite; (repeat' (first | split | dsimp only)) <;> simp (maxDischargeDepth := 20) [h]
@[simp] theorem State.ownerWrote_stamps (s : State) (w : WriteWork) (h : s.stampsFrom base) :
    (s.ownerWrote w).stampsFrom base := by
  unfold State.ownerWrote
  have := State.mapEntry_stampsUp s w.region ({ · with stamp := nextVersion s.table[w.region].stamp })
    (stampUpTo_nextVersion _) h
  simp only [Fin.getElem_fin] at this ⊢
  simp (maxDischargeDepth := 20) [this]
@[simp] theorem State.concludeWrite_stamps (s : State) (w : WriteWork) (h : State.stampsFrom base s) : State.stampsFrom base (State.concludeWrite s w) := by
  unfold State.concludeWrite; (repeat' (first | split | dsimp only)) <;> simp (maxDischargeDepth := 20) [h]
@[simp] theorem State.writeDone_stamps (s : State) (w : WriteWork) (h : State.stampsFrom base s) : State.stampsFrom base (State.writeDone s w) := by
  unfold State.writeDone; (repeat' (first | split | dsimp only)) <;> simp (maxDischargeDepth := 20) [h]
@[simp] theorem State.putPull_stamps (s : State) (p : PullRecord) (h : State.stampsFrom base s) : State.stampsFrom base (State.putPull s p) := by
  unfold State.putPull; (repeat' (first | split | dsimp only)) <;> simp (maxDischargeDepth := 20) [h]
@[simp] theorem State.completePull_stamps (s : State) (p : PullRecord) (c : Stamp) (h : s.stampsFrom base) :
    (s.completePull p c).stampsFrom base := by
  unfold State.completePull
  have := State.mapEntry_stampsUp s p.region
    (fun e => { e with stamp := if stampLower c e.stamp then e.stamp else c, copy := .current })
    (by dsimp only; split
        · exact stampUpTo_refl _
        · rename_i h'; simpa [stampUpTo] using h') h
  simp (maxDischargeDepth := 20) [this]
@[simp] theorem State.chunkWritten_stamps (s : State) (k : Chunk) (stamp : Stamp) (pull : Nat) (h : State.stampsFrom base s) : State.stampsFrom base (State.chunkWritten s k stamp pull) := by
  unfold State.chunkWritten; (repeat' (first | split | dsimp only)) <;> simp (maxDischargeDepth := 20) [h]
@[simp] theorem State.chunkWrittenInReset_stamps (s : State) (k : Chunk) (stamp : Stamp) (pull : Nat) (h : State.stampsFrom base s) : State.stampsFrom base (State.chunkWrittenInReset s k stamp pull) := by
  unfold State.chunkWrittenInReset; (repeat' (first | split | dsimp only)) <;> simp (maxDischargeDepth := 20) [h]
@[simp] theorem State.applied_stamps (s : State) (b : ApplyBody) (h : State.stampsFrom base s) : State.stampsFrom base (State.applied s b) := by
  unfold State.applied; (repeat' (first | split | dsimp only)) <;> simp (maxDischargeDepth := 20) [h]
@[simp] theorem State.applyDone_stamps (s : State) (e : ApplyEntry) (rest : List ApplyEntry) (h : State.stampsFrom base s) : State.stampsFrom base (State.applyDone s e rest) := by
  unfold State.applyDone; (repeat' (first | split | dsimp only)) <;> simp (maxDischargeDepth := 20) [h]
@[simp] theorem State.chunkRead_stamps (s : State) (r : Region) (k : Chunk) (stamp : Stamp) (live : Bool) (h : State.stampsFrom base s) : State.stampsFrom base (State.chunkRead s r k stamp live) := by
  unfold State.chunkRead; (repeat' (first | split | dsimp only)) <;> simp (maxDischargeDepth := 20) [h]
@[simp] theorem State.sendBeacon_stamps (s : State) (h : State.stampsFrom base s) : State.stampsFrom base (State.sendBeacon s) := by
  unfold State.sendBeacon; (repeat' (first | split | dsimp only)) <;> simp (maxDischargeDepth := 20) [h]
@[simp] theorem State.unheldUnless_stamps (s : State) (won : Bool) (r : Region) (h : State.stampsFrom base s) : State.stampsFrom base (State.unheldUnless s won r) := by
  unfold State.unheldUnless; (repeat' (first | split | dsimp only)) <;> simp (maxDischargeDepth := 20) [h]
@[simp] theorem State.claimOver_stamps (s : State) (r : Region) (source : ClaimSource) (won : Bool) (h : State.stampsFrom base s) : State.stampsFrom base (State.claimOver s r source won) := by
  unfold State.claimOver; (repeat' (first | split | dsimp only)) <;> simp (maxDischargeDepth := 20) [h]
@[simp] theorem State.withdraw_stamps (s : State) (e : OutEntry) (source : ClaimSource) (why : LostReason) (h : State.stampsFrom base s) : State.stampsFrom base (State.withdraw s e source why) := by
  unfold State.withdraw; (repeat' (first | split | dsimp only)) <;> simp (maxDischargeDepth := 20) [h]
@[simp] theorem State.sendEntry_stamps (s : State) (e : OutEntry) (h : State.stampsFrom base s) : State.stampsFrom base (State.sendEntry s e) := by
  unfold State.sendEntry; (repeat' (first | split | dsimp only)) <;> simp (maxDischargeDepth := 20) [h]
@[simp] theorem State.offerFrom_stamps (n : Nat) (s : State) (h : State.stampsFrom base s) : State.stampsFrom base (State.offerFrom n s) := by
  induction n generalizing s with
  | zero => simpa [State.offerFrom] using h
  | succ n ih => rcases h' : s.nextOffer <;> simp (maxDischargeDepth := 20) [State.offerFrom, h', ih, h]
@[simp] theorem State.offer_stamps (s : State) (h : State.stampsFrom base s) : State.stampsFrom base (State.offer s) := by
  unfold State.offer; (repeat' (first | split | dsimp only)) <;> simp (maxDischargeDepth := 20) [h]
@[simp] theorem State.returnBeacon_stamps (s : State) (b : BeaconFrame) (h : State.stampsFrom base s) : State.stampsFrom base (State.returnBeacon s b) := by
  unfold State.returnBeacon; (repeat' (first | split | dsimp only)) <;> simp (maxDischargeDepth := 20) [h]
@[simp] theorem State.attemptLost_stamps (s : State) (t : TxSlot) (h : State.stampsFrom base s) : State.stampsFrom base (State.attemptLost s t) := by
  unfold State.attemptLost; (repeat' (first | split | dsimp only)) <;> simp (maxDischargeDepth := 20) [h]
@[simp] theorem State.countFault_stamps (s : State) (h : State.stampsFrom base s) : State.stampsFrom base (State.countFault s) := by
  unfold State.countFault; (repeat' (first | split | dsimp only)) <;> simp (maxDischargeDepth := 20) [h]
@[simp] theorem State.answerAfterFault_stamps (s : State) (place : FaultPlace) (f : Frame) (h : State.stampsFrom base s) : State.stampsFrom base (State.answerAfterFault s place f) := by
  unfold State.answerAfterFault; (repeat' (first | split | dsimp only)) <;> simp (maxDischargeDepth := 20) [h]
@[simp] theorem State.postStranger_stamps (s : State) (n : Station) (h : State.stampsFrom base s) : State.stampsFrom base (State.postStranger s n) := by
  unfold State.postStranger; (repeat' (first | split | dsimp only)) <;> simp (maxDischargeDepth := 20) [h]
@[simp] theorem State.strangerHeard_stamps (s : State) (n : Station) (h : State.stampsFrom base s) : State.stampsFrom base (State.strangerHeard s n) := by
  unfold State.strangerHeard; (repeat' (first | split | dsimp only)) <;> simp (maxDischargeDepth := 20) [h]
@[simp] theorem State.imageHeard_stamps (s : State) (i : ImageFrame) (h : State.stampsFrom base s) : State.stampsFrom base (State.imageHeard s i) := by
  unfold State.imageHeard; (repeat' (first | split | dsimp only)) <;> simp (maxDischargeDepth := 20) [h]
@[simp] theorem State.compareStamp_stamps (s : State) (o : Station) (e : CensusEntry) (h : State.stampsFrom base s) : State.stampsFrom base (State.compareStamp s o e) := by
  unfold State.compareStamp; (repeat' (first | split | dsimp only)) <;> simp (maxDischargeDepth := 20) [h]
@[simp] theorem State.compareIfOwner_stamps (s : State) (o : Station) (e : CensusEntry) (h : State.stampsFrom base s) : State.stampsFrom base (State.compareIfOwner s o e) := by
  unfold State.compareIfOwner; (repeat' (first | split | dsimp only)) <;> simp (maxDischargeDepth := 20) [h]
@[simp] theorem State.censusCase_stamps (s : State) (o : Station) (e : CensusEntry) (h : State.stampsFrom base s) : State.stampsFrom base (State.censusCase s o e) := by
  unfold State.censusCase; (repeat' (first | split | dsimp only)) <;> simp (maxDischargeDepth := 20) [h]
@[simp] theorem State.censusEntry_stamps (o : Station) (s : State) (e : CensusEntry) (h : State.stampsFrom base s) : State.stampsFrom base (State.censusEntry o s e) := by
  unfold State.censusEntry; (repeat' (first | split | dsimp only)) <;> simp (maxDischargeDepth := 20) [h]
@[simp] theorem State.censusList_stamps (s : State) (o : Station) (es : List CensusEntry) (h : State.stampsFrom base s) : State.stampsFrom base (State.censusList s o es) := by
  unfold State.censusList
  exact foldl_preserves (fun t : State => State.stampsFrom base t) _ (fun t x ht => by simp [ht]) _ _ (by simp (maxDischargeDepth := 20) [h])
@[simp] theorem State.markIfBehind_stamps (s : State) (u : UpdateFrame) (h : State.stampsFrom base s) : State.stampsFrom base (State.markIfBehind s u) := by
  unfold State.markIfBehind; (repeat' (first | split | dsimp only)) <;> simp (maxDischargeDepth := 20) [h]
@[simp] theorem State.listen_stamps (s : State) (f : Frame) (h : State.stampsFrom base s) : State.stampsFrom base (State.listen s f) := by
  unfold State.listen; (repeat' (first | split | dsimp only)) <;> simp (maxDischargeDepth := 20) [h]
@[simp] theorem State.restartAnswer_stamps (s : State) (f : Frame) (h : State.stampsFrom base s) : State.stampsFrom base (State.restartAnswer s f) := by
  unfold State.restartAnswer; (repeat' (first | split | dsimp only)) <;> simp (maxDischargeDepth := 20) [h]
@[simp] theorem State.listenIfListening_stamps (s : State) (f : Frame) (h : State.stampsFrom base s) : State.stampsFrom base (State.listenIfListening s f) := by
  unfold State.listenIfListening; (repeat' (first | split | dsimp only)) <;> simp (maxDischargeDepth := 20) [h]
@[simp] theorem State.handOn_stamps (s : State) (f : Frame) (h : State.stampsFrom base s) : State.stampsFrom base (State.handOn s f) := by
  unfold State.handOn; (repeat' (first | split | dsimp only)) <;> simp (maxDischargeDepth := 20) [h]
@[simp] theorem State.ownNumberHeard_stamps (s : State) (f : Frame) (h : State.stampsFrom base s) : State.stampsFrom base (State.ownNumberHeard s f) := by
  unfold State.ownNumberHeard; (repeat' (first | split | dsimp only)) <;> simp (maxDischargeDepth := 20) [h]
@[simp] theorem State.holdFrame_stamps (s : State) (f : Frame) (bit acked : Bool) (h : State.stampsFrom base s) : State.stampsFrom base (State.holdFrame s f bit acked) := by
  unfold State.holdFrame; (repeat' (first | split | dsimp only)) <;> simp (maxDischargeDepth := 20) [h]
@[simp] theorem State.beaconAct_stamps (b : BeaconFrame) (s : State) (h : State.stampsFrom base s) : State.stampsFrom base (State.beaconAct b s).2 := by
  unfold State.beaconAct; (repeat' (first | split | dsimp only)) <;> simp (maxDischargeDepth := 20) [h]
@[simp] theorem State.holdVote_stamps (s : State) (r : Region) (bit : Bool) (h : State.stampsFrom base s) : State.stampsFrom base (State.holdVote s r bit) := by
  unfold State.holdVote; (repeat' (first | split | dsimp only)) <;> simp (maxDischargeDepth := 20) [h]
@[simp] theorem State.wakeIfAsked_stamps (s : State) (r : Region) (h : State.stampsFrom base s) : State.stampsFrom base (State.wakeIfAsked s r) := by
  unfold State.wakeIfAsked; (repeat' (first | split | dsimp only)) <;> simp (maxDischargeDepth := 20) [h]
@[simp] theorem State.claimAct_stamps (c : ClaimFrame) (guardPin : Bool) (s : State) (h : State.stampsFrom base s) : State.stampsFrom base (State.claimAct c guardPin s).2 := by
  unfold State.claimAct; (repeat' (first | split | dsimp only)) <;> simp (maxDischargeDepth := 20) [h]
@[simp] theorem State.decidePull_stamps (s : State) (p : PullFrame) (h : State.stampsFrom base s) : State.stampsFrom base (State.decidePull s p).2 := by
  unfold State.decidePull; (repeat' (first | split | dsimp only)) <;> simp (maxDischargeDepth := 20) [h]
@[simp] theorem State.pullAct_stamps (p : PullFrame) (s : State) (h : State.stampsFrom base s) : State.stampsFrom base (State.pullAct p s).2 := by
  unfold State.pullAct; (repeat' (first | split | dsimp only)) <;> simp (maxDischargeDepth := 20) [h]
theorem State.takeUpdate_stamps (s : State) (u : UpdateFrame)
    (hu : stampUpTo s.table[u.region].stamp ⟨u.ownerEpoch, u.result⟩) (h : s.stampsFrom base) :
    (s.takeUpdate u).2.stampsFrom base := by
  unfold State.takeUpdate
  split
  · exact State.mapEntry_stampsUp _ _ _ (by simpa using hu) (by simp [h])
  · exact h
@[simp] theorem State.compareUpdate_stamps (s : State) (u : UpdateFrame) (h : s.stampsFrom base) :
    (s.compareUpdate u).2.stampsFrom base := by
  unfold State.compareUpdate
  split
  · exact h
  · rename_i h'
    have hu : stampUpTo s.table[u.region].stamp ⟨u.ownerEpoch, u.result⟩ := by simpa [stampUpTo] using h'
    (repeat' split) <;> first | exact State.takeUpdate_stamps s u hu h | simp [h]
@[simp] theorem State.updateIfOwner_stamps (s : State) (u : UpdateFrame) (h : State.stampsFrom base s) : State.stampsFrom base (State.updateIfOwner s u).2 := by
  unfold State.updateIfOwner; (repeat' (first | split | dsimp only)) <;> simp (maxDischargeDepth := 20) [h]
@[simp] theorem State.updateAct_stamps (u : UpdateFrame) (s : State) (h : State.stampsFrom base s) : State.stampsFrom base (State.updateAct u s).2 := by
  unfold State.updateAct; (repeat' (first | split | dsimp only)) <;> simp (maxDischargeDepth := 20) [h]
@[simp] theorem State.takeChunk_stamps (s : State) (p : PullRecord) (i : ImageFrame) (h : State.stampsFrom base s) : State.stampsFrom base (State.takeChunk s p i).2 := by
  unfold State.takeChunk; (repeat' (first | split | dsimp only)) <;> simp (maxDischargeDepth := 20) [h]
@[simp] theorem State.collect_stamps (s : State) (p : PullRecord) (i : ImageFrame) (h : State.stampsFrom base s) : State.stampsFrom base (State.collect s p i).2 := by
  unfold State.collect; (repeat' (first | split | dsimp only)) <;> simp (maxDischargeDepth := 20) [h]
@[simp] theorem State.collectIfAsked_stamps (s : State) (i : ImageFrame) (h : State.stampsFrom base s) : State.stampsFrom base (State.collectIfAsked s i).2 := by
  unfold State.collectIfAsked; (repeat' (first | split | dsimp only)) <;> simp (maxDischargeDepth := 20) [h]
@[simp] theorem State.imageAct_stamps (i : ImageFrame) (s : State) (h : State.stampsFrom base s) : State.stampsFrom base (State.imageAct i s).2 := by
  unfold State.imageAct; (repeat' (first | split | dsimp only)) <;> simp (maxDischargeDepth := 20) [h]
@[simp] theorem State.attemptDone_stamps (s : State) (h : State.stampsFrom base s) : State.stampsFrom base (State.attemptDone s) := by
  unfold State.attemptDone; (repeat' (first | split | dsimp only)) <;> simp (maxDischargeDepth := 20) [h]
@[simp] theorem State.receptionDone_stamps (s : State) (h : State.stampsFrom base s) : State.stampsFrom base (State.receptionDone s) := by
  unfold State.receptionDone; (repeat' (first | split | dsimp only)) <;> simp (maxDischargeDepth := 20) [h]
@[simp] theorem State.beaconSent_stamps (s : State) (b : BeaconFrame) (walkLast : Option Region) (ack : StationMap) (h : State.stampsFrom base s) : State.stampsFrom base (State.beaconSent s b walkLast ack) := by
  unfold State.beaconSent; (repeat' (first | split | dsimp only)) <;> simp (maxDischargeDepth := 20) [h]
@[simp] theorem State.ownBeaconEnd_stamps (s : State) (b : BeaconFrame) (walkLast : Option Region) (ack : StationMap) (h : State.stampsFrom base s) : State.stampsFrom base (State.ownBeaconEnd s b walkLast ack) := by
  unfold State.ownBeaconEnd; (repeat' (first | split | dsimp only)) <;> simp (maxDischargeDepth := 20) [h]
@[simp] theorem State.beaconHeard_stamps (s : State) (b : BeaconFrame) (h : State.stampsFrom base s) : State.stampsFrom base (State.beaconHeard s b) := by
  unfold State.beaconHeard; (repeat' (first | split | dsimp only)) <;> simp (maxDischargeDepth := 20) [h]
@[simp] theorem State.claimDecided_stamps (s : State) (c : ClaimFrame) (source : ClaimSource) (ack : StationMap) (h : State.stampsFrom base s) : State.stampsFrom base (State.claimDecided s c source ack) := by
  unfold State.claimDecided; (repeat' (first | split | dsimp only)) <;> simp (maxDischargeDepth := 20) [h]
@[simp] theorem State.ownClaimEnd_stamps (s : State) (c : ClaimFrame) (ack : StationMap) (h : State.stampsFrom base s) : State.stampsFrom base (State.ownClaimEnd s c ack) := by
  unfold State.ownClaimEnd; (repeat' (first | split | dsimp only)) <;> simp (maxDischargeDepth := 20) [h]
@[simp] theorem State.decideClaim_stamps (s : State) (c : ClaimFrame) (m : StationMap) (h : State.stampsFrom base s) : State.stampsFrom base (State.decideClaim s c m) := by
  unfold State.decideClaim; (repeat' (first | split | dsimp only)) <;> simp (maxDischargeDepth := 20) [h]
@[simp] theorem State.claimHeard_stamps (s : State) (acked : Bool) (c : ClaimFrame) (ack : StationMap) (h : State.stampsFrom base s) : State.stampsFrom base (State.claimHeard s acked c ack) := by
  unfold State.claimHeard; (repeat' (first | split | dsimp only)) <;> simp (maxDischargeDepth := 20) [h]
@[simp] theorem State.pullAnswered_stamps (s : State) (p : PullRecord) (ack : StationMap) (h : State.stampsFrom base s) : State.stampsFrom base (State.pullAnswered s p ack) := by
  unfold State.pullAnswered; (repeat' (first | split | dsimp only)) <;> simp (maxDischargeDepth := 20) [h]
@[simp] theorem State.ownPullEnd_stamps (s : State) (ack : StationMap) (h : State.stampsFrom base s) : State.stampsFrom base (State.ownPullEnd s ack) := by
  unfold State.ownPullEnd; (repeat' (first | split | dsimp only)) <;> simp (maxDischargeDepth := 20) [h]
@[simp] theorem State.settledShort_stamps (s : State) (r : Region) (u : UpdateEntry) (missing : StationMap) (h : State.stampsFrom base s) : State.stampsFrom base (State.settledShort s r u missing) := by
  unfold State.settledShort; (repeat' (first | split | dsimp only)) <;> simp (maxDischargeDepth := 20) [h]
@[simp] theorem State.retryUpdate_stamps (s : State) (h : State.stampsFrom base s) : State.stampsFrom base (State.retryUpdate s) := by
  unfold State.retryUpdate; (repeat' (first | split | dsimp only)) <;> simp (maxDischargeDepth := 20) [h]
@[simp] theorem State.settleUpdate_stamps (s : State) (r : Region) (u : UpdateEntry) (doom : Doom) (missing : StationMap) (h : State.stampsFrom base s) : State.stampsFrom base (State.settleUpdate s r u doom missing) := by
  unfold State.settleUpdate; (repeat' (first | split | dsimp only)) <;> simp (maxDischargeDepth := 20) [h]
@[simp] theorem State.ownUpdateEnd_stamps (s : State) (ack : StationMap) (h : State.stampsFrom base s) : State.stampsFrom base (State.ownUpdateEnd s ack) := by
  unfold State.ownUpdateEnd; (repeat' (first | split | dsimp only)) <;> simp (maxDischargeDepth := 20) [h]
@[simp] theorem State.imageAcked_stamps (s : State) (v : ServingRecord) (i : ImageEntry) (ack : StationMap) (h : State.stampsFrom base s) : State.stampsFrom base (State.imageAcked s v i ack) := by
  unfold State.imageAcked; (repeat' (first | split | dsimp only)) <;> simp (maxDischargeDepth := 20) [h]
@[simp] theorem State.ownImageEnd_stamps (s : State) (ack : StationMap) (h : State.stampsFrom base s) : State.stampsFrom base (State.ownImageEnd s ack) := by
  unfold State.ownImageEnd; (repeat' (first | split | dsimp only)) <;> simp (maxDischargeDepth := 20) [h]
@[simp] theorem State.silence_stamps (s : State) (n : Station) (h : State.stampsFrom base s) : State.stampsFrom base (State.silence s n) := by
  unfold State.silence; (repeat' (first | split | dsimp only)) <;> simp (maxDischargeDepth := 20) [h]
@[simp] theorem State.fallSilent_stamps (s : State) (n : Station) (h : State.stampsFrom base s) : State.stampsFrom base (State.fallSilent s n) := by
  unfold State.fallSilent; (repeat' (first | split | dsimp only)) <;> simp (maxDischargeDepth := 20) [h]
@[simp] theorem State.fallAbsent_stamps (s : State) (n : Station) (h : State.stampsFrom base s) : State.stampsFrom base (State.fallAbsent s n) := by
  unfold State.fallAbsent; (repeat' (first | split | dsimp only)) <;> simp (maxDischargeDepth := 20) [h]
@[simp] theorem State.joinComplete_stamps (s : State) (h : State.stampsFrom base s) : State.stampsFrom base (State.joinComplete s) := by
  unfold State.joinComplete; (repeat' (first | split | dsimp only)) <;> simp (maxDischargeDepth := 20) [h]
@[simp] theorem State.cut_stamps (s : State) (h : State.stampsFrom base s) : State.stampsFrom base (State.cut s) := by
  unfold State.cut; (repeat' (first | split | dsimp only)) <;> simp (maxDischargeDepth := 20) [h]
@[simp] theorem State.answerExpired_stamps (s : State) (p : PullRecord) (h : State.stampsFrom base s) : State.stampsFrom base (State.answerExpired s p) := by
  unfold State.answerExpired; (repeat' (first | split | dsimp only)) <;> simp (maxDischargeDepth := 20) [h]
@[simp] theorem State.advanceTimers_stamps (s : State) (h : s.stampsFrom base) : s.advanceTimers.stampsFrom base := h
@[simp] theorem State.tick_stamps (s : State) (h : State.stampsFrom base s) : State.stampsFrom base (State.tick s) := by
  unfold State.tick State.whenOn; (repeat' (first | split | dsimp only)) <;> simp (maxDischargeDepth := 20) [h]
@[simp] theorem State.cutWrite_stamps (s : State) (h : State.stampsFrom base s) : State.stampsFrom base (State.cutWrite s) := by
  unfold State.cutWrite; (repeat' (first | split | dsimp only)) <;> simp (maxDischargeDepth := 20) [h]
@[simp] theorem State.cutSetup_stamps (s : State) (h : State.stampsFrom base s) : State.stampsFrom base (State.cutSetup s) := by
  unfold State.cutSetup; (repeat' (first | split | dsimp only)) <;> simp (maxDischargeDepth := 20) [h]

end Sys2Proof.Machine
end

