-- ==== Sys2Proof/Laws/Limits.lean ====
section
/-! SUPPORT. The limits of the counted stores (R140, R114, R122, R52, R137, R37, R65) are kept by every operation. -/

namespace Sys2Proof.Machine

@[simp] theorem State.setPower_limits (s : State) (x) : (s.setPower x).limitsOk ↔ s.limitsOk := Iff.rfl
@[simp] theorem State.setUnsaved_limits (s : State) (x) : (s.setUnsaved x).limitsOk ↔ s.limitsOk := Iff.rfl
@[simp] theorem State.setNv_limits (s : State) (x) : (s.setNv x).limitsOk ↔ s.limitsOk := Iff.rfl
@[simp] theorem State.mapNv_limits (s : State) (f) : (s.mapNv f).limitsOk ↔ s.limitsOk := Iff.rfl
@[simp] theorem State.setPort_limits (s : State) (x) : (s.setPort x).limitsOk ↔ s.limitsOk := Iff.rfl
@[simp] theorem State.mapPort_limits (s : State) (f) : (s.mapPort f).limitsOk ↔ s.limitsOk := Iff.rfl
@[simp] theorem State.setEvents_limits (s : State) (x) : (s.setEvents x).limitsOk ↔ s.limitsOk := Iff.rfl
@[simp] theorem State.setCtl_limits (s : State) (x) : (s.setCtl x).limitsOk ↔ s.limitsOk := Iff.rfl
@[simp] theorem State.mapCtl_limits (s : State) (f) : (s.mapCtl f).limitsOk ↔ s.limitsOk := Iff.rfl
@[simp] theorem State.setTable_limits (s : State) (x) : (s.setTable x).limitsOk ↔ s.limitsOk := Iff.rfl
@[simp] theorem State.setSerial_limits (s : State) (x) : (s.setSerial x).limitsOk ↔ s.limitsOk := Iff.rfl
@[simp] theorem State.setFree_limits (s : State) (x) : (s.setFree x).limitsOk ↔ s.limitsOk := Iff.rfl
@[simp] theorem State.setPending_limits (s : State) (x) : (s.setPending x).limitsOk ↔ s.limitsOk := Iff.rfl
@[simp] theorem State.setEntry_limits (s : State) (r : Region) (e : RegionEntry) :
    (s.setEntry r e).limitsOk ↔ s.limitsOk := Iff.rfl
@[simp] theorem State.mapEntry_limits (s : State) (r : Region) (f : RegionEntry → RegionEntry) :
    (s.mapEntry r f).limitsOk ↔ s.limitsOk := Iff.rfl

/-- A change of the Line Interface that does not raise the fault count above its limit. -/
@[simp] theorem State.mapLine_limits (s : State) (f : Line → Line)
    (hf : (f s.line).faults = s.line.faults ∨ (f s.line).faults ≤ Config.faultLimit) (h : s.limitsOk) :
    (s.mapLine f).limitsOk := by
  obtain ⟨h1, h2, h3, h4, h5, h6, h7, h8⟩ := h
  refine ⟨h1, h2, h3, h4, h5, h6, ?_, h8⟩
  rcases hf with hf | hf
  · show (f s.line).faults ≤ _; rw [hf]; exact h7
  · exact hf

/-- A change of the Roster Unit that adds nothing to the census front list. -/
@[simp] theorem State.mapRoster_limits (s : State) (f : Roster → Roster)
    (hf : (f s.roster).front.Sublist s.roster.front) (h : s.limitsOk) : (s.mapRoster f).limitsOk := by
  obtain ⟨h1, h2, h3, h4, h5, h6, h7, h8⟩ := h
  exact ⟨h1, h2, h3, ⟨Nat.le_trans hf.length_le h4.1, h4.2.sublist hf⟩, h5, h6, h7, h8⟩

/-- A change of the Outbox that adds no PULL entry. -/
@[simp] theorem State.mapOut_limits (s : State) (f : Outbox → Outbox)
    (hf : (f s.out).entries.countP OutEntry.isPull ≤ s.out.entries.countP OutEntry.isPull) (h : s.limitsOk) :
    (s.mapOut f).limitsOk := by
  obtain ⟨h1, h2, h3, h4, h5, h6, h7, h8⟩ := h
  exact ⟨h1, h2, h3, h4, h5, h6, h7, Nat.le_trans hf h8⟩

/-- A change of the Catch-up Unit that adds no pull record. -/
@[simp] theorem State.mapCatchup_limits (s : State) (f : Catchup → Catchup)
    (hf : (f s.catchup).pulls.length ≤ s.catchup.pulls.length) (h : s.limitsOk) : (s.mapCatchup f).limitsOk := by
  obtain ⟨h1, h2, h3, h4, h5, h6, h7, h8⟩ := h
  exact ⟨h1, Nat.le_trans hf h2, h3, h4, h5, h6, h7, h8⟩

@[simp] theorem State.setCatchup_limits (s : State) (x : Catchup) (hx : x.pulls = []) (h : s.limitsOk) :
    (s.setCatchup x).limitsOk := by
  obtain ⟨h1, h2, h3, h4, h5, h6, h7, h8⟩ := h
  refine ⟨h1, ?_, h3, h4, h5, h6, h7, h8⟩
  show x.pulls.length ≤ _
  simp [hx]

/-- A serving table that is not longer. -/
@[simp] theorem State.setServing_limits (s : State) (x : List ServingRecord) (hx : x.length ≤ s.serving.length)
    (h : s.limitsOk) : (s.setServing x).limitsOk := by
  obtain ⟨h1, h2, h3, h4, h5, h6, h7, h8⟩ := h
  exact ⟨h1, h2, Nat.le_trans hx h3, h4, h5, h6, h7, h8⟩

/-- Arbiter counts within their limit. -/
@[simp] theorem State.setArb_limits (s : State) (x : Arbiter) (h : s.limitsOk)
    (hx : x.hostStreak = s.arb.hostStreak ∨ x.hostStreak ≤ Config.arbiterLimit)
    (hy : x.imageWait = s.arb.imageWait ∨ x.imageWait ≤ Config.arbiterLimit) : (s.setArb x).limitsOk := by
  obtain ⟨h1, h2, h3, h4, h5, h6, h7, h8⟩ := h
  refine ⟨h1, h2, h3, h4, ?_, ?_, h7, h8⟩
  · show x.hostStreak ≤ _; rcases hx with hx | hx <;> omega
  · show x.imageWait ≤ _; rcases hy with hy | hy <;> omega

/-- An Apply Queue that is not longer. -/
@[simp] theorem State.setApplyQ_limits (s : State) (x : List ApplyEntry) (hx : x.length ≤ s.applyQ.length)
    (h : s.limitsOk) : (s.setApplyQ x).limitsOk := by
  obtain ⟨h1, h2, h3, h4, h5, h6, h7, h8⟩ := h
  exact ⟨Nat.le_trans hx h1, h2, h3, h4, h5, h6, h7, h8⟩

/-- A raised arbiter count stays within its limit. -/
@[simp] theorem bump_le (n : Nat) : bump n ≤ Config.arbiterLimit := Nat.min_le_right _ _

/-- A change that keeps the kind of each entry keeps the number of PULL entries. -/
theorem countP_isPull_map (l : List OutEntry) (f : OutEntry → OutEntry) (hf : ∀ e, (f e).isPull = e.isPull) :
    (l.map f).countP OutEntry.isPull = l.countP OutEntry.isPull := by
  rw [List.countP_map]; congr 1; funext e; exact hf e

/-- Discarding entries adds no PULL entry. -/
@[simp] theorem countP_isPull_filter_le (l : List OutEntry) (p : OutEntry → Bool) :
    (l.filter p).countP OutEntry.isPull ≤ l.countP OutEntry.isPull :=
  List.Sublist.countP_le (List.filter_sublist)

/-- An entry withdrawn adds no PULL entry. -/
@[simp] theorem countP_isPull_eraseP_le (l : List OutEntry) (p : OutEntry → Bool) :
    (l.eraseP p).countP OutEntry.isPull ≤ l.countP OutEntry.isPull :=
  List.Sublist.countP_le (List.eraseP_sublist)

@[simp] theorem OutEntry.mapUpdate_isPull (f : UpdateEntry → UpdateEntry) (e : OutEntry) : (e.mapUpdate f).isPull = e.isPull := by
  obtain ⟨r, b, x, d⟩ := e
  cases b <;> rfl

@[simp] theorem OutEntry.markedBy_isPull (p : OutEntry → Bool) (cut : Bool) (e : OutEntry) :
    (e.markedBy p cut).isPull = e.isPull := by
  unfold OutEntry.markedBy; split <;> rfl

@[simp] theorem State.startSending_isPull (s : State) (e : OutEntry) : (s.startSending e).isPull = e.isPull := by
  obtain ⟨r, b, x, d⟩ := e
  cases b <;> rfl

@[simp] theorem mapYoungest_isPull (r : Region) (f : UpdateEntry → UpdateEntry) (l : List OutEntry) :
    (mapYoungest r f l).countP OutEntry.isPull = l.countP OutEntry.isPull := by
  induction l with
  | nil => rfl
  | cons e l ih => simp only [mapYoungest]; (repeat' split) <;> simp [List.countP_cons, ih]

@[simp] theorem mapFirst_isPull (p : OutEntry → Bool) (f : OutEntry → OutEntry) (hf : ∀ e, (f e).isPull = e.isPull)
    (l : List OutEntry) : (mapFirst p f l).countP OutEntry.isPull = l.countP OutEntry.isPull := by
  induction l with
  | nil => rfl
  | cons e l ih => simp only [mapFirst]; split <;> simp [List.countP_cons, ih, hf]

@[simp] theorem keptEntries_isPull_le (p : OutEntry → Bool) (cut : Bool) (l : List OutEntry) :
    (keptEntries p cut l).countP OutEntry.isPull ≤ l.countP OutEntry.isPull := by
  rw [keptEntries, countP_isPull_map _ _ fun e => OutEntry.markedBy_isPull p cut e]
  exact countP_isPull_filter_le _ _

/-- The write in progress is an entry of the queue. -/
@[simp] theorem State.applyInProgress_length (s : State) : s.applyInProgress.length ≤ s.applyQ.length := by
  unfold State.applyInProgress; split <;> simp

@[simp] theorem Outbox.without_entries (o : Outbox) (e : OutEntry) : (o.without e).entries = o.entries := by
  unfold Outbox.without; (repeat' split) <;> rfl

@[simp] theorem Outbox.afterWrite_isPull (o : Outbox) (w : WriteWork) (ep : Epoch) (a c : Version) :
    (o.afterWrite w ep a c).countP OutEntry.isPull = o.entries.countP OutEntry.isPull := by
  unfold Outbox.afterWrite; split
  · simp
  · simp [List.countP_append, OutEntry.isPull]


@[simp] theorem State.post_limits (s : State) (e : Event) (h : State.limitsOk s) : State.limitsOk (State.post s e) := by
  unfold State.post; (repeat' (first | split | dsimp only)) <;> simp (maxDischargeDepth := 20) [h, List.length_filter_le, List.filter_sublist]
@[simp] theorem State.retain_limits (s : State) (r : Region) (h : State.limitsOk s) : State.limitsOk (State.retain s r) := by
  unfold State.retain; (repeat' (first | split | dsimp only)) <;> simp (maxDischargeDepth := 20) [h, List.length_filter_le, List.filter_sublist]
@[simp] theorem State.countSerial_limits (s : State) (h : State.limitsOk s) : State.limitsOk (State.countSerial s) := by
  unfold State.countSerial; (repeat' (first | split | dsimp only)) <;> simp (maxDischargeDepth := 20) [h, List.length_filter_le, List.filter_sublist]
theorem State.takeApply_limits (s : State) (r : Region) (b : ApplyBody) (hl : s.applyQ.length < Config.applyLimit)
    (h : s.limitsOk) : (s.takeApply r b).limitsOk := by
  obtain ⟨h1, h2, h3, h4, h5, h6, h7, h8⟩ := h
  exact ⟨by simpa [State.takeApply, State.retain, State.appendApply] using hl, h2, h3, h4, h5, h6, h7, h8⟩
@[simp] theorem State.answer_limits (s : State) (code : Byte) (result : ResultCode) (data : List Byte) (h : State.limitsOk s) : State.limitsOk (State.answer s code result data) := by
  unfold State.answer; (repeat' (first | split | dsimp only)) <;> simp (maxDischargeDepth := 20) [h, List.length_filter_le, List.filter_sublist]
@[simp] theorem State.work_limits (s : State) (w : Work) (h : State.limitsOk s) : State.limitsOk (State.work s w) := by
  unfold State.work; (repeat' (first | split | dsimp only)) <;> simp (maxDischargeDepth := 20) [h, List.length_filter_le, List.filter_sublist]
theorem State.setEntries_limits (s : State) (es : List OutEntry)
    (hes : es.countP OutEntry.isPull ≤ s.out.entries.countP OutEntry.isPull) (h : s.limitsOk) : (s.setEntries es).limitsOk :=
  State.mapOut_limits s _ hes h
@[simp] theorem State.checkFence_limits (s : State) (h : State.limitsOk s) : State.limitsOk (State.checkFence s) := by
  unfold State.checkFence; (repeat' (first | split | dsimp only)) <;> simp (maxDischargeDepth := 20) [h, List.length_filter_le, List.filter_sublist]
@[simp] theorem State.departed_limits (s : State) (cut : Bool) (e : OutEntry) (h : s.limitsOk) :
    (s.departed cut e).limitsOk :=
  State.mapOut_limits _ _ (Nat.le_of_eq (by rw [Outbox.without_entries])) h
@[simp] theorem State.departAll_limits (s : State) (cut : Bool) (gone : List OutEntry) (h : State.limitsOk s) : State.limitsOk (State.departAll s cut gone) := by
  unfold State.departAll
  exact foldl_preserves (fun t : State => State.limitsOk t) _ (fun t x ht => by simp [ht, List.length_filter_le, List.filter_sublist]) _ _ (by simp (maxDischargeDepth := 20) [h, List.length_filter_le, List.filter_sublist])
@[simp] theorem State.discardEntries_limits (s : State) (p : OutEntry → Bool) (cut : Bool) (h : s.limitsOk) :
    (s.discardEntries p cut).limitsOk :=
  State.checkFence_limits _ (State.departAll_limits _ _ _ (State.setEntries_limits _ _ (keptEntries_isPull_le _ _ _) h))
@[simp] theorem State.removeSending_limits (s : State) (h : s.limitsOk) : s.removeSending.limitsOk :=
  State.mapOut_limits s _ (countP_isPull_filter_le _ _) h
@[simp] theorem State.returnSending_limits (s : State) (h : s.limitsOk) : s.returnSending.limitsOk := by
  unfold State.returnSending
  (repeat' split)
  · exact h
  · refine State.mapOut_limits _ _ (Nat.le_of_eq (countP_isPull_map _ _ fun e => ?_)) h
    split <;> rfl
  · simp (maxDischargeDepth := 20) [h]
@[simp] theorem State.releaseHold_limits (s : State) (h : s.limitsOk) : s.releaseHold.limitsOk :=
  State.mapOut_limits s _ (Nat.le_of_eq (countP_isPull_map _ _ fun e => OutEntry.mapUpdate_isPull _ e)) h
@[simp] theorem State.putServing_limits (s : State) (v : ServingRecord) (h : State.limitsOk s) : State.limitsOk (State.putServing s v) := by
  unfold State.putServing; (repeat' (first | split | dsimp only)) <;> simp (maxDischargeDepth := 20) [h, List.length_filter_le, List.filter_sublist]
@[simp] theorem State.dropRead_limits (s : State) (r : Region) (h : State.limitsOk s) : State.limitsOk (State.dropRead s r) := by
  unfold State.dropRead; (repeat' (first | split | dsimp only)) <;> simp (maxDischargeDepth := 20) [h, List.length_filter_le, List.filter_sublist]
@[simp] theorem State.dropServing_limits (s : State) (r : Region) (h : State.limitsOk s) : State.limitsOk (State.dropServing s r) := by
  unfold State.dropServing; (repeat' (first | split | dsimp only)) <;> simp (maxDischargeDepth := 20) [h, List.length_filter_le, List.filter_sublist]
@[simp] theorem State.endServing_limits (s : State) (r : Region) (h : State.limitsOk s) : State.limitsOk (State.endServing s r) := by
  unfold State.endServing; (repeat' (first | split | dsimp only)) <;> simp (maxDischargeDepth := 20) [h, List.length_filter_le, List.filter_sublist]
@[simp] theorem State.putTargets_limits (s : State) (v : ServingRecord) (ts : List Target) (h : State.limitsOk s) : State.limitsOk (State.putTargets s v ts) := by
  unfold State.putTargets; (repeat' (first | split | dsimp only)) <;> simp (maxDischargeDepth := 20) [h, List.length_filter_le, List.filter_sublist]
@[simp] theorem State.dropTarget_limits (s : State) (r : Region) (n : Station) (h : State.limitsOk s) : State.limitsOk (State.dropTarget s r n) := by
  unfold State.dropTarget; (repeat' (first | split | dsimp only)) <;> simp (maxDischargeDepth := 20) [h, List.length_filter_le, List.filter_sublist]
@[simp] theorem State.dropTargets_limits (s : State) (n : Station) (h : State.limitsOk s) : State.limitsOk (State.dropTargets s n) := by
  unfold State.dropTargets
  exact foldl_preserves (fun t : State => State.limitsOk t) _ (fun t x ht => by simp [ht, List.length_filter_le, List.filter_sublist]) _ _ (by simp (maxDischargeDepth := 20) [h, List.length_filter_le, List.filter_sublist])
@[simp] theorem State.endAllServing_limits (s : State) (h : State.limitsOk s) : State.limitsOk (State.endAllServing s) := by
  unfold State.endAllServing
  exact foldl_preserves (fun t : State => State.limitsOk t) _ (fun t x ht => by simp [ht, List.length_filter_le, List.filter_sublist]) _ _ (by simp (maxDischargeDepth := 20) [h, List.length_filter_le, List.filter_sublist])
@[simp] theorem State.requestRead_limits (s : State) (r : Region) (h : State.limitsOk s) : State.limitsOk (State.requestRead s r) := by
  unfold State.requestRead; (repeat' (first | split | dsimp only)) <;> simp (maxDischargeDepth := 20) [h, List.length_filter_le, List.filter_sublist]
@[simp] theorem State.requestReads_limits (s : State) (h : State.limitsOk s) : State.limitsOk (State.requestReads s) := by
  unfold State.requestReads
  exact foldl_preserves (fun t : State => State.limitsOk t) _ (fun t x ht => by simp [ht, List.length_filter_le, List.filter_sublist]) _ _ (by simp (maxDischargeDepth := 20) [h, List.length_filter_le, List.filter_sublist])
@[simp] theorem State.serve_limits (s : State) (r : Region) (q : Station) (h : s.limitsOk) : (s.serve r q).limitsOk := by
  unfold State.serve
  (repeat' split)
  · simp [h]
  · simp [h]
  · obtain ⟨h1, h2, h3, h4, h5, h6, h7, h8⟩ := h
    exact ⟨h1, h2, by simpa [State.setServing] using ‹s.serving.length < Config.servingLimit›, h4, h5, h6, h7, h8⟩
  · exact h
@[simp] theorem State.restartServing_limits (s : State) (r : Region) (h : State.limitsOk s) : State.limitsOk (State.restartServing s r) := by
  unfold State.restartServing; (repeat' (first | split | dsimp only)) <;> simp (maxDischargeDepth := 20) [h, List.length_filter_le, List.filter_sublist]
@[simp] theorem State.abandonWrite_limits (s : State) (r : Region) (h : State.limitsOk s) : State.limitsOk (State.abandonWrite s r) := by
  unfold State.abandonWrite; (repeat' (first | split | dsimp only)) <;> simp (maxDischargeDepth := 20) [h, List.length_filter_le, List.filter_sublist]
@[simp] theorem State.setSweep_limits (s : State) (w : Sweep) (h : State.limitsOk s) : State.limitsOk (State.setSweep s w) := by
  unfold State.setSweep; (repeat' (first | split | dsimp only)) <;> simp (maxDischargeDepth := 20) [h, List.length_filter_le, List.filter_sublist]
@[simp] theorem State.dropHeld_limits (s : State) (r : Region) (h : State.limitsOk s) : State.limitsOk (State.dropHeld s r) := by
  unfold State.dropHeld; (repeat' (first | split | dsimp only)) <;> simp (maxDischargeDepth := 20) [h, List.length_filter_le, List.filter_sublist]
theorem State.appendEntry_limits (s : State) (r : Region) (b : EntryBody)
    (hb : (OutEntry.mk r b false .none).isPull = false) (h : s.limitsOk) : (s.appendEntry r b).limitsOk := by
  refine State.mapOut_limits s _ ?_ h
  simp [List.countP_append, hb]
@[simp] theorem State.appendClaim_limits (s : State) (r : Region) (c : ClaimSource) (h : s.limitsOk) :
    (s.appendEntry r (.claim c)).limitsOk := State.appendEntry_limits s r _ rfl h
@[simp] theorem State.appendImage_limits (s : State) (r : Region) (i : ImageEntry) (h : s.limitsOk) :
    (s.appendEntry r (.image i)).limitsOk := State.appendEntry_limits s r _ rfl h
@[simp] theorem State.sweepAct_limits (s : State) (h : State.limitsOk s) : State.limitsOk (State.sweepAct s).1 := by
  unfold State.sweepAct; (repeat' (first | split | dsimp only)) <;> simp (maxDischargeDepth := 20) [h, List.length_filter_le, List.filter_sublist]
@[simp] theorem State.sweepFrom_limits (n : Nat) (s : State) (h : State.limitsOk s) : State.limitsOk (State.sweepFrom n s) := by
  induction n generalizing s with
  | zero => simpa [State.sweepFrom] using h
  | succ n ih => unfold State.sweepFrom; (repeat' split) <;> simp (maxDischargeDepth := 20) [ih, h, List.length_filter_le, List.filter_sublist]
@[simp] theorem State.sweepWalk_limits (s : State) (h : State.limitsOk s) : State.limitsOk (State.sweepWalk s) := by
  unfold State.sweepWalk; (repeat' (first | split | dsimp only)) <;> simp (maxDischargeDepth := 20) [h, List.length_filter_le, List.filter_sublist]
@[simp] theorem State.listRegion_limits (s : State) (r : Region) (h : State.limitsOk s) : State.limitsOk (State.listRegion s r) := by
  unfold State.listRegion; (repeat' (first | split | dsimp only)) <;> simp (maxDischargeDepth := 20) [h, List.length_filter_le, List.filter_sublist]
@[simp] theorem State.dropPull_limits (s : State) (r : Region) (h : State.limitsOk s) : State.limitsOk (State.dropPull s r) := by
  unfold State.dropPull; (repeat' (first | split | dsimp only)) <;> simp (maxDischargeDepth := 20) [h, List.length_filter_le, List.filter_sublist]
@[simp] theorem State.postStale_limits (s : State) (r : Region) (h : State.limitsOk s) : State.limitsOk (State.postStale s r) := by
  unfold State.postStale; (repeat' (first | split | dsimp only)) <;> simp (maxDischargeDepth := 20) [h, List.length_filter_le, List.filter_sublist]
@[simp] theorem State.parkRegion_limits (s : State) (r : Region) (h : State.limitsOk s) : State.limitsOk (State.parkRegion s r) := by
  unfold State.parkRegion; (repeat' (first | split | dsimp only)) <;> simp (maxDischargeDepth := 20) [h, List.length_filter_le, List.filter_sublist]
@[simp] theorem State.afterClosure_limits (s : State) (r : Region) (park : Bool) (h : State.limitsOk s) : State.limitsOk (State.afterClosure s r park) := by
  unfold State.afterClosure; (repeat' (first | split | dsimp only)) <;> simp (maxDischargeDepth := 20) [h, List.length_filter_le, List.filter_sublist]
@[simp] theorem State.closePull_limits (s : State) (r : Region) (park : Bool) (h : State.limitsOk s) : State.limitsOk (State.closePull s r park) := by
  unfold State.closePull; (repeat' (first | split | dsimp only)) <;> simp (maxDischargeDepth := 20) [h, List.length_filter_le, List.filter_sublist]
@[simp] theorem State.closeAllPulls_limits (s : State) (h : State.limitsOk s) : State.limitsOk (State.closeAllPulls s) := by
  unfold State.closeAllPulls
  exact foldl_preserves (fun t : State => State.limitsOk t) _ (fun t x ht => by simp [ht, List.length_filter_le, List.filter_sublist]) _ _ (by simp (maxDischargeDepth := 20) [h, List.length_filter_le, List.filter_sublist])
@[simp] theorem State.queuePull_limits (s : State) (p : PullRecord) (h : s.limitsOk) : (s.queuePull p).limitsOk := by
  unfold State.queuePull
  split
  · rename_i hc
    simp only [Bool.and_eq_true, decide_eq_true_eq] at hc
    refine State.mapCatchup_limits _ _ (by simp) ?_
    obtain ⟨h1, h2, h3, h4, h5, h6, h7, h8⟩ := h
    refine ⟨h1, h2, h3, h4, h5, h6, h7, ?_⟩
    simp only [State.appendEntry, State.mapOut_out, List.countP_append]
    have : List.countP OutEntry.isPull [(⟨p.region, .pull (s.pullForce p), false, .none⟩ : OutEntry)] = 1 := rfl
    omega
  · exact h
@[simp] theorem State.queuePulls_limits (s : State) (h : State.limitsOk s) : State.limitsOk (State.queuePulls s) := by
  unfold State.queuePulls
  exact foldl_preserves (fun t : State => State.limitsOk t) _ (fun t x ht => by simp [ht, List.length_filter_le, List.filter_sublist]) _ _ (by simp (maxDischargeDepth := 20) [h, List.length_filter_le, List.filter_sublist])
theorem State.addPull_limits (s : State) (r : Region) (n : Station) (hl : s.catchup.pulls.length < Config.pullLimit)
    (h : s.limitsOk) : (s.addPull r n).limitsOk := by
  obtain ⟨h1, h2, h3, h4, h5, h6, h7, h8⟩ := h
  exact ⟨h1, by simpa [State.addPull] using hl, h3, h4, h5, h6, h7, h8⟩
theorem State.openPull_limits (s : State) (r : Region) (n : Station) (k : Cause)
    (hl : s.catchup.pulls.length < Config.pullLimit) (h : s.limitsOk) : (s.openPull r n k).limitsOk := by
  have := State.addPull_limits s r n hl h
  unfold State.openPull
  simp [this]
@[simp] theorem State.openPullsFrom_limits (n : Nat) (s : State) (h : State.limitsOk s) : State.limitsOk (State.openPullsFrom n s) := by
  induction n generalizing s with
  | zero => simpa [State.openPullsFrom] using h
  | succ n ih =>
    rcases h' : s.nextPull with _ | p
    · simpa [State.openPullsFrom_none n s h'] using h
    · rw [State.openPullsFrom_some n s p h']; exact ih _ (by exact State.openPull_limits _ _ _ _ (by unfold State.nextPull at h'; split at h'; (· rename_i hc; exact hc.2); (· cases h')) h)
@[simp] theorem State.openPulls_limits (s : State) (h : State.limitsOk s) : State.limitsOk (State.openPulls s) := by
  unfold State.openPulls; (repeat' (first | split | dsimp only)) <;> simp (maxDischargeDepth := 20) [h, List.length_filter_le, List.filter_sublist]
@[simp] theorem State.reportMark_limits (s : State) (r : Region) (c : Cause) (h : State.limitsOk s) : State.limitsOk (State.reportMark s r c) := by
  unfold State.reportMark; (repeat' (first | split | dsimp only)) <;> simp (maxDischargeDepth := 20) [h, List.length_filter_le, List.filter_sublist]
@[simp] theorem State.unpark_limits (s : State) (r : Region) (h : State.limitsOk s) : State.limitsOk (State.unpark s r) := by
  unfold State.unpark; (repeat' (first | split | dsimp only)) <;> simp (maxDischargeDepth := 20) [h, List.length_filter_le, List.filter_sublist]
@[simp] theorem State.markStale_limits (s : State) (r : Region) (c : Cause) (h : State.limitsOk s) : State.limitsOk (State.markStale s r c) := by
  unfold State.markStale; (repeat' (first | split | dsimp only)) <;> simp (maxDischargeDepth := 20) [h, List.length_filter_le, List.filter_sublist]
@[simp] theorem State.dropFront_limits (s : State) (r : Region) (h : State.limitsOk s) : State.limitsOk (State.dropFront s r) := by
  unfold State.dropFront; (repeat' (first | split | dsimp only)) <;> simp (maxDischargeDepth := 20) [h, List.length_filter_le, List.filter_sublist]
@[simp] theorem State.surrender_limits (s : State) (r : Region) (h : State.limitsOk s) : State.limitsOk (State.surrender s r) := by
  unfold State.surrender; (repeat' (first | split | dsimp only)) <;> simp (maxDischargeDepth := 20) [h, List.length_filter_le, List.filter_sublist]
@[simp] theorem State.assume_limits (s : State) (r : Region) (h : State.limitsOk s) : State.limitsOk (State.assume s r) := by
  unfold State.assume; (repeat' (first | split | dsimp only)) <;> simp (maxDischargeDepth := 20) [h, List.length_filter_le, List.filter_sublist]
@[simp] theorem State.partOld_limits (s : State) (r : Region) (self : Bool) (h : State.limitsOk s) : State.limitsOk (State.partOld s r self) := by
  unfold State.partOld; (repeat' (first | split | dsimp only)) <;> simp (maxDischargeDepth := 20) [h, List.length_filter_le, List.filter_sublist]
@[simp] theorem State.partNew_limits (s : State) (r : Region) (self : Bool) (h : State.limitsOk s) : State.limitsOk (State.partNew s r self) := by
  unfold State.partNew; (repeat' (first | split | dsimp only)) <;> simp (maxDischargeDepth := 20) [h, List.length_filter_le, List.filter_sublist]
@[simp] theorem State.changeOwner_limits (s : State) (r : Region) (o : Option Owner) (h : State.limitsOk s) : State.limitsOk (State.changeOwner s r o) := by
  unfold State.changeOwner; (repeat' (first | split | dsimp only)) <;> simp (maxDischargeDepth := 20) [h, List.length_filter_le, List.filter_sublist]
@[simp] theorem State.setState_limits (s : State) (st : StationState) (h : State.limitsOk s) : State.limitsOk (State.setState s st) := by
  unfold State.setState; (repeat' (first | split | dsimp only)) <;> simp (maxDischargeDepth := 20) [h, List.length_filter_le, List.filter_sublist]
@[simp] theorem State.quorumCheck_limits (s : State) (h : State.limitsOk s) : State.limitsOk (State.quorumCheck s) := by
  unfold State.quorumCheck; (repeat' (first | split | dsimp only)) <;> simp (maxDischargeDepth := 20) [h, List.length_filter_le, List.filter_sublist]
@[simp] theorem State.mapRosterEntry_limits (s : State) (n : Station) (f : RosterEntry → RosterEntry) (h : State.limitsOk s) : State.limitsOk (State.mapRosterEntry s n f) := by
  unfold State.mapRosterEntry; (repeat' (first | split | dsimp only)) <;> simp (maxDischargeDepth := 20) [h, List.length_filter_le, List.filter_sublist]
@[simp] theorem State.targetsFollow_limits (s : State) (n : Station) (st : Presence) (h : State.limitsOk s) : State.limitsOk (State.targetsFollow s n st) := by
  unfold State.targetsFollow; (repeat' (first | split | dsimp only)) <;> simp (maxDischargeDepth := 20) [h, List.length_filter_le, List.filter_sublist]
@[simp] theorem State.differsFollows_limits (s : State) (n : Station) (st : Presence) (h : State.limitsOk s) : State.limitsOk (State.differsFollows s n st) := by
  unfold State.differsFollows; (repeat' (first | split | dsimp only)) <;> simp (maxDischargeDepth := 20) [h, List.length_filter_le, List.filter_sublist]
@[simp] theorem State.statusChange_limits (s : State) (n : Station) (st : Presence) (h : State.limitsOk s) : State.limitsOk (State.statusChange s n st) := by
  unfold State.statusChange; (repeat' (first | split | dsimp only)) <;> simp (maxDischargeDepth := 20) [h, List.length_filter_le, List.filter_sublist]
@[simp] theorem State.clearRoster_limits (s : State) (h : State.limitsOk s) : State.limitsOk (State.clearRoster s) := by
  unfold State.clearRoster; (repeat' (first | split | dsimp only)) <;> simp (maxDischargeDepth := 20) [h, List.length_filter_le, List.filter_sublist]
@[simp] theorem State.followFrame_limits (s : State) (f : Frame) (h : State.limitsOk s) : State.limitsOk (State.followFrame s f) := by
  unfold State.followFrame; (repeat' (first | split | dsimp only)) <;> simp (maxDischargeDepth := 20) [h, List.length_filter_le, List.filter_sublist]
@[simp] theorem State.checkMembers_limits (s : State) (f : Frame) (h : State.limitsOk s) : State.limitsOk (State.checkMembers s f) := by
  unfold State.checkMembers; (repeat' (first | split | dsimp only)) <;> simp (maxDischargeDepth := 20) [h, List.length_filter_le, List.filter_sublist]
@[simp] theorem State.rosterHandoff_limits (s : State) (f : Frame) (h : State.limitsOk s) : State.limitsOk (State.rosterHandoff s f) := by
  unfold State.rosterHandoff; (repeat' (first | split | dsimp only)) <;> simp (maxDischargeDepth := 20) [h, List.length_filter_le, List.filter_sublist]
@[simp] theorem State.learnOwner_limits (s : State) (r : Region) (o : Station) (e : Epoch) (h : State.limitsOk s) : State.limitsOk (State.learnOwner s r o e) := by
  unfold State.learnOwner; (repeat' (first | split | dsimp only)) <;> simp (maxDischargeDepth := 20) [h, List.length_filter_le, List.filter_sublist]
@[simp] theorem State.addFront_limits (s : State) (r : Region) (h : s.limitsOk) : (s.addFront r).limitsOk := by
  obtain ⟨h1, h2, h3, h4, h5, h6, h7, h8⟩ := h
  refine ⟨h1, h2, h3, ?_, h5, h6, h7, h8⟩
  simp only [State.addFront, State.mapRoster_roster]
  split
  · exact h4
  · rename_i hc
    simp only [Bool.or_eq_true, decide_eq_true_eq, not_or, List.contains_iff_mem] at hc
    refine ⟨by simp only [List.length_append, List.length_singleton]; omega, ?_⟩
    exact List.nodup_append.2 ⟨h4.2, by simp, fun a ha b hb => by simp at hb; subst hb; intro e; exact hc.1 (e ▸ ha)⟩
@[simp] theorem State.loseConflict_limits (s : State) (r : Region) (o : Station) (stamp : Stamp) (h : State.limitsOk s) : State.limitsOk (State.loseConflict s r o stamp) := by
  unfold State.loseConflict; (repeat' (first | split | dsimp only)) <;> simp (maxDischargeDepth := 20) [h, List.length_filter_le, List.filter_sublist]
@[simp] theorem State.resolveConflict_limits (s : State) (r : Region) (o : Station) (stamp : Stamp) (h : State.limitsOk s) : State.limitsOk (State.resolveConflict s r o stamp) := by
  unfold State.resolveConflict; (repeat' (first | split | dsimp only)) <;> simp (maxDischargeDepth := 20) [h, List.length_filter_le, List.filter_sublist]
@[simp] theorem State.claimCopy_limits (s : State) (r : Region) (stamp : Stamp) (h : State.limitsOk s) : State.limitsOk (State.claimCopy s r stamp) := by
  unfold State.claimCopy; (repeat' (first | split | dsimp only)) <;> simp (maxDischargeDepth := 20) [h, List.length_filter_le, List.filter_sublist]
@[simp] theorem State.yielded_limits (s : State) (r : Region) (former : Bool) (h : State.limitsOk s) : State.limitsOk (State.yielded s r former) := by
  unfold State.yielded; (repeat' (first | split | dsimp only)) <;> simp (maxDischargeDepth := 20) [h, List.length_filter_le, List.filter_sublist]
@[simp] theorem State.claimOwner_limits (s : State) (c : Station) (r : Region) (stamp : Stamp) (h : State.limitsOk s) : State.limitsOk (State.claimOwner s c r stamp) := by
  unfold State.claimOwner; (repeat' (first | split | dsimp only)) <;> simp (maxDischargeDepth := 20) [h, List.length_filter_le, List.filter_sublist]
@[simp] theorem State.applyClaim_limits (s : State) (c : Station) (r : Region) (stamp : Stamp) (h : State.limitsOk s) : State.limitsOk (State.applyClaim s c r stamp) := by
  unfold State.applyClaim; (repeat' (first | split | dsimp only)) <;> simp (maxDischargeDepth := 20) [h, List.length_filter_le, List.filter_sublist]
@[simp] theorem State.postStales_limits (s : State) (rs : List Region) (h : State.limitsOk s) : State.limitsOk (State.postStales s rs) := by
  unfold State.postStales
  exact foldl_preserves (fun t : State => State.limitsOk t) _ (fun t x ht => by simp [ht, List.length_filter_le, List.filter_sublist]) _ _ (by simp (maxDischargeDepth := 20) [h, List.length_filter_le, List.filter_sublist])
@[simp] theorem State.postIsolation_limits (s : State) (h : State.limitsOk s) : State.limitsOk (State.postIsolation s) := by
  unfold State.postIsolation; (repeat' (first | split | dsimp only)) <;> simp (maxDischargeDepth := 20) [h, List.length_filter_le, List.filter_sublist]
@[simp] theorem State.wakeUp_limits (s : State) (coincidence : Option Region) (h : State.limitsOk s) : State.limitsOk (State.wakeUp s coincidence) := by
  unfold State.wakeUp; (repeat' (first | split | dsimp only)) <;> simp (maxDischargeDepth := 20) [h, List.length_filter_le, List.filter_sublist]
@[simp] theorem State.endVote_limits (s : State) (r : Region) (h : State.limitsOk s) : State.limitsOk (State.endVote s r) := by
  unfold State.endVote; (repeat' (first | split | dsimp only)) <;> simp (maxDischargeDepth := 20) [h, List.length_filter_le, List.filter_sublist]
@[simp] theorem State.dropFrame_limits (s : State) (h : State.limitsOk s) : State.limitsOk (State.dropFrame s) := by
  unfold State.dropFrame; (repeat' (first | split | dsimp only)) <;> simp (maxDischargeDepth := 20) [h, List.length_filter_le, List.filter_sublist]
@[simp] theorem State.lineOff_limits (s : State) (h : State.limitsOk s) : State.limitsOk (State.lineOff s) := by
  unfold State.lineOff; (repeat' (first | split | dsimp only)) <;> simp (maxDischargeDepth := 20) [h, List.length_filter_le, List.filter_sublist]
@[simp] theorem State.disown_limits (s : State) (r : Region) (h : State.limitsOk s) : State.limitsOk (State.disown s r) := by
  unfold State.disown; (repeat' (first | split | dsimp only)) <;> simp (maxDischargeDepth := 20) [h, List.length_filter_le, List.filter_sublist]
@[simp] theorem State.haltRegion_limits (s : State) (r : Region) (h : State.limitsOk s) : State.limitsOk (State.haltRegion s r) := by
  unfold State.haltRegion; (repeat' (first | split | dsimp only)) <;> simp (maxDischargeDepth := 20) [h, List.length_filter_le, List.filter_sublist]
@[simp] theorem State.haltApply_limits (s : State) (h : s.limitsOk) : s.haltApply.limitsOk := by
  unfold State.haltApply
  exact foldl_preserves (fun t : State => t.limitsOk) _ (fun t x ht => by simp [ht]) _ _
    (State.setApplyQ_limits _ _ s.applyInProgress_length h)
@[simp] theorem State.stopTimers_limits (s : State) (h : State.limitsOk s) : State.limitsOk (State.stopTimers s) := by
  unfold State.stopTimers; (repeat' (first | split | dsimp only)) <;> simp (maxDischargeDepth := 20) [h, List.length_filter_le, List.filter_sublist]
@[simp] theorem State.clearOutbox_limits (s : State) (h : s.limitsOk) : s.clearOutbox.limitsOk :=
  State.mapOut_limits s _ (Nat.zero_le _) h
@[simp] theorem State.halt_limits (s : State) (c : HaltCause) (h : State.limitsOk s) : State.limitsOk (State.halt s c) := by
  unfold State.halt; (repeat' (first | split | dsimp only)) <;> simp (maxDischargeDepth := 20) [h, List.length_filter_le, List.filter_sublist]
@[simp] theorem State.forgetOwners_limits (s : State) (h : State.limitsOk s) : State.limitsOk (State.forgetOwners s) := by
  unfold State.forgetOwners; (repeat' (first | split | dsimp only)) <;> simp (maxDischargeDepth := 20) [h, List.length_filter_le, List.filter_sublist]
@[simp] theorem State.goOffline_limits (s : State) (h : State.limitsOk s) : State.limitsOk (State.goOffline s) := by
  unfold State.goOffline; (repeat' (first | split | dsimp only)) <;> simp (maxDischargeDepth := 20) [h, List.length_filter_le, List.filter_sublist]
@[simp] theorem State.drainEnd_limits (s : State) (h : State.limitsOk s) : State.limitsOk (State.drainEnd s) := by
  unfold State.drainEnd; (repeat' (first | split | dsimp only)) <;> simp (maxDischargeDepth := 20) [h, List.length_filter_le, List.filter_sublist]
@[simp] theorem State.finalEnd_limits (s : State) (h : State.limitsOk s) : State.limitsOk (State.finalEnd s) := by
  unfold State.finalEnd; (repeat' (first | split | dsimp only)) <;> simp (maxDischargeDepth := 20) [h, List.length_filter_le, List.filter_sublist]
@[simp] theorem State.setIntent_limits (s : State) (i : Option Intent) (h : State.limitsOk s) : State.limitsOk (State.setIntent s i) := by
  unfold State.setIntent; (repeat' (first | split | dsimp only)) <;> simp (maxDischargeDepth := 20) [h, List.length_filter_le, List.filter_sublist]
@[simp] theorem State.grantHost_limits (s : State) (h : s.limitsOk) : s.grantHost.limitsOk := by
  unfold State.grantHost
  (repeat' split)
  all_goals first
    | exact h
    | (simp only [State.setIntent, State.mapNv_limits]
       exact State.setArb_limits _ _ h (Or.inr (by dsimp only; (try split) <;> simp)) (Or.inr (by dsimp only; (try split) <;> simp)))
@[simp] theorem State.grantHead_limits (s : State) (h : s.limitsOk) : s.grantHead.limitsOk := by
  unfold State.grantHead
  split
  · simp only [State.setIntent, State.mapNv_limits]
    exact State.setArb_limits _ _ h (Or.inr (Nat.zero_le _)) (Or.inr (by dsimp only; split <;> simp))
  · exact h
@[simp] theorem State.grantImage_limits (s : State) (v : ServingRecord) (h : s.limitsOk) : (s.grantImage v).limitsOk := by
  unfold State.grantImage
  split
  · refine State.putServing_limits _ _ (State.setArb_limits _ _ h ?_ (Or.inr (Nat.zero_le _)))
    dsimp only; split
    · exact Or.inl rfl
    · exact Or.inr (Nat.zero_le _)
  · exact h
@[simp] theorem State.arbitrate_limits (s : State) (h : State.limitsOk s) : State.limitsOk (State.arbitrate s) := by
  unfold State.arbitrate; (repeat' (first | split | dsimp only)) <;> simp (maxDischargeDepth := 20) [h, List.length_filter_le, List.filter_sublist]
@[simp] theorem State.resume_limits (s : State) (h : State.limitsOk s) : State.limitsOk (State.resume s) := by
  unfold State.resume; (repeat' (first | split | dsimp only)) <;> simp (maxDischargeDepth := 20) [h, List.length_filter_le, List.filter_sublist]
@[simp] theorem State.settle_limits (s : State) (h : State.limitsOk s) : State.limitsOk (State.settle s) := by
  unfold State.settle; (repeat' (first | split | dsimp only)) <;> simp (maxDischargeDepth := 20) [h, List.length_filter_le, List.filter_sublist]
@[simp] theorem State.afterAttempt_limits (s : State) (h : State.limitsOk s) : State.limitsOk (State.afterAttempt s) := by
  unfold State.afterAttempt; (repeat' (first | split | dsimp only)) <;> simp (maxDischargeDepth := 20) [h, List.length_filter_le, List.filter_sublist]
@[simp] theorem State.refusePut_limits (s : State) (h : State.limitsOk s) : State.limitsOk (State.refusePut s) := by
  unfold State.refusePut; (repeat' (first | split | dsimp only)) <;> simp (maxDischargeDepth := 20) [h, List.length_filter_le, List.filter_sublist]
@[simp] theorem State.undriven_limits (s : State) (h : State.limitsOk s) : State.limitsOk (State.undriven s) := by
  unfold State.undriven; (repeat' (first | split | dsimp only)) <;> simp (maxDischargeDepth := 20) [h, List.length_filter_le, List.filter_sublist]
@[simp] theorem State.takeBits_limits (s : State) (bits : Nat) (h : State.limitsOk s) : State.limitsOk (State.takeBits s bits) := by
  unfold State.takeBits; (repeat' (first | split | dsimp only)) <;> simp (maxDischargeDepth := 20) [h, List.length_filter_le, List.filter_sublist]
@[simp] theorem State.pollBit_limits (s : State) (h : State.limitsOk s) : State.limitsOk (State.pollBit s) := by
  unfold State.pollBit; (repeat' (first | split | dsimp only)) <;> simp (maxDischargeDepth := 20) [h, List.length_filter_le, List.filter_sublist]
@[simp] theorem State.pollBits_limits (n : Nat) (s : State) (h : State.limitsOk s) : State.limitsOk (State.pollBits n s) := by
  induction n generalizing s with
  | zero => simpa [State.pollBits] using h
  | succ n ih => unfold State.pollBits; exact ih _ (by simp [h, List.length_filter_le, List.filter_sublist])
@[simp] theorem State.pollRun_limits (s : State) (run : PollRun) (h : State.limitsOk s) : State.limitsOk (State.pollRun s run) := by
  unfold State.pollRun; (repeat' (first | split | dsimp only)) <;> simp (maxDischargeDepth := 20) [h, List.length_filter_le, List.filter_sublist]
@[simp] theorem State.startRead_limits (s : State) (r : Region) (offset length : Nat) (h : State.limitsOk s) : State.limitsOk (State.startRead s r offset length) := by
  unfold State.startRead; (repeat' (first | split | dsimp only)) <;> simp (maxDischargeDepth := 20) [h, List.length_filter_le, List.filter_sublist]
@[simp] theorem State.takeRoom_limits (s : State) (r : Region) (h : State.limitsOk s) : State.limitsOk (State.takeRoom s r) := by
  unfold State.takeRoom; (repeat' (first | split | dsimp only)) <;> simp (maxDischargeDepth := 20) [h, List.length_filter_le, List.filter_sublist]
@[simp] theorem State.startClaim_limits (s : State) (r : Region) (guardPin : Bool) (h : State.limitsOk s) : State.limitsOk (State.startClaim s r guardPin) := by
  unfold State.startClaim; (repeat' (first | split | dsimp only)) <;> simp (maxDischargeDepth := 20) [h, List.length_filter_le, List.filter_sublist]
@[simp] theorem State.setYield_limits (s : State) (code : Byte) (r : Region) (yes : Bool) (h : State.limitsOk s) : State.limitsOk (State.setYield s code r yes) := by
  unfold State.setYield; (repeat' (first | split | dsimp only)) <;> simp (maxDischargeDepth := 20) [h, List.length_filter_le, List.filter_sublist]
@[simp] theorem State.openFence_limits (s : State) (h : s.limitsOk) : s.openFence.limitsOk :=
  State.mapOut_limits s _ (Nat.le_of_eq (countP_isPull_map _ _ fun e => OutEntry.mapUpdate_isPull _ e)) h
@[simp] theorem State.formatClear_limits (s : State) (h : s.limitsOk) : s.formatClear.limitsOk := by
  unfold State.formatClear
  simp [h]
@[simp] theorem State.formatIntent_limits (s : State) (h : State.limitsOk s) : State.limitsOk (State.formatIntent s) := by
  unfold State.formatIntent; (repeat' (first | split | dsimp only)) <;> simp (maxDischargeDepth := 20) [h, List.length_filter_le, List.filter_sublist]
@[simp] theorem State.startListening_limits (s : State) (h : State.limitsOk s) : State.limitsOk (State.startListening s) := by
  unfold State.startListening; (repeat' (first | split | dsimp only)) <;> simp (maxDischargeDepth := 20) [h, List.length_filter_le, List.filter_sublist]
@[simp] theorem State.startLeaving_limits (s : State) (h : State.limitsOk s) : State.limitsOk (State.startLeaving s) := by
  unfold State.startLeaving; (repeat' (first | split | dsimp only)) <;> simp (maxDischargeDepth := 20) [h, List.length_filter_le, List.filter_sublist]
@[simp] theorem State.clearWorking_limits (s : State) (p : Power) : (s.clearWorking p).limitsOk := by
  simp [State.limitsOk, State.clearWorking, State.reset]
@[simp] theorem State.recover_limits (s : State) (c : ResetCause) (x : Straps) : (s.recover c x).limitsOk := by
  simp [State.limitsOk, State.recover, State.clearWorking, State.reset]
@[simp] theorem State.finishOp_limits (s : State) (h : State.limitsOk s) : State.limitsOk (State.finishOp s) := by
  unfold State.finishOp; (repeat' (first | split | dsimp only)) <;> simp (maxDischargeDepth := 20) [h, List.length_filter_le, List.filter_sublist]
@[simp] theorem State.endOp_limits (s : State) (h : State.limitsOk s) : State.limitsOk (State.endOp s) := by
  unfold State.endOp; (repeat' (first | split | dsimp only)) <;> simp (maxDischargeDepth := 20) [h, List.length_filter_le, List.filter_sublist]
@[simp] theorem State.writeArray_limits (s : State) (r : Region) (k : Nat) (data : List Byte) (h : State.limitsOk s) : State.limitsOk (State.writeArray s r k data) := by
  unfold State.writeArray; (repeat' (first | split | dsimp only)) <;> simp (maxDischargeDepth := 20) [h, List.length_filter_le, List.filter_sublist]
@[simp] theorem State.setupWritten_limits (s : State) (members : StationMap) (guardSet : RegionMap) (h : State.limitsOk s) : State.limitsOk (State.setupWritten s members guardSet) := by
  unfold State.setupWritten; (repeat' (first | split | dsimp only)) <;> simp (maxDischargeDepth := 20) [h, List.length_filter_le, List.filter_sublist]
@[simp] theorem State.formatRegionDone_limits (s : State) (r : Region) (h : State.limitsOk s) : State.limitsOk (State.formatRegionDone s r) := by
  unfold State.formatRegionDone; (repeat' (first | split | dsimp only)) <;> simp (maxDischargeDepth := 20) [h, List.length_filter_le, List.filter_sublist]
@[simp] theorem State.formatNext_limits (s : State) (r : Region) (k : Chunk) (h : State.limitsOk s) : State.limitsOk (State.formatNext s r k) := by
  unfold State.formatNext; (repeat' (first | split | dsimp only)) <;> simp (maxDischargeDepth := 20) [h, List.length_filter_le, List.filter_sublist]
@[simp] theorem State.formatStep_limits (s : State) (r : Region) (k : Chunk) (h : State.limitsOk s) : State.limitsOk (State.formatStep s r k) := by
  unfold State.formatStep; (repeat' (first | split | dsimp only)) <;> simp (maxDischargeDepth := 20) [h, List.length_filter_le, List.filter_sublist]
@[simp] theorem State.readPiece_limits (s : State) (w : ReadWork) (h : State.limitsOk s) : State.limitsOk (State.readPiece s w) := by
  unfold State.readPiece; (repeat' (first | split | dsimp only)) <;> simp (maxDischargeDepth := 20) [h, List.length_filter_le, List.filter_sublist]
@[simp] theorem State.queueWrite_limits (s : State) (w : WriteWork) (e : RegionEntry) (h : s.limitsOk) :
    (s.queueWrite w e).limitsOk := by
  unfold State.queueWrite
  split
  · exact h
  · exact State.mapOut_limits _ _ (by simp) h
@[simp] theorem State.ownerWrote_limits (s : State) (w : WriteWork) (h : State.limitsOk s) : State.limitsOk (State.ownerWrote s w) := by
  unfold State.ownerWrote; (repeat' (first | split | dsimp only)) <;> simp (maxDischargeDepth := 20) [h, List.length_filter_le, List.filter_sublist]
@[simp] theorem State.concludeWrite_limits (s : State) (w : WriteWork) (h : State.limitsOk s) : State.limitsOk (State.concludeWrite s w) := by
  unfold State.concludeWrite; (repeat' (first | split | dsimp only)) <;> simp (maxDischargeDepth := 20) [h, List.length_filter_le, List.filter_sublist]
@[simp] theorem State.writeDone_limits (s : State) (w : WriteWork) (h : State.limitsOk s) : State.limitsOk (State.writeDone s w) := by
  unfold State.writeDone; (repeat' (first | split | dsimp only)) <;> simp (maxDischargeDepth := 20) [h, List.length_filter_le, List.filter_sublist]
@[simp] theorem State.putPull_limits (s : State) (p : PullRecord) (h : State.limitsOk s) : State.limitsOk (State.putPull s p) := by
  unfold State.putPull; (repeat' (first | split | dsimp only)) <;> simp (maxDischargeDepth := 20) [h, List.length_filter_le, List.filter_sublist]
@[simp] theorem State.completePull_limits (s : State) (p : PullRecord) (collecting : Stamp) (h : State.limitsOk s) : State.limitsOk (State.completePull s p collecting) := by
  unfold State.completePull; (repeat' (first | split | dsimp only)) <;> simp (maxDischargeDepth := 20) [h, List.length_filter_le, List.filter_sublist]
@[simp] theorem State.chunkWritten_limits (s : State) (k : Chunk) (stamp : Stamp) (pull : Nat) (h : State.limitsOk s) : State.limitsOk (State.chunkWritten s k stamp pull) := by
  unfold State.chunkWritten; (repeat' (first | split | dsimp only)) <;> simp (maxDischargeDepth := 20) [h, List.length_filter_le, List.filter_sublist]
@[simp] theorem State.chunkWrittenInReset_limits (s : State) (k : Chunk) (stamp : Stamp) (pull : Nat) (h : State.limitsOk s) : State.limitsOk (State.chunkWrittenInReset s k stamp pull) := by
  unfold State.chunkWrittenInReset; (repeat' (first | split | dsimp only)) <;> simp (maxDischargeDepth := 20) [h, List.length_filter_le, List.filter_sublist]
@[simp] theorem State.applied_limits (s : State) (b : ApplyBody) (h : State.limitsOk s) : State.limitsOk (State.applied s b) := by
  unfold State.applied; (repeat' (first | split | dsimp only)) <;> simp (maxDischargeDepth := 20) [h, List.length_filter_le, List.filter_sublist]
theorem State.applyDone_limits (s : State) (e : ApplyEntry) (rest : List ApplyEntry) (hq : s.applyQ = e :: rest)
    (h : s.limitsOk) : (s.applyDone e rest).limitsOk := by
  unfold State.applyDone
  have : ((s.writeArray e.region e.body.span.1 e.body.span.2).endOp.setApplyQ rest).limitsOk :=
    State.setApplyQ_limits _ _ (by simp [hq]) (by simp [h])
  exact State.setIntent_limits _ _ (State.retain_limits _ _ (State.applied_limits _ _ this))
@[simp] theorem State.chunkRead_limits (s : State) (r : Region) (k : Chunk) (stamp : Stamp) (live : Bool) (h : State.limitsOk s) : State.limitsOk (State.chunkRead s r k stamp live) := by
  unfold State.chunkRead; (repeat' (first | split | dsimp only)) <;> simp (maxDischargeDepth := 20) [h, List.length_filter_le, List.filter_sublist]
@[simp] theorem State.sendBeacon_limits (s : State) (h : State.limitsOk s) : State.limitsOk (State.sendBeacon s) := by
  unfold State.sendBeacon; (repeat' (first | split | dsimp only)) <;> simp (maxDischargeDepth := 20) [h, List.length_filter_le, List.filter_sublist]
@[simp] theorem State.unheldUnless_limits (s : State) (won : Bool) (r : Region) (h : State.limitsOk s) : State.limitsOk (State.unheldUnless s won r) := by
  unfold State.unheldUnless; (repeat' (first | split | dsimp only)) <;> simp (maxDischargeDepth := 20) [h, List.length_filter_le, List.filter_sublist]
@[simp] theorem State.claimOver_limits (s : State) (r : Region) (source : ClaimSource) (won : Bool) (h : State.limitsOk s) : State.limitsOk (State.claimOver s r source won) := by
  unfold State.claimOver; (repeat' (first | split | dsimp only)) <;> simp (maxDischargeDepth := 20) [h, List.length_filter_le, List.filter_sublist]
@[simp] theorem State.withdraw_limits (s : State) (e : OutEntry) (source : ClaimSource) (why : LostReason) (h : State.limitsOk s) : State.limitsOk (State.withdraw s e source why) := by
  unfold State.withdraw; (repeat' (first | split | dsimp only)) <;> simp (maxDischargeDepth := 20) [h, List.length_filter_le, List.filter_sublist]
@[simp] theorem State.sendEntry_limits (s : State) (e : OutEntry) (h : s.limitsOk) : (s.sendEntry e).limitsOk :=
  State.mapOut_limits _ _ (Nat.le_of_eq (mapFirst_isPull _ _ (State.startSending_isPull s) _))
    (State.mapLine_limits s _ (Or.inl rfl) h)
@[simp] theorem State.offerFrom_limits (n : Nat) (s : State) (h : State.limitsOk s) : State.limitsOk (State.offerFrom n s) := by
  induction n generalizing s with
  | zero => simpa [State.offerFrom] using h
  | succ n ih => rcases h' : s.nextOffer <;> simp (maxDischargeDepth := 20) [State.offerFrom, h', ih, h, List.length_filter_le, List.filter_sublist]
@[simp] theorem State.offer_limits (s : State) (h : State.limitsOk s) : State.limitsOk (State.offer s) := by
  unfold State.offer; (repeat' (first | split | dsimp only)) <;> simp (maxDischargeDepth := 20) [h, List.length_filter_le, List.filter_sublist]
@[simp] theorem State.returnBeacon_limits (s : State) (b : BeaconFrame) (h : State.limitsOk s) : State.limitsOk (State.returnBeacon s b) := by
  unfold State.returnBeacon; (repeat' (first | split | dsimp only)) <;> simp (maxDischargeDepth := 20) [h, List.length_filter_le, List.filter_sublist]
@[simp] theorem State.attemptLost_limits (s : State) (t : TxSlot) (h : State.limitsOk s) : State.limitsOk (State.attemptLost s t) := by
  unfold State.attemptLost; (repeat' (first | split | dsimp only)) <;> simp (maxDischargeDepth := 20) [h, List.length_filter_le, List.filter_sublist]
@[simp] theorem State.countFault_limits (s : State) (h : s.limitsOk) : s.countFault.limitsOk := by
  unfold State.countFault
  split
  · exact State.mapLine_limits s _ (Or.inr (Nat.le_of_lt ‹_›)) h
  · exact State.halt_limits _ _ (State.mapLine_limits s _ (Or.inr (Nat.le_refl _)) h)
@[simp] theorem State.answerAfterFault_limits (s : State) (place : FaultPlace) (f : Frame) (h : State.limitsOk s) : State.limitsOk (State.answerAfterFault s place f) := by
  unfold State.answerAfterFault; (repeat' (first | split | dsimp only)) <;> simp (maxDischargeDepth := 20) [h, List.length_filter_le, List.filter_sublist]
@[simp] theorem State.postStranger_limits (s : State) (n : Station) (h : State.limitsOk s) : State.limitsOk (State.postStranger s n) := by
  unfold State.postStranger; (repeat' (first | split | dsimp only)) <;> simp (maxDischargeDepth := 20) [h, List.length_filter_le, List.filter_sublist]
@[simp] theorem State.strangerHeard_limits (s : State) (n : Station) (h : State.limitsOk s) : State.limitsOk (State.strangerHeard s n) := by
  unfold State.strangerHeard; (repeat' (first | split | dsimp only)) <;> simp (maxDischargeDepth := 20) [h, List.length_filter_le, List.filter_sublist]
@[simp] theorem State.imageHeard_limits (s : State) (i : ImageFrame) (h : State.limitsOk s) : State.limitsOk (State.imageHeard s i) := by
  unfold State.imageHeard; (repeat' (first | split | dsimp only)) <;> simp (maxDischargeDepth := 20) [h, List.length_filter_le, List.filter_sublist]
@[simp] theorem State.compareStamp_limits (s : State) (o : Station) (e : CensusEntry) (h : State.limitsOk s) : State.limitsOk (State.compareStamp s o e) := by
  unfold State.compareStamp; (repeat' (first | split | dsimp only)) <;> simp (maxDischargeDepth := 20) [h, List.length_filter_le, List.filter_sublist]
@[simp] theorem State.compareIfOwner_limits (s : State) (o : Station) (e : CensusEntry) (h : State.limitsOk s) : State.limitsOk (State.compareIfOwner s o e) := by
  unfold State.compareIfOwner; (repeat' (first | split | dsimp only)) <;> simp (maxDischargeDepth := 20) [h, List.length_filter_le, List.filter_sublist]
@[simp] theorem State.censusCase_limits (s : State) (o : Station) (e : CensusEntry) (h : State.limitsOk s) : State.limitsOk (State.censusCase s o e) := by
  unfold State.censusCase; (repeat' (first | split | dsimp only)) <;> simp (maxDischargeDepth := 20) [h, List.length_filter_le, List.filter_sublist]
@[simp] theorem State.censusEntry_limits (o : Station) (s : State) (e : CensusEntry) (h : State.limitsOk s) : State.limitsOk (State.censusEntry o s e) := by
  unfold State.censusEntry; (repeat' (first | split | dsimp only)) <;> simp (maxDischargeDepth := 20) [h, List.length_filter_le, List.filter_sublist]
@[simp] theorem State.censusList_limits (s : State) (o : Station) (es : List CensusEntry) (h : State.limitsOk s) : State.limitsOk (State.censusList s o es) := by
  unfold State.censusList
  exact foldl_preserves (fun t : State => State.limitsOk t) _ (fun t x ht => by simp [ht, List.length_filter_le, List.filter_sublist]) _ _ (by simp (maxDischargeDepth := 20) [h, List.length_filter_le, List.filter_sublist])
@[simp] theorem State.markIfBehind_limits (s : State) (u : UpdateFrame) (h : State.limitsOk s) : State.limitsOk (State.markIfBehind s u) := by
  unfold State.markIfBehind; (repeat' (first | split | dsimp only)) <;> simp (maxDischargeDepth := 20) [h, List.length_filter_le, List.filter_sublist]
@[simp] theorem State.listen_limits (s : State) (f : Frame) (h : State.limitsOk s) : State.limitsOk (State.listen s f) := by
  unfold State.listen; (repeat' (first | split | dsimp only)) <;> simp (maxDischargeDepth := 20) [h, List.length_filter_le, List.filter_sublist]
@[simp] theorem State.restartAnswer_limits (s : State) (f : Frame) (h : State.limitsOk s) : State.limitsOk (State.restartAnswer s f) := by
  unfold State.restartAnswer; (repeat' (first | split | dsimp only)) <;> simp (maxDischargeDepth := 20) [h, List.length_filter_le, List.filter_sublist]
@[simp] theorem State.listenIfListening_limits (s : State) (f : Frame) (h : State.limitsOk s) : State.limitsOk (State.listenIfListening s f) := by
  unfold State.listenIfListening; (repeat' (first | split | dsimp only)) <;> simp (maxDischargeDepth := 20) [h, List.length_filter_le, List.filter_sublist]
@[simp] theorem State.handOn_limits (s : State) (f : Frame) (h : State.limitsOk s) : State.limitsOk (State.handOn s f) := by
  unfold State.handOn; (repeat' (first | split | dsimp only)) <;> simp (maxDischargeDepth := 20) [h, List.length_filter_le, List.filter_sublist]
@[simp] theorem State.ownNumberHeard_limits (s : State) (f : Frame) (h : State.limitsOk s) : State.limitsOk (State.ownNumberHeard s f) := by
  unfold State.ownNumberHeard; (repeat' (first | split | dsimp only)) <;> simp (maxDischargeDepth := 20) [h, List.length_filter_le, List.filter_sublist]
@[simp] theorem State.holdFrame_limits (s : State) (f : Frame) (bit acked : Bool) (h : State.limitsOk s) : State.limitsOk (State.holdFrame s f bit acked) := by
  unfold State.holdFrame; (repeat' (first | split | dsimp only)) <;> simp (maxDischargeDepth := 20) [h, List.length_filter_le, List.filter_sublist]
@[simp] theorem State.beaconAct_limits (b : BeaconFrame) (s : State) (h : State.limitsOk s) : State.limitsOk (State.beaconAct b s).2 := by
  unfold State.beaconAct; (repeat' (first | split | dsimp only)) <;> simp (maxDischargeDepth := 20) [h, List.length_filter_le, List.filter_sublist]
@[simp] theorem State.holdVote_limits (s : State) (r : Region) (bit : Bool) (h : State.limitsOk s) : State.limitsOk (State.holdVote s r bit) := by
  unfold State.holdVote; (repeat' (first | split | dsimp only)) <;> simp (maxDischargeDepth := 20) [h, List.length_filter_le, List.filter_sublist]
@[simp] theorem State.wakeIfAsked_limits (s : State) (r : Region) (h : State.limitsOk s) : State.limitsOk (State.wakeIfAsked s r) := by
  unfold State.wakeIfAsked; (repeat' (first | split | dsimp only)) <;> simp (maxDischargeDepth := 20) [h, List.length_filter_le, List.filter_sublist]
@[simp] theorem State.claimAct_limits (c : ClaimFrame) (guardPin : Bool) (s : State) (h : State.limitsOk s) : State.limitsOk (State.claimAct c guardPin s).2 := by
  unfold State.claimAct; (repeat' (first | split | dsimp only)) <;> simp (maxDischargeDepth := 20) [h, List.length_filter_le, List.filter_sublist]
@[simp] theorem State.decidePull_limits (s : State) (p : PullFrame) (h : State.limitsOk s) : State.limitsOk (State.decidePull s p).2 := by
  unfold State.decidePull; (repeat' (first | split | dsimp only)) <;> simp (maxDischargeDepth := 20) [h, List.length_filter_le, List.filter_sublist]
@[simp] theorem State.pullAct_limits (p : PullFrame) (s : State) (h : State.limitsOk s) : State.limitsOk (State.pullAct p s).2 := by
  unfold State.pullAct; (repeat' (first | split | dsimp only)) <;> simp (maxDischargeDepth := 20) [h, List.length_filter_le, List.filter_sublist]
@[simp] theorem State.takeUpdate_limits (s : State) (u : UpdateFrame) (h : s.limitsOk) : (s.takeUpdate u).2.limitsOk := by
  unfold State.takeUpdate
  split
  · simp only [State.mapEntry_limits]; exact State.takeApply_limits _ _ _ ‹_› h
  · exact h
@[simp] theorem State.compareUpdate_limits (s : State) (u : UpdateFrame) (h : State.limitsOk s) : State.limitsOk (State.compareUpdate s u).2 := by
  unfold State.compareUpdate; (repeat' (first | split | dsimp only)) <;> simp (maxDischargeDepth := 20) [h, List.length_filter_le, List.filter_sublist]
@[simp] theorem State.updateIfOwner_limits (s : State) (u : UpdateFrame) (h : State.limitsOk s) : State.limitsOk (State.updateIfOwner s u).2 := by
  unfold State.updateIfOwner; (repeat' (first | split | dsimp only)) <;> simp (maxDischargeDepth := 20) [h, List.length_filter_le, List.filter_sublist]
@[simp] theorem State.updateAct_limits (u : UpdateFrame) (s : State) (h : State.limitsOk s) : State.limitsOk (State.updateAct u s).2 := by
  unfold State.updateAct; (repeat' (first | split | dsimp only)) <;> simp (maxDischargeDepth := 20) [h, List.length_filter_le, List.filter_sublist]
@[simp] theorem State.takeChunk_limits (s : State) (p : PullRecord) (i : ImageFrame) (h : s.limitsOk) :
    (s.takeChunk p i).2.limitsOk := by
  unfold State.takeChunk
  (repeat' split)
  · simp [h]
  · exact State.takeApply_limits _ _ _ (by simpa using ‹s.applyQ.length < Config.applyLimit›) (by simp [h])
  · simp [h]
@[simp] theorem State.collect_limits (s : State) (p : PullRecord) (i : ImageFrame) (h : State.limitsOk s) : State.limitsOk (State.collect s p i).2 := by
  unfold State.collect; (repeat' (first | split | dsimp only)) <;> simp (maxDischargeDepth := 20) [h, List.length_filter_le, List.filter_sublist]
@[simp] theorem State.collectIfAsked_limits (s : State) (i : ImageFrame) (h : State.limitsOk s) : State.limitsOk (State.collectIfAsked s i).2 := by
  unfold State.collectIfAsked; (repeat' (first | split | dsimp only)) <;> simp (maxDischargeDepth := 20) [h, List.length_filter_le, List.filter_sublist]
@[simp] theorem State.imageAct_limits (i : ImageFrame) (s : State) (h : State.limitsOk s) : State.limitsOk (State.imageAct i s).2 := by
  unfold State.imageAct; (repeat' (first | split | dsimp only)) <;> simp (maxDischargeDepth := 20) [h, List.length_filter_le, List.filter_sublist]
@[simp] theorem State.attemptDone_limits (s : State) (h : State.limitsOk s) : State.limitsOk (State.attemptDone s) := by
  unfold State.attemptDone; (repeat' (first | split | dsimp only)) <;> simp (maxDischargeDepth := 20) [h, List.length_filter_le, List.filter_sublist]
@[simp] theorem State.receptionDone_limits (s : State) (h : State.limitsOk s) : State.limitsOk (State.receptionDone s) := by
  unfold State.receptionDone; (repeat' (first | split | dsimp only)) <;> simp (maxDischargeDepth := 20) [h, List.length_filter_le, List.filter_sublist]
@[simp] theorem State.beaconSent_limits (s : State) (b : BeaconFrame) (walkLast : Option Region) (ack : StationMap) (h : State.limitsOk s) : State.limitsOk (State.beaconSent s b walkLast ack) := by
  unfold State.beaconSent; (repeat' (first | split | dsimp only)) <;> simp (maxDischargeDepth := 20) [h, List.length_filter_le, List.filter_sublist]
@[simp] theorem State.ownBeaconEnd_limits (s : State) (b : BeaconFrame) (walkLast : Option Region) (ack : StationMap) (h : State.limitsOk s) : State.limitsOk (State.ownBeaconEnd s b walkLast ack) := by
  unfold State.ownBeaconEnd; (repeat' (first | split | dsimp only)) <;> simp (maxDischargeDepth := 20) [h, List.length_filter_le, List.filter_sublist]
@[simp] theorem State.beaconHeard_limits (s : State) (b : BeaconFrame) (h : State.limitsOk s) : State.limitsOk (State.beaconHeard s b) := by
  unfold State.beaconHeard; (repeat' (first | split | dsimp only)) <;> simp (maxDischargeDepth := 20) [h, List.length_filter_le, List.filter_sublist]
@[simp] theorem State.claimDecided_limits (s : State) (c : ClaimFrame) (source : ClaimSource) (ack : StationMap) (h : State.limitsOk s) : State.limitsOk (State.claimDecided s c source ack) := by
  unfold State.claimDecided; (repeat' (first | split | dsimp only)) <;> simp (maxDischargeDepth := 20) [h, List.length_filter_le, List.filter_sublist]
@[simp] theorem State.ownClaimEnd_limits (s : State) (c : ClaimFrame) (ack : StationMap) (h : State.limitsOk s) : State.limitsOk (State.ownClaimEnd s c ack) := by
  unfold State.ownClaimEnd; (repeat' (first | split | dsimp only)) <;> simp (maxDischargeDepth := 20) [h, List.length_filter_le, List.filter_sublist]
@[simp] theorem State.decideClaim_limits (s : State) (c : ClaimFrame) (m : StationMap) (h : State.limitsOk s) : State.limitsOk (State.decideClaim s c m) := by
  unfold State.decideClaim; (repeat' (first | split | dsimp only)) <;> simp (maxDischargeDepth := 20) [h, List.length_filter_le, List.filter_sublist]
@[simp] theorem State.claimHeard_limits (s : State) (acked : Bool) (c : ClaimFrame) (ack : StationMap) (h : State.limitsOk s) : State.limitsOk (State.claimHeard s acked c ack) := by
  unfold State.claimHeard; (repeat' (first | split | dsimp only)) <;> simp (maxDischargeDepth := 20) [h, List.length_filter_le, List.filter_sublist]
@[simp] theorem State.pullAnswered_limits (s : State) (p : PullRecord) (ack : StationMap) (h : State.limitsOk s) : State.limitsOk (State.pullAnswered s p ack) := by
  unfold State.pullAnswered; (repeat' (first | split | dsimp only)) <;> simp (maxDischargeDepth := 20) [h, List.length_filter_le, List.filter_sublist]
@[simp] theorem State.ownPullEnd_limits (s : State) (ack : StationMap) (h : State.limitsOk s) : State.limitsOk (State.ownPullEnd s ack) := by
  unfold State.ownPullEnd; (repeat' (first | split | dsimp only)) <;> simp (maxDischargeDepth := 20) [h, List.length_filter_le, List.filter_sublist]
@[simp] theorem State.settledShort_limits (s : State) (r : Region) (u : UpdateEntry) (missing : StationMap) (h : State.limitsOk s) : State.limitsOk (State.settledShort s r u missing) := by
  unfold State.settledShort; (repeat' (first | split | dsimp only)) <;> simp (maxDischargeDepth := 20) [h, List.length_filter_le, List.filter_sublist]
@[simp] theorem State.retryUpdate_limits (s : State) (h : s.limitsOk) : s.retryUpdate.limitsOk := by
  refine State.mapOut_limits s _ (Nat.le_of_eq (countP_isPull_map _ _ fun e => ?_)) h
  dsimp only; split
  · exact OutEntry.mapUpdate_isPull _ e
  · rfl
@[simp] theorem State.settleUpdate_limits (s : State) (r : Region) (u : UpdateEntry) (doom : Doom) (missing : StationMap) (h : State.limitsOk s) : State.limitsOk (State.settleUpdate s r u doom missing) := by
  unfold State.settleUpdate; (repeat' (first | split | dsimp only)) <;> simp (maxDischargeDepth := 20) [h, List.length_filter_le, List.filter_sublist]
@[simp] theorem State.ownUpdateEnd_limits (s : State) (ack : StationMap) (h : State.limitsOk s) : State.limitsOk (State.ownUpdateEnd s ack) := by
  unfold State.ownUpdateEnd; (repeat' (first | split | dsimp only)) <;> simp (maxDischargeDepth := 20) [h, List.length_filter_le, List.filter_sublist]
@[simp] theorem State.imageAcked_limits (s : State) (v : ServingRecord) (i : ImageEntry) (ack : StationMap) (h : State.limitsOk s) : State.limitsOk (State.imageAcked s v i ack) := by
  unfold State.imageAcked; (repeat' (first | split | dsimp only)) <;> simp (maxDischargeDepth := 20) [h, List.length_filter_le, List.filter_sublist]
@[simp] theorem State.ownImageEnd_limits (s : State) (ack : StationMap) (h : State.limitsOk s) : State.limitsOk (State.ownImageEnd s ack) := by
  unfold State.ownImageEnd; (repeat' (first | split | dsimp only)) <;> simp (maxDischargeDepth := 20) [h, List.length_filter_le, List.filter_sublist]
@[simp] theorem State.silence_limits (s : State) (n : Station) (h : State.limitsOk s) : State.limitsOk (State.silence s n) := by
  unfold State.silence; (repeat' (first | split | dsimp only)) <;> simp (maxDischargeDepth := 20) [h, List.length_filter_le, List.filter_sublist]
@[simp] theorem State.fallSilent_limits (s : State) (n : Station) (h : State.limitsOk s) : State.limitsOk (State.fallSilent s n) := by
  unfold State.fallSilent; (repeat' (first | split | dsimp only)) <;> simp (maxDischargeDepth := 20) [h, List.length_filter_le, List.filter_sublist]
@[simp] theorem State.fallAbsent_limits (s : State) (n : Station) (h : State.limitsOk s) : State.limitsOk (State.fallAbsent s n) := by
  unfold State.fallAbsent; (repeat' (first | split | dsimp only)) <;> simp (maxDischargeDepth := 20) [h, List.length_filter_le, List.filter_sublist]
@[simp] theorem State.joinComplete_limits (s : State) (h : s.limitsOk) : s.joinComplete.limitsOk :=
  State.sweepWalk_limits _ (State.postIsolation_limits _ (State.post_limits _ _ (State.setSweep_limits _ _
    (State.mapCatchup_limits _ _ (Nat.le_refl _) h))))
@[simp] theorem State.cut_limits (s : State) (h : State.limitsOk s) : State.limitsOk (State.cut s) := by
  unfold State.cut; (repeat' (first | split | dsimp only)) <;> simp (maxDischargeDepth := 20) [h, List.length_filter_le, List.filter_sublist]
@[simp] theorem State.answerExpired_limits (s : State) (p : PullRecord) (h : State.limitsOk s) : State.limitsOk (State.answerExpired s p) := by
  unfold State.answerExpired; (repeat' (first | split | dsimp only)) <;> simp (maxDischargeDepth := 20) [h, List.length_filter_le, List.filter_sublist]
@[simp] theorem State.advanceTimers_limits (s : State) (h : s.limitsOk) : s.advanceTimers.limitsOk := by
  obtain ⟨h1, h2, h3, h4, h5, h6, h7, h8⟩ := h
  exact ⟨h1, by simpa [State.advanceTimers] using h2, h3, h4, h5, h6, h7, h8⟩
@[simp] theorem State.tick_limits (s : State) (h : State.limitsOk s) : State.limitsOk (State.tick s) := by
  unfold State.tick State.whenOn; (repeat' (first | split | dsimp only)) <;> simp (maxDischargeDepth := 20) [h, List.length_filter_le, List.filter_sublist]
@[simp] theorem State.cutWrite_limits (s : State) (h : State.limitsOk s) : State.limitsOk (State.cutWrite s) := by
  unfold State.cutWrite; (repeat' (first | split | dsimp only)) <;> simp (maxDischargeDepth := 20) [h, List.length_filter_le, List.filter_sublist]
@[simp] theorem State.cutSetup_limits (s : State) (h : State.limitsOk s) : State.limitsOk (State.cutSetup s) := by
  unfold State.cutSetup; (repeat' (first | split | dsimp only)) <;> simp (maxDischargeDepth := 20) [h, List.length_filter_le, List.filter_sublist]
@[simp] theorem State.losePower_limits (s : State) (h : State.limitsOk s) : State.limitsOk (State.losePower s) := by
  unfold State.losePower; (repeat' (first | split | dsimp only)) <;> simp (maxDischargeDepth := 20) [h, List.length_filter_le, List.filter_sublist]
@[simp] theorem State.assertReset_limits (s : State) (h : State.limitsOk s) : State.limitsOk (State.assertReset s) := by
  unfold State.assertReset; (repeat' (first | split | dsimp only)) <;> simp (maxDischargeDepth := 20) [h, List.length_filter_le, List.filter_sublist]
@[simp] theorem State.releaseReset_limits (s : State) (straps : Straps) (h : State.limitsOk s) : State.limitsOk (State.releaseReset s straps) := by
  unfold State.releaseReset; (repeat' (first | split | dsimp only)) <;> simp (maxDischargeDepth := 20) [h, List.length_filter_le, List.filter_sublist]

end Sys2Proof.Machine
end

