-- ==== Sys2Proof/Laws/Spans.lean ====
section
/-! SUPPORT. Every span that waits for the array lies in its region (R1, R134), through every operation. -/

namespace Sys2Proof.Machine

@[simp] theorem State.setPower_spans (s : State) (x) : (s.setPower x).spansOk ↔ s.spansOk := Iff.rfl
@[simp] theorem State.setUnsaved_spans (s : State) (x) : (s.setUnsaved x).spansOk ↔ s.spansOk := Iff.rfl
@[simp] theorem State.setNv_spans (s : State) (x) : (s.setNv x).spansOk ↔ s.spansOk := Iff.rfl
@[simp] theorem State.mapNv_spans (s : State) (f) : (s.mapNv f).spansOk ↔ s.spansOk := Iff.rfl
@[simp] theorem State.setEvents_spans (s : State) (x) : (s.setEvents x).spansOk ↔ s.spansOk := Iff.rfl
@[simp] theorem State.setCtl_spans (s : State) (x) : (s.setCtl x).spansOk ↔ s.spansOk := Iff.rfl
@[simp] theorem State.mapCtl_spans (s : State) (f) : (s.mapCtl f).spansOk ↔ s.spansOk := Iff.rfl
@[simp] theorem State.setLine_spans (s : State) (x) : (s.setLine x).spansOk ↔ s.spansOk := Iff.rfl
@[simp] theorem State.mapLine_spans (s : State) (f) : (s.mapLine f).spansOk ↔ s.spansOk := Iff.rfl
@[simp] theorem State.setRoster_spans (s : State) (x) : (s.setRoster x).spansOk ↔ s.spansOk := Iff.rfl
@[simp] theorem State.mapRoster_spans (s : State) (f) : (s.mapRoster f).spansOk ↔ s.spansOk := Iff.rfl
@[simp] theorem State.setTable_spans (s : State) (x) : (s.setTable x).spansOk ↔ s.spansOk := Iff.rfl
@[simp] theorem State.setOut_spans (s : State) (x) : (s.setOut x).spansOk ↔ s.spansOk := Iff.rfl
@[simp] theorem State.mapOut_spans (s : State) (f) : (s.mapOut f).spansOk ↔ s.spansOk := Iff.rfl
@[simp] theorem State.setCatchup_spans (s : State) (x) : (s.setCatchup x).spansOk ↔ s.spansOk := Iff.rfl
@[simp] theorem State.mapCatchup_spans (s : State) (f) : (s.mapCatchup f).spansOk ↔ s.spansOk := Iff.rfl
@[simp] theorem State.setServing_spans (s : State) (x) : (s.setServing x).spansOk ↔ s.spansOk := Iff.rfl
@[simp] theorem State.setArb_spans (s : State) (x) : (s.setArb x).spansOk ↔ s.spansOk := Iff.rfl
@[simp] theorem State.setSerial_spans (s : State) (x) : (s.setSerial x).spansOk ↔ s.spansOk := Iff.rfl
@[simp] theorem State.setFree_spans (s : State) (x) : (s.setFree x).spansOk ↔ s.spansOk := Iff.rfl
@[simp] theorem State.setPending_spans (s : State) (x) : (s.setPending x).spansOk ↔ s.spansOk := Iff.rfl
@[simp] theorem State.setEntry_spans (s : State) (r : Region) (e : RegionEntry) :
    (s.setEntry r e).spansOk ↔ s.spansOk := Iff.rfl
@[simp] theorem State.mapEntry_spans (s : State) (r : Region) (f : RegionEntry → RegionEntry) :
    (s.mapEntry r f).spansOk ↔ s.spansOk := Iff.rfl

/-- A change of the Host Port that leaves no command with a span that waits, or the one that waited. -/
@[simp] theorem State.mapPort_spans (s : State) (f : Port → Port)
    (hf : (f s.port).state = s.port.state ∨ ∀ w, (f s.port).state = .working w → w.spanOk = true) (h : s.spansOk) :
    (s.mapPort f).spansOk := by
  refine ⟨h.1, fun w hw => ?_⟩
  rcases hf with hf | hf
  · exact h.2 w (by rw [← hf]; exact hw)
  · exact hf w hw

/-- An Apply Queue whose entries all stood in it before. -/
theorem State.setApplyQ_spans (s : State) (x : List ApplyEntry) (hx : ∀ e ∈ x, e ∈ s.applyQ) (h : s.spansOk) :
    (s.setApplyQ x).spansOk := ⟨fun e he => h.1 e (hx e he), h.2⟩

/-- The entries that a clearing keeps stood in the queue. -/
theorem State.applyInProgress_mem (s : State) (e : ApplyEntry) (h : e ∈ s.applyInProgress) : e ∈ s.applyQ := by
  unfold State.applyInProgress at h
  split at h
  · exact List.mem_of_mem_take h
  · cases h

/-- An update span lies in its region (R1). -/
theorem updateSpanOk_inRegion {offset length : Nat} (h : updateSpanOk offset length = true) : inRegion offset length = true := by
  simp only [updateSpanOk, Bool.and_eq_true, beq_iff_eq, decide_eq_true_eq] at h
  have : offset / 256 ≤ 15 := by omega
  exact decide_eq_true (show offset + length ≤ 4096 by omega)

/-- A whole chunk lies in its region (R1). -/
theorem chunk_inRegion (k : Chunk) : inRegion (chunkOffset k) Config.chunkBytes = true := by
  have := k.isLt
  exact decide_eq_true (show 256 * k.val + 256 ≤ 4096 by omega)


@[simp] theorem State.post_spans (s : State) (e : Event) (h : State.spansOk s) : State.spansOk (State.post s e) := by
  unfold State.post; (repeat' (first | split | dsimp only)) <;> simp (maxDischargeDepth := 20) [h]
@[simp] theorem State.retain_spans (s : State) (r : Region) (h : State.spansOk s) : State.spansOk (State.retain s r) := by
  unfold State.retain; (repeat' (first | split | dsimp only)) <;> simp (maxDischargeDepth := 20) [h]
@[simp] theorem State.countSerial_spans (s : State) (h : State.spansOk s) : State.spansOk (State.countSerial s) := by
  unfold State.countSerial; (repeat' (first | split | dsimp only)) <;> simp (maxDischargeDepth := 20) [h]
theorem State.takeApply_spans (s : State) (r : Region) (b : ApplyBody)
    (hb : inRegion b.span.1 b.span.2.length = true) (h : s.spansOk) : (s.takeApply r b).spansOk := by
  refine ⟨fun e he => ?_, h.2⟩
  have he : e ∈ s.applyQ ++ [⟨s.serial, r, b⟩] := he
  rcases List.mem_append.1 he with he | he
  · exact h.1 e he
  · rw [List.mem_singleton.1 he]; exact hb
@[simp] theorem State.answer_spans (s : State) (code : Byte) (r : ResultCode) (d : List Byte) (h : s.spansOk) :
    (s.answer code r d).spansOk := State.mapPort_spans s _ (Or.inr fun w hw => by cases hw) h
theorem State.work_spans (s : State) (w : Work) (hw : w.spanOk = true) (h : s.spansOk) : (s.work w).spansOk :=
  State.mapPort_spans s _ (Or.inr fun w' h' => by cases h'; exact hw) h
@[simp] theorem State.workSetup_spans (s : State) (m : StationMap) (g : RegionMap) (h : s.spansOk) :
    (s.work (.setup m g)).spansOk := State.work_spans s _ rfl h
@[simp] theorem State.workFormat_spans (s : State) (r : Region) (k : Chunk) (h : s.spansOk) :
    (s.work (.format r k)).spansOk := State.work_spans s _ rfl h
@[simp] theorem State.setEntries_spans (s : State) (es : List OutEntry) (h : State.spansOk s) : State.spansOk (State.setEntries s es) := by
  unfold State.setEntries; (repeat' (first | split | dsimp only)) <;> simp (maxDischargeDepth := 20) [h]
@[simp] theorem State.checkFence_spans (s : State) (h : State.spansOk s) : State.spansOk (State.checkFence s) := by
  unfold State.checkFence; (repeat' (first | split | dsimp only)) <;> simp (maxDischargeDepth := 20) [h]
@[simp] theorem State.departed_spans (s : State) (cut : Bool) (e : OutEntry) (h : State.spansOk s) : State.spansOk (State.departed s cut e) := by
  unfold State.departed; (repeat' (first | split | dsimp only)) <;> simp (maxDischargeDepth := 20) [h]
@[simp] theorem State.departAll_spans (s : State) (cut : Bool) (gone : List OutEntry) (h : State.spansOk s) : State.spansOk (State.departAll s cut gone) := by
  unfold State.departAll
  exact foldl_preserves (fun t : State => State.spansOk t) _ (fun t x ht => by simp [ht]) _ _ (by simp (maxDischargeDepth := 20) [h])
@[simp] theorem State.discardEntries_spans (s : State) (p : OutEntry → Bool) (cut : Bool) (h : State.spansOk s) : State.spansOk (State.discardEntries s p cut) := by
  unfold State.discardEntries; (repeat' (first | split | dsimp only)) <;> simp (maxDischargeDepth := 20) [h]
@[simp] theorem State.removeSending_spans (s : State) (h : State.spansOk s) : State.spansOk (State.removeSending s) := by
  unfold State.removeSending; (repeat' (first | split | dsimp only)) <;> simp (maxDischargeDepth := 20) [h]
@[simp] theorem State.returnSending_spans (s : State) (h : State.spansOk s) : State.spansOk (State.returnSending s) := by
  unfold State.returnSending; (repeat' (first | split | dsimp only)) <;> simp (maxDischargeDepth := 20) [h]
@[simp] theorem State.releaseHold_spans (s : State) (h : State.spansOk s) : State.spansOk (State.releaseHold s) := by
  unfold State.releaseHold; (repeat' (first | split | dsimp only)) <;> simp (maxDischargeDepth := 20) [h]
@[simp] theorem State.putServing_spans (s : State) (v : ServingRecord) (h : State.spansOk s) : State.spansOk (State.putServing s v) := by
  unfold State.putServing; (repeat' (first | split | dsimp only)) <;> simp (maxDischargeDepth := 20) [h]
@[simp] theorem State.dropRead_spans (s : State) (r : Region) (h : State.spansOk s) : State.spansOk (State.dropRead s r) := by
  unfold State.dropRead; (repeat' (first | split | dsimp only)) <;> simp (maxDischargeDepth := 20) [h]
@[simp] theorem State.dropServing_spans (s : State) (r : Region) (h : State.spansOk s) : State.spansOk (State.dropServing s r) := by
  unfold State.dropServing; (repeat' (first | split | dsimp only)) <;> simp (maxDischargeDepth := 20) [h]
@[simp] theorem State.endServing_spans (s : State) (r : Region) (h : State.spansOk s) : State.spansOk (State.endServing s r) := by
  unfold State.endServing; (repeat' (first | split | dsimp only)) <;> simp (maxDischargeDepth := 20) [h]
@[simp] theorem State.putTargets_spans (s : State) (v : ServingRecord) (ts : List Target) (h : State.spansOk s) : State.spansOk (State.putTargets s v ts) := by
  unfold State.putTargets; (repeat' (first | split | dsimp only)) <;> simp (maxDischargeDepth := 20) [h]
@[simp] theorem State.dropTarget_spans (s : State) (r : Region) (n : Station) (h : State.spansOk s) : State.spansOk (State.dropTarget s r n) := by
  unfold State.dropTarget; (repeat' (first | split | dsimp only)) <;> simp (maxDischargeDepth := 20) [h]
@[simp] theorem State.dropTargets_spans (s : State) (n : Station) (h : State.spansOk s) : State.spansOk (State.dropTargets s n) := by
  unfold State.dropTargets
  exact foldl_preserves (fun t : State => State.spansOk t) _ (fun t x ht => by simp [ht]) _ _ (by simp (maxDischargeDepth := 20) [h])
@[simp] theorem State.endAllServing_spans (s : State) (h : State.spansOk s) : State.spansOk (State.endAllServing s) := by
  unfold State.endAllServing
  exact foldl_preserves (fun t : State => State.spansOk t) _ (fun t x ht => by simp [ht]) _ _ (by simp (maxDischargeDepth := 20) [h])
@[simp] theorem State.requestRead_spans (s : State) (r : Region) (h : State.spansOk s) : State.spansOk (State.requestRead s r) := by
  unfold State.requestRead; (repeat' (first | split | dsimp only)) <;> simp (maxDischargeDepth := 20) [h]
@[simp] theorem State.requestReads_spans (s : State) (h : State.spansOk s) : State.spansOk (State.requestReads s) := by
  unfold State.requestReads
  exact foldl_preserves (fun t : State => State.spansOk t) _ (fun t x ht => by simp [ht]) _ _ (by simp (maxDischargeDepth := 20) [h])
@[simp] theorem State.serve_spans (s : State) (r : Region) (q : Station) (h : State.spansOk s) : State.spansOk (State.serve s r q) := by
  unfold State.serve; (repeat' (first | split | dsimp only)) <;> simp (maxDischargeDepth := 20) [h]
@[simp] theorem State.restartServing_spans (s : State) (r : Region) (h : State.spansOk s) : State.spansOk (State.restartServing s r) := by
  unfold State.restartServing; (repeat' (first | split | dsimp only)) <;> simp (maxDischargeDepth := 20) [h]
@[simp] theorem State.abandonWrite_spans (s : State) (r : Region) (h : State.spansOk s) : State.spansOk (State.abandonWrite s r) := by
  unfold State.abandonWrite; (repeat' (first | split | dsimp only)) <;> simp (maxDischargeDepth := 20) [h]
@[simp] theorem State.setSweep_spans (s : State) (w : Sweep) (h : State.spansOk s) : State.spansOk (State.setSweep s w) := by
  unfold State.setSweep; (repeat' (first | split | dsimp only)) <;> simp (maxDischargeDepth := 20) [h]
@[simp] theorem State.dropHeld_spans (s : State) (r : Region) (h : State.spansOk s) : State.spansOk (State.dropHeld s r) := by
  unfold State.dropHeld; (repeat' (first | split | dsimp only)) <;> simp (maxDischargeDepth := 20) [h]
@[simp] theorem State.appendEntry_spans (s : State) (r : Region) (b : EntryBody) (h : State.spansOk s) : State.spansOk (State.appendEntry s r b) := by
  unfold State.appendEntry; (repeat' (first | split | dsimp only)) <;> simp (maxDischargeDepth := 20) [h]
@[simp] theorem State.sweepAct_spans (s : State) (h : State.spansOk s) : State.spansOk (State.sweepAct s).1 := by
  unfold State.sweepAct; (repeat' (first | split | dsimp only)) <;> simp (maxDischargeDepth := 20) [h]
@[simp] theorem State.sweepFrom_spans (n : Nat) (s : State) (h : State.spansOk s) : State.spansOk (State.sweepFrom n s) := by
  induction n generalizing s with
  | zero => simpa [State.sweepFrom] using h
  | succ n ih => unfold State.sweepFrom; (repeat' split) <;> simp (maxDischargeDepth := 20) [ih, h]
@[simp] theorem State.sweepWalk_spans (s : State) (h : State.spansOk s) : State.spansOk (State.sweepWalk s) := by
  unfold State.sweepWalk; (repeat' (first | split | dsimp only)) <;> simp (maxDischargeDepth := 20) [h]
@[simp] theorem State.listRegion_spans (s : State) (r : Region) (h : State.spansOk s) : State.spansOk (State.listRegion s r) := by
  unfold State.listRegion; (repeat' (first | split | dsimp only)) <;> simp (maxDischargeDepth := 20) [h]
@[simp] theorem State.dropPull_spans (s : State) (r : Region) (h : State.spansOk s) : State.spansOk (State.dropPull s r) := by
  unfold State.dropPull; (repeat' (first | split | dsimp only)) <;> simp (maxDischargeDepth := 20) [h]
@[simp] theorem State.postStale_spans (s : State) (r : Region) (h : State.spansOk s) : State.spansOk (State.postStale s r) := by
  unfold State.postStale; (repeat' (first | split | dsimp only)) <;> simp (maxDischargeDepth := 20) [h]
@[simp] theorem State.parkRegion_spans (s : State) (r : Region) (h : State.spansOk s) : State.spansOk (State.parkRegion s r) := by
  unfold State.parkRegion; (repeat' (first | split | dsimp only)) <;> simp (maxDischargeDepth := 20) [h]
@[simp] theorem State.afterClosure_spans (s : State) (r : Region) (park : Bool) (h : State.spansOk s) : State.spansOk (State.afterClosure s r park) := by
  unfold State.afterClosure; (repeat' (first | split | dsimp only)) <;> simp (maxDischargeDepth := 20) [h]
@[simp] theorem State.closePull_spans (s : State) (r : Region) (park : Bool) (h : State.spansOk s) : State.spansOk (State.closePull s r park) := by
  unfold State.closePull; (repeat' (first | split | dsimp only)) <;> simp (maxDischargeDepth := 20) [h]
@[simp] theorem State.closeAllPulls_spans (s : State) (h : State.spansOk s) : State.spansOk (State.closeAllPulls s) := by
  unfold State.closeAllPulls
  exact foldl_preserves (fun t : State => State.spansOk t) _ (fun t x ht => by simp [ht]) _ _ (by simp (maxDischargeDepth := 20) [h])
@[simp] theorem State.queuePull_spans (s : State) (p : PullRecord) (h : State.spansOk s) : State.spansOk (State.queuePull s p) := by
  unfold State.queuePull; (repeat' (first | split | dsimp only)) <;> simp (maxDischargeDepth := 20) [h]
@[simp] theorem State.queuePulls_spans (s : State) (h : State.spansOk s) : State.spansOk (State.queuePulls s) := by
  unfold State.queuePulls
  exact foldl_preserves (fun t : State => State.spansOk t) _ (fun t x ht => by simp [ht]) _ _ (by simp (maxDischargeDepth := 20) [h])
@[simp] theorem State.addPull_spans (s : State) (r : Region) (n : Station) (h : State.spansOk s) : State.spansOk (State.addPull s r n) := by
  unfold State.addPull; (repeat' (first | split | dsimp only)) <;> simp (maxDischargeDepth := 20) [h]
@[simp] theorem State.openPull_spans (s : State) (r : Region) (n : Station) (kept : Cause) (h : State.spansOk s) : State.spansOk (State.openPull s r n kept) := by
  unfold State.openPull; (repeat' (first | split | dsimp only)) <;> simp (maxDischargeDepth := 20) [h]
@[simp] theorem State.openPullsFrom_spans (n : Nat) (s : State) (h : State.spansOk s) : State.spansOk (State.openPullsFrom n s) := by
  induction n generalizing s with
  | zero => simpa [State.openPullsFrom] using h
  | succ n ih =>
    rcases h' : s.nextPull with _ | p
    · simpa [State.openPullsFrom_none n s h'] using h
    · rw [State.openPullsFrom_some n s p h']; exact ih _ (by simp [h])
@[simp] theorem State.openPulls_spans (s : State) (h : State.spansOk s) : State.spansOk (State.openPulls s) := by
  unfold State.openPulls; (repeat' (first | split | dsimp only)) <;> simp (maxDischargeDepth := 20) [h]
@[simp] theorem State.reportMark_spans (s : State) (r : Region) (c : Cause) (h : State.spansOk s) : State.spansOk (State.reportMark s r c) := by
  unfold State.reportMark; (repeat' (first | split | dsimp only)) <;> simp (maxDischargeDepth := 20) [h]
@[simp] theorem State.unpark_spans (s : State) (r : Region) (h : State.spansOk s) : State.spansOk (State.unpark s r) := by
  unfold State.unpark; (repeat' (first | split | dsimp only)) <;> simp (maxDischargeDepth := 20) [h]
@[simp] theorem State.markStale_spans (s : State) (r : Region) (c : Cause) (h : State.spansOk s) : State.spansOk (State.markStale s r c) := by
  unfold State.markStale; (repeat' (first | split | dsimp only)) <;> simp (maxDischargeDepth := 20) [h]
@[simp] theorem State.dropFront_spans (s : State) (r : Region) (h : State.spansOk s) : State.spansOk (State.dropFront s r) := by
  unfold State.dropFront; (repeat' (first | split | dsimp only)) <;> simp (maxDischargeDepth := 20) [h]
@[simp] theorem State.surrender_spans (s : State) (r : Region) (h : State.spansOk s) : State.spansOk (State.surrender s r) := by
  unfold State.surrender; (repeat' (first | split | dsimp only)) <;> simp (maxDischargeDepth := 20) [h]
@[simp] theorem State.assume_spans (s : State) (r : Region) (h : State.spansOk s) : State.spansOk (State.assume s r) := by
  unfold State.assume; (repeat' (first | split | dsimp only)) <;> simp (maxDischargeDepth := 20) [h]
@[simp] theorem State.partOld_spans (s : State) (r : Region) (self : Bool) (h : State.spansOk s) : State.spansOk (State.partOld s r self) := by
  unfold State.partOld; (repeat' (first | split | dsimp only)) <;> simp (maxDischargeDepth := 20) [h]
@[simp] theorem State.partNew_spans (s : State) (r : Region) (self : Bool) (h : State.spansOk s) : State.spansOk (State.partNew s r self) := by
  unfold State.partNew; (repeat' (first | split | dsimp only)) <;> simp (maxDischargeDepth := 20) [h]
@[simp] theorem State.changeOwner_spans (s : State) (r : Region) (o : Option Owner) (h : State.spansOk s) : State.spansOk (State.changeOwner s r o) := by
  unfold State.changeOwner; (repeat' (first | split | dsimp only)) <;> simp (maxDischargeDepth := 20) [h]
@[simp] theorem State.setState_spans (s : State) (st : StationState) (h : State.spansOk s) : State.spansOk (State.setState s st) := by
  unfold State.setState; (repeat' (first | split | dsimp only)) <;> simp (maxDischargeDepth := 20) [h]
@[simp] theorem State.quorumCheck_spans (s : State) (h : State.spansOk s) : State.spansOk (State.quorumCheck s) := by
  unfold State.quorumCheck; (repeat' (first | split | dsimp only)) <;> simp (maxDischargeDepth := 20) [h]
@[simp] theorem State.mapRosterEntry_spans (s : State) (n : Station) (f : RosterEntry → RosterEntry) (h : State.spansOk s) : State.spansOk (State.mapRosterEntry s n f) := by
  unfold State.mapRosterEntry; (repeat' (first | split | dsimp only)) <;> simp (maxDischargeDepth := 20) [h]
@[simp] theorem State.targetsFollow_spans (s : State) (n : Station) (st : Presence) (h : State.spansOk s) : State.spansOk (State.targetsFollow s n st) := by
  unfold State.targetsFollow; (repeat' (first | split | dsimp only)) <;> simp (maxDischargeDepth := 20) [h]
@[simp] theorem State.differsFollows_spans (s : State) (n : Station) (st : Presence) (h : State.spansOk s) : State.spansOk (State.differsFollows s n st) := by
  unfold State.differsFollows; (repeat' (first | split | dsimp only)) <;> simp (maxDischargeDepth := 20) [h]
@[simp] theorem State.statusChange_spans (s : State) (n : Station) (st : Presence) (h : State.spansOk s) : State.spansOk (State.statusChange s n st) := by
  unfold State.statusChange; (repeat' (first | split | dsimp only)) <;> simp (maxDischargeDepth := 20) [h]
@[simp] theorem State.clearRoster_spans (s : State) (h : State.spansOk s) : State.spansOk (State.clearRoster s) := by
  unfold State.clearRoster; (repeat' (first | split | dsimp only)) <;> simp (maxDischargeDepth := 20) [h]
@[simp] theorem State.followFrame_spans (s : State) (f : Frame) (h : State.spansOk s) : State.spansOk (State.followFrame s f) := by
  unfold State.followFrame; (repeat' (first | split | dsimp only)) <;> simp (maxDischargeDepth := 20) [h]
@[simp] theorem State.checkMembers_spans (s : State) (f : Frame) (h : State.spansOk s) : State.spansOk (State.checkMembers s f) := by
  unfold State.checkMembers; (repeat' (first | split | dsimp only)) <;> simp (maxDischargeDepth := 20) [h]
@[simp] theorem State.rosterHandoff_spans (s : State) (f : Frame) (h : State.spansOk s) : State.spansOk (State.rosterHandoff s f) := by
  unfold State.rosterHandoff; (repeat' (first | split | dsimp only)) <;> simp (maxDischargeDepth := 20) [h]
@[simp] theorem State.learnOwner_spans (s : State) (r : Region) (o : Station) (e : Epoch) (h : State.spansOk s) : State.spansOk (State.learnOwner s r o e) := by
  unfold State.learnOwner; (repeat' (first | split | dsimp only)) <;> simp (maxDischargeDepth := 20) [h]
@[simp] theorem State.addFront_spans (s : State) (r : Region) (h : State.spansOk s) : State.spansOk (State.addFront s r) := by
  unfold State.addFront; (repeat' (first | split | dsimp only)) <;> simp (maxDischargeDepth := 20) [h]
@[simp] theorem State.loseConflict_spans (s : State) (r : Region) (o : Station) (stamp : Stamp) (h : State.spansOk s) : State.spansOk (State.loseConflict s r o stamp) := by
  unfold State.loseConflict; (repeat' (first | split | dsimp only)) <;> simp (maxDischargeDepth := 20) [h]
@[simp] theorem State.resolveConflict_spans (s : State) (r : Region) (o : Station) (stamp : Stamp) (h : State.spansOk s) : State.spansOk (State.resolveConflict s r o stamp) := by
  unfold State.resolveConflict; (repeat' (first | split | dsimp only)) <;> simp (maxDischargeDepth := 20) [h]
@[simp] theorem State.claimCopy_spans (s : State) (r : Region) (stamp : Stamp) (h : State.spansOk s) : State.spansOk (State.claimCopy s r stamp) := by
  unfold State.claimCopy; (repeat' (first | split | dsimp only)) <;> simp (maxDischargeDepth := 20) [h]
@[simp] theorem State.yielded_spans (s : State) (r : Region) (former : Bool) (h : State.spansOk s) : State.spansOk (State.yielded s r former) := by
  unfold State.yielded; (repeat' (first | split | dsimp only)) <;> simp (maxDischargeDepth := 20) [h]
@[simp] theorem State.claimOwner_spans (s : State) (c : Station) (r : Region) (stamp : Stamp) (h : State.spansOk s) : State.spansOk (State.claimOwner s c r stamp) := by
  unfold State.claimOwner; (repeat' (first | split | dsimp only)) <;> simp (maxDischargeDepth := 20) [h]
@[simp] theorem State.applyClaim_spans (s : State) (c : Station) (r : Region) (stamp : Stamp) (h : State.spansOk s) : State.spansOk (State.applyClaim s c r stamp) := by
  unfold State.applyClaim; (repeat' (first | split | dsimp only)) <;> simp (maxDischargeDepth := 20) [h]
@[simp] theorem State.postStales_spans (s : State) (rs : List Region) (h : State.spansOk s) : State.spansOk (State.postStales s rs) := by
  unfold State.postStales
  exact foldl_preserves (fun t : State => State.spansOk t) _ (fun t x ht => by simp [ht]) _ _ (by simp (maxDischargeDepth := 20) [h])
@[simp] theorem State.postIsolation_spans (s : State) (h : State.spansOk s) : State.spansOk (State.postIsolation s) := by
  unfold State.postIsolation; (repeat' (first | split | dsimp only)) <;> simp (maxDischargeDepth := 20) [h]
@[simp] theorem State.wakeUp_spans (s : State) (coincidence : Option Region) (h : State.spansOk s) : State.spansOk (State.wakeUp s coincidence) := by
  unfold State.wakeUp; (repeat' (first | split | dsimp only)) <;> simp (maxDischargeDepth := 20) [h]
@[simp] theorem State.endVote_spans (s : State) (r : Region) (h : State.spansOk s) : State.spansOk (State.endVote s r) := by
  unfold State.endVote; (repeat' (first | split | dsimp only)) <;> simp (maxDischargeDepth := 20) [h]
@[simp] theorem State.dropFrame_spans (s : State) (h : State.spansOk s) : State.spansOk (State.dropFrame s) := by
  unfold State.dropFrame; (repeat' (first | split | dsimp only)) <;> simp (maxDischargeDepth := 20) [h]
@[simp] theorem State.lineOff_spans (s : State) (h : State.spansOk s) : State.spansOk (State.lineOff s) := by
  unfold State.lineOff; (repeat' (first | split | dsimp only)) <;> simp (maxDischargeDepth := 20) [h]
@[simp] theorem State.disown_spans (s : State) (r : Region) (h : State.spansOk s) : State.spansOk (State.disown s r) := by
  unfold State.disown; (repeat' (first | split | dsimp only)) <;> simp (maxDischargeDepth := 20) [h]
@[simp] theorem State.haltRegion_spans (s : State) (r : Region) (h : State.spansOk s) : State.spansOk (State.haltRegion s r) := by
  unfold State.haltRegion; (repeat' (first | split | dsimp only)) <;> simp (maxDischargeDepth := 20) [h]
@[simp] theorem State.haltApply_spans (s : State) (h : s.spansOk) : s.haltApply.spansOk := by
  unfold State.haltApply
  exact foldl_preserves (fun t : State => t.spansOk) _ (fun t x ht => by simp [ht]) _ _
    (State.setApplyQ_spans _ _ s.applyInProgress_mem h)
@[simp] theorem State.stopTimers_spans (s : State) (h : State.spansOk s) : State.spansOk (State.stopTimers s) := by
  unfold State.stopTimers; (repeat' (first | split | dsimp only)) <;> simp (maxDischargeDepth := 20) [h]
@[simp] theorem State.clearOutbox_spans (s : State) (h : State.spansOk s) : State.spansOk (State.clearOutbox s) := by
  unfold State.clearOutbox; (repeat' (first | split | dsimp only)) <;> simp (maxDischargeDepth := 20) [h]
@[simp] theorem State.halt_spans (s : State) (c : HaltCause) (h : State.spansOk s) : State.spansOk (State.halt s c) := by
  unfold State.halt; (repeat' (first | split | dsimp only)) <;> simp (maxDischargeDepth := 20) [h]
@[simp] theorem State.forgetOwners_spans (s : State) (h : State.spansOk s) : State.spansOk (State.forgetOwners s) := by
  unfold State.forgetOwners; (repeat' (first | split | dsimp only)) <;> simp (maxDischargeDepth := 20) [h]
@[simp] theorem State.goOffline_spans (s : State) (h : State.spansOk s) : State.spansOk (State.goOffline s) := by
  unfold State.goOffline; (repeat' (first | split | dsimp only)) <;> simp (maxDischargeDepth := 20) [h]
@[simp] theorem State.drainEnd_spans (s : State) (h : State.spansOk s) : State.spansOk (State.drainEnd s) := by
  unfold State.drainEnd; (repeat' (first | split | dsimp only)) <;> simp (maxDischargeDepth := 20) [h]
@[simp] theorem State.finalEnd_spans (s : State) (h : State.spansOk s) : State.spansOk (State.finalEnd s) := by
  unfold State.finalEnd; (repeat' (first | split | dsimp only)) <;> simp (maxDischargeDepth := 20) [h]
@[simp] theorem State.setIntent_spans (s : State) (i : Option Intent) (h : State.spansOk s) : State.spansOk (State.setIntent s i) := by
  unfold State.setIntent; (repeat' (first | split | dsimp only)) <;> simp (maxDischargeDepth := 20) [h]
@[simp] theorem State.grantHost_spans (s : State) (h : State.spansOk s) : State.spansOk (State.grantHost s) := by
  unfold State.grantHost; (repeat' (first | split | dsimp only)) <;> simp (maxDischargeDepth := 20) [h]
@[simp] theorem State.grantHead_spans (s : State) (h : State.spansOk s) : State.spansOk (State.grantHead s) := by
  unfold State.grantHead; (repeat' (first | split | dsimp only)) <;> simp (maxDischargeDepth := 20) [h]
@[simp] theorem State.grantImage_spans (s : State) (v : ServingRecord) (h : State.spansOk s) : State.spansOk (State.grantImage s v) := by
  unfold State.grantImage; (repeat' (first | split | dsimp only)) <;> simp (maxDischargeDepth := 20) [h]
@[simp] theorem State.arbitrate_spans (s : State) (h : State.spansOk s) : State.spansOk (State.arbitrate s) := by
  unfold State.arbitrate; (repeat' (first | split | dsimp only)) <;> simp (maxDischargeDepth := 20) [h]
@[simp] theorem State.resume_spans (s : State) (h : State.spansOk s) : State.spansOk (State.resume s) := by
  unfold State.resume; (repeat' (first | split | dsimp only)) <;> simp (maxDischargeDepth := 20) [h]
@[simp] theorem State.settle_spans (s : State) (h : State.spansOk s) : State.spansOk (State.settle s) := by
  unfold State.settle; (repeat' (first | split | dsimp only)) <;> simp (maxDischargeDepth := 20) [h]
@[simp] theorem State.afterAttempt_spans (s : State) (h : State.spansOk s) : State.spansOk (State.afterAttempt s) := by
  unfold State.afterAttempt; (repeat' (first | split | dsimp only)) <;> simp (maxDischargeDepth := 20) [h]
@[simp] theorem State.refusePut_spans (s : State) (h : State.spansOk s) : State.spansOk (State.refusePut s) := by
  unfold State.refusePut; (repeat' (first | split | dsimp only)) <;> simp (maxDischargeDepth := 20) [h]
@[simp] theorem State.undriven_spans (s : State) (h : State.spansOk s) : State.spansOk (State.undriven s) := by
  unfold State.undriven; (repeat' (first | split | dsimp only)) <;> simp (maxDischargeDepth := 20) [h]
@[simp] theorem State.takeBits_spans (s : State) (bits : Nat) (h : s.spansOk) : (s.takeBits bits).spansOk := by
  unfold State.takeBits
  split
  · exact State.mapPort_spans s _ (Or.inr fun w hw => by dsimp only at hw; split at hw <;> cases hw) h
  all_goals exact State.mapPort_spans s _ (Or.inl rfl) h
/-- The start of a poll keeps the port state. -/
@[simp] theorem Port.beginPoll_state (p : Port) (now : Byte) : (p.beginPoll now).state = p.state := by
  unfold Port.beginPoll; split <;> rfl
/-- The end of a run of poll bits keeps the port state. -/
@[simp] theorem Port.endRun_state (p : Port) (held : Bool) : (p.endRun held).state = p.state := by
  unfold Port.endRun; split <;> rfl
@[simp] theorem State.pollBit_spans (s : State) (h : s.spansOk) : s.pollBit.spansOk := State.mapPort_spans s _ (Or.inl rfl) h
@[simp] theorem State.pollBits_spans (n : Nat) (s : State) (h : State.spansOk s) : State.spansOk (State.pollBits n s) := by
  induction n generalizing s with
  | zero => simpa [State.pollBits] using h
  | succ n ih => unfold State.pollBits; exact ih _ (by simp [h])
@[simp] theorem State.pollRun_spans (s : State) (run : PollRun) (h : s.spansOk) : (s.pollRun run).spansOk := by
  unfold State.pollRun
  split
  · exact State.mapPort_spans s _ (Or.inl rfl) h
  · exact State.mapPort_spans _ _ (Or.inl (Port.endRun_state _ _))
      (State.pollBits_spans _ _ (State.mapPort_spans s _ (Or.inl (Port.beginPoll_state _ _)) h))
theorem State.startRead_spans (s : State) (r : Region) (o l : Nat) (hl : inRegion o l = true) (h : s.spansOk) :
    (s.startRead r o l).spansOk := by
  unfold State.startRead
  split
  · simp [h]
  · exact State.arbitrate_spans _ (State.work_spans _ _ hl h)
@[simp] theorem State.takeRoom_spans (s : State) (r : Region) (h : State.spansOk s) : State.spansOk (State.takeRoom s r) := by
  unfold State.takeRoom; (repeat' (first | split | dsimp only)) <;> simp (maxDischargeDepth := 20) [h]
@[simp] theorem State.startClaim_spans (s : State) (r : Region) (guardPin : Bool) (h : State.spansOk s) : State.spansOk (State.startClaim s r guardPin) := by
  unfold State.startClaim; (repeat' (first | split | dsimp only)) <;> simp (maxDischargeDepth := 20) [h]
@[simp] theorem State.setYield_spans (s : State) (code : Byte) (r : Region) (yes : Bool) (h : State.spansOk s) : State.spansOk (State.setYield s code r yes) := by
  unfold State.setYield; (repeat' (first | split | dsimp only)) <;> simp (maxDischargeDepth := 20) [h]
@[simp] theorem State.openFence_spans (s : State) (h : State.spansOk s) : State.spansOk (State.openFence s) := by
  unfold State.openFence; (repeat' (first | split | dsimp only)) <;> simp (maxDischargeDepth := 20) [h]
@[simp] theorem State.formatClear_spans (s : State) (h : s.spansOk) : s.formatClear.spansOk := by
  unfold State.formatClear
  simpa using State.setApplyQ_spans _ _ s.applyInProgress_mem h
@[simp] theorem State.formatIntent_spans (s : State) (h : State.spansOk s) : State.spansOk (State.formatIntent s) := by
  unfold State.formatIntent; (repeat' (first | split | dsimp only)) <;> simp (maxDischargeDepth := 20) [h]
@[simp] theorem State.startListening_spans (s : State) (h : State.spansOk s) : State.spansOk (State.startListening s) := by
  unfold State.startListening; (repeat' (first | split | dsimp only)) <;> simp (maxDischargeDepth := 20) [h]
@[simp] theorem State.startLeaving_spans (s : State) (h : State.spansOk s) : State.spansOk (State.startLeaving s) := by
  unfold State.startLeaving; (repeat' (first | split | dsimp only)) <;> simp (maxDischargeDepth := 20) [h]
@[simp] theorem State.clearWorking_spans (s : State) (p : Power) : (s.clearWorking p).spansOk :=
  by
  refine ⟨fun e he => ?_, fun w hw => ?_⟩
  · cases he
  · cases hw
@[simp] theorem State.recover_spans (s : State) (c : ResetCause) (x : Straps) : (s.recover c x).spansOk :=
  by
  refine ⟨fun e he => ?_, fun w hw => ?_⟩
  · cases he
  · cases hw
@[simp] theorem State.finishOp_spans (s : State) (h : State.spansOk s) : State.spansOk (State.finishOp s) := by
  unfold State.finishOp; (repeat' (first | split | dsimp only)) <;> simp (maxDischargeDepth := 20) [h]
@[simp] theorem State.endOp_spans (s : State) (h : State.spansOk s) : State.spansOk (State.endOp s) := by
  unfold State.endOp; (repeat' (first | split | dsimp only)) <;> simp (maxDischargeDepth := 20) [h]
@[simp] theorem State.writeArray_spans (s : State) (r : Region) (k : Nat) (data : List Byte) (h : State.spansOk s) : State.spansOk (State.writeArray s r k data) := by
  unfold State.writeArray; (repeat' (first | split | dsimp only)) <;> simp (maxDischargeDepth := 20) [h]
@[simp] theorem State.setupWritten_spans (s : State) (members : StationMap) (guardSet : RegionMap) (h : State.spansOk s) : State.spansOk (State.setupWritten s members guardSet) := by
  unfold State.setupWritten; (repeat' (first | split | dsimp only)) <;> simp (maxDischargeDepth := 20) [h]
@[simp] theorem State.formatRegionDone_spans (s : State) (r : Region) (h : State.spansOk s) : State.spansOk (State.formatRegionDone s r) := by
  unfold State.formatRegionDone; (repeat' (first | split | dsimp only)) <;> simp (maxDischargeDepth := 20) [h]
@[simp] theorem State.formatNext_spans (s : State) (r : Region) (k : Chunk) (h : State.spansOk s) : State.spansOk (State.formatNext s r k) := by
  unfold State.formatNext; (repeat' (first | split | dsimp only)) <;> simp (maxDischargeDepth := 20) [h]
@[simp] theorem State.formatStep_spans (s : State) (r : Region) (k : Chunk) (h : State.spansOk s) : State.spansOk (State.formatStep s r k) := by
  unfold State.formatStep; (repeat' (first | split | dsimp only)) <;> simp (maxDischargeDepth := 20) [h]
theorem State.readPiece_spans (s : State) (w : ReadWork) (hw : inRegion w.pos w.left = true) (h : s.spansOk) :
    (s.readPiece w).spansOk := by
  unfold State.readPiece
  dsimp only
  split
  · simp [h]
  · refine State.work_spans _ _ ?_ (State.endOp_spans _ h)
    have : pieceLength w.pos w.left ≤ w.left := Nat.min_le_left _ _
    simp only [Work.spanOk, inRegion, decide_eq_true_eq] at *
    omega
@[simp] theorem State.queueWrite_spans (s : State) (w : WriteWork) (e : RegionEntry) (h : State.spansOk s) : State.spansOk (State.queueWrite s w e) := by
  unfold State.queueWrite; (repeat' (first | split | dsimp only)) <;> simp (maxDischargeDepth := 20) [h]
@[simp] theorem State.ownerWrote_spans (s : State) (w : WriteWork) (h : State.spansOk s) : State.spansOk (State.ownerWrote s w) := by
  unfold State.ownerWrote; (repeat' (first | split | dsimp only)) <;> simp (maxDischargeDepth := 20) [h]
@[simp] theorem State.concludeWrite_spans (s : State) (w : WriteWork) (h : State.spansOk s) : State.spansOk (State.concludeWrite s w) := by
  unfold State.concludeWrite; (repeat' (first | split | dsimp only)) <;> simp (maxDischargeDepth := 20) [h]
@[simp] theorem State.writeDone_spans (s : State) (w : WriteWork) (h : State.spansOk s) : State.spansOk (State.writeDone s w) := by
  unfold State.writeDone; (repeat' (first | split | dsimp only)) <;> simp (maxDischargeDepth := 20) [h]
@[simp] theorem State.putPull_spans (s : State) (p : PullRecord) (h : State.spansOk s) : State.spansOk (State.putPull s p) := by
  unfold State.putPull; (repeat' (first | split | dsimp only)) <;> simp (maxDischargeDepth := 20) [h]
@[simp] theorem State.completePull_spans (s : State) (p : PullRecord) (collecting : Stamp) (h : State.spansOk s) : State.spansOk (State.completePull s p collecting) := by
  unfold State.completePull; (repeat' (first | split | dsimp only)) <;> simp (maxDischargeDepth := 20) [h]
@[simp] theorem State.chunkWritten_spans (s : State) (k : Chunk) (stamp : Stamp) (pull : Nat) (h : State.spansOk s) : State.spansOk (State.chunkWritten s k stamp pull) := by
  unfold State.chunkWritten; (repeat' (first | split | dsimp only)) <;> simp (maxDischargeDepth := 20) [h]
@[simp] theorem State.chunkWrittenInReset_spans (s : State) (k : Chunk) (stamp : Stamp) (pull : Nat) (h : State.spansOk s) : State.spansOk (State.chunkWrittenInReset s k stamp pull) := by
  unfold State.chunkWrittenInReset; (repeat' (first | split | dsimp only)) <;> simp (maxDischargeDepth := 20) [h]
@[simp] theorem State.applied_spans (s : State) (b : ApplyBody) (h : State.spansOk s) : State.spansOk (State.applied s b) := by
  unfold State.applied; (repeat' (first | split | dsimp only)) <;> simp (maxDischargeDepth := 20) [h]
theorem State.applyDone_spans (s : State) (e : ApplyEntry) (rest : List ApplyEntry) (hq : s.applyQ = e :: rest)
    (h : s.spansOk) : (s.applyDone e rest).spansOk := by
  unfold State.applyDone
  have : ((s.writeArray e.region e.body.span.1 e.body.span.2).endOp.setApplyQ rest).spansOk :=
    State.setApplyQ_spans _ _ (fun x hx => by simp [hq, hx]) (State.endOp_spans _ (State.writeArray_spans _ _ _ _ h))
  exact State.setIntent_spans _ _ (State.retain_spans _ _ (State.applied_spans _ _ this))
@[simp] theorem State.chunkRead_spans (s : State) (r : Region) (k : Chunk) (stamp : Stamp) (live : Bool) (h : State.spansOk s) : State.spansOk (State.chunkRead s r k stamp live) := by
  unfold State.chunkRead; (repeat' (first | split | dsimp only)) <;> simp (maxDischargeDepth := 20) [h]
@[simp] theorem State.sendBeacon_spans (s : State) (h : State.spansOk s) : State.spansOk (State.sendBeacon s) := by
  unfold State.sendBeacon; (repeat' (first | split | dsimp only)) <;> simp (maxDischargeDepth := 20) [h]
@[simp] theorem State.unheldUnless_spans (s : State) (won : Bool) (r : Region) (h : State.spansOk s) : State.spansOk (State.unheldUnless s won r) := by
  unfold State.unheldUnless; (repeat' (first | split | dsimp only)) <;> simp (maxDischargeDepth := 20) [h]
@[simp] theorem State.claimOver_spans (s : State) (r : Region) (source : ClaimSource) (won : Bool) (h : State.spansOk s) : State.spansOk (State.claimOver s r source won) := by
  unfold State.claimOver; (repeat' (first | split | dsimp only)) <;> simp (maxDischargeDepth := 20) [h]
@[simp] theorem State.withdraw_spans (s : State) (e : OutEntry) (source : ClaimSource) (why : LostReason) (h : State.spansOk s) : State.spansOk (State.withdraw s e source why) := by
  unfold State.withdraw; (repeat' (first | split | dsimp only)) <;> simp (maxDischargeDepth := 20) [h]
@[simp] theorem State.sendEntry_spans (s : State) (e : OutEntry) (h : State.spansOk s) : State.spansOk (State.sendEntry s e) := by
  unfold State.sendEntry; (repeat' (first | split | dsimp only)) <;> simp (maxDischargeDepth := 20) [h]
@[simp] theorem State.offerFrom_spans (n : Nat) (s : State) (h : State.spansOk s) : State.spansOk (State.offerFrom n s) := by
  induction n generalizing s with
  | zero => simpa [State.offerFrom] using h
  | succ n ih => rcases h' : s.nextOffer <;> simp (maxDischargeDepth := 20) [State.offerFrom, h', ih, h]
@[simp] theorem State.offer_spans (s : State) (h : State.spansOk s) : State.spansOk (State.offer s) := by
  unfold State.offer; (repeat' (first | split | dsimp only)) <;> simp (maxDischargeDepth := 20) [h]
@[simp] theorem State.returnBeacon_spans (s : State) (b : BeaconFrame) (h : State.spansOk s) : State.spansOk (State.returnBeacon s b) := by
  unfold State.returnBeacon; (repeat' (first | split | dsimp only)) <;> simp (maxDischargeDepth := 20) [h]
@[simp] theorem State.attemptLost_spans (s : State) (t : TxSlot) (h : State.spansOk s) : State.spansOk (State.attemptLost s t) := by
  unfold State.attemptLost; (repeat' (first | split | dsimp only)) <;> simp (maxDischargeDepth := 20) [h]
@[simp] theorem State.countFault_spans (s : State) (h : State.spansOk s) : State.spansOk (State.countFault s) := by
  unfold State.countFault; (repeat' (first | split | dsimp only)) <;> simp (maxDischargeDepth := 20) [h]
@[simp] theorem State.answerAfterFault_spans (s : State) (place : FaultPlace) (f : Frame) (h : State.spansOk s) : State.spansOk (State.answerAfterFault s place f) := by
  unfold State.answerAfterFault; (repeat' (first | split | dsimp only)) <;> simp (maxDischargeDepth := 20) [h]
@[simp] theorem State.postStranger_spans (s : State) (n : Station) (h : State.spansOk s) : State.spansOk (State.postStranger s n) := by
  unfold State.postStranger; (repeat' (first | split | dsimp only)) <;> simp (maxDischargeDepth := 20) [h]
@[simp] theorem State.strangerHeard_spans (s : State) (n : Station) (h : State.spansOk s) : State.spansOk (State.strangerHeard s n) := by
  unfold State.strangerHeard; (repeat' (first | split | dsimp only)) <;> simp (maxDischargeDepth := 20) [h]
@[simp] theorem State.imageHeard_spans (s : State) (i : ImageFrame) (h : State.spansOk s) : State.spansOk (State.imageHeard s i) := by
  unfold State.imageHeard; (repeat' (first | split | dsimp only)) <;> simp (maxDischargeDepth := 20) [h]
@[simp] theorem State.compareStamp_spans (s : State) (o : Station) (e : CensusEntry) (h : State.spansOk s) : State.spansOk (State.compareStamp s o e) := by
  unfold State.compareStamp; (repeat' (first | split | dsimp only)) <;> simp (maxDischargeDepth := 20) [h]
@[simp] theorem State.compareIfOwner_spans (s : State) (o : Station) (e : CensusEntry) (h : State.spansOk s) : State.spansOk (State.compareIfOwner s o e) := by
  unfold State.compareIfOwner; (repeat' (first | split | dsimp only)) <;> simp (maxDischargeDepth := 20) [h]
@[simp] theorem State.censusCase_spans (s : State) (o : Station) (e : CensusEntry) (h : State.spansOk s) : State.spansOk (State.censusCase s o e) := by
  unfold State.censusCase; (repeat' (first | split | dsimp only)) <;> simp (maxDischargeDepth := 20) [h]
@[simp] theorem State.censusEntry_spans (o : Station) (s : State) (e : CensusEntry) (h : State.spansOk s) : State.spansOk (State.censusEntry o s e) := by
  unfold State.censusEntry; (repeat' (first | split | dsimp only)) <;> simp (maxDischargeDepth := 20) [h]
@[simp] theorem State.censusList_spans (s : State) (o : Station) (es : List CensusEntry) (h : State.spansOk s) : State.spansOk (State.censusList s o es) := by
  unfold State.censusList
  exact foldl_preserves (fun t : State => State.spansOk t) _ (fun t x ht => by simp [ht]) _ _ (by simp (maxDischargeDepth := 20) [h])
@[simp] theorem State.markIfBehind_spans (s : State) (u : UpdateFrame) (h : State.spansOk s) : State.spansOk (State.markIfBehind s u) := by
  unfold State.markIfBehind; (repeat' (first | split | dsimp only)) <;> simp (maxDischargeDepth := 20) [h]
@[simp] theorem State.listen_spans (s : State) (f : Frame) (h : State.spansOk s) : State.spansOk (State.listen s f) := by
  unfold State.listen; (repeat' (first | split | dsimp only)) <;> simp (maxDischargeDepth := 20) [h]
@[simp] theorem State.restartAnswer_spans (s : State) (f : Frame) (h : State.spansOk s) : State.spansOk (State.restartAnswer s f) := by
  unfold State.restartAnswer; (repeat' (first | split | dsimp only)) <;> simp (maxDischargeDepth := 20) [h]
@[simp] theorem State.listenIfListening_spans (s : State) (f : Frame) (h : State.spansOk s) : State.spansOk (State.listenIfListening s f) := by
  unfold State.listenIfListening; (repeat' (first | split | dsimp only)) <;> simp (maxDischargeDepth := 20) [h]
@[simp] theorem State.handOn_spans (s : State) (f : Frame) (h : State.spansOk s) : State.spansOk (State.handOn s f) := by
  unfold State.handOn; (repeat' (first | split | dsimp only)) <;> simp (maxDischargeDepth := 20) [h]
@[simp] theorem State.ownNumberHeard_spans (s : State) (f : Frame) (h : State.spansOk s) : State.spansOk (State.ownNumberHeard s f) := by
  unfold State.ownNumberHeard; (repeat' (first | split | dsimp only)) <;> simp (maxDischargeDepth := 20) [h]
@[simp] theorem State.holdFrame_spans (s : State) (f : Frame) (bit acked : Bool) (h : State.spansOk s) : State.spansOk (State.holdFrame s f bit acked) := by
  unfold State.holdFrame; (repeat' (first | split | dsimp only)) <;> simp (maxDischargeDepth := 20) [h]
@[simp] theorem State.beaconAct_spans (b : BeaconFrame) (s : State) (h : State.spansOk s) : State.spansOk (State.beaconAct b s).2 := by
  unfold State.beaconAct; (repeat' (first | split | dsimp only)) <;> simp (maxDischargeDepth := 20) [h]
@[simp] theorem State.holdVote_spans (s : State) (r : Region) (bit : Bool) (h : State.spansOk s) : State.spansOk (State.holdVote s r bit) := by
  unfold State.holdVote; (repeat' (first | split | dsimp only)) <;> simp (maxDischargeDepth := 20) [h]
@[simp] theorem State.wakeIfAsked_spans (s : State) (r : Region) (h : State.spansOk s) : State.spansOk (State.wakeIfAsked s r) := by
  unfold State.wakeIfAsked; (repeat' (first | split | dsimp only)) <;> simp (maxDischargeDepth := 20) [h]
@[simp] theorem State.claimAct_spans (c : ClaimFrame) (guardPin : Bool) (s : State) (h : State.spansOk s) : State.spansOk (State.claimAct c guardPin s).2 := by
  unfold State.claimAct; (repeat' (first | split | dsimp only)) <;> simp (maxDischargeDepth := 20) [h]
@[simp] theorem State.decidePull_spans (s : State) (p : PullFrame) (h : State.spansOk s) : State.spansOk (State.decidePull s p).2 := by
  unfold State.decidePull; (repeat' (first | split | dsimp only)) <;> simp (maxDischargeDepth := 20) [h]
@[simp] theorem State.pullAct_spans (p : PullFrame) (s : State) (h : State.spansOk s) : State.spansOk (State.pullAct p s).2 := by
  unfold State.pullAct; (repeat' (first | split | dsimp only)) <;> simp (maxDischargeDepth := 20) [h]
theorem State.takeUpdate_spans (s : State) (u : UpdateFrame) (hu : u.inRange = true) (h : s.spansOk) :
    (s.takeUpdate u).2.spansOk := by
  unfold State.takeUpdate
  split
  · simp only [State.mapEntry_spans]
    refine State.takeApply_spans _ _ _ ?_ h
    simp only [UpdateFrame.inRange, Bool.and_eq_true] at hu
    exact updateSpanOk_inRegion hu.2
  · exact h
theorem State.compareUpdate_spans (s : State) (u : UpdateFrame) (hu : u.inRange = true) (h : s.spansOk) :
    (s.compareUpdate u).2.spansOk := by
  unfold State.compareUpdate
  (repeat' split) <;> first | exact State.takeUpdate_spans s u hu h | simp [h]
theorem State.updateIfOwner_spans (s : State) (u : UpdateFrame) (hu : u.inRange = true) (h : s.spansOk) :
    (s.updateIfOwner u).2.spansOk := by
  unfold State.updateIfOwner
  split
  · exact State.compareUpdate_spans s u hu h
  · exact h
theorem State.updateAct_spans (u : UpdateFrame) (s : State) (hu : u.inRange = true) (h : s.spansOk) :
    (State.updateAct u s).2.spansOk := by
  unfold State.updateAct
  split
  · simp [h]
  · exact State.updateIfOwner_spans _ u hu (by simp [h])
theorem State.takeChunk_spans (s : State) (p : PullRecord) (i : ImageFrame) (hi : i.inRange = true) (h : s.spansOk) :
    (s.takeChunk p i).2.spansOk := by
  unfold State.takeChunk
  (repeat' split)
  · simp [h]
  · refine State.takeApply_spans _ _ _ ?_ (by simp [h])
    simp only [ImageFrame.inRange, Bool.and_eq_true, beq_iff_eq] at hi
    simp only [ApplyBody.span, hi.2]
    exact chunk_inRegion i.chunk
  · simp [h]
theorem State.collect_spans (s : State) (p : PullRecord) (i : ImageFrame) (hi : i.inRange = true) (h : s.spansOk) :
    (s.collect p i).2.spansOk := by
  unfold State.collect
  split
  · exact h
  · exact State.takeChunk_spans s _ i hi h
theorem State.collectIfAsked_spans (s : State) (i : ImageFrame) (hi : i.inRange = true) (h : s.spansOk) :
    (s.collectIfAsked i).2.spansOk := by
  unfold State.collectIfAsked
  (repeat' split) <;> first | exact State.collect_spans s _ i hi h | exact h
theorem State.imageAct_spans (i : ImageFrame) (s : State) (hi : i.inRange = true) (h : s.spansOk) :
    (State.imageAct i s).2.spansOk := by
  unfold State.imageAct
  split
  · exact h
  · exact State.collectIfAsked_spans _ i hi (by simp [h])
@[simp] theorem State.attemptDone_spans (s : State) (h : State.spansOk s) : State.spansOk (State.attemptDone s) := by
  unfold State.attemptDone; (repeat' (first | split | dsimp only)) <;> simp (maxDischargeDepth := 20) [h]
@[simp] theorem State.receptionDone_spans (s : State) (h : State.spansOk s) : State.spansOk (State.receptionDone s) := by
  unfold State.receptionDone; (repeat' (first | split | dsimp only)) <;> simp (maxDischargeDepth := 20) [h]
@[simp] theorem State.beaconSent_spans (s : State) (b : BeaconFrame) (walkLast : Option Region) (ack : StationMap) (h : State.spansOk s) : State.spansOk (State.beaconSent s b walkLast ack) := by
  unfold State.beaconSent; (repeat' (first | split | dsimp only)) <;> simp (maxDischargeDepth := 20) [h]
@[simp] theorem State.ownBeaconEnd_spans (s : State) (b : BeaconFrame) (walkLast : Option Region) (ack : StationMap) (h : State.spansOk s) : State.spansOk (State.ownBeaconEnd s b walkLast ack) := by
  unfold State.ownBeaconEnd; (repeat' (first | split | dsimp only)) <;> simp (maxDischargeDepth := 20) [h]
@[simp] theorem State.beaconHeard_spans (s : State) (b : BeaconFrame) (h : State.spansOk s) : State.spansOk (State.beaconHeard s b) := by
  unfold State.beaconHeard; (repeat' (first | split | dsimp only)) <;> simp (maxDischargeDepth := 20) [h]
@[simp] theorem State.claimDecided_spans (s : State) (c : ClaimFrame) (source : ClaimSource) (ack : StationMap) (h : State.spansOk s) : State.spansOk (State.claimDecided s c source ack) := by
  unfold State.claimDecided; (repeat' (first | split | dsimp only)) <;> simp (maxDischargeDepth := 20) [h]
@[simp] theorem State.ownClaimEnd_spans (s : State) (c : ClaimFrame) (ack : StationMap) (h : State.spansOk s) : State.spansOk (State.ownClaimEnd s c ack) := by
  unfold State.ownClaimEnd; (repeat' (first | split | dsimp only)) <;> simp (maxDischargeDepth := 20) [h]
@[simp] theorem State.decideClaim_spans (s : State) (c : ClaimFrame) (m : StationMap) (h : State.spansOk s) : State.spansOk (State.decideClaim s c m) := by
  unfold State.decideClaim; (repeat' (first | split | dsimp only)) <;> simp (maxDischargeDepth := 20) [h]
@[simp] theorem State.claimHeard_spans (s : State) (acked : Bool) (c : ClaimFrame) (ack : StationMap) (h : State.spansOk s) : State.spansOk (State.claimHeard s acked c ack) := by
  unfold State.claimHeard; (repeat' (first | split | dsimp only)) <;> simp (maxDischargeDepth := 20) [h]
@[simp] theorem State.pullAnswered_spans (s : State) (p : PullRecord) (ack : StationMap) (h : State.spansOk s) : State.spansOk (State.pullAnswered s p ack) := by
  unfold State.pullAnswered; (repeat' (first | split | dsimp only)) <;> simp (maxDischargeDepth := 20) [h]
@[simp] theorem State.ownPullEnd_spans (s : State) (ack : StationMap) (h : State.spansOk s) : State.spansOk (State.ownPullEnd s ack) := by
  unfold State.ownPullEnd; (repeat' (first | split | dsimp only)) <;> simp (maxDischargeDepth := 20) [h]
@[simp] theorem State.settledShort_spans (s : State) (r : Region) (u : UpdateEntry) (missing : StationMap) (h : State.spansOk s) : State.spansOk (State.settledShort s r u missing) := by
  unfold State.settledShort; (repeat' (first | split | dsimp only)) <;> simp (maxDischargeDepth := 20) [h]
@[simp] theorem State.retryUpdate_spans (s : State) (h : State.spansOk s) : State.spansOk (State.retryUpdate s) := by
  unfold State.retryUpdate; (repeat' (first | split | dsimp only)) <;> simp (maxDischargeDepth := 20) [h]
@[simp] theorem State.settleUpdate_spans (s : State) (r : Region) (u : UpdateEntry) (doom : Doom) (missing : StationMap) (h : State.spansOk s) : State.spansOk (State.settleUpdate s r u doom missing) := by
  unfold State.settleUpdate; (repeat' (first | split | dsimp only)) <;> simp (maxDischargeDepth := 20) [h]
@[simp] theorem State.ownUpdateEnd_spans (s : State) (ack : StationMap) (h : State.spansOk s) : State.spansOk (State.ownUpdateEnd s ack) := by
  unfold State.ownUpdateEnd; (repeat' (first | split | dsimp only)) <;> simp (maxDischargeDepth := 20) [h]
@[simp] theorem State.imageAcked_spans (s : State) (v : ServingRecord) (i : ImageEntry) (ack : StationMap) (h : State.spansOk s) : State.spansOk (State.imageAcked s v i ack) := by
  unfold State.imageAcked; (repeat' (first | split | dsimp only)) <;> simp (maxDischargeDepth := 20) [h]
@[simp] theorem State.ownImageEnd_spans (s : State) (ack : StationMap) (h : State.spansOk s) : State.spansOk (State.ownImageEnd s ack) := by
  unfold State.ownImageEnd; (repeat' (first | split | dsimp only)) <;> simp (maxDischargeDepth := 20) [h]
@[simp] theorem State.silence_spans (s : State) (n : Station) (h : State.spansOk s) : State.spansOk (State.silence s n) := by
  unfold State.silence; (repeat' (first | split | dsimp only)) <;> simp (maxDischargeDepth := 20) [h]
@[simp] theorem State.fallSilent_spans (s : State) (n : Station) (h : State.spansOk s) : State.spansOk (State.fallSilent s n) := by
  unfold State.fallSilent; (repeat' (first | split | dsimp only)) <;> simp (maxDischargeDepth := 20) [h]
@[simp] theorem State.fallAbsent_spans (s : State) (n : Station) (h : State.spansOk s) : State.spansOk (State.fallAbsent s n) := by
  unfold State.fallAbsent; (repeat' (first | split | dsimp only)) <;> simp (maxDischargeDepth := 20) [h]
@[simp] theorem State.joinComplete_spans (s : State) (h : State.spansOk s) : State.spansOk (State.joinComplete s) := by
  unfold State.joinComplete; (repeat' (first | split | dsimp only)) <;> simp (maxDischargeDepth := 20) [h]
@[simp] theorem State.cut_spans (s : State) (h : State.spansOk s) : State.spansOk (State.cut s) := by
  unfold State.cut; (repeat' (first | split | dsimp only)) <;> simp (maxDischargeDepth := 20) [h]
@[simp] theorem State.answerExpired_spans (s : State) (p : PullRecord) (h : State.spansOk s) : State.spansOk (State.answerExpired s p) := by
  unfold State.answerExpired; (repeat' (first | split | dsimp only)) <;> simp (maxDischargeDepth := 20) [h]
@[simp] theorem State.advanceTimers_spans (s : State) (h : s.spansOk) : s.advanceTimers.spansOk := h
@[simp] theorem State.tick_spans (s : State) (h : State.spansOk s) : State.spansOk (State.tick s) := by
  unfold State.tick State.whenOn; (repeat' (first | split | dsimp only)) <;> simp (maxDischargeDepth := 20) [h]
@[simp] theorem State.cutWrite_spans (s : State) (h : State.spansOk s) : State.spansOk (State.cutWrite s) := by
  unfold State.cutWrite; (repeat' (first | split | dsimp only)) <;> simp (maxDischargeDepth := 20) [h]
@[simp] theorem State.cutSetup_spans (s : State) (h : State.spansOk s) : State.spansOk (State.cutSetup s) := by
  unfold State.cutSetup; (repeat' (first | split | dsimp only)) <;> simp (maxDischargeDepth := 20) [h]
@[simp] theorem State.losePower_spans (s : State) (h : State.spansOk s) : State.spansOk (State.losePower s) := by
  unfold State.losePower; (repeat' (first | split | dsimp only)) <;> simp (maxDischargeDepth := 20) [h]
@[simp] theorem State.assertReset_spans (s : State) (h : s.spansOk) : s.assertReset.spansOk := by
  unfold State.assertReset
  split
  · split
    · exact (State.setPower_spans _ _).2 (State.mapPort_spans _ _ (Or.inl rfl) ((State.mapLine_spans _ _).2 h))
    · simp
  all_goals simp [h]
@[simp] theorem State.releaseReset_spans (s : State) (straps : Straps) (h : State.spansOk s) : State.spansOk (State.releaseReset s straps) := by
  unfold State.releaseReset; (repeat' (first | split | dsimp only)) <;> simp (maxDischargeDepth := 20) [h]

end Sys2Proof.Machine
end

