-- ==== Sys2Proof/Laws/Fetching.lean ====
section
/-! SUPPORT. A copy is FETCHING exactly while a pull record is open for its region (R7), through every operation. -/

namespace Sys2Proof.Machine

@[simp] theorem State.setPower_fetching (s : State) (x) : (s.setPower x).fetchingOk ↔ s.fetchingOk := Iff.rfl
@[simp] theorem State.setUnsaved_fetching (s : State) (x) : (s.setUnsaved x).fetchingOk ↔ s.fetchingOk := Iff.rfl
@[simp] theorem State.setNv_fetching (s : State) (x) : (s.setNv x).fetchingOk ↔ s.fetchingOk := Iff.rfl
@[simp] theorem State.mapNv_fetching (s : State) (f) : (s.mapNv f).fetchingOk ↔ s.fetchingOk := Iff.rfl
@[simp] theorem State.setPort_fetching (s : State) (x) : (s.setPort x).fetchingOk ↔ s.fetchingOk := Iff.rfl
@[simp] theorem State.mapPort_fetching (s : State) (f) : (s.mapPort f).fetchingOk ↔ s.fetchingOk := Iff.rfl
@[simp] theorem State.setEvents_fetching (s : State) (x) : (s.setEvents x).fetchingOk ↔ s.fetchingOk := Iff.rfl
@[simp] theorem State.setCtl_fetching (s : State) (x) : (s.setCtl x).fetchingOk ↔ s.fetchingOk := Iff.rfl
@[simp] theorem State.mapCtl_fetching (s : State) (f) : (s.mapCtl f).fetchingOk ↔ s.fetchingOk := Iff.rfl
@[simp] theorem State.setLine_fetching (s : State) (x) : (s.setLine x).fetchingOk ↔ s.fetchingOk := Iff.rfl
@[simp] theorem State.mapLine_fetching (s : State) (f) : (s.mapLine f).fetchingOk ↔ s.fetchingOk := Iff.rfl
@[simp] theorem State.setRoster_fetching (s : State) (x) : (s.setRoster x).fetchingOk ↔ s.fetchingOk := Iff.rfl
@[simp] theorem State.mapRoster_fetching (s : State) (f) : (s.mapRoster f).fetchingOk ↔ s.fetchingOk := Iff.rfl
@[simp] theorem State.setOut_fetching (s : State) (x) : (s.setOut x).fetchingOk ↔ s.fetchingOk := Iff.rfl
@[simp] theorem State.mapOut_fetching (s : State) (f) : (s.mapOut f).fetchingOk ↔ s.fetchingOk := Iff.rfl
@[simp] theorem State.setApplyQ_fetching (s : State) (x) : (s.setApplyQ x).fetchingOk ↔ s.fetchingOk := Iff.rfl
@[simp] theorem State.setServing_fetching (s : State) (x) : (s.setServing x).fetchingOk ↔ s.fetchingOk := Iff.rfl
@[simp] theorem State.setArb_fetching (s : State) (x) : (s.setArb x).fetchingOk ↔ s.fetchingOk := Iff.rfl
@[simp] theorem State.setSerial_fetching (s : State) (x) : (s.setSerial x).fetchingOk ↔ s.fetchingOk := Iff.rfl
@[simp] theorem State.setFree_fetching (s : State) (x) : (s.setFree x).fetchingOk ↔ s.fetchingOk := Iff.rfl
@[simp] theorem State.setPending_fetching (s : State) (x) : (s.setPending x).fetchingOk ↔ s.fetchingOk := Iff.rfl

/-- A change of the Catch-up Unit that keeps which regions have an open pull. -/
@[simp] theorem State.mapCatchup_fetching (s : State) (f : Catchup → Catchup)
    (hf : ∀ r : Region, (f s.catchup).pulls.any (fun p => p.region == r) = s.catchup.pulls.any (fun p => p.region == r))
    (h : s.fetchingOk) : (s.mapCatchup f).fetchingOk := fun r => by
  show s.table[r].copy.isFetching = (f s.catchup).pulls.any (fun p => p.region == r)
  rw [hf]; exact h r

/-- A region entry changed without a change between FETCHING and another state. -/
@[simp] theorem State.mapEntry_fetching (s : State) (r : Region) (f : RegionEntry → RegionEntry)
    (hf : ∀ e, (f e).copy.isFetching = e.copy.isFetching) (h : s.fetchingOk) : (s.mapEntry r f).fetchingOk := by
  intro q
  simp only [State.mapEntry, State.setEntry, Fin.getElem_fin, Vector.getElem_set]
  split
  · next e => have : r = q := Fin.ext e
              subst this; rw [hf]; exact h r
  · exact h q

@[simp] theorem RegionEntry.clearFlags_copy (e : RegionEntry) : e.clearFlags.copy = e.copy := rfl
@[simp] theorem State.clearFlags_fetching (s : State) (r : Region) (h : s.fetchingOk) :
    (s.mapEntry r RegionEntry.clearFlags).fetchingOk := State.mapEntry_fetching s r _ (fun _ => rfl) h

/-- A record dropped. -/
theorem any_filter_region (l : List PullRecord) (r q : Region) :
    (l.filter (fun p => p.region != r)).any (fun p => p.region == q) = (l.any (fun p => p.region == q) && r != q) := by
  rw [Bool.eq_iff_iff]
  simp only [List.any_eq_true, List.mem_filter, Bool.and_eq_true, bne_iff_ne, beq_iff_eq, ne_eq]
  constructor
  · rintro ⟨p, ⟨hp, hr⟩, rfl⟩
    exact ⟨⟨p, hp, rfl⟩, fun e => hr e.symm⟩
  · rintro ⟨⟨p, hp, rfl⟩, hr⟩
    exact ⟨p, ⟨hp, fun e => hr e.symm⟩, rfl⟩

/-- A region whose record goes and whose copy ceases to be FETCHING, in either order. -/
theorem State.close_fetching (s t : State) (r : Region) (h : s.fetchingOk)
    (ht : ∀ q : Region, q ≠ r → t.table[q].copy = s.table[q].copy) (hr : t.table[r].copy.isFetching = false)
    (hp : t.catchup.pulls = s.catchup.pulls.filter (fun p => p.region != r)) : t.fetchingOk := by
  intro q
  rw [hp, any_filter_region]
  by_cases hq : q = r
  · subst hq; simpa using hr
  · rw [ht q hq, h q]; simp [Ne.symm hq]

/-- A region entry read after one was changed. -/
theorem State.mapEntry_read (s : State) (r q : Region) (f : RegionEntry → RegionEntry) :
    (s.mapEntry r f).table[q] = if q = r then f s.table[r] else s.table[q] := by
  simp only [State.mapEntry, State.setEntry, Fin.getElem_fin, Vector.getElem_set]
  by_cases h : q = r
  · subst h; simp
  · rw [if_neg (fun e => h (Fin.ext e.symm)), if_neg h]

@[simp] theorem closedCopy_isFetching (t : Bool) (c : CopyState) : (closedCopy t c).isFetching = false := by
  cases c <;> rfl

@[simp] theorem markedCopy_isFetching (c : CopyState) (x : Cause) : (markedCopy c x).isFetching = c.isFetching := by
  rcases c with _ | c | c <;> cases x <;> (try cases c) <;> rfl

/-- Records changed in place keep their regions. -/
theorem any_map_region (l : List PullRecord) (f : PullRecord → PullRecord) (hf : ∀ p, (f p).region = p.region) (r : Region) :
    (l.map f).any (fun p => p.region == r) = l.any (fun p => p.region == r) := by
  rw [List.any_map]; congr 1; funext p; simp [hf]

@[simp] theorem State.forgetOwners_fetching (s : State) (h : s.fetchingOk) : s.forgetOwners.fetchingOk := by
  intro r
  have := h r
  simpa [State.forgetOwners] using this


@[simp] theorem State.post_fetching (s : State) (e : Event) (h : State.fetchingOk s) : State.fetchingOk (State.post s e) := by
  unfold State.post; (repeat' (first | split | dsimp only)) <;> simp (maxDischargeDepth := 20) [h]
@[simp] theorem State.retain_fetching (s : State) (r : Region) (h : State.fetchingOk s) : State.fetchingOk (State.retain s r) := by
  unfold State.retain; (repeat' (first | split | dsimp only)) <;> simp (maxDischargeDepth := 20) [h]
@[simp] theorem State.countSerial_fetching (s : State) (h : State.fetchingOk s) : State.fetchingOk (State.countSerial s) := by
  unfold State.countSerial; (repeat' (first | split | dsimp only)) <;> simp (maxDischargeDepth := 20) [h]
@[simp] theorem State.appendApply_fetching (s : State) (r : Region) (b : ApplyBody) (h : State.fetchingOk s) : State.fetchingOk (State.appendApply s r b) := by
  unfold State.appendApply; (repeat' (first | split | dsimp only)) <;> simp (maxDischargeDepth := 20) [h]
@[simp] theorem State.takeApply_fetching (s : State) (r : Region) (b : ApplyBody) (h : State.fetchingOk s) : State.fetchingOk (State.takeApply s r b) := by
  unfold State.takeApply; (repeat' (first | split | dsimp only)) <;> simp (maxDischargeDepth := 20) [h]
@[simp] theorem State.answer_fetching (s : State) (code : Byte) (result : ResultCode) (data : List Byte) (h : State.fetchingOk s) : State.fetchingOk (State.answer s code result data) := by
  unfold State.answer; (repeat' (first | split | dsimp only)) <;> simp (maxDischargeDepth := 20) [h]
@[simp] theorem State.work_fetching (s : State) (w : Work) (h : State.fetchingOk s) : State.fetchingOk (State.work s w) := by
  unfold State.work; (repeat' (first | split | dsimp only)) <;> simp (maxDischargeDepth := 20) [h]
@[simp] theorem State.setEntries_fetching (s : State) (es : List OutEntry) (h : State.fetchingOk s) : State.fetchingOk (State.setEntries s es) := by
  unfold State.setEntries; (repeat' (first | split | dsimp only)) <;> simp (maxDischargeDepth := 20) [h]
@[simp] theorem State.checkFence_fetching (s : State) (h : State.fetchingOk s) : State.fetchingOk (State.checkFence s) := by
  unfold State.checkFence; (repeat' (first | split | dsimp only)) <;> simp (maxDischargeDepth := 20) [h]
@[simp] theorem State.departed_fetching (s : State) (cut : Bool) (e : OutEntry) (h : State.fetchingOk s) : State.fetchingOk (State.departed s cut e) := by
  unfold State.departed; (repeat' (first | split | dsimp only)) <;> simp (maxDischargeDepth := 20) [h]
@[simp] theorem State.departAll_fetching (s : State) (cut : Bool) (gone : List OutEntry) (h : State.fetchingOk s) : State.fetchingOk (State.departAll s cut gone) := by
  unfold State.departAll
  exact foldl_preserves (fun t : State => State.fetchingOk t) _ (fun t x ht => by simp [ht]) _ _ (by simp (maxDischargeDepth := 20) [h])
@[simp] theorem State.discardEntries_fetching (s : State) (p : OutEntry → Bool) (cut : Bool) (h : State.fetchingOk s) : State.fetchingOk (State.discardEntries s p cut) := by
  unfold State.discardEntries; (repeat' (first | split | dsimp only)) <;> simp (maxDischargeDepth := 20) [h]
@[simp] theorem State.removeSending_fetching (s : State) (h : State.fetchingOk s) : State.fetchingOk (State.removeSending s) := by
  unfold State.removeSending; (repeat' (first | split | dsimp only)) <;> simp (maxDischargeDepth := 20) [h]
@[simp] theorem State.returnSending_fetching (s : State) (h : State.fetchingOk s) : State.fetchingOk (State.returnSending s) := by
  unfold State.returnSending; (repeat' (first | split | dsimp only)) <;> simp (maxDischargeDepth := 20) [h]
@[simp] theorem State.releaseHold_fetching (s : State) (h : State.fetchingOk s) : State.fetchingOk (State.releaseHold s) := by
  unfold State.releaseHold; (repeat' (first | split | dsimp only)) <;> simp (maxDischargeDepth := 20) [h]
@[simp] theorem State.putServing_fetching (s : State) (v : ServingRecord) (h : State.fetchingOk s) : State.fetchingOk (State.putServing s v) := by
  unfold State.putServing; (repeat' (first | split | dsimp only)) <;> simp (maxDischargeDepth := 20) [h]
@[simp] theorem State.dropRead_fetching (s : State) (r : Region) (h : State.fetchingOk s) : State.fetchingOk (State.dropRead s r) := by
  unfold State.dropRead; (repeat' (first | split | dsimp only)) <;> simp (maxDischargeDepth := 20) [h]
@[simp] theorem State.dropServing_fetching (s : State) (r : Region) (h : State.fetchingOk s) : State.fetchingOk (State.dropServing s r) := by
  unfold State.dropServing; (repeat' (first | split | dsimp only)) <;> simp (maxDischargeDepth := 20) [h]
@[simp] theorem State.endServing_fetching (s : State) (r : Region) (h : State.fetchingOk s) : State.fetchingOk (State.endServing s r) := by
  unfold State.endServing; (repeat' (first | split | dsimp only)) <;> simp (maxDischargeDepth := 20) [h]
@[simp] theorem State.putTargets_fetching (s : State) (v : ServingRecord) (ts : List Target) (h : State.fetchingOk s) : State.fetchingOk (State.putTargets s v ts) := by
  unfold State.putTargets; (repeat' (first | split | dsimp only)) <;> simp (maxDischargeDepth := 20) [h]
@[simp] theorem State.dropTarget_fetching (s : State) (r : Region) (n : Station) (h : State.fetchingOk s) : State.fetchingOk (State.dropTarget s r n) := by
  unfold State.dropTarget; (repeat' (first | split | dsimp only)) <;> simp (maxDischargeDepth := 20) [h]
@[simp] theorem State.dropTargets_fetching (s : State) (n : Station) (h : State.fetchingOk s) : State.fetchingOk (State.dropTargets s n) := by
  unfold State.dropTargets
  exact foldl_preserves (fun t : State => State.fetchingOk t) _ (fun t x ht => by simp [ht]) _ _ (by simp (maxDischargeDepth := 20) [h])
@[simp] theorem State.endAllServing_fetching (s : State) (h : State.fetchingOk s) : State.fetchingOk (State.endAllServing s) := by
  unfold State.endAllServing
  exact foldl_preserves (fun t : State => State.fetchingOk t) _ (fun t x ht => by simp [ht]) _ _ (by simp (maxDischargeDepth := 20) [h])
@[simp] theorem State.requestRead_fetching (s : State) (r : Region) (h : State.fetchingOk s) : State.fetchingOk (State.requestRead s r) := by
  unfold State.requestRead; (repeat' (first | split | dsimp only)) <;> simp (maxDischargeDepth := 20) [h]
@[simp] theorem State.requestReads_fetching (s : State) (h : State.fetchingOk s) : State.fetchingOk (State.requestReads s) := by
  unfold State.requestReads
  exact foldl_preserves (fun t : State => State.fetchingOk t) _ (fun t x ht => by simp [ht]) _ _ (by simp (maxDischargeDepth := 20) [h])
@[simp] theorem State.serve_fetching (s : State) (r : Region) (q : Station) (h : State.fetchingOk s) : State.fetchingOk (State.serve s r q) := by
  unfold State.serve; (repeat' (first | split | dsimp only)) <;> simp (maxDischargeDepth := 20) [h]
@[simp] theorem State.restartServing_fetching (s : State) (r : Region) (h : State.fetchingOk s) : State.fetchingOk (State.restartServing s r) := by
  unfold State.restartServing; (repeat' (first | split | dsimp only)) <;> simp (maxDischargeDepth := 20) [h]
@[simp] theorem State.abandonWrite_fetching (s : State) (r : Region) (h : State.fetchingOk s) : State.fetchingOk (State.abandonWrite s r) := by
  unfold State.abandonWrite; (repeat' (first | split | dsimp only)) <;> simp (maxDischargeDepth := 20) [h]
@[simp] theorem State.setSweep_fetching (s : State) (w : Sweep) (h : State.fetchingOk s) : State.fetchingOk (State.setSweep s w) := by
  unfold State.setSweep; (repeat' (first | split | dsimp only)) <;> simp (maxDischargeDepth := 20) [h]
@[simp] theorem State.dropHeld_fetching (s : State) (r : Region) (h : State.fetchingOk s) : State.fetchingOk (State.dropHeld s r) := by
  unfold State.dropHeld; (repeat' (first | split | dsimp only)) <;> simp (maxDischargeDepth := 20) [h]
@[simp] theorem State.appendEntry_fetching (s : State) (r : Region) (b : EntryBody) (h : State.fetchingOk s) : State.fetchingOk (State.appendEntry s r b) := by
  unfold State.appendEntry; (repeat' (first | split | dsimp only)) <;> simp (maxDischargeDepth := 20) [h]
@[simp] theorem State.sweepAct_fetching (s : State) (h : State.fetchingOk s) : State.fetchingOk (State.sweepAct s).1 := by
  unfold State.sweepAct; (repeat' (first | split | dsimp only)) <;> simp (maxDischargeDepth := 20) [h]
@[simp] theorem State.sweepFrom_fetching (n : Nat) (s : State) (h : State.fetchingOk s) : State.fetchingOk (State.sweepFrom n s) := by
  induction n generalizing s with
  | zero => simpa [State.sweepFrom] using h
  | succ n ih => unfold State.sweepFrom; (repeat' split) <;> simp (maxDischargeDepth := 20) [ih, h]
@[simp] theorem State.sweepWalk_fetching (s : State) (h : State.fetchingOk s) : State.fetchingOk (State.sweepWalk s) := by
  unfold State.sweepWalk; (repeat' (first | split | dsimp only)) <;> simp (maxDischargeDepth := 20) [h]
@[simp] theorem State.listRegion_fetching (s : State) (r : Region) (h : State.fetchingOk s) : State.fetchingOk (State.listRegion s r) := by
  unfold State.listRegion; (repeat' (first | split | dsimp only)) <;> simp (maxDischargeDepth := 20) [h]
@[simp] theorem State.postStale_fetching (s : State) (r : Region) (h : State.fetchingOk s) : State.fetchingOk (State.postStale s r) := by
  unfold State.postStale; (repeat' (first | split | dsimp only)) <;> simp (maxDischargeDepth := 20) [h]
@[simp] theorem State.parkRegion_fetching (s : State) (r : Region) (h : State.fetchingOk s) : State.fetchingOk (State.parkRegion s r) := by
  unfold State.parkRegion; (repeat' (first | split | dsimp only)) <;> simp (maxDischargeDepth := 20) [h]
@[simp] theorem State.afterClosure_fetching (s : State) (r : Region) (park : Bool) (h : State.fetchingOk s) : State.fetchingOk (State.afterClosure s r park) := by
  unfold State.afterClosure; (repeat' (first | split | dsimp only)) <;> simp (maxDischargeDepth := 20) [h]
@[simp] theorem State.closePull_fetching (s : State) (r : Region) (park : Bool) (h : s.fetchingOk) :
    (s.closePull r park).fetchingOk := by
  unfold State.closePull
  split
  · exact h
  · rename_i p _
    refine State.afterClosure_fetching _ _ _ (State.close_fetching s _ r h (fun q hq => ?_) ?_ ?_)
    · rw [State.mapEntry_read, if_neg hq]; simp
    · rw [State.mapEntry_read, if_pos rfl]; simp
    · simp [State.dropPull]

/-- A closed pull's record is gone and every other record stays. -/
theorem State.closePull_pulls (s : State) (r : Region) (park : Bool) :
    (s.closePull r park).catchup.pulls = s.catchup.pulls.filter (fun p => p.region != r) := by
  unfold State.closePull
  split
  · rename_i hn
    rw [State.pullOf, List.find?_eq_none] at hn
    exact (List.filter_eq_self.2 fun p hp => by simpa using hn p hp).symm
  · unfold State.afterClosure
    (repeat' split) <;> simp [State.dropPull, State.parkRegion, State.listRegion]

/-- Closing every pull leaves no record. -/
theorem State.closeAllPulls_pulls (s : State) : s.closeAllPulls.catchup.pulls = [] := by
  have key : ∀ (l : List Region) (t : State), (∀ p ∈ t.catchup.pulls, p.region ∈ l) →
      (l.foldl (fun t r => t.closePull r false) t).catchup.pulls = [] := by
    intro l
    induction l with
    | nil =>
      intro t ht
      exact List.eq_nil_iff_forall_not_mem.2 fun p hp => by simpa using ht p hp
    | cons r l ih =>
      intro t ht
      refine ih _ fun p hp => ?_
      rw [State.closePull_pulls, List.mem_filter] at hp
      rcases List.mem_cons.1 (ht p hp.1) with e | e
      · simp [e] at hp
      · exact e
  exact key _ s fun p hp => List.mem_map.2 ⟨p, hp, rfl⟩
@[simp] theorem State.closeAllPulls_fetching (s : State) (h : State.fetchingOk s) : State.fetchingOk (State.closeAllPulls s) := by
  unfold State.closeAllPulls
  exact foldl_preserves (fun t : State => State.fetchingOk t) _ (fun t x ht => by simp [ht]) _ _ (by simp (maxDischargeDepth := 20) [h])
@[simp] theorem State.queuePull_fetching (s : State) (p : PullRecord) (h : s.fetchingOk) : (s.queuePull p).fetchingOk := by
  unfold State.queuePull
  split
  · exact State.mapCatchup_fetching _ _ (fun r => any_map_region _ _ (fun q => by split <;> rfl) r)
      (State.appendEntry_fetching _ _ _ h)
  · exact h
@[simp] theorem State.queuePulls_fetching (s : State) (h : State.fetchingOk s) : State.fetchingOk (State.queuePulls s) := by
  unfold State.queuePulls
  exact foldl_preserves (fun t : State => State.fetchingOk t) _ (fun t x ht => by simp [ht]) _ _ (by simp (maxDischargeDepth := 20) [h])
@[simp] theorem State.openPull_fetching (s : State) (r : Region) (n : Station) (k : Cause) (h : s.fetchingOk) :
    (s.openPull r n k).fetchingOk := by
  unfold State.openPull
  refine State.queuePulls_fetching _ fun q => ?_
  rw [State.mapEntry_read]
  by_cases hq : q = r
  · subst hq; simp [State.addPull, CopyState.isFetching]
  · rw [if_neg hq]
    have := h q
    simpa [State.addPull, beq_eq_false_iff_ne.2 (Ne.symm hq)] using this
@[simp] theorem State.openPullsFrom_fetching (n : Nat) (s : State) (h : State.fetchingOk s) : State.fetchingOk (State.openPullsFrom n s) := by
  induction n generalizing s with
  | zero => simpa [State.openPullsFrom] using h
  | succ n ih =>
    rcases h' : s.nextPull with _ | p
    · simpa [State.openPullsFrom_none n s h'] using h
    · rw [State.openPullsFrom_some n s p h']; exact ih _ (by simp [h])
@[simp] theorem State.openPulls_fetching (s : State) (h : State.fetchingOk s) : State.fetchingOk (State.openPulls s) := by
  unfold State.openPulls; (repeat' (first | split | dsimp only)) <;> simp (maxDischargeDepth := 20) [h]
@[simp] theorem State.reportMark_fetching (s : State) (r : Region) (c : Cause) (h : State.fetchingOk s) : State.fetchingOk (State.reportMark s r c) := by
  unfold State.reportMark; (repeat' (first | split | dsimp only)) <;> simp (maxDischargeDepth := 20) [h]
@[simp] theorem State.unpark_fetching (s : State) (r : Region) (h : State.fetchingOk s) : State.fetchingOk (State.unpark s r) := by
  unfold State.unpark; (repeat' (first | split | dsimp only)) <;> simp (maxDischargeDepth := 20) [h]
@[simp] theorem State.markStale_fetching (s : State) (r : Region) (c : Cause) (h : State.fetchingOk s) : State.fetchingOk (State.markStale s r c) := by
  unfold State.markStale; (repeat' (first | split | dsimp only)) <;> simp (maxDischargeDepth := 20) [h]
@[simp] theorem State.dropFront_fetching (s : State) (r : Region) (h : State.fetchingOk s) : State.fetchingOk (State.dropFront s r) := by
  unfold State.dropFront; (repeat' (first | split | dsimp only)) <;> simp (maxDischargeDepth := 20) [h]
@[simp] theorem State.surrender_fetching (s : State) (r : Region) (h : State.fetchingOk s) : State.fetchingOk (State.surrender s r) := by
  unfold State.surrender; (repeat' (first | split | dsimp only)) <;> simp (maxDischargeDepth := 20) [h]
@[simp] theorem State.assume_fetching (s : State) (r : Region) (h : State.fetchingOk s) : State.fetchingOk (State.assume s r) := by
  unfold State.assume; (repeat' (first | split | dsimp only)) <;> simp (maxDischargeDepth := 20) [h]
@[simp] theorem State.partOld_fetching (s : State) (r : Region) (self : Bool) (h : State.fetchingOk s) : State.fetchingOk (State.partOld s r self) := by
  unfold State.partOld; (repeat' (first | split | dsimp only)) <;> simp (maxDischargeDepth := 20) [h]
@[simp] theorem State.partNew_fetching (s : State) (r : Region) (self : Bool) (h : State.fetchingOk s) : State.fetchingOk (State.partNew s r self) := by
  unfold State.partNew; (repeat' (first | split | dsimp only)) <;> simp (maxDischargeDepth := 20) [h]
@[simp] theorem State.changeOwner_fetching (s : State) (r : Region) (o : Option Owner) (h : State.fetchingOk s) : State.fetchingOk (State.changeOwner s r o) := by
  unfold State.changeOwner; (repeat' (first | split | dsimp only)) <;> simp (maxDischargeDepth := 20) [h]
@[simp] theorem State.setState_fetching (s : State) (st : StationState) (h : State.fetchingOk s) : State.fetchingOk (State.setState s st) := by
  unfold State.setState; (repeat' (first | split | dsimp only)) <;> simp (maxDischargeDepth := 20) [h]
@[simp] theorem State.quorumCheck_fetching (s : State) (h : State.fetchingOk s) : State.fetchingOk (State.quorumCheck s) := by
  unfold State.quorumCheck; (repeat' (first | split | dsimp only)) <;> simp (maxDischargeDepth := 20) [h]
@[simp] theorem State.mapRosterEntry_fetching (s : State) (n : Station) (f : RosterEntry → RosterEntry) (h : State.fetchingOk s) : State.fetchingOk (State.mapRosterEntry s n f) := by
  unfold State.mapRosterEntry; (repeat' (first | split | dsimp only)) <;> simp (maxDischargeDepth := 20) [h]
@[simp] theorem State.targetsFollow_fetching (s : State) (n : Station) (st : Presence) (h : State.fetchingOk s) : State.fetchingOk (State.targetsFollow s n st) := by
  unfold State.targetsFollow; (repeat' (first | split | dsimp only)) <;> simp (maxDischargeDepth := 20) [h]
@[simp] theorem State.differsFollows_fetching (s : State) (n : Station) (st : Presence) (h : State.fetchingOk s) : State.fetchingOk (State.differsFollows s n st) := by
  unfold State.differsFollows; (repeat' (first | split | dsimp only)) <;> simp (maxDischargeDepth := 20) [h]
@[simp] theorem State.statusChange_fetching (s : State) (n : Station) (st : Presence) (h : State.fetchingOk s) : State.fetchingOk (State.statusChange s n st) := by
  unfold State.statusChange; (repeat' (first | split | dsimp only)) <;> simp (maxDischargeDepth := 20) [h]
@[simp] theorem State.clearRoster_fetching (s : State) (h : State.fetchingOk s) : State.fetchingOk (State.clearRoster s) := by
  unfold State.clearRoster; (repeat' (first | split | dsimp only)) <;> simp (maxDischargeDepth := 20) [h]
@[simp] theorem State.followFrame_fetching (s : State) (f : Frame) (h : State.fetchingOk s) : State.fetchingOk (State.followFrame s f) := by
  unfold State.followFrame; (repeat' (first | split | dsimp only)) <;> simp (maxDischargeDepth := 20) [h]
@[simp] theorem State.checkMembers_fetching (s : State) (f : Frame) (h : State.fetchingOk s) : State.fetchingOk (State.checkMembers s f) := by
  unfold State.checkMembers; (repeat' (first | split | dsimp only)) <;> simp (maxDischargeDepth := 20) [h]
@[simp] theorem State.rosterHandoff_fetching (s : State) (f : Frame) (h : State.fetchingOk s) : State.fetchingOk (State.rosterHandoff s f) := by
  unfold State.rosterHandoff; (repeat' (first | split | dsimp only)) <;> simp (maxDischargeDepth := 20) [h]
@[simp] theorem State.learnOwner_fetching (s : State) (r : Region) (o : Station) (e : Epoch) (h : State.fetchingOk s) : State.fetchingOk (State.learnOwner s r o e) := by
  unfold State.learnOwner; (repeat' (first | split | dsimp only)) <;> simp (maxDischargeDepth := 20) [h]
@[simp] theorem State.addFront_fetching (s : State) (r : Region) (h : State.fetchingOk s) : State.fetchingOk (State.addFront s r) := by
  unfold State.addFront; (repeat' (first | split | dsimp only)) <;> simp (maxDischargeDepth := 20) [h]
@[simp] theorem State.loseConflict_fetching (s : State) (r : Region) (o : Station) (stamp : Stamp) (h : State.fetchingOk s) : State.fetchingOk (State.loseConflict s r o stamp) := by
  unfold State.loseConflict; (repeat' (first | split | dsimp only)) <;> simp (maxDischargeDepth := 20) [h]
@[simp] theorem State.resolveConflict_fetching (s : State) (r : Region) (o : Station) (stamp : Stamp) (h : State.fetchingOk s) : State.fetchingOk (State.resolveConflict s r o stamp) := by
  unfold State.resolveConflict; (repeat' (first | split | dsimp only)) <;> simp (maxDischargeDepth := 20) [h]
@[simp] theorem State.claimCopy_fetching (s : State) (r : Region) (stamp : Stamp) (h : State.fetchingOk s) : State.fetchingOk (State.claimCopy s r stamp) := by
  unfold State.claimCopy; (repeat' (first | split | dsimp only)) <;> simp (maxDischargeDepth := 20) [h]
@[simp] theorem State.yielded_fetching (s : State) (r : Region) (former : Bool) (h : State.fetchingOk s) : State.fetchingOk (State.yielded s r former) := by
  unfold State.yielded; (repeat' (first | split | dsimp only)) <;> simp (maxDischargeDepth := 20) [h]
@[simp] theorem State.claimOwner_fetching (s : State) (c : Station) (r : Region) (stamp : Stamp) (h : State.fetchingOk s) : State.fetchingOk (State.claimOwner s c r stamp) := by
  unfold State.claimOwner; (repeat' (first | split | dsimp only)) <;> simp (maxDischargeDepth := 20) [h]
@[simp] theorem State.applyClaim_fetching (s : State) (c : Station) (r : Region) (stamp : Stamp) (h : State.fetchingOk s) : State.fetchingOk (State.applyClaim s c r stamp) := by
  unfold State.applyClaim; (repeat' (first | split | dsimp only)) <;> simp (maxDischargeDepth := 20) [h]
@[simp] theorem State.postStales_fetching (s : State) (rs : List Region) (h : State.fetchingOk s) : State.fetchingOk (State.postStales s rs) := by
  unfold State.postStales
  exact foldl_preserves (fun t : State => State.fetchingOk t) _ (fun t x ht => by simp [ht]) _ _ (by simp (maxDischargeDepth := 20) [h])
@[simp] theorem State.postIsolation_fetching (s : State) (h : State.fetchingOk s) : State.fetchingOk (State.postIsolation s) := by
  unfold State.postIsolation; (repeat' (first | split | dsimp only)) <;> simp (maxDischargeDepth := 20) [h]
@[simp] theorem State.wakeUp_fetching (s : State) (coincidence : Option Region) (h : State.fetchingOk s) : State.fetchingOk (State.wakeUp s coincidence) := by
  unfold State.wakeUp; (repeat' (first | split | dsimp only)) <;> simp (maxDischargeDepth := 20) [h]
@[simp] theorem State.endVote_fetching (s : State) (r : Region) (h : State.fetchingOk s) : State.fetchingOk (State.endVote s r) := by
  unfold State.endVote; (repeat' (first | split | dsimp only)) <;> simp (maxDischargeDepth := 20) [h]
@[simp] theorem State.dropFrame_fetching (s : State) (h : State.fetchingOk s) : State.fetchingOk (State.dropFrame s) := by
  unfold State.dropFrame; (repeat' (first | split | dsimp only)) <;> simp (maxDischargeDepth := 20) [h]
@[simp] theorem State.lineOff_fetching (s : State) (h : State.fetchingOk s) : State.fetchingOk (State.lineOff s) := by
  unfold State.lineOff; (repeat' (first | split | dsimp only)) <;> simp (maxDischargeDepth := 20) [h]
@[simp] theorem State.disown_fetching (s : State) (r : Region) (h : State.fetchingOk s) : State.fetchingOk (State.disown s r) := by
  unfold State.disown; (repeat' (first | split | dsimp only)) <;> simp (maxDischargeDepth := 20) [h]
/-- With no pull open, a change of owner opens none. -/
theorem State.changeOwner_noPulls (s : State) (r : Region) (o : Option Owner) (h : s.catchup.pulls = []) :
    (s.changeOwner r o).catchup.pulls = [] := by
  unfold State.changeOwner State.partNew State.partOld State.surrender State.unpark State.assume
  (repeat' (first | split | dsimp only)) <;> simp [State.closePull_pulls, State.listRegion, h]

/-- With no pull open and no copy FETCHING, the clearing of a region at a halt keeps both (R141). -/
theorem State.haltRegion_noPulls (s : State) (r : Region) (h : s.fetchingOk) (hp : s.catchup.pulls = []) :
    (s.haltRegion r).fetchingOk ∧ (s.haltRegion r).catchup.pulls = [] := by
  have h1 : (s.mapEntry r ({ · with copy := .stale .damaged })).fetchingOk := fun q => by
    rw [State.mapEntry_read]
    split
    · simp [hp, CopyState.isFetching]
    · simpa using h q
  unfold State.haltRegion State.disown
  split
  · exact ⟨State.changeOwner_fetching _ _ _ h1, State.changeOwner_noPulls _ _ _ (by simpa using hp)⟩
  · exact ⟨h1, by simpa using hp⟩
theorem State.haltApply_noPulls (s : State) (h : s.fetchingOk) (hp : s.catchup.pulls = []) : s.haltApply.fetchingOk := by
  unfold State.haltApply
  exact (foldl_preserves (fun t : State => t.fetchingOk ∧ t.catchup.pulls = []) _
    (fun t r ht => State.haltRegion_noPulls t r ht.1 ht.2) _ (s.setApplyQ s.applyInProgress) ⟨h, hp⟩).1
@[simp] theorem State.stopTimers_fetching (s : State) (h : State.fetchingOk s) : State.fetchingOk (State.stopTimers s) := by
  unfold State.stopTimers; (repeat' (first | split | dsimp only)) <;> simp (maxDischargeDepth := 20) [h]
@[simp] theorem State.clearOutbox_fetching (s : State) (h : State.fetchingOk s) : State.fetchingOk (State.clearOutbox s) := by
  unfold State.clearOutbox; (repeat' (first | split | dsimp only)) <;> simp (maxDischargeDepth := 20) [h]
/-- The steps of a halt after every pull has closed (R167 steps 4 to 7). -/
theorem haltRest_fetching (t : State) (c : HaltCause) (h : t.fetchingOk) (hp : t.catchup.pulls = []) :
    (((t.setCatchup ⟨[], 0, []⟩).endAllServing.haltApply).clearRoster.post (.halted c)).fetchingOk := by
  have h1 : (t.setCatchup ⟨[], 0, []⟩).fetchingOk := fun r => by
    have := h r
    rw [hp] at this
    exact this
  have h2 : (t.setCatchup ⟨[], 0, []⟩).endAllServing.catchup.pulls = [] := by simp
  exact State.post_fetching _ _ (State.clearRoster_fetching _
    (State.haltApply_noPulls _ (State.endAllServing_fetching _ h1) h2))
@[simp] theorem State.halt_fetching (s : State) (c : HaltCause) (h : s.fetchingOk) : (s.halt c).fetchingOk := by
  unfold State.halt
  generalize hX : (s.setState .halted).lineOff.stopTimers.clearOutbox = X
  have hx : X.fetchingOk := by rw [← hX]; simp (maxDischargeDepth := 20) [h]
  exact haltRest_fetching X.closeAllPulls c (State.closeAllPulls_fetching X hx) X.closeAllPulls_pulls
@[simp] theorem State.goOffline_fetching (s : State) (h : State.fetchingOk s) : State.fetchingOk (State.goOffline s) := by
  unfold State.goOffline; (repeat' (first | split | dsimp only)) <;> simp (maxDischargeDepth := 20) [h]
@[simp] theorem State.drainEnd_fetching (s : State) (h : State.fetchingOk s) : State.fetchingOk (State.drainEnd s) := by
  unfold State.drainEnd; (repeat' (first | split | dsimp only)) <;> simp (maxDischargeDepth := 20) [h]
@[simp] theorem State.finalEnd_fetching (s : State) (h : State.fetchingOk s) : State.fetchingOk (State.finalEnd s) := by
  unfold State.finalEnd; (repeat' (first | split | dsimp only)) <;> simp (maxDischargeDepth := 20) [h]
@[simp] theorem State.setIntent_fetching (s : State) (i : Option Intent) (h : State.fetchingOk s) : State.fetchingOk (State.setIntent s i) := by
  unfold State.setIntent; (repeat' (first | split | dsimp only)) <;> simp (maxDischargeDepth := 20) [h]
@[simp] theorem State.grantHost_fetching (s : State) (h : State.fetchingOk s) : State.fetchingOk (State.grantHost s) := by
  unfold State.grantHost; (repeat' (first | split | dsimp only)) <;> simp (maxDischargeDepth := 20) [h]
@[simp] theorem State.grantHead_fetching (s : State) (h : State.fetchingOk s) : State.fetchingOk (State.grantHead s) := by
  unfold State.grantHead; (repeat' (first | split | dsimp only)) <;> simp (maxDischargeDepth := 20) [h]
@[simp] theorem State.grantImage_fetching (s : State) (v : ServingRecord) (h : State.fetchingOk s) : State.fetchingOk (State.grantImage s v) := by
  unfold State.grantImage; (repeat' (first | split | dsimp only)) <;> simp (maxDischargeDepth := 20) [h]
@[simp] theorem State.arbitrate_fetching (s : State) (h : State.fetchingOk s) : State.fetchingOk (State.arbitrate s) := by
  unfold State.arbitrate; (repeat' (first | split | dsimp only)) <;> simp (maxDischargeDepth := 20) [h]
@[simp] theorem State.resume_fetching (s : State) (h : State.fetchingOk s) : State.fetchingOk (State.resume s) := by
  unfold State.resume; (repeat' (first | split | dsimp only)) <;> simp (maxDischargeDepth := 20) [h]
@[simp] theorem State.settle_fetching (s : State) (h : State.fetchingOk s) : State.fetchingOk (State.settle s) := by
  unfold State.settle; (repeat' (first | split | dsimp only)) <;> simp (maxDischargeDepth := 20) [h]
@[simp] theorem State.afterAttempt_fetching (s : State) (h : State.fetchingOk s) : State.fetchingOk (State.afterAttempt s) := by
  unfold State.afterAttempt; (repeat' (first | split | dsimp only)) <;> simp (maxDischargeDepth := 20) [h]
@[simp] theorem State.refusePut_fetching (s : State) (h : State.fetchingOk s) : State.fetchingOk (State.refusePut s) := by
  unfold State.refusePut; (repeat' (first | split | dsimp only)) <;> simp (maxDischargeDepth := 20) [h]
@[simp] theorem State.undriven_fetching (s : State) (h : State.fetchingOk s) : State.fetchingOk (State.undriven s) := by
  unfold State.undriven; (repeat' (first | split | dsimp only)) <;> simp (maxDischargeDepth := 20) [h]
@[simp] theorem State.takeBits_fetching (s : State) (bits : Nat) (h : State.fetchingOk s) : State.fetchingOk (State.takeBits s bits) := by
  unfold State.takeBits; (repeat' (first | split | dsimp only)) <;> simp (maxDischargeDepth := 20) [h]
@[simp] theorem State.pollBit_fetching (s : State) (h : State.fetchingOk s) : State.fetchingOk (State.pollBit s) := by
  unfold State.pollBit; (repeat' (first | split | dsimp only)) <;> simp (maxDischargeDepth := 20) [h]
@[simp] theorem State.pollBits_fetching (n : Nat) (s : State) (h : State.fetchingOk s) : State.fetchingOk (State.pollBits n s) := by
  induction n generalizing s with
  | zero => simpa [State.pollBits] using h
  | succ n ih => unfold State.pollBits; exact ih _ (by simp [h])
@[simp] theorem State.pollRun_fetching (s : State) (run : PollRun) (h : State.fetchingOk s) : State.fetchingOk (State.pollRun s run) := by
  unfold State.pollRun; (repeat' (first | split | dsimp only)) <;> simp (maxDischargeDepth := 20) [h]
@[simp] theorem State.startRead_fetching (s : State) (r : Region) (offset length : Nat) (h : State.fetchingOk s) : State.fetchingOk (State.startRead s r offset length) := by
  unfold State.startRead; (repeat' (first | split | dsimp only)) <;> simp (maxDischargeDepth := 20) [h]
@[simp] theorem State.takeRoom_fetching (s : State) (r : Region) (h : State.fetchingOk s) : State.fetchingOk (State.takeRoom s r) := by
  unfold State.takeRoom; (repeat' (first | split | dsimp only)) <;> simp (maxDischargeDepth := 20) [h]
@[simp] theorem State.startClaim_fetching (s : State) (r : Region) (guardPin : Bool) (h : State.fetchingOk s) : State.fetchingOk (State.startClaim s r guardPin) := by
  unfold State.startClaim; (repeat' (first | split | dsimp only)) <;> simp (maxDischargeDepth := 20) [h]
@[simp] theorem State.setYield_fetching (s : State) (code : Byte) (r : Region) (yes : Bool) (h : State.fetchingOk s) : State.fetchingOk (State.setYield s code r yes) := by
  unfold State.setYield; (repeat' (first | split | dsimp only)) <;> simp (maxDischargeDepth := 20) [h]
@[simp] theorem State.openFence_fetching (s : State) (h : State.fetchingOk s) : State.fetchingOk (State.openFence s) := by
  unfold State.openFence; (repeat' (first | split | dsimp only)) <;> simp (maxDischargeDepth := 20) [h]
@[simp] theorem State.formatClear_fetching (s : State) (h : State.fetchingOk s) : State.fetchingOk (State.formatClear s) := by
  unfold State.formatClear; (repeat' (first | split | dsimp only)) <;> simp (maxDischargeDepth := 20) [h]
@[simp] theorem State.formatIntent_fetching (s : State) (h : State.fetchingOk s) : State.fetchingOk (State.formatIntent s) := by
  unfold State.formatIntent; (repeat' (first | split | dsimp only)) <;> simp (maxDischargeDepth := 20) [h]
@[simp] theorem State.startListening_fetching (s : State) (h : State.fetchingOk s) : State.fetchingOk (State.startListening s) := by
  unfold State.startListening; (repeat' (first | split | dsimp only)) <;> simp (maxDischargeDepth := 20) [h]
@[simp] theorem State.startLeaving_fetching (s : State) (h : State.fetchingOk s) : State.fetchingOk (State.startLeaving s) := by
  unfold State.startLeaving; (repeat' (first | split | dsimp only)) <;> simp (maxDischargeDepth := 20) [h]
/-- The working entries that the retained regions come up with are not FETCHING (R8). -/
theorem Retained.table_fetching (nv : Retained) (r : Region) : nv.table[r].copy.isFetching = false := by
  simp only [Retained.table, Fin.getElem_fin, Vector.getElem_ofFn, NvRegion.working, NvRegion.copy]
  split <;> rfl
theorem State.comeUp_fetching (t : State) (nv : Retained) (ht : t.table = nv.table) (hp : t.catchup.pulls = []) :
    t.fetchingOk := fun r => by
  rw [hp, ht, Retained.table_fetching]; rfl
@[simp] theorem State.clearWorking_fetching (s : State) (p : Power) : (s.clearWorking p).fetchingOk :=
  State.comeUp_fetching _ s.nv rfl rfl
@[simp] theorem State.recover_fetching (s : State) (c : ResetCause) (x : Straps) : (s.recover c x).fetchingOk :=
  State.comeUp_fetching _ s.nv.recover rfl rfl
@[simp] theorem State.finishOp_fetching (s : State) (h : State.fetchingOk s) : State.fetchingOk (State.finishOp s) := by
  unfold State.finishOp; (repeat' (first | split | dsimp only)) <;> simp (maxDischargeDepth := 20) [h]
@[simp] theorem State.endOp_fetching (s : State) (h : State.fetchingOk s) : State.fetchingOk (State.endOp s) := by
  unfold State.endOp; (repeat' (first | split | dsimp only)) <;> simp (maxDischargeDepth := 20) [h]
@[simp] theorem State.writeArray_fetching (s : State) (r : Region) (k : Nat) (data : List Byte) (h : State.fetchingOk s) : State.fetchingOk (State.writeArray s r k data) := by
  unfold State.writeArray; (repeat' (first | split | dsimp only)) <;> simp (maxDischargeDepth := 20) [h]
@[simp] theorem State.setupWritten_fetching (s : State) (members : StationMap) (guardSet : RegionMap) (h : State.fetchingOk s) : State.fetchingOk (State.setupWritten s members guardSet) := by
  unfold State.setupWritten; (repeat' (first | split | dsimp only)) <;> simp (maxDischargeDepth := 20) [h]
theorem State.formatRegionDone_fetching (s : State) (r : Region) (hp : s.catchup.pulls = []) (h : s.fetchingOk) :
    (s.formatRegionDone r).fetchingOk := by
  refine State.setIntent_fetching _ _ fun q => ?_
  rw [State.mapEntry_read]
  split
  · simp [hp, CopyState.isFetching]
  · simpa using h q
theorem State.formatNext_fetching (s : State) (r : Region) (k : Chunk) (hp : s.catchup.pulls = []) (h : s.fetchingOk) :
    (s.formatNext r k).fetchingOk := by
  have := State.formatRegionDone_fetching s r hp h
  unfold State.formatNext
  (repeat' split) <;> simp [h, this]
theorem State.formatStep_fetching (s : State) (r : Region) (k : Chunk) (hp : s.catchup.pulls = []) (h : s.fetchingOk) :
    (s.formatStep r k).fetchingOk :=
  State.formatNext_fetching _ _ _ (by simpa using hp) (by simp [h])
@[simp] theorem State.readPiece_fetching (s : State) (w : ReadWork) (h : State.fetchingOk s) : State.fetchingOk (State.readPiece s w) := by
  unfold State.readPiece; (repeat' (first | split | dsimp only)) <;> simp (maxDischargeDepth := 20) [h]
@[simp] theorem State.queueWrite_fetching (s : State) (w : WriteWork) (e : RegionEntry) (h : State.fetchingOk s) : State.fetchingOk (State.queueWrite s w e) := by
  unfold State.queueWrite; (repeat' (first | split | dsimp only)) <;> simp (maxDischargeDepth := 20) [h]
@[simp] theorem State.ownerWrote_fetching (s : State) (w : WriteWork) (h : State.fetchingOk s) : State.fetchingOk (State.ownerWrote s w) := by
  unfold State.ownerWrote; (repeat' (first | split | dsimp only)) <;> simp (maxDischargeDepth := 20) [h]
@[simp] theorem State.concludeWrite_fetching (s : State) (w : WriteWork) (h : State.fetchingOk s) : State.fetchingOk (State.concludeWrite s w) := by
  unfold State.concludeWrite; (repeat' (first | split | dsimp only)) <;> simp (maxDischargeDepth := 20) [h]
@[simp] theorem State.writeDone_fetching (s : State) (w : WriteWork) (h : State.fetchingOk s) : State.fetchingOk (State.writeDone s w) := by
  unfold State.writeDone; (repeat' (first | split | dsimp only)) <;> simp (maxDischargeDepth := 20) [h]
@[simp] theorem State.putPull_fetching (s : State) (p : PullRecord) (h : s.fetchingOk) : (s.putPull p).fetchingOk :=
  State.mapCatchup_fetching s _ (fun r => any_map_region _ _ (fun q => by split <;> simp_all) r) h
@[simp] theorem State.completePull_fetching (s : State) (p : PullRecord) (c : Stamp) (h : s.fetchingOk) :
    (s.completePull p c).fetchingOk := by
  unfold State.completePull
  refine State.post_fetching _ _ (State.discardEntries_fetching _ _ _
    (State.close_fetching s _ p.region h (fun q hq => ?_) ?_ ?_))
  · simp only [State.dropPull_table]
    rw [State.mapEntry_read, if_neg hq]
  · simp only [State.dropPull_table]
    rw [State.mapEntry_read, if_pos rfl]; rfl
  · simp [State.dropPull]
@[simp] theorem State.chunkWritten_fetching (s : State) (k : Chunk) (stamp : Stamp) (pull : Nat) (h : State.fetchingOk s) : State.fetchingOk (State.chunkWritten s k stamp pull) := by
  unfold State.chunkWritten; (repeat' (first | split | dsimp only)) <;> simp (maxDischargeDepth := 20) [h]
@[simp] theorem State.chunkWrittenInReset_fetching (s : State) (k : Chunk) (stamp : Stamp) (pull : Nat) (h : State.fetchingOk s) : State.fetchingOk (State.chunkWrittenInReset s k stamp pull) := by
  unfold State.chunkWrittenInReset; (repeat' (first | split | dsimp only)) <;> simp (maxDischargeDepth := 20) [h]
@[simp] theorem State.applied_fetching (s : State) (b : ApplyBody) (h : State.fetchingOk s) : State.fetchingOk (State.applied s b) := by
  unfold State.applied; (repeat' (first | split | dsimp only)) <;> simp (maxDischargeDepth := 20) [h]
@[simp] theorem State.applyDone_fetching (s : State) (e : ApplyEntry) (rest : List ApplyEntry) (h : State.fetchingOk s) : State.fetchingOk (State.applyDone s e rest) := by
  unfold State.applyDone; (repeat' (first | split | dsimp only)) <;> simp (maxDischargeDepth := 20) [h]
@[simp] theorem State.chunkRead_fetching (s : State) (r : Region) (k : Chunk) (stamp : Stamp) (live : Bool) (h : State.fetchingOk s) : State.fetchingOk (State.chunkRead s r k stamp live) := by
  unfold State.chunkRead; (repeat' (first | split | dsimp only)) <;> simp (maxDischargeDepth := 20) [h]
@[simp] theorem State.sendBeacon_fetching (s : State) (h : State.fetchingOk s) : State.fetchingOk (State.sendBeacon s) := by
  unfold State.sendBeacon; (repeat' (first | split | dsimp only)) <;> simp (maxDischargeDepth := 20) [h]
@[simp] theorem State.unheldUnless_fetching (s : State) (won : Bool) (r : Region) (h : State.fetchingOk s) : State.fetchingOk (State.unheldUnless s won r) := by
  unfold State.unheldUnless; (repeat' (first | split | dsimp only)) <;> simp (maxDischargeDepth := 20) [h]
@[simp] theorem State.claimOver_fetching (s : State) (r : Region) (source : ClaimSource) (won : Bool) (h : State.fetchingOk s) : State.fetchingOk (State.claimOver s r source won) := by
  unfold State.claimOver; (repeat' (first | split | dsimp only)) <;> simp (maxDischargeDepth := 20) [h]
@[simp] theorem State.withdraw_fetching (s : State) (e : OutEntry) (source : ClaimSource) (why : LostReason) (h : State.fetchingOk s) : State.fetchingOk (State.withdraw s e source why) := by
  unfold State.withdraw; (repeat' (first | split | dsimp only)) <;> simp (maxDischargeDepth := 20) [h]
@[simp] theorem State.sendEntry_fetching (s : State) (e : OutEntry) (h : State.fetchingOk s) : State.fetchingOk (State.sendEntry s e) := by
  unfold State.sendEntry; (repeat' (first | split | dsimp only)) <;> simp (maxDischargeDepth := 20) [h]
@[simp] theorem State.offerFrom_fetching (n : Nat) (s : State) (h : State.fetchingOk s) : State.fetchingOk (State.offerFrom n s) := by
  induction n generalizing s with
  | zero => simpa [State.offerFrom] using h
  | succ n ih => rcases h' : s.nextOffer <;> simp (maxDischargeDepth := 20) [State.offerFrom, h', ih, h]
@[simp] theorem State.offer_fetching (s : State) (h : State.fetchingOk s) : State.fetchingOk (State.offer s) := by
  unfold State.offer; (repeat' (first | split | dsimp only)) <;> simp (maxDischargeDepth := 20) [h]
@[simp] theorem State.returnBeacon_fetching (s : State) (b : BeaconFrame) (h : State.fetchingOk s) : State.fetchingOk (State.returnBeacon s b) := by
  unfold State.returnBeacon; (repeat' (first | split | dsimp only)) <;> simp (maxDischargeDepth := 20) [h]
@[simp] theorem State.attemptLost_fetching (s : State) (t : TxSlot) (h : State.fetchingOk s) : State.fetchingOk (State.attemptLost s t) := by
  unfold State.attemptLost; (repeat' (first | split | dsimp only)) <;> simp (maxDischargeDepth := 20) [h]
@[simp] theorem State.countFault_fetching (s : State) (h : State.fetchingOk s) : State.fetchingOk (State.countFault s) := by
  unfold State.countFault; (repeat' (first | split | dsimp only)) <;> simp (maxDischargeDepth := 20) [h]
@[simp] theorem State.answerAfterFault_fetching (s : State) (place : FaultPlace) (f : Frame) (h : State.fetchingOk s) : State.fetchingOk (State.answerAfterFault s place f) := by
  unfold State.answerAfterFault; (repeat' (first | split | dsimp only)) <;> simp (maxDischargeDepth := 20) [h]
@[simp] theorem State.postStranger_fetching (s : State) (n : Station) (h : State.fetchingOk s) : State.fetchingOk (State.postStranger s n) := by
  unfold State.postStranger; (repeat' (first | split | dsimp only)) <;> simp (maxDischargeDepth := 20) [h]
@[simp] theorem State.strangerHeard_fetching (s : State) (n : Station) (h : State.fetchingOk s) : State.fetchingOk (State.strangerHeard s n) := by
  unfold State.strangerHeard; (repeat' (first | split | dsimp only)) <;> simp (maxDischargeDepth := 20) [h]
@[simp] theorem State.imageHeard_fetching (s : State) (i : ImageFrame) (h : State.fetchingOk s) : State.fetchingOk (State.imageHeard s i) := by
  unfold State.imageHeard; (repeat' (first | split | dsimp only)) <;> simp (maxDischargeDepth := 20) [h]
@[simp] theorem State.compareStamp_fetching (s : State) (o : Station) (e : CensusEntry) (h : State.fetchingOk s) : State.fetchingOk (State.compareStamp s o e) := by
  unfold State.compareStamp; (repeat' (first | split | dsimp only)) <;> simp (maxDischargeDepth := 20) [h]
@[simp] theorem State.compareIfOwner_fetching (s : State) (o : Station) (e : CensusEntry) (h : State.fetchingOk s) : State.fetchingOk (State.compareIfOwner s o e) := by
  unfold State.compareIfOwner; (repeat' (first | split | dsimp only)) <;> simp (maxDischargeDepth := 20) [h]
@[simp] theorem State.censusCase_fetching (s : State) (o : Station) (e : CensusEntry) (h : State.fetchingOk s) : State.fetchingOk (State.censusCase s o e) := by
  unfold State.censusCase; (repeat' (first | split | dsimp only)) <;> simp (maxDischargeDepth := 20) [h]
@[simp] theorem State.censusEntry_fetching (o : Station) (s : State) (e : CensusEntry) (h : State.fetchingOk s) : State.fetchingOk (State.censusEntry o s e) := by
  unfold State.censusEntry; (repeat' (first | split | dsimp only)) <;> simp (maxDischargeDepth := 20) [h]
@[simp] theorem State.censusList_fetching (s : State) (o : Station) (es : List CensusEntry) (h : State.fetchingOk s) : State.fetchingOk (State.censusList s o es) := by
  unfold State.censusList
  exact foldl_preserves (fun t : State => State.fetchingOk t) _ (fun t x ht => by simp [ht]) _ _ (by simp (maxDischargeDepth := 20) [h])
@[simp] theorem State.markIfBehind_fetching (s : State) (u : UpdateFrame) (h : State.fetchingOk s) : State.fetchingOk (State.markIfBehind s u) := by
  unfold State.markIfBehind; (repeat' (first | split | dsimp only)) <;> simp (maxDischargeDepth := 20) [h]
@[simp] theorem State.listen_fetching (s : State) (f : Frame) (h : State.fetchingOk s) : State.fetchingOk (State.listen s f) := by
  unfold State.listen; (repeat' (first | split | dsimp only)) <;> simp (maxDischargeDepth := 20) [h]
@[simp] theorem State.restartAnswer_fetching (s : State) (f : Frame) (h : State.fetchingOk s) : State.fetchingOk (State.restartAnswer s f) := by
  unfold State.restartAnswer; (repeat' (first | split | dsimp only)) <;> simp (maxDischargeDepth := 20) [h]
@[simp] theorem State.listenIfListening_fetching (s : State) (f : Frame) (h : State.fetchingOk s) : State.fetchingOk (State.listenIfListening s f) := by
  unfold State.listenIfListening; (repeat' (first | split | dsimp only)) <;> simp (maxDischargeDepth := 20) [h]
@[simp] theorem State.handOn_fetching (s : State) (f : Frame) (h : State.fetchingOk s) : State.fetchingOk (State.handOn s f) := by
  unfold State.handOn; (repeat' (first | split | dsimp only)) <;> simp (maxDischargeDepth := 20) [h]
@[simp] theorem State.ownNumberHeard_fetching (s : State) (f : Frame) (h : State.fetchingOk s) : State.fetchingOk (State.ownNumberHeard s f) := by
  unfold State.ownNumberHeard; (repeat' (first | split | dsimp only)) <;> simp (maxDischargeDepth := 20) [h]
@[simp] theorem State.holdFrame_fetching (s : State) (f : Frame) (bit acked : Bool) (h : State.fetchingOk s) : State.fetchingOk (State.holdFrame s f bit acked) := by
  unfold State.holdFrame; (repeat' (first | split | dsimp only)) <;> simp (maxDischargeDepth := 20) [h]
@[simp] theorem State.beaconAct_fetching (b : BeaconFrame) (s : State) (h : State.fetchingOk s) : State.fetchingOk (State.beaconAct b s).2 := by
  unfold State.beaconAct; (repeat' (first | split | dsimp only)) <;> simp (maxDischargeDepth := 20) [h]
@[simp] theorem State.holdVote_fetching (s : State) (r : Region) (bit : Bool) (h : State.fetchingOk s) : State.fetchingOk (State.holdVote s r bit) := by
  unfold State.holdVote; (repeat' (first | split | dsimp only)) <;> simp (maxDischargeDepth := 20) [h]
@[simp] theorem State.wakeIfAsked_fetching (s : State) (r : Region) (h : State.fetchingOk s) : State.fetchingOk (State.wakeIfAsked s r) := by
  unfold State.wakeIfAsked; (repeat' (first | split | dsimp only)) <;> simp (maxDischargeDepth := 20) [h]
@[simp] theorem State.claimAct_fetching (c : ClaimFrame) (guardPin : Bool) (s : State) (h : State.fetchingOk s) : State.fetchingOk (State.claimAct c guardPin s).2 := by
  unfold State.claimAct; (repeat' (first | split | dsimp only)) <;> simp (maxDischargeDepth := 20) [h]
@[simp] theorem State.decidePull_fetching (s : State) (p : PullFrame) (h : State.fetchingOk s) : State.fetchingOk (State.decidePull s p).2 := by
  unfold State.decidePull; (repeat' (first | split | dsimp only)) <;> simp (maxDischargeDepth := 20) [h]
@[simp] theorem State.pullAct_fetching (p : PullFrame) (s : State) (h : State.fetchingOk s) : State.fetchingOk (State.pullAct p s).2 := by
  unfold State.pullAct; (repeat' (first | split | dsimp only)) <;> simp (maxDischargeDepth := 20) [h]
@[simp] theorem State.takeUpdate_fetching (s : State) (u : UpdateFrame) (h : State.fetchingOk s) : State.fetchingOk (State.takeUpdate s u).2 := by
  unfold State.takeUpdate; (repeat' (first | split | dsimp only)) <;> simp (maxDischargeDepth := 20) [h]
@[simp] theorem State.compareUpdate_fetching (s : State) (u : UpdateFrame) (h : State.fetchingOk s) : State.fetchingOk (State.compareUpdate s u).2 := by
  unfold State.compareUpdate; (repeat' (first | split | dsimp only)) <;> simp (maxDischargeDepth := 20) [h]
@[simp] theorem State.updateIfOwner_fetching (s : State) (u : UpdateFrame) (h : State.fetchingOk s) : State.fetchingOk (State.updateIfOwner s u).2 := by
  unfold State.updateIfOwner; (repeat' (first | split | dsimp only)) <;> simp (maxDischargeDepth := 20) [h]
@[simp] theorem State.updateAct_fetching (u : UpdateFrame) (s : State) (h : State.fetchingOk s) : State.fetchingOk (State.updateAct u s).2 := by
  unfold State.updateAct; (repeat' (first | split | dsimp only)) <;> simp (maxDischargeDepth := 20) [h]
@[simp] theorem State.takeChunk_fetching (s : State) (p : PullRecord) (i : ImageFrame) (h : State.fetchingOk s) : State.fetchingOk (State.takeChunk s p i).2 := by
  unfold State.takeChunk; (repeat' (first | split | dsimp only)) <;> simp (maxDischargeDepth := 20) [h]
@[simp] theorem State.collect_fetching (s : State) (p : PullRecord) (i : ImageFrame) (h : State.fetchingOk s) : State.fetchingOk (State.collect s p i).2 := by
  unfold State.collect; (repeat' (first | split | dsimp only)) <;> simp (maxDischargeDepth := 20) [h]
@[simp] theorem State.collectIfAsked_fetching (s : State) (i : ImageFrame) (h : State.fetchingOk s) : State.fetchingOk (State.collectIfAsked s i).2 := by
  unfold State.collectIfAsked; (repeat' (first | split | dsimp only)) <;> simp (maxDischargeDepth := 20) [h]
@[simp] theorem State.imageAct_fetching (i : ImageFrame) (s : State) (h : State.fetchingOk s) : State.fetchingOk (State.imageAct i s).2 := by
  unfold State.imageAct; (repeat' (first | split | dsimp only)) <;> simp (maxDischargeDepth := 20) [h]
@[simp] theorem State.attemptDone_fetching (s : State) (h : State.fetchingOk s) : State.fetchingOk (State.attemptDone s) := by
  unfold State.attemptDone; (repeat' (first | split | dsimp only)) <;> simp (maxDischargeDepth := 20) [h]
@[simp] theorem State.receptionDone_fetching (s : State) (h : State.fetchingOk s) : State.fetchingOk (State.receptionDone s) := by
  unfold State.receptionDone; (repeat' (first | split | dsimp only)) <;> simp (maxDischargeDepth := 20) [h]
@[simp] theorem State.beaconSent_fetching (s : State) (b : BeaconFrame) (walkLast : Option Region) (ack : StationMap) (h : State.fetchingOk s) : State.fetchingOk (State.beaconSent s b walkLast ack) := by
  unfold State.beaconSent; (repeat' (first | split | dsimp only)) <;> simp (maxDischargeDepth := 20) [h]
@[simp] theorem State.ownBeaconEnd_fetching (s : State) (b : BeaconFrame) (walkLast : Option Region) (ack : StationMap) (h : State.fetchingOk s) : State.fetchingOk (State.ownBeaconEnd s b walkLast ack) := by
  unfold State.ownBeaconEnd; (repeat' (first | split | dsimp only)) <;> simp (maxDischargeDepth := 20) [h]
@[simp] theorem State.beaconHeard_fetching (s : State) (b : BeaconFrame) (h : State.fetchingOk s) : State.fetchingOk (State.beaconHeard s b) := by
  unfold State.beaconHeard; (repeat' (first | split | dsimp only)) <;> simp (maxDischargeDepth := 20) [h]
@[simp] theorem State.claimDecided_fetching (s : State) (c : ClaimFrame) (source : ClaimSource) (ack : StationMap) (h : State.fetchingOk s) : State.fetchingOk (State.claimDecided s c source ack) := by
  unfold State.claimDecided; (repeat' (first | split | dsimp only)) <;> simp (maxDischargeDepth := 20) [h]
@[simp] theorem State.ownClaimEnd_fetching (s : State) (c : ClaimFrame) (ack : StationMap) (h : State.fetchingOk s) : State.fetchingOk (State.ownClaimEnd s c ack) := by
  unfold State.ownClaimEnd; (repeat' (first | split | dsimp only)) <;> simp (maxDischargeDepth := 20) [h]
@[simp] theorem State.decideClaim_fetching (s : State) (c : ClaimFrame) (m : StationMap) (h : State.fetchingOk s) : State.fetchingOk (State.decideClaim s c m) := by
  unfold State.decideClaim; (repeat' (first | split | dsimp only)) <;> simp (maxDischargeDepth := 20) [h]
@[simp] theorem State.claimHeard_fetching (s : State) (acked : Bool) (c : ClaimFrame) (ack : StationMap) (h : State.fetchingOk s) : State.fetchingOk (State.claimHeard s acked c ack) := by
  unfold State.claimHeard; (repeat' (first | split | dsimp only)) <;> simp (maxDischargeDepth := 20) [h]
@[simp] theorem State.pullAnswered_fetching (s : State) (p : PullRecord) (ack : StationMap) (h : s.fetchingOk) :
    (s.pullAnswered p ack).fetchingOk := by
  unfold State.pullAnswered
  split
  · refine State.post_fetching _ _ (State.close_fetching s _ p.region h (fun q hq => ?_) ?_ ?_)
    · simp only [State.dropPull_table]
      rw [State.mapEntry_read, if_neg hq]
    · simp only [State.dropPull_table]
      rw [State.mapEntry_read, if_pos rfl]; rfl
    · simp [State.dropPull]
  · simp [h]
@[simp] theorem State.ownPullEnd_fetching (s : State) (ack : StationMap) (h : State.fetchingOk s) : State.fetchingOk (State.ownPullEnd s ack) := by
  unfold State.ownPullEnd; (repeat' (first | split | dsimp only)) <;> simp (maxDischargeDepth := 20) [h]
@[simp] theorem State.settledShort_fetching (s : State) (r : Region) (u : UpdateEntry) (missing : StationMap) (h : State.fetchingOk s) : State.fetchingOk (State.settledShort s r u missing) := by
  unfold State.settledShort; (repeat' (first | split | dsimp only)) <;> simp (maxDischargeDepth := 20) [h]
@[simp] theorem State.retryUpdate_fetching (s : State) (h : State.fetchingOk s) : State.fetchingOk (State.retryUpdate s) := by
  unfold State.retryUpdate; (repeat' (first | split | dsimp only)) <;> simp (maxDischargeDepth := 20) [h]
@[simp] theorem State.settleUpdate_fetching (s : State) (r : Region) (u : UpdateEntry) (doom : Doom) (missing : StationMap) (h : State.fetchingOk s) : State.fetchingOk (State.settleUpdate s r u doom missing) := by
  unfold State.settleUpdate; (repeat' (first | split | dsimp only)) <;> simp (maxDischargeDepth := 20) [h]
@[simp] theorem State.ownUpdateEnd_fetching (s : State) (ack : StationMap) (h : State.fetchingOk s) : State.fetchingOk (State.ownUpdateEnd s ack) := by
  unfold State.ownUpdateEnd; (repeat' (first | split | dsimp only)) <;> simp (maxDischargeDepth := 20) [h]
@[simp] theorem State.imageAcked_fetching (s : State) (v : ServingRecord) (i : ImageEntry) (ack : StationMap) (h : State.fetchingOk s) : State.fetchingOk (State.imageAcked s v i ack) := by
  unfold State.imageAcked; (repeat' (first | split | dsimp only)) <;> simp (maxDischargeDepth := 20) [h]
@[simp] theorem State.ownImageEnd_fetching (s : State) (ack : StationMap) (h : State.fetchingOk s) : State.fetchingOk (State.ownImageEnd s ack) := by
  unfold State.ownImageEnd; (repeat' (first | split | dsimp only)) <;> simp (maxDischargeDepth := 20) [h]
@[simp] theorem State.silence_fetching (s : State) (n : Station) (h : State.fetchingOk s) : State.fetchingOk (State.silence s n) := by
  unfold State.silence; (repeat' (first | split | dsimp only)) <;> simp (maxDischargeDepth := 20) [h]
@[simp] theorem State.fallSilent_fetching (s : State) (n : Station) (h : State.fetchingOk s) : State.fetchingOk (State.fallSilent s n) := by
  unfold State.fallSilent; (repeat' (first | split | dsimp only)) <;> simp (maxDischargeDepth := 20) [h]
@[simp] theorem State.fallAbsent_fetching (s : State) (n : Station) (h : State.fetchingOk s) : State.fetchingOk (State.fallAbsent s n) := by
  unfold State.fallAbsent; (repeat' (first | split | dsimp only)) <;> simp (maxDischargeDepth := 20) [h]
@[simp] theorem State.joinComplete_fetching (s : State) (h : s.fetchingOk) : s.joinComplete.fetchingOk :=
  State.sweepWalk_fetching _ (State.postIsolation_fetching _ (State.post_fetching _ _ (State.setSweep_fetching _ _
    (State.mapCatchup_fetching _ _ (fun _ => rfl) h))))
@[simp] theorem State.cut_fetching (s : State) (h : State.fetchingOk s) : State.fetchingOk (State.cut s) := by
  unfold State.cut; (repeat' (first | split | dsimp only)) <;> simp (maxDischargeDepth := 20) [h]
@[simp] theorem State.answerExpired_fetching (s : State) (p : PullRecord) (h : State.fetchingOk s) : State.fetchingOk (State.answerExpired s p) := by
  unfold State.answerExpired; (repeat' (first | split | dsimp only)) <;> simp (maxDischargeDepth := 20) [h]
@[simp] theorem State.advanceTimers_fetching (s : State) (h : s.fetchingOk) : s.advanceTimers.fetchingOk := by
  intro r
  exact (h r).trans (any_map_region s.catchup.pulls (fun p => { p with timer := advance Config.answerMs p.timer })
    (fun _ => rfl) r).symm
@[simp] theorem State.tick_fetching (s : State) (h : State.fetchingOk s) : State.fetchingOk (State.tick s) := by
  unfold State.tick State.whenOn; (repeat' (first | split | dsimp only)) <;> simp (maxDischargeDepth := 20) [h]
@[simp] theorem State.cutWrite_fetching (s : State) (h : State.fetchingOk s) : State.fetchingOk (State.cutWrite s) := by
  unfold State.cutWrite; (repeat' (first | split | dsimp only)) <;> simp (maxDischargeDepth := 20) [h]
@[simp] theorem State.cutSetup_fetching (s : State) (h : State.fetchingOk s) : State.fetchingOk (State.cutSetup s) := by
  unfold State.cutSetup; (repeat' (first | split | dsimp only)) <;> simp (maxDischargeDepth := 20) [h]
@[simp] theorem State.losePower_fetching (s : State) (h : State.fetchingOk s) : State.fetchingOk (State.losePower s) := by
  unfold State.losePower; (repeat' (first | split | dsimp only)) <;> simp (maxDischargeDepth := 20) [h]
@[simp] theorem State.assertReset_fetching (s : State) (h : State.fetchingOk s) : State.fetchingOk (State.assertReset s) := by
  unfold State.assertReset; (repeat' (first | split | dsimp only)) <;> simp (maxDischargeDepth := 20) [h]
@[simp] theorem State.releaseReset_fetching (s : State) (straps : Straps) (h : State.fetchingOk s) : State.fetchingOk (State.releaseReset s straps) := by
  unfold State.releaseReset; (repeat' (first | split | dsimp only)) <;> simp (maxDischargeDepth := 20) [h]

end Sys2Proof.Machine
end

