-- ==== Sys2Proof/Laws/Memory.lean ====
section
/-! SUPPORT. The store array as a list in canonical form: every operation keeps the form, a byte read after a write is the
byte written, and every other byte is as before. -/

namespace Sys2Proof.Machine

/-- The canonical form, taken apart. -/
theorem Memory.wf_iff (m : Memory) :
    Memory.wf m = true ↔ m.Pairwise (fun x y => x.1 < y.1) ∧ ∀ c ∈ m, c.1 < Config.arrayBytes ∧ c.2 ≠ 0 := by
  simp [Memory.wf]

/-- The empty array has the canonical form. -/
@[simp] theorem Memory.wf_nil : Memory.wf [] = true := by decide

/-- What a one-byte write leaves listed. -/
theorem mem_memWrite {m : Memory} {a : Nat} {b : Byte} {c : Host.Cell} (h : c ∈ memWrite m a b) :
    c ∈ m ∨ (c = (a, b) ∧ b ≠ 0) := by
  induction m with
  | nil => simp only [memWrite] at h; split at h <;> simp_all
  | cons d rest ih =>
    obtain ⟨x, v⟩ := d
    simp only [memWrite] at h
    split at h
    · split at h <;> simp_all <;> tauto
    · split at h
      · split at h <;> simp_all <;> tauto
      · rcases List.mem_cons.1 h with h | h
        · exact Or.inl (by simp [h])
        · rcases ih h with h | h
          · exact Or.inl (List.mem_cons_of_mem _ h)
          · exact Or.inr h

/-- A one-byte write keeps the addresses rising. -/
theorem memWrite_sorted {m : Memory} (a : Nat) (b : Byte) (h : m.Pairwise (fun x y => x.1 < y.1)) :
    (memWrite m a b).Pairwise (fun x y => x.1 < y.1) := by
  induction m with
  | nil => simp only [memWrite]; split <;> simp
  | cons d rest ih =>
    obtain ⟨x, v⟩ := d
    have hx := (List.pairwise_cons.1 h).1
    have hr := (List.pairwise_cons.1 h).2
    simp only [memWrite]
    split
    · split
      · exact h
      · refine List.pairwise_cons.2 ⟨?_, h⟩
        intro c hc
        rcases List.mem_cons.1 hc with rfl | hc
        · assumption
        · exact Nat.lt_trans ‹a < x› (hx c hc)
    · split
      · split
        · exact hr
        · subst_vars; exact List.pairwise_cons.2 ⟨hx, hr⟩
      · refine List.pairwise_cons.2 ⟨?_, ih hr⟩
        intro c hc
        rcases mem_memWrite hc with hc | ⟨rfl, -⟩
        · exact hx c hc
        · show x < a; omega

/-- A one-byte write inside the array keeps the canonical form. -/
theorem memWrite_wf {m : Memory} {a : Nat} (b : Byte) (h : Memory.wf m = true) (ha : a < Config.arrayBytes) :
    Memory.wf (memWrite m a b) = true := by
  rw [Memory.wf_iff] at h ⊢
  refine ⟨memWrite_sorted a b h.1, fun c hc => ?_⟩
  rcases mem_memWrite hc with hc | ⟨rfl, hb⟩
  · exact h.2 c hc
  · exact ⟨ha, hb⟩

/-- Consecutive bytes written inside the array keep the canonical form. -/
theorem memWriteBytes_wf {m : Memory} {a : Nat} (bs : List Byte) (h : Memory.wf m = true)
    (ha : a + bs.length ≤ Config.arrayBytes) : Memory.wf (memWriteBytes m a bs) = true := by
  induction bs generalizing m a with
  | nil => exact h
  | cons b bs ih =>
    simp only [List.length_cons] at ha
    exact ih (memWrite_wf b h (by omega)) (by omega)

/-- An address below every listed one reads 0. -/
theorem memRead_below {m : Memory} {a : Nat} (h : ∀ c ∈ m, a < c.1) : memRead m a = 0 := by
  induction m with
  | nil => rfl
  | cons d rest ih =>
    obtain ⟨x, v⟩ := d
    have hx : a < x := h (x, v) (by simp)
    simp only [memRead, if_neg (Nat.ne_of_lt hx)]
    exact ih fun c hc => h c (List.mem_cons_of_mem _ hc)

/-- A byte read after a one-byte write: the byte written at its address, and elsewhere the byte from before. -/
theorem memRead_memWrite {m : Memory} (a : Nat) (b : Byte) (x : Nat) (h : m.Pairwise (fun p q => p.1 < q.1)) :
    memRead (memWrite m a b) x = if x = a then b else memRead m x := by
  induction m with
  | nil => simp only [memWrite]; split <;> split <;> simp_all [memRead]
  | cons d rest ih =>
    obtain ⟨y, v⟩ := d
    have hy := (List.pairwise_cons.1 h).1
    have hr := (List.pairwise_cons.1 h).2
    simp only [memWrite]
    split
    · rename_i hlt
      split
      · rename_i hb
        split
        · rename_i hx
          subst hx hb
          exact memRead_below fun c hc => by
            rcases List.mem_cons.1 hc with rfl | hc
            · exact hlt
            · exact Nat.lt_trans hlt (hy c hc)
        · rfl
      · simp [memRead]
    · split
      · rename_i he
        subst he
        split
        · rename_i hb
          split
          · rename_i hx
            subst hx hb
            exact memRead_below hy
          · rename_i hx
            simp [memRead, hx]
        · simp only [memRead]; split <;> simp_all
      · rename_i hne
        simp only [memRead]
        split
        · rename_i hx
          subst hx
          rw [if_neg (fun e => hne e.symm)]
        · exact ih hr

/-- A byte read after consecutive bytes were written: inside the span the byte of its place, outside the byte from before. -/
theorem memRead_memWriteBytes {m : Memory} (a : Nat) (bs : List Byte) (x : Nat)
    (h : m.Pairwise (fun p q => p.1 < q.1)) :
    memRead (memWriteBytes m a bs) x = if a ≤ x ∧ x < a + bs.length then bs.getD (x - a) 0 else memRead m x := by
  induction bs generalizing m a with
  | nil =>
    have : ¬ (a ≤ x ∧ x < a + 0) := by omega
    simp [memWriteBytes, this]
  | cons b bs ih =>
    simp only [memWriteBytes, List.length_cons]
    rw [ih (a + 1) (memWrite_sorted a b h), memRead_memWrite a b x h]
    by_cases hx : x = a
    · subst hx; simp
    · by_cases hin : a + 1 ≤ x ∧ x < a + 1 + bs.length
      · rw [if_pos hin, if_pos (by omega)]
        obtain ⟨k, rfl⟩ : ∃ k, x = a + 1 + k := ⟨x - (a + 1), by omega⟩
        simp [show a + 1 + k - a = k + 1 by omega]
      · rw [if_neg hin, if_neg hx, if_neg (by omega)]

end Sys2Proof.Machine
end

