-- ==== Sys2Proof/Laws/Offers.lean ====
section
/-! SUPPORT. The choice at an idle comes to an end (R25, R89): a withdrawn CLAIM entry takes its place in the Outbox away, and an
entry that the sweep appends for it is of a region held, which is held no more once that entry is withdrawn too. -/

namespace Sys2Proof.Machine

/-- The regions held. -/
def State.heldCount (s : State) : Nat := (List.finRange 64).countP (fun r : Region => s.table[r].held)

/-- How many choices an entry may cost yet: its own, and one for each region held that the sweep may come to after it. -/
def State.entryCost (s : State) (e : OutEntry) : Nat := s.heldCount + if s.table[e.region].held then 1 else 2

/-- How many choices the Outbox may cost at one idle. -/
def State.offerCost (s : State) : Nat := (s.out.entries.map s.entryCost).sum

theorem State.heldCount_le (s : State) : s.heldCount ≤ 64 := by
  have := List.countP_le_length (p := fun r : Region => s.table[r].held) (l := List.finRange 64)
  simpa [State.heldCount] using this

theorem State.entryCost_le (s : State) (e : OutEntry) : s.entryCost e ≤ 66 := by
  have := s.heldCount_le
  unfold State.entryCost
  split <;> omega

theorem State.offerCost_le (s : State) : s.offerCost ≤ 66 * s.out.entries.length := by
  have h : ∀ l : List OutEntry, (l.map s.entryCost).sum ≤ 66 * l.length := by
    intro l
    induction l with
    | nil => simp
    | cons e l ih =>
      have := s.entryCost_le e
      simp only [List.map_cons, List.sum_cons, List.length_cons]
      omega
  exact h _

/-- Where `t` holds no region that `s` does not hold, it holds at most as many; and fewer where one is held no more. -/
theorem State.heldCount_mono {s t : State} (h : ∀ r : Region, t.table[r].held = true → s.table[r].held = true) :
    t.heldCount ≤ s.heldCount := List.countP_mono_left fun r _ => h r

theorem countP_lt_of_mem {α : Type} {p q : α → Bool} (h : ∀ x, q x = true → p x = true) {r : α} (hp : p r = true)
    (hq : q r = false) : ∀ l : List α, r ∈ l → l.countP q < l.countP p
  | [], hr => nomatch hr
  | a :: l, hr => by
    have hle : l.countP q ≤ l.countP p := List.countP_mono_left fun x _ => h x
    rcases List.mem_cons.1 hr with rfl | hr
    · rw [List.countP_cons_of_pos hp, List.countP_cons_of_neg (by simp [hq])]
      omega
    · have ih := countP_lt_of_mem h hp hq l hr
      cases ha : q a with
      | true =>
        rw [List.countP_cons_of_pos ha, List.countP_cons_of_pos (h a ha)]
        omega
      | false =>
        rw [List.countP_cons_of_neg (by simp [ha]), List.countP_cons]
        omega

theorem State.heldCount_lt {s t : State} (h : ∀ r : Region, t.table[r].held = true → s.table[r].held = true) {r : Region}
    (hs : s.table[r].held = true) (ht : t.table[r].held = false) : t.heldCount < s.heldCount :=
  countP_lt_of_mem (p := fun q : Region => s.table[q].held) h hs ht _ (List.mem_finRange r)

theorem State.entryCost_mono {s t : State} (h : ∀ r : Region, t.table[r].held = true → s.table[r].held = true) (e : OutEntry) :
    t.entryCost e ≤ s.entryCost e := by
  have hm := State.heldCount_mono h
  unfold State.entryCost
  cases hs : s.table[e.region].held <;> cases ht : t.table[e.region].held
  · simpa using hm
  · rw [h _ ht] at hs
    cases hs
  · have := State.heldCount_lt h hs ht
    simp
    omega
  · simpa using hm

theorem sum_entryCost_mono {s t : State} (h : ∀ r : Region, t.table[r].held = true → s.table[r].held = true)
    (l : List OutEntry) : (l.map t.entryCost).sum ≤ (l.map s.entryCost).sum := by
  induction l with
  | nil => simp
  | cons e l ih =>
    have := State.entryCost_mono h e
    simp only [List.map_cons, List.sum_cons]
    omega

/-- What the sweep's walk may do: it holds no region that was not held, and appends at most one entry, of a region held. -/
def State.walkedTo (s t : State) : Prop :=
  (∀ r : Region, t.table[r].held = true → s.table[r].held = true) ∧
  (t.out.entries = s.out.entries
    ∨ ∃ q, t.table[q].held = true ∧ t.out.entries = s.out.entries ++ [⟨q, .claim .sweep, false, .none⟩])

theorem State.dropHeld_held (s : State) (r q : Region) :
    (s.dropHeld r).table[q].held = (s.table[q].held && !decide (q = r)) := by
  unfold State.dropHeld State.mapEntry State.setEntry
  by_cases h : q = r
  · subst h
    simp
  · have : r.val ≠ q.val := fun e => h (Fin.ext e.symm)
    simp [h, Vector.getElem_set_ne, this]

theorem State.sweepAct_walks (s : State) :
    (s.sweepAct.2 = true → (∀ r : Region, s.sweepAct.1.table[r].held = true → s.table[r].held = true)
      ∧ s.sweepAct.1.out.entries = s.out.entries) ∧
    (s.sweepAct.2 = false → s.walkedTo s.sweepAct.1) := by
  have hd : ∀ (u : State) (w : Sweep) (r : Region) (e : Event), u = s →
      (∀ q : Region, (((u.setSweep w).dropHeld r).post e).table[q].held = true → s.table[q].held = true) := by
    intro u w r e hu q hq
    subst hu
    have hq' : ((u.setSweep w).dropHeld r).table[q].held = true := hq
    rw [State.dropHeld_held] at hq'
    simp only [Bool.and_eq_true] at hq'
    exact hq'.1
  unfold State.sweepAct
  dsimp only
  split
  · exact ⟨fun _ => ⟨fun r h => h, rfl⟩, fun h => nomatch h⟩
  · split
    · exact ⟨fun _ => ⟨hd s _ _ _ rfl, rfl⟩, fun h => nomatch h⟩
    · split
      · exact ⟨fun _ => ⟨hd s _ _ _ rfl, rfl⟩, fun h => nomatch h⟩
      · rename_i h _ _
        refine ⟨(fun h => nomatch h), fun _ => ⟨fun r h => h, .inr ⟨s.out.sweep.position, ?_, rfl⟩⟩⟩
        simp only [Bool.or_eq_true, Bool.not_eq_true', not_or] at h
        exact Bool.eq_true_of_not_eq_false h.1.1

theorem State.sweepFrom_walks (n : Nat) (s : State) : s.walkedTo (State.sweepFrom n s) := by
  induction n generalizing s with
  | zero => exact ⟨fun _ h => h, .inl rfl⟩
  | succ n ih =>
    unfold State.sweepFrom
    split
    · split
      · rename_i h
        obtain ⟨hh, he⟩ := s.sweepAct_walks.1 h
        obtain ⟨ih1, ih2⟩ := ih s.sweepAct.1
        refine ⟨fun r hr => hh r (ih1 r hr), ?_⟩
        rw [he] at ih2
        exact ih2
      · rename_i h
        exact s.sweepAct_walks.2 (by simpa using h)
    · exact ⟨fun _ h => h, .inl rfl⟩

theorem State.sweepWalk_walks (s : State) : s.walkedTo s.sweepWalk := by
  unfold State.sweepWalk
  split
  · exact State.sweepFrom_walks 64 s
  · exact ⟨fun _ h => h, .inl rfl⟩

/-- A CLAIM entry chosen to be withdrawn stands in the Outbox with no CLAIM entry before it that may be offered. -/
theorem State.nextOffer_withdrawn {s : State} {e : OutEntry} {source : ClaimSource} {why : LostReason}
    (h : s.nextOffer = .withdrawn e source why) :
    e.body = .claim source ∧ ∃ before after, s.out.entries = before ++ e :: after
      ∧ s.out.entries.eraseP (fun x => x.offerable && x.priority == 1) = before ++ after := by
  have hp : pickEntry s.out.entries = some e ∧ e.body = .claim source := by
    unfold State.nextOffer at h
    split at h
    · cases h
    · split at h
      · cases hk : pickEntry s.out.entries with
        | none => simp [hk] at h
        | some x =>
          simp only [hk] at h
          unfold State.offerOf at h
          split at h
          · split at h
            · cases h
              exact ⟨rfl, by assumption⟩
            · cases h
          all_goals cases h
      · cases h
  refine ⟨hp.2, ?_⟩
  have hf : s.out.entries.find? (fun x => x.offerable && x.priority == 1) = some e := by
    have hpick := hp.1
    unfold pickEntry at hpick
    simp only [List.findSome?_cons, List.findSome?_nil] at hpick
    have hone : ∀ p : Nat, s.out.entries.find? (fun x => x.offerable && x.priority == p) = some e → p = 1 := by
      intro p hfp
      have := List.find?_some hfp
      simp only [Bool.and_eq_true, beq_iff_eq] at this
      rw [← this.2]
      simp [OutEntry.priority, hp.2]
    split at hpick
    · rename_i x hx
      cases hpick
      exact hx
    · split at hpick
      · rename_i x hx
        cases hpick
        exact absurd (hone 2 hx) (by decide)
      · split at hpick
        · rename_i x hx
          cases hpick
          exact absurd (hone 3 hx) (by decide)
        · split at hpick
          · rename_i x hx
            cases hpick
            exact absurd (hone 4 hx) (by decide)
          · cases hpick
  obtain ⟨hpe, before, after, heq, hb⟩ := List.find?_eq_some_iff_append.1 hf
  refine ⟨before, after, heq, ?_⟩
  rw [heq, List.eraseP_append_right _ (fun x hx => by have := hb x hx; revert this; cases x.offerable && x.priority == 1 <;> simp), List.eraseP_cons, hpe]
  rfl

/-- A withdrawal leaves fewer choices than there were. -/
theorem State.withdraw_offerCost {s : State} {e : OutEntry} {source : ClaimSource} {why : LostReason}
    (h : s.nextOffer = .withdrawn e source why) : (s.withdraw e source why).drainEnd.offerCost < s.offerCost := by
  obtain ⟨_, before, after, heq, her⟩ := State.nextOffer_withdrawn h
  have hdrain : ∀ t : State, t.drainEnd.offerCost = t.offerCost := by
    intro t
    unfold State.drainEnd
    split <;> rfl
  have hcost : s.offerCost = ((before ++ after).map s.entryCost).sum + s.entryCost e := by
    simp only [State.offerCost, heq, List.map_append, List.map_cons, List.sum_append, List.sum_cons]
    omega
  have hpos : 0 < s.entryCost e := by unfold State.entryCost; split <;> omega
  rw [hdrain, hcost]
  cases source with
  | host =>
    have : (s.withdraw e .host why).offerCost = ((before ++ after).map s.entryCost).sum := by
      rw [← her]
      rfl
    omega
  | sweep =>
    generalize ht : s.withdraw e .sweep why = t
    obtain ⟨u, hu, hwalk⟩ : ∃ u : State, u.out.entries = before ++ after ∧ u.walkedTo t
        ∧ (∀ q : Region, u.table[q].held = (s.table[q].held && !decide (q = e.region))) := by
      refine ⟨(((s.mapOut fun o => { o with entries := o.entries.eraseP (fun x => x.offerable && x.priority == 1) }).post
        (.claimDone e.region 0 .sweep (some why))).dropHeld e.region).setSweep
          { s.out.sweep.pass e.region with outstanding := none }, her, ?_, fun q => State.dropHeld_held s e.region q⟩
      rw [← ht]
      exact State.sweepWalk_walks _
    obtain ⟨⟨hw1, hw2⟩, hdrop⟩ := hwalk
    have hmono : ∀ r : Region, t.table[r].held = true → s.table[r].held = true := by
      intro r hr
      have := hw1 r hr
      rw [hdrop] at this
      simp only [Bool.and_eq_true] at this
      exact this.1
    have hsum := sum_entryCost_mono hmono (before ++ after)
    rcases hw2 with hw2 | ⟨q, hq, hw2⟩
    · rw [State.offerCost, hw2, hu]
      omega
    · have hlast : t.entryCost ⟨q, .claim .sweep, false, .none⟩ < s.entryCost e := by
        have hr : t.table[e.region].held = false := by
          cases hc : t.table[e.region].held with
          | false => rfl
          | true =>
            have := hw1 _ hc
            rw [hdrop] at this
            simp at this
        have hm := State.heldCount_mono hmono
        unfold State.entryCost
        simp only [hq]
        cases hs : s.table[e.region].held with
        | false => simp; omega
        | true =>
          have := State.heldCount_lt hmono hs hr
          simp
          omega
      rw [State.offerCost, hw2, hu, List.map_append, List.sum_append]
      simp only [List.map_cons, List.map_nil, List.sum_cons, List.sum_nil, Nat.add_zero]
      omega

/-- More choices than the Outbox may cost change nothing. -/
theorem State.offerFrom_enough (n m : Nat) (s : State) (hn : s.offerCost < n) (hm : s.offerCost < m) :
    s.offerFrom n = s.offerFrom m := by
  induction n generalizing m s with
  | zero => omega
  | succ n ih =>
    obtain ⟨m, rfl⟩ : ∃ k, m = k + 1 := ⟨m - 1, by omega⟩
    cases h : s.nextOffer with
    | withdrawn e source why =>
      have := State.withdraw_offerCost h
      simp only [State.offerFrom, h]
      exact ih m _ (by omega) (by omega)
    | _ => simp only [State.offerFrom, h]

/-- After a withdrawal the choice is made anew (R89). -/
theorem State.offer_withdrawn {s : State} {e : OutEntry} {source : ClaimSource} {why : LostReason}
    (h : s.nextOffer = .withdrawn e source why) : s.offer = (s.withdraw e source why).drainEnd.offer := by
  have hs := s.offerCost_le
  have ht := (s.withdraw e source why).drainEnd.offerCost_le
  have hlt := State.withdraw_offerCost h
  unfold State.offer
  conv_lhs => unfold State.offerFrom
  simp only [h]
  exact State.offerFrom_enough _ _ _ (by omega) (by omega)

end Sys2Proof.Machine
end

