-- ==== Sys2Proof/Laws/Self.lean ====
section
/-! SUPPORT. The working member set holds the station's own number (section 4.4, R145, R153), through every operation. -/

namespace Sys2Proof.Machine

@[simp] theorem State.setPower_self (s : State) (x) : (s.setPower x).selfMember ↔ s.selfMember := Iff.rfl
@[simp] theorem State.setNv_self (s : State) (x) : (s.setNv x).selfMember ↔ s.selfMember := Iff.rfl
@[simp] theorem State.mapNv_self (s : State) (f) : (s.mapNv f).selfMember ↔ s.selfMember := Iff.rfl
@[simp] theorem State.setEvents_self (s : State) (x) : (s.setEvents x).selfMember ↔ s.selfMember := Iff.rfl
@[simp] theorem State.setLine_self (s : State) (x) : (s.setLine x).selfMember ↔ s.selfMember := Iff.rfl
@[simp] theorem State.mapLine_self (s : State) (f) : (s.mapLine f).selfMember ↔ s.selfMember := Iff.rfl
@[simp] theorem State.setRoster_self (s : State) (x) : (s.setRoster x).selfMember ↔ s.selfMember := Iff.rfl
@[simp] theorem State.mapRoster_self (s : State) (f) : (s.mapRoster f).selfMember ↔ s.selfMember := Iff.rfl
@[simp] theorem State.setTable_self (s : State) (x) : (s.setTable x).selfMember ↔ s.selfMember := Iff.rfl
@[simp] theorem State.setOut_self (s : State) (x) : (s.setOut x).selfMember ↔ s.selfMember := Iff.rfl
@[simp] theorem State.mapOut_self (s : State) (f) : (s.mapOut f).selfMember ↔ s.selfMember := Iff.rfl
@[simp] theorem State.setApplyQ_self (s : State) (x) : (s.setApplyQ x).selfMember ↔ s.selfMember := Iff.rfl
@[simp] theorem State.setUnsaved_self (s : State) (x) : (s.setUnsaved x).selfMember ↔ s.selfMember := Iff.rfl
@[simp] theorem State.setCatchup_self (s : State) (x) : (s.setCatchup x).selfMember ↔ s.selfMember := Iff.rfl
@[simp] theorem State.mapCatchup_self (s : State) (f) : (s.mapCatchup f).selfMember ↔ s.selfMember := Iff.rfl
@[simp] theorem State.setServing_self (s : State) (x) : (s.setServing x).selfMember ↔ s.selfMember := Iff.rfl
@[simp] theorem State.setArb_self (s : State) (x) : (s.setArb x).selfMember ↔ s.selfMember := Iff.rfl
@[simp] theorem State.setSerial_self (s : State) (x) : (s.setSerial x).selfMember ↔ s.selfMember := Iff.rfl
@[simp] theorem State.setFree_self (s : State) (x) : (s.setFree x).selfMember ↔ s.selfMember := Iff.rfl
@[simp] theorem State.setPending_self (s : State) (x) : (s.setPending x).selfMember ↔ s.selfMember := Iff.rfl
@[simp] theorem State.setEntry_self (s : State) (r : Region) (e : RegionEntry) :
    (s.setEntry r e).selfMember ↔ s.selfMember := Iff.rfl
@[simp] theorem State.mapEntry_self (s : State) (r : Region) (f : RegionEntry → RegionEntry) :
    (s.mapEntry r f).selfMember ↔ s.selfMember := Iff.rfl

/-- A change of the Station Controller that keeps number and member set. -/
@[simp] theorem State.mapCtl_self (s : State) (f : Controller → Controller) (hn : (f s.ctl).number = s.ctl.number)
    (hm : (f s.ctl).members = s.ctl.members) (h : s.selfMember) : (s.mapCtl f).selfMember := by
  obtain ⟨h1, h2⟩ := h
  refine ⟨?_, fun m g hw => ?_⟩
  · show inMap (f s.ctl).members (f s.ctl).number = true
    rw [hn, hm]; exact h1
  · show inMap m (f s.ctl).number = true
    rw [hn]; exact h2 m g hw

/-- A change of the Host Port that leaves no SETUP, or the one that stood there. -/
@[simp] theorem State.mapPort_self (s : State) (f : Port → Port)
    (hf : (f s.port).state = s.port.state ∨ ∀ m g, (f s.port).state ≠ .working (.setup m g)) (h : s.selfMember) :
    (s.mapPort f).selfMember := by
  refine ⟨h.1, fun m g hw => ?_⟩
  rcases hf with hf | hf
  · exact h.2 m g (by rw [← hf]; exact hw)
  · exact absurd hw (hf m g)


@[simp] theorem State.post_self (s : State) (e : Event) (h : State.selfMember s) : State.selfMember (State.post s e) := by
  unfold State.post; (repeat' (first | split | dsimp only)) <;> simp (maxDischargeDepth := 20) [h]
@[simp] theorem State.retain_self (s : State) (r : Region) (h : State.selfMember s) : State.selfMember (State.retain s r) := by
  unfold State.retain; (repeat' (first | split | dsimp only)) <;> simp (maxDischargeDepth := 20) [h]
@[simp] theorem State.countSerial_self (s : State) (h : State.selfMember s) : State.selfMember (State.countSerial s) := by
  unfold State.countSerial; (repeat' (first | split | dsimp only)) <;> simp (maxDischargeDepth := 20) [h]
@[simp] theorem State.appendApply_self (s : State) (r : Region) (b : ApplyBody) (h : State.selfMember s) : State.selfMember (State.appendApply s r b) := by
  unfold State.appendApply; (repeat' (first | split | dsimp only)) <;> simp (maxDischargeDepth := 20) [h]
@[simp] theorem State.takeApply_self (s : State) (r : Region) (b : ApplyBody) (h : State.selfMember s) : State.selfMember (State.takeApply s r b) := by
  unfold State.takeApply; (repeat' (first | split | dsimp only)) <;> simp (maxDischargeDepth := 20) [h]
@[simp] theorem State.answer_self (s : State) (code : Byte) (r : ResultCode) (d : List Byte) (h : s.selfMember) :
    (s.answer code r d).selfMember := State.mapPort_self s _ (Or.inr fun m g hw => by cases hw) h
theorem State.work_self (s : State) (w : Work) (hw : ∀ m g, w = .setup m g → inMap m s.own = true) (h : s.selfMember) :
    (s.work w).selfMember := ⟨h.1, fun m g hp => hw m g (by cases hp; rfl)⟩
@[simp] theorem State.workRead_self (s : State) (w : ReadWork) (h : s.selfMember) : (s.work (.read w)).selfMember :=
  State.work_self s _ (fun _ _ e => by cases e) h
@[simp] theorem State.workWrite_self (s : State) (w : WriteWork) (h : s.selfMember) : (s.work (.write w)).selfMember :=
  State.work_self s _ (fun _ _ e => by cases e) h
@[simp] theorem State.workFormat_self (s : State) (r : Region) (k : Chunk) (h : s.selfMember) :
    (s.work (.format r k)).selfMember := State.work_self s _ (fun _ _ e => by cases e) h
@[simp] theorem State.setEntries_self (s : State) (es : List OutEntry) (h : State.selfMember s) : State.selfMember (State.setEntries s es) := by
  unfold State.setEntries; (repeat' (first | split | dsimp only)) <;> simp (maxDischargeDepth := 20) [h]
@[simp] theorem State.checkFence_self (s : State) (h : State.selfMember s) : State.selfMember (State.checkFence s) := by
  unfold State.checkFence; (repeat' (first | split | dsimp only)) <;> simp (maxDischargeDepth := 20) [h]
@[simp] theorem State.departed_self (s : State) (cut : Bool) (e : OutEntry) (h : s.selfMember) :
    (s.departed cut e).selfMember := by
  unfold State.departed
  rw [State.mapOut_self]
  exact State.mapCtl_self s _ (by unfold Controller.countCut; split <;> rfl) (by unfold Controller.countCut; split <;> rfl) h
@[simp] theorem State.departAll_self (s : State) (cut : Bool) (gone : List OutEntry) (h : State.selfMember s) : State.selfMember (State.departAll s cut gone) := by
  unfold State.departAll
  exact foldl_preserves (fun t : State => State.selfMember t) _ (fun t x ht => by simp [ht]) _ _ (by simp (maxDischargeDepth := 20) [h])
@[simp] theorem State.discardEntries_self (s : State) (p : OutEntry → Bool) (cut : Bool) (h : State.selfMember s) : State.selfMember (State.discardEntries s p cut) := by
  unfold State.discardEntries; (repeat' (first | split | dsimp only)) <;> simp (maxDischargeDepth := 20) [h]
@[simp] theorem State.removeSending_self (s : State) (h : State.selfMember s) : State.selfMember (State.removeSending s) := by
  unfold State.removeSending; (repeat' (first | split | dsimp only)) <;> simp (maxDischargeDepth := 20) [h]
@[simp] theorem State.returnSending_self (s : State) (h : State.selfMember s) : State.selfMember (State.returnSending s) := by
  unfold State.returnSending; (repeat' (first | split | dsimp only)) <;> simp (maxDischargeDepth := 20) [h]
@[simp] theorem State.releaseHold_self (s : State) (h : State.selfMember s) : State.selfMember (State.releaseHold s) := by
  unfold State.releaseHold; (repeat' (first | split | dsimp only)) <;> simp (maxDischargeDepth := 20) [h]
@[simp] theorem State.putServing_self (s : State) (v : ServingRecord) (h : State.selfMember s) : State.selfMember (State.putServing s v) := by
  unfold State.putServing; (repeat' (first | split | dsimp only)) <;> simp (maxDischargeDepth := 20) [h]
@[simp] theorem State.dropRead_self (s : State) (r : Region) (h : State.selfMember s) : State.selfMember (State.dropRead s r) := by
  unfold State.dropRead; (repeat' (first | split | dsimp only)) <;> simp (maxDischargeDepth := 20) [h]
@[simp] theorem State.dropServing_self (s : State) (r : Region) (h : State.selfMember s) : State.selfMember (State.dropServing s r) := by
  unfold State.dropServing; (repeat' (first | split | dsimp only)) <;> simp (maxDischargeDepth := 20) [h]
@[simp] theorem State.endServing_self (s : State) (r : Region) (h : State.selfMember s) : State.selfMember (State.endServing s r) := by
  unfold State.endServing; (repeat' (first | split | dsimp only)) <;> simp (maxDischargeDepth := 20) [h]
@[simp] theorem State.putTargets_self (s : State) (v : ServingRecord) (ts : List Target) (h : State.selfMember s) : State.selfMember (State.putTargets s v ts) := by
  unfold State.putTargets; (repeat' (first | split | dsimp only)) <;> simp (maxDischargeDepth := 20) [h]
@[simp] theorem State.dropTarget_self (s : State) (r : Region) (n : Station) (h : State.selfMember s) : State.selfMember (State.dropTarget s r n) := by
  unfold State.dropTarget; (repeat' (first | split | dsimp only)) <;> simp (maxDischargeDepth := 20) [h]
@[simp] theorem State.dropTargets_self (s : State) (n : Station) (h : State.selfMember s) : State.selfMember (State.dropTargets s n) := by
  unfold State.dropTargets
  exact foldl_preserves (fun t : State => State.selfMember t) _ (fun t x ht => by simp [ht]) _ _ (by simp (maxDischargeDepth := 20) [h])
@[simp] theorem State.endAllServing_self (s : State) (h : State.selfMember s) : State.selfMember (State.endAllServing s) := by
  unfold State.endAllServing
  exact foldl_preserves (fun t : State => State.selfMember t) _ (fun t x ht => by simp [ht]) _ _ (by simp (maxDischargeDepth := 20) [h])
@[simp] theorem State.requestRead_self (s : State) (r : Region) (h : State.selfMember s) : State.selfMember (State.requestRead s r) := by
  unfold State.requestRead; (repeat' (first | split | dsimp only)) <;> simp (maxDischargeDepth := 20) [h]
@[simp] theorem State.requestReads_self (s : State) (h : State.selfMember s) : State.selfMember (State.requestReads s) := by
  unfold State.requestReads
  exact foldl_preserves (fun t : State => State.selfMember t) _ (fun t x ht => by simp [ht]) _ _ (by simp (maxDischargeDepth := 20) [h])
@[simp] theorem State.serve_self (s : State) (r : Region) (q : Station) (h : State.selfMember s) : State.selfMember (State.serve s r q) := by
  unfold State.serve; (repeat' (first | split | dsimp only)) <;> simp (maxDischargeDepth := 20) [h]
@[simp] theorem State.restartServing_self (s : State) (r : Region) (h : State.selfMember s) : State.selfMember (State.restartServing s r) := by
  unfold State.restartServing; (repeat' (first | split | dsimp only)) <;> simp (maxDischargeDepth := 20) [h]
@[simp] theorem State.abandonWrite_self (s : State) (r : Region) (h : State.selfMember s) : State.selfMember (State.abandonWrite s r) := by
  unfold State.abandonWrite; (repeat' (first | split | dsimp only)) <;> simp (maxDischargeDepth := 20) [h]
@[simp] theorem State.setSweep_self (s : State) (w : Sweep) (h : State.selfMember s) : State.selfMember (State.setSweep s w) := by
  unfold State.setSweep; (repeat' (first | split | dsimp only)) <;> simp (maxDischargeDepth := 20) [h]
@[simp] theorem State.dropHeld_self (s : State) (r : Region) (h : State.selfMember s) : State.selfMember (State.dropHeld s r) := by
  unfold State.dropHeld; (repeat' (first | split | dsimp only)) <;> simp (maxDischargeDepth := 20) [h]
@[simp] theorem State.appendEntry_self (s : State) (r : Region) (b : EntryBody) (h : State.selfMember s) : State.selfMember (State.appendEntry s r b) := by
  unfold State.appendEntry; (repeat' (first | split | dsimp only)) <;> simp (maxDischargeDepth := 20) [h]
@[simp] theorem State.sweepAct_self (s : State) (h : State.selfMember s) : State.selfMember (State.sweepAct s).1 := by
  unfold State.sweepAct; (repeat' (first | split | dsimp only)) <;> simp (maxDischargeDepth := 20) [h]
@[simp] theorem State.sweepFrom_self (n : Nat) (s : State) (h : State.selfMember s) : State.selfMember (State.sweepFrom n s) := by
  induction n generalizing s with
  | zero => simpa [State.sweepFrom] using h
  | succ n ih => unfold State.sweepFrom; (repeat' split) <;> simp (maxDischargeDepth := 20) [ih, h]
@[simp] theorem State.sweepWalk_self (s : State) (h : State.selfMember s) : State.selfMember (State.sweepWalk s) := by
  unfold State.sweepWalk; (repeat' (first | split | dsimp only)) <;> simp (maxDischargeDepth := 20) [h]
@[simp] theorem State.listRegion_self (s : State) (r : Region) (h : State.selfMember s) : State.selfMember (State.listRegion s r) := by
  unfold State.listRegion; (repeat' (first | split | dsimp only)) <;> simp (maxDischargeDepth := 20) [h]
@[simp] theorem State.dropPull_self (s : State) (r : Region) (h : State.selfMember s) : State.selfMember (State.dropPull s r) := by
  unfold State.dropPull; (repeat' (first | split | dsimp only)) <;> simp (maxDischargeDepth := 20) [h]
@[simp] theorem State.postStale_self (s : State) (r : Region) (h : State.selfMember s) : State.selfMember (State.postStale s r) := by
  unfold State.postStale; (repeat' (first | split | dsimp only)) <;> simp (maxDischargeDepth := 20) [h]
@[simp] theorem State.parkRegion_self (s : State) (r : Region) (h : State.selfMember s) : State.selfMember (State.parkRegion s r) := by
  unfold State.parkRegion; (repeat' (first | split | dsimp only)) <;> simp (maxDischargeDepth := 20) [h]
@[simp] theorem State.afterClosure_self (s : State) (r : Region) (park : Bool) (h : State.selfMember s) : State.selfMember (State.afterClosure s r park) := by
  unfold State.afterClosure; (repeat' (first | split | dsimp only)) <;> simp (maxDischargeDepth := 20) [h]
@[simp] theorem State.closePull_self (s : State) (r : Region) (park : Bool) (h : State.selfMember s) : State.selfMember (State.closePull s r park) := by
  unfold State.closePull; (repeat' (first | split | dsimp only)) <;> simp (maxDischargeDepth := 20) [h]
@[simp] theorem State.closeAllPulls_self (s : State) (h : State.selfMember s) : State.selfMember (State.closeAllPulls s) := by
  unfold State.closeAllPulls
  exact foldl_preserves (fun t : State => State.selfMember t) _ (fun t x ht => by simp [ht]) _ _ (by simp (maxDischargeDepth := 20) [h])
@[simp] theorem State.queuePull_self (s : State) (p : PullRecord) (h : State.selfMember s) : State.selfMember (State.queuePull s p) := by
  unfold State.queuePull; (repeat' (first | split | dsimp only)) <;> simp (maxDischargeDepth := 20) [h]
@[simp] theorem State.queuePulls_self (s : State) (h : State.selfMember s) : State.selfMember (State.queuePulls s) := by
  unfold State.queuePulls
  exact foldl_preserves (fun t : State => State.selfMember t) _ (fun t x ht => by simp [ht]) _ _ (by simp (maxDischargeDepth := 20) [h])
@[simp] theorem State.addPull_self (s : State) (r : Region) (n : Station) (h : State.selfMember s) : State.selfMember (State.addPull s r n) := by
  unfold State.addPull; (repeat' (first | split | dsimp only)) <;> simp (maxDischargeDepth := 20) [h]
@[simp] theorem State.openPull_self (s : State) (r : Region) (n : Station) (kept : Cause) (h : State.selfMember s) : State.selfMember (State.openPull s r n kept) := by
  unfold State.openPull; (repeat' (first | split | dsimp only)) <;> simp (maxDischargeDepth := 20) [h]
@[simp] theorem State.openPullsFrom_self (n : Nat) (s : State) (h : State.selfMember s) : State.selfMember (State.openPullsFrom n s) := by
  induction n generalizing s with
  | zero => simpa [State.openPullsFrom] using h
  | succ n ih =>
    rcases h' : s.nextPull with _ | p
    · simpa [State.openPullsFrom_none n s h'] using h
    · rw [State.openPullsFrom_some n s p h']; exact ih _ (by simp [h])
@[simp] theorem State.openPulls_self (s : State) (h : State.selfMember s) : State.selfMember (State.openPulls s) := by
  unfold State.openPulls; (repeat' (first | split | dsimp only)) <;> simp (maxDischargeDepth := 20) [h]
@[simp] theorem State.reportMark_self (s : State) (r : Region) (c : Cause) (h : State.selfMember s) : State.selfMember (State.reportMark s r c) := by
  unfold State.reportMark; (repeat' (first | split | dsimp only)) <;> simp (maxDischargeDepth := 20) [h]
@[simp] theorem State.unpark_self (s : State) (r : Region) (h : State.selfMember s) : State.selfMember (State.unpark s r) := by
  unfold State.unpark; (repeat' (first | split | dsimp only)) <;> simp (maxDischargeDepth := 20) [h]
@[simp] theorem State.markStale_self (s : State) (r : Region) (c : Cause) (h : State.selfMember s) : State.selfMember (State.markStale s r c) := by
  unfold State.markStale; (repeat' (first | split | dsimp only)) <;> simp (maxDischargeDepth := 20) [h]
@[simp] theorem State.dropFront_self (s : State) (r : Region) (h : State.selfMember s) : State.selfMember (State.dropFront s r) := by
  unfold State.dropFront; (repeat' (first | split | dsimp only)) <;> simp (maxDischargeDepth := 20) [h]
@[simp] theorem State.surrender_self (s : State) (r : Region) (h : State.selfMember s) : State.selfMember (State.surrender s r) := by
  unfold State.surrender; (repeat' (first | split | dsimp only)) <;> simp (maxDischargeDepth := 20) [h]
@[simp] theorem State.assume_self (s : State) (r : Region) (h : State.selfMember s) : State.selfMember (State.assume s r) := by
  unfold State.assume; (repeat' (first | split | dsimp only)) <;> simp (maxDischargeDepth := 20) [h]
@[simp] theorem State.partOld_self (s : State) (r : Region) (self : Bool) (h : State.selfMember s) : State.selfMember (State.partOld s r self) := by
  unfold State.partOld; (repeat' (first | split | dsimp only)) <;> simp (maxDischargeDepth := 20) [h]
@[simp] theorem State.partNew_self (s : State) (r : Region) (self : Bool) (h : State.selfMember s) : State.selfMember (State.partNew s r self) := by
  unfold State.partNew; (repeat' (first | split | dsimp only)) <;> simp (maxDischargeDepth := 20) [h]
@[simp] theorem State.changeOwner_self (s : State) (r : Region) (o : Option Owner) (h : State.selfMember s) : State.selfMember (State.changeOwner s r o) := by
  unfold State.changeOwner; (repeat' (first | split | dsimp only)) <;> simp (maxDischargeDepth := 20) [h]
@[simp] theorem State.setState_self (s : State) (st : StationState) (h : State.selfMember s) : State.selfMember (State.setState s st) := by
  unfold State.setState; (repeat' (first | split | dsimp only)) <;> simp (maxDischargeDepth := 20) [h]
@[simp] theorem State.quorumCheck_self (s : State) (h : State.selfMember s) : State.selfMember (State.quorumCheck s) := by
  unfold State.quorumCheck; (repeat' (first | split | dsimp only)) <;> simp (maxDischargeDepth := 20) [h]
@[simp] theorem State.mapRosterEntry_self (s : State) (n : Station) (f : RosterEntry → RosterEntry) (h : State.selfMember s) : State.selfMember (State.mapRosterEntry s n f) := by
  unfold State.mapRosterEntry; (repeat' (first | split | dsimp only)) <;> simp (maxDischargeDepth := 20) [h]
@[simp] theorem State.targetsFollow_self (s : State) (n : Station) (st : Presence) (h : State.selfMember s) : State.selfMember (State.targetsFollow s n st) := by
  unfold State.targetsFollow; (repeat' (first | split | dsimp only)) <;> simp (maxDischargeDepth := 20) [h]
@[simp] theorem State.differsFollows_self (s : State) (n : Station) (st : Presence) (h : State.selfMember s) : State.selfMember (State.differsFollows s n st) := by
  unfold State.differsFollows; (repeat' (first | split | dsimp only)) <;> simp (maxDischargeDepth := 20) [h]
@[simp] theorem State.statusChange_self (s : State) (n : Station) (st : Presence) (h : State.selfMember s) : State.selfMember (State.statusChange s n st) := by
  unfold State.statusChange; (repeat' (first | split | dsimp only)) <;> simp (maxDischargeDepth := 20) [h]
@[simp] theorem State.clearRoster_self (s : State) (h : State.selfMember s) : State.selfMember (State.clearRoster s) := by
  unfold State.clearRoster; (repeat' (first | split | dsimp only)) <;> simp (maxDischargeDepth := 20) [h]
@[simp] theorem State.followFrame_self (s : State) (f : Frame) (h : State.selfMember s) : State.selfMember (State.followFrame s f) := by
  unfold State.followFrame; (repeat' (first | split | dsimp only)) <;> simp (maxDischargeDepth := 20) [h]
@[simp] theorem State.checkMembers_self (s : State) (f : Frame) (h : State.selfMember s) : State.selfMember (State.checkMembers s f) := by
  unfold State.checkMembers; (repeat' (first | split | dsimp only)) <;> simp (maxDischargeDepth := 20) [h]
@[simp] theorem State.rosterHandoff_self (s : State) (f : Frame) (h : State.selfMember s) : State.selfMember (State.rosterHandoff s f) := by
  unfold State.rosterHandoff; (repeat' (first | split | dsimp only)) <;> simp (maxDischargeDepth := 20) [h]
@[simp] theorem State.learnOwner_self (s : State) (r : Region) (o : Station) (e : Epoch) (h : State.selfMember s) : State.selfMember (State.learnOwner s r o e) := by
  unfold State.learnOwner; (repeat' (first | split | dsimp only)) <;> simp (maxDischargeDepth := 20) [h]
@[simp] theorem State.addFront_self (s : State) (r : Region) (h : State.selfMember s) : State.selfMember (State.addFront s r) := by
  unfold State.addFront; (repeat' (first | split | dsimp only)) <;> simp (maxDischargeDepth := 20) [h]
@[simp] theorem State.loseConflict_self (s : State) (r : Region) (o : Station) (stamp : Stamp) (h : State.selfMember s) : State.selfMember (State.loseConflict s r o stamp) := by
  unfold State.loseConflict; (repeat' (first | split | dsimp only)) <;> simp (maxDischargeDepth := 20) [h]
@[simp] theorem State.resolveConflict_self (s : State) (r : Region) (o : Station) (stamp : Stamp) (h : State.selfMember s) : State.selfMember (State.resolveConflict s r o stamp) := by
  unfold State.resolveConflict; (repeat' (first | split | dsimp only)) <;> simp (maxDischargeDepth := 20) [h]
@[simp] theorem State.claimCopy_self (s : State) (r : Region) (stamp : Stamp) (h : State.selfMember s) : State.selfMember (State.claimCopy s r stamp) := by
  unfold State.claimCopy; (repeat' (first | split | dsimp only)) <;> simp (maxDischargeDepth := 20) [h]
@[simp] theorem State.yielded_self (s : State) (r : Region) (former : Bool) (h : State.selfMember s) : State.selfMember (State.yielded s r former) := by
  unfold State.yielded; (repeat' (first | split | dsimp only)) <;> simp (maxDischargeDepth := 20) [h]
@[simp] theorem State.claimOwner_self (s : State) (c : Station) (r : Region) (stamp : Stamp) (h : State.selfMember s) : State.selfMember (State.claimOwner s c r stamp) := by
  unfold State.claimOwner; (repeat' (first | split | dsimp only)) <;> simp (maxDischargeDepth := 20) [h]
@[simp] theorem State.applyClaim_self (s : State) (c : Station) (r : Region) (stamp : Stamp) (h : State.selfMember s) : State.selfMember (State.applyClaim s c r stamp) := by
  unfold State.applyClaim; (repeat' (first | split | dsimp only)) <;> simp (maxDischargeDepth := 20) [h]
@[simp] theorem State.postStales_self (s : State) (rs : List Region) (h : State.selfMember s) : State.selfMember (State.postStales s rs) := by
  unfold State.postStales
  exact foldl_preserves (fun t : State => State.selfMember t) _ (fun t x ht => by simp [ht]) _ _ (by simp (maxDischargeDepth := 20) [h])
@[simp] theorem State.postIsolation_self (s : State) (h : State.selfMember s) : State.selfMember (State.postIsolation s) := by
  unfold State.postIsolation; (repeat' (first | split | dsimp only)) <;> simp (maxDischargeDepth := 20) [h]
@[simp] theorem State.wakeUp_self (s : State) (coincidence : Option Region) (h : State.selfMember s) : State.selfMember (State.wakeUp s coincidence) := by
  unfold State.wakeUp; (repeat' (first | split | dsimp only)) <;> simp (maxDischargeDepth := 20) [h]
@[simp] theorem State.endVote_self (s : State) (r : Region) (h : State.selfMember s) : State.selfMember (State.endVote s r) := by
  unfold State.endVote; (repeat' (first | split | dsimp only)) <;> simp (maxDischargeDepth := 20) [h]
@[simp] theorem State.dropFrame_self (s : State) (h : State.selfMember s) : State.selfMember (State.dropFrame s) := by
  unfold State.dropFrame; (repeat' (first | split | dsimp only)) <;> simp (maxDischargeDepth := 20) [h]
@[simp] theorem State.lineOff_self (s : State) (h : State.selfMember s) : State.selfMember (State.lineOff s) := by
  unfold State.lineOff; (repeat' (first | split | dsimp only)) <;> simp (maxDischargeDepth := 20) [h]
@[simp] theorem State.disown_self (s : State) (r : Region) (h : State.selfMember s) : State.selfMember (State.disown s r) := by
  unfold State.disown; (repeat' (first | split | dsimp only)) <;> simp (maxDischargeDepth := 20) [h]
@[simp] theorem State.haltRegion_self (s : State) (r : Region) (h : State.selfMember s) : State.selfMember (State.haltRegion s r) := by
  unfold State.haltRegion; (repeat' (first | split | dsimp only)) <;> simp (maxDischargeDepth := 20) [h]
@[simp] theorem State.haltApply_self (s : State) (h : State.selfMember s) : State.selfMember (State.haltApply s) := by
  unfold State.haltApply
  exact foldl_preserves (fun t : State => State.selfMember t) _ (fun t x ht => by simp [ht]) _ _ (by simp (maxDischargeDepth := 20) [h])
@[simp] theorem State.stopTimers_self (s : State) (h : State.selfMember s) : State.selfMember (State.stopTimers s) := by
  unfold State.stopTimers; (repeat' (first | split | dsimp only)) <;> simp (maxDischargeDepth := 20) [h]
@[simp] theorem State.clearOutbox_self (s : State) (h : State.selfMember s) : State.selfMember (State.clearOutbox s) := by
  unfold State.clearOutbox; (repeat' (first | split | dsimp only)) <;> simp (maxDischargeDepth := 20) [h]
@[simp] theorem State.halt_self (s : State) (c : HaltCause) (h : State.selfMember s) : State.selfMember (State.halt s c) := by
  unfold State.halt; (repeat' (first | split | dsimp only)) <;> simp (maxDischargeDepth := 20) [h]
@[simp] theorem State.forgetOwners_self (s : State) (h : State.selfMember s) : State.selfMember (State.forgetOwners s) := by
  unfold State.forgetOwners; (repeat' (first | split | dsimp only)) <;> simp (maxDischargeDepth := 20) [h]
@[simp] theorem State.goOffline_self (s : State) (h : State.selfMember s) : State.selfMember (State.goOffline s) := by
  unfold State.goOffline; (repeat' (first | split | dsimp only)) <;> simp (maxDischargeDepth := 20) [h]
@[simp] theorem State.drainEnd_self (s : State) (h : State.selfMember s) : State.selfMember (State.drainEnd s) := by
  unfold State.drainEnd; (repeat' (first | split | dsimp only)) <;> simp (maxDischargeDepth := 20) [h]
@[simp] theorem State.finalEnd_self (s : State) (h : State.selfMember s) : State.selfMember (State.finalEnd s) := by
  unfold State.finalEnd; (repeat' (first | split | dsimp only)) <;> simp (maxDischargeDepth := 20) [h]
@[simp] theorem State.setIntent_self (s : State) (i : Option Intent) (h : State.selfMember s) : State.selfMember (State.setIntent s i) := by
  unfold State.setIntent; (repeat' (first | split | dsimp only)) <;> simp (maxDischargeDepth := 20) [h]
@[simp] theorem State.grantHost_self (s : State) (h : State.selfMember s) : State.selfMember (State.grantHost s) := by
  unfold State.grantHost; (repeat' (first | split | dsimp only)) <;> simp (maxDischargeDepth := 20) [h]
@[simp] theorem State.grantHead_self (s : State) (h : State.selfMember s) : State.selfMember (State.grantHead s) := by
  unfold State.grantHead; (repeat' (first | split | dsimp only)) <;> simp (maxDischargeDepth := 20) [h]
@[simp] theorem State.grantImage_self (s : State) (v : ServingRecord) (h : State.selfMember s) : State.selfMember (State.grantImage s v) := by
  unfold State.grantImage; (repeat' (first | split | dsimp only)) <;> simp (maxDischargeDepth := 20) [h]
@[simp] theorem State.arbitrate_self (s : State) (h : State.selfMember s) : State.selfMember (State.arbitrate s) := by
  unfold State.arbitrate; (repeat' (first | split | dsimp only)) <;> simp (maxDischargeDepth := 20) [h]
@[simp] theorem State.resume_self (s : State) (h : State.selfMember s) : State.selfMember (State.resume s) := by
  unfold State.resume; (repeat' (first | split | dsimp only)) <;> simp (maxDischargeDepth := 20) [h]
@[simp] theorem State.settle_self (s : State) (h : State.selfMember s) : State.selfMember (State.settle s) := by
  unfold State.settle; (repeat' (first | split | dsimp only)) <;> simp (maxDischargeDepth := 20) [h]
@[simp] theorem State.afterAttempt_self (s : State) (h : State.selfMember s) : State.selfMember (State.afterAttempt s) := by
  unfold State.afterAttempt; (repeat' (first | split | dsimp only)) <;> simp (maxDischargeDepth := 20) [h]
@[simp] theorem State.refusePut_self (s : State) (h : State.selfMember s) : State.selfMember (State.refusePut s) := by
  unfold State.refusePut; (repeat' (first | split | dsimp only)) <;> simp (maxDischargeDepth := 20) [h]
@[simp] theorem State.undriven_self (s : State) (h : State.selfMember s) : State.selfMember (State.undriven s) := by
  unfold State.undriven; (repeat' (first | split | dsimp only)) <;> simp (maxDischargeDepth := 20) [h]
@[simp] theorem State.takeBits_self (s : State) (bits : Nat) (h : s.selfMember) : (s.takeBits bits).selfMember := by
  unfold State.takeBits
  split
  · exact State.mapPort_self s _ (Or.inr fun m g hw => by dsimp only at hw; split at hw <;> cases hw) h
  all_goals exact State.mapPort_self s _ (Or.inl rfl) h
@[simp] theorem State.pollBit_self (s : State) (h : s.selfMember) : s.pollBit.selfMember := State.mapPort_self s _ (Or.inl rfl) h
@[simp] theorem State.pollBits_self (n : Nat) (s : State) (h : State.selfMember s) : State.selfMember (State.pollBits n s) := by
  induction n generalizing s with
  | zero => simpa [State.pollBits] using h
  | succ n ih => unfold State.pollBits; exact ih _ (by simp [h])
@[simp] theorem State.pollRun_self (s : State) (run : PollRun) (h : s.selfMember) : (s.pollRun run).selfMember := by
  unfold State.pollRun
  split
  · exact State.mapPort_self s _ (Or.inl rfl) h
  · exact State.mapPort_self _ _ (Or.inl (Port.endRun_state _ _))
      (State.pollBits_self _ _ (State.mapPort_self s _ (Or.inl (Port.beginPoll_state _ _)) h))
@[simp] theorem State.startRead_self (s : State) (r : Region) (offset length : Nat) (h : State.selfMember s) : State.selfMember (State.startRead s r offset length) := by
  unfold State.startRead; (repeat' (first | split | dsimp only)) <;> simp (maxDischargeDepth := 20) [h]
@[simp] theorem State.takeRoom_self (s : State) (r : Region) (h : State.selfMember s) : State.selfMember (State.takeRoom s r) := by
  unfold State.takeRoom; (repeat' (first | split | dsimp only)) <;> simp (maxDischargeDepth := 20) [h]
@[simp] theorem State.startClaim_self (s : State) (r : Region) (guardPin : Bool) (h : State.selfMember s) : State.selfMember (State.startClaim s r guardPin) := by
  unfold State.startClaim; (repeat' (first | split | dsimp only)) <;> simp (maxDischargeDepth := 20) [h]
@[simp] theorem State.setYield_self (s : State) (code : Byte) (r : Region) (yes : Bool) (h : State.selfMember s) : State.selfMember (State.setYield s code r yes) := by
  unfold State.setYield; (repeat' (first | split | dsimp only)) <;> simp (maxDischargeDepth := 20) [h]
@[simp] theorem State.openFence_self (s : State) (h : State.selfMember s) : State.selfMember (State.openFence s) := by
  unfold State.openFence; (repeat' (first | split | dsimp only)) <;> simp (maxDischargeDepth := 20) [h]
@[simp] theorem State.formatClear_self (s : State) (h : State.selfMember s) : State.selfMember (State.formatClear s) := by
  unfold State.formatClear; (repeat' (first | split | dsimp only)) <;> simp (maxDischargeDepth := 20) [h]
@[simp] theorem State.formatIntent_self (s : State) (h : State.selfMember s) : State.selfMember (State.formatIntent s) := by
  unfold State.formatIntent; (repeat' (first | split | dsimp only)) <;> simp (maxDischargeDepth := 20) [h]
@[simp] theorem State.startListening_self (s : State) (h : State.selfMember s) : State.selfMember (State.startListening s) := by
  unfold State.startListening; (repeat' (first | split | dsimp only)) <;> simp (maxDischargeDepth := 20) [h]
@[simp] theorem State.startLeaving_self (s : State) (h : State.selfMember s) : State.selfMember (State.startLeaving s) := by
  unfold State.startLeaving; (repeat' (first | split | dsimp only)) <;> simp (maxDischargeDepth := 20) [h]
@[simp] theorem State.clearWorking_self (s : State) (p : Power) (h : s.selfMember) : (s.clearWorking p).selfMember :=
  ⟨h.1, fun m g hw => by cases hw⟩
/-- A map holds a position added to it. -/
@[simp] theorem inMap_addBit {n : Nat} (m : BitVec n) (i : Fin n) : inMap (addBit m i) i = true := by
  simp [inMap, addBit]
@[simp] theorem State.recover_self (s : State) (c : ResetCause) (x : Straps) : (s.recover c x).selfMember :=
  ⟨inMap_addBit _ _, fun m g hw => by cases hw⟩
@[simp] theorem State.finishOp_self (s : State) (h : State.selfMember s) : State.selfMember (State.finishOp s) := by
  unfold State.finishOp; (repeat' (first | split | dsimp only)) <;> simp (maxDischargeDepth := 20) [h]
@[simp] theorem State.endOp_self (s : State) (h : State.selfMember s) : State.selfMember (State.endOp s) := by
  unfold State.endOp; (repeat' (first | split | dsimp only)) <;> simp (maxDischargeDepth := 20) [h]
@[simp] theorem State.writeArray_self (s : State) (r : Region) (k : Nat) (data : List Byte) (h : State.selfMember s) : State.selfMember (State.writeArray s r k data) := by
  unfold State.writeArray; (repeat' (first | split | dsimp only)) <;> simp (maxDischargeDepth := 20) [h]
theorem State.setupWritten_self (s : State) (m : StationMap) (g : RegionMap) (hm : inMap m s.own = true) :
    (s.setupWritten m g).selfMember := ⟨hm, fun m g hw => by cases hw⟩
@[simp] theorem State.formatRegionDone_self (s : State) (r : Region) (h : State.selfMember s) : State.selfMember (State.formatRegionDone s r) := by
  unfold State.formatRegionDone; (repeat' (first | split | dsimp only)) <;> simp (maxDischargeDepth := 20) [h]
@[simp] theorem State.formatNext_self (s : State) (r : Region) (k : Chunk) (h : State.selfMember s) : State.selfMember (State.formatNext s r k) := by
  unfold State.formatNext; (repeat' (first | split | dsimp only)) <;> simp (maxDischargeDepth := 20) [h]
@[simp] theorem State.formatStep_self (s : State) (r : Region) (k : Chunk) (h : State.selfMember s) : State.selfMember (State.formatStep s r k) := by
  unfold State.formatStep; (repeat' (first | split | dsimp only)) <;> simp (maxDischargeDepth := 20) [h]
@[simp] theorem State.readPiece_self (s : State) (w : ReadWork) (h : State.selfMember s) : State.selfMember (State.readPiece s w) := by
  unfold State.readPiece; (repeat' (first | split | dsimp only)) <;> simp (maxDischargeDepth := 20) [h]
@[simp] theorem State.queueWrite_self (s : State) (w : WriteWork) (e : RegionEntry) (h : State.selfMember s) : State.selfMember (State.queueWrite s w e) := by
  unfold State.queueWrite; (repeat' (first | split | dsimp only)) <;> simp (maxDischargeDepth := 20) [h]
@[simp] theorem State.ownerWrote_self (s : State) (w : WriteWork) (h : State.selfMember s) : State.selfMember (State.ownerWrote s w) := by
  unfold State.ownerWrote; (repeat' (first | split | dsimp only)) <;> simp (maxDischargeDepth := 20) [h]
@[simp] theorem State.concludeWrite_self (s : State) (w : WriteWork) (h : State.selfMember s) : State.selfMember (State.concludeWrite s w) := by
  unfold State.concludeWrite; (repeat' (first | split | dsimp only)) <;> simp (maxDischargeDepth := 20) [h]
@[simp] theorem State.writeDone_self (s : State) (w : WriteWork) (h : State.selfMember s) : State.selfMember (State.writeDone s w) := by
  unfold State.writeDone; (repeat' (first | split | dsimp only)) <;> simp (maxDischargeDepth := 20) [h]
@[simp] theorem State.putPull_self (s : State) (p : PullRecord) (h : State.selfMember s) : State.selfMember (State.putPull s p) := by
  unfold State.putPull; (repeat' (first | split | dsimp only)) <;> simp (maxDischargeDepth := 20) [h]
@[simp] theorem State.completePull_self (s : State) (p : PullRecord) (collecting : Stamp) (h : State.selfMember s) : State.selfMember (State.completePull s p collecting) := by
  unfold State.completePull; (repeat' (first | split | dsimp only)) <;> simp (maxDischargeDepth := 20) [h]
@[simp] theorem State.chunkWritten_self (s : State) (k : Chunk) (stamp : Stamp) (pull : Nat) (h : State.selfMember s) : State.selfMember (State.chunkWritten s k stamp pull) := by
  unfold State.chunkWritten; (repeat' (first | split | dsimp only)) <;> simp (maxDischargeDepth := 20) [h]
@[simp] theorem State.chunkWrittenInReset_self (s : State) (k : Chunk) (stamp : Stamp) (pull : Nat) (h : State.selfMember s) : State.selfMember (State.chunkWrittenInReset s k stamp pull) := by
  unfold State.chunkWrittenInReset; (repeat' (first | split | dsimp only)) <;> simp (maxDischargeDepth := 20) [h]
@[simp] theorem State.applied_self (s : State) (b : ApplyBody) (h : State.selfMember s) : State.selfMember (State.applied s b) := by
  unfold State.applied; (repeat' (first | split | dsimp only)) <;> simp (maxDischargeDepth := 20) [h]
@[simp] theorem State.applyDone_self (s : State) (e : ApplyEntry) (rest : List ApplyEntry) (h : State.selfMember s) : State.selfMember (State.applyDone s e rest) := by
  unfold State.applyDone; (repeat' (first | split | dsimp only)) <;> simp (maxDischargeDepth := 20) [h]
@[simp] theorem State.chunkRead_self (s : State) (r : Region) (k : Chunk) (stamp : Stamp) (live : Bool) (h : State.selfMember s) : State.selfMember (State.chunkRead s r k stamp live) := by
  unfold State.chunkRead; (repeat' (first | split | dsimp only)) <;> simp (maxDischargeDepth := 20) [h]
@[simp] theorem State.sendBeacon_self (s : State) (h : s.selfMember) : s.sendBeacon.selfMember :=
  State.mapCtl_self _ _ rfl rfl h
@[simp] theorem State.unheldUnless_self (s : State) (won : Bool) (r : Region) (h : State.selfMember s) : State.selfMember (State.unheldUnless s won r) := by
  unfold State.unheldUnless; (repeat' (first | split | dsimp only)) <;> simp (maxDischargeDepth := 20) [h]
@[simp] theorem State.claimOver_self (s : State) (r : Region) (source : ClaimSource) (won : Bool) (h : State.selfMember s) : State.selfMember (State.claimOver s r source won) := by
  unfold State.claimOver; (repeat' (first | split | dsimp only)) <;> simp (maxDischargeDepth := 20) [h]
@[simp] theorem State.withdraw_self (s : State) (e : OutEntry) (source : ClaimSource) (why : LostReason) (h : State.selfMember s) : State.selfMember (State.withdraw s e source why) := by
  unfold State.withdraw; (repeat' (first | split | dsimp only)) <;> simp (maxDischargeDepth := 20) [h]
@[simp] theorem State.sendEntry_self (s : State) (e : OutEntry) (h : State.selfMember s) : State.selfMember (State.sendEntry s e) := by
  unfold State.sendEntry; (repeat' (first | split | dsimp only)) <;> simp (maxDischargeDepth := 20) [h]
@[simp] theorem State.offerFrom_self (n : Nat) (s : State) (h : State.selfMember s) : State.selfMember (State.offerFrom n s) := by
  induction n generalizing s with
  | zero => simpa [State.offerFrom] using h
  | succ n ih => rcases h' : s.nextOffer <;> simp (maxDischargeDepth := 20) [State.offerFrom, h', ih, h]
@[simp] theorem State.offer_self (s : State) (h : State.selfMember s) : State.selfMember (State.offer s) := by
  unfold State.offer; (repeat' (first | split | dsimp only)) <;> simp (maxDischargeDepth := 20) [h]
@[simp] theorem State.returnBeacon_self (s : State) (b : BeaconFrame) (h : State.selfMember s) : State.selfMember (State.returnBeacon s b) := by
  unfold State.returnBeacon; (repeat' (first | split | dsimp only)) <;> simp (maxDischargeDepth := 20) [h]
@[simp] theorem State.attemptLost_self (s : State) (t : TxSlot) (h : State.selfMember s) : State.selfMember (State.attemptLost s t) := by
  unfold State.attemptLost; (repeat' (first | split | dsimp only)) <;> simp (maxDischargeDepth := 20) [h]
@[simp] theorem State.countFault_self (s : State) (h : State.selfMember s) : State.selfMember (State.countFault s) := by
  unfold State.countFault; (repeat' (first | split | dsimp only)) <;> simp (maxDischargeDepth := 20) [h]
@[simp] theorem State.answerAfterFault_self (s : State) (place : FaultPlace) (f : Frame) (h : State.selfMember s) : State.selfMember (State.answerAfterFault s place f) := by
  unfold State.answerAfterFault; (repeat' (first | split | dsimp only)) <;> simp (maxDischargeDepth := 20) [h]
@[simp] theorem State.postStranger_self (s : State) (n : Station) (h : State.selfMember s) : State.selfMember (State.postStranger s n) := by
  unfold State.postStranger; (repeat' (first | split | dsimp only)) <;> simp (maxDischargeDepth := 20) [h]
@[simp] theorem State.strangerHeard_self (s : State) (n : Station) (h : State.selfMember s) : State.selfMember (State.strangerHeard s n) := by
  unfold State.strangerHeard; (repeat' (first | split | dsimp only)) <;> simp (maxDischargeDepth := 20) [h]
@[simp] theorem State.imageHeard_self (s : State) (i : ImageFrame) (h : State.selfMember s) : State.selfMember (State.imageHeard s i) := by
  unfold State.imageHeard; (repeat' (first | split | dsimp only)) <;> simp (maxDischargeDepth := 20) [h]
@[simp] theorem State.compareStamp_self (s : State) (o : Station) (e : CensusEntry) (h : State.selfMember s) : State.selfMember (State.compareStamp s o e) := by
  unfold State.compareStamp; (repeat' (first | split | dsimp only)) <;> simp (maxDischargeDepth := 20) [h]
@[simp] theorem State.compareIfOwner_self (s : State) (o : Station) (e : CensusEntry) (h : State.selfMember s) : State.selfMember (State.compareIfOwner s o e) := by
  unfold State.compareIfOwner; (repeat' (first | split | dsimp only)) <;> simp (maxDischargeDepth := 20) [h]
@[simp] theorem State.censusCase_self (s : State) (o : Station) (e : CensusEntry) (h : State.selfMember s) : State.selfMember (State.censusCase s o e) := by
  unfold State.censusCase; (repeat' (first | split | dsimp only)) <;> simp (maxDischargeDepth := 20) [h]
@[simp] theorem State.censusEntry_self (o : Station) (s : State) (e : CensusEntry) (h : State.selfMember s) : State.selfMember (State.censusEntry o s e) := by
  unfold State.censusEntry; (repeat' (first | split | dsimp only)) <;> simp (maxDischargeDepth := 20) [h]
@[simp] theorem State.censusList_self (s : State) (o : Station) (es : List CensusEntry) (h : State.selfMember s) : State.selfMember (State.censusList s o es) := by
  unfold State.censusList
  exact foldl_preserves (fun t : State => State.selfMember t) _ (fun t x ht => by simp [ht]) _ _ (by simp (maxDischargeDepth := 20) [h])
@[simp] theorem State.markIfBehind_self (s : State) (u : UpdateFrame) (h : State.selfMember s) : State.selfMember (State.markIfBehind s u) := by
  unfold State.markIfBehind; (repeat' (first | split | dsimp only)) <;> simp (maxDischargeDepth := 20) [h]
@[simp] theorem State.listen_self (s : State) (f : Frame) (h : State.selfMember s) : State.selfMember (State.listen s f) := by
  unfold State.listen; (repeat' (first | split | dsimp only)) <;> simp (maxDischargeDepth := 20) [h]
@[simp] theorem State.restartAnswer_self (s : State) (f : Frame) (h : State.selfMember s) : State.selfMember (State.restartAnswer s f) := by
  unfold State.restartAnswer; (repeat' (first | split | dsimp only)) <;> simp (maxDischargeDepth := 20) [h]
@[simp] theorem State.listenIfListening_self (s : State) (f : Frame) (h : State.selfMember s) : State.selfMember (State.listenIfListening s f) := by
  unfold State.listenIfListening; (repeat' (first | split | dsimp only)) <;> simp (maxDischargeDepth := 20) [h]
@[simp] theorem State.handOn_self (s : State) (f : Frame) (h : State.selfMember s) : State.selfMember (State.handOn s f) := by
  unfold State.handOn; (repeat' (first | split | dsimp only)) <;> simp (maxDischargeDepth := 20) [h]
@[simp] theorem State.ownNumberHeard_self (s : State) (f : Frame) (h : State.selfMember s) : State.selfMember (State.ownNumberHeard s f) := by
  unfold State.ownNumberHeard; (repeat' (first | split | dsimp only)) <;> simp (maxDischargeDepth := 20) [h]
@[simp] theorem State.holdFrame_self (s : State) (f : Frame) (bit acked : Bool) (h : State.selfMember s) : State.selfMember (State.holdFrame s f bit acked) := by
  unfold State.holdFrame; (repeat' (first | split | dsimp only)) <;> simp (maxDischargeDepth := 20) [h]
@[simp] theorem State.beaconAct_self (b : BeaconFrame) (s : State) (h : State.selfMember s) : State.selfMember (State.beaconAct b s).2 := by
  unfold State.beaconAct; (repeat' (first | split | dsimp only)) <;> simp (maxDischargeDepth := 20) [h]
@[simp] theorem State.holdVote_self (s : State) (r : Region) (bit : Bool) (h : State.selfMember s) : State.selfMember (State.holdVote s r bit) := by
  unfold State.holdVote; (repeat' (first | split | dsimp only)) <;> simp (maxDischargeDepth := 20) [h]
@[simp] theorem State.wakeIfAsked_self (s : State) (r : Region) (h : State.selfMember s) : State.selfMember (State.wakeIfAsked s r) := by
  unfold State.wakeIfAsked; (repeat' (first | split | dsimp only)) <;> simp (maxDischargeDepth := 20) [h]
@[simp] theorem State.claimAct_self (c : ClaimFrame) (guardPin : Bool) (s : State) (h : State.selfMember s) : State.selfMember (State.claimAct c guardPin s).2 := by
  unfold State.claimAct; (repeat' (first | split | dsimp only)) <;> simp (maxDischargeDepth := 20) [h]
@[simp] theorem State.decidePull_self (s : State) (p : PullFrame) (h : State.selfMember s) : State.selfMember (State.decidePull s p).2 := by
  unfold State.decidePull; (repeat' (first | split | dsimp only)) <;> simp (maxDischargeDepth := 20) [h]
@[simp] theorem State.pullAct_self (p : PullFrame) (s : State) (h : State.selfMember s) : State.selfMember (State.pullAct p s).2 := by
  unfold State.pullAct; (repeat' (first | split | dsimp only)) <;> simp (maxDischargeDepth := 20) [h]
@[simp] theorem State.takeUpdate_self (s : State) (u : UpdateFrame) (h : State.selfMember s) : State.selfMember (State.takeUpdate s u).2 := by
  unfold State.takeUpdate; (repeat' (first | split | dsimp only)) <;> simp (maxDischargeDepth := 20) [h]
@[simp] theorem State.compareUpdate_self (s : State) (u : UpdateFrame) (h : State.selfMember s) : State.selfMember (State.compareUpdate s u).2 := by
  unfold State.compareUpdate; (repeat' (first | split | dsimp only)) <;> simp (maxDischargeDepth := 20) [h]
@[simp] theorem State.updateIfOwner_self (s : State) (u : UpdateFrame) (h : State.selfMember s) : State.selfMember (State.updateIfOwner s u).2 := by
  unfold State.updateIfOwner; (repeat' (first | split | dsimp only)) <;> simp (maxDischargeDepth := 20) [h]
@[simp] theorem State.updateAct_self (u : UpdateFrame) (s : State) (h : State.selfMember s) : State.selfMember (State.updateAct u s).2 := by
  unfold State.updateAct; (repeat' (first | split | dsimp only)) <;> simp (maxDischargeDepth := 20) [h]
@[simp] theorem State.takeChunk_self (s : State) (p : PullRecord) (i : ImageFrame) (h : State.selfMember s) : State.selfMember (State.takeChunk s p i).2 := by
  unfold State.takeChunk; (repeat' (first | split | dsimp only)) <;> simp (maxDischargeDepth := 20) [h]
@[simp] theorem State.collect_self (s : State) (p : PullRecord) (i : ImageFrame) (h : State.selfMember s) : State.selfMember (State.collect s p i).2 := by
  unfold State.collect; (repeat' (first | split | dsimp only)) <;> simp (maxDischargeDepth := 20) [h]
@[simp] theorem State.collectIfAsked_self (s : State) (i : ImageFrame) (h : State.selfMember s) : State.selfMember (State.collectIfAsked s i).2 := by
  unfold State.collectIfAsked; (repeat' (first | split | dsimp only)) <;> simp (maxDischargeDepth := 20) [h]
@[simp] theorem State.imageAct_self (i : ImageFrame) (s : State) (h : State.selfMember s) : State.selfMember (State.imageAct i s).2 := by
  unfold State.imageAct; (repeat' (first | split | dsimp only)) <;> simp (maxDischargeDepth := 20) [h]
@[simp] theorem State.attemptDone_self (s : State) (h : State.selfMember s) : State.selfMember (State.attemptDone s) := by
  unfold State.attemptDone; (repeat' (first | split | dsimp only)) <;> simp (maxDischargeDepth := 20) [h]
@[simp] theorem State.receptionDone_self (s : State) (h : State.selfMember s) : State.selfMember (State.receptionDone s) := by
  unfold State.receptionDone; (repeat' (first | split | dsimp only)) <;> simp (maxDischargeDepth := 20) [h]
@[simp] theorem State.beaconSent_self (s : State) (b : BeaconFrame) (walkLast : Option Region) (ack : StationMap)
    (h : s.selfMember) : (s.beaconSent b walkLast ack).selfMember := State.mapCtl_self _ _ rfl rfl h
@[simp] theorem State.ownBeaconEnd_self (s : State) (b : BeaconFrame) (walkLast : Option Region) (ack : StationMap) (h : State.selfMember s) : State.selfMember (State.ownBeaconEnd s b walkLast ack) := by
  unfold State.ownBeaconEnd; (repeat' (first | split | dsimp only)) <;> simp (maxDischargeDepth := 20) [h]
@[simp] theorem State.beaconHeard_self (s : State) (b : BeaconFrame) (h : State.selfMember s) : State.selfMember (State.beaconHeard s b) := by
  unfold State.beaconHeard; (repeat' (first | split | dsimp only)) <;> simp (maxDischargeDepth := 20) [h]
@[simp] theorem State.claimDecided_self (s : State) (c : ClaimFrame) (source : ClaimSource) (ack : StationMap) (h : State.selfMember s) : State.selfMember (State.claimDecided s c source ack) := by
  unfold State.claimDecided; (repeat' (first | split | dsimp only)) <;> simp (maxDischargeDepth := 20) [h]
@[simp] theorem State.ownClaimEnd_self (s : State) (c : ClaimFrame) (ack : StationMap) (h : State.selfMember s) : State.selfMember (State.ownClaimEnd s c ack) := by
  unfold State.ownClaimEnd; (repeat' (first | split | dsimp only)) <;> simp (maxDischargeDepth := 20) [h]
@[simp] theorem State.decideClaim_self (s : State) (c : ClaimFrame) (m : StationMap) (h : State.selfMember s) : State.selfMember (State.decideClaim s c m) := by
  unfold State.decideClaim; (repeat' (first | split | dsimp only)) <;> simp (maxDischargeDepth := 20) [h]
@[simp] theorem State.claimHeard_self (s : State) (acked : Bool) (c : ClaimFrame) (ack : StationMap) (h : State.selfMember s) : State.selfMember (State.claimHeard s acked c ack) := by
  unfold State.claimHeard; (repeat' (first | split | dsimp only)) <;> simp (maxDischargeDepth := 20) [h]
@[simp] theorem State.pullAnswered_self (s : State) (p : PullRecord) (ack : StationMap) (h : State.selfMember s) : State.selfMember (State.pullAnswered s p ack) := by
  unfold State.pullAnswered; (repeat' (first | split | dsimp only)) <;> simp (maxDischargeDepth := 20) [h]
@[simp] theorem State.ownPullEnd_self (s : State) (ack : StationMap) (h : State.selfMember s) : State.selfMember (State.ownPullEnd s ack) := by
  unfold State.ownPullEnd; (repeat' (first | split | dsimp only)) <;> simp (maxDischargeDepth := 20) [h]
@[simp] theorem State.settledShort_self (s : State) (r : Region) (u : UpdateEntry) (missing : StationMap) (h : State.selfMember s) : State.selfMember (State.settledShort s r u missing) := by
  unfold State.settledShort; (repeat' (first | split | dsimp only)) <;> simp (maxDischargeDepth := 20) [h]
@[simp] theorem State.retryUpdate_self (s : State) (h : State.selfMember s) : State.selfMember (State.retryUpdate s) := by
  unfold State.retryUpdate; (repeat' (first | split | dsimp only)) <;> simp (maxDischargeDepth := 20) [h]
@[simp] theorem State.settleUpdate_self (s : State) (r : Region) (u : UpdateEntry) (doom : Doom) (missing : StationMap) (h : State.selfMember s) : State.selfMember (State.settleUpdate s r u doom missing) := by
  unfold State.settleUpdate; (repeat' (first | split | dsimp only)) <;> simp (maxDischargeDepth := 20) [h]
@[simp] theorem State.ownUpdateEnd_self (s : State) (ack : StationMap) (h : State.selfMember s) : State.selfMember (State.ownUpdateEnd s ack) := by
  unfold State.ownUpdateEnd; (repeat' (first | split | dsimp only)) <;> simp (maxDischargeDepth := 20) [h]
@[simp] theorem State.imageAcked_self (s : State) (v : ServingRecord) (i : ImageEntry) (ack : StationMap) (h : State.selfMember s) : State.selfMember (State.imageAcked s v i ack) := by
  unfold State.imageAcked; (repeat' (first | split | dsimp only)) <;> simp (maxDischargeDepth := 20) [h]
@[simp] theorem State.ownImageEnd_self (s : State) (ack : StationMap) (h : State.selfMember s) : State.selfMember (State.ownImageEnd s ack) := by
  unfold State.ownImageEnd; (repeat' (first | split | dsimp only)) <;> simp (maxDischargeDepth := 20) [h]
@[simp] theorem State.silence_self (s : State) (n : Station) (h : State.selfMember s) : State.selfMember (State.silence s n) := by
  unfold State.silence; (repeat' (first | split | dsimp only)) <;> simp (maxDischargeDepth := 20) [h]
@[simp] theorem State.fallSilent_self (s : State) (n : Station) (h : State.selfMember s) : State.selfMember (State.fallSilent s n) := by
  unfold State.fallSilent; (repeat' (first | split | dsimp only)) <;> simp (maxDischargeDepth := 20) [h]
@[simp] theorem State.fallAbsent_self (s : State) (n : Station) (h : State.selfMember s) : State.selfMember (State.fallAbsent s n) := by
  unfold State.fallAbsent; (repeat' (first | split | dsimp only)) <;> simp (maxDischargeDepth := 20) [h]
@[simp] theorem State.joinComplete_self (s : State) (h : State.selfMember s) : State.selfMember (State.joinComplete s) := by
  unfold State.joinComplete; (repeat' (first | split | dsimp only)) <;> simp (maxDischargeDepth := 20) [h]
@[simp] theorem State.cut_self (s : State) (h : State.selfMember s) : State.selfMember (State.cut s) := by
  unfold State.cut; (repeat' (first | split | dsimp only)) <;> simp (maxDischargeDepth := 20) [h]
@[simp] theorem State.answerExpired_self (s : State) (p : PullRecord) (h : State.selfMember s) : State.selfMember (State.answerExpired s p) := by
  unfold State.answerExpired; (repeat' (first | split | dsimp only)) <;> simp (maxDischargeDepth := 20) [h]
@[simp] theorem State.advanceTimers_self (s : State) (h : s.selfMember) : s.advanceTimers.selfMember := h
@[simp] theorem State.tick_self (s : State) (h : State.selfMember s) : State.selfMember (State.tick s) := by
  unfold State.tick State.whenOn; (repeat' (first | split | dsimp only)) <;> simp (maxDischargeDepth := 20) [h]
@[simp] theorem State.cutWrite_self (s : State) (h : State.selfMember s) : State.selfMember (State.cutWrite s) := by
  unfold State.cutWrite; (repeat' (first | split | dsimp only)) <;> simp (maxDischargeDepth := 20) [h]
@[simp] theorem State.cutSetup_self (s : State) (h : State.selfMember s) : State.selfMember (State.cutSetup s) := by
  unfold State.cutSetup; (repeat' (first | split | dsimp only)) <;> simp (maxDischargeDepth := 20) [h]
@[simp] theorem State.losePower_self (s : State) (h : State.selfMember s) : State.selfMember (State.losePower s) := by
  unfold State.losePower; (repeat' (first | split | dsimp only)) <;> simp (maxDischargeDepth := 20) [h]
@[simp] theorem State.assertReset_self (s : State) (h : s.selfMember) : s.assertReset.selfMember := by
  unfold State.assertReset
  split
  · split
    · exact (State.setPower_self _ _).2 (State.mapPort_self _ _ (Or.inl rfl) ((State.mapLine_self _ _).2 h))
    · simp [h]
  all_goals simp [h]
@[simp] theorem State.releaseReset_self (s : State) (straps : Straps) (h : State.selfMember s) : State.selfMember (State.releaseReset s straps) := by
  unfold State.releaseReset; (repeat' (first | split | dsimp only)) <;> simp (maxDischargeDepth := 20) [h]

end Sys2Proof.Machine
end

