-- ==== Sys2Proof/WellFormed.lean ====
section
/-! DEFINITION. The commands a sender can give: an operand that the block or the frame of the row cannot carry
makes the command ill formed. An argument that a command block CAN carry but that lies outside the command's
range is well formed: the part itself checks it and answers BAD_ARGUMENT (R174). -/

namespace Sys2Proof

/-- A command whose operands the spec gives its row. -/
def Instr.wellFormed : Instr → Bool
  | .unknownCommandCode code => !knownCode code
  | .unknownSelector selector => !knownSelector selector
  | .beaconReceived b => b.inRange
  | .claimFrameReceived c _ => c.inRange
  | .updateReceived u => u.inRange
  | .imageReceived i => i.inRange
  | .frameEndLost (some f) => f.inRange
  | .putRefusedByPort | .incompletePut | .take _ | .poll _ | .read _ _ _ | .write _ _ _ _ _ | .claim _ _
  | .release _ _ | .keep _ | .fence | .region _ _ | .roster | .status _ | .event | .ident | .setup _ _ _
  | .format _ | .join | .leave | .doze | .wake | .setupRecordWritten | .formatStepDone | .readPieceDone
  | .writeArrayDone | .applyWriteDone | .chunkReadDone | .lineIdle | .lostArbitration | .lineFault _
  | .frameDiscarded | .strangerFrame _ | .pullReceived _ | .beaconFrameEnd _ | .claimFrameEnd _
  | .pullFrameEnd _ | .updateFrameEnd _ | .imageFrameEnd _ | .frameEndLost none | .silenceTimer24ms _
  | .silenceTimer48ms _ | .strangerTimerExpiry _ | .beaconTimerExpiry | .listenExpiry | .leaveDrainCut
  | .leaveFinalExpiry | .answerTimerExpiry _ | .powerOnReset _ | .resetAsserted | .resetReleased _
  | .powerLost => true

end Sys2Proof
end

