-- ==== Sys2Proof/Tests/Slice0.lean ====
section
/-! SUPPORT. Tests of the model against the manual's worked examples and tables, and a witness for the hypotheses of
every statement. Expected results come from the manual or from hand calculation with its tables. -/

namespace Sys2Proof.Tests

open Sys2Proof Sys2Proof.Machine

-- Each `decide +kernel` waits for every earlier theorem; one at a time keeps the number of waiting threads low.
set_option Elab.async false

/-! ### Helpers -/

/-- The state that an outcome goes on to; `s` where it stops. -/
def after (o : Host.Outcome State Fault Refusal) (s : State) : State :=
  match o with
  | .next t => t
  | _ => s

/-- The next state of a command. -/
def run (s : State) (c : Instr) : State := after (exec c s) s

/-- Straps driven to number 4 and to number 0, both at 1 Mbit/s. -/
def straps4 : Straps := ⟨.low, .high, .low, .low, .low⟩
def straps0 : Straps := ⟨.low, .low, .low, .low, .low⟩

/-- Station 4 of {1, 4, 9}, ACTIVE, with its peers PRESENT. It owns region 5 at (3, 48), and its copy of region 7, which
station 1 owns, is STALE BEHIND at (2, 10). -/
def st4 : State :=
  { State.reset with
    events := []
    ctl := { State.reset.ctl with
      state := .active, number := 4, members := 0x0212, beaconTimer := some 0, joining := false }
    roster := { State.reset.roster with
      entries := (State.reset.roster.entries.set 1 ⟨.present, some 0, false⟩).set 9 ⟨.present, some 0, false⟩ }
    table := (State.reset.table.set 5 ⟨⟨3, 48⟩, .current, some ⟨4, 3⟩, true, false, false, false⟩).set 7
      ⟨⟨2, 10⟩, .stale .behind, some ⟨1, 2⟩, false, false, false, false⟩ }

/-- Station 4 in another station state. -/
def st4In (x : StationState) : State := { st4 with ctl := { st4.ctl with state := x } }

/-- Station 4 with other Outbox entries. -/
def st4Out (es : List OutEntry) : State := { st4 with out := { st4.out with entries := es } }

/-- Station 4 with a port state. -/
def st4Port (p : PortState) : State := { st4 with port := { st4.port with state := p } }

/-- An UPDATE entry for region 5 of two bytes. -/
def update5 : UpdateEntry := ⟨0, [1, 2], 48, 49, 3, 0, false, false, false⟩

/-! ### Ill-formed commands -/

theorem test_wellFormed_known_code : (Instr.unknownCommandCode 0x11).wellFormed = false := by decide +kernel
theorem test_wellFormed_known_selector : (Instr.unknownSelector 0x5A).wellFormed = false := by decide +kernel
theorem test_wellFormed_beacon_without_own_bit :
    (Instr.beaconReceived ⟨3, .active, 0x0002, []⟩).wellFormed = false := by decide +kernel
theorem test_wellFormed_beacon_region_twice :
    (Instr.beaconReceived ⟨1, .active, 0x0002, [⟨5, ⟨0, 0⟩⟩, ⟨5, ⟨0, 1⟩⟩]⟩).wellFormed = false := by decide +kernel
theorem test_wellFormed_leaving_census :
    (Instr.beaconReceived ⟨1, .leaving, 0x0002, [⟨5, ⟨0, 0⟩⟩]⟩).wellFormed = false := by decide +kernel
theorem test_wellFormed_claim_epoch : (Instr.claimFrameReceived ⟨1, 5, ⟨0xFFFF, 0⟩⟩ false).wellFormed = false := by decide +kernel
theorem test_wellFormed_update_versions :
    (Instr.updateReceived ⟨1, 5, 0, 7, 7, 0, [1, 2]⟩).wellFormed = false := by decide +kernel
theorem test_wellFormed_update_across_chunks :
    (Instr.updateReceived ⟨1, 5, 0, 7, 8, 254, [1, 2, 3, 4]⟩).wellFormed = false := by decide +kernel
theorem test_wellFormed_image_targets :
    (Instr.imageReceived ⟨1, 5, ⟨0, 1⟩, 0, 0, List.replicate 256 0⟩).wellFormed = false := by decide +kernel
theorem test_wellFormed_frame_end_lost :
    (Instr.frameEndLost (some (.claim ⟨1, 5, ⟨0xFFFF, 0⟩⟩))).wellFormed = false := by decide +kernel

/-! ### Codings of Chapter 11 -/

/-- The CRC of the nine bytes 31h to 39h with this polynomial and initial value is AEE7h. -/
theorem test_crc_check_value : crc16 [0x31, 0x32, 0x33, 0x34, 0x35, 0x36, 0x37, 0x38, 0x39] = 0xAEE7 := by decide +kernel

/-- A CLAIM of station 4 for region 5 at (3, 48), byte by byte from Table 11-4, with the CRC worked out by hand. -/
theorem test_claim_bytes : decodeFrame [0x14, 0x05, 0x00, 0x03, 0x00, 0x00, 0x00, 0x00, 0x00, 0x30, 0x13, 0x91]
    = some (.claim ⟨4, 5, ⟨3, 48⟩⟩) := by decide +kernel
theorem test_claim_bad_crc : decodeFrame [0x14, 0x05, 0x00, 0x03, 0x00, 0x00, 0x00, 0x00, 0x00, 0x31, 0x13, 0x91] = none := by
  decide +kernel
theorem test_claim_received :
    receptionCommand [0x14, 0x05, 0x00, 0x03, 0x00, 0x00, 0x00, 0x00, 0x00, 0x30, 0x13, 0x91] true
      = .claimFrameReceived ⟨4, 5, ⟨3, 48⟩⟩ true := by decide +kernel

/-- Table 11-2: the cells of an empty BEACON, a CLAIM and a PULL. -/
theorem test_frame_lengths :
    (frameCells (encodeFrame (.beacon ⟨4, .active, 0x0010, []⟩)) 0).length = 88
      ∧ (frameCells (encodeFrame (.claim ⟨4, 5, ⟨3, 48⟩⟩)) 0).length = 133
      ∧ (frameCells (encodeFrame (.pull ⟨4, 5, ⟨3, 48⟩, true⟩)) 0).length = 142 := by decide +kernel
/-- Table 11-2: the content bytes of an UPDATE of length 2 and of an IMAGE. -/
theorem test_update_length : (encodeFrame (.update ⟨4, 5, 3, 48, 49, 0, [1, 2]⟩)).length = 24 := by decide +kernel
theorem test_image_length :
    (Frame.payload (.image ⟨4, 5, ⟨3, 48⟩, 0, 0x0002, List.replicate 256 0⟩)).length = 268 := by decide +kernel

/-- Section 11.5: open straps read high, and ST3 is the most significant bit. -/
theorem test_straps : Straps.unconnected.number = 15 ∧ Straps.unconnected.rate = .mbit4
    ∧ straps4.number = 4 ∧ straps4.rate = .mbit1 ∧ Pin.asserted .unconnected = false := by decide +kernel

/-- A CLAIM of station 4: twelve content groups in cells 1 to 108, the ack lead in 109 and 110, the delimiter in 129 to 132. -/
def claimCells (ack : StationMap) : List LineCell := frameCells (encodeFrame (.claim ⟨4, 5, ⟨3, 48⟩⟩)) ack

theorem test_cells_read : readCells (claimCells 0x0202) = .complete (.claim ⟨4, 5, ⟨3, 48⟩⟩) 0x0202
    ∧ readCells ((claimCells 0).set 9 .recessive) = .discarded
    ∧ readCells ((claimCells 0).set 110 .recessive) = .lostEarly (.claim ⟨4, 5, ⟨3, 48⟩⟩)
    ∧ readCells ((claimCells 0).set 130 .recessive) = .lostLate (.claim ⟨4, 5, ⟨3, 48⟩⟩) := by decide +kernel

/-- Cell 4 carries the 1 of the header 14h: read dominant it loses arbitration; cell 10 lies behind the header; cells 109 and 130
lie in the ack lead and the end delimiter, and the ack slots are not checked. -/
theorem test_readback : attemptCommand (.claim ⟨4, 5, ⟨3, 48⟩⟩) ((claimCells 0).set 4 .dominant) = .lostArbitration
    ∧ attemptCommand (.claim ⟨4, 5, ⟨3, 48⟩⟩) ((claimCells 0).set 10 .recessive) = .lineFault
    ∧ attemptCommand (.claim ⟨4, 5, ⟨3, 48⟩⟩) ((claimCells 0).set 108 .recessive) = .lineFault .content
    ∧ attemptCommand (.claim ⟨4, 5, ⟨3, 48⟩⟩) ((claimCells 0).set 109 .recessive) = .lineFault .tail
    ∧ attemptCommand (.claim ⟨4, 5, ⟨3, 48⟩⟩) ((claimCells 0).set 130 .recessive) = .lineFault .tail
    ∧ attemptCommand (.claim ⟨4, 5, ⟨3, 48⟩⟩) (claimCells 0x0202) = .claimFrameEnd 0x0202 := by decide +kernel

/-- The idle gap is ten recessive cells. -/
theorem test_idle_gap : endsIdle (List.replicate 10 .recessive) = true
    ∧ endsIdle (.dominant :: List.replicate 9 .recessive) = false := by decide +kernel

/-- The bytes of the put of section 11.4.2. -/
theorem test_put_write :
    transactionOfBits .high ([0x5A, 0x02, 0x05, 0x01, 0x00, 0x00, 0x04, 0x11, 0x22, 0x33, 0x44].flatMap byteBits)
      = some (.write 0x05 0x0100 0x0004 [0x11, 0x22, 0x33, 0x44] false) := by decide +kernel
theorem test_put_incomplete : transactionOfBits .high ([0x5A, 0x01, 0x05, 0x01].flatMap byteBits) = some .incompletePut := by decide +kernel
theorem test_put_unknown_code : transactionOfBits .high ([0x5A, 0x12].flatMap byteBits) = some (.unknownCommandCode 0x12) := by decide +kernel
theorem test_unknown_selector : transactionOfBits .high ([0x00, 0x12].flatMap byteBits) = some (.unknownSelector 0x00) := by
  decide +kernel
/-- A take that ends after four bits of its second byte. -/
theorem test_take_cut_short : transactionOfBits .high (byteBits 0x6B ++ [false, false, false, false]) = some (.take 4) := by
  decide +kernel

/-- Section 4.3: (3, 120) is higher than (2, 9000) and lower than (3, 121). -/
theorem test_stamp_order : stampLower ⟨2, 9000⟩ ⟨3, 120⟩ = true ∧ stampLower ⟨3, 120⟩ ⟨3, 121⟩ = true := by decide +kernel

/-- Section 4.4: Q for M of 1 to 5 and 16. -/
theorem test_quorum :
    [0x0001, 0x0003, 0x0007, 0x000F, 0x001F, 0xFFFF].map
      (fun m : StationMap => ({ st4 with ctl := { st4.ctl with members := m } } : State).quorum) = [1, 2, 2, 3, 3, 9] := by
  decide +kernel

/-- Section 2.4.1: a beacon of 5 wins against a claim of 11, and that against an update of 2. -/
theorem test_contention :
    Frame.beats (.beacon ⟨5, .active, 0x0820, []⟩) (.claim ⟨11, 0, ⟨0, 0⟩⟩) = true
      ∧ Frame.beats (.claim ⟨11, 0, ⟨0, 0⟩⟩) (.update ⟨2, 0, 0, 0, 1, 0, [0, 0]⟩) = true := by decide +kernel

/-! ### Single commands -/

/-- Section 9.5: EVENT takes RESET_DONE, and nothing is left. -/
theorem test_event : (run State.reset .event).port.state
    = .answer ⟨0x0A, .done, [0, 1, 0, 0, 0, 0, 0, 0, 0, 0, 0]⟩ ∧ (run State.reset .event).attn = false := by decide +kernel

/-- Section 9.5: a put in ANSWER is refused by the port, and the poll byte shows it once. -/
theorem test_refused : (run (run State.reset .event) .join).pollByte = 0x90
    ∧ (run (run (run State.reset .event) .join) (.poll ⟨8, false⟩)).pollByte = 0x80 := by decide +kernel
theorem test_put_refused_by_port : (run (st4Port (.answer ⟨1, .done, []⟩)) .putRefusedByPort).port.refused = true := by decide +kernel

/-- A poll held over a second run: the bytes of one transaction, each as the part then stands. -/
theorem test_poll_held : (run (run (run (run State.reset .event) .join) (.poll ⟨8, true⟩)) (.poll ⟨16, false⟩)).port.sdo
    = [0x90, 0x80, 0x80].flatMap byteBits := by decide +kernel

/-- R193: a poll that the host holds over a pin reset drives nothing after it, until CS# has been seen high. -/
theorem test_poll_held_over_reset :
    let s := run (run (run State.reset (.poll ⟨8, true⟩)) .resetAsserted) (.resetReleased straps4)
    (run s (.poll ⟨8, true⟩)).port.sdo = [false, false, true, false, false, false, false, false]
      ∧ (run (run s (.poll ⟨8, false⟩)) (.poll ⟨8, false⟩)).port.sdo = byteBits 0x20 := by decide +kernel

/-- R199: a take that is cut short drives the bits it clocks out, and the answer stays: the first four of code 0Ah. -/
theorem test_take_drives_cut_byte : (run (run State.reset .event) (.take 4)).port
    = ⟨.answer ⟨0x0A, .done, [0, 1, 0, 0, 0, 0, 0, 0, 0, 0, 0]⟩, false, [false, false, false, false], .high⟩ := by decide +kernel

/-- Section 9.5: JOIN is ACCEPTED and the station listens. -/
theorem test_join : (run (run State.reset (.powerOnReset straps4)) .join).pollByte = 0xA1 := by decide +kernel

/-- Section 9.5: the poll byte of a WRITE in progress, and a take of the NONE block. -/
theorem test_write_working : (run st4 (.write 0x05 0x0100 0x0004 [0x11, 0x22, 0x33, 0x44] false)).pollByte = 0x42 := by decide +kernel
theorem test_take_working :
    (run (run st4 (.write 0x05 0x0100 0x0004 [0x11, 0x22, 0x33, 0x44] false)) (.take 32)).port.sdo = [0, 2, 0, 0].flatMap byteBits := by decide +kernel

/-- Section 11.4.2: the take after the array write gives the stamp (3, 49) and two bytes of fill. -/
theorem test_write_take :
    (run (run (run st4 (.write 0x05 0x0100 0x0004 [0x11, 0x22, 0x33, 0x44] false)) .writeArrayDone) (.take 112)).port
      = ⟨.idle, false,
        [0x02, 0x00, 0x00, 0x08, 0x00, 0x03, 0x00, 0x00, 0x00, 0x00, 0x00, 0x31, 0x00, 0x00].flatMap byteBits, .high⟩ := by decide +kernel

/-- The four bytes of that WRITE stand at offset 0100h of region 5. -/
theorem test_write_array :
    (run (run st4 (.write 0x05 0x0100 0x0004 [0x11, 0x22, 0x33, 0x44] false)) .writeArrayDone).nv.array
      = [(0x5100, 0x11), (0x5101, 0x22), (0x5102, 0x33), (0x5103, 0x44)] := by decide +kernel

/-- Section 4.3.1: two completed writes of one span give one UPDATE entry from 48 to 50. -/
theorem test_coalesce :
    let w := fun s : State => run (run s (.write 0x05 0 2 [1, 2] false)) .writeArrayDone
    let s := run (w st4) (.take 112)
    (w s).out.entries.map (fun e => e.body) = [.update ⟨0, [1, 2], 48, 50, 3, 0, false, false, false⟩] := by decide +kernel

/-- Section 4.6: a fence over that entry seals it and marks it in-fence. -/
theorem test_fence : (run (st4Out [⟨5, .update update5, false, .none⟩]) .fence).out.entries
    = [⟨5, .update { update5 with sealed := true, inFence := true }, false, .none⟩] := by decide +kernel

/-- Section 7.2.1: the grants of a long READ against a busy Apply Queue, by H and I#. -/
def arbiterExample (host image : Nat) : State :=
  { st4Port (.working (.read ⟨3, ⟨0, 0⟩, .current, 0, 1536, [], 9⟩)) with
    applyQ := [⟨9, 10, .update 0 [1, 2]⟩]
    serving := [⟨5, ⟨3, 48⟩, [⟨1, 0xFFFF, 0⟩], 0, 0, .requested 0 9⟩]
    arb := ⟨none, host, image⟩ }

theorem test_arbiter_first : (arbiterExample 0 0).arbitrate.arb = ⟨some .readPiece, 1, 1⟩ := by decide +kernel
theorem test_arbiter_fifth : (arbiterExample 4 4).arbitrate.arb = ⟨some (.chunkRead 5 0 ⟨3, 48⟩ true), 4, 0⟩ := by decide +kernel
theorem test_arbiter_sixth :
    ({ arbiterExample 4 0 with serving := [] } : State).arbitrate.arb = ⟨some .apply, 0, 0⟩ := by decide +kernel

/-- Section 3.4.1: station 4 with the six regions of the example. -/
def censusExample (cursor : Option Region) (front : List Region) (updates : List OutEntry) : State :=
  { st4Out updates with
    roster := { st4.roster with cursor := cursor, front := front }
    table := [2, 7, 33, 40, 51, 63].foldl (fun t r => Vector.set t (r : Region) ⟨⟨0, 0⟩, .current, some ⟨4, 0⟩, true, false, false, false⟩)
      State.reset.table }

theorem test_census_first : (censusExample none [] []).beaconPasses = ([], [2, 7, 33, 40]) := by decide +kernel
theorem test_census_second :
    (censusExample (some 40) [63] [⟨7, .update update5, false, .none⟩]).beaconPasses = ([63], [51, 2, 33]) := by decide +kernel

/-- Section 9.5: the overflow example's posts onto 14 records. -/
theorem test_overflow :
    ((List.replicate 14 Event.joined) |> (postTo · .joined) |> (postTo · .joined) |> (postTo · .joined)
      |> (postTo · .joined)).getLast? = some (.overflow 3) := by decide +kernel

/-- Section 7.7: a part cut during a WRITE to region 12 comes up with region 12 in the damaged map. -/
theorem test_recovery :
    (run { st4 with nv := { st4.nv with intent := some ⟨.write, 12⟩ }, power := .off } (.powerOnReset straps4)).events
      = [.resetDone .power 0x1000] := by decide +kernel

theorem test_read : (run st4 (.read 0x05 0x0FFE 0x0002)).arb.op = some .readPiece := by decide +kernel
theorem test_read_done : (run (run st4 (.read 0x05 0x0FFE 0x0002)) .readPieceDone).port.state
    = .answer ⟨0x01, .done, [0, 3, 0, 0, 0, 0, 0, 48, 0, 0, 0, 0]⟩ := by decide +kernel
theorem test_claim_busy_order : (run st4 (.claim 0x07 false)).port.state = .answer ⟨0x03, .notCurrent, []⟩ := by decide +kernel
theorem test_release : (run st4 (.release 0x05 false)).table[5].yieldReady = true := by decide +kernel
theorem test_keep : (run (run (run st4 (.release 0x05 false)) (.take 32)) (.keep 0x05)).table[5].yieldReady = false := by decide +kernel
theorem test_status_active : (run st4 (.status false)).port.state
    = .answer ⟨0x09, .done, [2, 0, 3, 2, 3, 0, 0, 0, 0, 0, 0, 0, 0xFF, 0, 0, 0, 0]⟩ := by decide +kernel
theorem test_setup : (run (run (run State.reset (.powerOnReset straps4)) (.setup 0x0212 0 false)) .setupRecordWritten).ctl.members
    = 0x0212 := by decide +kernel
theorem test_doze_wake : (run (run (run st4 .doze) (.take 32)) .wake).events = [.woken none, .regionStale 7 .behind] := by decide +kernel
theorem test_leave_empty : (run st4 .leave).ctl.leavePhase = .final ∧ (run st4 .leave).ctl.beaconDue = true := by decide +kernel
theorem test_leave_final_expiry : (run (run st4 .leave) .leaveFinalExpiry).events = [.left 0] := by decide +kernel
theorem test_beacon_due : (run st4 .beaconTimerExpiry).ctl.beaconDue = true := by decide +kernel
theorem test_line_idle_beacon : (run (run st4 .beaconTimerExpiry) .lineIdle).line.slot
    = some ⟨.beacon ⟨4, .active, 0x0212, [⟨5, ⟨3, 48⟩⟩]⟩, some 5⟩ := by decide +kernel
theorem test_beacon_census_opens_pull :
    (run st4 (.beaconReceived ⟨1, .active, 0x0212, [⟨3, ⟨0, 1⟩⟩]⟩)).table[3].copy = .fetching .behind := by decide +kernel
theorem test_update_in_sequence :
    (run st4 (.updateReceived ⟨1, 3, 0, 0, 1, 0, [1, 2]⟩)).table[3] = ⟨⟨0, 1⟩, .current, some ⟨1, 0⟩, false, false, false, false⟩ := by
  decide +kernel
theorem test_vote_pending :
    (run (run st4 (.release 0x05 false)) (.claimFrameReceived ⟨1, 5, ⟨3, 48⟩⟩ false)).table[5].votePending = true := by decide +kernel
theorem test_handover :
    (run (run (run st4 (.release 0x05 false)) (.claimFrameReceived ⟨1, 5, ⟨3, 48⟩⟩ false)) (.claimFrameEnd 0x0210)).table[5]
      = ⟨⟨4, 48⟩, .current, some ⟨1, 4⟩, false, false, false, false⟩ := by decide +kernel
theorem test_pull_served :
    (run st4 (.pullReceived ⟨1, 5, ⟨3, 40⟩, false⟩)).serving.map (fun v => v.targets) = [[⟨1, 0xFFFF, 0⟩]] := by decide +kernel
theorem test_silence : (run st4 (.silenceTimer24ms 9)).events = [.station 9 .silent] := by decide +kernel
theorem test_isolation :
    (run (run st4 (.silenceTimer24ms 9)) (.silenceTimer24ms 1)).events.getLast? = some (.isolation true) := by decide +kernel
theorem test_stranger : (run st4 (.strangerFrame 2)).events = [.stranger 2] := by decide +kernel
theorem test_duplicate : (run st4 (.pullReceived ⟨4, 5, ⟨3, 40⟩, false⟩)).events = [.halted .duplicate] := by decide +kernel
/-- R45: a station already ABSENT whose LEAVING beacon shows another member set has members-differ seen no after its frame end. -/
theorem test_leaving_clears_differs :
    let s := run { st4 with roster := { st4.roster with entries := st4.roster.entries.set 1 ⟨.absent, none, false⟩ } }
      (.beaconReceived ⟨1, .leaving, 0x0002, []⟩)
    s.events = [.membersDiffer 1] ∧ (run s (.beaconFrameEnd 0x0010)).roster.entries[1] = ⟨.absent, none, false⟩ := by
  decide +kernel

/-- R96: a claim of the recorded owner closes the open pull of its region, and a new one opens. -/
theorem test_claim_of_owner_closes_pull :
    let s := run (run { st4 with
      catchup := ⟨[], 0, [⟨0, 7, 1, 2, some 3, none, 0, 0, false, false⟩]⟩
      table := st4.table.set 7 ⟨⟨2, 10⟩, .fetching .behind, some ⟨1, 2⟩, false, false, false, false⟩ }
      (.claimFrameReceived ⟨1, 7, ⟨2, 10⟩⟩ false)) (.claimFrameEnd 0x0210)
    s.events = [.regionStale 7 .behind] ∧ s.table[7].owner = some ⟨1, 3⟩ ∧ s.table[7].stamp = ⟨3, 10⟩
      ∧ s.catchup.pulls.map (fun p => p.attempts) = [1] := by decide +kernel

/-- R143: with a chunk read still in progress the FORMAT intent stands from the taking on. -/
theorem test_format_intent_at_taking :
    (run { State.reset with arb := ⟨some (.chunkRead 5 0 ⟨3, 48⟩ false), 0, 0⟩ } (.format false)).nv.intent
      = some ⟨.format, 0⟩ := by decide +kernel

/-- The chunk that completes a collection is written while a pin reset waits. -/
def lastChunkInReset : State :=
  { st4 with
    power := .resetPending none
    catchup := ⟨[], 0, [⟨0, 7, 1, 1, none, some ⟨2, 12⟩, 0xFFFF, 0x7FFF, true, false⟩]⟩
    table := st4.table.set 7 ⟨⟨2, 10⟩, .fetching .damaged, some ⟨1, 2⟩, false, false, false, false⟩ }

/-- R147 lets the pull complete at (2, 12), CURRENT; R133 leaves the region as it is. -/
theorem test_chunk_in_pin_reset :
    (lastChunkInReset.applied (.chunk 15 [] ⟨2, 12⟩ 0) = (lastChunkInReset.chunkWritten 15 ⟨2, 12⟩ 0).setFree 1
        ∨ lastChunkInReset.applied (.chunk 15 [] ⟨2, 12⟩ 0) = lastChunkInReset.setFree 1)
      ∧ (lastChunkInReset.chunkWritten 15 ⟨2, 12⟩ 0).table[7] = ⟨⟨2, 12⟩, .current, some ⟨1, 2⟩, false, false, false, false⟩ := by
  refine ⟨?_, by decide +kernel⟩
  show lastChunkInReset.chunkWrittenInReset 15 ⟨2, 12⟩ 0 = _ ∨ lastChunkInReset.chunkWrittenInReset 15 ⟨2, 12⟩ 0 = _
  unfold State.chunkWrittenInReset
  split
  · exact .inl rfl
  · exact .inr rfl

theorem test_pin_reset_waits :
    (run (run (run st4 (.write 0x05 0 2 [1, 2] false)) .resetAsserted) .writeArrayDone).power = .inReset := by decide +kernel

/-! ### Witnesses: concrete states and operands that meet the hypotheses of each statement -/

theorem witness_StepRunsFrontCommand : ({ st4 with pending := [.ident] } : State).pending = .ident :: [] := rfl

theorem witness_EmptyQueueLetsTimePass :
    (State.reset.pending = [] ∧ State.reset.power = .on)
      ∧ ({ State.reset with power := .off } : State).pending = [] ∧ ({ State.reset with power := .off } : State).power ≠ .on := by
  decide +kernel

theorem witness_ExecKeepsQueue : exec .incompletePut st4 = .next st4 := rfl

/-- A part without power and a part in reset; region 12 named by a WRITE record, regions 12 and up by a FORMAT record. -/
def cutAt (k : IntentKind) (p : Power) : State :=
  { State.reset with power := p, nv := { State.reset.nv with intent := some ⟨k, 12⟩ } }

theorem witness_ComesUpFromRetainedState :
    ((cutAt .write .off).power = .off ∧ (cutAt .write .inReset).power = .inReset)
      ∧ (cutAt .write .off).nv.named 12 ∧ (cutAt .format .off).nv.named 63 ∧ ¬ (cutAt .write .off).nv.named 13
      ∧ ¬ (cutAt .format .inReset).nv.named 11 := by
  refine ⟨by decide, ⟨_, rfl, .inl rfl⟩, ⟨_, rfl, .inr ⟨rfl, by decide⟩⟩, ?_, ?_⟩ <;>
  · rintro ⟨i, h, h'⟩
    cases h
    revert h'
    decide

/-- A part held in reset while the host holds CS# low. -/
theorem witness_ComesUpFromRetainedState_selected :
    ({ cutAt .write .inReset with port := ⟨.idle, false, [], .ignored⟩ } : State).port.cs ≠ .high := by decide +kernel

theorem witness_PinReset :
    (st4.power = .on ∧ st4.arb.op = none)
      ∧ ((run st4 (.read 5 0 2)).power = .on ∧ (run st4 (.read 5 0 2)).arb.op ≠ none)
      ∧ (run (run st4 (.read 5 0 2)) .resetAsserted).power = .resetPending none
      ∧ (run (run (run st4 (.read 5 0 2)) .resetAsserted) (.resetReleased straps0)).power = .resetPending (some straps0) := by
  decide +kernel

/-- A poll under way, of which five bits of 90h are out. -/
def midPoll (cs : ChipSelect) : State := { st4 with port := ⟨.idle, false, [true, false, false, true, false], cs⟩ }

theorem witness_PinReset_selected : (midPoll (.polling 0x90)).power = .on ∧ (midPoll (.polling 0x90)).arb.op = none
    ∧ (midPoll (.polling 0x90)).port.cs ≠ .high ∧ (midPoll .ignored).port.cs ≠ .high ∧ st4.port.cs = .high := by decide +kernel

theorem witness_PowerLossKeepsRetainedState : Memory.wf st4.nv.array = true ∧ st4.power ≠ .off := by decide +kernel

theorem witness_RowsWithoutEffectAndUnknownCode :
    (st4.power = .on ∧ (cutAt .write .off).power ≠ .on ∧ st4.port.sdo = [])
      ∧ st4.takesPut ∧ (0 : Byte).toNat = 0 ∧ 17 < (18 : Byte).toNat :=
  ⟨by decide +kernel, ⟨rfl, rfl⟩, by decide, by decide⟩

theorem witness_PutRefusedByPort : isPut .wake = true
    ∧ (st4Port (.answer ⟨1, .done, []⟩)).power = .on ∧ (st4Port (.answer ⟨1, .done, []⟩)).port.state ≠ .idle := by
  decide +kernel

theorem witness_TakeAndPoll :
    ((st4Port (.answer ⟨1, .done, []⟩)).power = .on ∧ (st4Port (.answer ⟨1, .done, []⟩)).port.state = .answer ⟨1, .done, []⟩)
      ∧ st4.power = .on ∧ ∀ a, st4.port.state ≠ .answer a :=
  ⟨⟨rfl, rfl⟩, rfl, fun _ h => nomatch h⟩

theorem witness_TakeAndPoll_selected :
    (st4.power = .on ∧ st4.port.cs = .high)
      ∧ ((midPoll (.polling 0x90)).power = .on ∧ (midPoll (.polling 0x90)).port.cs = .polling 0x90
        ∧ (midPoll (.polling 0x90)).port.sdo.length % 8 ≠ 0)
      ∧ ((midPoll .ignored).power = .on ∧ (midPoll .ignored).port.cs = .ignored)
      ∧ (cutAt .write .inReset).power ≠ .on
      ∧ 8 * (4 + ([] : List Byte).length) ≤ 32 ∧ ¬ 8 * (4 + ([] : List Byte).length) ≤ 31 := by decide +kernel

theorem witness_EventQueueOverflows :
    ((∀ x ∈ List.replicate 14 Event.joined, x.isOverflow = false) ∧ (List.replicate 14 Event.joined).length < 15)
      ∧ ((∀ x ∈ List.replicate 15 Event.joined, x.isOverflow = false) ∧ 15 ≤ (List.replicate 15 Event.joined).length)
      ∧ ({ st4 with events := List.replicate 15 Event.joined ++ [.overflow 254] } : State).events
        = List.replicate 15 Event.joined ++ [.overflow 254] := by decide +kernel

/-- Station 4 with a pull open for region 7 toward station 1. -/
def pull7 : PullRecord := ⟨0, 7, 1, 1, some 3, none, 0, 0, false, false⟩
def st4Pull : State :=
  { st4 with
    catchup := ⟨[], 0, [pull7]⟩
    table := st4.table.set 7 ⟨⟨2, 10⟩, .fetching .behind, some ⟨1, 2⟩, false, false, false, false⟩ }

/-- Station 4 with a frame in its transmit slot and its entries. -/
def sending (f : Frame) (es : List OutEntry) : State := { st4Out es with line := { st4.line with slot := some ⟨f, none⟩ } }

/-- Station 4 sending an in-fence UPDATE of region 5 whose removal has been asked for. -/
def sendingDoomed (doom : Doom) : State :=
  let s := sending (.update ⟨4, 5, 3, 48, 49, 0, [1, 2]⟩) [⟨5, .update { update5 with sealed := true, inFence := true }, true, doom⟩]
  { s with out := { s.out with fence := some ⟨0, 0⟩ } }

/-- A PULL from a station, in range. -/
def pullFrom (n : Station) : Frame := .pull ⟨n, 5, ⟨3, 48⟩, false⟩

/-- Station 4 with a received frame under way. -/
def receiving (f : Frame) : State := { st4 with line := { st4.line with rx := some ⟨f, true, true⟩ } }

/-- Station 4 sending the PULL of region 7. -/
def pulling (doom : Doom) : State :=
  { st4Pull with
    line := { st4.line with slot := some ⟨.pull ⟨4, 7, ⟨2, 10⟩, false⟩, none⟩ }
    out := { st4.out with entries := [⟨7, .pull false, true, doom⟩] } }

/-- A pull of region 9, and the PULL of region 7 under way with both open. -/
def pull9 : PullRecord := ⟨1, 9, 1, 1, some 3, none, 0, 0, false, false⟩
def pullingTwo : State := { pulling .none with catchup := ⟨[], 0, [pull9, pull7]⟩ }

/-- A READ of two bytes at the end of region 5 with its piece in progress. -/
def readWork5 : ReadWork := ⟨5, ⟨3, 48⟩, .current, 4094, 2, [], 0⟩
def st4Read : State := { st4Port (.working (.read readWork5)) with arb := ⟨some .readPiece, 0, 0⟩ }

theorem witness_ReadCheckedAndCarriedOut :
    st4.takesPut
      ∧ (64 ≤ (64 : Byte).toNat ∧ 4096 ≤ (4096 : BitVec 16).toNat ∧ (0 : BitVec 16).toNat = 0
        ∧ 4096 < (4095 : BitVec 16).toNat + (2 : BitVec 16).toNat)
      ∧ ((5 : Byte).toNat = (5 : Region).val ∧ (4095 : BitVec 16).toNat < 4096 ∧ 1 ≤ (1 : BitVec 16).toNat
        ∧ (4095 : BitVec 16).toNat + (1 : BitVec 16).toNat ≤ 4096 ∧ ∀ k, st4.table[(5 : Region)].copy ≠ .fetching k)
      ∧ (st4Pull.takesPut ∧ st4Pull.table[(7 : Region)].copy = .fetching .behind)
      ∧ st4Read.arb.op = some .readPiece ∧ st4Read.port.state = .working (.read readWork5)
      ∧ readWork5.pos + readWork5.left ≤ 4096 := by
  refine ⟨⟨rfl, rfl⟩, by decide, ⟨by decide, by decide, by decide, by decide, ?_⟩, ⟨⟨rfl, rfl⟩, rfl⟩, rfl, rfl, by decide⟩
  intro k h
  nomatch h

/-- Station 4 with ten sealed UPDATE entries for region 5, and with ten of which the youngest is not sealed. -/
def tenUpdates (youngest : Bool) : List OutEntry :=
  List.replicate 9 ⟨5, .update { update5 with sealed := true }, false, .none⟩
    ++ [⟨5, .update { update5 with sealed := youngest }, false, .none⟩]

/-- Station 4 with its entry of region 5 changed. -/
def st4Entry (f : RegionEntry → RegionEntry) : State := { st4 with table := st4.table.set 5 (f st4.table[5]) }

theorem witness_WriteChecked :
    (st4.takesPut ∧ (st4In .isolated).takesPut ∧ (st4In .halted).takesPut ∧ st4.ctl.state = .active
        ∧ (st4In .isolated).ctl.state = .isolated ∧ (st4In .halted).ctl.state ≠ .active)
      ∧ ((5 : Byte).toNat = (5 : Region).val ∧ (3840 : BitVec 16).toNat % 2 = 0 ∧ (256 : BitVec 16).toNat % 2 = 0
        ∧ 2 ≤ (256 : BitVec 16).toNat ∧ (256 : BitVec 16).toNat ≤ 256 ∧ (3840 : BitVec 16).toNat < 4096
        ∧ (3840 : BitVec 16).toNat / 256 = ((3840 : BitVec 16).toNat + (256 : BitVec 16).toNat - 1) / 256
        ∧ (List.replicate 256 (0 : Byte)).length = (256 : BitVec 16).toNat)
      ∧ (st4.owns 5 = true ∧ st4.owns 7 = false ∧ (st4Entry ({ · with votePending := true })).table[5].votePending = true)
      ∧ inMap ({ st4 with ctl := { st4.ctl with guardSet := 0x20 } } : State).ctl.guardSet 5 = true
      ∧ (st4Entry ({ · with writeHold := true })).table[5].writeHold = true
      ∧ (st4Entry ({ · with stamp := ⟨3, 0xFFFFFFFFFFFF⟩ })).table[5].stamp.version.toNat = 2 ^ 48 - 1
      ∧ st4.out.updateCount < 10
      ∧ ((st4Out (tenUpdates false)).out.updateCount = 10 ∧ (st4Out (tenUpdates false)).out.candidate 5 0 2 = true)
      ∧ (st4Out (tenUpdates true)).out.updateCount = 10 ∧ (st4Out (tenUpdates true)).out.candidate 5 0 2 = false := by
  refine ⟨⟨⟨rfl, rfl⟩, ⟨rfl, rfl⟩, ⟨rfl, rfl⟩, rfl, rfl, by decide⟩, ?_⟩
  decide +kernel

/-- Station 4 with a WRITE of the last two bytes of a region in progress. -/
def writing (r : Region) : State :=
  { st4Port (.working (.write ⟨r, 4094, [1, 2], 0⟩)) with arb := ⟨some .hostWrite, 0, 0⟩ }

/-- A serving record of region 5 for station 1. -/
def serving5 (restarts : Nat) : ServingRecord := ⟨5, ⟨3, 48⟩, [⟨1, 0x00FF, 1⟩], 8, restarts, .none⟩
def st4Serving (restarts : Nat) : State := { st4 with serving := [serving5 restarts] }

theorem witness_WriteCompletesAndRestartsServing :
    ((writing 5).arb.op = some .hostWrite ∧ (writing 5).port.state = .working (.write ⟨5, 4094, [1, 2], 0⟩)
        ∧ 4094 + ([1, 2] : List Byte).length ≤ 4096)
      ∧ ((writing 5).table[(5 : Region)].owner = some ⟨4, 3⟩ ∧ (4 : Station) = (writing 5).own)
      ∧ (writing 7).owns 7 = false
      ∧ st4.servingOf 5 = none ∧ (st4Serving 2).servingOf 5 = some (serving5 2) := by decide +kernel

theorem witness_ClaimChecked :
    (st4.takesPut ∧ (st4In .isolated).takesPut ∧ (st4In .dozing).takesPut)
      ∧ 64 ≤ (64 : Byte).toNat ∧ (63 : Byte).toNat = (63 : Region).val
      ∧ (st4In .isolated).ctl.state = .isolated ∧ (st4In .dozing).ctl.state ≠ .active ∧ (st4In .dozing).ctl.state ≠ .isolated
      ∧ st4.ctl.state = .active ∧ st4.owns 5 = true ∧ st4.owns 63 = false ∧ st4.table[(63 : Region)].copy = .current
      ∧ st4.table[(7 : Region)].copy ≠ .current ∧ st4.out.hostClaim = none := by
  refine ⟨⟨⟨rfl, rfl⟩, ⟨rfl, rfl⟩, ⟨rfl, rfl⟩⟩, ?_⟩
  decide +kernel

theorem witness_ReleaseAndKeep :
    (st4.takesPut ∧ (st4In .halted).takesPut) ∧ 64 ≤ (64 : Byte).toNat ∧ (5 : Byte).toNat = (5 : Region).val
      ∧ (st4In .halted).ctl.state = .halted ∧ st4.owns 5 = true ∧ st4.owns 63 = false := by
  refine ⟨⟨⟨rfl, rfl⟩, ⟨rfl, rfl⟩⟩, ?_⟩
  decide +kernel

theorem witness_FenceOpens :
    (st4.takesPut ∧ (st4In .listening).takesPut)
      ∧ (st4In .listening).ctl.state = .listening
      ∧ st4.ctl.state ≠ .offline ∧ st4.ctl.state ≠ .listening ∧ st4.ctl.state ≠ .halted
      ∧ ({ st4 with out := { st4.out with fence := some ⟨0, 0⟩ } } : State).out.fence ≠ none ∧ st4.out.fence = none
      ∧ (∃ e ∈ (st4Out (tenUpdates false)).out.entries, e.isUpdate = true) ∧ ∀ e ∈ st4.out.entries, e.isUpdate = false := by
  refine ⟨⟨⟨rfl, rfl⟩, ⟨rfl, rfl⟩⟩, ?_⟩
  decide +kernel

theorem witness_ReportsAnswered :
    st4.takesPut ∧ 64 ≤ (64 : Byte).toNat ∧ (63 : Byte).toNat = (63 : Region).val ∧ (15 : Station) ≠ st4.own :=
  ⟨⟨rfl, rfl⟩, by decide, by decide, by decide⟩

theorem witness_IdentAnswersCodes : State.reset.takesPut ∧ (st4In .halted).takesPut := ⟨⟨rfl, rfl⟩, ⟨rfl, rfl⟩⟩

theorem witness_EventTakesOldestRecord :
    (st4.takesPut ∧ st4.events = []) ∧ State.reset.takesPut ∧ State.reset.events = .resetDone .power 0 :: [] :=
  ⟨⟨⟨rfl, rfl⟩, rfl⟩, ⟨rfl, rfl⟩, rfl⟩

theorem witness_SetupWritesRecord :
    State.reset.takesPut ∧ (st4Port (.working (.setup 0x8000 1))).power = .on
      ∧ (st4Port (.working (.setup 0x8000 1))).port.state = .working (.setup 0x8000 1) := ⟨⟨rfl, rfl⟩, rfl, rfl⟩

/-- A FORMAT with the step of a region and chunk in progress. -/
def formatting (r : Region) (k : Chunk) : State :=
  { State.reset with port := ⟨.working (.format r k), false, [], .high⟩, arb := ⟨some .formatStep, 0, 0⟩ }

theorem witness_FormatZeroesRegions :
    (st4.takesPut ∧ st4.ctl.state ≠ .offline)
      ∧ ({ State.reset with ctl := { State.reset.ctl with guardSet := 1 } } : State).takesPut
      ∧ (State.reset.takesPut ∧ State.reset.ctl.state = .offline ∧ State.reset.ctl.guardSet = 0 ∧ State.reset.applyQ = []
        ∧ State.reset.serving = [] ∧ State.reset.arb.op = none)
      ∧ (formatting 63 15).arb.op = some .formatStep ∧ (formatting 63 15).port.state = .working (.format 63 15)
      ∧ (formatting 0 0).arb.op = some .formatStep ∧ (formatting 0 0).port.state = .working (.format 0 0) :=
  ⟨⟨⟨rfl, rfl⟩, by decide⟩, ⟨rfl, rfl⟩, ⟨⟨rfl, rfl⟩, rfl, rfl, rfl, rfl, rfl⟩, rfl, rfl, rfl, rfl⟩

/-- The part in OFFLINE with an array operation in progress and two Apply Queue entries. -/
def offlineOp (op : ArrayOp) : State :=
  { State.reset with
    arb := ⟨some op, 0, 0⟩
    applyQ := [⟨0, 5, .update 0 [1, 2]⟩, ⟨1, 6, .update 0 [1, 2]⟩] }

theorem witness_FormatZeroesRegions_busy :
    ((offlineOp .apply).takesPut ∧ (offlineOp (.chunkRead 5 0 ⟨3, 48⟩ false)).takesPut)
      ∧ (offlineOp .apply).ctl.state = .offline ∧ (offlineOp .apply).arb.op = some .apply
      ∧ (offlineOp (.chunkRead 5 0 ⟨3, 48⟩ false)).arb.op ≠ none
      ∧ (offlineOp (.chunkRead 5 0 ⟨3, 48⟩ false)).arb.op ≠ some .apply
      ∧ (run (offlineOp .apply) (.format false)).applyQ = [⟨0, 5, .update 0 [1, 2]⟩] :=
  ⟨⟨⟨rfl, rfl⟩, ⟨rfl, rfl⟩⟩, rfl, rfl, by decide, by decide, by decide +kernel⟩

/-- Station 4 at the end of its listen window, holding no region, with or without a duplicate heard and its peers. -/
def listening (duplicate peers : Bool) : State :=
  { st4 with
    ctl := { st4.ctl with state := .listening, listenTimer := some 16, duplicateHeard := duplicate }
    roster := if peers then st4.roster else State.reset.roster
    table := State.reset.table }

theorem witness_JoinAndListenWindow :
    (st4.takesPut ∧ st4.ctl.state ≠ .offline ∧ State.reset.takesPut ∧ State.reset.ctl.state = .offline)
      ∧ ((listening true true).power = .on ∧ (listening true true).ctl.state = .listening
        ∧ (listening true true).ctl.listenTimer ≠ none ∧ (listening true true).ctl.duplicateHeard = true)
      ∧ ((listening false true).ctl.duplicateHeard = false ∧ ∀ r : Region, (listening false true).table[r].held = false)
      ∧ (listening false true).quorum ≤ (listening false true).quorumCount
      ∧ (listening false false).quorumCount < (listening false false).quorum := by
  refine ⟨⟨⟨rfl, rfl⟩, by decide, ⟨rfl, rfl⟩, rfl⟩, ?_⟩
  decide +kernel

/-- The same, holding region 63. -/
def listeningHeld : State :=
  { listening false true with
    table := State.reset.table.set 63 ⟨⟨3, 1⟩, .current, none, true, false, false, false⟩ }

theorem witness_JoinAndListenWindow_held :
    (listeningHeld.power = .on ∧ listeningHeld.ctl.state = .listening ∧ listeningHeld.ctl.listenTimer ≠ none
        ∧ listeningHeld.ctl.duplicateHeard = false ∧ listeningHeld.quorum ≤ listeningHeld.quorumCount)
      ∧ (∀ q : Region, q < 63 → listeningHeld.table[q].held = false) ∧ listeningHeld.table[(63 : Region)].held = true
      ∧ listeningHeld.owns 63 = false ∧ listeningHeld.out.hostClaim ≠ some 63
      ∧ listeningHeld.table[(63 : Region)].copy = .current ∧ listeningHeld.table[(63 : Region)].stamp.epoch.toNat ≠ 65535 := by
  decide +kernel

/-- Station 4 leaving, in a phase, with or without a frame in its transmit slot. -/
def leaving (phase : LeavePhase) (slot : Option TxSlot) : State :=
  { st4Out (tenUpdates false) with
    ctl := { st4.ctl with state := .leaving, leavePhase := phase, leaveTimer := some 250, beaconTimer := none }
    line := { st4.line with slot := slot }
    arb := ⟨some .apply, 0, 0⟩ }

theorem witness_LeaveAndItsTimer :
    ((st4In .halted).takesPut ∧ (st4In .halted).ctl.state = .halted ∧ st4.takesPut ∧ st4.ctl.state = .active)
      ∧ ((leaving .drain none).power = .on ∧ (leaving .drain none).ctl.state = .leaving
        ∧ (leaving .drain none).ctl.leaveTimer ≠ none ∧ (leaving .drain none).ctl.leavePhase = .drain
        ∧ ∀ x ∈ (leaving .drain none).out.entries, x.sending = false)
      ∧ ((leaving .final (some ⟨.pull ⟨4, 7, ⟨2, 10⟩, false⟩, none⟩)).line.slot ≠ none
        ∧ (leaving .final (some ⟨.pull ⟨4, 7, ⟨2, 10⟩, false⟩, none⟩)).arb.op ≠ none
        ∧ (leaving .final (some ⟨.pull ⟨4, 7, ⟨2, 10⟩, false⟩, none⟩)).serving = []
        ∧ (leaving .final (some ⟨.pull ⟨4, 7, ⟨2, 10⟩, false⟩, none⟩)).catchup.pulls = [])
      ∧ (leaving .final none).ctl.leavePhase = .final ∧ (leaving .final none).line.slot = none := by
  refine ⟨⟨⟨rfl, rfl⟩, rfl, ⟨rfl, rfl⟩, rfl⟩, ?_⟩
  decide +kernel

/-- The station of section 8.5.1 as its host puts LEAVE, with the PULL entry of its closed pull WAITING or SENDING. -/
def leaveExample (sending : Bool) : State :=
  { st4 with
    table := (st4.table.set 2 ⟨⟨1, 1⟩, .fetching .behind, some ⟨9, 1⟩, false, false, false, false⟩).set 9
      ⟨⟨1, 1⟩, .current, some ⟨4, 1⟩, true, false, false, true⟩
    out := { st4.out with
      entries := [⟨5, .update { update5 with sealed := true, inFence := true, retries := 1 }, false, .none⟩,
        ⟨9, .update update5, false, .none⟩, ⟨30, .claim .host, false, .none⟩, ⟨9, .image ⟨⟨1, 1⟩, 0, 0x0800, []⟩, false, .none⟩,
        ⟨2, .pull true, sending, .none⟩]
      fence := some ⟨0, 0⟩
      hostClaim := some 30 }
    serving := [⟨9, ⟨1, 1⟩, [⟨11, 0xFFFF, 0⟩], 1, 0, .none⟩]
    catchup := ⟨[], 0, [⟨0, 2, 9, 1, none, some ⟨1, 1⟩, 1, 0, true, false⟩]⟩ }

/-- The first row of the table of section 8.5.1. -/
theorem witness_LeaveAndItsTimer_example :
    ((leaveExample false).takesPut ∧ (leaveExample false).ctl.state = .active
        ∧ ((leaveExample false).out.fence ≠ none → ∃ x ∈ (leaveExample false).out.entries, x.inFence = true))
      ∧ (run (leaveExample false) .leave).out.entries = (leaveExample false).out.entries.take 3
      ∧ (run (leaveExample false) .leave).out.fence = some ⟨0, 0⟩ ∧ (run (leaveExample false) .leave).out.hostClaim = some 30
      ∧ (run (leaveExample false) .leave).table[(2 : Region)].copy = .stale .damaged
      ∧ (run (leaveExample true) .leave).out.entries.drop 3 = [⟨2, .pull true, true, .discard⟩]
      ∧ (run (leaveExample true) .leave).ctl.leavePhase = .drain := by
  refine ⟨⟨⟨rfl, rfl⟩, ?_⟩, ?_⟩ <;> decide +kernel

/-- Station 4 draining: an in-fence UPDATE of region 5 SENDING, another WAITING, and its host claim WAITING. -/
def draining : State :=
  { leaving .drain (some ⟨.update ⟨4, 5, 3, 48, 49, 0, [1, 2]⟩, none⟩) with
    out := { st4.out with
      entries := [⟨5, .update { update5 with sealed := true, inFence := true }, true, .none⟩,
        ⟨5, .update { update5 with sealed := true, inFence := true }, false, .none⟩, ⟨63, .claim .host, false, .none⟩]
      fence := some ⟨0, 0⟩
      hostClaim := some 63 } }

theorem witness_LeaveAndItsTimer_sending :
    (draining.power = .on ∧ draining.ctl.state = .leaving ∧ draining.ctl.leaveTimer ≠ none ∧ draining.ctl.leavePhase = .drain)
      ∧ draining.out.fence = some ⟨0, 0⟩ ∧ (∃ y ∈ draining.out.entries, y.sending = true ∧ y.inFence = true)
      ∧ (run draining .leaveDrainCut).out.hostClaim = none ∧ (run draining .leaveDrainCut).out.fence = some ⟨0, 1⟩
      ∧ (run draining .leaveDrainCut).ctl.discarded = 2
      ∧ (run (run draining .leaveDrainCut) .lineFault).events = [.fenceDone 0 2]
      ∧ (run (run draining .leaveDrainCut) .lineFault).ctl.leavePhase = .final := by decide +kernel

/-- Station 4 in phase FINAL, its leave timer run out, with its LEAVING beacon under way. -/
def lastAttempt : State :=
  let s := leaving .final (some ⟨.beacon ⟨4, .leaving, 0x0212, []⟩, none⟩)
  { s with ctl := { s.ctl with leaveTimer := none } }

theorem witness_LeaveAndItsTimer_lastAttempt :
    (lastAttempt.power = .on ∧ lastAttempt.ctl.state = .leaving ∧ lastAttempt.ctl.leavePhase = .final
        ∧ lastAttempt.ctl.leaveTimer = none ∧ lastAttempt.line.slot = some ⟨.beacon ⟨4, .leaving, 0x0212, []⟩, none⟩
        ∧ lastAttempt.line.faults < 15)
      ∧ (run lastAttempt .lostArbitration).events = [.left 0] ∧ (run lastAttempt .lineFault).ctl.state = .offline := by
  decide +kernel

/-- Phase FINAL ends once its timer has run out and no attempt is under way. -/
theorem witness_PullsOpenAndReadsAreRequested_ends :
    let s : State := { lastAttempt with line := { lastAttempt.line with slot := none } }
    (s.ctl.state = .leaving ∧ s.ctl.leavePhase = .final ∧ s.ctl.leaveTimer = none ∧ s.line.slot = none)
      ∧ s.finalEnd.ctl.state = .offline ∧ s.finalEnd.events = [.left 0] ∧ lastAttempt.finalEnd = lastAttempt := by decide +kernel

theorem witness_DozeAndWakeInOrder :
    (st4.takesPut ∧ (st4In .isolated).takesPut ∧ (st4In .halted).takesPut ∧ (st4In .dozing).takesPut)
      ∧ (st4In .isolated).ctl.state = .isolated ∧ (st4In .halted).ctl.state = .halted ∧ (st4In .dozing).ctl.state = .dozing
      ∧ (st4In .dozing).out.sweep.phase = .inactive :=
  ⟨⟨⟨rfl, rfl⟩, ⟨rfl, rfl⟩, ⟨rfl, rfl⟩, ⟨rfl, rfl⟩⟩, rfl, rfl, rfl, rfl⟩

/-- Station 4 dozing with its sweep paused, with or without its peers and an outstanding SWEEP claim. -/
def dozingPaused (peers : Bool) (outstanding : Option Region) : State :=
  { st4In .dozing with
    roster := if peers then st4.roster else State.reset.roster
    out := { st4.out with sweep := ⟨.paused, 63, outstanding⟩ } }

theorem witness_DozeAndWakeInOrder_paused :
    ((dozingPaused false none).out.sweep.phase = .paused
        ∧ ¬ (dozingPaused false none).groupSize / 2 + 1 ≤ (dozingPaused false none).quorumCount)
      ∧ (dozingPaused true (some 63)).out.sweep.phase = .paused
      ∧ (dozingPaused true (some 63)).groupSize / 2 + 1 ≤ (dozingPaused true (some 63)).quorumCount
      ∧ (dozingPaused true (some 63)).out.sweep.outstanding ≠ none := by decide +kernel

/-- The write of one Apply Queue entry in progress. -/
def applying (b : ApplyBody) : State := { st4 with applyQ := [⟨0, 7, b⟩], arb := ⟨some .apply, 0, 0⟩ }

/-- A pull of region 7 that collects (2, 12) and has written all chunks but the last. -/
def pull7Collecting (written : ChunkSet) : PullRecord := ⟨0, 7, 1, 1, none, some ⟨2, 12⟩, 0xFFFF, written, true, false⟩
def collecting (written : ChunkSet) : State := { st4Pull with catchup := ⟨[], 0, [pull7Collecting written]⟩ }

theorem witness_ApplyWriteAndPullCompletion :
    ((applying (.update 4094 [1, 2])).arb.op = some .apply
        ∧ (applying (.update 4094 [1, 2])).applyQ = ⟨0, 7, .update 4094 [1, 2]⟩ :: [] ∧ 4094 + ([1, 2] : List Byte).length ≤ 4096)
      ∧ ((applying (.chunk 15 (List.replicate 256 0) ⟨2, 12⟩ 0)).arb.op = some .apply
        ∧ (List.replicate 256 (0 : Byte)).length ≤ 256)
      ∧ (∀ p ∈ st4.catchup.pulls, ¬(p.id = 0 ∧ p.collecting = some ⟨2, 12⟩))
      ∧ ((collecting 0x7FFE).catchup.pulls = [pull7Collecting 0x7FFE] ∧ (pull7Collecting 0x7FFE).id = 0
        ∧ (pull7Collecting 0x7FFE).collecting = some ⟨2, 12⟩ ∧ addBit (pull7Collecting 0x7FFE).written 15 ≠ 0xFFFF)
      ∧ addBit (pull7Collecting 0x7FFF).written 15 = 0xFFFF ∧ (collecting 0x7FFF).out.fence = none := by decide +kernel

theorem witness_ApplyWriteAndPullCompletion_power :
    (applying (.chunk 0 [] ⟨2, 12⟩ 0)).power = .on
      ∧ ({ applying (.chunk 0 [] ⟨2, 12⟩ 0) with power := .resetPending none } : State).power ≠ .on := by decide +kernel

/-- The pull of region 7 among two, and a fence that an in-fence entry keeps open. -/
def collectingTwo (written : ChunkSet) : State :=
  { collecting written with
    catchup := ⟨[], 0, [pull9, pull7Collecting written]⟩
    out := { (sendingDoomed .none).out with fence := some ⟨0, 0⟩ } }

theorem witness_ApplyWriteAndPullCompletion_two :
    (collectingTwo 0x7FFF).catchup.pulls
        = [pull9] ++ pull7Collecting 0x7FFF :: []
      ∧ (pull7Collecting 0x7FFF).id = 0 ∧ (pull7Collecting 0x7FFF).collecting = some ⟨2, 12⟩
      ∧ (∀ x ∈ [pull9], ¬(x.id = 0 ∧ x.collecting = some ⟨2, 12⟩))
      ∧ (∀ x ∈ [pull9] ++ [], x.region ≠ (pull7Collecting 0x7FFF).region)
      ∧ addBit (pull7Collecting 0x7FFF).written 15 = 0xFFFF ∧ (collectingTwo 0x7FFF).out.fence ≠ none
      ∧ (∃ x ∈ (collectingTwo 0x7FFF).out.entries, x.inFence = true)
      ∧ lastChunkInReset.power = .resetPending none := by decide +kernel

/-- Station 4 with the read of chunk 15 of region 5 in progress. -/
def chunkReading (v : ServingRecord) (live : Bool) : State :=
  { st4 with serving := [v], arb := ⟨some (.chunkRead 5 15 ⟨3, 48⟩ live), 0, 0⟩ }

theorem witness_ChunkReadMakesImageEntry :
    (chunkReading ⟨5, ⟨3, 48⟩, [⟨1, 0x8000, 0⟩], 15, 0, .inProgress⟩ false).arb.op = some (.chunkRead 5 15 ⟨3, 48⟩ false)
      ∧ (chunkReading ⟨5, ⟨3, 48⟩, [⟨1, 0x8000, 0⟩], 15, 0, .inProgress⟩ true).servingOf 5
        = some ⟨5, ⟨3, 48⟩, [⟨1, 0x8000, 0⟩], 15, 0, .inProgress⟩
      ∧ (∃ q ∈ [(⟨1, 0x8000, 0⟩ : Target)], inMap q.needed 15 = true)
      ∧ ∀ q ∈ [(⟨1, 0x7FFF, 0⟩ : Target)], inMap q.needed 15 = false := by decide +kernel

/-- The state of section 7.2.1 with no host request, and with no Image Server read. -/
def noHost (host image : Nat) : State := { arbiterExample host image with port := st4.port }
def noImage (host image : Nat) : State := { arbiterExample host image with serving := [] }

theorem witness_ArbiterGrantsInOrder :
    st4Read.arb.op ≠ none ∧ (arbiterExample 0 4).arb.op = none
      ∧ ((arbiterExample 0 4).waitingRead = some ⟨5, ⟨3, 48⟩, [⟨1, 0xFFFF, 0⟩], 0, 0, .requested 0 9⟩ ∧ (arbiterExample 0 4).arb.imageWait = 4)
      ∧ ((noImage 4 0).waitingRead = none ∧ (noImage 4 0).headWaits = true ∧ (noImage 4 0).arb.hostStreak = 4)
      ∧ ((noHost 0 3).arb.imageWait ≠ 4 ∧ (noHost 0 3).headWaits = true ∧ (noHost 0 3).hostWaits = false)
      ∧ ((noImage 3 0).arb.hostStreak ≠ 4 ∧ (noImage 3 0).hostWaits = true)
      ∧ (({ noHost 0 0 with applyQ := [] } : State).headWaits = false ∧ ({ noHost 0 0 with applyQ := [] } : State).hostWaits = false)
      ∧ (st4.waitingRead = none ∧ st4.headWaits = false ∧ st4.hostWaits = false)
      ∧ (arbiterExample 0 0).applyQ = ⟨9, 10, .update 0 [1, 2]⟩ :: []
      ∧ (arbiterExample 0 0).port.state = .working (.read ⟨3, ⟨0, 0⟩, .current, 0, 1536, [], 9⟩)
      ∧ (writing 5).port.state = .working (.write ⟨5, 4094, [1, 2], 0⟩) := by decide +kernel

/-- Station 4 with its stale region 7 listed. -/
def listed7 : State := { st4 with catchup := ⟨[7], 0, []⟩ }

theorem witness_PullsOpenAndReadsAreRequested :
    ((st4In .dozing).ctl.state.working = false ∧ ∀ p ∈ (st4In .dozing).catchup.pulls, p.owed = false)
      ∧ (listed7.ctl.state.working = true ∧ listed7.catchup.pulls = [] ∧ listed7.catchup.list = [] ++ 7 :: []
        ∧ listed7.table[(7 : Region)].copy = .stale .behind ∧ listed7.table[(7 : Region)].owner = some ⟨1, 2⟩
        ∧ (1 : Station) ≠ listed7.own ∧ listed7.statusOf 1 = .present ∧ ∀ x ∈ listed7.out.entries, x.isPull = false)
      ∧ ((st4Serving 0).serving = [serving5 0] ∧ (serving5 0).read = .none
        ∧ (∀ x ∈ (st4Serving 0).out.entries, x.isImage = false)
        ∧ (∃ q ∈ (serving5 0).targets, inMap q.needed ((serving5 0).next + 8) = true)
        ∧ ∀ j : Chunk, j < 8 → ∀ q ∈ (serving5 0).targets, inMap q.needed ((serving5 0).next + j) = false) := by decide +kernel

/-- The Host Port presents a FORMAT step, and nothing with a SETUP or an answer; the Image Server's request waits (R136). -/
theorem witness_ArbiterGrantsInOrder_waits : (st4Port (.working (.format 3 2))).hostWaits = true
    ∧ (st4Port (.working (.setup 0 0))).hostWaits = false ∧ (st4Port (.answer ⟨0x01, .done, []⟩)).hostWaits = false
    ∧ (st4Serving 0).waitingRead = none ∧ (st4Serving 0).requestReads.waitingRead.isSome = true ∧ st4.applyQ = [] := by decide +kernel

/-- Station 4 with its regions 3 and 7 stale, both of station 1, and a CURRENT region between them in its list. -/
def listedTwo (pulls : List PullRecord) : State :=
  { st4 with
    catchup := ⟨[3, 9, 7], 0, pulls⟩
    table := st4.table.set 3 ⟨⟨2, 1⟩, .stale .damaged, some ⟨1, 2⟩, false, false, false, false⟩ }

theorem witness_PullsOpenAndReadsAreRequested_two :
    ((listedTwo []).ctl.state.working = true ∧ (listedTwo []).catchup.pulls = []
        ∧ (listedTwo []).catchup.list = [] ++ 3 :: [9] ++ 7 :: [] ∧ (3 : Region) ≠ 7
        ∧ (∀ x ∈ ([] ++ [9] : List Region), (listedTwo []).pullable x = false)
        ∧ (listedTwo []).table[(3 : Region)].copy = .stale .damaged ∧ (listedTwo []).table[(7 : Region)].copy = .stale .behind
        ∧ (listedTwo []).table[(3 : Region)].owner = some ⟨1, 2⟩ ∧ (listedTwo []).table[(7 : Region)].owner = some ⟨1, 2⟩
        ∧ (listedTwo []).statusOf 1 = .present ∧ ∀ x ∈ (listedTwo []).out.entries, x.isPull = false)
      ∧ ((listedTwo [⟨0, 1, 9, 1, some 3, none, 0, 0, false, false⟩]).catchup.pulls.length = 1
        ∧ (∀ p ∈ (listedTwo [⟨0, 1, 9, 1, some 3, none, 0, 0, false, false⟩]).catchup.pulls, p.owed = false ∧ p.region ≠ 3)
        ∧ (listedTwo [⟨0, 1, 9, 1, some 3, none, 0, 0, false, false⟩]).out.entries.countP OutEntry.isPull < 2)
      ∧ 2 ≤ (listedTwo [⟨0, 1, 9, 1, some 3, none, 0, 0, false, false⟩, ⟨1, 2, 9, 1, some 3, none, 0, 0, false, false⟩]).catchup.pulls.length := by
  decide +kernel

/-- Station 4 with the pull of region 7 owed its PULL entry, while as many discarded PULL entries stand. -/
def owedPull (standing : Nat) : State :=
  { st4Pull with
    catchup := ⟨[], 0, [{ pull7 with timer := none, owed := true }]⟩
    out := { st4.out with entries := List.replicate standing ⟨3, .pull false, true, .discard⟩ } }

theorem witness_PullsOpenAndReadsAreRequested_owed :
    ((owedPull 1).nextPull = none ∧ ((owedPull 1).catchup.pulls.map (·.region)).Nodup)
      ∧ (owedPull 1).openPulls.out.entries = [⟨3, .pull false, true, .discard⟩, ⟨7, .pull false, false, .none⟩]
      ∧ (owedPull 2).nextPull = none ∧ (owedPull 2).openPulls = owedPull 2
      ∧ listed7.nextPull = some (7, 1, .behind) ∧ (∀ r ∈ (owedPull 2).catchup.list, (owedPull 2).pullable r = false) := by decide +kernel

/-- Station 4 serving regions 5 and 10, the record of region 10 with its own read. -/
def servingPair (read : ChunkRead) (es : List OutEntry) : State :=
  { st4Out es with serving := [serving5 0, ⟨10, ⟨3, 1⟩, [⟨9, 0xFFFF, 0⟩], 3, 0, read⟩] }

/-- Chunks 0 to 7 are needed in region 5 from index 8 on, and all in region 10 from index 3 on: 0 and 3 are read (R123). -/
theorem witness_PullsOpenAndReadsAreRequested_pair :
    ((servingPair .none []).serving = [] ++ serving5 0 :: [⟨10, ⟨3, 1⟩, [⟨9, 0xFFFF, 0⟩], 3, 0, .none⟩]
        ∧ (∀ x ∈ (servingPair .none []).out.entries, x.isImage = false) ∧ (5 : Region) ≠ 10)
      ∧ (servingPair .none []).requestReads.serving.map (·.read) = [.requested 0 0, .requested 3 1]
      ∧ (servingPair .inProgress []).requestReads.serving.map (·.read) = [.requested 0 0, .inProgress]
      ∧ (servingPair .inProgress [⟨9, .image ⟨⟨3, 1⟩, 0, 0x0002, []⟩, true, .discard⟩]).requestReads
        = servingPair .inProgress [⟨9, .image ⟨⟨3, 1⟩, 0, 0x0002, []⟩, true, .discard⟩] := by decide +kernel

theorem witness_StaleMark :
    (st4.table[(5 : Region)].copy = .current ∧ st4.ctl.state = .active)
      ∧ (st4.table[(7 : Region)].copy = .stale .behind ∧ (st4In .listening).ctl.state = .listening)
      ∧ ((st4In .dozing).ctl.state ≠ .active ∧ (st4In .dozing).ctl.state ≠ .isolated ∧ (st4In .dozing).ctl.state ≠ .listening)
      ∧ inMap ({ st4 with catchup := ⟨[], 0x80, []⟩ } : State).catchup.parked 7 = true ∧ inMap st4.catchup.parked 7 = false := by
  decide +kernel

theorem witness_OwnerLearningAndChange :
    (st4.owns 63 = false ∧ st4.table[(63 : Region)].owner = none)
      ∧ (st4.owns 7 = false ∧ st4.table[(7 : Region)].owner = some ⟨1, 2⟩ ∧ (2 : Epoch).toNat < (3 : Epoch).toNat
        ∧ st4.statusOf 1 ≠ .absent ∧ (2 : Epoch).toNat ≤ (2 : Epoch).toNat)
      ∧ (st4.table[(7 : Region)].owner.map (·.station) = (some (⟨1, 3⟩ : Owner)).map (·.station)
        ∧ st4.table[(7 : Region)].owner.map (·.station) ≠ (some (⟨9, 3⟩ : Owner)).map (·.station))
      ∧ (st4Pull.pullOf 7 = some pull7 ∧ st4Pull.table[(7 : Region)].copy = .fetching .behind ∧ st4Pull.out.fence = none)
      ∧ st4.owns 5 = true
      ∧ ({ st4Port (.working (.write ⟨5, 0, [1, 2], 0⟩)) with arb := ⟨none, 0, 0⟩ } : State).arb.op ≠ some .hostWrite
      ∧ (4 : Station) = st4.own := by decide +kernel

theorem witness_OwnerLearningAndChange_listed :
    (st4Pull.ctl.state = .active ∧ st4Pull.pullOf 7 ≠ none)
      ∧ inMap ({ st4 with catchup := ⟨[], 0x80, []⟩ } : State).catchup.parked 7 = true
      ∧ ((st4In .dozing).ctl.state ≠ .active ∧ (st4In .dozing).ctl.state ≠ .isolated)
      ∧ (st4.pullOf 7 = none ∧ inMap st4.catchup.parked 7 = false) := by decide +kernel

theorem witness_ConflictResolution :
    (st4.owns 5 = true ∧ (9 : Station) ≠ st4.own)
      ∧ (stampLower ⟨3, 47⟩ st4.table[(5 : Region)].stamp = true ∧ st4.own.val < (9 : Station).val)
      ∧ (stampLower st4.table[(5 : Region)].stamp ⟨3, 49⟩ = true ∧ (1 : Station).val < st4.own.val)
      ∧ st4.table[(5 : Region)].copy = .current ∧ st4.pullOf 5 = none ∧ st4.out.fence = none ∧ st4.ctl.state ≠ .listening := by
  decide +kernel

/-- Station 4 with a fence open over a WAITING UPDATE of region 5, and perhaps over one of region 10 too. -/
def fenced (more : Bool) : State :=
  { st4 with out := { st4.out with
      entries := ⟨5, .update { update5 with sealed := true, inFence := true }, false, .none⟩
        :: if more then [⟨10, .update { update5 with sealed := true, inFence := true }, false, .none⟩] else []
      fence := some ⟨0x0002, 1⟩ } }

theorem witness_ConflictResolution_fence :
    ((fenced false).owns 5 = true ∧ ((fenced false).out.fence ≠ none → ∃ x ∈ (fenced false).out.entries, x.inFence = true)
        ∧ (fenced false).table[(5 : Region)].copy = .current ∧ (fenced false).pullOf 5 = none)
      ∧ ((fenced true).owns 5 = true ∧ ((fenced true).out.fence ≠ none → ∃ x ∈ (fenced true).out.entries, x.inFence = true))
      ∧ (State.resolveConflict (fenced false) 5 1 ⟨3, 49⟩).out.fence = none
      ∧ (State.resolveConflict (fenced false) 5 1 ⟨3, 49⟩).events
        = [.fenceDone 0x0002 2, .regionStale 5 .damaged, .ownershipLost 5 true]
      ∧ (State.resolveConflict (fenced true) 5 1 ⟨3, 49⟩).out.fence = some ⟨0x0002, 2⟩
      ∧ (State.resolveConflict (fenced true) 5 1 ⟨3, 49⟩).out.entries.map (·.region) = [10] := by decide +kernel

/-- Station 4 with the pull of region 7 open, its fence open, and a WRITE to region 5 that waits for the array. -/
def fencedPull : State :=
  { fenced true with
    table := st4Pull.table
    catchup := st4Pull.catchup
    port := { st4.port with state := .working (.write ⟨5, 0, [1, 2], 0⟩) }
    arb := ⟨none, 0, 0⟩ }

theorem witness_OwnerLearningAndChange_fence :
    (fencedPull.out.fence ≠ none ∧ ∃ x ∈ fencedPull.out.entries, x.inFence = true)
      ∧ fencedPull.table[(7 : Region)].owner.map (·.station) ≠ (some (⟨9, 3⟩ : Owner)).map (·.station)
      ∧ fencedPull.pullOf 7 = some pull7 ∧ fencedPull.table[(7 : Region)].copy = .fetching .behind ∧ fencedPull.ctl.state = .active
      ∧ (fencedPull.changeOwner 7 (some ⟨9, 3⟩)).out.fence = fencedPull.out.fence := by decide +kernel

/-- Station 4 whose roster shows no peer. -/
def alone (x : StationState) : State := { st4In x with roster := State.reset.roster }

theorem witness_QuorumAndIsolation :
    (alone .active).isMember (alone .active).own = true
      ∧ ((alone .active).ctl.state = .active ∧ (alone .active).quorumCount < (alone .active).quorum)
      ∧ ((st4In .isolated).ctl.state = .isolated ∧ (st4In .isolated).quorum ≤ (st4In .isolated).quorumCount)
      ∧ ((alone .isolated).ctl.state ≠ .active ∧ (alone .isolated).quorumCount < (alone .isolated).quorum) := by decide +kernel

/-- Station 4 with station 1 its one peer PRESENT, or SILENT. -/
def onePeer (x : StationState) (st : Presence) : State :=
  { st4In x with roster := { State.reset.roster with entries := State.reset.roster.entries.set 1 ⟨st, some 0, false⟩ } }

theorem witness_QuorumAndIsolation_change :
    ((onePeer .active .present).statusOf 1 ≠ .silent ∧ (onePeer .active .present).out.fence = none
        ∧ (State.statusTold (onePeer .active .present) 1 .silent).quorumCount < (onePeer .active .present).quorum
        ∧ (State.statusChange (onePeer .active .present) 1 .silent).events = [.station 1 .silent, .isolation true])
      ∧ ((onePeer .isolated .silent).statusOf 1 ≠ .present ∧ (onePeer .isolated .silent).out.sweep.phase = .inactive
        ∧ (onePeer .isolated .silent).quorum ≤ (State.statusTold (onePeer .isolated .silent) 1 .present).quorumCount
        ∧ (State.statusChange (onePeer .isolated .silent) 1 .present).events = [.station 1 .present, .isolation false])
      ∧ (State.statusChange st4 1 .silent).events = [.station 1 .silent] ∧ st4.statusOf 1 = .present := by decide +kernel

/-- Station 4 sweeping at a region, of which it holds 63 with a stamp. -/
def sweeping (r : Region) (stamp : Stamp) : State :=
  { st4 with
    out := { st4.out with sweep := ⟨.running, r, none⟩ }
    table := st4.table.set 63 ⟨stamp, .current, none, true, false, false, false⟩ }

theorem witness_SweepWalks :
    st4.out.sweep.phase ≠ .running
      ∧ ((sweeping 63 ⟨3, 1⟩).out.sweep.phase = .running ∧ (sweeping 63 ⟨3, 1⟩).out.sweep.outstanding = none
        ∧ (sweeping 63 ⟨3, 1⟩).table[(63 : Region)].held = true ∧ (sweeping 63 ⟨3, 1⟩).owns 63 = false
        ∧ (sweeping 63 ⟨3, 1⟩).out.hostClaim ≠ some 63 ∧ (sweeping 63 ⟨3, 1⟩).table[(63 : Region)].copy = .current
        ∧ (sweeping 63 ⟨3, 1⟩).table[(63 : Region)].stamp.epoch.toNat ≠ 65535)
      ∧ (sweeping 63 ⟨0xFFFF, 1⟩).table[(63 : Region)].stamp.epoch.toNat = 65535
      ∧ (sweeping 0 ⟨3, 1⟩).table[(0 : Region)].held = false
      ∧ ∀ q : Region, ({ sweeping 0 ⟨3, 1⟩ with table := State.reset.table } : State).table[q].held = false := by decide +kernel

/-- The walk passes region 0, which is not held, and ends it at region 63 with the held flag cleared (R104). -/
theorem witness_SweepWalks_on : (State.sweepAct (sweeping 0 ⟨3, 1⟩)).2 = true ∧ (State.sweepAct (sweeping 63 ⟨0xFFFF, 1⟩)).2 = true
    ∧ (State.sweepAct (sweeping 63 ⟨3, 1⟩)).2 = false
    ∧ (State.sweepWalk (sweeping 0 ⟨0xFFFF, 1⟩)).events = [.claimDone 63 0 .sweep (some .exhausted)] := by decide +kernel

theorem witness_RosterFollowsFrames_change :
    ((onePeer .isolated .silent).statusOf 1
        ≠ (State.rosterHandoff (onePeer .isolated .silent) (.beacon ⟨1, .active, 0x0002, []⟩)).statusOf 1
      ∧ (State.rosterHandoff (onePeer .isolated .silent) (.beacon ⟨1, .active, 0x0002, []⟩)).events
        = [.station 1 .present, .isolation false, .membersDiffer 1])
      ∧ (onePeer .isolated .silent).statusOf 1 ≠ .present
      ∧ (State.rosterHandoff (onePeer .dozing .silent) (pullFrom 1)).events = [.station 1 .present] := by decide +kernel

theorem witness_RosterFollowsFrames :
    (Frame.beacon ⟨1, .leaving, 0x0002, []⟩).origin ≠ st4.own ∧ (0x0002 : StationMap) ≠ st4.ctl.members
      ∧ st4.roster.entries[(1 : Station)].differs = false
      ∧ (∀ b, Frame.pull ⟨1, 5, ⟨0, 0⟩, false⟩ ≠ .beacon b) ∧ st4.statusOf 1 = .present :=
  ⟨by decide, by decide, by decide, (fun _ h => nomatch h), by decide⟩

/-- Station 4 with a claim of its own for region 63, whose copy stands at an epoch. -/
def claiming (epoch : Epoch) : State :=
  { st4Out [⟨63, .claim .host, false, .none⟩] with
    out := { st4.out with entries := [⟨63, .claim .host, false, .none⟩], hostClaim := some 63 }
    table := st4.table.set 63 ⟨⟨epoch, 1⟩, .current, none, false, false, false, false⟩ }

/-- Station 4 with a beacon due. -/
def beaconDue : State := { st4 with ctl := { st4.ctl with beaconDue := true } }

theorem witness_LineIdleOffers :
    ((st4In .halted).power = .on ∧ (st4In .halted).ctl.state.receives = false)
      ∧ (beaconDue.power = .on ∧ beaconDue.ctl.state.receives = true ∧ beaconDue.line.slot = none ∧ beaconDue.line.rx = none
        ∧ beaconDue.ctl.beaconDue = true ∧ beaconDue.ctl.state.onLine = true)
      ∧ (st4.ctl.beaconDue = false ∧ ∀ x ∈ st4.out.entries, x.offerable = false)
      ∧ ((st4Out (tenUpdates true)).ctl.state ≠ .listening ∧ (st4Out (tenUpdates true)).ctl.state ≠ .dozing
        ∧ (⟨5, .update { update5 with sealed := true }, false, .none⟩ : OutEntry).offerable = true
        ∧ (⟨5, .update { update5 with sealed := true }, false, .none⟩ : OutEntry).isClaim = false
        ∧ (st4Out [⟨5, .image ⟨⟨3, 48⟩, 0, 2, []⟩, false, .none⟩, ⟨5, .update update5, false, .none⟩]).out.entries
          = [⟨5, .image ⟨⟨3, 48⟩, 0, 2, []⟩, false, .none⟩] ++ ⟨5, .update update5, false, .none⟩ :: []
        ∧ (⟨5, .update update5, false, .none⟩ : OutEntry).priority < (⟨5, .image ⟨⟨3, 48⟩, 0, 2, []⟩, false, .none⟩ : OutEntry).priority)
      ∧ ((claiming 65534).power = .on ∧ (claiming 65534).ctl.state = .active ∧ (claiming 65534).line.slot = none
        ∧ (claiming 65534).line.rx = none ∧ (claiming 65534).ctl.beaconDue = false
        ∧ (claiming 65534).out.entries = [⟨63, .claim .host, false, .none⟩] ∧ (claiming 65534).table[(63 : Region)].copy = .current
        ∧ (claiming 65534).table[(63 : Region)].owner = none ∧ (claiming 65534).table[(63 : Region)].stamp.epoch.toNat ≠ 65535)
      ∧ (claiming 65535).table[(63 : Region)].stamp.epoch.toNat = 65535 := by decide +kernel

/-- Station 4 with the sweep's claim of a region, whose copy stands at an epoch, and holding region 63 at (3, 1) if `next`. -/
def sweepClaiming (r : Region) (epoch : Epoch) (next : Bool) : State :=
  { st4Out [⟨r, .claim .sweep, false, .none⟩] with
    out := { st4.out with entries := [⟨r, .claim .sweep, false, .none⟩], sweep := ⟨.running, r, some r⟩ }
    table := (State.reset.table.set 63 ⟨⟨3, 1⟩, .current, none, next, false, false, false⟩).set r
      ⟨⟨epoch, 1⟩, .current, none, true, false, false, false⟩ }

/-- That state once the withdrawn claim of region `r` has had its outcome, before the sweep walks on. -/
def sweepOutcome (s : State) (r : Region) : State :=
  State.setEntry { s with
    out := { s.out with
      entries := []
      sweep := if r = 63 then ⟨.inactive, s.out.sweep.position, none⟩ else ⟨.running, r + 1, none⟩ }
    events := postTo s.events (.claimDone r 0 .sweep (some .exhausted)) } r { s.table[r] with held := false }

theorem witness_LineIdleOffers_sweep :
    ((sweepClaiming 2 65534 false).out.entries = [⟨2, .claim .sweep, false, .none⟩]
        ∧ (sweepClaiming 2 65534 false).table[(2 : Region)].copy = .current
        ∧ (sweepClaiming 2 65534 false).table[(2 : Region)].owner = none
        ∧ (sweepClaiming 2 65534 false).table[(2 : Region)].stamp.epoch.toNat ≠ 65535)
      ∧ ((sweepClaiming 63 65535 false).table[(63 : Region)].stamp.epoch.toNat = 65535
        ∧ (sweepOutcome (sweepClaiming 63 65535 false) 63).sweepWalk.out.entries = [])
      ∧ (sweepOutcome (sweepClaiming 2 65535 true) 2).sweepWalk.out.entries = [⟨63, .claim .sweep, false, .none⟩]
      ∧ (sweepOutcome (sweepClaiming 2 65535 true) 2).sweepWalk.table[(63 : Region)].owner = none
      ∧ (run (sweepClaiming 2 65535 true) .lineIdle).line.slot = some ⟨.claim ⟨4, 63, ⟨3, 1⟩⟩, none⟩
      ∧ (run (sweepClaiming 2 65535 true) .lineIdle).events = [.claimDone 2 0 .sweep (some .exhausted)] := by decide +kernel

/-- A frame under way at an idle: a CLAIM past its ack point, and another frame. -/
theorem witness_LineIdleOffers_reception :
    (st4.ctl.state.receives = true ∧ (receiving (pullFrom 1)).line.slot = none
        ∧ (receiving (pullFrom 1)).line.rx = some ⟨pullFrom 1, true, true⟩)
      ∧ (receiving (.claim ⟨1, 5, ⟨3, 48⟩⟩)).line.rx = some ⟨.claim ⟨1, 5, ⟨3, 48⟩⟩, true, true⟩
      ∧ (run (receiving (.claim ⟨1, 5, ⟨3, 48⟩⟩)) .lineIdle).line.rx = none := by decide +kernel

/-- Station 4 leaving with its host claim of region 63 and an UPDATE, its copy of region 63 at an epoch. -/
def leavingClaim (epoch : Epoch) (es : List OutEntry) : State :=
  { claiming epoch with
    ctl := { st4.ctl with state := .leaving, leavePhase := .drain, leaveTimer := some 3, beaconTimer := none }
    out := { (claiming epoch).out with entries := ⟨63, .claim .host, false, .none⟩ :: es } }

/-- The claim that is withdrawn as the last entry ends the drain: the LEAVING beacon goes out at the same idle. -/
theorem witness_LineIdleOffers_leaving :
    ((leavingClaim 65535 []).power = .on ∧ (leavingClaim 65535 []).ctl.state = .leaving ∧ (leavingClaim 65535 []).ctl.beaconDue = false
        ∧ (leavingClaim 65535 []).table[(63 : Region)].stamp.epoch.toNat = 65535)
      ∧ (run (leavingClaim 65535 []) .lineIdle).line.slot = some ⟨.beacon ⟨4, .leaving, 0x0212, []⟩, none⟩
      ∧ (run (leavingClaim 65535 [⟨5, .update update5, false, .none⟩]) .lineIdle).line.slot
        = some ⟨.update ⟨4, 5, 3, 48, 49, 0, [1, 2]⟩, none⟩
      ∧ (leavingClaim 65534 [⟨5, .update update5, false, .none⟩]).out.entries
        = [] ++ ⟨63, .claim .host, false, .none⟩ :: [⟨5, .update update5, false, .none⟩] := by decide +kernel

theorem witness_CensusOfBeacon :
    (censusExample none [63] []).roster.front.Nodup ∧ (st4In .leaving).ctl.state = .leaving ∧ (st4In .dozing).ctl.state = .dozing
      ∧ (censusExample none [63] []).ctl.state ≠ .leaving ∧ (censusExample none [63] []).owns 63 = true
      ∧ (censusExample none [63] []).out.hasUpdate 63 = false ∧ (censusExample none [63] []).roster.front.head? = some 63
      ∧ st4.composeBeacon.frame = .beacon ⟨4, .active, 0x0212, [⟨5, ⟨3, 48⟩⟩]⟩
      ∧ (st4.ctl.state = .active ∧ st4.ctl.joining = false ∧ (st4In .isolated).ctl.state = .isolated) := by decide +kernel

theorem witness_AttemptWithoutFrameEnd :
    ((sending (.beacon ⟨4, .active, 0x0212, []⟩) []).power = .on
        ∧ (sending (.beacon ⟨4, .active, 0x0212, []⟩) []).line.slot = some ⟨.beacon ⟨4, .active, 0x0212, []⟩, none⟩
        ∧ (sending (.beacon ⟨4, .active, 0x0212, []⟩) []).line.faults < 15
        ∧ (sending (.beacon ⟨4, .active, 0x0212, []⟩) []).ctl.state ≠ .leaving)
      ∧ (15 ≤ ({ st4 with line := { st4.line with faults := 15 } } : State).line.faults ∧ st4.out.fence = none)
      ∧ (∀ b, Frame.claim ⟨4, 63, ⟨0, 0⟩⟩ ≠ .beacon b)
      ∧ ∀ x ∈ (sending (.claim ⟨4, 63, ⟨0, 0⟩⟩) [⟨63, .claim .host, true, .none⟩]).out.entries, x.sending = true → x.doom = .none :=
  ⟨by decide +kernel, by decide +kernel, (fun _ h => nomatch h), by decide +kernel⟩

theorem witness_AttemptWithoutFrameEnd_doomed :
    (sendingDoomed .cut).power = .on ∧ (sendingDoomed .cut).line.slot = some ⟨.update ⟨4, 5, 3, 48, 49, 0, [1, 2]⟩, none⟩
      ∧ (sendingDoomed .cut).out.entries
        = [] ++ ⟨5, .update { update5 with sealed := true, inFence := true }, true, .cut⟩ :: []
      ∧ (run (sendingDoomed .cut) .lostArbitration).events = [.fenceDone 0 1]
      ∧ (run (sendingDoomed .cut) .lostArbitration).ctl.discarded = 1
      ∧ (run (sendingDoomed .discard) .lineFault).ctl.discarded = 0 := by decide +kernel

theorem witness_AttemptWithoutFrameEnd_pull :
    ((pulling .none).line.slot = some ⟨.pull ⟨4, 7, ⟨2, 10⟩, false⟩, none⟩ ∧ (pulling .none).pullOf pull7.region = some pull7
        ∧ (pulling .none).out.entries = [] ++ ⟨pull7.region, .pull false, true, .none⟩ :: [])
      ∧ (∀ x ∈ (pulling .discard).out.entries, x.sending = true → x.isPull = true →
        x.doom ≠ .none ∨ (pulling .discard).pullOf x.region = none)
      ∧ ((pulling .none).answerAfterFault .tail (.pull ⟨4, 7, ⟨2, 10⟩, false⟩) = (pulling .none).setFree 1
        ∨ ((pulling .none).answerAfterFault .tail (.pull ⟨4, 7, ⟨2, 10⟩, false⟩)).catchup.pulls
          = [{ pull7 with timer := some 0 }]) := by
  refine ⟨by decide +kernel, by decide +kernel, ?_⟩
  show State.setFree (if Config.freeBit 0 = true then _ else _) _ = _ ∨ (State.setFree (if Config.freeBit 0 = true then _ else _) _).catchup.pulls = _
  split
  · exact .inr rfl
  · exact .inl rfl

/-- A fault before the tail of the own PULL leaves the answer timer as it is (R36, R117). -/
theorem test_fault_before_tail : (run (pulling .none) (.lineFault .content)).catchup = (pulling .none).catchup
    ∧ (run (pulling .none) (.lineFault .content)).free = (pulling .none).free := by decide +kernel

/-- Station 4 in phase FINAL, its leave timer running, with a beacon of a mode under way. -/
def leavingBeacon (mode : BeaconMode) : State := leaving .final (some ⟨.beacon ⟨4, mode, 0x0212, []⟩, none⟩)
/-- Station 4 draining ten UPDATE entries, with its last beacon from before LEAVE under way. -/
def drainingBeacon : State := leaving .drain (some ⟨.beacon ⟨4, .active, 0x0212, []⟩, none⟩)

theorem witness_AttemptWithoutFrameEnd_leaving :
    ((leavingBeacon .leaving).power = .on ∧ (leavingBeacon .leaving).ctl.state = .leaving ∧ (leavingBeacon .leaving).line.faults < 15
        ∧ (leavingBeacon .leaving).ctl.leavePhase = .final ∧ (leavingBeacon .leaving).ctl.leaveTimer ≠ none
        ∧ (run (leavingBeacon .leaving) .lostArbitration).ctl.beaconDue = true
        ∧ (run (leavingBeacon .leaving) (.lineFault .tail)).ctl.beaconDue = true)
      ∧ (drainingBeacon.power = .on ∧ drainingBeacon.ctl.leavePhase = .drain ∧ drainingBeacon.out.entries ≠ []
        ∧ (run drainingBeacon .lostArbitration).ctl.beaconDue = false ∧ (run drainingBeacon .lineFault).line.slot = none) := by
  decide +kernel

theorem witness_FramesFoundIntact :
    (st4.power = .on ∧ (st4In .halted).canReceive = false ∧ Frame.inRange (.claim ⟨1, 5, ⟨0xFFFF, 0⟩⟩) = false)
      ∧ (st4.canReceive = true ∧ (pullFrom 4).inRange = true ∧ (pullFrom 4).origin = st4.own)
      ∧ ((st4In .listening).canReceive = true ∧ (st4In .listening).ctl.state = .listening ∧ st4.out.fence = none)
      ∧ ((pullFrom 2).origin ≠ st4.own ∧ st4.isMember (pullFrom 2).origin = false)
      ∧ (st4.hears (pullFrom 1) ∧ (st4In .listening).hears (pullFrom 1))
      ∧ ({ st4 with line := { st4.line with rx := some ⟨pullFrom 1, true, true⟩ } } : State).line.rx = some ⟨pullFrom 1, true, true⟩ := by
  unfold State.hears
  decide +kernel

/-- An UPDATE of member 1 that takes region 7 from version 10 to 11; st4 knows the region as owned by member 1 under epoch 2. -/
def update7 : Frame := .update ⟨1, 7, 2, 10, 11, 0, [1, 2]⟩

/-- A frame of member 1 of each kind, all about region 7. -/
def heardKinds : List Frame := [.beacon ⟨1, .active, 0x0212, [⟨7, ⟨2, 11⟩⟩]⟩, .claim ⟨1, 7, ⟨2, 10⟩⟩,
  .pull ⟨1, 7, ⟨2, 10⟩, false⟩, update7, .image ⟨1, 7, ⟨2, 10⟩, 3, 0x0010, List.replicate 256 0⟩]

theorem witness_FramesFoundIntact_listening :
    (∀ f ∈ heardKinds, (st4In .listening).hears f ∧ st4.hears f)
      ∧ ((st4In .listening).rosterHandoff update7).learnOwner 7 1 2 = (st4In .listening).rosterHandoff update7
      ∧ ((st4In .listening).rosterHandoff update7).ownedBy 7 1 = true
      ∧ stampLower ((st4In .listening).rosterHandoff update7).table[(7 : Region)].stamp ⟨2, 11⟩ = true := by
  unfold State.hears
  decide +kernel

/-- A duplicate or a stranger is found though the frame's end is lost (R30, R31, R35). -/
theorem test_end_lost_duplicate : (run st4 (.frameEndLost (some (pullFrom 4)))).ctl.state = .halted
    ∧ (run st4 (.frameEndLost (some (pullFrom 2)))).events = [.stranger 2] := by decide +kernel

theorem witness_CensusHandled :
    st4.owns 5 = true ∧ st4.owns 7 = false
      ∧ (st4.learnOwner 7 1 2).ownedBy 7 1 = true ∧ (st4.learnOwner 7 9 2).ownedBy 7 9 = false
      ∧ stampLower (st4.learnOwner 7 1 2).table[(7 : Region)].stamp ⟨2, 11⟩ = true
      ∧ stampLower ⟨2, 9⟩ (st4.learnOwner 7 1 2).table[(7 : Region)].stamp = true
      ∧ (st4.learnOwner 7 1 2).table[(7 : Region)].stamp = ⟨2, 10⟩ := by decide +kernel

theorem witness_VoteOnClaim :
    (State.claimAct ⟨1, 5, ⟨3, 48⟩⟩ false (st4Entry ({ · with yieldReady := true }))).1 = true
      ∧ st4.owns 7 = false ∧ st4.owns 5 = true ∧ (State.claimAct ⟨1, 5, ⟨3, 48⟩⟩ false st4).1 = false ∧ st4.ctl.state ≠ .dozing
      ∧ (st4In .dozing).owns 5 = true ∧ (st4In .dozing).ctl.state = .dozing := by decide +kernel

theorem witness_PullDecided :
    st4.owns 7 = false ∧ (st4.owns 5 = true ∧ st4.ctl.state ≠ .dozing)
      ∧ stampLower st4.table[(5 : Region)].stamp ⟨3, 49⟩ = true ∧ (⟨3, 48⟩ : Stamp) = st4.table[(5 : Region)].stamp
      ∧ st4.serves 5 1 = false ∧ stampLower ⟨3, 47⟩ st4.table[(5 : Region)].stamp = true
      ∧ ((st4In .leaving).ctl.state = .leaving ∧ st4.ctl.state ≠ .leaving)
      ∧ (st4.servingOf 5 = none ∧ st4.serving.length < 2)
      ∧ (({ st4 with serving := [⟨1, ⟨0, 0⟩, [], 0, 0, .none⟩, ⟨2, ⟨0, 0⟩, [], 0, 0, .none⟩] } : State).servingOf 5 = none
        ∧ 2 ≤ ({ st4 with serving := [⟨1, ⟨0, 0⟩, [], 0, 0, .none⟩, ⟨2, ⟨0, 0⟩, [], 0, 0, .none⟩] } : State).serving.length)
      ∧ ((st4Serving 0).servingOf 5 = some (serving5 0) ∧ (∀ q ∈ (serving5 0).targets, q.station ≠ 9)
        ∧ ∃ q ∈ (serving5 0).targets, q.station = 1)
      ∧ (st4In .dozing).owns 5 = true ∧ (st4In .dozing).ctl.state = .dozing := by decide +kernel

/-- Station 4 serving region 5 to stations 1 and 9. -/
def servingTwo : State := { st4 with serving := [⟨5, ⟨3, 48⟩, [⟨1, 0x00FF, 1⟩, ⟨9, 0xFFFF, 0⟩], 8, 0, .none⟩] }

theorem witness_PullDecided_dropped :
    ((st4Serving 0).servingOf 5 = some (serving5 0) ∧ (∃ q ∈ (serving5 0).targets, q.station = 1)
        ∧ (serving5 0).targets.filter (fun q => q.station != 1) = [])
      ∧ servingTwo.servingOf 5 = some ⟨5, ⟨3, 48⟩, [⟨1, 0x00FF, 1⟩, ⟨9, 0xFFFF, 0⟩], 8, 0, .none⟩
      ∧ (run servingTwo (.pullReceived ⟨1, 5, ⟨3, 48⟩, false⟩)).serving.map (fun v => v.targets.map (fun q => q.station)) = [[9]]
      ∧ (run (st4Serving 0) (.pullReceived ⟨1, 5, ⟨3, 48⟩, false⟩)).serving = [] := by decide +kernel

/-- Station 4 with a full Apply Queue. -/
def fullQueue : State := { st4 with applyQ := List.replicate 8 ⟨0, 10, .update 0 [1, 2]⟩ }

theorem witness_UpdateReceived :
    st4.owns 5 = true ∧ st4.owns 7 = false ∧ st4.owns 3 = false
      ∧ (st4.learnOwner 7 9 2).ownedBy 7 9 = false ∧ (st4.learnOwner 3 1 0).ownedBy 3 1 = true
      ∧ stampLower ⟨2, 9⟩ (st4.learnOwner 7 1 2).table[(7 : Region)].stamp = true
      ∧ (⟨2, 10⟩ : Stamp) = (st4.learnOwner 7 1 2).table[(7 : Region)].stamp
      ∧ (st4.learnOwner 7 1 2).table[(7 : Region)].copy = .stale .behind
      ∧ (st4Pull.learnOwner 7 1 2).table[(7 : Region)].copy ≠ .current
      ∧ (st4Pull.learnOwner 7 1 2).table[(7 : Region)].copy ≠ .stale .behind
      ∧ stampLower (st4.learnOwner 3 1 0).table[(3 : Region)].stamp ⟨0, 1⟩ = true
      ∧ ((st4In .dozing).learnOwner 3 1 0).ctl.state = .dozing ∧ (st4.learnOwner 3 1 0).ctl.state ≠ .dozing
      ∧ (st4.learnOwner 3 1 0).table[(3 : Region)].copy = .current ∧ (st4.learnOwner 3 1 0).table[(3 : Region)].stamp = ⟨0, 0⟩
      ∧ 8 ≤ (fullQueue.learnOwner 3 1 0).applyQ.length ∧ (st4.learnOwner 3 1 0).applyQ.length < 8 := by decide +kernel

theorem witness_ImageReceived :
    st4.owns 5 = true ∧ st4.owns 7 = false
      ∧ (st4.learnOwner 7 1 2).pullOf 7 = none ∧ (st4Pull.learnOwner 7 1 2).pullOf 7 = some pull7
      ∧ inMap (0x0002 : StationMap) (st4Pull.learnOwner 7 1 2).own = false ∧ pull7.target ≠ 9
      ∧ inMap (0x0010 : StationMap) (st4Pull.learnOwner 7 1 2).own = true ∧ pull7.target = 1
      ∧ stampLower ⟨2, 9⟩ (st4Pull.learnOwner 7 1 2).table[(7 : Region)].stamp = true
      ∧ ((collecting 0).learnOwner 7 1 2).pullOf 7 = some (pull7Collecting 0)
      ∧ (pull7Collecting 0).collecting = some ⟨2, 12⟩ ∧ stampLower ⟨2, 11⟩ ⟨2, 12⟩ = true
      ∧ stampLower ⟨2, 12⟩ ((collecting 0).learnOwner 7 1 2).table[(7 : Region)].stamp = false
      ∧ inMap (pull7Collecting 0).collected 15 = true ∧ inMap pull7.collected 15 = false
      ∧ pull7.collecting = none ∧ (st4Pull.learnOwner 7 1 2).applyQ.length < 8
      ∧ 8 ≤ (List.replicate 8 (⟨0, 10, .update 0 [1, 2]⟩ : ApplyEntry)).length := by decide +kernel

/-- All 16 chunks collected at (2, 12), the answer timer stopped; a higher stamp begins the collection anew, with the queue full. -/
def collected7 : PullRecord := { pull7Collecting 0 with taken := true }
def anewFull : State := { collecting 0 with applyQ := List.replicate 8 ⟨0, 10, .update 0 [1, 2]⟩ }

theorem witness_ImageReceived_anew :
    (anewFull.learnOwner 7 1 2).pullOf 7 = some collected7 ∧ stampUpTo (anewFull.learnOwner 7 1 2).table[(7 : Region)].stamp ⟨2, 13⟩
      ∧ (∀ c, collected7.collecting = some c → stampLower c ⟨2, 13⟩ = true) ∧ 8 ≤ (anewFull.learnOwner 7 1 2).applyQ.length
      ∧ collected7.timer = none ∧ collected7.collected = 0xFFFF ∧ collected7.owed = false
      ∧ (∀ x ∈ (anewFull.learnOwner 7 1 2).out.entries, x.isPull = true → x.region ≠ 7)
      ∧ (State.imageAct ⟨1, 7, ⟨2, 13⟩, 0, 0x0010, []⟩ anewFull).2.catchup.pulls.map (fun p => p.timer) = [some 0]
      ∧ (st4Pull.pullOf 7 = some pull7 ∧ inMap (0x0010 : StationMap) st4Pull.own = true ∧ pull7.timer ≠ none)
      ∧ (st4Pull.rosterHandoff (.image ⟨1, 7, ⟨2, 12⟩, 0, 0x0010, []⟩)).ctl.state ≠ .listening := by
  refine ⟨by decide +kernel, by unfold stampUpTo; decide +kernel, fun c h => ?_, by decide +kernel⟩
  cases h
  decide

theorem witness_BeaconFrameEnds :
    ((sending (.beacon ⟨4, .active, 0x0212, []⟩) []).line.slot = some ⟨.beacon ⟨4, .active, 0x0212, []⟩, none⟩
        ∧ BeaconMode.active ≠ .leaving)
      ∧ ((leaving .final (some ⟨.beacon ⟨4, .leaving, 0x0212, []⟩, none⟩)).line.slot = some ⟨.beacon ⟨4, .leaving, 0x0212, []⟩, none⟩
        ∧ (leaving .final (some ⟨.beacon ⟨4, .leaving, 0x0212, []⟩, none⟩)).ctl.state = .leaving)
      ∧ ((receiving (.beacon ⟨1, .leaving, 0x0212, []⟩)).power = .on ∧ (receiving (.beacon ⟨1, .leaving, 0x0212, []⟩)).line.slot = none
        ∧ (receiving (.beacon ⟨1, .leaving, 0x0212, []⟩)).line.rx = some ⟨.beacon ⟨1, .leaving, 0x0212, []⟩, true, true⟩
        ∧ (1 : Station) ≠ st4.own) := by decide +kernel

/-- The ack map of the LEAVING beacon outlives the clearing of the roster (R46, R51). -/
theorem witness_BeaconFrameEnds_leaving :
    (leaving .final (some ⟨.beacon ⟨4, .leaving, 0x0212, []⟩, none⟩)).ctl.state = .leaving
      ∧ (run (leaving .final (some ⟨.beacon ⟨4, .leaving, 0x0212, []⟩, none⟩)) (.beaconFrameEnd 0x0202)).roster.lastAck = 0x0202
      ∧ (sending (.beacon ⟨4, .leaving, 0x0212, []⟩) []).ctl.state ≠ .leaving := by decide +kernel

theorem witness_ClaimFrameEnds :
    ((receiving (.claim ⟨1, 5, ⟨3, 48⟩⟩)).power = .on ∧ (receiving (.claim ⟨1, 5, ⟨3, 48⟩⟩)).line.slot = none
        ∧ (receiving (.claim ⟨1, 5, ⟨3, 48⟩⟩)).line.rx = some ⟨.claim ⟨1, 5, ⟨3, 48⟩⟩, true, true⟩)
      ∧ (sending (.claim ⟨4, 63, ⟨0, 0⟩⟩) [⟨63, .claim .host, true, .none⟩]).line.slot = some ⟨.claim ⟨4, 63, ⟨0, 0⟩⟩, none⟩
      ∧ (sending (.claim ⟨4, 63, ⟨0, 0⟩⟩) [⟨63, .claim .host, true, .none⟩]).out.entries
        = [] ++ ⟨(⟨4, 63, ⟨0, 0⟩⟩ : ClaimFrame).region, .claim .host, true, .none⟩ :: []
      ∧ ∀ x ∈ ([] ++ [] : List OutEntry), x.sending = false := by decide +kernel

/-- Station 4 sending the sweep's claim of a region. -/
def sendingSweep (r : Region) : State :=
  let s := sending (.claim ⟨4, r, ⟨0, 0⟩⟩) [⟨r, .claim .sweep, true, .none⟩]
  { s with out := { s.out with sweep := ⟨.running, r, some r⟩ } }

theorem witness_ClaimFrameEnds_sweep :
    ((sendingSweep 63).line.slot = some ⟨.claim ⟨4, 63, ⟨0, 0⟩⟩, none⟩
        ∧ (sendingSweep 63).out.entries = [] ++ ⟨63, .claim .sweep, true, .none⟩ :: [])
      ∧ (run (sendingSweep 63) (.claimFrameEnd 0x0202)).events = [.claimDone 63 0x0202 .sweep none]
      ∧ (run (sendingSweep 63) (.claimFrameEnd 0x0202)).out.sweep.phase = .inactive
      ∧ (run (sendingSweep 2) (.claimFrameEnd 0x0002)).events = [.claimDone 2 0x0002 .sweep (some .refused)]
      ∧ (run (sendingSweep 2) (.claimFrameEnd 0x0002)).table[(2 : Region)].held = false := by decide +kernel

theorem witness_EffectiveClaimApplied_pull :
    st4Pull.pullOf 7 = some pull7 ∧ st4Pull.table[(7 : Region)].copy = .fetching .behind ∧ st4Pull.owns 7 = false
      ∧ st4Pull.ctl.state = .active ∧ st4Pull.out.fence = none
      ∧ ({ st4Pull with ctl := { st4.ctl with state := .dozing } } : State).ctl.state ≠ .active
      ∧ ({ st4Pull with ctl := { st4.ctl with state := .dozing } } : State).ctl.state ≠ .isolated := by decide +kernel

theorem witness_EffectiveClaimApplied :
    (65534 : Epoch).toNat < 65535 ∧ st4.pullOf 5 = none ∧ st4.out.fence = none ∧ st4.table[(5 : Region)].stamp = ⟨3, 48⟩
      ∧ st4.table[(5 : Region)].stamp ≠ ⟨3, 47⟩ ∧ st4.table[(5 : Region)].copy = .current ∧ st4.owns 63 = false
      ∧ (4 : Station) = st4.own ∧ (1 : Station) ≠ st4.own ∧ st4.owns 5 = true := by decide +kernel

/-- The PULL of a pull that an owner change closes leaves at once, or at the end of its attempt (R119). -/
theorem witness_EffectiveClaimApplied_entry :
    ((pulling .none).pullOf 7 ≠ none ∧ (State.applyClaim (pulling .none) 9 7 ⟨2, 10⟩).out.entries = [⟨7, .pull false, true, .discard⟩])
      ∧ (State.changeOwner (pulling .none) 7 (some ⟨9, 3⟩)).out.entries = [⟨7, .pull false, true, .discard⟩]
      ∧ (State.changeOwner (owedPull 1) 3 none).out.entries = (owedPull 1).out.entries
      ∧ ((st4Serving 0).owns 5 = true ∧ ((st4Serving 0).changeOwner 5 (some ⟨9, 4⟩)).serving = []) := by decide +kernel

theorem witness_EffectiveClaimApplied_fence :
    (fencedPull.out.fence ≠ none ∧ ∃ x ∈ fencedPull.out.entries, x.inFence = true)
      ∧ ((1 : Station) ≠ fencedPull.own ∧ fencedPull.owns 5 = true ∧ fencedPull.table[(5 : Region)].stamp = ⟨3, 48⟩
        ∧ fencedPull.pullOf 5 = none)
      ∧ (fencedPull.applyClaim 1 5 ⟨3, 48⟩).out.entries = fencedPull.out.entries
      ∧ (fencedPull.applyClaim 1 5 ⟨3, 48⟩).port.state = .answer ⟨0x02, .notOwner, []⟩
      ∧ (fencedPull.applyClaim 1 5 ⟨3, 48⟩).events = [.ownershipLost 5 false] := by decide +kernel

/-- A former owner whose copy stands below the claim stamp: REGION_STALE, then OWNERSHIP_LOST (R96, R98). -/
theorem witness_EffectiveClaimApplied_marks :
    (st4.pullOf 5 = none ∧ st4.table[(5 : Region)].stamp ≠ ⟨3, 49⟩ ∧ st4.table[(5 : Region)].copy = .current)
      ∧ (st4.applyClaim 1 5 ⟨3, 49⟩).events = [.regionStale 5 .behind, .ownershipLost 5 false]
      ∧ (st4.applyClaim 1 5 ⟨3, 49⟩).catchup.list = [5] ∧ ((st4In .dozing).applyClaim 1 5 ⟨3, 49⟩).catchup.list = [] := by
  decide +kernel

theorem witness_PullFrameEnds :
    ((receiving (pullFrom 1)).power = .on ∧ (receiving (pullFrom 1)).line.slot = none
        ∧ (receiving (pullFrom 1)).line.rx = some ⟨pullFrom 1, true, true⟩)
      ∧ ((pulling .none).power = .on ∧ (pulling .none).line.slot = some ⟨.pull ⟨4, 7, ⟨2, 10⟩, false⟩, none⟩
        ∧ (pulling .none).catchup.pulls = [pull7] ∧ (pulling .none).out.entries = [] ++ ⟨pull7.region, .pull false, true, .none⟩ :: []
        ∧ pull7.target ≠ (pulling .none).own)
      ∧ (pulling .discard).out.entries = [] ++ ⟨pull7.region, .pull false, true, .discard⟩ :: []
      ∧ inMap (0x0002 : StationMap) pull7.target = true ∧ inMap (0x0200 : StationMap) pull7.target = false := by decide +kernel

theorem witness_PullFrameEnds_two :
    pullingTwo.line.slot = some ⟨.pull ⟨4, 7, ⟨2, 10⟩, false⟩, none⟩ ∧ pullingTwo.catchup.pulls = [pull9] ++ pull7 :: []
      ∧ (∀ x ∈ [pull9] ++ [], x.region ≠ pull7.region)
      ∧ (run pullingTwo (.pullFrameEnd 0x0002)).catchup.pulls = [pull9]
      ∧ (run pullingTwo (.pullFrameEnd 0x0200)).catchup.pulls = [pull9, { pull7 with timer := some 0 }] := by decide +kernel

/-- Station 4 sending an UPDATE of region 5 with a number of retries. -/
def updating (retries : Nat) : State :=
  sending (.update ⟨4, 5, 3, 48, 49, 0, [1, 2]⟩) [⟨5, .update { update5 with sealed := true, retries := retries }, true, .none⟩]

theorem witness_UpdateFrameEnds :
    ((receiving (.update ⟨1, 3, 0, 0, 1, 0, [1, 2]⟩)).power = .on ∧ (receiving (.update ⟨1, 3, 0, 0, 1, 0, [1, 2]⟩)).line.slot = none
        ∧ (receiving (.update ⟨1, 3, 0, 0, 1, 0, [1, 2]⟩)).line.rx = some ⟨.update ⟨1, 3, 0, 0, 1, 0, [1, 2]⟩, true, true⟩)
      ∧ ((updating 3).power = .on ∧ (updating 3).line.slot = some ⟨.update ⟨4, 5, 3, 48, 49, 0, [1, 2]⟩, none⟩
        ∧ (updating 3).out.entries = [] ++ ⟨5, .update { update5 with sealed := true, retries := 3 }, true, .none⟩ :: []
        ∧ (updating 2).out.entries = [] ++ ⟨5, .update { update5 with sealed := true, retries := 2 }, true, .none⟩ :: [])
      ∧ (run (updating 2) (.updateFrameEnd 0x0002)).out.entries.length = 1
      ∧ (run (updating 3) (.updateFrameEnd 0x0002)).events = [.short 5 0x0200]
      ∧ (run (updating 3) (.updateFrameEnd 0x0202)).out.entries = []
      ∧ ({ st4 with out := { st4.out with fence := some ⟨0, 0⟩ } } : State).out.fence = some ⟨0, 0⟩
      ∧ ∀ e ∈ st4.out.entries, e.inFence = false := by decide +kernel

/-- An UPDATE that misses station 9 and whose removal was asked for leaves with the lost count or the cut's count raised. -/
theorem witness_UpdateFrameEnds_doomed :
    (sendingDoomed .cut).line.slot = some ⟨.update ⟨4, 5, 3, 48, 49, 0, [1, 2]⟩, none⟩
      ∧ (run (sendingDoomed .cut) (.updateFrameEnd 0x0002)).events = [.fenceDone 0 1]
      ∧ (run (sendingDoomed .cut) (.updateFrameEnd 0x0002)).ctl.discarded = 1
      ∧ (run (sendingDoomed .discard) (.updateFrameEnd 0x0202)).events = [.fenceDone 0 0] := by decide +kernel

/-- Station 4 sending chunk 0 of region 5 to station 1, which needs it alone. -/
def imaging (count : Nat) (doom : Doom) : State :=
  { sending (.image ⟨4, 5, ⟨3, 48⟩, 0, 0x0002, []⟩) [⟨5, .image ⟨⟨3, 48⟩, 0, 0x0002, []⟩, true, doom⟩] with
    serving := [⟨5, ⟨3, 48⟩, [⟨1, 0x0001, count⟩], 1, 0, .none⟩] }

theorem witness_ImageFrameEnds :
    ((receiving (.image ⟨1, 7, ⟨2, 12⟩, 0, 0x0010, []⟩)).power = .on ∧ (receiving (.image ⟨1, 7, ⟨2, 12⟩, 0, 0x0010, []⟩)).line.slot = none
        ∧ (receiving (.image ⟨1, 7, ⟨2, 12⟩, 0, 0x0010, []⟩)).line.rx = some ⟨.image ⟨1, 7, ⟨2, 12⟩, 0, 0x0010, []⟩, true, true⟩)
      ∧ ((imaging 0 .none).line.slot = some ⟨.image ⟨4, 5, ⟨3, 48⟩, 0, 0x0002, []⟩, none⟩
        ∧ (imaging 0 .none).servingOf 5 = some ⟨5, ⟨3, 48⟩, [⟨1, 0x0001, 0⟩], 1, 0, .none⟩
        ∧ (imaging 0 .none).out.entries = [] ++ ⟨5, .image ⟨⟨3, 48⟩, 0, 0x0002, []⟩, true, .none⟩ :: [] ∧ (1 : Station) ≠ st4.own)
      ∧ (run (imaging 0 .none) (.imageFrameEnd 0)).serving.length = 1 ∧ (run (imaging 1 .none) (.imageFrameEnd 0)).serving = []
      ∧ (run (imaging 0 .none) (.imageFrameEnd 0x0002)).serving = [] ∧ (imaging 0 .discard).out.entries.any (fun x => x.doom == .discard) = true := by
  decide +kernel

theorem witness_ImageFrameEnds_ended :
    st4.servingOf 5 = none ∧ (imaging 0 .none).servingOf 5 ≠ none ∧ (imaging 0 .none).out.fence = none := by decide +kernel

/-- The last target leaves while a fence is open, and the fence goes on. -/
theorem witness_ImageFrameEnds_fence :
    let s := { imaging 0 .none with out := { (imaging 0 .none).out with
      entries := (imaging 0 .none).out.entries ++ (sendingDoomed .none).out.entries.map (fun x => { x with sending := false })
      fence := some ⟨0, 0⟩ } }
    s.servingOf 5 ≠ none ∧ s.out.fence ≠ none ∧ (∃ e ∈ s.out.entries, e.inFence = true)
      ∧ (run s (.imageFrameEnd 0x0002)).serving = [] ∧ (run s (.imageFrameEnd 0x0002)).out.fence = some ⟨0, 0⟩ := by decide +kernel

theorem witness_SilenceStrangerAndBeaconTimers_serving :
    st4.statusOf 1 ≠ .silent ∧ (servingTwo.serving.map (·.region)).Nodup ∧ (∀ v ∈ servingTwo.serving, v.targets ≠ [])
      ∧ (run servingTwo (.silenceTimer24ms 1)).serving.map (fun v => v.targets.map (fun q => q.station)) = [[9]]
      ∧ (run (st4Serving 0) (.silenceTimer24ms 1)).serving = [] := by decide +kernel

theorem witness_SilenceStrangerAndBeaconTimers :
    (st4.power = .on ∧ (1 : Station) ≠ st4.own ∧ st4.isMember 1 = true ∧ st4.roster.entries[(1 : Station)].timer ≠ none)
      ∧ st4.statusOf 1 = .present
      ∧ ({ st4 with roster := { st4.roster with entries := st4.roster.entries.set 1 ⟨.silent, some 47, true⟩ } } : State).statusOf 1 = .silent
      ∧ (st4In .dozing).ctl.state = .dozing ∧ (st4In .dozing).serving = [] ∧ (st4In .dozing).catchup.pulls = []
      ∧ (st4In .dozing).statusOf 1 ≠ .absent ∧ st4.ctl.beaconTimer ≠ none := by decide +kernel

theorem witness_AnswerTimerExpires :
    (st4Pull.power = .on ∧ st4Pull.catchup.pulls = [pull7] ∧ pull7.timer ≠ none ∧ pull7.owed = false
        ∧ st4Pull.table[pull7.region].copy = .fetching .behind ∧ (∀ x ∈ st4Pull.out.entries, x.isPull = false)
        ∧ st4Pull.out.fence = none ∧ st4Pull.ctl.state = .active)
      ∧ pull7.attempts < 3 ∧ 3 ≤ ({ pull7 with attempts := 3 } : PullRecord).attempts := by decide +kernel

/-- Two pulls open: the entry of the one that expires gone, standing, or third in the Outbox, and an attempt that is the last. -/
def expiring (p : PullRecord) (es : List OutEntry) : State :=
  { st4Pull with catchup := ⟨[], 0, [pull9, p]⟩, out := { st4.out with entries := es } }

theorem witness_AnswerTimerExpires_two :
    ((expiring pull7 []).catchup.pulls = [pull9] ++ pull7 :: []
        ∧ (∀ x ∈ [pull9] ++ [], x.region ≠ pull7.region ∧ x.owed = false)
        ∧ (∀ x ∈ (expiring pull7 []).out.entries, x.isPull = true → x.region = pull7.region → x.doom ≠ .none)
        ∧ (expiring pull7 []).out.entries.countP OutEntry.isPull < 2)
      ∧ 2 ≤ (expiring pull7 [⟨9, .pull false, true, .none⟩, ⟨7, .pull false, true, .discard⟩]).out.entries.countP OutEntry.isPull
      ∧ (∃ x ∈ (expiring pull7 [⟨7, .pull false, false, .none⟩]).out.entries,
        x.isPull = true ∧ x.region = pull7.region ∧ x.doom = .none)
      ∧ (run (expiring pull7 [⟨7, .pull false, false, .none⟩]) (.answerTimerExpiry 7)).catchup.pulls
        = [pull9, { pull7 with attempts := 2, timer := none }]
      ∧ (run (expiring { pull7 with attempts := 3 } []) (.answerTimerExpiry 7)).events = [.regionStale 7 .behind, .pullFailed 7] := by
  decide +kernel

theorem witness_FrameContentRoundTrip :
    Frame.inRange (.beacon ⟨1, .active, 0x0002, [⟨0, ⟨0, 0⟩⟩, ⟨63, ⟨0xFFFF, 1⟩⟩, ⟨1, ⟨0, 0⟩⟩, ⟨2, ⟨0, 0⟩⟩]⟩) = true
      ∧ Frame.inRange (.claim ⟨15, 63, ⟨65534, 0⟩⟩) = true ∧ Frame.inRange (.pull ⟨0, 0, ⟨0xFFFF, 0⟩, true⟩) = true
      ∧ Frame.inRange (.update ⟨1, 5, 0xFFFF, 0, 1, 4094, [1, 2]⟩) = true
      ∧ Frame.inRange (.image ⟨1, 63, ⟨0, 0⟩, 15, 0x8000, List.replicate 256 1⟩) = true := by decide +kernel

/-- Of a CLAIM of twelve content bytes: the start cell, the second cell of the ack lead and the last delimiter cell but two. -/
theorem witness_FrameContentRoundTrip_cells :
    (claimCells 0)[0]? = some .dominant ∧ (claimCells 0)[110]? = some .dominant ∧ (claimCells 0)[130]? = some .dominant
      ∧ (encodeFrame (.claim ⟨4, 5, ⟨3, 48⟩⟩)).length = 12 ∧ Frame.inRange (.claim ⟨4, 5, ⟨3, 48⟩⟩) = true := by decide +kernel

/-- Queues that meet the form, and a step that goes on. -/
theorem witness_StepKeepsEventQueueForm :
    eventsOk State.reset.events = true ∧ eventsOk (List.replicate 15 Event.joined ++ [.overflow 255]) = true
      ∧ step State.reset = .next State.reset.tick := ⟨by decide, by decide, rfl⟩

theorem witness_StepKeepsRetainedImage : State.reset.retainedOk ∧ step State.reset = .next State.reset.tick :=
  ⟨fun _ => by decide +kernel, rfl⟩

theorem witness_StepNeverLowersStamp :
    State.reset.stampsRetained ∧ step State.reset = .next State.reset.tick ∧ State.reset.pending.head? ≠ some .formatStepDone :=
  ⟨by unfold State.stampsRetained; decide +kernel, rfl, by decide⟩

theorem witness_StepKeepsLimitsAndOwnNumber : st4.limitsOk ∧ st4.selfMember ∧ step st4 = .next st4.tick :=
  ⟨by unfold State.limitsOk; decide +kernel, ⟨by decide, fun _ _ h => nomatch h⟩, rfl⟩

/-- The Outbox form holds of a station that serves a region. -/
theorem witness_StepKeepsLimitsAndOwnNumber_outbox : (st4Serving 0).outboxOk ∧ (st4Serving 0).pullsOk
    ∧ step (st4Serving 0) = .next (st4Serving 0).tick := by
  refine ⟨⟨by decide +kernel, by decide +kernel, by decide +kernel, ⟨(fun _ h => nomatch h), by decide, by decide⟩,
    ⟨(fun _ h => nomatch h), fun _ h => nomatch h⟩, ⟨by decide +kernel, by decide +kernel, fun _ _ _ h => nomatch h⟩,
    ⟨fun h => absurd rfl h, fun _ => rfl, (fun h => nomatch h), (fun _ h => nomatch h), (fun _ _ h => nomatch h),
      (fun h => nomatch h), fun h => nomatch h⟩⟩,
    ⟨by unfold State.fetchingOk; decide +kernel, fun h => absurd rfl h, (fun _ _ h => nomatch h), fun h => absurd rfl h⟩, rfl⟩

theorem witness_StepAlwaysRuns : st4Read.spansOk ∧ Memory.wf st4Read.nv.array = true :=
  ⟨⟨by decide +kernel, fun w h => by cases h; decide⟩, by decide +kernel⟩

theorem witness_StepKeepsPullsAndCopies : st4Pull.pullsOk ∧ step st4Pull = .next st4Pull.tick :=
  ⟨⟨by unfold State.fetchingOk; decide +kernel, fun _ => by decide, (fun _ _ h => nomatch h), fun h => absurd rfl h⟩, rfl⟩

/-- The two other invariants hold of a station that owns a region and has another listed. -/
theorem witness_StepKeepsPullsAndCopies_owned : listed7.catchupOk ∧ listed7.ownershipOk ∧ listed7.owns 5 = true :=
  ⟨⟨by decide, by decide +kernel, by decide +kernel, fun h => nomatch h⟩,
    ⟨by decide +kernel, (fun h => nomatch h), (fun _ h => nomatch h), by decide, (fun _ _ h => nomatch h), fun _ _ _ h => nomatch h⟩,
    by decide +kernel⟩

end Sys2Proof.Tests
end

section
/-! SUPPORT. The overflow rule of the event queue (R185). -/

namespace Sys2Proof.Machine

/-- A post into a queue without an OVERFLOW record: its own record while there is room, else the OVERFLOW record (R185). -/
theorem postTo_of_noOverflow (q : List Event) (e : Event) (hq : ∀ x ∈ q, x.isOverflow = false) :
    postTo q e = if q.length < Config.eventLimit then q ++ [e] else q ++ [.overflow 1] := by
  unfold postTo
  split
  next n hlast => exact absurd (hq _ (List.mem_of_getLast? hlast)) (by simp [Event.isOverflow])
  next => rfl

/-- A post that finds an OVERFLOW record as the newest is counted into it (R185). -/
theorem postTo_concat_overflow (q : List Event) (n : Nat) (e : Event) :
    postTo (q ++ [.overflow n]) e = q ++ [.overflow (min (n + 1) Config.overflowLimit)] := by
  simp [postTo]

/-- The count of an OVERFLOW record after one more dropped event, up to its limit (R185). -/
theorem min_succ_overflowLimit (n : Nat) : min (n + 1) Config.overflowLimit = if n < 255 then n + 1 else 255 := by
  unfold Config.overflowLimit
  split <;> omega

/-- A post changes the event queue alone. -/
theorem State.post_eq {s : State} {q q' : List Event} {e : Event} (hs : s.events = q) (hq : postTo q e = q') :
    s.post e = { s with events := q' } := by
  rw [State.post, hs, hq, State.setEvents]

/-- Settles O11: `postTo` on a queue without an OVERFLOW record, with and without room, and on one that ends in it. -/
theorem eventQueueOverflows : Obligations.EventQueueOverflows := by
  intro s e q
  refine ⟨fun hs hq hroom => ?_, fun hs hq hfull => ?_, fun n hs => ?_⟩
  · exact State.post_eq hs ((postTo_of_noOverflow q e hq).trans (if_pos hroom))
  · exact State.post_eq hs ((postTo_of_noOverflow q e hq).trans (if_neg (Nat.not_lt.2 hfull)))
  · exact State.post_eq hs (min_succ_overflowLimit n ▸ postTo_concat_overflow q n e)

end Sys2Proof.Machine
end

section
/-! SUPPORT. Puts in WORKING and ANSWER (R173), and the refused flag in the poll byte (R176). -/

namespace Sys2Proof.Machine

/-- The station state leaves bit 4 of the poll byte to the refused flag (Table 9-2). -/
theorem StationState.byte_getLsbD_four (st : StationState) : st.byte.getLsbD 4 = false := by
  cases st <;> rfl

/-- Bit 4 of a byte of flags, where the poll byte has the refused flag (Table 9-2). -/
theorem flagsByte_getLsbD_four (b7 b6 b5 b4 b3 b2 b1 b0 : Bool) :
    (flagsByte b7 b6 b5 b4 b3 b2 b1 b0).getLsbD 4 = b4 := by
  revert b7 b6 b5 b4 b3 b2 b1 b0
  decide

/-- Bit 4 of the poll byte is the refused flag (R176). -/
@[simp] theorem State.pollByte_getLsbD_four (s : State) : s.pollByte.getLsbD 4 = s.port.refused := by
  rw [State.pollByte, BitVec.getLsbD_or, flagsByte_getLsbD_four, StationState.byte_getLsbD_four, Bool.or_false]

/-- A complete put outside IDLE is refused by the port, whatever it would do in IDLE (R173). -/
theorem State.onPut_of_not_idle (s : State) (f : State → State) (hon : s.power = .on) (hbusy : s.port.state ≠ .idle) :
    s.onPut f = { s with port := ⟨s.port.state, true, [], .high⟩ } := by
  rw [State.onPut, State.whenOn, State.undriven_power, if_pos hon]
  split
  next hidle => exact absurd hidle hbusy
  next => rfl
  next => rfl

/-- Every row that is a complete put acts through `State.onPut` (R172, R173). -/
theorem exec_eq_onPut_of_isPut (c : Instr) (hput : isPut c = true) : ∃ f, ∀ s, exec c s = .next (s.onPut f) := by
  cases c with
  | unknownCommandCode code =>
    have hunknown : knownCode code = false := by simpa [isPut] using hput
    exact ⟨_, fun s => by rw [exec, execUnknownCommandCode, hunknown]; rfl⟩
  | putRefusedByPort | read | write | claim | release | keep | fence | region | roster | status | event | ident | setup
  | format | join | leave | doze | wake => exact ⟨_, fun _ => rfl⟩
  | _ => cases hput

/-- Settles O9: the row is a complete put, and the port is not in IDLE. -/
theorem putRefusedByPort : Obligations.PutRefusedByPort := by
  intro s c hput hon hbusy
  obtain ⟨f, hexec⟩ := exec_eq_onPut_of_isPut c hput
  refine ⟨_, (hexec s).trans (congrArg _ (s.onPut_of_not_idle f hon hbusy)), rfl, ?_⟩
  rw [State.pollByte_getLsbD_four]

end Sys2Proof.Machine
end

section
/-! SUPPORT. What a command can make of the state, once for all rows: the inversion of `exec`, from which every claim about all
steps is derived. -/

namespace Sys2Proof.Machine

-- One proof at a time: the proofs that wait for each other would hold the memory of the whole text.
set_option Elab.async false

/-- The state `t` that the command `c` can make of `s`, with the checks that led there. A put acts on the state with serial data
out undriven (R170, R199). -/
inductive Effect (s : State) : Instr → State → Prop
  -- rows that come to nothing, or to an answer alone
  | unchanged (c) : Effect s c s
  | undriven (c) : Effect s c s.undriven
  | refused (c) : Effect s c s.undriven.refusePut
  | answered (c) (h : s.takesPut) (code result data) : Effect s c (s.undriven.answer code result data)
  -- the Host Port
  | take (bits) (h : s.power = .on) : Effect s (.take bits) (s.takeBits bits)
  | poll (run) (h : s.power = .on) : Effect s (.poll run) (s.pollRun run)
  | pollIgnored (run) : Effect s (.poll run) (s.mapPort (·.ignoreRun run.held))
  -- host commands that are taken
  | read (region offset length r) (h : s.takesPut) (hargs : readArgs region offset length = some r) :
    Effect s (.read region offset length) (s.undriven.startRead r offset.toNat length.toNat)
  | write (region offset length data guardPin r) (h : s.takesPut) (hargs : writeArgs region offset length data = some r)
    (hcheck : s.undriven.writeRefusal r offset.toNat length.toNat guardPin = none) :
    Effect s (.write region offset length data guardPin)
      (((s.undriven.takeRoom r).work (.write ⟨r, offset.toNat, data, s.serial⟩)).arbitrate)
  | claim (region guardPin r) (h : s.takesPut) (hstate : s.ctl.state = .active) (howns : s.owns r = false)
    (hcheck : s.undriven.claimRefusal r guardPin = none) :
    Effect s (.claim region guardPin)
      (((s.undriven.appendEntry r (.claim .host)).mapOut ({ · with hostClaim := some r })).answer 0x03 .accepted [])
  | yield (c code r yes) (h : s.takesPut) (howns : s.owns r = true) : Effect s c (s.undriven.setYield code r yes)
  | fence (h : s.takesPut) (hline : s.ctl.state.onLine = true) (hnone : s.out.fence = none) :
    Effect s .fence ((s.undriven.openFence.answer 0x06 .accepted []).checkFence)
  | event (e rest) (h : s.takesPut) (hq : s.events = e :: rest) :
    Effect s .event ((s.undriven.setEvents rest).answer 0x0A .done (countByte rest.length :: e.record))
  | setup (members guardSet guardPin) (h : s.takesPut) (hown : inMap members s.own = true) :
    Effect s (.setup members guardSet guardPin) (s.undriven.work (.setup members guardSet))
  | format (guardPin) (h : s.takesPut) (hstate : s.ctl.state = .offline) :
    Effect s (.format guardPin) ((s.undriven.formatClear.formatIntent.work (.format 0 0)).arbitrate)
  | join (h : s.takesPut) (hstate : s.ctl.state = .offline) :
    Effect s .join (s.undriven.startListening.answer 0x0D .accepted [])
  | leave (h : s.takesPut) (hstate : s.ctl.state = .active ∨ s.ctl.state = .isolated ∨ s.ctl.state = .dozing) :
    Effect s .leave ((s.undriven.startLeaving.answer 0x0E .accepted []).drainEnd)
  | doze (h : s.takesPut) (hstate : s.ctl.state = .active) (hidle : s.undriven.dozeBusy = false) :
    Effect s .doze (((s.undriven.setState .dozing).setSweep s.out.sweep.pause).answer 0x0F .done [])
  | wake (h : s.takesPut) (hstate : s.ctl.state = .dozing) :
    Effect s .wake ((s.undriven.wakeUp none).answer 0x10 .done []).openPulls
  -- completions of the array
  | setupWritten (m g) (hon : s.power = .on) (hport : s.port.state = .working (.setup m g)) :
    Effect s .setupRecordWritten (s.setupWritten m g)
  | formatStep (r k) (hop : s.arb.op = some .formatStep) (hport : s.port.state = .working (.format r k)) :
    Effect s .formatStepDone (s.formatStep r k).finishOp
  | readPiece (w) (hop : s.arb.op = some .readPiece) (hport : s.port.state = .working (.read w)) :
    Effect s .readPieceDone (s.readPiece w).finishOp
  | writeDone (w) (hop : s.arb.op = some .hostWrite) (hport : s.port.state = .working (.write w)) :
    Effect s .writeArrayDone (s.writeDone w).finishOp
  | applyDone (e rest) (hop : s.arb.op = some .apply) (hq : s.applyQ = e :: rest) :
    Effect s .applyWriteDone (s.applyDone e rest).finishOp
  | chunkRead (r k stamp live) (hop : s.arb.op = some (.chunkRead r k stamp live)) :
    Effect s .chunkReadDone (s.chunkRead r k stamp live).finishOp
  -- the line
  | lineIdle (hon : s.power = .on) (hrecv : s.ctl.state.receives = true) (hslot : s.line.slot = none) :
    Effect s .lineIdle (s.dropFrame.mapLine ({ · with syncing := false })).offer
  | lostArbitration (x) (hon : s.power = .on) (hslot : s.line.slot = some x) :
    Effect s .lostArbitration (s.attemptLost x).afterAttempt
  | lineFault (place x) (hon : s.power = .on) (hslot : s.line.slot = some x) :
    Effect s (.lineFault place) ((s.answerAfterFault place x.frame).attemptLost x).countFault.afterAttempt
  | stranger (c n) (hon : s.power = .on) (hrecv : s.canReceive = true) : Effect s c (s.strangerHeard n)
  | ownNumber (c f) (hon : s.power = .on) (hrecv : s.canReceive = true) (hown : f.origin = s.own) :
    Effect s c (s.ownNumberHeard f)
  | received (guardPin f) (h : s.hears f) (hline : (s.handOn f).ctl.state.onLine = true) :
    Effect s (receptionOf guardPin f)
      ((ackPoint guardPin f (s.handOn f)).2.holdFrame f (ackPoint guardPin f (s.handOn f)).1 true).settle
  | listened (guardPin f) (h : s.hears f) (hline : (s.handOn f).ctl.state.onLine = false) :
    Effect s (receptionOf guardPin f) ((s.handOn f).holdFrame f false false)
  | endLost (hon : s.power = .on) : Effect s (.frameEndLost none) s.dropFrame
  | endLostEarly (f) (h : s.hears f) : Effect s (.frameEndLost (some f)) (s.handOn f).settle
  -- frame ends
  | beaconSent (ack b w) (hon : s.power = .on) (hslot : s.line.slot = some ⟨.beacon b, w⟩) :
    Effect s (.beaconFrameEnd ack) (s.ownBeaconEnd b w ack).afterAttempt
  | beaconHeard (ack b bit acked) (hon : s.power = .on) (hrx : s.line.rx = some ⟨.beacon b, bit, acked⟩) :
    Effect s (.beaconFrameEnd ack) (s.receptionDone.beaconHeard b).resume
  | claimSent (ack c w) (hon : s.power = .on) (hslot : s.line.slot = some ⟨.claim c, w⟩) :
    Effect s (.claimFrameEnd ack) (s.ownClaimEnd c ack).afterAttempt
  | claimHeard (ack c bit acked) (hon : s.power = .on) (hrx : s.line.rx = some ⟨.claim c, bit, acked⟩) :
    Effect s (.claimFrameEnd ack) (s.receptionDone.claimHeard acked c ack).resume
  | pullSent (ack p w) (hon : s.power = .on) (hslot : s.line.slot = some ⟨.pull p, w⟩) :
    Effect s (.pullFrameEnd ack) (s.ownPullEnd ack).afterAttempt
  | updateSent (ack u w) (hon : s.power = .on) (hslot : s.line.slot = some ⟨.update u, w⟩) :
    Effect s (.updateFrameEnd ack) (s.ownUpdateEnd ack).afterAttempt
  | imageSent (ack i w) (hon : s.power = .on) (hslot : s.line.slot = some ⟨.image i, w⟩) :
    Effect s (.imageFrameEnd ack) (s.ownImageEnd ack).afterAttempt
  | otherHeard (c) (hon : s.power = .on) : Effect s c s.receptionDone
  -- timers
  | silent (n) (hon : s.power = .on) (hruns : s.silenceRuns n = true) : Effect s (.silenceTimer24ms n) (s.fallSilent n).resume
  | absent (n) (hon : s.power = .on) (hruns : s.silenceRuns n = true) : Effect s (.silenceTimer48ms n) (s.fallAbsent n).resume
  | strangerTimer (n) (hon : s.power = .on) :
    Effect s (.strangerTimerExpiry n) (s.mapLine fun l => { l with strangers := l.strangers.set n none })
  | beaconTimer (hon : s.power = .on) (hruns : s.ctl.beaconTimer.isSome = true) :
    Effect s .beaconTimerExpiry (s.mapCtl ({ · with beaconTimer := some 0, beaconDue := true }))
  | duplicate (hon : s.power = .on) (hstate : s.ctl.state = .listening) :
    Effect s .listenExpiry (s.halt .duplicate).arbitrate
  | joined (hon : s.power = .on) (hstate : s.ctl.state = .listening) : Effect s .listenExpiry s.joinComplete.resume
  | cut (hon : s.power = .on) (hstate : s.ctl.state = .leaving) (hphase : s.ctl.leavePhase = .drain) :
    Effect s .leaveDrainCut s.cut.drainEnd
  | finalExpired (hon : s.power = .on) (hstate : s.ctl.state = .leaving) (hphase : s.ctl.leavePhase = .final) :
    Effect s .leaveFinalExpiry (s.mapCtl ({ · with leaveTimer := none })).afterAttempt
  | answerExpired (r p) (hon : s.power = .on) (hpull : s.pullOf r = some p) :
    Effect s (.answerTimerExpiry r) (s.answerExpired p).resume
  -- resets and power
  | powerOn (straps) : Effect s (.powerOnReset straps) (s.losePower.recover .power straps)
  | resetAsserted : Effect s .resetAsserted s.assertReset
  | resetReleased (straps) : Effect s (.resetReleased straps) (s.releaseReset straps)
  | powerLost : Effect s .powerLost s.losePower

/-- Serial data out left undriven bears on no region's owner. -/
@[simp] theorem State.undriven_owns (s : State) (r : Region) : s.undriven.owns r = s.owns r := rfl

/-- Serial data out left undriven does not bear on the station number. -/
@[simp] theorem State.undriven_own (s : State) : s.undriven.own = s.own := rfl

/-- A put is refused by the port, or dealt with in IDLE by its row (R172, R173). -/
theorem Effect.onPut {s : State} {c : Instr} (f : State → State) (hf : s.takesPut → Effect s c (f s.undriven)) :
    Effect s c (s.onPut f) := by
  unfold State.onPut State.whenOn
  split
  next hon =>
    dsimp only
    split
    next hidle => exact hf ⟨by simpa using hon, by simpa [State.undriven] using hidle⟩
    next => exact .refused c
    next => exact .refused c
  next => exact .undriven c

/-- A row that acts while the part runs leaves one that does not as it is (log 12). -/
theorem Effect.whenOn {s : State} {c : Instr} (f : State → State) (hf : s.power = .on → Effect s c (f s)) :
    Effect s c (s.whenOn f) := by
  unfold State.whenOn
  split
  next hon => exact hf hon
  next => exact .unchanged c

/-- A frame found intact: not intact here, an own number, a stranger, or a member's frame handed on (R29 to R32). -/
theorem Effect.found {s : State} {c : Instr} (f : Frame) (k : State → State) (hon : s.power = .on)
    (hk : s.hears f → Effect s c (k (s.handOn f))) : Effect s c (s.found f k) := by
  unfold State.found
  split
  next => exact .unchanged c
  next hcan =>
    obtain ⟨hrecv, hrange⟩ : s.canReceive = true ∧ f.inRange = true := by simpa using hcan
    split
    next hown => exact .ownNumber c f hon hrecv hown
    next hother =>
      split
      next => exact .stranger c _ hon hrecv
      next hmember => exact hk ⟨hon, hrecv, hrange, hother, by simpa using hmember⟩

/-- The reception of a frame, by its kind's ack point (R32, R33). -/
theorem Effect.receive {s : State} (guardPin : Bool) (f : Frame) (hon : s.power = .on) :
    Effect s (receptionOf guardPin f) (s.receive f (ackPoint guardPin f)) := by
  refine Effect.found f _ hon fun h => ?_
  split
  next hline => exact .received guardPin f h hline
  next hline => exact .listened guardPin f h (by simpa using hline)

/-- The states that `activeOnly` lets through. -/
theorem StationState.activeOnly_eq_none {st : StationState} : st.activeOnly = none ↔ st = .active := by
  cases st <;> simp [StationState.activeOnly]

/-- The effects of the complete puts (R172, R173). -/
theorem exec_effect_of_isPut {c : Instr} {s t : State} (hput : isPut c = true) (h : exec c s = .next t) : Effect s c t := by
  cases c with
  | putRefusedByPort => cases h; exact .onPut _ fun _ => .undriven _
  | unknownCommandCode code =>
    have hcode : knownCode code = false := by simpa [isPut] using hput
    rw [exec, execUnknownCommandCode, hcode] at h
    cases h
    exact .onPut _ fun h => .answered _ h _ _ _
  | read region offset length =>
    cases h
    refine .onPut _ fun h => ?_
    split
    next => exact .answered _ h _ _ _
    next r hargs => exact .read _ _ _ r h hargs
  | write region offset length data guardPin =>
    cases h
    refine .onPut _ fun h => ?_
    split
    next => exact .answered _ h _ _ _
    next r hargs =>
      split
      next => exact .answered _ h _ _ _
      next hcheck => exact .write _ _ _ _ _ r h hargs hcheck
  | claim region guardPin =>
    cases h
    refine .onPut _ fun h => ?_
    split
    next => exact .answered _ h _ _ _
    next r hargs =>
      unfold State.startClaim
      split
      next => exact .answered _ h _ _ _
      next hactive =>
        split
        next => exact .answered _ h _ _ _
        next howns =>
          split
          next => exact .answered _ h _ _ _
          next hcheck =>
            have hactive : s.ctl.state = .active := StationState.activeOnly_eq_none.1 hactive
            exact .claim _ _ r h hactive (by simpa using howns) hcheck
  | release region guardPin =>
    cases h
    refine .onPut _ fun h => ?_
    split
    next => exact .answered _ h _ _ _
    next r hargs =>
      split
      next => exact .answered _ h _ _ _
      split
      next => exact .answered _ h _ _ _
      next howns =>
        split
        next => exact .answered _ h _ _ _
        next => exact .yield _ _ r _ h (by simpa using howns)
  | keep region =>
    cases h
    refine .onPut _ fun h => ?_
    split
    next => exact .answered _ h _ _ _
    next r hargs =>
      split
      next => exact .answered _ h _ _ _
      split
      next => exact .answered _ h _ _ _
      next howns => exact .yield _ _ r _ h (by simpa using howns)
  | fence =>
    cases h
    refine .onPut _ fun h => ?_
    split
    next => exact .answered _ h _ _ _
    next hline =>
      split
      next => exact .answered _ h _ _ _
      next hnone => exact .fence h (by simpa using hline) (by simpa using hnone)
  | region region guardPin =>
    cases h
    refine .onPut _ fun h => ?_
    split <;> exact .answered _ h _ _ _
  | roster | status | ident => cases h; exact .onPut _ fun h => .answered _ h _ _ _
  | event =>
    cases h
    refine .onPut _ fun h => ?_
    split
    next => exact .answered _ h _ _ _
    next e rest hq => exact .event e rest h (by simpa using hq)
  | setup members guardSet guardPin =>
    cases h
    refine .onPut _ fun h => ?_
    split
    next => exact .answered _ h _ _ _
    split
    next => exact .answered _ h _ _ _
    next hown =>
      split
      next => exact .answered _ h _ _ _
      next => exact .setup _ _ _ h (by simpa using hown)
  | format guardPin =>
    cases h
    refine .onPut _ fun h => ?_
    split
    next => exact .answered _ h _ _ _
    next hstate =>
      split
      next => exact .answered _ h _ _ _
      next => exact .format _ h (by simpa using hstate)
  | join =>
    cases h
    refine .onPut _ fun h => ?_
    split
    next => exact .answered _ h _ _ _
    next hstate => exact .join h (by simpa using hstate)
  | leave =>
    cases h
    refine .onPut _ fun h => ?_
    split
    next hstate => exact .leave h (.inl (by simpa using hstate))
    next hstate => exact .leave h (.inr (.inl (by simpa using hstate)))
    next hstate => exact .leave h (.inr (.inr (by simpa using hstate)))
    all_goals exact .answered _ h _ _ _
  | doze =>
    cases h
    refine .onPut _ fun h => ?_
    split
    next => exact .answered _ h _ _ _
    next hstate =>
      split
      next => exact .answered _ h _ _ _
      next hidle => exact .doze h (by simpa using hstate) (by simpa using hidle)
  | wake =>
    cases h
    refine .onPut _ fun h => ?_
    split
    next hstate => exact .wake h (by simpa using hstate)
    all_goals exact .answered _ h _ _ _
  | _ => cases hput

/-- Every command that is given its effect has one of these effects. -/
theorem exec_effect {c : Instr} {s t : State} (h : exec c s = .next t) : Effect s c t := by
  cases c with
  | putRefusedByPort | read | write | claim | release | keep | fence | region | roster | status | event | ident | setup
  | format | join | leave | doze | wake => exact exec_effect_of_isPut rfl h
  | unknownCommandCode code =>
    cases hcode : knownCode code with
    | true => rw [exec, execUnknownCommandCode, hcode] at h; cases h; exact .unchanged _
    | false => exact exec_effect_of_isPut (by rw [isPut, hcode]; rfl) h
  | incompletePut | unknownSelector => cases h; exact .undriven _
  | take bits =>
    cases h
    split
    next hon => exact .take bits hon
    next => exact .undriven _
  | poll run =>
    cases h
    split
    next hon => exact .poll run hon
    next => exact .pollIgnored run
  | setupRecordWritten =>
    cases h
    refine .whenOn _ fun hon => ?_
    split
    next m g hport => exact .setupWritten m g hon hport
    next => exact .unchanged _
  | formatStepDone =>
    rw [exec, execFormatStepDone] at h
    split at h
    next r k hop hport => cases h; exact .formatStep r k hop hport
    next => cases h; exact .unchanged _
  | readPieceDone =>
    rw [exec, execReadPieceDone] at h
    split at h
    next w hop hport =>
      split at h
      next => cases h; exact .readPiece w hop hport
      next => cases h
    next => cases h; exact .unchanged _
  | writeArrayDone =>
    rw [exec, execWriteArrayDone] at h
    split at h
    next w hop hport =>
      split at h
      next => cases h; exact .writeDone w hop hport
      next => cases h
    next => cases h; exact .unchanged _
  | applyWriteDone =>
    rw [exec, execApplyWriteDone] at h
    split at h
    next e rest hop hq =>
      split at h
      next => cases h; exact .applyDone e rest hop hq
      next => cases h
    next => cases h; exact .unchanged _
  | chunkReadDone =>
    rw [exec, execChunkReadDone] at h
    split at h
    next r k stamp live hop => cases h; exact .chunkRead r k stamp live hop
    next => cases h; exact .unchanged _
  | lineIdle =>
    cases h
    refine .whenOn _ fun hon => ?_
    split
    next hcan =>
      obtain ⟨hrecv, hslot⟩ : s.ctl.state.receives = true ∧ s.line.slot = none := by simpa using hcan
      exact .lineIdle hon hrecv hslot
    next => exact .unchanged _
  | lostArbitration =>
    cases h
    refine .whenOn _ fun hon => ?_
    split
    next x hslot => exact .lostArbitration x hon hslot
    next => exact .unchanged _
  | lineFault place =>
    cases h
    refine .whenOn _ fun hon => ?_
    split
    next x hslot => exact .lineFault place x hon hslot
    next => exact .unchanged _
  | frameDiscarded => cases h; exact .unchanged _
  | strangerFrame origin =>
    cases h
    refine .whenOn _ fun hon => ?_
    split
    next hcan => exact .stranger _ _ hon (by simp at hcan; exact hcan.1.1)
    next => exact .unchanged _
  | beaconReceived b => cases h; exact .whenOn _ fun hon => .receive false (.beacon b) hon
  | claimFrameReceived f guardPin => cases h; exact .whenOn _ fun hon => .receive guardPin (.claim f) hon
  | pullReceived p => cases h; exact .whenOn _ fun hon => .receive false (.pull p) hon
  | updateReceived u => cases h; exact .whenOn _ fun hon => .receive false (.update u) hon
  | imageReceived i => cases h; exact .whenOn _ fun hon => .receive false (.image i) hon
  | frameEndLost early =>
    cases h
    cases early with
    | none =>
      refine .whenOn _ fun hon => ?_
      dsimp only
      split
      next => exact .endLost hon
      next => exact .unchanged _
    | some f => exact .whenOn _ fun hon => .found f _ hon fun h => .endLostEarly f h
  | beaconFrameEnd ack =>
    cases h
    refine .whenOn _ fun hon => ?_
    split
    next _ b w hslot => exact .beaconSent ack b w hon hslot
    next _ _ b bit acked hrx _ => exact .beaconHeard ack b bit acked hon hrx
    next => exact .unchanged _
  | claimFrameEnd ack =>
    cases h
    refine .whenOn _ fun hon => ?_
    split
    next _ f w hslot => exact .claimSent ack f w hon hslot
    next _ _ f bit acked hrx _ => exact .claimHeard ack f bit acked hon hrx
    next => exact .unchanged _
  | pullFrameEnd ack =>
    cases h
    refine .whenOn _ fun hon => ?_
    split
    next _ f w hslot => exact .pullSent ack f w hon hslot
    next => exact .otherHeard _ hon
    next => exact .unchanged _
  | updateFrameEnd ack =>
    cases h
    refine .whenOn _ fun hon => ?_
    split
    next _ f w hslot => exact .updateSent ack f w hon hslot
    next => exact .otherHeard _ hon
    next => exact .unchanged _
  | imageFrameEnd ack =>
    cases h
    refine .whenOn _ fun hon => ?_
    split
    next _ f w hslot => exact .imageSent ack f w hon hslot
    next => exact .otherHeard _ hon
    next => exact .unchanged _
  | silenceTimer24ms n =>
    cases h
    refine .whenOn _ fun hon => ?_
    split
    next hruns => exact .silent n hon hruns
    next => exact .unchanged _
  | silenceTimer48ms n =>
    cases h
    refine .whenOn _ fun hon => ?_
    split
    next hruns => exact .absent n hon hruns
    next => exact .unchanged _
  | strangerTimerExpiry n => cases h; exact .whenOn _ fun hon => .strangerTimer n hon
  | beaconTimerExpiry =>
    cases h
    refine .whenOn _ fun hon => ?_
    split
    next hruns => exact .beaconTimer hon hruns
    next => exact .unchanged _
  | listenExpiry =>
    cases h
    refine .whenOn _ fun hon => ?_
    split
    next hlisten =>
      split
      next => exact .duplicate hon hlisten.1
      next => exact .joined hon hlisten.1
    next => exact .unchanged _
  | leaveDrainCut =>
    cases h
    refine .whenOn _ fun hon => ?_
    split
    next hleave => exact .cut hon hleave.1 hleave.2.1
    next => exact .unchanged _
  | leaveFinalExpiry =>
    cases h
    refine .whenOn _ fun hon => ?_
    split
    next hleave => exact .finalExpired hon hleave.1 hleave.2.1
    next => exact .unchanged _
  | answerTimerExpiry r =>
    cases h
    refine .whenOn _ fun hon => ?_
    split
    next p hpull =>
      split
      next => exact .answerExpired r p hon hpull
      next => exact .unchanged _
    next => exact .unchanged _
  | powerOnReset straps => cases h; exact .powerOn straps
  | resetAsserted => cases h; exact .resetAsserted
  | resetReleased straps => cases h; exact .resetReleased straps
  | powerLost => cases h; exact .powerLost

/-- What a step can do: a millisecond passes, or the front command has its effect on the rest of the queue. -/
theorem step_cases {s t : State} (h : step s = .next t) :
    s.pending = [] ∧ t = s.tick ∨ ∃ c rest, s.pending = c :: rest ∧ Effect (s.setPending rest) c t := by
  unfold step at h
  split at h
  next c rest hp => exact .inr ⟨c, rest, hp, exec_effect h⟩
  next hp => cases h; exact .inl ⟨hp, rfl⟩

/-- A property that the passing of time and every effect keep is kept by every step. -/
theorem step_keeps {P : State → Prop} (htick : ∀ s, P s → P s.tick) (hpending : ∀ s rest, P s → P (s.setPending rest))
    (heffect : ∀ s c t, Effect s c t → P s → P t) {s t : State} (hs : P s) (h : step s = .next t) : P t := by
  rcases step_cases h with ⟨-, rfl⟩ | ⟨c, rest, -, he⟩
  · exact htick s hs
  · exact heffect _ c t he (hpending s rest hs)

end Sys2Proof.Machine
end

section
/-! SUPPORT. The form of the event queue, the limits of the counted stores, the own number in the member set and the waiting spans,
which every effect keeps. -/

namespace Sys2Proof.Machine

-- One proof at a time: the proofs that wait for each other would hold the memory of the whole text.
set_option Elab.async false

/-- No ack point breaks the form of the event queue. -/
@[simp] theorem ackPoint_eventsOk (guardPin : Bool) (f : Frame) (s : State) (h : eventsOk s.events = true) :
    eventsOk (ackPoint guardPin f s).2.events = true := by
  cases f <;> simp [ackPoint, h]

/-- Every effect keeps the form of the event queue: EVENT takes the oldest record, and everything else posts. -/
theorem Effect.keeps_eventsOk {s t : State} {c : Instr} (he : Effect s c t) (h : eventsOk s.events = true) :
    eventsOk t.events = true := by
  cases he with
  | event e rest _ hq => simpa using tail_eventsOk e rest (hq ▸ h)
  | unchanged => exact h
  | lineFault => exact State.afterAttempt_eventsOk _ (State.countFault_eventsOk _ (by simp [h]))
  | _ => simp [h]

/-- Settles O54: every operation that posts keeps the form, and EVENT takes the oldest record. -/
theorem stepKeepsEventQueueForm : Obligations.StepKeepsEventQueueForm := fun _ _ hs h =>
  step_keeps (P := fun s => eventsOk s.events = true) (fun _ h => by simpa using h) (fun _ _ h => h)
    (fun _ _ _ he => he.keeps_eventsOk) hs h

/-- No ack point breaks a limit. -/
@[simp] theorem ackPoint_limits (guardPin : Bool) (f : Frame) (s : State) (h : s.limitsOk) :
    (ackPoint guardPin f s).2.limitsOk := by
  cases f <;> simp [ackPoint, h]

/-- Every effect keeps the limits of the counted stores. -/
theorem Effect.keeps_limits {s t : State} {c : Instr} (he : Effect s c t) (h : s.limitsOk) : t.limitsOk := by
  have hu : s.undriven.limitsOk := by simp [h]
  cases he with
  | unchanged => exact h
  | write => exact State.arbitrate_limits _ (by simp [hu])
  | claim => exact State.answer_limits _ _ _ _ (State.mapOut_limits _ _ le_rfl (State.appendEntry_limits _ _ _ rfl hu))
  | fence => exact State.checkFence_limits _ (by simp [hu])
  | format =>
    have hcleared : s.undriven.formatClear.formatIntent.limitsOk := by simp [hu]
    exact State.arbitrate_limits _ (by simp [hcleared])
  | leave => exact State.drainEnd_limits _ (by simp [hu])
  | doze => exact State.answer_limits _ _ _ _ (by simp [hu])
  | wake => exact State.openPulls_limits _ (by simp [hu])
  | applyDone e rest _ hq => exact State.finishOp_limits _ (State.applyDone_limits s e rest hq h)
  | lineIdle => exact State.offer_limits _ (State.mapLine_limits _ _ (.inl rfl) (by simp [h]))
  | lineFault => exact State.afterAttempt_limits _ (State.countFault_limits _ (by simp [h]))
  | received => exact State.settle_limits _ (State.holdFrame_limits _ _ _ _ (by simp [h]))
  | beaconHeard => exact State.resume_limits _ (by simp [h])
  | claimHeard => exact State.resume_limits _ (by simp [h])
  | _ => simp [h, hu]

/-- No ack point takes the own number out of the member set. -/
@[simp] theorem ackPoint_self (guardPin : Bool) (f : Frame) (s : State) (h : s.selfMember) :
    (ackPoint guardPin f s).2.selfMember := by
  cases f <;> simp [ackPoint, h]

/-- Every effect keeps the own number in the member set, and in one that waits to be written. -/
theorem Effect.keeps_self {s t : State} {c : Instr} (he : Effect s c t) (h : s.selfMember) : t.selfMember := by
  have hu : s.undriven.selfMember := by simp [h]
  cases he with
  | unchanged => exact h
  | pollIgnored => exact State.mapPort_self _ _ (.inl rfl) h
  | write => exact State.arbitrate_self _ (by simp [hu])
  | fence => exact State.checkFence_self _ (by simp [hu])
  | setup m g _ _ hown => exact State.work_self _ _ (by rintro _ _ ⟨⟩; simpa using hown) hu
  | format =>
    have hcleared : s.undriven.formatClear.formatIntent.selfMember := by simp [hu]
    exact State.arbitrate_self _ (by simp [hcleared])
  | leave => exact State.drainEnd_self _ (by simp [hu])
  | doze => exact State.answer_self _ _ _ _ (by simp [hu])
  | wake => exact State.openPulls_self _ (by simp [hu])
  | setupWritten m g _ hport => exact State.setupWritten_self s m g (h.2 m g hport)
  | lineFault => exact State.afterAttempt_self _ (State.countFault_self _ (by simp [h]))
  | received => exact State.settle_self _ (State.holdFrame_self _ _ _ _ (by simp [h]))
  | beaconHeard => exact State.resume_self _ (by simp [h])
  | claimHeard => exact State.resume_self _ (by simp [h])
  | _ => simp [h, hu]

/-- An intact frame leaves only spans that lie in their regions. -/
theorem ackPoint_spans (guardPin : Bool) (f : Frame) (s : State) (hf : f.inRange = true) (h : s.spansOk) :
    (ackPoint guardPin f s).2.spansOk := by
  cases f with
  | update u => exact State.updateAct_spans u s hf h
  | image i => exact State.imageAct_spans i s hf h
  | _ => simp [ackPoint, h]

/-- The argument step of READ lets through only a span within its region (R138). -/
theorem readArgs_inRegion {region : Byte} {offset length : BitVec 16} {r : Region}
    (h : readArgs region offset length = some r) : inRegion offset.toNat length.toNat = true := by
  unfold readArgs at h
  split at h
  next hspan => exact decide_eq_true hspan.2.2
  next => cases h

/-- The argument step of WRITE lets through only a span within its region (Table 4-1). -/
theorem writeArgs_inRegion {region : Byte} {offset length : BitVec 16} {data : List Byte} {r : Region}
    (h : writeArgs region offset length data = some r) : inRegion offset.toNat data.length = true := by
  unfold writeArgs at h
  split at h
  next hspan => exact hspan.2 ▸ updateSpanOk_inRegion hspan.1
  next => cases h

/-- Every effect leaves only spans that lie in their regions. -/
theorem Effect.keeps_spans {s t : State} {c : Instr} (he : Effect s c t) (h : s.spansOk) : t.spansOk := by
  have hu : s.undriven.spansOk := by simp [h]
  cases he with
  | unchanged => exact h
  | pollIgnored => exact State.mapPort_spans _ _ (.inl rfl) h
  | read _ _ _ r _ hargs => exact State.startRead_spans _ _ _ _ (readArgs_inRegion hargs) hu
  | write _ _ _ _ _ r _ hargs =>
    exact State.arbitrate_spans _ (State.work_spans _ _ (writeArgs_inRegion hargs) (by simp [hu]))
  | fence => exact State.checkFence_spans _ (by simp [hu])
  | format =>
    have hcleared : s.undriven.formatClear.formatIntent.spansOk := by simp [hu]
    exact State.arbitrate_spans _ (by simp [hcleared])
  | leave => exact State.drainEnd_spans _ (by simp [hu])
  | doze => exact State.answer_spans _ _ _ _ (by simp [hu])
  | wake => exact State.openPulls_spans _ (by simp [hu])
  | readPiece w _ hport => exact State.finishOp_spans _ (State.readPiece_spans s w (h.2 _ hport) h)
  | applyDone e rest _ hq => exact State.finishOp_spans _ (State.applyDone_spans s e rest hq h)
  | lineFault => exact State.afterAttempt_spans _ (State.countFault_spans _ (by simp [h]))
  | received guardPin f hears =>
    exact State.settle_spans _ (State.holdFrame_spans _ _ _ _ (ackPoint_spans _ _ _ hears.2.2.1 (by simp [h])))
  | beaconHeard => exact State.resume_spans _ (by simp [h])
  | claimHeard => exact State.resume_spans _ (by simp [h])
  | _ => simp [h, hu]

/-- Every ack point leaves the queue of waiting commands. -/
@[simp] theorem ackPoint_pending (guardPin : Bool) (f : Frame) (s : State) :
    (ackPoint guardPin f s).2.pending = s.pending := by
  cases f <;> simp [ackPoint]

/-- No effect touches the queue of waiting commands. -/
theorem Effect.pending_eq {s t : State} {c : Instr} (he : Effect s c t) : t.pending = s.pending := by
  cases he with
  | unchanged => rfl
  | _ => simp

/-- Settles O3: no effect of a command touches the queue. -/
theorem execKeepsQueue : Obligations.ExecKeepsQueue := fun _ _ _ h => (exec_effect h).pending_eq

end Sys2Proof.Machine
end

section
/-! SUPPORT. The canonical form of the array, which every effect keeps, and the answer of every row whose spans lie in their
regions. -/

namespace Sys2Proof.Machine

-- One proof at a time: the proofs that wait for each other would hold the memory of the whole text.
set_option Elab.async false

/-- A write within a region keeps the canonical form of the array. -/
theorem State.writeArray_wf (s : State) (r : Region) (k : Nat) (data : List Byte) (hspan : inRegion k data.length = true)
    (h : Memory.wf s.nv.array = true) : Memory.wf (s.writeArray r k data).nv.array = true := by
  have hspan : k + data.length ≤ 4096 := of_decide_eq_true hspan
  refine memWriteBytes_wf (a := arrayAddr r k) data h ?_
  have hr := r.isLt
  unfold arrayAddr Config.regionBytes Config.arrayBytes
  omega

/-- The array after a FORMAT step. -/
theorem State.formatStep_nv_array (s : State) (r : Region) (k : Chunk) : (s.formatStep r k).nv.array
    = (s.writeArray r (chunkOffset k) (List.replicate Config.chunkBytes 0)).nv.array := by
  unfold State.formatStep State.formatNext State.formatRegionDone
  split
  · split <;> simp
  · simp

/-- The array after a host WRITE. -/
theorem State.writeDone_nv_array (s : State) (w : WriteWork) :
    (s.writeDone w).nv.array = (s.writeArray w.region w.offset w.data).nv.array := by
  simp [State.writeDone]

/-- The array after an apply. -/
theorem State.applyDone_nv_array (s : State) (e : ApplyEntry) (rest : List ApplyEntry) :
    (s.applyDone e rest).nv.array = (s.writeArray e.region e.body.span.1 e.body.span.2).nv.array := by
  simp [State.applyDone, State.setIntent, State.retain]

/-- No ack point changes the array. -/
@[simp] theorem ackPoint_nv_array (guardPin : Bool) (f : Frame) (s : State) :
    (ackPoint guardPin f s).2.nv.array = s.nv.array := by
  cases f <;> simp [ackPoint]

/-- A write cut by loss of power keeps the canonical form of the array. -/
theorem State.cutWrite_wf (s : State) (h : Memory.wf s.nv.array = true) : Memory.wf s.cutWrite.nv.array = true := by
  unfold State.cutWrite
  split
  next r k n _ =>
    split
    next hspan => exact State.writeArray_wf s r k _ (by simpa [State.cutBytes] using hspan) h
    next => exact h
  next => exact h

/-- Loss of power keeps the canonical form of the array. -/
theorem State.losePower_wf (s : State) (h : Memory.wf s.nv.array = true) : Memory.wf s.losePower.nv.array = true := by
  unfold State.losePower
  split
  next => exact h
  next => simpa using State.cutWrite_wf s.cutSetup (by simpa using h)

/-- Every effect keeps the canonical form of the array. -/
theorem Effect.keeps_wf {s t : State} {c : Instr} (he : Effect s c t) (hs : s.spansOk) (h : Memory.wf s.nv.array = true) :
    Memory.wf t.nv.array = true := by
  cases he with
  | unchanged => exact h
  | formatStep r k =>
    rw [State.finishOp_nv_array, State.formatStep_nv_array]
    exact State.writeArray_wf s r _ _ (by simpa using chunk_inRegion k) h
  | writeDone w _ hport =>
    rw [State.finishOp_nv_array, State.writeDone_nv_array]
    exact State.writeArray_wf s _ _ _ (hs.2 _ hport) h
  | applyDone e rest _ hq =>
    rw [State.finishOp_nv_array, State.applyDone_nv_array]
    exact State.writeArray_wf s _ _ _ (hs.1 e (hq ▸ List.mem_cons_self)) h
  | received => simp [State.settle, h]
  | powerOn => simpa using State.losePower_wf s h
  | powerLost => exact State.losePower_wf s h
  | _ => simp [h]

/-- The next piece of a READ lies in its region where what is left to read does. -/
theorem inRegion_piece {pos left : Nat} (h : inRegion pos left = true) : inRegion pos (pieceLength pos left) = true := by
  have hspan : pos + left ≤ 4096 := of_decide_eq_true h
  have hpiece : pieceLength pos left ≤ left := Nat.min_le_left _ _
  exact decide_eq_true (show pos + pieceLength pos left ≤ 4096 by omega)

/-- Every command is given its effect while the spans that wait for the array lie in their regions. -/
theorem exec_runs (c : Instr) {s : State} (h : s.spansOk) : Runs c s := by
  cases c with
  | formatStepDone =>
    simp only [Runs, exec, execFormatStepDone]
    split <;> exact ⟨_, rfl⟩
  | readPieceDone =>
    simp only [Runs, exec, execReadPieceDone]
    split
    next w _ hport => rw [if_pos (inRegion_piece (h.2 _ hport))]; exact ⟨_, rfl⟩
    next => exact ⟨_, rfl⟩
  | writeArrayDone =>
    simp only [Runs, exec, execWriteArrayDone]
    split
    next w _ hport =>
      have hspan : inRegion w.offset w.data.length = true := h.2 _ hport
      rw [if_pos hspan]
      exact ⟨_, rfl⟩
    next => exact ⟨_, rfl⟩
  | applyWriteDone =>
    simp only [Runs, exec, execApplyWriteDone]
    split
    next e rest _ hq => rw [if_pos (h.1 e (hq ▸ List.mem_cons_self))]; exact ⟨_, rfl⟩
    next => exact ⟨_, rfl⟩
  | chunkReadDone =>
    simp only [Runs, exec, execChunkReadDone]
    split <;> exact ⟨_, rfl⟩
  | _ => exact ⟨_, rfl⟩

/-- Settles O58: every row answers where its span lies in its region, and its effect keeps spans and array. -/
theorem stepAlwaysRuns : Obligations.StepAlwaysRuns := by
  intro s h
  cases hp : s.pending with
  | nil => exact ⟨s.tick, by rw [step, hp], State.tick_spans s h, fun hwf => by simpa using hwf⟩
  | cons c rest =>
    obtain ⟨t, ht⟩ := exec_runs c (s := s.setPending rest) h
    have he := exec_effect ht
    exact ⟨t, by rw [step, hp]; exact ht, he.keeps_spans h, he.keeps_wf h⟩

end Sys2Proof.Machine
end

section
/-! SUPPORT. The retained image of every region, which every effect keeps while the part runs (R8). -/

namespace Sys2Proof.Machine

/-- The whole of the retained regions follow their working entries. -/
theorem State.retainedOk_iff (s : State) : s.retainedOk ↔ (s.running → s.retainedBut []) := by
  simp [State.retainedOk, State.retainedBut, retainedFor]

/-- A region that comes up with no in-flight mark is retained as it comes up. -/
theorem nvImage_working {n : NvRegion} (h : n.inFlight = false) : n = nvImage n.working false := by
  obtain ⟨stamp, stale, inFlight, held⟩ := n
  cases h
  rcases stale with _ | _ | _ <;> rfl

/-- The part comes up with its retained regions as the working entries. -/
theorem State.recover_retained (s : State) (c : ResetCause) (straps : Straps) : (s.recover c straps).retainedBut [] := by
  intro r _
  have hunwritten : (s.recover c straps).unwritten r = false := by
    simp [State.recover, State.clearWorking, State.unwritten, State.reset]
  have hentry : (s.recover c straps).table[r] = (s.nv.recover.regions[r]).working := by
    simp [State.recover, Retained.table]
  have hmark : s.nv.recover.regions[r].inFlight = false := by simp [Retained.recover]
  have hnv : (s.recover c straps).nv = s.nv.recover := rfl
  rw [hunwritten, hentry, hnv]
  exact nvImage_working hmark

/-- The end of an array operation keeps the retained images of a part that runs after it. -/
theorem State.finishOp_retains (s : State) (h : s.running → s.retainedBut []) (ht : s.finishOp.running) :
    s.finishOp.retainedBut [] := by
  unfold State.finishOp at ht ⊢
  split
  next hp => simp [hp, State.running, State.clearWorking] at ht
  next => exact State.recover_retained _ _ _
  next hp => exact State.resume_retained _ (h (.inl hp))
  next hp => simp [hp, State.running] at ht
  next hp => simp [hp, State.running] at ht

/-- No ack point breaks a retained image. -/
@[simp] theorem ackPoint_retained {X : List Region} (guardPin : Bool) (f : Frame) (s : State) (h : s.retainedBut X) :
    (ackPoint guardPin f s).2.retainedBut X := by
  cases f <;> simp [ackPoint, h]

/-- A pin reset asserted leaves a part that runs with its retained images. -/
theorem State.assertReset_retains (s : State) (h : s.running → s.retainedBut []) (ht : s.assertReset.running) :
    s.assertReset.retainedBut [] := by
  unfold State.assertReset at ht ⊢
  split
  next hp =>
    split
    next => simpa using h (.inl hp)
    next => simp_all [State.running, State.clearWorking]
  next x hp => simpa using h (.inr ⟨x, hp⟩)
  next hp => simp [hp, State.running] at ht
  next hp => simp [hp, State.running] at ht

/-- A pin reset released leaves a part that runs with its retained images. -/
theorem State.releaseReset_retains (s : State) (straps : Straps) (h : s.running → s.retainedBut [])
    (ht : (s.releaseReset straps).running) : (s.releaseReset straps).retainedBut [] := by
  unfold State.releaseReset at ht ⊢
  split
  next => exact State.recover_retained _ _ _
  next hp => simpa using h (.inr ⟨_, hp⟩)
  next hp => exact h (.inr ⟨_, hp⟩)
  next hp => exact h (.inl hp)
  next hp => simp [hp, State.running] at ht

/-- A part without power does not run. -/
theorem State.losePower_not_running (s : State) : ¬ s.losePower.running := by
  unfold State.losePower
  split
  next hoff => simp [State.running, hoff]
  next => simp [State.running, State.clearWorking]

/-- Every effect on a part that runs keeps the retained images of one that runs after it. -/
theorem Effect.keeps_retained {s t : State} {c : Instr} (he : Effect s c t) (h : s.retainedBut []) (ht : t.running) :
    t.retainedBut [] := by
  have hu : s.undriven.retainedBut [] := by simp [h]
  cases he with
  | unchanged => exact h
  | write => exact State.arbitrate_retained _ (by simp [hu])
  | fence => exact State.checkFence_retained _ (by simp [hu])
  | format =>
    have hcleared : s.undriven.formatClear.formatIntent.retainedBut [] := by simp [hu]
    exact State.arbitrate_retained _ (by simp [hcleared])
  | leave => exact State.drainEnd_retained _ (by simp [hu])
  | doze => exact State.answer_retained _ _ _ _ (by simp [hu])
  | wake => exact State.openPulls_retained _ (by simp [hu])
  | formatStep => exact State.finishOp_retains _ (fun _ => by simp [h]) ht
  | readPiece => exact State.finishOp_retains _ (fun _ => by simp [h]) ht
  | writeDone => exact State.finishOp_retains _ (fun _ => by simp [h]) ht
  | applyDone e rest _ hq => exact State.finishOp_retains _ (fun _ => State.applyDone_retained s e rest hq h) ht
  | chunkRead => exact State.finishOp_retains _ (fun _ => by simp [h]) ht
  | lineFault => exact State.afterAttempt_retained _ (State.countFault_retained _ (by simp [h]))
  | received => exact State.settle_retained _ (State.holdFrame_retained _ _ _ _ (by simp [h]))
  | beaconHeard => exact State.resume_retained _ (by simp [h])
  | claimHeard => exact State.resume_retained _ (by simp [h])
  | powerOn => exact State.recover_retained _ _ _
  | resetAsserted => exact State.assertReset_retains s (fun _ => h) ht
  | resetReleased straps => exact State.releaseReset_retains s straps (fun _ => h) ht
  | powerLost => exact absurd ht s.losePower_not_running
  | _ => simp [h, hu]

/-- The end of an array operation brings up no part that was not running. -/
theorem State.finishOp_not_running {s : State} (h : ¬ s.running) : ¬ s.finishOp.running := by
  unfold State.finishOp
  split
  next hp => exact absurd (.inr ⟨_, hp⟩) h
  next hp => exact absurd (.inr ⟨_, hp⟩) h
  next hp => exact absurd (.inl hp) h
  next => exact h
  next => exact h

/-- Power as it was leaves a part that does not run not running. -/
theorem State.not_running_of_power {s t : State} (h : ¬ s.running) (hp : t.power = s.power) : ¬ t.running := by
  rwa [State.running, hp]

/-- A part that does not run is brought up by recovery alone, with its retained images. -/
theorem Effect.retained_of_comesUp {s t : State} {c : Instr} (he : Effect s c t) (hs : ¬ s.running) (ht : t.running) :
    t.retainedBut [] := by
  have hoff : s.power ≠ .on := fun hon => hs (.inl hon)
  cases he with
  | powerOn => exact State.recover_retained _ _ _
  | resetAsserted => exact State.assertReset_retains s (fun h => absurd h hs) ht
  | resetReleased straps => exact State.releaseReset_retains s straps (fun h => absurd h hs) ht
  | powerLost => exact absurd ht s.losePower_not_running
  | unchanged => exact absurd ht hs
  | undriven | refused | pollIgnored => exact absurd ht (State.not_running_of_power hs (by simp))
  | formatStep | readPiece | writeDone | applyDone | chunkRead =>
    exact absurd ht (State.finishOp_not_running (State.not_running_of_power hs (by simp)))
  | answered _ h | read _ _ _ _ h | write _ _ _ _ _ _ h | claim _ _ _ h | yield _ _ _ _ h | fence h | event _ _ h
  | setup _ _ _ h | format _ h | join h | leave h | doze h | wake h | received _ _ h | listened _ _ h | endLostEarly _ h =>
    exact absurd h.1 hoff
  | _ => contradiction

/-- Settles O55: the images follow through every effect, and recovery brings them up. -/
theorem stepKeepsRetainedImage : Obligations.StepKeepsRetainedImage := fun _ _ hs h =>
  step_keeps (P := State.retainedOk)
    (fun s h => (State.retainedOk_iff _).2 fun ht =>
      State.tick_retained s ((State.retainedOk_iff s).1 h (by simpa [State.running] using ht)))
    (fun _ _ h => h)
    (fun s _ _ he h => (State.retainedOk_iff _).2 fun ht => by
      by_cases hs : s.running
      · exact he.keeps_retained ((State.retainedOk_iff s).1 h hs) ht
      · exact he.retained_of_comesUp hs ht) hs h

end Sys2Proof.Machine
end

section
/-! SUPPORT. A step on the queue of waiting commands, and the millisecond that passes with none waiting (log 7). -/

namespace Sys2Proof.Machine

-- One proof at a time: the proofs that wait for each other would hold the memory of the whole text.
set_option Elab.async false

/-- Settles O1, by the definition of a step. -/
theorem stepRunsFrontCommand : Obligations.StepRunsFrontCommand := by
  intro s c rest hqueue
  rw [step, hqueue]
  rfl

theorem reached_iff {threshold : Nat} {t : Option Nat} : reached threshold t = true ↔ t = some threshold := beq_iff_eq

/-- The expiries that a tick leaves waiting, by the timer that stands at its threshold. -/
theorem State.mem_expiries (s : State) (c : Instr) :
    c ∈ s.expiries ↔
      (∃ n : Station, c = .silenceTimer24ms n ∧ s.roster.entries[n].timer = some 24)
      ∨ (∃ n : Station, c = .silenceTimer48ms n ∧ s.roster.entries[n].timer = some 48)
      ∨ (∃ n : Station, c = .strangerTimerExpiry n ∧ s.line.strangers[n] = some 48)
      ∨ (c = .beaconTimerExpiry ∧ s.ctl.beaconTimer = some 8)
      ∨ (c = .listenExpiry ∧ s.ctl.listenTimer = some 16)
      ∨ (c = s.ctl.leaveExpiry ∧ s.ctl.leaveTimer = some 250)
      ∨ (∃ p ∈ s.catchup.pulls, c = .answerTimerExpiry p.region ∧ p.timer = some 32) := by
  simp only [State.expiries, List.mem_append, List.mem_map, List.mem_filter, List.mem_finRange, true_and, reached_iff,
    List.mem_ite_nil_right, List.mem_singleton, Config.silentMs, Config.absentMs, Config.strangerMs, Config.beaconMs,
    Config.listenMs, Config.leaveMs, Config.answerMs, or_assoc, eq_comm (b := c), and_comm, and_assoc]

theorem Controller.leaveExpiry_eq (c : Controller) :
    c.leaveExpiry = if c.leavePhase = .drain then .leaveDrainCut else .leaveFinalExpiry := by
  cases h : c.leavePhase <;> simp [Controller.leaveExpiry, h]

/-- A tick of a part that runs advances its timers and leaves their expiries waiting. -/
theorem State.tick_of_on (s : State) (hon : s.power = .on) : s.tick = s.advanceTimers.setPending s.advanceTimers.expiries := by
  rw [State.tick, State.whenOn, if_pos hon]

theorem State.advanceTimers_line_syncing (s : State) : s.advanceTimers.line.syncing = s.line.syncing := by
  simp only [State.advanceTimers]

theorem State.advanceTimers_roster_front (s : State) : s.advanceTimers.roster.front = s.roster.front := by
  simp only [State.advanceTimers]

theorem State.advanceTimers_strangers (s : State) (n : Station) :
    s.advanceTimers.line.strangers[n] = s.line.strangers[n].map (fun k => min (k + 1) 48) := by
  simp [State.advanceTimers, advance, Config.strangerMs]

theorem State.advanceTimers_entries (s : State) (n : Station) : s.advanceTimers.roster.entries[n] =
    { s.roster.entries[n] with timer := s.roster.entries[n].timer.map (fun k => min (k + 1) 48) } := by
  simp [State.advanceTimers, advance, Config.absentMs]

/-- Settles O2: `State.tick` advances the timers, and `State.mem_expiries` says what waits after it. -/
theorem emptyQueueLetsTimePass : Obligations.EmptyQueueLetsTimePass := by
  intro s hqueue
  have hstep : step s = .next s.tick := by rw [step, hqueue]
  refine ⟨fun hoff => by rw [hstep, State.tick, State.whenOn, if_neg hoff], fun hon => ⟨_, hstep, ?_⟩⟩
  have hwaits := s.advanceTimers.mem_expiries
  rw [s.tick_of_on hon]
  simp only [State.setPending]
  refine ⟨rfl, s.advanceTimers_strangers, s.advanceTimers_line_slot, s.advanceTimers_line_rx, s.advanceTimers_line_syncing,
    s.advanceTimers_line_faults, s.advanceTimers_entries, s.advanceTimers_roster_cursor, s.advanceTimers_roster_front,
    s.advanceTimers_roster_lastAck, rfl, rfl, rfl, rfl, rfl, rfl, rfl, rfl, rfl, rfl, rfl, rfl, rfl,
    fun c hc => ?_, fun n hn => ?_, fun n hn => ?_, fun n hn => ?_, fun ht => ?_, fun ht => ?_, fun ht hp => ?_,
    fun ht hp => ?_, fun p hp ht => ?_⟩
  case refine_1 =>
    rcases (hwaits c).1 hc with ht | ht | ht | ht | ht | ⟨rfl, ht⟩ | ht
    case inr.inr.inr.inr.inr.inl =>
      cases hphase : s.advanceTimers.ctl.leavePhase <;> simp [Controller.leaveExpiry_eq, hphase, ht]
    all_goals simp only [ht, true_or, or_true, and_self]
  case refine_7 | refine_8 => exact (hwaits _).2 (by simp [Controller.leaveExpiry_eq, hp, ht])
  · exact (hwaits _).2 (.inl ⟨n, rfl, hn⟩)
  · exact (hwaits _).2 (.inr (.inl ⟨n, rfl, hn⟩))
  · exact (hwaits _).2 (.inr (.inr (.inl ⟨n, rfl, hn⟩)))
  · exact (hwaits _).2 (.inr (.inr (.inr (.inl ⟨rfl, ht⟩))))
  · exact (hwaits _).2 (.inr (.inr (.inr (.inr (.inl ⟨rfl, ht⟩)))))
  · exact (hwaits _).2 (.inr (.inr (.inr (.inr (.inr (.inr ⟨p, hp, rfl, ht⟩))))))

end Sys2Proof.Machine
end

section
/-! SUPPORT. What the resets leave: the cleared working state, and what comes up from the retained state (R146, R147). -/

namespace Sys2Proof.Machine

-- One proof at a time: the proofs that wait for each other would hold the memory of the whole text.
set_option Elab.async false

theorem ChipSelect.cut_ne_polling (c : ChipSelect) (b : Byte) : c.cut ≠ .polling b := by
  cases c <;> simp [ChipSelect.cut]

theorem ChipSelect.cut_eq (c : ChipSelect) : c.cut = if c = .high then .high else .ignored := by
  cases c <;> rfl

/-- A clearing leaves every block at its reset values (R147). -/
theorem State.clearWorking_cleared (s : State) (p : Power) : (s.clearWorking p).cleared := by
  refine ⟨rfl, rfl, s.port.cs.cut_ne_polling, rfl, rfl, rfl, rfl, rfl, rfl, rfl, rfl, rfl, rfl, rfl, fun n => ?_, fun n => ?_,
    rfl, rfl, rfl, fun r => ?_, rfl, rfl, rfl, rfl, rfl, rfl, rfl, rfl, rfl, rfl, rfl, rfl⟩
  · simp [State.clearWorking, State.reset]
  · simp [State.clearWorking, State.reset, RosterEntry.cleared]
  · simp [State.clearWorking, Retained.table, NvRegion.working]

/-- What comes up from the retained state has every block at its reset values, but for straps and sets (R146, R147). -/
theorem State.recover_cleared (s : State) (c : ResetCause) (straps : Straps) : (s.recover c straps).cleared := by
  refine ⟨rfl, rfl, s.port.cs.cut_ne_polling, rfl, rfl, rfl, rfl, rfl, rfl, rfl, rfl, rfl, rfl, rfl, fun n => ?_, fun n => ?_,
    rfl, rfl, rfl, fun r => ?_, rfl, rfl, rfl, rfl, rfl, rfl, rfl, rfl, rfl, rfl, rfl, rfl⟩
  · simp [State.recover, State.clearWorking, State.reset]
  · simp [State.recover, State.clearWorking, State.reset, RosterEntry.cleared]
  · simp [State.recover, Retained.table, NvRegion.working]

theorem State.reset_cleared : State.reset.cleared := by
  refine ⟨rfl, rfl, by simp [State.reset], rfl, rfl, rfl, rfl, rfl, rfl, rfl, rfl, rfl, rfl, rfl, fun n => ?_, fun n => ?_,
    rfl, rfl, rfl, fun r => ?_, rfl, rfl, rfl, rfl, rfl, rfl, rfl, rfl, rfl, rfl, rfl, rfl⟩
  · simp [State.reset]
  · simp [State.reset, RosterEntry.cleared]
  · simp [State.reset, RegionEntry.fresh]

/-- The station number that open strap pins give is 15, and the group then holds that number alone (R145). -/
theorem State.reset_members (n : Station) : inMap State.reset.ctl.members n = (n == State.reset.ctl.number) := by
  revert n
  decide

/-- Settles O4: the values that `State.reset` writes out. -/
theorem resetState : Obligations.ResetState := by
  refine ⟨rfl, State.reset_cleared, rfl, rfl, fun r => ?_, rfl, rfl, State.reset_members, rfl⟩
  simp [State.reset]

/-! ### Recovery (R146) -/

theorem intentMarks_iff (n : Retained) (r : Region) : intentMarks n.intent r = true ↔ n.named r := by
  unfold Retained.named intentMarks
  split
  next h => simp [h]
  next f h => 
    simp only [h, Option.some.injEq, exists_eq_left', decide_eq_true_eq, true_and]
    exact ⟨.inr, fun h => h.elim (fun h => h ▸ le_rfl) id⟩
  all_goals next h => simp [h]

theorem SetupRecord.inMap_membersOf (r : SetupRecord) (own n : Station) :
    inMap (r.membersOf own) n = (n == own || (r.written && inMap r.members n)) := by
  cases h : r.written <;> simp [SetupRecord.membersOf, h, Bool.or_comm, Bool.beq_eq_decide_eq]

theorem SetupRecord.inMap_guardOf (r : SetupRecord) (q : Region) :
    inMap r.guardOf q = (r.written && inMap r.guardSet q) := by
  cases h : r.written <;> simp [SetupRecord.guardOf, h]

theorem Retained.recover_regions (n : Retained) (r : Region) : n.recover.regions[r] =
    { n.regions[r] with
      stale := if intentMarks n.intent r then some .damaged else n.regions[r].stale
      inFlight := false } := by
  simp [Retained.recover]

theorem Retained.table_read (n : Retained) (r : Region) : n.table[r] = n.regions[r].working := by
  simp [Retained.table]

/-- The regions as they come up: as retained, but STALE DAMAGED in both images where the intent record names them (R146). -/
theorem State.recover_region (s : State) (c : ResetCause) (straps : Straps) (r : Region) :
    (s.recover c straps).table[r] = (s.nv.recover.regions[r]).working
      ∧ (s.recover c straps).nv.regions[r] = s.nv.recover.regions[r] :=
  ⟨s.nv.recover.table_read r, rfl⟩

/-- What comes up, region by region, against the retained entry of before (R146 steps 1, 3 and 5). -/
theorem Retained.recover_working (n : Retained) (r : Region) :
    n.recover.regions[r].working.stamp = n.regions[r].stamp ∧ n.recover.regions[r].working.held = n.regions[r].held
      ∧ (n.named r → n.recover.regions[r].working.copy = .stale .damaged ∧ n.recover.regions[r].stale = some .damaged)
      ∧ (¬ n.named r → n.recover.regions[r].stale = n.regions[r].stale
          ∧ (n.regions[r].stale = none → n.recover.regions[r].working.copy = .current)
          ∧ (∀ k, n.regions[r].stale = some k → n.recover.regions[r].working.copy = .stale k))
      ∧ n.recover.regions[r].stamp = n.regions[r].stamp ∧ n.recover.regions[r].held = n.regions[r].held
      ∧ n.recover.regions[r].inFlight = false := by
  rw [n.recover_regions r, ← intentMarks_iff]
  refine ⟨rfl, rfl, fun hn => ?_, fun hn => ?_, rfl, rfl, rfl⟩
  · simp [NvRegion.working, NvRegion.copy, hn]
  · simp +contextual [NvRegion.working, NvRegion.copy, hn]

theorem Retained.inMap_damaged (n : Retained) (r : Region) :
    inMap n.damaged r = true ↔ n.named r ∨ n.regions[r].inFlight = true := by
  rw [Retained.damaged, inMap_mapOf, Bool.or_eq_true, intentMarks_iff]

theorem State.recover_nv_intent (s : State) (c : ResetCause) (straps : Straps) : (s.recover c straps).nv.intent = none := by
  simp only [State.recover, Retained.recover]

/-- Settles O5: both commands reach `State.recover`, the power-on reset of a part without power at once. -/
theorem comesUpFromRetainedState : Obligations.ComesUpFromRetainedState := by
  intro s straps c cause hways
  have hexec : exec c s = .next (s.recover cause straps) := by
    rcases hways with ⟨hoff, rfl, rfl⟩ | ⟨hreset, rfl, rfl⟩
    · rw [exec, execPowerOnReset, State.losePower, if_pos hoff]
    · rw [exec, execResetReleased, State.releaseReset, hreset]
  refine ⟨_, s.nv.damaged, hexec, rfl, s.recover_cleared cause straps, rfl, rfl, s.nv.setup.inMap_membersOf straps.number,
    s.nv.setup.inMap_guardOf, fun r => ?_, s.recover_nv_array _ _, s.recover_nv_setup _ _, s.recover_nv_intent _ _, rfl,
    s.nv.inMap_damaged, fun hcs => ?_, rfl⟩
  · obtain ⟨htable, hnv⟩ := s.recover_region cause straps r
    rw [htable, hnv]
    exact s.nv.recover_working r
  · exact (s.port.cs.cut_eq).trans (if_neg hcs)

/-! ### RESET# asserted (R147, R193) -/

theorem State.assertReset_of_free (s : State) (hon : s.power = .on) (hfree : s.arb.op = none) :
    s.assertReset = s.clearWorking .inReset := by
  simp [State.assertReset, hon, hfree]

/-- Settles O6: `State.assertReset` with and without an operation, and `State.finishOp` by the power state it finds. -/
theorem pinReset : Obligations.PinReset := by
  refine ⟨fun s => ⟨fun hon hfree => ?_, fun hon hbusy => ?_, fun straps hwait => ?_⟩,
    fun s => ⟨fun hon => ?_, fun hwait => ?_, fun straps hwait => ?_⟩⟩
  · refine ⟨_, congrArg Host.Outcome.next (s.assertReset_of_free hon hfree), rfl, s.clearWorking_cleared _, rfl, rfl, s.port.cs.cut_eq, rfl⟩
  · rw [exec, execResetAsserted, State.assertReset, hon, if_pos (Option.isSome_iff_ne_none.2 hbusy), ← s.port.cs.cut_eq]
    rfl
  · rw [exec, execResetReleased, State.releaseReset, hwait]
    rfl
  · rw [State.finishOp, hon]
  · rw [State.finishOp, hwait]
    exact ⟨rfl, s.clearWorking_cleared _, rfl, rfl, rfl⟩
  · rw [State.finishOp, hwait]
    refine ⟨rfl, State.recover_cleared _ _ _, rfl, State.recover_nv_array _ _ _, State.recover_nv_setup _ _ _,
      State.recover_nv_intent _ _ _, ⟨_, rfl, s.nv.inMap_damaged⟩, rfl,
      s.clearWorking .inReset, rfl, s.clearWorking_cleared _, rfl, rfl, rfl, s.port.cs.cut_eq, rfl⟩

/-! ### Loss of power (R134, R142) -/

/-- A cut write leaves every byte outside its span as it was (R134). -/
theorem State.cutWrite_memRead (s : State) (hwf : Memory.wf s.nv.array = true) (a : Nat)
    (hout : ∀ r k n, s.writeSpan = some (r, k, n) → a < 4096 * r.val + k ∨ 4096 * r.val + k + n ≤ a) :
    memRead s.cutWrite.nv.array a = memRead s.nv.array a := by
  have hsorted : s.nv.array.Pairwise (fun x y => x.1 < y.1) := by
    simp only [Memory.wf, Bool.and_eq_true, decide_eq_true_eq] at hwf
    exact hwf.1
  unfold State.cutWrite
  split
  next r k n hspan =>
    split
    next =>
      have hlen : (s.cutBytes n).length = n := by simp [State.cutBytes]
      have := hout r k n hspan
      simp only [State.writeArray, State.mapNv, State.setNv, State.setFree]
      rw [memRead_memWriteBytes _ _ _ hsorted, if_neg]
      simp only [arrayAddr, Config.regionBytes, hlen]
      omega
    next => rfl
  next => rfl

theorem State.cutSetup_setup (s : State) : s.cutSetup.nv.setup = s.nv.setup
    ∨ ∃ m g, s.port.state = .working (.setup m g) ∧ s.cutSetup.nv.setup = ⟨true, m, g⟩ := by
  unfold State.cutSetup
  split
  next m g _ hport =>
    cases hbit : Config.freeBit s.free
    · exact .inl rfl
    · exact .inr ⟨m, g, hport, rfl⟩
  next => exact .inl rfl

theorem State.cutSetup_writeSpan (s : State) : s.cutSetup.writeSpan = s.writeSpan := by
  simp only [State.writeSpan, State.cutSetup_arb, State.cutSetup_port, State.cutSetup_applyQ]

/-- Settles O7: power is lost through the cut of a setup record and of a write in progress, and a clearing. -/
theorem powerLossKeepsRetainedState : Obligations.PowerLossKeepsRetainedState := by
  intro s hwf hon
  have hexec : exec .powerLost s = .next (s.cutSetup.cutWrite.clearWorking .off) := by
    rw [exec, execPowerLost, State.losePower, if_neg hon]
  refine ⟨_, hexec, rfl, State.clearWorking_cleared _ _, rfl, ?_, ?_, ?_, fun a hout => ?_, ?_⟩
  · simp
  · simp
  · simpa using s.cutSetup_setup
  · rw [State.clearWorking_nv_array, s.cutSetup.cutWrite_memRead (by simpa using hwf) a (by simpa [s.cutSetup_writeSpan] using hout),
      State.cutSetup_nv_array]
  · simp

/-! ### The invariants at reset -/

theorem State.reset_owns (r : Region) : State.reset.owns r = false := by
  simp [State.owns, State.reset, RegionEntry.fresh]

/-- Settles O60: every block is empty at reset, and every region entry is (0, 0) CURRENT without an owner. -/
theorem invariantsHoldAtReset : Obligations.InvariantsHoldAtReset := by
  refine ⟨rfl, fun _ r => ?_, fun r => ?_, ?_, ?_, ?_, ?_, rfl, ?_, ?_, ?_⟩
  · simp [State.reset, RegionEntry.fresh, nvImage, State.unwritten]
  · simp [State.reset, RegionEntry.fresh]
  · simp [State.limitsOk, State.reset]
  · simp [State.spansOk, State.reset]
  · refine ⟨fun r => ?_, ?_⟩
    · simp [State.reset, RegionEntry.fresh, CopyState.isFetching]
    · simp [State.reset]
  · refine ⟨State.reset_members _, ?_⟩
    simp [State.reset]
  · simp [State.outboxOk, Outbox.updateCount, State.claimsOk, State.roomOk, State.imagesOk, State.phasesOk, State.reset]
  · simp [State.catchupOk, State.reset]
  · simp [State.ownershipOk, State.reset_owns]
    simp [State.reset]

end Sys2Proof.Machine
end

section
/-! SUPPORT. The host commands: their check orders and answers (R138, R60, R87, R102, R82, R153, R154). -/

namespace Sys2Proof.Machine

-- One proof at a time: the proofs that wait for each other would hold the memory of the whole text.
set_option Elab.async false

/-! ### A complete put in IDLE (R172) -/

/-- A complete put that is dealt with: CS# rises with serial data out undriven, and the row's check order runs. -/
theorem State.onPut_of_takesPut (s : State) (f : State → State) (hput : s.takesPut) : s.onPut f = f s.undriven := by
  obtain ⟨hon, hidle⟩ := hput
  rw [State.onPut, State.whenOn, State.undriven_power, if_pos hon, show s.undriven.port.state = .idle from hidle]

theorem State.undriven_answer (s : State) (code : Byte) (c : ResultCode) (d : List Byte) :
    s.undriven.answer code c d = { s with port := ⟨.answer ⟨code, c, d⟩, s.port.refused, [], .high⟩ } := rfl

theorem State.undriven_work (s : State) (w : Work) :
    s.undriven.work w = { s with port := ⟨.working w, s.port.refused, [], .high⟩ } := rfl

theorem regionOfByte_of_le {b : Byte} (h : 64 ≤ b.toNat) : regionOfByte b = none := dif_neg (Nat.not_lt.2 h)

theorem regionOfByte_of_eq {b : Byte} {r : Region} (h : b.toNat = r.val) : regionOfByte b = some r := by
  rw [regionOfByte, dif_pos (h ▸ r.isLt)]
  exact congrArg some (Fin.ext h)

theorem StationState.onLine_eq_false_iff (st : StationState) :
    st.onLine = false ↔ st = .offline ∨ st = .listening ∨ st = .halted := by
  cases st <;> simp [StationState.onLine]

theorem StationState.activeOnly_of_ne {st : StationState} (hact : st ≠ .active) (hiso : st ≠ .isolated) :
    st.activeOnly = some .wrongState := by
  cases st <;> simp_all [StationState.activeOnly]

/-! ### Rows without effect (R170, R174) -/

theorem bytesOfBits_replicate_true (n : Nat) : bytesOfBits (List.replicate (8 * n) true) = List.replicate n 0xFF := by
  induction n with
  | zero => rfl
  | succ n ih =>
    rw [Nat.mul_succ, List.replicate_succ]
    simp only [List.replicate_succ, bytesOfBits, ih]
    rfl

theorem Port.hostReads_of_undriven (p : Port) (n : Nat) (h : p.sdo = []) : p.hostReads n = List.replicate n 0xFF := by
  have hlevel : (List.range (8 * n)).map p.sdoLevel = List.replicate (8 * n) true := by
    rw [List.map_congr_left (g := fun _ => true) fun i _ => by simp [Port.sdoLevel, h], List.map_const', List.length_range]
  rw [Port.hostReads, hlevel, bytesOfBits_replicate_true, ← List.replicate_succ, List.take_replicate]
  congr 1
  omega

/-- Settles O8: the rows write nothing but the port's marks; an unknown code is answered in IDLE. -/
theorem rowsWithoutEffectAndUnknownCode : Obligations.RowsWithoutEffectAndUnknownCode := by
  refine ⟨fun s selector => ⟨rfl, rfl, fun p n h => ⟨p.hostReads_of_undriven n h, by simp [Port.sdoLevel, h]⟩, rfl⟩,
    fun s code hput hcode => ?_⟩
  have hunknown : knownCode code = false := by
    simp only [knownCode, Bool.and_eq_false_iff, decide_eq_false_iff_not]
    omega
  rw [exec, execUnknownCommandCode, hunknown, if_neg Bool.false_ne_true, s.onPut_of_takesPut _ hput, s.undriven_answer]

/-! ### Reporting commands (R178 to R182) -/

/-- Settles O19: the two codes of section 11.4, the revision and the strapped number. -/
theorem identAnswersCodes : Obligations.IdentAnswersCodes := by
  intro s hput
  rw [exec, execIdent, s.onPut_of_takesPut _ hput]
  rfl

theorem Event.fields_length_le (e : Event) : e.fields.length ≤ 10 := by
  cases e <;> simp [Event.fields, regionMapBytes, stationMapBytes, bytesBE]

theorem Event.record_length (e : Event) : e.record.length = 10 := by
  have := e.fields_length_le
  simp [Event.record]
  omega

/-- Settles O20: the queue's head, and `Event.fields` kind by kind. -/
theorem eventTakesOldestRecord : Obligations.EventTakesOldestRecord := by
  refine ⟨fun s hput => ⟨fun hnone => ?_, fun e rest hsome => ⟨_, ?_, rfl, rfl, ?_⟩⟩, fun e => ⟨e.record_length, ?_⟩⟩
  · rw [exec, execEvent, s.onPut_of_takesPut _ hput, show s.undriven.events = [] from hnone]
  · rw [exec, execEvent, s.onPut_of_takesPut _ hput, show s.undriven.events = e :: rest from hsome]
    rfl
  · cases rest <;> simp [State.attnPin, State.attn]
  · rw [Event.record]
    cases e with
    | resetDone c m => cases c <;> rfl
    | woken r => cases r <;> rfl
    | isolation b => cases b <;> rfl
    | station n st => cases st <;> rfl
    | claimDone r ack source lost => 
      cases lost with
      | none => cases source <;> rfl
      | some why => cases why <;> cases source <;> rfl
    | ownershipLost r split => cases split <;> rfl
    | regionStale r c => cases c <;> rfl
    | halted c => cases c <;> rfl
    | _ => rfl

/-! ### SETUP and FORMAT (R153, R154, R143) -/

/-- Settles O21: the check order, and `State.setupWritten`. -/
theorem setupWritesRecord : Obligations.SetupWritesRecord := by
  intro s members guardSet guardPin
  refine ⟨fun hput => ?_, fun hon hwork => ?_⟩
  · rw [exec, execSetup, s.onPut_of_takesPut _ hput]
    simp only [State.undriven_ctl, State.undriven_work, Bool.not_eq_true', State.own]
  · rw [exec, execSetupRecordWritten, State.whenOn, if_pos hon]
    simp only [hwork]
    rfl

/-- The Apply Queue that FORMAT leaves, and what it clears (R143). -/
theorem State.applyInProgress_eq (s : State) :
    s.applyInProgress = s.applyQ.take (if s.arb.op = some .apply then 1 else 0)
      ∧ s.applyCleared = s.applyQ.drop (if s.arb.op = some .apply then 1 else 0) := by
  by_cases h : s.arb.op = some .apply <;> simp [State.applyInProgress, State.applyCleared, h]

theorem State.formatClear_applyQ (s : State) : s.formatClear.applyQ = s.applyInProgress := rfl

/-- The regions whose data FORMAT leaves unwritten are those of before (R143, log 35). -/
theorem State.formatClear_unwritten (s : State) (r : Region) : s.formatClear.unwritten r = s.unwritten r := by
  have hsplit : s.applyQ.any (fun e => e.region == r)
      = (s.applyInProgress.any (fun e => e.region == r) || s.applyCleared.any (fun e => e.region == r)) := by
    rw [s.applyInProgress_eq.1, s.applyInProgress_eq.2, ← List.any_append, List.take_append_drop]
  simp only [State.unwritten, State.formatClear, State.setApplyQ, State.setUnsaved, inMap_mapOf, hsplit]
  cases s.applyInProgress.any (fun e => e.region == r) <;> cases inMap s.unsaved r <;> simp

theorem State.arbitrate_of_busy (s : State) (hbusy : s.arb.op ≠ none) : s.arbitrate = s := by
  rw [State.arbitrate, if_pos (Option.isSome_iff_ne_none.2 hbusy)]

/-- A free array with no other requester waiting is granted to a FORMAT, with the counts at 0 (R136, R137, R143). -/
theorem State.arbitrate_format (s : State) {r : Region} {k : Chunk} (hfree : s.arb.op = none) (hhead : s.applyQ = [])
    (hserving : s.serving = []) (hwork : s.port.state = .working (.format r k)) :
    s.arbitrate = (s.setArb ⟨some .formatStep, 0, 0⟩).setIntent (some ⟨.format, r⟩) := by
  have hread : s.waitingRead = none := by rw [State.waitingRead, hserving, List.foldl_nil]
  have hnohead : s.headWaits = false := by rw [State.headWaits, hhead]
  have hhost : s.hostWaits = true := by rw [State.hostWaits, hwork]
  have hchoice : s.choice = .host := by simp [State.choice, hread, hnohead, hhost]
  simp [State.arbitrate, hfree, hchoice, State.grantHost, hwork, hostGrant, hread, hnohead]

/-- The array with one chunk zeroed (R143). -/
theorem State.formatChunk_eq (s : State) (r : Region) (k : Chunk) :
    s.writeArray r (chunkOffset k) (List.replicate Config.chunkBytes 0) = { s with nv := { s.nv with
      array := memWriteBytes s.nv.array (4096 * r.val + 256 * k.val) (List.replicate 256 0) } } := by
  simp only [State.writeArray, State.mapNv, State.setNv, arrayAddr, chunkOffset, Config.chunkBytes, Config.regionBytes]

/-- A zeroed region: (0, 0) CURRENT, held no, in both images, and the intent record at the next one (R143). -/
theorem State.formatRegionDone_eq (s : State) (r : Region) : s.formatRegionDone r = { s with
    nv := { s.nv with
      regions := s.nv.regions.set r (nvImage { s.table[r] with stamp := ⟨0, 0⟩, copy := .current, held := false }
        (s.applyQ.any (fun x => x.region == r)))
      intent := if r = 63 then none else some ⟨.format, r + 1⟩ }
    table := s.table.set r { s.table[r] with stamp := ⟨0, 0⟩, copy := .current, held := false }
    unsaved := dropBit s.unsaved r } := by
  have hsaved : inMap (dropBit s.unsaved r) r = false := by simp
  simp only [State.formatRegionDone, State.mapEntry, State.setEntry, State.unwritten, State.setUnsaved, State.setIntent,
    State.mapNv, State.setNv, hsaved, Bool.or_false]

theorem execFormatStepDone_eq (s : State) (r : Region) (k : Chunk) (hop : s.arb.op = some .formatStep)
    (hwork : s.port.state = .working (.format r k)) : exec .formatStepDone s = .next (s.formatStep r k).finishOp := by
  rw [exec, execFormatStepDone, hop, hwork]

/-- Settles O22: the check order of FORMAT, `State.formatClear` with the grant of a free array, and `State.formatStep`. -/
theorem formatZeroesRegions : Obligations.FormatZeroesRegions := by
  intro s guardPin
  refine ⟨fun hput => ⟨fun hstate => ?_, fun hstate hpin hset => ?_, fun hstate hopen => ?_⟩, fun r k hop hwork => ⟨fun hk => ?_, fun hk => ?_⟩⟩
  · rw [exec, execFormat, s.onPut_of_takesPut _ hput, State.undriven_ctl, if_pos hstate]
  · rw [exec, execFormat, s.onPut_of_takesPut _ hput, State.undriven_ctl, if_neg (not_not.2 hstate), if_pos (by simpa [hpin] using hset)]
  · have htaken : exec (.format guardPin) s = .next (s.undriven.formatClear.formatIntent.work (.format 0 0)).arbitrate := by
      rw [exec, execFormat, s.onPut_of_takesPut _ hput, State.undriven_ctl, if_neg (not_not.2 hstate), if_neg]
      rcases hopen with h | h <;> simp [h]
    obtain ⟨hkept, hgone⟩ := s.applyInProgress_eq
    refine ⟨s.formatClear.unsaved, fun r => ?_, fun r => ?_, fun hop => ?_, fun hbusy hop => ?_, fun hfree hserving => ?_⟩
    · simp [State.formatClear, State.setUnsaved, hgone]
    · rw [← s.formatClear_unwritten r, ← hkept]
      rfl
    · rw [htaken, ← hkept, State.formatIntent, if_pos (by exact hop), State.arbitrate_of_busy]
      · rfl
      · simp [hop]
    · rw [htaken, ← hkept, State.formatIntent, if_neg (by exact hop), State.arbitrate_of_busy]
      · rfl
      · exact hbusy
    · have hop : s.arb.op ≠ some .apply := by simp [hfree]
      have hempty : s.formatClear.applyQ = [] := by rw [State.formatClear_applyQ, hkept, if_neg hop, List.take_zero]
      rw [htaken, State.formatIntent, if_neg (by exact hop), ← hkept]
      exact congrArg Host.Outcome.next (State.arbitrate_format _ hfree hempty hserving rfl)
  · rw [execFormatStepDone_eq s r k hop hwork, State.formatStep, State.formatNext, if_neg hk, State.formatChunk_eq]
    generalize memWriteBytes _ _ _ = zeroed
    rfl
  · rw [execFormatStepDone_eq s r k hop hwork, State.formatStep, State.formatNext, if_pos hk, State.formatChunk_eq,
      State.formatRegionDone_eq]
    generalize memWriteBytes _ _ _ = zeroed
    split
    next => rfl
    next => rfl

end Sys2Proof.Machine
end

section
/-! SUPPORT. READ, WRITE, CLAIM, RELEASE, KEEP and FENCE (R138, R60, R87, R102, R82). -/

namespace Sys2Proof.Machine

-- One proof at a time: the proofs that wait for each other would hold the memory of the whole text.
set_option Elab.async false

/-! ### READ (R138, R139) -/

theorem readArgs_of_not_ok {region : Byte} {offset length : BitVec 16} (h : 64 ≤ region.toNat ∨ 4096 ≤ offset.toNat
    ∨ length.toNat = 0 ∨ 4096 < offset.toNat + length.toNat) : readArgs region offset length = none := by
  unfold readArgs
  split
  next hspan => exact regionOfByte_of_le (by omega)
  next => rfl

/-- The bytes of a READ piece, with those read before it (R139). -/
theorem readPiece_data (s : State) (w : ReadWork) : w.data ++ s.readArray w.region w.pos (pieceLength w.pos w.left)
    = w.data ++ (List.range (min w.left (256 - w.pos % 256))).map
        (fun i => memRead s.nv.array (4096 * w.region.val + w.pos + i)) := by
  simp only [State.readArray, memReadBytes, arrayAddr, pieceLength, Config.chunkBytes, Config.regionBytes]

theorem CopyState.byte_eq (c : CopyState) :
    c.byte = (match c with | .current => 0 | .stale _ => 1 | .fetching _ => 2 : Byte) := rfl

theorem CopyState.causeByte_eq (c : CopyState) : c.causeByte
    = (match c with | .stale .behind => 1 | .stale .damaged => 2 | .current | .fetching _ => 0 : Byte) := by
  rcases c with _ | (_ | _) | _ <;> rfl

/-- Settles O12: the argument step, the copy state, and `State.readPiece`. -/
theorem readCheckedAndCarriedOut : Obligations.ReadCheckedAndCarriedOut := by
  refine ⟨fun s region offset length hput => ⟨fun hbad => ?_, fun r hr hoff hlen hspan => ⟨fun k hk => ?_, fun hk => ?_⟩⟩,
    fun s w hop hwork hspan => ?_⟩
  · rw [exec, execRead, s.onPut_of_takesPut _ hput, readArgs_of_not_ok hbad]
  · rw [exec, execRead, s.onPut_of_takesPut _ hput, readArgs, if_pos ⟨hoff, hlen, hspan⟩, regionOfByte_of_eq hr]
    simp only [State.startRead, State.undriven_table, hk]
  · rw [exec, execRead, s.onPut_of_takesPut _ hput, readArgs, if_pos ⟨hoff, hlen, hspan⟩, regionOfByte_of_eq hr]
    simp only [State.startRead, State.undriven_table, State.undriven_serial]
  · have hin : inRegion w.pos (pieceLength w.pos w.left) = true := by
      simp only [pieceLength, Config.chunkBytes]
      exact decide_eq_true (show w.pos + min w.left (256 - w.pos % 256) ≤ 4096 by omega)
    rw [exec, execReadPieceDone, hop, hwork]
    simp only [hin, if_true]
    simp only [State.readPiece, readPiece_data, ReadWork.answerData, CopyState.byte_eq, CopyState.causeByte_eq]
    rfl

/-! ### WRITE (R60 to R62) -/

/-- The span that Table 4-1 step 1 asks for, with a data part of its length. -/
theorem writeArgs_eq (region : Byte) (offset length : BitVec 16) (data : List Byte) :
    writeArgs region offset length data =
      if offset.toNat % 2 = 0 ∧ length.toNat % 2 = 0 ∧ 2 ≤ length.toNat ∧ length.toNat ≤ 256 ∧ offset.toNat < 4096
        ∧ offset.toNat / 256 = (offset.toNat + length.toNat - 1) / 256 ∧ data.length = length.toNat
      then regionOfByte region else none := by
  simp only [writeArgs, updateSpanOk, Bool.and_eq_true, beq_iff_eq, decide_eq_true_eq, and_assoc]

theorem eq_versionCeiling_iff (v : Version) : v = Config.versionCeiling ↔ v.toNat = 2 ^ 48 - 1 := by
  rw [← BitVec.toNat_inj]
  rfl

theorem eq_epochCeiling_iff (e : Epoch) : e = Config.epochCeiling ↔ e.toNat = 65535 := by
  rw [← BitVec.toNat_inj]
  rfl

/-- The check order of WRITE in ACTIVE (Table 4-1 steps 3 to 7). -/
theorem State.writeRefusal_of_active (s : State) (r : Region) (offset length : Nat) (guardPin : Bool)
    (hstate : s.ctl.state = .active) : s.writeRefusal r offset length guardPin =
      if s.owns r = false ∨ s.table[r].votePending = true then some .notOwner
      else if guardPin = true ∧ inMap s.ctl.guardSet r = true then some .guarded
      else if s.table[r].writeHold = true then some .held
      else if s.table[r].stamp.version.toNat = 2 ^ 48 - 1 then some .exhausted
      else if s.out.updateCount < 10 then none
      else if s.out.candidate r offset length = true then none
      else some .full := by
  simp only [State.writeRefusal, hstate, StationState.activeOnly, State.protectedNow, State.guarded, Bool.or_eq_true,
    Bool.not_eq_true', Bool.and_eq_true, eq_versionCeiling_iff, decide_eq_true_eq]
  by_cases hroom : s.out.updateCount < 10 <;> simp [hroom, Config.updateLimit]

/-- A put that passes the argument step of WRITE goes on to its check order. -/
theorem exec_write_of_span {s : State} {region : Byte} {offset length : BitVec 16} {data : List Byte} {r : Region}
    (guardPin : Bool) (hput : s.takesPut) (hargs : writeArgs region offset length data = some r) :
    exec (.write region offset length data guardPin) s = .next (
      match s.writeRefusal r offset.toNat length.toNat guardPin with
      | some c => s.undriven.answer 0x02 c []
      | none => ((s.undriven.takeRoom r).work (.write ⟨r, offset.toNat, data, s.serial⟩)).arbitrate) := by
  rw [exec, execWrite, s.onPut_of_takesPut _ hput, hargs]
  rfl

/-- Settles O13: the argument step, `State.writeRefusal` line by line, and `State.takeRoom`. -/
theorem writeChecked : Obligations.WriteChecked := by
  intro s region offset length data guardPin hput
  refine ⟨fun hbad => ?_, fun r hr hspan => ?_⟩
  · have hargs : writeArgs region offset length data = none := by
      rw [writeArgs_eq]
      split
      next hspan => exact regionOfByte_of_le (hbad.resolve_right (not_not.2 hspan))
      next => rfl
    rw [exec, execWrite, s.onPut_of_takesPut _ hput, hargs]
  have hargs : writeArgs region offset length data = some r := by
    rw [writeArgs_eq, if_pos hspan, regionOfByte_of_eq hr]
  rw [exec_write_of_span guardPin hput hargs]
  refine ⟨fun hstate => ?_, fun hact hiso => ?_, fun hstate => ?_⟩
  · rw [State.writeRefusal, hstate]
    rfl
  · rw [State.writeRefusal, StationState.activeOnly_of_ne hact hiso]
  · rw [s.writeRefusal_of_active r _ _ guardPin hstate]
    split_ifs with howner hguard hhold hceiling hroom hcand
    iterate 4 next => rfl
    · rw [State.takeRoom, if_pos (by exact hroom)]
      rfl
    · rw [State.takeRoom, if_neg (by exact hroom)]
      rfl
    · rfl

/-! ### CLAIM, RELEASE, KEEP (R87, R102) -/

theorem OutEntry.isSweep_iff (e : OutEntry) : e.isSweep = true ↔ e.body = .claim .sweep := by
  rcases e with ⟨r, _ | (_ | _) | _ | _, sending, doom⟩ <;> simp [OutEntry.isSweep]

/-- The check order of CLAIM at a region that the station does not own (Table 5-1 steps 4 to 7). -/
theorem State.claimRefusal_eq (s : State) (r : Region) (guardPin : Bool) : s.claimRefusal r guardPin =
    if s.table[r].copy ≠ .current then some .notCurrent
    else if guardPin = true ∧ inMap s.ctl.guardSet r = true then some .guarded
    else if s.table[r].stamp.epoch.toNat = 65535 then some .exhausted
    else if s.out.hostClaim ≠ none ∨ ∃ e ∈ s.out.entries, e.region = r ∧ e.body = .claim .sweep then some .busy
    else none := by
  simp only [State.claimRefusal, State.protectedNow, State.guarded, Bool.and_eq_true, Bool.or_eq_true, eq_epochCeiling_iff,
    Option.isSome_iff_ne_none, List.any_eq_true, beq_iff_eq, OutEntry.isSweep_iff, and_comm]

/-- Settles O15: the argument step, the station state, the owner, and `State.claimRefusal` line by line. -/
theorem claimChecked : Obligations.ClaimChecked := by
  intro s region guardPin hput
  refine ⟨fun hbad => ?_, fun r hr => ?_⟩
  · rw [exec, execClaim, s.onPut_of_takesPut _ hput, regionOfByte_of_le hbad]
  rw [exec, execClaim, s.onPut_of_takesPut _ hput, regionOfByte_of_eq hr]
  simp only [State.startClaim, State.undriven_ctl]
  refine ⟨fun hstate => ?_, fun hact hiso => ?_, fun hstate => ?_⟩
  · rw [hstate]
    rfl
  · rw [StationState.activeOnly_of_ne hact hiso]
  · rw [hstate, State.claimRefusal_eq]
    simp only [StationState.activeOnly, State.undriven_owns, State.undriven_table, State.undriven_ctl, State.undriven_out]
    split_ifs
    all_goals rfl

/-- Settles O16: the two check orders, and `State.setYield`. -/
theorem releaseAndKeep : Obligations.ReleaseAndKeep := by
  intro s region guardPin hput
  refine ⟨fun hbad => ⟨?_, ?_⟩, fun r hr => ?_⟩
  · rw [exec, execRelease, s.onPut_of_takesPut _ hput, regionOfByte_of_le hbad]
  · rw [exec, execKeep, s.onPut_of_takesPut _ hput, regionOfByte_of_le hbad]
  · rw [exec, exec, execRelease, execKeep, s.onPut_of_takesPut _ hput, s.onPut_of_takesPut _ hput, regionOfByte_of_eq hr]
    simp only [Bool.not_eq_true', StationState.onLine_eq_false_iff, State.undriven_ctl, State.undriven_owns,
      State.protectedNow, State.guarded, Bool.and_eq_true]
    split_ifs
    all_goals exact ⟨rfl, rfl⟩

/-! ### FENCE (R82 to R84) -/

theorem OutEntry.inFence_mapUpdate (e : OutEntry) :
    (e.mapUpdate fun u => { u with sealed := true, inFence := true }).inFence = e.isUpdate := by
  rcases e with ⟨r, _ | _ | _ | _, sending, doom⟩ <;> rfl

theorem OutEntry.mapUpdate_of_not_update {e : OutEntry} (f : UpdateEntry → UpdateEntry) (h : e.isUpdate = false) :
    e.mapUpdate f = e := by
  rcases e with ⟨r, _ | _ | _ | _, sending, doom⟩ <;> first | rfl | cases h

/-- An open fence goes on while an in-fence entry is left (R84). -/
theorem State.checkFence_of_inFence (s : State) (h : s.out.entries.any OutEntry.inFence = true) : s.checkFence = s := by
  unfold State.checkFence
  split
  · rw [if_pos h]
  · rfl

/-- The fence completes with no in-fence entry left (R84). -/
theorem State.checkFence_of_done (s : State) {f : Fence} (hfence : s.out.fence = some f)
    (h : s.out.entries.any OutEntry.inFence = false) :
    s.checkFence = (s.mapOut ({ · with fence := none })).post (.fenceDone f.missing f.lost) := by
  rw [State.checkFence, hfence]
  simp [h]

/-- The in-fence entries of a fence just opened are the UPDATE entries (R83). -/
theorem State.openFence_inFence (s : State) :
    s.openFence.out.entries.any OutEntry.inFence = s.out.entries.any OutEntry.isUpdate := by
  have hmap : s.openFence.out.entries
      = s.out.entries.map (OutEntry.mapUpdate fun u => { u with sealed := true, inFence := true }) := rfl
  rw [hmap, List.any_map]
  exact congrArg (List.any s.out.entries) (funext OutEntry.inFence_mapUpdate)

/-- A fence that is taken: its entries sealed and in-fence, and its completion where there are none (R83, R84). -/
theorem exec_fence_taken {s : State} (hput : s.takesPut) (hoff : s.ctl.state ≠ .offline) (hlisten : s.ctl.state ≠ .listening)
    (hhalt : s.ctl.state ≠ .halted) (hclosed : s.out.fence = none) :
    exec .fence s = .next ((s.undriven.openFence.answer 0x06 .accepted []).checkFence) := by
  have hline : s.ctl.state.onLine = true := by simpa [hoff, hlisten, hhalt] using (StationState.onLine_eq_false_iff s.ctl.state).not
  rw [exec, execFence, s.onPut_of_takesPut _ hput]
  simp [hline, hclosed]

/-- Settles O17: the check order, then `State.openFence` with and without an UPDATE entry to be in-fence. -/
theorem fenceOpens : Obligations.FenceOpens := by
  intro s hput
  refine ⟨fun hoff => ?_, fun hoff hlisten hhalt => ⟨fun hopen => ?_, fun hclosed hsome => ?_, fun hclosed hnone => ?_⟩⟩
  · have hline := (StationState.onLine_eq_false_iff _).2 hoff
    rw [exec, execFence, s.onPut_of_takesPut _ hput]
    simp [hline]
  · have hline : s.ctl.state.onLine = true := by simpa [hoff, hlisten, hhalt] using (StationState.onLine_eq_false_iff s.ctl.state).not
    rw [exec, execFence, s.onPut_of_takesPut _ hput]
    simp [hline, Option.isSome_iff_ne_none, hopen]
  · have hfence : s.out.entries.any OutEntry.isUpdate = true := List.any_eq_true.2 hsome
    rw [exec_fence_taken hput hoff hlisten hhalt hclosed]
    exact congrArg Host.Outcome.next (State.checkFence_of_inFence _ (s.openFence_inFence.trans hfence))
  · have hfence : s.out.entries.any OutEntry.isUpdate = false := List.any_eq_false.2 fun e he => by simp [hnone e he]
    have hentries : s.openFence.out.entries = s.out.entries :=
      (List.map_congr_left fun e he => e.mapUpdate_of_not_update _ (hnone e he)).trans (List.map_id _)
    have hout : (⟨s.openFence.out.entries, s.out.reserved, none, s.out.hostClaim, s.out.sweep⟩ : Outbox) = s.out := by
      rw [hentries, ← hclosed]
    rw [exec_fence_taken hput hoff hlisten hhalt hclosed]
    refine congrArg Host.Outcome.next (Eq.trans (State.checkFence_of_done _ (f := ⟨0, 0⟩) rfl ?_) ?_)
    · exact s.openFence_inFence.trans hfence
    · exact congrArg (fun o : Outbox => ({ s with
        events := postTo s.events (.fenceDone 0 0)
        out := o
        port := ⟨.answer ⟨0x06, .accepted, []⟩, s.port.refused, [], .high⟩ } : State)) hout

end Sys2Proof.Machine
end

section
/-! SUPPORT. The reports of the Host Port: REGION, ROSTER and STATUS byte by byte (Tables 11-10 to 11-12), takes and polls (R175,
R176). -/

namespace Sys2Proof.Machine

-- One proof at a time: the proofs that wait for each other would hold the memory of the whole text.
set_option Elab.async false

/-! ### REGION (Table 11-10) -/

theorem numByte_of_eq {b : Byte} {n : Nat} {i : Fin n} (h : b.toNat = i.val) : numByte i = b :=
  BitVec.eq_of_toNat_eq (by rw [numByte, BitVec.toNat_ofNat, ← h, Nat.mod_eq_of_lt b.isLt])

theorem bytesBE_length (n x : Nat) : (bytesBE n x).length = n := by
  induction n with
  | zero => rfl
  | succ n ih => rw [bytesBE, List.length_cons, ih]

theorem stampBytes_length (s : Stamp) : (stampBytes s).length = 8 := by
  rw [stampBytes, List.length_append, bytesBE_length, bytesBE_length]

theorem stampBytes_zero : stampBytes ⟨0, 0⟩ = List.replicate 8 0 := by decide

/-- The owner fields of REGION: owner and owner epoch, FFh and 0 for UNKNOWN (Table 11-10). -/
def ownerBytes : Option Owner → List Byte
  | some o => numByte o.station :: bytesBE 2 o.epoch.toNat
  | none => [0xFF, 0, 0]

theorem ownerBytes_length (o : Option Owner) : (ownerBytes o).length = 3 := by
  cases o <;> simp [ownerBytes, bytesBE_length]

theorem State.regionData_eq (s : State) (r : Region) (guardPin : Bool) : s.regionData r guardPin =
    [numByte r] ++ stampBytes s.table[r].stamp ++ [s.table[r].copy.byte, s.table[r].copy.causeByte]
      ++ ownerBytes s.table[r].owner ++ [s.regionFlags r guardPin, countByte (s.updatesQueued r)]
      ++ s.catchupBytes r ++ s.pullBytes r ++ s.servingBytes r := by
  simp only [State.regionData]
  cases howner : s.table[r].owner <;>
    simp only [ownerBytes, List.append_assoc, List.cons_append, List.nil_append]

theorem State.catchupBytes_eq (s : State) (r : Region) : s.catchupBytes r =
    if (s.pullOf r).isSome = true then [3, 0]
    else if r ∈ s.catchup.list then [1, countByte (s.catchup.list.idxOf r + 1)]
    else if inMap s.catchup.parked r = true then [2, 0]
    else [0, 0] := by
  simp only [State.catchupBytes, List.contains_iff_mem]

theorem State.catchupBytes_length (s : State) (r : Region) : (s.catchupBytes r).length = 2 := by
  rw [s.catchupBytes_eq r]
  split_ifs <;> rfl

theorem State.pullBytes_length (s : State) (r : Region) : (s.pullBytes r).length = 13 := by
  unfold State.pullBytes
  split <;> simp [stampBytes_length]

theorem State.servingBytes_length (s : State) (r : Region) : (s.servingBytes r).length = 3 := by
  unfold State.servingBytes
  split <;> rfl

theorem State.regionData_length (s : State) (r : Region) (guardPin : Bool) : (s.regionData r guardPin).length = 34 := by
  simp [s.regionData_eq, stampBytes_length, ownerBytes_length, s.catchupBytes_length, s.pullBytes_length,
    s.servingBytes_length]

/-- The UPDATE entries queued for a region, counted in the list (Table 9-4). -/
theorem State.updatesQueued_eq (s : State) (r : Region) : s.updatesQueued r =
    (s.out.entries.filter (fun x => x.isUpdate && x.region == r)).length + (if s.out.reserved = some r then 1 else 0) := by
  rw [State.updatesQueued, List.countP_eq_length_filter]
  rfl

/-- The pull fields with no record: FFh and zeros (Table 11-10). -/
theorem State.pullBytes_eq (s : State) (r : Region) : s.pullBytes r = match s.pullOf r with
    | some p => [numByte p.target, countByte p.attempts, if p.collecting.isSome = true then 1 else 0]
      ++ (match p.collecting with | some c => stampBytes c | none => List.replicate 8 0)
      ++ [countByte (countBits p.collected), countByte (countBits p.written)]
    | none => [0xFF, 0, 0] ++ List.replicate 8 0 ++ [0, 0] := by
  unfold State.pullBytes
  cases s.pullOf r with
  | none => rw [stampBytes_zero]; rfl
  | some p =>
    simp only
    cases p.collecting with
    | none => rw [Option.getD_none, stampBytes_zero]; rfl
    | some c => simp [boolByte]

/-! ### ROSTER (Table 11-11) -/

theorem State.rosterByte_own (s : State) : s.rosterByte s.own = 0xC0 ||| s.ctl.state.byte := by
  simp only [State.rosterByte, beq_self_eq_true, Bool.or_true, if_true]
  rfl

theorem State.rosterByte_other (s : State) {n : Station} (h : n ≠ s.own) : s.rosterByte n =
    (if s.isMember n = true then (0x80 : Byte) else 0) ||| (s.statusOf n).byte := by
  simp only [State.rosterByte, if_neg h, beq_false_of_ne h, Bool.or_false]
  cases s.isMember n <;> rfl

/-- The ROSTER data, with the own entry and the others apart (Table 11-11). -/
theorem State.rosterData_eq (s : State) : s.rosterData = [numByte s.own]
    ++ (List.finRange 16).map (fun n : Station => if n = s.own then 0xC0 ||| s.ctl.state.byte
      else (if s.isMember n = true then (0x80 : Byte) else 0) ||| (s.statusOf n).byte)
    ++ stationMapBytes (mapOf (fun n : Station => s.roster.entries[n].differs)) ++ stationMapBytes s.roster.lastAck
    ++ [countByte s.quorumCount] := by
  have hbytes : (List.finRange 16).map s.rosterByte = (List.finRange 16).map (fun n : Station =>
      if n = s.own then 0xC0 ||| s.ctl.state.byte
      else (if s.isMember n = true then (0x80 : Byte) else 0) ||| (s.statusOf n).byte) := by
    refine List.map_congr_left fun n _ => ?_
    by_cases hn : n = s.own
    · rw [if_pos hn, hn, s.rosterByte_own]
    · rw [if_neg hn, s.rosterByte_other hn]
  simp only [State.rosterData, hbytes, List.cons_append, List.nil_append]

theorem State.phaseByte_eq (s : State) : s.phaseByte =
    if s.ctl.state = .leaving then (match s.ctl.leavePhase with | .drain => 1 | .final => 2) else 0 := by
  unfold State.phaseByte
  cases s.ctl.state <;> cases s.ctl.leavePhase <;> rfl

theorem State.rosterData_length (s : State) : s.rosterData.length = 22 := by
  simp [State.rosterData, stationMapBytes, bytesBE_length]

/-- Settles O18: the bytes of `State.regionData`, `State.rosterData` and `State.statusData`, field by field. -/
theorem reportsAnswered : Obligations.ReportsAnswered := by
  intro s region guardPin hput
  refine ⟨fun hbad => ?_, fun r hr => ⟨s.regionData r guardPin, ?_, s.regionData_length r guardPin, ?_⟩,
    ⟨s.rosterData, mapOf (fun n : Station => s.roster.entries[n].differs), ?_, s.rosterData_length, fun n => inMap_mapOf _ n, ?_⟩, ?_⟩
  · rw [exec, execRegion, s.onPut_of_takesPut _ hput, regionOfByte_of_le hbad]
  · rw [exec, execRegion, s.onPut_of_takesPut _ hput, regionOfByte_of_eq hr]
    rfl
  · rw [s.regionData_eq, numByte_of_eq hr, s.updatesQueued_eq, s.catchupBytes_eq, s.pullBytes_eq, CopyState.byte_eq, CopyState.causeByte_eq]
    rfl
  · rw [exec, execRoster, s.onPut_of_takesPut _ hput]
    rfl
  · rw [s.rosterData_eq]
    rfl
  · rw [exec, execStatus, s.onPut_of_takesPut _ hput]
    simp only [State.statusData, List.countP_eq_length_filter, State.phaseByte_eq]
    rfl

/-! ### The poll byte (Table 9-2) -/

/-- The poll byte as the four flags and the station state spell it. -/
theorem flagsByte_or_state (b7 b6 b5 b4 : Bool) (st : StationState) :
    let b := flagsByte b7 b6 b5 b4 false false false false ||| st.byte
    b.getLsbD 7 = b7 ∧ b.getLsbD 6 = b6 ∧ b.getLsbD 5 = b5 ∧ b.getLsbD 4 = b4 ∧ b.getLsbD 3 = false
      ∧ b.toNat % 8 = (match st with
        | .offline => 0 | .listening => 1 | .active => 2 | .isolated => 3 | .dozing => 4 | .leaving => 5 | .halted => 6) := by
  cases st <;> revert b7 b6 b5 b4 <;> decide

/-! ### Bits clocked out (R195, R199) -/

theorem byteBits_getElem? (b : Byte) {i : Nat} (h : i < 8) : (byteBits b)[i]? = some (b.getLsbD (7 - i)) := by
  interval_cases i <;> rfl

theorem flatMap_byteBits_getElem? (l : List Byte) (i : Nat) :
    (l.flatMap byteBits)[i]? = (l[i / 8]?).map (fun b => b.getLsbD (7 - i % 8)) := by
  induction l generalizing i with
  | nil => simp
  | cons b l ih =>
    have hlen : (byteBits b).length = 8 := rfl
    rw [List.flatMap_cons]
    by_cases hi : i < 8
    · rw [List.getElem?_append_left (by omega), byteBits_getElem? b hi, Nat.div_eq_of_lt hi, Nat.mod_eq_of_lt hi]
      rfl
    · obtain ⟨k, rfl⟩ : ∃ k, i = k + 8 := ⟨i - 8, by omega⟩
      rw [List.getElem?_append_right (by omega), hlen, Nat.add_sub_cancel, ih, Nat.add_div_right k (by omega),
        Nat.add_mod_right, List.getElem?_cons_succ]

/-- The bits of a take: those of the block in order, with fill of 00h after it (R175, R199). -/
theorem clockedOut_eq (block : List Byte) (n : Nat) :
    clockedOut block n = (List.range n).map (fun i => (block.getD (i / 8) 0).getLsbD (7 - i % 8)) := by
  refine List.ext_getElem? fun i => ?_
  rw [clockedOut, List.getElem?_map, List.getElem?_take]
  by_cases hi : i < n
  · have hfill : (block ++ List.replicate n 0)[i / 8]? = some (block.getD (i / 8) 0) := by
      by_cases hb : i / 8 < block.length
      · simp [List.getElem?_append_left hb, hb]
      · have : i / 8 - block.length < n := by omega
        rw [List.getElem?_append_right (by omega), List.getElem?_replicate, if_pos this, List.getD_eq_default _ _ (by omega)]
    rw [if_pos hi, flatMap_byteBits_getElem?, hfill, List.getElem?_range hi]
    rfl
  · rw [if_neg hi, List.getElem?_eq_none (by simpa using hi)]
    rfl

/-! ### POLL (R176) -/

theorem State.pollBits_succ (n : Nat) (s : State) : State.pollBits (n + 1) s = (State.pollBits n s).pollBit := by
  induction n generalizing s with
  | zero => rfl
  | succ n ih => rw [State.pollBits, ih, State.pollBits]

/-- The poll byte after the refused flag has been cleared. -/
def State.pollByteLater (s : State) : Byte := ({ s with port := { s.port with refused := false } } : State).pollByte

/-- The state `n` bits into a poll that has begun in it (R176). -/
def State.polled (s : State) (n : Nat) : State :=
  { s with port := { s.port with
    refused := s.port.refused && decide (n < 8)
    sdo := (List.range n).map (fun i => (if i < 8 then s.pollByte else s.pollByteLater).getLsbD (7 - i % 8))
    cs := .polling (if n ≤ 8 then s.pollByte else s.pollByteLater) } }

theorem State.polled_pollByte (s : State) (n : Nat) :
    (s.polled n).pollByte = if n < 8 then s.pollByte else s.pollByteLater := by
  by_cases h : n < 8 <;> simp [State.polled, State.pollByte, State.pollByteLater, State.attn, h]

/-- One more bit of a poll: the byte is taken afresh at its first bit, and the refused flag goes with the last bit of the first
byte. -/
theorem State.polled_pollBit (s : State) (n : Nat) : (s.polled n).pollBit = s.polled (n + 1) := by
  have hlen : (s.polled n).port.sdo.length = n := by simp [State.polled]
  have hbyte : (s.polled n).port.byteNow (s.polled n).pollByte = if n < 8 then s.pollByte else s.pollByteLater := by
    rw [State.polled_pollByte]
    simp only [Port.byteNow, State.polled, List.length_map, List.length_range]
    split_ifs <;> first | rfl | omega
  have hrefused : (s.port.refused && decide (n < 8)
      && !(n % 8 == 7 && (if n < 8 then s.pollByte else s.pollByteLater).getLsbD 4))
        = (s.port.refused && decide (n + 1 < 8)) := by
    rcases Nat.lt_trichotomy n 7 with hn | rfl | hn
    · simp [show n < 8 by omega, show n + 1 < 8 by omega, show n % 8 ≠ 7 by omega]
    · rw [if_pos (by omega), State.pollByte_getLsbD_four]
      cases s.port.refused <;> rfl
    · simp [show ¬ n < 8 by omega, show ¬ n + 1 < 8 by omega]
  have hport : (s.polled n).port.clockBit (if n < 8 then s.pollByte else s.pollByteLater) = (s.polled (n + 1)).port := by
    simp only [Port.clockBit, hlen]
    simp only [State.polled, hrefused, List.range_succ, List.map_append, List.map_cons, List.map_nil]
    rfl
  rw [State.pollBit, State.mapPort, hbyte, hport]
  rfl

theorem State.pollBits_begin (s : State) (n : Nat) (hcs : s.port.cs = .high) :
    State.pollBits n (s.mapPort (·.beginPoll s.pollByte)) = s.polled n := by
  induction n with
  | zero => simp [State.pollBits, State.polled, State.mapPort, State.setPort, Port.beginPoll, hcs]
  | succ n ih => rw [State.pollBits_succ, ih, State.polled_pollBit]

/-- A poll that the host has held over goes on where it stood (R176, log 36). -/
theorem exec_poll_of_polling {s : State} {b : Byte} {n : Nat} {held : Bool} (hon : s.power = .on)
    (hcs : s.port.cs = .polling b) :
    exec (.poll ⟨n, held⟩) s = .next ((State.pollBits n s).mapPort (·.endRun held)) := by
  have hbegin : s.mapPort (·.beginPoll s.pollByte) = s := by
    simp [State.mapPort, State.setPort, Port.beginPoll, hcs]
  rw [exec, execPoll, if_pos hon, State.pollRun, if_neg (by simp [hcs]), hbegin]

/-- Settles O10: the bits of a take by `clockedOut_eq`, those of a poll by `State.polled`, bit after bit. -/
theorem takeAndPoll : Obligations.TakeAndPoll := by
  refine ⟨fun s bits => ⟨fun hon a hanswer => ?_, fun hon hnone => ?_, fun hoff => ?_⟩, fun s n held =>
    ⟨fun hon hcs => ?_, fun hon b hcs => ⟨?_, ?_⟩, fun hon hcs => ?_, fun hoff => ?_, ?_⟩⟩
  · have hlen : a.block.length = 4 + a.data.length := by simp [Answer.block, bytesBE_length]; omega
    rw [exec, execTake, if_pos hon, State.takeBits, hanswer]
    simp only [hlen, clockedOut_eq]
    rfl
  · rw [exec, execTake, if_pos hon, State.takeBits]
    cases hport : s.port.state with
    | answer a => exact absurd hport (hnone a)
    | idle | working w =>
      simp only [clockedOut_eq]
      rfl
  · rw [exec, execTake, if_neg hoff]
    rfl
  · rw [exec, execPoll, if_pos hon, State.pollRun, if_neg (by simp [hcs]), s.pollBits_begin n hcs]
    cases held <;> rfl
  · rw [exec_poll_of_polling hon hcs]
    cases held
    · rfl
    · rw [if_pos rfl, ← hcs]
      rfl
  · have hbyte : s.port.byteNow s.pollByte = if s.port.sdo.length % 8 = 0 then s.pollByte else b := by
      rw [Port.byteNow, hcs]
    rw [exec_poll_of_polling hon hcs, ← hbyte]
    exact (exec_poll_of_polling (s := s.pollBit) hon rfl).symm
  · rw [exec, execPoll, if_pos hon, State.pollRun, if_pos hcs]
    simp [State.mapPort, State.setPort, Port.ignoreRun, hcs]
  · rw [exec, execPoll, if_neg hoff]
    rfl
  · exact flagsByte_or_state _ _ _ _ _

end Sys2Proof.Machine
end

section
/-! SUPPORT. The reclaim sweep (R103 to R105): its act at each position, and its walk. -/

namespace Sys2Proof.Machine

-- One proof at a time: the proofs that wait for each other would hold the memory of the whole text.
set_option Elab.async false

theorem Region.val_succ {r : Region} (h : r ≠ 63) : (r + 1).val = r.val + 1 := by
  have hval : r.val ≠ 63 := fun e => h (Fin.ext e)
  have hone : ((1 : Region) : Nat) = 1 := rfl
  rw [Fin.val_add, hone, Nat.mod_eq_of_lt (by omega)]

/-- The position of a running sweep that passes `r` (R105, log 42). -/
theorem Sweep.pass_of_running {w : Sweep} (r : Region) (hrun : w.phase = .running) :
    w.pass r = if r = 63 then { w with phase := .inactive } else { w with position := r + 1 } := by
  rw [Sweep.pass, if_neg (by simp [hrun])]

/-- A region that the sweep passes by: not held, owned, or under the host claim (R104). -/
theorem State.sweepAct_of_passed (s : State)
    (h : s.table[s.out.sweep.position].held = false ∨ s.owns s.out.sweep.position = true
      ∨ s.out.hostClaim = some s.out.sweep.position) :
    s.sweepAct = (s.setSweep (s.out.sweep.pass s.out.sweep.position), true) := by
  rw [State.sweepAct, if_pos]
  simpa [or_assoc] using h

/-- A held region that the sweep cannot claim: held is cleared, with the reason posted (R104). -/
theorem State.sweepAct_of_lost (s : State) (hheld : s.table[s.out.sweep.position].held = true)
    (hown : s.owns s.out.sweep.position = false) (hhost : s.out.hostClaim ≠ some s.out.sweep.position)
    (hlost : s.table[s.out.sweep.position].copy ≠ .current
      ∨ s.table[s.out.sweep.position].stamp.epoch = Config.epochCeiling) :
    s.sweepAct = ((((s.setSweep (s.out.sweep.pass s.out.sweep.position)).dropHeld s.out.sweep.position).post
      (.claimDone s.out.sweep.position 0 .sweep
        (some (if s.table[s.out.sweep.position].copy = .current then .exhausted else .notCurrent)))), true) := by
  rw [State.sweepAct, if_neg (by simpa [hown, hhost] using hheld)]
  by_cases hcopy : s.table[s.out.sweep.position].copy = .current
  · rw [if_neg (not_not.2 hcopy), if_pos (hlost.resolve_left (not_not.2 hcopy)), if_pos hcopy]
  · rw [if_pos hcopy, if_neg hcopy]

/-- A held region that the sweep claims, with one SWEEP entry (R104). -/
theorem State.sweepAct_of_claimed (s : State) (hheld : s.table[s.out.sweep.position].held = true)
    (hown : s.owns s.out.sweep.position = false) (hhost : s.out.hostClaim ≠ some s.out.sweep.position)
    (hcopy : s.table[s.out.sweep.position].copy = .current)
    (hepoch : s.table[s.out.sweep.position].stamp.epoch ≠ Config.epochCeiling) :
    s.sweepAct = ((s.setSweep { s.out.sweep with outstanding := some s.out.sweep.position }).appendEntry
      s.out.sweep.position (.claim .sweep), false) := by
  rw [State.sweepAct, if_neg (by simpa [hown, hhost] using hheld), if_neg (not_not.2 hcopy), if_neg hepoch]

/-- While the sweep walks on, its act moves it past its position. -/
theorem State.sweepAct_sweep (s : State) (h : s.sweepAct.2 = true) :
    s.sweepAct.1.out.sweep = s.out.sweep.pass s.out.sweep.position := by
  revert h
  unfold State.sweepAct
  dsimp only
  split_ifs
  · exact fun _ => rfl
  · exact fun _ => by simp [State.dropHeld, State.setSweep, State.mapOut, State.setOut]
  · exact fun _ => by simp [State.dropHeld, State.setSweep, State.mapOut, State.setOut]
  · exact False.elim

theorem State.sweepFrom_of_not_running (n : Nat) {s : State} (h : s.out.sweep.phase ≠ .running) : s.sweepFrom n = s := by
  cases n with
  | zero => rfl
  | succ n => rw [State.sweepFrom, if_neg h]

/-- The walk ends within the regions that are left, so that more fuel than they are changes nothing (R104). -/
theorem State.sweepFrom_fuel (n m : Nat) (s : State) (hn : 64 ≤ s.out.sweep.position.val + n)
    (hm : 64 ≤ s.out.sweep.position.val + m) : s.sweepFrom n = s.sweepFrom m := by
  induction n generalizing s m with
  | zero => omega
  | succ n ih =>
    obtain _ | m := m
    · omega
    rw [State.sweepFrom, State.sweepFrom]
    split
    next hrun =>
      split
      next hon =>
        have hsweep := s.sweepAct_sweep hon
        rw [Sweep.pass_of_running _ hrun] at hsweep
        split at hsweep
        next => rw [State.sweepFrom_of_not_running _ (by simp [hsweep]), State.sweepFrom_of_not_running _ (by simp [hsweep])]
        next hlast =>
          have hpos : s.sweepAct.1.out.sweep.position.val = s.out.sweep.position.val + 1 := by
            rw [hsweep]
            exact Region.val_succ hlast
          exact ih m _ (by omega) (by omega)
      next => rfl
    next => rfl

/-- A sweep that walks on does so from where its act leaves it. -/
theorem State.sweepWalk_of_on (s : State) (hrun : s.out.sweep.phase = .running) (hnone : s.out.sweep.outstanding = none)
    (hon : s.sweepAct.2 = true) : s.sweepWalk = s.sweepAct.1.sweepWalk := by
  have hsweep := s.sweepAct_sweep hon
  rw [Sweep.pass_of_running _ hrun] at hsweep
  rw [State.sweepWalk, if_pos ⟨hrun, hnone⟩, State.sweepFrom, if_pos hrun, if_pos hon, State.sweepWalk]
  split at hsweep
  next => rw [if_neg (by simp [hsweep]), State.sweepFrom_of_not_running _ (by simp [hsweep])]
  next hlast =>
    rw [if_pos (by simp [hsweep, hrun, hnone])]
    have hpos : s.sweepAct.1.out.sweep.position.val = s.out.sweep.position.val + 1 := by
      rw [hsweep]
      exact Region.val_succ hlast
    exact State.sweepFrom_fuel _ _ _ (by omega) (by omega)

/-- A sweep that waits for its SWEEP entry has made its last act. -/
theorem State.sweepWalk_of_off (s : State) (hrun : s.out.sweep.phase = .running) (hnone : s.out.sweep.outstanding = none)
    (hoff : s.sweepAct.2 = false) : s.sweepWalk = s.sweepAct.1 := by
  rw [State.sweepWalk, if_pos ⟨hrun, hnone⟩, State.sweepFrom, if_pos hrun, if_neg (by simp [hoff])]

theorem State.sweepWalk_of_not (s : State) (h : s.out.sweep.phase ≠ .running ∨ s.out.sweep.outstanding ≠ none) :
    s.sweepWalk = s := by
  rw [State.sweepWalk, if_neg (by tauto)]

/-- The walk past regions that are not held, up to `r` (R104). -/
theorem State.sweepWalk_to (s : State) (r : Region) (hrun : s.out.sweep.phase = .running)
    (hnone : s.out.sweep.outstanding = none) (hpos : s.out.sweep.position ≤ r)
    (hfree : ∀ q : Region, s.out.sweep.position ≤ q → q < r → s.table[q].held = false) :
    s.sweepWalk = (s.setSweep { s.out.sweep with position := r }).sweepWalk := by
  obtain ⟨k, hk⟩ : ∃ k, s.out.sweep.position.val + k = r.val := ⟨r.val - s.out.sweep.position.val, Nat.add_sub_cancel' hpos⟩
  induction k generalizing s with
  | zero =>
    have hr : s.out.sweep.position = r := Fin.ext (by omega)
    rw [← hr]
    rfl
  | succ k ih =>
    have hlt : s.out.sweep.position < r := by rw [Fin.lt_def]; omega
    have hlast : s.out.sweep.position ≠ 63 := fun h => absurd r.isLt (by rw [h] at hk; simp at hk; omega)
    have hsucc := Region.val_succ hlast
    rw [s.sweepWalk_of_on hrun hnone (by rw [s.sweepAct_of_passed (.inl (hfree _ le_rfl hlt))]),
      s.sweepAct_of_passed (.inl (hfree _ le_rfl hlt)), Sweep.pass_of_running _ hrun, if_neg hlast]
    refine ih (s.setSweep { s.out.sweep with position := s.out.sweep.position + 1 }) hrun hnone ?_ (fun q hq hqr => hfree q ?_ hqr) ?_
    · exact Fin.le_def.2 (by simp only [State.setSweep, State.mapOut, State.setOut]; omega)
    · exact le_trans (Fin.le_def.2 (hsucc ▸ Nat.le_succ _)) hq
    · simp only [State.setSweep, State.mapOut, State.setOut]
      omega

/-- The walk past region 63 ends it, its position staying there (R104, log 42). -/
theorem State.sweepWalk_of_last (s : State) (hrun : s.out.sweep.phase = .running) (hnone : s.out.sweep.outstanding = none)
    (hlast : s.out.sweep.position = 63) (hfree : s.table[s.out.sweep.position].held = false) :
    s.sweepWalk = s.setSweep { s.out.sweep with phase := .inactive } := by
  have hact := s.sweepAct_of_passed (.inl hfree)
  rw [Sweep.pass_of_running _ hrun, if_pos hlast] at hact
  rw [s.sweepWalk_of_on hrun hnone (by rw [hact]), hact, State.sweepWalk_of_not _ (.inl (by
    simp [State.setSweep, State.mapOut, State.setOut]))]

/-- With no region held the walk goes on to its end (R104). -/
theorem State.sweepWalk_of_none_held (s : State) (hrun : s.out.sweep.phase = .running)
    (hnone : s.out.sweep.outstanding = none) (hfree : ∀ q : Region, s.table[q].held = false) :
    s.sweepWalk = s.setSweep { s.out.sweep with phase := .inactive, position := 63 } := by
  rw [s.sweepWalk_to 63 hrun hnone (Fin.le_last _) fun q _ _ => hfree q]
  exact State.sweepWalk_of_last _ hrun hnone rfl (hfree 63)

/-- Settles O34: the cases of `State.sweepAct`, and the walk by them. -/
theorem sweepWalks : Obligations.SweepWalks := by
  intro s
  refine ⟨s.sweepWalk_of_not, fun hrun hnone => ⟨s.sweepWalk_of_on hrun hnone, s.sweepWalk_of_off hrun hnone,
    fun hheld hown hhost hcopy hepoch => ?_, fun hpass => ?_, fun hheld hown hhost hlost => ?_, fun hfree => ?_⟩⟩
  · have hact := s.sweepAct_of_claimed hheld hown hhost hcopy (mt (eq_epochCeiling_iff _).1 hepoch)
    rw [s.sweepWalk_of_off hrun hnone (by rw [hact]), hact]
    rfl
  · rw [s.sweepAct_of_passed hpass, Sweep.pass_of_running _ hrun]
    rfl
  · rw [s.sweepAct_of_lost hheld hown hhost (hlost.imp_right (eq_epochCeiling_iff _).2), Sweep.pass_of_running _ hrun]
    rfl
  · exact s.sweepWalk_of_none_held hrun hnone hfree

end Sys2Proof.Machine
end

section
/-! SUPPORT. The STALE mark (R6), DOZE, WAKE and the order of a wake (R159 to R162). -/

namespace Sys2Proof.Machine

-- One proof at a time: the proofs that wait for each other would hold the memory of the whole text.
set_option Elab.async false

theorem StationState.working_iff (st : StationState) : st.working = true ↔ st = .active ∨ st = .isolated := by
  cases st <;> simp [StationState.working]

theorem StationState.working_eq_false_iff (st : StationState) : st.working = false ↔ st ≠ .active ∧ st ≠ .isolated := by
  cases st <;> simp [StationState.working]

/-! ### The STALE mark (R6) -/

/-- The list and the parked set once `r` is placed at the tail (R110, R111). -/
theorem State.listRegion_eq (s : State) (r : Region) : s.listRegion r = { s with catchup := { s.catchup with
    list := if r ∈ s.catchup.list then s.catchup.list else s.catchup.list ++ [r]
    parked := dropBit s.catchup.parked r } } := by
  simp only [State.listRegion, State.mapCatchup, State.setCatchup, List.contains_iff_mem]

theorem markedCopy_of_changes {x : CopyState} {c : Cause} (h : x = .current ∨ x = .stale .behind ∧ c = .damaged) :
    markedCopy x c = .stale c ∧ markedCopy x c ≠ x := by
  rcases h with rfl | ⟨rfl, rfl⟩ <;> simp [markedCopy]

theorem markedCopy_of_not_changes {x : CopyState} {c : Cause} (h : ¬ (x = .current ∨ x = .stale .behind ∧ c = .damaged)) :
    markedCopy x c = x := by
  rcases x with _ | (_ | _) | _ <;> cases c <;> simp_all [markedCopy]

/-- A mark that changes the entry, and its report (R6). -/
theorem State.markStale_of_changes (s : State) (r : Region) (c : Cause)
    (h : s.table[r].copy = .current ∨ s.table[r].copy = .stale .behind ∧ c = .damaged) :
    s.markStale r c = (s.setEntry r { s.table[r] with copy := .stale c }).reportMark r c := by
  obtain ⟨hmark, hne⟩ := markedCopy_of_changes h
  rw [State.markStale, if_neg hne, State.mapEntry, hmark]

theorem State.markStale_of_not_changes (s : State) (r : Region) (c : Cause)
    (h : ¬ (s.table[r].copy = .current ∨ s.table[r].copy = .stale .behind ∧ c = .damaged)) :
    s.markStale r c = s.unpark r := by
  rw [State.markStale, if_pos (markedCopy_of_not_changes h)]

/-- Settles O30: a mark by whether it changes the copy, and its report by the station state. -/
theorem staleMark : Obligations.StaleMark := by
  intro s r c
  refine ⟨fun hch hst => ?_, fun hch hst => ?_, fun hch hact hiso hlisten => ?_, fun hch hst hparked => ?_, fun hch hst => ?_⟩
  · rw [s.markStale_of_changes r c hch, State.reportMark, if_pos (by simpa using (StationState.working_iff _).2 hst),
      State.listRegion_eq]
    rfl
  · rw [s.markStale_of_changes r c hch, State.reportMark, if_neg (by simp [hst, StationState.working]), if_pos (by simpa using hst)]
    rfl
  · rw [s.markStale_of_changes r c hch, State.reportMark, if_neg (by simp [(StationState.working_eq_false_iff _).2 ⟨hact, hiso⟩]),
      if_neg (by simpa using hlisten)]
  · rw [s.markStale_of_not_changes r c hch, State.unpark, if_pos (by simp [(StationState.working_iff _).2 hst, hparked]),
      State.listRegion_eq]
  · rw [s.markStale_of_not_changes r c hch, State.unpark, if_neg]
    rcases hst with hst | hst
    · simp [(StationState.working_eq_false_iff _).2 hst]
    · simp [hst]

/-! ### DOZE and WAKE (R159, R161) -/

theorem State.dozeBusy_iff (s : State) : s.dozeBusy = true ↔ (∃ e ∈ s.out.entries, e.isUpdate = true ∨ e.isImage = true)
    ∨ s.out.fence ≠ none ∨ s.catchup.pulls ≠ [] ∨ s.serving ≠ [] := by
  simp only [State.dozeBusy, Bool.or_eq_true, List.any_eq_true, Option.isSome_iff_ne_none, Bool.not_eq_true',
    List.isEmpty_eq_false_iff, or_assoc]

/-- The posts of a wake are those of the regions that joined the list (R162 step 5). -/
theorem State.postStales_eq (s : State) (rs : List Region) : s.postStales rs = s.setEvents
    ((rs.flatMap (fun r : Region => match s.table[r].copy with
      | .stale c => [Event.regionStale r c]
      | .current | .fetching _ => [])).foldl postTo s.events) := by
  induction rs generalizing s with
  | nil => rfl
  | cons r rs ih =>
    have hpost : s.postStale r = s.setEvents ((match s.table[r].copy with
        | .stale c => [Event.regionStale r c]
        | .current | .fetching _ => [] : List Event).foldl postTo s.events) := by
      unfold State.postStale
      cases s.table[r].copy <;> rfl
    rw [State.postStales, List.foldl_cons, ← State.postStales, ih, hpost, List.flatMap_cons, List.foldl_append]
    rfl

theorem State.unlisted_eq (s : State) : s.unlisted = (List.finRange 64).filter (fun r : Region =>
    (match s.table[r].copy with | .stale _ => true | .current | .fetching _ => false) && !s.catchup.list.contains r) := by
  rw [State.unlisted, State.staleRegions, List.filter_filter]
  refine List.filter_congr fun r _ => ?_
  rw [Bool.and_comm]
  cases s.table[r].copy <;> rfl

/-- The station as a wake leaves it before the sweep walks on (R162 steps 1 to 5). -/
def State.woken (s : State) (cause : Option Region) : State :=
  { s with
    ctl := { s.ctl with state := if s.quorum ≤ s.quorumCount then .active else .isolated }
    catchup := { s.catchup with list := s.catchup.list ++ s.unlisted, parked := 0 }
    out := { s.out with sweep := { s.out.sweep with
      phase := if s.quorum ≤ s.quorumCount ∧ s.out.sweep.phase = .paused then .running else s.out.sweep.phase } }
    events := ((Event.woken cause :: (if s.quorum ≤ s.quorumCount then [] else [.isolation true]))
      ++ s.unlisted.flatMap (fun r : Region => match s.table[r].copy with
        | .stale c => [Event.regionStale r c]
        | .current | .fetching _ => [])).foldl postTo s.events }

theorem Sweep.pause_eq (w : Sweep) : w.pause = { w with phase := if w.phase = .running then .paused else w.phase } := by
  by_cases h : w.phase = .running
  · rw [Sweep.pause, if_pos h, if_pos h]
  · rw [Sweep.pause, if_neg h, if_neg h]

theorem Sweep.resume_eq (w : Sweep) : w.resume = { w with phase := if w.phase = .paused then .running else w.phase } := by
  by_cases h : w.phase = .paused
  · rw [Sweep.resume, if_pos h, if_pos h]
  · rw [Sweep.resume, if_neg h, if_neg h]

theorem State.wakeUp_eq (s : State) (cause : Option Region) : s.wakeUp cause = (s.woken cause).sweepWalk := by
  have hsweep : s.out.sweep.wakeInto s.quorumState = { s.out.sweep with
      phase := if s.quorum ≤ s.quorumCount ∧ s.out.sweep.phase = .paused then .running else s.out.sweep.phase } := by
    rw [Sweep.wakeInto, State.quorumState]
    by_cases hq : s.quorum ≤ s.quorumCount
    · rw [if_pos hq, if_pos rfl, Sweep.resume_eq]
      simp only [hq, true_and]
    · rw [if_neg hq, if_neg (by simp)]
      simp only [hq, false_and, if_false]
  rw [State.wakeUp, State.postStales_eq, hsweep]
  by_cases hq : s.quorum ≤ s.quorumCount
  · have hstate : s.quorumState = .active := if_pos hq
    rw [hstate, State.woken, if_pos hq, if_pos hq]
    rfl
  · have hstate : s.quorumState = .isolated := if_neg hq
    rw [hstate, State.woken, if_neg hq, if_neg hq]
    rfl

/-- Settles O25: the check orders, and a wake as `State.woken` followed by the sweep's walk. -/
theorem dozeAndWakeInOrder : Obligations.DozeAndWakeInOrder := by
  refine ⟨fun s hput => ⟨?_, fun hst => ?_, fun hst => ?_, fun hst => ?_⟩, fun s cause => ?_⟩
  · rw [exec, execDoze, s.onPut_of_takesPut _ hput]
    simp only [State.undriven_ctl, State.undriven_out, ← s.dozeBusy_iff, Sweep.pause_eq]
    rfl
  · rw [exec, execWake, s.onPut_of_takesPut _ hput, State.undriven_ctl]
    rcases hst with hst | hst <;> rw [hst]
  · rw [exec, execWake, s.onPut_of_takesPut _ hput, State.undriven_ctl]
    rcases hst with hst | hst | hst | hst <;> rw [hst]
  · rw [exec, execWake, s.onPut_of_takesPut _ hput, State.undriven_ctl, hst]
  · have hwoken := s.wakeUp_eq cause
    rw [State.woken, s.unlisted_eq] at hwoken
    refine ⟨hwoken, fun hinactive => ?_, fun hpaused hq => ?_, fun hpaused hq hout => ?_⟩
    · exact hwoken.trans (State.sweepWalk_of_not _ (.inl (by simp [hinactive])))
    · have hsweep : (s.woken cause).out.sweep = s.out.sweep := by
        simp only [State.woken, State.quorum, hq, false_and, if_false]
      have hphase : (s.woken cause).out.sweep.phase ≠ .running := by simp [hsweep, hpaused]
      rw [State.woken, s.unlisted_eq] at hphase hsweep
      exact ⟨hwoken.trans (State.sweepWalk_of_not _ (.inl hphase)), hsweep⟩
    · exact ⟨hwoken.trans (State.sweepWalk_of_not _ (.inr hout)), if_pos ⟨hq, hpaused⟩⟩

end Sys2Proof.Machine
end

section
/-! SUPPORT. Entries leaving the Outbox (R26, R67, R81, R84): what a discard leaves of the list, the fence, the claims and the
sweep. -/

namespace Sys2Proof.Machine

-- One proof at a time: the proofs that wait for each other would hold the memory of the whole text.
set_option Elab.async false

/-! ### What discarded entries leave behind (R81, R88, R165) -/

theorem OutEntry.isHost_iff (e : OutEntry) : e.isHost = true ↔ e.body = .claim .host := by
  rcases e with ⟨r, _ | (_ | _) | _ | _, sending, doom⟩ <;> simp [OutEntry.isHost]

/-- The Outbox after a discarded entry, field by field. -/
theorem Outbox.without_eq (o : Outbox) (e : OutEntry) : o.without e = { o with
    fence := o.fence.map (fun f => { f with lost := f.lost + if e.inFence then 1 else 0 })
    hostClaim := if e.isHost then none else o.hostClaim
    sweep := { o.sweep with outstanding := if e.isSweep then none else o.sweep.outstanding } } := by
  rcases o with ⟨es, reserved, fence, hostClaim, sweep⟩
  rcases e with ⟨r, u | (_ | _) | _ | _, sending, doom⟩
  case update =>
    cases hu : u.inFence <;> simp [Outbox.without, OutEntry.inFence, OutEntry.isHost, OutEntry.isSweep, hu]
  all_goals simp [Outbox.without, OutEntry.inFence, OutEntry.isHost, OutEntry.isSweep]

/-- The Outbox after several discarded entries. -/
def Outbox.withoutAll (o : Outbox) (gone : List OutEntry) : Outbox :=
  { o with
    fence := o.fence.map (fun f => { f with lost := f.lost + gone.countP OutEntry.inFence })
    hostClaim := if gone.any OutEntry.isHost then none else o.hostClaim
    sweep := { o.sweep with outstanding := if gone.any OutEntry.isSweep then none else o.sweep.outstanding } }

theorem Outbox.withoutAll_nil (o : Outbox) : o.withoutAll [] = o := by
  simp [Outbox.withoutAll]

theorem Outbox.withoutAll_cons (o : Outbox) (e : OutEntry) (gone : List OutEntry) :
    o.withoutAll (e :: gone) = (o.without e).withoutAll gone := by
  rw [Outbox.without_eq]
  simp only [Outbox.withoutAll, Option.map_map, Function.comp_def, List.countP_cons, List.any_cons,
    Nat.add_comm (List.countP _ _), ← Nat.add_assoc]
  by_cases hhost : e.isHost = true <;> by_cases hsweep : e.isSweep = true <;>
    simp [hhost, hsweep]

/-- What a departure of several entries changes: the Outbox's records, and the count of the cut. -/
theorem State.departAll_eq (s : State) (cut : Bool) (gone : List OutEntry) : s.departAll cut gone = { s with
    out := s.out.withoutAll gone
    ctl := { s.ctl with discarded := s.ctl.discarded + if cut then gone.length else 0 } } := by
  induction gone generalizing s with
  | nil => simp [State.departAll, Outbox.withoutAll_nil]
  | cons e gone ih =>
    rw [State.departAll, List.foldl_cons, ← State.departAll, ih, Outbox.withoutAll_cons]
    cases cut <;>
      simp [State.departed, State.mapCtl, State.setCtl, State.mapOut, State.setOut, Controller.countCut, Nat.add_assoc,
        Nat.add_comm 1]

/-! ### The fence (R84) -/

/-- The fence record that is left once its completion has been looked for. -/
def Outbox.fenceLeft (o : Outbox) : Option Fence := if o.entries.any OutEntry.inFence then o.fence else none

/-- The post that the fence's completion makes. -/
def Outbox.fencePosts (o : Outbox) : List Event :=
  match o.fence with
  | some f => if o.entries.any OutEntry.inFence then [] else [.fenceDone f.missing f.lost]
  | none => []

theorem State.checkFence_eq (s : State) : s.checkFence = { s with
    out := { s.out with fence := s.out.fenceLeft }
    events := s.out.fencePosts.foldl postTo s.events } := by
  cases hf : s.out.fence with
  | none =>
    have hleft : s.out.fenceLeft = s.out.fence := by simp [Outbox.fenceLeft, hf]
    rw [hleft, Outbox.fencePosts, State.checkFence]
    simp only [hf]
    rw [← hf]
    rfl
  | some f =>
    by_cases hin : s.out.entries.any OutEntry.inFence = true
    · rw [s.checkFence_of_inFence hin, Outbox.fenceLeft, if_pos hin, Outbox.fencePosts, hf]
      simp only [if_pos hin]
      rw [← hf]
      rfl
    · rw [s.checkFence_of_done hf (by simpa using hin), Outbox.fenceLeft, if_neg hin, Outbox.fencePosts, hf]
      simp only [if_neg hin]
      rfl

/-! ### A discard (R26, R67) -/

/-- The Outbox of a discard before its fence is looked at. -/
def Outbox.discarded (o : Outbox) (p : OutEntry → Bool) (cut : Bool) : Outbox :=
  { o.withoutAll (o.entries.filter (goesNow p)) with entries := keptEntries p cut o.entries }

/-- A discard, field by field. -/
theorem State.discardEntries_eq (s : State) (p : OutEntry → Bool) (cut : Bool) : s.discardEntries p cut = { s with
    out := { s.out.discarded p cut with fence := (s.out.discarded p cut).fenceLeft }
    ctl := { s.ctl with discarded := s.ctl.discarded + if cut then (s.out.entries.filter (goesNow p)).length else 0 }
    events := (s.out.discarded p cut).fencePosts.foldl postTo s.events } := by
  rw [State.discardEntries, State.departAll_eq, State.checkFence_eq]
  rfl

theorem keptEntries_eq_removalAsked (p : OutEntry → Bool) (es : List OutEntry) : keptEntries p false es = removalAsked p es := by
  refine List.map_congr_left fun e _ => ?_
  simp [OutEntry.markedBy]

theorem goesNow_of_spared {p : OutEntry → Bool} {q : OutEntry → Bool} {es : List OutEntry}
    (h : ∀ e ∈ es, p e = true → q e = false) : (es.filter (goesNow p)).any q = false := by
  simp only [List.any_eq_false, List.mem_filter, goesNow, Bool.and_eq_true]
  exact fun e ⟨he, hp, _⟩ => by simp [h e he hp]

/-- A removal leaves the entries that it does not name. -/
theorem mem_keptEntries_of_spared {p : OutEntry → Bool} {cut : Bool} {es : List OutEntry} {e : OutEntry} (he : e ∈ es)
    (hp : p e = false) : e ∈ keptEntries p cut es :=
  List.mem_map.2 ⟨e, List.mem_filter.2 ⟨he, by simp [goesNow, hp]⟩, by simp [OutEntry.markedBy, hp]⟩

/-- An open fence has an in-fence entry. -/
def Outbox.fenceHolds (o : Outbox) : Prop := o.fence ≠ none → ∃ x ∈ o.entries, x.inFence = true

theorem Outbox.fenceLeft_of_holds {o : Outbox} (h : o.fenceHolds) : o.fenceLeft = o.fence ∧ o.fencePosts = [] := by
  cases hf : o.fence with
  | none => simp [Outbox.fenceLeft, Outbox.fencePosts, hf]
  | some f =>
    have hin := List.any_eq_true.2 (h (by simp [hf]))
    simp only [Outbox.fenceLeft, Outbox.fencePosts, hf, hin, if_true, and_self]

/-- A discard that spares the in-fence entries and the claims changes the list, and closes a fence that has no entry. -/
theorem State.discardEntries_of_spared (s : State) (p : OutEntry → Bool)
    (hspared : ∀ e, p e = true → e.inFence = false ∧ e.isHost = false ∧ e.isSweep = false) :
    s.discardEntries p false = { s with
      out := { s.out with entries := removalAsked p s.out.entries, fence := (s.discardEntries p false).out.fence }
      events := (s.discardEntries p false).events } := by
  have hhost := goesNow_of_spared (es := s.out.entries) fun e _ he => (hspared e he).2.1
  have hsweep := goesNow_of_spared (es := s.out.entries) fun e _ he => (hspared e he).2.2
  rw [State.discardEntries_eq]
  simp only [Outbox.discarded, Outbox.withoutAll, hhost, hsweep, keptEntries_eq_removalAsked]
  rfl

theorem State.discardEntries_of_holds (s : State) (p : OutEntry → Bool) (hspared : ∀ e, p e = true → e.inFence = false)
    (hfence : s.out.fenceHolds) :
    (s.discardEntries p false).out.fence = s.out.fence ∧ (s.discardEntries p false).events = s.events := by
  have hnone : (s.out.entries.filter (goesNow p)).countP OutEntry.inFence = 0 := by
    have := goesNow_of_spared (es := s.out.entries) fun e _ he => hspared e he
    simpa [List.countP_eq_zero] using this
  have hkept : (s.out.discarded p false).fence = s.out.fence := by
    simp only [Outbox.discarded, Outbox.withoutAll, hnone, Nat.add_zero]
    exact Option.map_id'
  have hholds : (s.out.discarded p false).fenceHolds := fun hopen => by
    obtain ⟨x, hx, hin⟩ := hfence (hkept ▸ hopen)
    have hnot : p x = false := by
      by_contra hp
      simp [hspared x (by simpa using hp)] at hin
    exact ⟨x, mem_keptEntries_of_spared hx hnot, hin⟩
  obtain ⟨hleft, hposts⟩ := Outbox.fenceLeft_of_holds hholds
  rw [State.discardEntries_eq]
  exact ⟨hleft.trans hkept, by rw [hposts]; rfl⟩

end Sys2Proof.Machine
end

section
/-! SUPPORT. The end of a serving record (R127) and the closure of a pull (R119): what each changes. -/

namespace Sys2Proof.Machine

-- One proof at a time: the proofs that wait for each other would hold the memory of the whole text.
set_option Elab.async false

/-! ### Region entries (R8) -/

theorem State.mapEntry_nv_read (s : State) (r q : Region) (f : RegionEntry → RegionEntry) :
    (s.mapEntry r f).nv.regions[q] = if q = r then nvImage (f s.table[r]) (s.unwritten r) else s.nv.regions[q] := by
  simp only [State.mapEntry, State.setEntry, Fin.getElem_fin, Vector.getElem_set]
  by_cases h : q = r
  · subst h; simp
  · rw [if_neg (fun e => h (Fin.ext e.symm)), if_neg h]

/-! ### The end of a serving record (R127) -/

/-- Region `r` has a serving record. -/
def State.served (s : State) (r : Region) : Bool := s.serving.any (fun v => v.region == r)

/-- Region `r` has an open pull record. -/
def State.pulled (s : State) (r : Region) : Bool := s.catchup.pulls.any (fun p => p.region == r)

theorem State.servingOf_eq_none_iff (s : State) (r : Region) : s.servingOf r = none ↔ s.served r = false := by
  simp [State.servingOf, State.served]

theorem State.pullOf_eq_none_iff (s : State) (r : Region) : s.pullOf r = none ↔ s.pulled r = false := by
  simp [State.pullOf, State.pulled]

theorem State.pullOf_isSome (s : State) (r : Region) : (s.pullOf r).isSome = s.pulled r := by
  rw [Bool.eq_iff_iff, Option.isSome_iff_ne_none, ne_eq, s.pullOf_eq_none_iff, Bool.not_eq_false]

/-- An array operation once the records that `ended` names have ended: the data of their chunk read is discarded (R127). -/
def ArrayOp.droppedBy (ended : Region → Bool) : ArrayOp → ArrayOp
  | .chunkRead q k stamp live => .chunkRead q k stamp (live && !ended q)
  | x => x

theorem State.arbAfterServing_eq (s : State) (ended : Region → Bool) :
    s.arbAfterServing ended = { s.arb with op := s.arb.op.map (ArrayOp.droppedBy ended) } := by
  rfl

theorem ArrayOp.droppedBy_of_none {ended : Region → Bool} (h : ∀ q, ended q = false) (x : ArrayOp) : x.droppedBy ended = x := by
  cases x <;> simp [ArrayOp.droppedBy, h]

theorem State.arbAfterServing_of_none (s : State) {ended : Region → Bool} (h : ∀ q, ended q = false) :
    s.arbAfterServing ended = s.arb := by
  have hop : s.arb.op.map (ArrayOp.droppedBy ended) = s.arb.op := by
    rw [funext (ArrayOp.droppedBy_of_none h)]
    exact Option.map_id'
  rw [s.arbAfterServing_eq, hop]

theorem State.dropRead_eq (s : State) (r : Region) : s.dropRead r = s.setArb (s.arbAfterServing (fun q => q == r)) := by
  have hsame (h : s.arb.op.map (ArrayOp.droppedBy fun q => q == r) = s.arb.op) :
      s = s.setArb (s.arbAfterServing (fun q => q == r)) := by rw [s.arbAfterServing_eq, h]; rfl
  unfold State.dropRead
  split
  next q k stamp live hop =>
    split
    next hq => simp [s.arbAfterServing_eq, hop, ArrayOp.droppedBy, hq]
    next hq => exact hsame (by simp [hop, ArrayOp.droppedBy, hq])
  next hop =>
    refine hsame ?_
    rcases hcase : s.arb.op with _ | (_ | _ | _ | _ | _)
    case some.chunkRead => exact absurd hcase (hop _ _ _ _)
    all_goals rfl

theorem imageOf_spared (r : Region) (e : OutEntry) (h : imageOf r e = true) :
    e.inFence = false ∧ e.isHost = false ∧ e.isSweep = false := by
  rcases e with ⟨q, _ | _ | _ | _, sending, doom⟩ <;> simp_all [imageOf, OutEntry.isImage, OutEntry.inFence, OutEntry.isHost, OutEntry.isSweep]

theorem pullEntryOf_spared (r : Region) (e : OutEntry) (h : pullEntryOf r e = true) :
    e.inFence = false ∧ e.isHost = false ∧ e.isSweep = false := by
  rcases e with ⟨q, _ | _ | _ | _, sending, doom⟩ <;> simp_all [pullEntryOf, OutEntry.isPull, OutEntry.inFence, OutEntry.isHost, OutEntry.isSweep]

theorem removalAsked_of_none {hit : OutEntry → Bool} {es : List OutEntry} (h : ∀ e ∈ es, hit e = false) :
    removalAsked hit es = es := by
  have hfilter : es.filter (fun x => !(hit x && !x.sending)) = es := List.filter_eq_self.2 fun e he => by simp [h e he]
  rw [removalAsked, hfilter]
  exact (List.map_congr_left fun e he => by simp [h e he]).trans (List.map_id _)

/-- The serving table without a record that it does not hold. -/
theorem State.serving_filter_of_not_served (s : State) {r : Region} (h : s.served r = false) :
    s.serving.filter (fun v => v.region != r) = s.serving :=
  List.filter_eq_self.2 fun v hv => by simpa [State.served] using List.any_eq_false.1 h v hv

theorem State.endServing_of_not_served (s : State) {r : Region} (h : s.served r = false) : s.endServing r = s := by
  rw [State.endServing, (s.servingOf_eq_none_iff r).2 h]

/-- A serving record that ends, with its read, its IMAGE entry and write hold (R127). -/
theorem State.endServing_of_served (s : State) {r : Region} (h : s.served r = true) :
    s.endServing r = ((((s.dropServing r).setArb (s.arbAfterServing (fun q => q == r))).discardEntries (imageOf r)
      false).mapEntry r ({ · with writeHold := false })) := by
  obtain ⟨v, hv⟩ := Option.ne_none_iff_exists'.1 (mt (s.servingOf_eq_none_iff r).1 (by simp [h]))
  rw [State.endServing, hv, State.dropRead_eq]
  rfl

/-- The end of a serving record in the blocks that it touches (R127). -/
theorem State.endServing_eq (s : State) (r : Region) : s.endServing r = { s with
    serving := s.serving.filter (fun v => v.region != r)
    out := { s.out with
      entries := removalAsked (fun x => s.served r && imageOf r x) s.out.entries
      fence := (s.endServing r).out.fence }
    events := (s.endServing r).events
    arb := s.arbAfterServing (fun q => s.served r && q == r)
    table := (s.endServing r).table
    nv := { s.nv with regions := (s.endServing r).nv.regions } } := by
  cases hserved : s.served r with
  | false =>
    rw [s.endServing_of_not_served hserved, s.serving_filter_of_not_served hserved,
      s.arbAfterServing_of_none fun q => Bool.false_and _, removalAsked_of_none fun e _ => Bool.false_and _]
  | true =>
    rw [s.endServing_of_served hserved, State.discardEntries_of_spared _ _ (imageOf_spared r)]
    rfl

theorem State.endServing_serving (s : State) (r : Region) :
    (s.endServing r).serving = s.serving.filter (fun v => v.region != r) := by rw [s.endServing_eq r]

theorem State.endServing_arb (s : State) (r : Region) :
    (s.endServing r).arb = s.arbAfterServing (fun q => s.served r && q == r) := by rw [s.endServing_eq r]

theorem State.endServing_out (s : State) (r : Region) : (s.endServing r).out = { s.out with
    entries := removalAsked (fun x => s.served r && imageOf r x) s.out.entries
    fence := (s.endServing r).out.fence } := by
  conv_lhs => rw [s.endServing_eq r]

/-- The regions at the end of a serving record: write hold is cleared (R127). -/
theorem State.endServing_table (s : State) (r q : Region) : (s.endServing r).table[q] =
    { s.table[q] with writeHold := s.table[q].writeHold && !(s.served r && q == r) } := by
  cases hserved : s.served r with
  | false => simp [s.endServing_of_not_served hserved]
  | true =>
    rw [s.endServing_of_served hserved, State.mapEntry_read, State.discardEntries_table]
    by_cases hq : q = r
    · simp [hq, State.setArb, State.dropServing, State.setServing]
    · simp [hq, beq_false_of_ne hq, State.setArb, State.dropServing, State.setServing]

theorem State.endServing_nv_regions (s : State) (r q : Region) : (s.endServing r).nv.regions[q] =
    if s.served r = true ∧ q = r then nvImage (s.endServing r).table[q] (s.unwritten q) else s.nv.regions[q] := by
  cases hserved : s.served r with
  | false => simp [s.endServing_of_not_served hserved]
  | true =>
    rw [s.endServing_of_served hserved, State.mapEntry_nv_read, State.mapEntry_read]
    by_cases hq : q = r
    · simp [hq, State.unwritten, State.setArb, State.dropServing, State.setServing]
    · simp [hq, State.setArb, State.dropServing, State.setServing]

/-- The end of a serving record neither posts nor closes a fence that has an entry. -/
theorem State.endServing_of_holds (s : State) (r : Region) (h : s.out.fenceHolds) :
    (s.endServing r).out.fence = s.out.fence ∧ (s.endServing r).events = s.events := by
  cases hserved : s.served r with
  | false => simp [s.endServing_of_not_served hserved]
  | true =>
    rw [s.endServing_of_served hserved, State.mapEntry_out, State.mapEntry_events]
    exact State.discardEntries_of_holds _ _ (fun e he => (imageOf_spared r e he).1) h

/-- In-fence entries are spared by what asks for the removal of none. -/
theorem removalAsked_inFence {hit : OutEntry → Bool} (hspared : ∀ e, hit e = true → e.inFence = false) {es : List OutEntry}
    (h : ∃ x ∈ es, x.inFence = true) : ∃ x ∈ removalAsked hit es, x.inFence = true := by
  obtain ⟨x, hx, hin⟩ := h
  have hnot : hit x = false := by
    by_contra hp
    simp [hspared x (by simpa using hp)] at hin
  rw [← keptEntries_eq_removalAsked]
  exact ⟨x, mem_keptEntries_of_spared hx hnot, hin⟩

theorem State.endServing_fenceHolds (s : State) (r : Region) (h : s.out.fenceHolds) : (s.endServing r).out.fenceHolds := by
  intro hopen
  rw [(s.endServing_of_holds r h).1] at hopen
  rw [s.endServing_eq r]
  exact removalAsked_inFence (fun e he => (imageOf_spared r e (Bool.and_elim_right he)).1) (h hopen)

/-! ### The closure of a pull (R119) -/

theorem State.pulls_filter_of_not_pulled (s : State) {r : Region} (h : s.pulled r = false) :
    s.catchup.pulls.filter (fun q => q.region != r) = s.catchup.pulls :=
  List.filter_eq_self.2 fun p hp => by simpa [State.pulled] using List.any_eq_false.1 h p hp

theorem State.closePull_of_not_pulled (s : State) {r : Region} (park : Bool) (h : s.pulled r = false) : s.closePull r park = s := by
  rw [State.closePull, (s.pullOf_eq_none_iff r).2 h]

theorem State.closePull_of_pulled (s : State) {r : Region} {p : PullRecord} (park : Bool) (h : s.pullOf r = some p) :
    s.closePull r park = (((s.dropPull r).discardEntries (pullEntryOf r) false).mapEntry r
      (fun e => { e with copy := closedCopy p.taken e.copy })).afterClosure r park := by
  rw [State.closePull, h]

theorem State.postStale_events (s : State) (r : Region) : (s.postStale r).events = match s.table[r].copy with
    | .stale c => postTo s.events (.regionStale r c)
    | .current | .fetching _ => s.events := by
  unfold State.postStale
  cases s.table[r].copy <;> rfl

/-- The posts, list and parked set after a closure (R119). -/
theorem State.afterClosure_eq (s : State) (r : Region) (park : Bool) : s.afterClosure r park = { s with
    events := if s.ctl.state.working then (s.postStale r).events else s.events
    catchup := if s.ctl.state.working then (if park then (s.parkRegion r).catchup else (s.listRegion r).catchup)
      else s.catchup } := by
  unfold State.afterClosure
  split
  next h =>
    have hpost : s.postStale r = s.setEvents (s.postStale r).events := by
      unfold State.postStale
      split <;> rfl
    rw [hpost]
    cases park <;> rfl
  next h => rfl

/-- The closure of a pull in the blocks that it touches (R119). -/
theorem State.closePull_eq (s : State) (r : Region) (park : Bool) : s.closePull r park = { s with
    catchup := (s.closePull r park).catchup
    out := { s.out with
      entries := removalAsked (fun x => s.pulled r && pullEntryOf r x) s.out.entries
      fence := (s.closePull r park).out.fence }
    events := (s.closePull r park).events
    table := (s.closePull r park).table
    nv := { s.nv with regions := (s.closePull r park).nv.regions } } := by
  cases hpulled : s.pulled r with
  | false =>
    rw [s.closePull_of_not_pulled park hpulled, removalAsked_of_none fun e _ => Bool.false_and _]
  | true =>
    obtain ⟨p, hp⟩ := Option.ne_none_iff_exists'.1 (mt (s.pullOf_eq_none_iff r).1 (by simp [hpulled]))
    rw [s.closePull_of_pulled park hp, State.discardEntries_of_spared _ _ (pullEntryOf_spared r), State.afterClosure_eq]
    rfl

theorem State.closePull_out (s : State) (r : Region) (park : Bool) : (s.closePull r park).out = { s.out with
    entries := removalAsked (fun x => s.pulled r && pullEntryOf r x) s.out.entries
    fence := (s.closePull r park).out.fence } := by
  conv_lhs => rw [s.closePull_eq r park]

/-- The copy of a closed pull: STALE with the kept cause, or DAMAGED with a chunk taken (R119). -/
theorem State.closePull_table (s : State) {r : Region} {p : PullRecord} (park : Bool) (h : s.pullOf r = some p) (q : Region) :
    (s.closePull r park).table[q]
      = if q = r then { s.table[r] with copy := closedCopy p.taken s.table[r].copy } else s.table[q] := by
  rw [s.closePull_of_pulled park h, State.afterClosure_table, State.mapEntry_read, State.discardEntries_table]
  rfl

theorem State.closePull_table_other (s : State) {r q : Region} (park : Bool) (h : q ≠ r) :
    (s.closePull r park).table[q] = s.table[q] := by
  cases hp : s.pullOf r with
  | none => rw [State.closePull, hp]
  | some p => rw [s.closePull_table park hp, if_neg h]

theorem State.closePull_nv_regions (s : State) (r q : Region) (park : Bool) : (s.closePull r park).nv.regions[q] =
    if s.pulled r = true ∧ q = r then nvImage (s.closePull r park).table[q] (s.unwritten q) else s.nv.regions[q] := by
  cases hpulled : s.pulled r with
  | false => simp [s.closePull_of_not_pulled park hpulled]
  | true =>
    obtain ⟨p, hp⟩ := Option.ne_none_iff_exists'.1 (mt (s.pullOf_eq_none_iff r).1 (by simp [hpulled]))
    rw [s.closePull_of_pulled park hp, State.afterClosure_nv, State.afterClosure_table, State.mapEntry_nv_read,
      State.mapEntry_read]
    by_cases hq : q = r
    · simp [hq, State.unwritten, State.dropPull, State.mapCatchup, State.setCatchup]
    · simp [hq, State.dropPull, State.mapCatchup, State.setCatchup]

/-- The posts of a closed pull (R119): REGION_STALE in ACTIVE and ISOLATED. -/
theorem State.closePull_of_holds (s : State) (r : Region) (park : Bool) (h : s.out.fenceHolds) :
    (s.closePull r park).out.fence = s.out.fence
      ∧ (s.closePull r park).events = if s.pulled r && s.ctl.state.working then
          (match (s.closePull r park).table[r].copy with
            | .stale c => postTo s.events (.regionStale r c)
            | .current | .fetching _ => s.events)
        else s.events := by
  cases hpulled : s.pulled r with
  | false => simp [s.closePull_of_not_pulled park hpulled]
  | true =>
    obtain ⟨p, hp⟩ := Option.ne_none_iff_exists'.1 (mt (s.pullOf_eq_none_iff r).1 (by simp [hpulled]))
    obtain ⟨hfence, hevents⟩ := State.discardEntries_of_holds (s.dropPull r) _ (fun e he => (pullEntryOf_spared r e he).1) h
    rw [s.closePull_of_pulled park hp, State.afterClosure_eq]
    refine ⟨hfence, ?_⟩
    simp only [State.mapEntry_events, State.mapEntry_ctl, State.postStale_events, hevents, Bool.true_and]
    simp only [State.discardEntries_ctl_state]
    rfl

/-- The catch-up list and the parked set after a closure that lists the region (R110, R119). -/
theorem State.closePull_catchup (s : State) (r : Region) : (s.closePull r false).catchup =
    { s.catchup with
      pulls := s.catchup.pulls.filter (fun q => q.region != r)
      list := if s.pulled r && s.ctl.state.working then (if r ∈ s.catchup.list then s.catchup.list else s.catchup.list ++ [r])
        else s.catchup.list
      parked := if s.pulled r && s.ctl.state.working then dropBit s.catchup.parked r else s.catchup.parked } := by
  cases hpulled : s.pulled r with
  | false => simp [s.closePull_of_not_pulled false hpulled, s.pulls_filter_of_not_pulled hpulled]
  | true =>
    obtain ⟨p, hp⟩ := Option.ne_none_iff_exists'.1 (mt (s.pullOf_eq_none_iff r).1 (by simp [hpulled]))
    rw [s.closePull_of_pulled false hp, State.afterClosure_eq]
    simp only [State.mapEntry_ctl, State.discardEntries_ctl_state, Bool.true_and, State.listRegion_eq, State.mapEntry_catchup,
      State.discardEntries_catchup]
    by_cases hworking : s.ctl.state.working = true
    · rw [if_pos (by exact hworking), if_pos hworking, if_pos hworking]
      rfl
    · rw [if_neg (by exact hworking), if_neg hworking, if_neg hworking]
      rfl

theorem State.closePull_fenceHolds (s : State) (r : Region) (park : Bool) (h : s.out.fenceHolds) :
    (s.closePull r park).out.fenceHolds := by
  intro hopen
  rw [(s.closePull_of_holds r park h).1] at hopen
  rw [s.closePull_eq r park]
  exact removalAsked_inFence (fun e he => (pullEntryOf_spared r e (Bool.and_elim_right he)).1) (h hopen)

end Sys2Proof.Machine
end

section
/-! SUPPORT. A change of owner (R9, R11, R17): the former owner's part, the new owner's part, and the whole of it. -/

namespace Sys2Proof.Machine

-- One proof at a time: the proofs that wait for each other would hold the memory of the whole text.
set_option Elab.async false

/-! ### A WRITE turned away (R17, R61) -/

/-- A WRITE of `r` is taken and not yet granted the array. -/
def State.abandons (s : State) (r : Region) : Bool :=
  match s.port.state with
  | .working (.write w) => w.region == r && s.arb.op != some .hostWrite
  | _ => false

theorem State.abandons_of_write (s : State) {r : Region} {w : WriteWork} (hport : s.port.state = .working (.write w))
    (hr : w.region = r) (hop : s.arb.op ≠ some .hostWrite) : s.abandons r = true := by
  simp [State.abandons, hport, hr, hop]

theorem State.abandonWrite_eq (s : State) (r : Region) :
    s.abandonWrite r = if s.abandons r then s.releaseHold.answer 0x02 .notOwner [] else s := by
  rcases hport : s.port.state with _ | (_ | w | _ | _) | _
  case working.write => simp [State.abandonWrite, State.abandons, hport]
  all_goals simp [State.abandonWrite, State.abandons, hport]

theorem State.turnedAway_eq (s : State) (r : Region) (es : List OutEntry) :
    s.turnedAway r es = if s.abandons r then es.map (OutEntry.mapUpdate fun u => { u with held := false }) else es := by
  rcases hport : s.port.state with _ | (_ | w | _ | _) | _
  case working.write => simp [State.turnedAway, State.abandons, hport]
  all_goals simp [State.turnedAway, State.abandons, hport]

/-- A WRITE turned away, in the blocks that it touches. -/
theorem State.abandonWrite_blocks (s : State) (r : Region) : s.abandonWrite r = { s with
    port := { s.port with state := if s.abandons r then .answer ⟨0x02, .notOwner, []⟩ else s.port.state }
    out := { s.out with
      reserved := if s.abandons r then none else s.out.reserved
      entries := s.turnedAway r s.out.entries } } := by
  rw [s.abandonWrite_eq, s.turnedAway_eq]
  cases s.abandons r <;> rfl

theorem ArrayOp.droppedBy_eq_hostWrite_iff (ended : Region → Bool) (x : Option ArrayOp) :
    x.map (ArrayOp.droppedBy ended) = some .hostWrite ↔ x = some .hostWrite := by
  rcases x with _ | (_ | _ | _ | _ | _) <;> simp [ArrayOp.droppedBy]

/-- The end of a chunk read's record leaves whether a WRITE is turned away as it was. -/
theorem State.abandons_congr {s t : State} {ended : Region → Bool} (hport : t.port = s.port)
    (harb : t.arb = s.arbAfterServing ended) (r : Region) : t.abandons r = s.abandons r := by
  rw [State.abandons, State.abandons, hport, harb, s.arbAfterServing_eq]
  have hop : (s.arb.op.map (ArrayOp.droppedBy ended) != some .hostWrite) = (s.arb.op != some .hostWrite) := by
    rw [Bool.eq_iff_iff, bne_iff_ne, bne_iff_ne, ne_eq, ne_eq, ArrayOp.droppedBy_eq_hostWrite_iff]
  simp only [hop]

/-! ### The former owner's part (R11, R17) -/

theorem State.surrender_serving (s : State) (r : Region) :
    (s.surrender r).serving = s.serving.filter (fun v => v.region != r) := by
  rw [State.surrender, State.abandonWrite_serving, State.dropFront_serving, State.mapEntry_serving, s.endServing_serving]

theorem State.surrender_arb (s : State) (r : Region) :
    (s.surrender r).arb = s.arbAfterServing (fun q => s.served r && q == r) := by
  rw [State.surrender, State.abandonWrite_arb, State.dropFront_arb, State.mapEntry_arb, s.endServing_arb]

theorem State.surrender_events (s : State) (r : Region) : (s.surrender r).events = (s.endServing r).events := by
  rw [State.surrender, State.abandonWrite_events, State.dropFront_events, State.mapEntry_events]

theorem State.surrender_front (s : State) (r : Region) :
    (s.surrender r).roster.front = s.roster.front.filter (fun x => x != r) := by
  rw [State.surrender, State.abandonWrite_roster, State.dropFront, State.mapRoster, State.mapEntry_roster,
    State.endServing_roster]
  rfl

/-- A former owner's serving record ends before its WRITE is looked at, which leaves the WRITE as it was. -/
theorem State.surrender_abandons (s : State) (r : Region) :
    (((s.endServing r).mapEntry r RegionEntry.clearFlags).dropFront r).abandons r = s.abandons r :=
  State.abandons_congr (s.endServing_port r) (s.endServing_arb r) r

theorem State.surrender_port (s : State) (r : Region) : (s.surrender r).port =
    { s.port with state := if s.abandons r then .answer ⟨0x02, .notOwner, []⟩ else s.port.state } := by
  rw [State.surrender, State.abandonWrite_blocks, s.surrender_abandons]
  simp only [State.dropFront_port, State.mapEntry_port, State.endServing_port]

theorem State.surrender_out (s : State) (r : Region) : (s.surrender r).out = { s.out with
    entries := s.turnedAway r (removalAsked (fun x => s.served r && imageOf r x) s.out.entries)
    reserved := if s.abandons r then none else s.out.reserved
    fence := (s.endServing r).out.fence } := by
  rw [State.surrender, State.abandonWrite_blocks, State.turnedAway_eq, s.surrender_abandons, State.turnedAway_eq]
  simp only [State.dropFront_out, State.mapEntry_out]
  conv_lhs => rw [s.endServing_out r]

theorem State.surrender_table (s : State) (r q : Region) :
    (s.surrender r).table[q] = if q = r then s.table[r].clearFlags else s.table[q] := by
  rw [State.surrender, State.abandonWrite_table, State.dropFront_table, State.mapEntry_read, State.endServing_table,
    State.endServing_table]
  by_cases h : q = r
  · rw [if_pos h, if_pos h]
    rfl
  · rw [if_neg h, if_neg h, beq_false_of_ne h, Bool.and_false, Bool.not_false, Bool.and_true]

/-! ### A change of owner (R11) -/

/-- An entry that stays, marked for its discard where `hit` names it (R67). -/
def OutEntry.asked (hit : OutEntry → Bool) (x : OutEntry) : OutEntry :=
  if hit x = true ∧ x.doom = .none then { x with doom := .discard } else x

theorem removalAsked_eq (hit : OutEntry → Bool) (es : List OutEntry) :
    removalAsked hit es = (es.filter (fun x => !(hit x && !x.sending))).map (OutEntry.asked hit) := rfl

theorem OutEntry.asked_sending (hit : OutEntry → Bool) (x : OutEntry) : (x.asked hit).sending = x.sending := by
  unfold OutEntry.asked
  split <;> rfl

/-- A choice of entries that looks at neither their removal nor their sending is kept by a mark. -/
theorem OutEntry.asked_congr {p hit : OutEntry → Bool} (hdoom : ∀ (x : OutEntry) d, p { x with doom := d } = p x) (x : OutEntry) :
    p (x.asked hit) = p x := by
  unfold OutEntry.asked
  split
  · exact hdoom x _
  · rfl

theorem OutEntry.asked_asked {first second : OutEntry → Bool} (hdoom : ∀ (x : OutEntry) d, second { x with doom := d } = second x)
    (x : OutEntry) : (x.asked first).asked second = x.asked (fun x => first x || second x) := by
  by_cases hx : x.doom = .none <;> by_cases hf : first x = true <;> by_cases hs : second x = true <;>
    simp [OutEntry.asked, hx, hf, hs, hdoom]

/-- Two removals are one, where the second does not look at the removal asked for before. -/
theorem removalAsked_removalAsked {first second : OutEntry → Bool} (hdoom : ∀ (x : OutEntry) d, second { x with doom := d } = second x)
    (es : List OutEntry) : removalAsked second (removalAsked first es) = removalAsked (fun x => first x || second x) es := by
  simp only [removalAsked_eq, List.filter_map, List.map_map, List.filter_filter]
  have hstays : (fun x => ((fun x => !(second x && !x.sending)) ∘ OutEntry.asked first) x && !(first x && !x.sending))
      = fun x : OutEntry => !((first x || second x) && !x.sending) := by
    funext x
    simp only [Function.comp, OutEntry.asked_congr hdoom, OutEntry.asked_sending]
    cases first x <;> cases second x <;> cases x.sending <;> rfl
  rw [hstays]
  exact List.map_congr_left fun x _ => x.asked_asked hdoom

theorem State.isSelf_owner (s : State) (r : Region) : s.isSelf s.table[r].owner = s.owns r := by
  rw [State.isSelf, State.owns]
  cases s.table[r].owner <;> rfl

/-- A change of owner before the former and the new owner's parts: owner recorded, pull closed, parked region listed (R11). -/
def State.ownerHandedOn (s : State) (r : Region) (o : Option Owner) : State :=
  ((s.mapEntry r ({ · with owner := o })).closePull r false).unpark r

theorem State.changeOwner_of_change (s : State) (r : Region) (o : Option Owner)
    (h : s.table[r].owner.map (·.station) ≠ o.map (·.station)) :
    s.changeOwner r o = ((s.ownerHandedOn r o).partOld r (s.owns r)).partNew r (s.isSelf o) := by
  rw [State.changeOwner, if_neg h, s.isSelf_owner]
  rfl

theorem State.unpark_eq (s : State) (r : Region) : s.unpark r = s.setCatchup
    (if s.ctl.state.working && inMap s.catchup.parked r then (s.listRegion r).catchup else s.catchup) := by
  rw [State.unpark]
  cases s.ctl.state.working && inMap s.catchup.parked r <;> rfl

theorem State.ownerHandedOn_out (s : State) (r : Region) (o : Option Owner) : (s.ownerHandedOn r o).out = { s.out with
    entries := removalAsked (fun x => s.pulled r && pullEntryOf r x) s.out.entries
    fence := (s.ownerHandedOn r o).out.fence } := by
  rw [State.ownerHandedOn, State.unpark_out]
  conv_lhs => rw [State.closePull_out]
  rfl

theorem State.ownerHandedOn_table (s : State) (r : Region) (o : Option Owner) : (s.ownerHandedOn r o).table[r] =
    { s.table[r] with
      owner := o
      copy := match s.pullOf r with
        | some p => closedCopy p.taken s.table[r].copy
        | none => s.table[r].copy } := by
  have hpull : (s.mapEntry r ({ · with owner := o })).pullOf r = s.pullOf r := rfl
  rw [State.ownerHandedOn, State.unpark_table]
  cases hp : s.pullOf r with
  | none => rw [State.closePull, hpull, hp, State.mapEntry_read, if_pos rfl]
  | some p => rw [State.closePull_table _ _ (hpull.trans hp), if_pos rfl, State.mapEntry_read, if_pos rfl]

theorem State.ownerHandedOn_table_other (s : State) {r q : Region} (o : Option Owner) (h : q ≠ r) :
    (s.ownerHandedOn r o).table[q] = s.table[q] := by
  rw [State.ownerHandedOn, State.unpark_table, State.closePull_table_other _ _ h, State.mapEntry_read, if_neg h]

/-- The catch-up unit once a change of owner has been handed on (R11, R110, R119). -/
theorem State.ownerHandedOn_catchup (s : State) (r : Region) (o : Option Owner) : (s.ownerHandedOn r o).catchup =
    { s.catchup with
      pulls := s.catchup.pulls.filter (fun q => q.region != r)
      list := if s.ctl.state.working && (s.pulled r || inMap s.catchup.parked r) then
          (if r ∈ s.catchup.list then s.catchup.list else s.catchup.list ++ [r])
        else s.catchup.list
      parked := if s.ctl.state.working && (s.pulled r || inMap s.catchup.parked r) then dropBit s.catchup.parked r
        else s.catchup.parked } := by
  have hclosed := State.closePull_catchup (s.mapEntry r ({ · with owner := o })) r
  simp only [State.ownerHandedOn, State.unpark_eq, State.setCatchup, State.listRegion_eq, hclosed, State.closePull_ctl_state,
    State.mapEntry_ctl, State.mapEntry_catchup]
  have hpulled : (s.mapEntry r ({ · with owner := o })).pulled r = s.pulled r := rfl
  cases s.ctl.state.working <;> cases hp : s.pulled r <;> cases hpark : inMap s.catchup.parked r <;>
    simp [hpulled, hp, hpark]

/-- The posts of a change of owner: those of the pull that it closes (R119). -/
theorem State.ownerHandedOn_of_holds (s : State) (r : Region) (o : Option Owner) (h : s.out.fenceHolds) :
    (s.ownerHandedOn r o).out.fence = s.out.fence ∧ (s.ownerHandedOn r o).out.fenceHolds
      ∧ (s.ownerHandedOn r o).events = if s.pulled r && s.ctl.state.working then
          (match (s.ownerHandedOn r o).table[r].copy with
            | .stale c => postTo s.events (.regionStale r c)
            | .current | .fetching _ => s.events)
        else s.events := by
  obtain ⟨hfence, hevents⟩ := State.closePull_of_holds (s.mapEntry r ({ · with owner := o })) r false h
  refine ⟨?_, ?_, ?_⟩
  · rw [State.ownerHandedOn, State.unpark_out]
    exact hfence
  · rw [State.ownerHandedOn, State.unpark_out]
    exact State.closePull_fenceHolds _ r false h
  · rw [State.ownerHandedOn, State.unpark_table, State.unpark_events]
    exact hevents

theorem State.partNew_table (s : State) (r q : Region) (self : Bool) : (s.partNew r self).table[q] =
    if q = r ∧ self = true then { s.table[r].clearFlags with held := true } else s.table[q] := by
  cases self with
  | false => simp [State.partNew]
  | true =>
    rw [State.partNew, if_pos rfl, State.assume, State.mapEntry_read]
    simp only [and_true]

theorem State.partOld_table (s : State) (r q : Region) (self : Bool) : (s.partOld r self).table[q] =
    if q = r ∧ self = true then s.table[r].clearFlags else s.table[q] := by
  cases self with
  | false => simp [State.partOld]
  | true =>
    rw [State.partOld, if_pos rfl, State.surrender_table]
    simp only [and_true]

theorem State.partOld_of_not (s : State) (r : Region) : s.partOld r false = s := rfl

theorem State.partOld_of_self (s : State) (r : Region) : s.partOld r true = s.surrender r := rfl

/-- The entry of a region whose owner changes (R11, R13, R17, R119). -/
theorem State.changeOwner_table (s : State) (r : Region) (o : Option Owner)
    (h : s.table[r].owner.map (·.station) ≠ o.map (·.station)) :
    (s.changeOwner r o).table[r].owner = o
      ∧ (s.changeOwner r o).table[r].copy = (match s.pullOf r with
        | some p => closedCopy p.taken s.table[r].copy
        | none => s.table[r].copy)
      ∧ (s.changeOwner r o).table[r].held = (s.table[r].held || s.isSelf o)
      ∧ (s.owns r = true ∨ s.isSelf o = true → (s.changeOwner r o).table[r].yieldReady = false
        ∧ (s.changeOwner r o).table[r].votePending = false ∧ (s.changeOwner r o).table[r].writeHold = false) := by
  rw [s.changeOwner_of_change r o h, State.partNew_table, State.partOld_table, State.ownerHandedOn_table]
  cases s.isSelf o <;> cases s.owns r <;> simp [RegionEntry.clearFlags]

theorem State.changeOwner_table_other (s : State) {r q : Region} (o : Option Owner) (h : q ≠ r) :
    (s.changeOwner r o).table[q] = s.table[q] := by
  by_cases hchange : s.table[r].owner.map (·.station) = o.map (·.station)
  · rw [State.changeOwner, if_pos hchange, State.mapEntry_read, if_neg h]
  · rw [s.changeOwner_of_change r o hchange, State.partNew_table, if_neg (fun e => h e.1), State.partOld_table,
      if_neg (fun e => h e.1), s.ownerHandedOn_table_other o h]

theorem State.ownerHandedOn_abandons (s : State) (r q : Region) (o : Option Owner) :
    (s.ownerHandedOn r o).abandons q = s.abandons q := by
  rw [State.abandons, State.abandons, State.ownerHandedOn, State.unpark_port, State.closePull_port, State.unpark_arb,
    State.closePull_arb]
  rfl

theorem State.ownerHandedOn_turnedAway (s : State) (r q : Region) (o : Option Owner) (es : List OutEntry) :
    (s.ownerHandedOn r o).turnedAway q es = s.turnedAway q es := by
  rw [State.turnedAway_eq, State.turnedAway_eq, s.ownerHandedOn_abandons]

/-- The Outbox after a change of owner, but for its fence (R11, R119, R127, R17). -/
theorem State.changeOwner_out (s : State) (r : Region) (o : Option Owner)
    (h : s.table[r].owner.map (·.station) ≠ o.map (·.station)) :
    (s.changeOwner r o).out.entries = (if s.owns r = true then
        s.turnedAway r (removalAsked (fun x => (s.pulled r && pullEntryOf r x) || (s.served r && imageOf r x)) s.out.entries)
      else removalAsked (fun x => s.pulled r && pullEntryOf r x) s.out.entries)
    ∧ (s.changeOwner r o).out.reserved = (if s.owns r && s.abandons r then none else s.out.reserved)
    ∧ (s.changeOwner r o).out.hostClaim = s.out.hostClaim ∧ (s.changeOwner r o).out.sweep = s.out.sweep := by
  rw [s.changeOwner_of_change r o h, State.partNew_out]
  cases s.owns r with
  | false =>
    rw [State.partOld_of_not, s.ownerHandedOn_out r o]
    simp
  | true =>
    have hserved : (s.ownerHandedOn r o).served r = s.served r := by
      rw [State.served, State.ownerHandedOn, State.unpark_serving, State.closePull_serving]
      rfl
    rw [State.partOld_of_self, State.surrender_out, s.ownerHandedOn_out r o]
    simp only [State.ownerHandedOn_turnedAway, State.ownerHandedOn_abandons, hserved]
    rw [removalAsked_removalAsked (fun x d => by cases x; rfl)]
    simp

theorem State.changeOwner_serving (s : State) (r : Region) (o : Option Owner)
    (h : s.table[r].owner.map (·.station) ≠ o.map (·.station)) : (s.changeOwner r o).serving =
      if s.owns r = true then s.serving.filter (fun v => v.region != r) else s.serving := by
  have hsame : (s.ownerHandedOn r o).serving = s.serving := by
    rw [State.ownerHandedOn, State.unpark_serving, State.closePull_serving, State.mapEntry_serving]
  rw [s.changeOwner_of_change r o h, State.partNew_serving]
  cases s.owns r with
  | false => exact hsame
  | true => rw [State.partOld_of_self, State.surrender_serving, hsame, if_pos rfl]

theorem State.changeOwner_arb (s : State) (r : Region) (o : Option Owner)
    (h : s.table[r].owner.map (·.station) ≠ o.map (·.station)) :
    (s.changeOwner r o).arb = s.arbAfterServing (fun q => s.owns r && s.served r && q == r) := by
  have hsame : (s.ownerHandedOn r o).arb = s.arb ∧ (s.ownerHandedOn r o).serving = s.serving := by
    rw [State.ownerHandedOn, State.unpark_serving, State.closePull_serving, State.mapEntry_serving, State.unpark_arb,
      State.closePull_arb, State.mapEntry_arb]
    exact ⟨rfl, rfl⟩
  rw [s.changeOwner_of_change r o h, State.partNew_arb]
  cases s.owns r with
  | false =>
    rw [State.partOld_of_not, hsame.1, s.arbAfterServing_of_none]
    simp
  | true =>
    rw [State.partOld_of_self, State.surrender_arb, State.arbAfterServing_eq, State.arbAfterServing_eq, State.served, hsame.1,
      hsame.2]
    rfl

theorem State.changeOwner_catchup (s : State) (r : Region) (o : Option Owner)
    (h : s.table[r].owner.map (·.station) ≠ o.map (·.station)) :
    (s.changeOwner r o).catchup = (s.ownerHandedOn r o).catchup := by
  rw [s.changeOwner_of_change r o h, State.partNew_catchup, State.partOld_catchup]

/-- The posts of a change of owner, and its fence, where an open fence has an entry. -/
theorem State.changeOwner_of_holds (s : State) (r : Region) (o : Option Owner)
    (h : s.table[r].owner.map (·.station) ≠ o.map (·.station)) (hfence : s.out.fenceHolds) :
    (s.changeOwner r o).out.fence = s.out.fence ∧ (s.changeOwner r o).events = (s.ownerHandedOn r o).events := by
  obtain ⟨hsame, hholds, -⟩ := s.ownerHandedOn_of_holds r o hfence
  rw [s.changeOwner_of_change r o h, State.partNew_out, State.partNew_events]
  cases s.owns r with
  | false => exact ⟨hsame, rfl⟩
  | true =>
    obtain ⟨hend, hevents⟩ := State.endServing_of_holds _ r hholds
    rw [State.partOld_of_self, State.surrender_out, State.surrender_events]
    exact ⟨hend.trans hsame, hevents⟩

/-- The Host Port and the front list of a former owner (R17, R52). -/
theorem State.changeOwner_of_owner (s : State) (r : Region) (o : Option Owner)
    (h : s.table[r].owner.map (·.station) ≠ o.map (·.station)) (howns : s.owns r = true) :
    (s.changeOwner r o).roster.front = s.roster.front.filter (fun x => x != r)
      ∧ (s.changeOwner r o).port = { s.port with
        state := if s.abandons r then .answer ⟨0x02, .notOwner, []⟩ else s.port.state } := by
  rw [s.changeOwner_of_change r o h, State.partNew_roster, State.partNew_port, howns, State.partOld_of_self,
    State.surrender_front, State.surrender_port, s.ownerHandedOn_abandons, State.ownerHandedOn, State.unpark_roster,
    State.unpark_port, State.closePull_roster, State.closePull_port, State.mapEntry_roster, State.mapEntry_port]
  exact ⟨rfl, rfl⟩

end Sys2Proof.Machine
end

section
/-! SUPPORT. Owner learning (R10) and the handing on of a change of owner (R11). -/

namespace Sys2Proof.Machine

-- One proof at a time: the proofs that wait for each other would hold the memory of the whole text.
set_option Elab.async false

theorem State.learnOwner_of_known (s : State) {r : Region} {o : Station} {e : Epoch} {w : Owner} (h : s.table[r].owner = some w) :
    s.learnOwner r o e = if s.statusOf w.station = .absent ∨ w.epoch.toNat < e.toNat then s.changeOwner r (some ⟨o, e⟩) else s := by
  simp only [State.learnOwner, State.learns, h, Bool.or_eq_true, beq_iff_eq, decide_eq_true_eq]

/-- The removal that a change of owner asks for, in one choice of entries (R119, R127). -/
theorem changeOwner_hits (pulled served : Bool) (r : Region) :
    (fun x => (pulled && pullEntryOf r x) || (served && imageOf r x))
      = fun x : OutEntry => x.region == r && ((x.isPull && pulled) || (x.isImage && served)) := by
  funext x
  rw [pullEntryOf, imageOf]
  cases pulled <;> cases served <;> cases x.isPull <;> cases x.isImage <;> simp

/-- An entry that a removal names and that stays is SENDING, marked for its removal. -/
theorem sending_of_mem_removalAsked {hit : OutEntry → Bool} (hdoom : ∀ (x : OutEntry) d, hit { x with doom := d } = hit x)
    {es : List OutEntry} {x : OutEntry} (hx : x ∈ removalAsked hit es) (hhit : hit x = true) :
    x.sending = true ∧ x.doom ≠ .none := by
  rw [removalAsked_eq] at hx
  obtain ⟨y, hy, rfl⟩ := List.mem_map.1 hx
  rw [OutEntry.asked_congr hdoom] at hhit
  have hstays := (List.mem_filter.1 hy).2
  refine ⟨by simpa [OutEntry.asked_sending, hhit] using hstays, ?_⟩
  by_cases hd : y.doom = .none <;> simp [OutEntry.asked, hhit, hd]

/-- A WRITE turned away changes the holds on UPDATE entries alone. -/
theorem State.mem_turnedAway (s : State) {r : Region} {es : List OutEntry} {x : OutEntry} (hx : x ∈ s.turnedAway r es) :
    ∃ y ∈ es, x = y ∨ x = y.mapUpdate fun u => { u with held := false } := by
  rw [State.turnedAway_eq] at hx
  split at hx
  next => 
    obtain ⟨y, hy, rfl⟩ := List.mem_map.1 hx
    exact ⟨y, hy, .inr rfl⟩
  next => exact ⟨x, hx, .inl rfl⟩

theorem OutEntry.mapUpdate_of_pull {e : OutEntry} (f : UpdateEntry → UpdateEntry) (h : (e.mapUpdate f).isPull = true) :
    e.mapUpdate f = e := by
  rcases e with ⟨r, _ | _ | _ | _, sending, doom⟩ <;> first | rfl | cases h

theorem State.changeOwner_ctl (s : State) (r : Region) (o : Option Owner) : (s.changeOwner r o).ctl = s.ctl := by
  by_cases h : s.table[r].owner.map (·.station) = o.map (·.station)
  · rw [State.changeOwner, if_pos h, State.mapEntry_ctl]
  have hhanded : (s.ownerHandedOn r o).ctl = s.ctl := by
    rw [State.ownerHandedOn, State.unpark_ctl]
    conv_lhs => rw [State.closePull_eq]
    rfl
  rw [s.changeOwner_of_change r o h, State.partNew_ctl]
  cases s.owns r with
  | false => exact hhanded
  | true =>
    rw [State.partOld_of_self, State.surrender, State.abandonWrite_blocks]
    simp only [State.dropFront_ctl, State.mapEntry_ctl]
    rw [State.endServing_eq]
    exact hhanded

/-- A PULL entry that stays over a closed pull of its region is SENDING, marked for its discard (R119). -/
theorem State.changeOwner_pullEntry (s : State) {r : Region} {o : Option Owner}
    (h : s.table[r].owner.map (·.station) ≠ o.map (·.station)) (hpull : s.pulled r = true) {x : OutEntry}
    (hx : x ∈ (s.changeOwner r o).out.entries) (hkind : x.isPull = true) (hr : x.region = r) :
    x.sending = true ∧ x.doom ≠ .none := by
  have hhit : pullEntryOf r x = true := by simp [pullEntryOf, hkind, hr]
  rw [(s.changeOwner_out r o h).1] at hx
  split at hx
  next =>
    obtain ⟨y, hy, rfl | rfl⟩ := s.mem_turnedAway hx
    · exact sending_of_mem_removalAsked (fun x d => by cases x; rfl) hy (by rw [hpull, hhit]; rfl)
    · rw [OutEntry.mapUpdate_of_pull _ hkind] at hhit ⊢
      exact sending_of_mem_removalAsked (fun x d => by cases x; rfl) hy (by rw [hpull, hhit]; rfl)
  next => exact sending_of_mem_removalAsked (fun x d => by cases x; rfl) hx (by rw [hpull, hhit]; rfl)

theorem State.station_of_isSelf (s : State) {o : Option Owner} (h : s.isSelf o = true) : o.map (·.station) = some s.own := by
  obtain _ | w := o
  · cases h
  · simpa [State.isSelf] using h

/-- Settles O31: `State.learns` case by case, and the change of owner block by block. -/
theorem ownerLearningAndChange : Obligations.OwnerLearningAndChange := by
  refine ⟨fun s r o e _ => ⟨fun hnone => ?_, fun w hw => ⟨fun hlearn => ?_, fun hstatus hepoch => ?_⟩⟩,
    fun s r o => ⟨fun hsame => ?_, fun hchange => ?_⟩⟩
  · simp only [State.learnOwner, State.learns, hnone, if_true]
  · rw [s.learnOwner_of_known hw, if_pos hlearn]
  · rw [s.learnOwner_of_known hw, if_neg (not_or.2 ⟨hstatus, Nat.not_lt.2 hepoch⟩)]
  · rw [State.changeOwner, if_pos hsame, State.mapEntry]
  obtain ⟨howner, hcopy, hheld, hflags⟩ := s.changeOwner_table r o hchange
  obtain ⟨hentries, hreserved, hhost, hsweep⟩ := s.changeOwner_out r o hchange
  have hcatchup := (s.changeOwner_catchup r o hchange).trans (s.ownerHandedOn_catchup r o)
  have hkept := State.changeOwner_of_holds s r o hchange
  have hevents (hf : s.out.fenceHolds) := (hkept hf).2.trans (s.ownerHandedOn_of_holds r o hf).2.2
  have hhanded := s.ownerHandedOn_table r o
  refine ⟨_, rfl, fun hf => (hkept hf).1, howner, s.changeOwner_stamp r o r r.isLt, ?noPull, fun q hq => s.changeOwner_table_other o hq,
    fun hnone => ⟨?copyKept, fun hf => ?noPost⟩, fun p k hp hk => ⟨?copyClosed, fun hf hst => ?posted, fun hf hact hiso => ?notPosted⟩,
    ?pulls, ⟨?entries, ?serving, ?arb, hhost, hsweep⟩, fun hpull => ?leaving, fun hst hpull => ?listed, fun hnot => ?notListed,
    fun howns => ?former, fun w hw hself => ?new, s.changeOwner_ctl r o, s.changeOwner_line r o, s.changeOwner_applyQ r o,
    s.changeOwner_nv_array r o⟩
  case noPull =>
    rw [State.pullOf_eq_none_iff, State.pulled, hcatchup]
    simp
  case copyKept => rw [hcopy, hnone]
  case noPost => rw [hevents hf, (s.pullOf_eq_none_iff r).1 hnone]; simp
  case copyClosed => rw [hcopy, hp, hk]; rfl
  case posted =>
    have hpulled : s.pulled r = true := by rw [← s.pullOf_isSome, hp]; rfl
    rw [hevents hf, hpulled, (StationState.working_iff _).2 hst, hhanded, hp, hk]
    rfl
  case notPosted =>
    rw [hevents hf, (StationState.working_eq_false_iff _).2 ⟨hact, hiso⟩]
    simp
  case pulls => rw [hcatchup]
  case entries =>
    rw [hentries, s.pullOf_isSome, ← changeOwner_hits]
    cases s.owns r <;> simp [State.served]
  case serving => rw [s.changeOwner_serving r o hchange]
  case arb => exact s.changeOwner_arb r o hchange
  case leaving =>
    have hpulled : s.pulled r = true := by rw [← s.pullOf_isSome]; exact Option.isSome_iff_ne_none.2 hpull
    exact fun x => s.changeOwner_pullEntry hchange hpulled
  case listed =>
    have hlists : (s.ctl.state.working && (s.pulled r || inMap s.catchup.parked r)) = true := by
      rw [(StationState.working_iff _).2 hst, Bool.true_and, Bool.or_eq_true, ← s.pullOf_isSome, Option.isSome_iff_ne_none]
      exact hpull
    rw [hcatchup, if_pos hlists, if_pos hlists]
    exact ⟨rfl, rfl⟩
  case notListed =>
    have hlists : (s.ctl.state.working && (s.pulled r || inMap s.catchup.parked r)) = false := by
      rcases hnot with hst | ⟨hnone, hpark⟩
      · rw [(StationState.working_eq_false_iff _).2 hst, Bool.false_and]
      · rw [(s.pullOf_eq_none_iff r).1 hnone, hpark, Bool.or_self, Bool.and_false]
    rw [hcatchup, hlists]
    exact ⟨rfl, rfl⟩
  case former =>
    obtain ⟨hyield, hvote, hhold⟩ := hflags (.inl howns)
    obtain ⟨hfront, hport⟩ := State.changeOwner_of_owner s r o hchange howns
    have hself : s.isSelf o = false := by
      rw [← s.isSelf_owner] at howns
      by_contra hnew
      refine hchange ?_
      rw [s.station_of_isSelf howns, s.station_of_isSelf (by simpa using hnew)]
    refine ⟨hyield, hvote, hhold, by rw [hheld, hself, Bool.or_false], by rw [hfront]; simp, fun w hw hr hop => ?_⟩
    have haway := s.abandons_of_write hw hr hop
    rw [hport, hreserved, howns, haway]
    exact ⟨rfl, rfl⟩
  case new =>
    have hown : s.isSelf o = true := by rw [hw]; simp [State.isSelf, hself]
    obtain ⟨hyield, hvote, hhold⟩ := hflags (.inr hown)
    exact ⟨by rw [hheld, hown, Bool.or_true], hyield, hvote, hhold⟩

end Sys2Proof.Machine
end

section
/-! SUPPORT. Conflict resolution (R106 to R108): the Outbox, the fence and the posts of a loser. -/

namespace Sys2Proof.Machine

-- One proof at a time: the proofs that wait for each other would hold the memory of the whole text.
set_option Elab.async false

/-! ### The discard of a region's entries (R108) -/

/-- An UPDATE entry without the hold of a WRITE turned away (R61). -/
def OutEntry.released (x : OutEntry) : OutEntry := x.mapUpdate fun u => { u with held := false }

/-- An entry without its hold: what a discard looks at stands. -/
theorem OutEntry.released_fields (x : OutEntry) : x.released.region = x.region ∧ x.released.sending = x.sending
    ∧ x.released.doom = x.doom ∧ x.released.inFence = x.inFence ∧ x.released.isHost = x.isHost
    ∧ x.released.isSweep = x.isSweep ∧ ∀ d, ({ x with doom := d } : OutEntry).released = { x.released with doom := d } := by
  rcases x with ⟨r, u | _ | _ | _, sending, doom⟩ <;> exact ⟨rfl, rfl, rfl, rfl, rfl, rfl, fun d => rfl⟩

theorem State.turnedAway_released (s : State) (r : Region) (es : List OutEntry) :
    s.turnedAway r es = es.map (fun x => if s.abandons r then x.released else x) := by
  rw [s.turnedAway_eq]
  cases s.abandons r
  · exact (List.map_id es).symm
  · rfl

/-- A removal by region goes through a change of the entries that keeps what it looks at. -/
theorem removalAsked_map {f : OutEntry → OutEntry} {r : Region} (hregion : ∀ x, (f x).region = x.region)
    (hsending : ∀ x, (f x).sending = x.sending) (hdoom : ∀ x, (f x).doom = x.doom)
    (hmark : ∀ (x : OutEntry) d, f { x with doom := d } = { f x with doom := d }) (es : List OutEntry) :
    removalAsked (fun x => x.region == r) (es.map f) = (removalAsked (fun x => x.region == r) es).map f := by
  simp only [removalAsked_eq, List.filter_map, List.map_map]
  have hstays : ((fun x : OutEntry => !(x.region == r && !x.sending)) ∘ f) = fun x => !(x.region == r && !x.sending) := by
    funext x
    simp only [Function.comp, hregion, hsending]
  rw [hstays]
  refine List.map_congr_left fun x _ => ?_
  by_cases hx : (x.region == r) = true ∧ x.doom = .none
  · rw [Function.comp, Function.comp, OutEntry.asked, OutEntry.asked, if_pos hx, if_pos (by rwa [hregion, hdoom])]
    exact (hmark x _).symm
  · rw [Function.comp, Function.comp, OutEntry.asked, OutEntry.asked, if_neg hx, if_neg (by rwa [hregion, hdoom])]

theorem removalAsked_turnedAway (s : State) (r : Region) (es : List OutEntry) :
    removalAsked (fun x => x.region == r) (s.turnedAway r es) = s.turnedAway r (removalAsked (fun x => x.region == r) es) := by
  rw [s.turnedAway_released, s.turnedAway_released]
  cases s.abandons r with
  | false => exact removalAsked_map (fun _ => rfl) (fun _ => rfl) (fun _ => rfl) (fun _ _ => rfl) es
  | true =>
    exact removalAsked_map (fun x => x.released_fields.1) (fun x => x.released_fields.2.1) (fun x => x.released_fields.2.2.1)
      (fun x => x.released_fields.2.2.2.2.2.2) es

/-- The removal of a region's entries takes those that a removal of some of them left. -/
theorem removalAsked_region_of_sub {hit : OutEntry → Bool} {r : Region} (hsub : ∀ x, hit x = true → x.region = r)
    (es : List OutEntry) :
    removalAsked (fun x => x.region == r) (removalAsked hit es) = removalAsked (fun x => x.region == r) es := by
  rw [removalAsked_removalAsked (fun x d => rfl)]
  congr 1
  funext x
  cases hx : hit x with
  | false => rw [Bool.false_or]
  | true => simp [hsub x hx]

/-- A removal leaves the number of entries that it spares. -/
theorem countP_removalAsked_of_spared {hit q : OutEntry → Bool} (hdoom : ∀ (x : OutEntry) d, q { x with doom := d } = q x)
    (hspared : ∀ x, hit x = true → q x = false) (es : List OutEntry) :
    (removalAsked hit es).countP q = es.countP q := by
  rw [removalAsked_eq, List.countP_map, List.countP_filter]
  refine List.countP_congr fun x _ => ?_
  simp only [Function.comp, OutEntry.asked_congr hdoom]
  cases hx : hit x with
  | false => simp
  | true => simp [hspared x hx]

/-! ### The posts of a mark (R6) -/

/-- The STALE mark posts what changes in ACTIVE, ISOLATED and LISTENING (R6). -/
theorem State.markStale_events (s : State) (r : Region) (c : Cause)
    (h : s.table[r].copy = .current ∨ s.table[r].copy = .stale .behind ∧ c = .damaged) :
    (s.markStale r c).events = if s.ctl.state = .active ∨ s.ctl.state = .isolated ∨ s.ctl.state = .listening
      then postTo s.events (.regionStale r c) else s.events := by
  rw [s.markStale_of_changes r c h, State.reportMark]
  cases hst : s.ctl.state <;> simp [State.setEntry, StationState.working, State.post, State.setEvents, hst, State.listRegion_eq]

theorem State.markStale_table (s : State) (r q : Region) (c : Cause) : (s.markStale r c).table[q] =
    if q = r then { s.table[r] with copy := markedCopy s.table[r].copy c } else s.table[q] := by
  by_cases h : s.table[r].copy = .current ∨ s.table[r].copy = .stale .behind ∧ c = .damaged
  · rw [s.markStale_of_changes r c h, State.reportMark_table, (markedCopy_of_changes h).1]
    exact s.mapEntry_read r q (fun e => { e with copy := .stale c })
  · rw [s.markStale_of_not_changes r c h, State.unpark_table, markedCopy_of_not_changes h]
    split
    next hq => rw [hq]
    next => rfl

/-! ### The loser of conflict resolution (R108) -/

/-- The loser's region, Outbox and posts are those of the change of owner and of the discard of the region's entries, then held
dropped, the mark, and OWNERSHIP_LOST. -/
def State.givenUp (s : State) (r : Region) (o : Station) (stamp : Stamp) : State :=
  (s.changeOwner r (some ⟨o, stamp.epoch⟩)).discardEntries (fun e => e.region == r) false

theorem State.loseConflict_eq (s : State) (r : Region) (o : Station) (stamp : Stamp) :
    s.loseConflict r o stamp = (((s.givenUp r o stamp).dropHeld r).markStale r .damaged).post (.ownershipLost r true) := rfl

/-- At the owner, the entries that a change of owner leaves, and the region's entries once they are discarded (R108). -/
theorem State.givenUp_entries (s : State) (r : Region) (o : Station) (stamp : Stamp)
    (h : s.table[r].owner.map (·.station) ≠ some o) (howns : s.owns r = true) :
    (s.givenUp r o stamp).out.entries = s.turnedAway r (removalAsked (fun x => x.region == r) s.out.entries) := by
  have hsub (x : OutEntry) (hx : ((s.pulled r && pullEntryOf r x) || (s.served r && imageOf r x)) = true) : x.region = r := by
    rw [Bool.or_eq_true, Bool.and_eq_true, Bool.and_eq_true, pullEntryOf, imageOf, Bool.and_eq_true, Bool.and_eq_true] at hx
    rcases hx with ⟨-, -, hx⟩ | ⟨-, -, hx⟩ <;> simpa using hx
  rw [State.givenUp, State.discardEntries_eq]
  simp only [Outbox.discarded, keptEntries_eq_removalAsked]
  rw [(s.changeOwner_out r (some ⟨o, stamp.epoch⟩) h).1, if_pos howns, removalAsked_turnedAway, removalAsked_region_of_sub hsub]

/-- The in-fence entries that a change of owner leaves WAITING for a region are those that waited there before. -/
theorem State.changeOwner_lost (s : State) (r : Region) (o : Option Owner)
    (h : s.table[r].owner.map (·.station) ≠ o.map (·.station)) :
    ((s.changeOwner r o).out.entries.filter (goesNow fun x => x.region == r)).countP OutEntry.inFence
      = (s.out.entries.filter (fun x => x.region == r && !x.sending && x.inFence)).length := by
  let lost := fun x : OutEntry => x.region == r && !x.sending && x.inFence
  have hsplit (es : List OutEntry) :
      (es.filter (goesNow fun x => x.region == r)).countP OutEntry.inFence = es.countP lost := by
    rw [List.countP_filter]
    refine List.countP_congr fun x _ => ?_
    simp only [lost, goesNow, Bool.and_comm]
  have hspared (a b : Bool) (x : OutEntry) (hx : ((a && pullEntryOf r x) || (b && imageOf r x)) = true) : lost x = false := by
    have hin : x.inFence = false := by
      rw [Bool.or_eq_true, Bool.and_eq_true, Bool.and_eq_true] at hx
      rcases hx with ⟨-, hx⟩ | ⟨-, hx⟩
      · exact (pullEntryOf_spared r x hx).1
      · exact (imageOf_spared r x hx).1
    simp only [lost, hin, Bool.and_false]
  have hdoom (x : OutEntry) (d : Doom) : lost { x with doom := d } = lost x := rfl
  have haway (es : List OutEntry) : (s.turnedAway r es).countP lost = es.countP lost := by
    rw [s.turnedAway_released, List.countP_map]
    refine List.countP_congr fun x _ => ?_
    obtain ⟨hregion, hsending, -, hin, -⟩ := x.released_fields
    cases s.abandons r
    · rfl
    · simp only [lost, Function.comp, if_true, hregion, hsending, hin]
  rw [hsplit, ← List.countP_eq_length_filter, (s.changeOwner_out r o h).1]
  split
  · rw [haway, countP_removalAsked_of_spared hdoom (hspared _ _)]
  · exact countP_removalAsked_of_spared hdoom (fun x hx => hspared (s.pulled r) false x (by rw [hx]; rfl)) _

/-- The fence and the posts of the loser's discards: the in-fence entries lost, and the completion (R81, R84). -/
theorem State.givenUp_fence (s : State) (r : Region) (o : Station) (stamp : Stamp)
    (h : s.table[r].owner.map (·.station) ≠ some o) (hfence : s.out.fenceHolds) :
    let lost := (s.out.entries.filter (fun x => x.region == r && !x.sending && x.inFence)).length
    let held := (s.givenUp r o stamp).out.entries.any OutEntry.inFence
    (s.givenUp r o stamp).out.fence
        = (if held then s.out.fence.map (fun x => { x with lost := x.lost + lost }) else none)
      ∧ (s.givenUp r o stamp).events = ((match s.out.fence with
        | some x => if held then [] else [.fenceDone x.missing (x.lost + lost)]
        | none => [] : List Event).foldl postTo (s.changeOwner r (some ⟨o, stamp.epoch⟩)).events) := by
  intro lost held
  have hdiscard := (s.changeOwner r (some ⟨o, stamp.epoch⟩)).discardEntries_eq (fun e => e.region == r) false
  have hcount := s.changeOwner_lost r (some ⟨o, stamp.epoch⟩) h
  have hkept := (s.changeOwner_of_holds r (some ⟨o, stamp.epoch⟩) h hfence).1
  have hleft : ((s.changeOwner r (some ⟨o, stamp.epoch⟩)).out.discarded (fun e => e.region == r) false).fence
      = s.out.fence.map (fun x => { x with lost := x.lost + lost }) := by
    simp only [Outbox.discarded, Outbox.withoutAll, hcount, hkept]
    rfl
  have hentries : ((s.changeOwner r (some ⟨o, stamp.epoch⟩)).out.discarded (fun e => e.region == r) false).entries
      = (s.givenUp r o stamp).out.entries := by rw [State.givenUp, hdiscard]
  constructor
  · rw [State.givenUp, hdiscard]
    simp only [Outbox.fenceLeft, hleft, hentries]
    rfl
  · rw [State.givenUp, hdiscard]
    simp only [Outbox.fencePosts, hleft, hentries]
    cases s.out.fence <;> rfl

theorem State.events_post (s : State) (e : Event) : (s.post e).events = postTo s.events e := rfl

theorem State.discardEntries_ctl_of_uncut (s : State) (p : OutEntry → Bool) : (s.discardEntries p false).ctl = s.ctl := by
  rw [State.discardEntries_eq]
  rfl

theorem State.addFront_eq (s : State) (r : Region) : s.addFront r = { s with roster := { s.roster with
    front := if r ∈ s.roster.front ∨ 4 ≤ s.roster.front.length then s.roster.front else s.roster.front ++ [r] } } := by
  simp only [State.addFront, State.mapRoster, State.setRoster, Bool.or_eq_true, List.contains_iff_mem, decide_eq_true_eq]
  rfl

theorem not_stampLower_self (a : Stamp) : stampLower a a = false := by
  simp [stampLower]

theorem stampLower_asymm {a b : Stamp} (h : stampLower a b = true) : stampLower b a = false := by
  simp only [stampLower, Bool.or_eq_true, Bool.and_eq_true, decide_eq_true_eq, beq_iff_eq] at h
  rcases h with h | ⟨he, hv⟩
  · have hne : b.epoch ≠ a.epoch := fun e => by rw [e] at h; exact Nat.lt_irrefl _ h
    simp [stampLower, Nat.lt_asymm h, hne]
  · simp [stampLower, he, Nat.lt_asymm hv]

/-- Settles O32: the winner by `State.addFront`, the loser's blocks by the change of owner and the discard. -/
theorem conflictResolution : Obligations.ConflictResolution := by
  intro s r o stamp howns hother own
  refine ⟨fun hwins => ?_, fun hloses => ?_⟩
  · have hwin : s.winsConflict r o stamp = true := by
      rcases hwins with hlower | ⟨heq, hnumber⟩
      · simp only [State.winsConflict]; rw [show stampLower stamp s.table[r].stamp = true from hlower, Bool.true_or]
      · simp only [State.winsConflict]; rw [show stamp = s.table[r].stamp from heq]; simp [hnumber]
    rw [State.resolveConflict, hwin, if_pos rfl, s.addFront_eq]
  have hlose : s.winsConflict r o stamp = false := by
    rcases hloses with hlower | ⟨heq, hnumber⟩
    · have hne : (stamp == s.table[r].stamp) = false := by
        rw [beq_eq_false_iff_ne]
        intro heq
        rw [show own = s.table[r].stamp from rfl, ← heq, not_stampLower_self] at hlower
        cases hlower
      rw [State.winsConflict, hne, show stampLower stamp s.table[r].stamp = false from stampLower_asymm hlower]
      rfl
    · rw [State.winsConflict, show stamp = s.table[r].stamp from heq, not_stampLower_self]
      simp [Nat.not_lt.2 (Nat.le_of_lt hnumber)]
  have hchange : s.table[r].owner.map (·.station) ≠ some o := by
    rw [← s.isSelf_owner] at howns
    rw [s.station_of_isSelf howns]
    exact fun e => hother (Option.some.inj e).symm
  obtain ⟨howner, hcopy, hheld, hflags⟩ := s.changeOwner_table r (some ⟨o, stamp.epoch⟩) hchange
  obtain ⟨hyield, hvote, hhold⟩ := hflags (.inl howns)
  obtain ⟨hfront, hport⟩ := State.changeOwner_of_owner s r (some ⟨o, stamp.epoch⟩) hchange howns
  have hentries := s.givenUp_entries r o stamp hchange howns
  have hstamp := s.changeOwner_stamp r (some ⟨o, stamp.epoch⟩) r r.isLt
  have htable (q : Region) : (s.loseConflict r o stamp).table[q] = if q = r
      then { (s.changeOwner r (some ⟨o, stamp.epoch⟩)).table[r] with
        held := false, copy := markedCopy (s.changeOwner r (some ⟨o, stamp.epoch⟩)).table[r].copy .damaged }
      else s.table[q] := by
    rw [s.loseConflict_eq, State.post_table, State.markStale_table, State.dropHeld, State.mapEntry_read, State.mapEntry_read,
      State.givenUp, State.discardEntries_table]
    by_cases hq : q = r
    · simp only [hq, if_true]
    · rw [if_neg hq, if_neg hq, if_neg hq, s.changeOwner_table_other _ hq]
  have hr : (s.loseConflict r o stamp).table[r] = _ := (htable r).trans (if_pos rfl)
  have hout : (s.loseConflict r o stamp).out = (s.givenUp r o stamp).out := by simp [State.loseConflict_eq]
  rw [State.resolveConflict, hlose, if_neg (by simp)]
  refine ⟨_, rfl, by rw [hr]; exact howner, by rw [hr]; exact hstamp, by rw [hr], by rw [hr]; exact hyield, by rw [hr]; exact hvote,
    by rw [hr]; exact hhold, fun hcur => ?copyLost, ?served, ?front, ?entries, ?marked,
    fun q hq => (htable q).trans (if_neg hq), fun w hw hregion hop => ?write, fun hf => ?fence, ?ctl, ?line, ?applyQ, ?array⟩
  case copyLost =>
    have hcurrent : (s.changeOwner r (some ⟨o, stamp.epoch⟩)).table[r].copy = .current := by
      rw [hcopy, hcur]; cases s.pullOf r <;> rfl
    rw [hr]
    exact congrArg (markedCopy · .damaged) hcurrent
  case served =>
    rw [State.servingOf_eq_none_iff, State.served, s.loseConflict_eq, State.post_serving, State.markStale_serving,
      State.dropHeld_serving, State.givenUp, State.discardEntries_serving, s.changeOwner_serving _ _ hchange, if_pos howns]
    simp
  case front =>
    rw [s.loseConflict_eq, State.post_roster, State.markStale_roster, State.dropHeld_roster, State.givenUp,
      State.discardEntries_roster, hfront]
    simp
  case entries =>
    rw [hout, hentries, removalAsked_eq]
    refine congrArg (s.turnedAway r) (List.map_congr_left fun x _ => ?_)
    simp only [OutEntry.asked, beq_iff_eq]
  case marked =>
    intro x hx hregion
    rw [hout, hentries] at hx
    obtain ⟨y, hy, hxy⟩ := s.mem_turnedAway hx
    obtain ⟨hreg, hsend, hdoom, -⟩ := y.released_fields
    have hsame : x.region = y.region ∧ x.sending = y.sending ∧ x.doom = y.doom := by
      rcases hxy with rfl | rfl
      · exact ⟨rfl, rfl, rfl⟩
      · exact ⟨hreg, hsend, hdoom⟩
    rw [hsame.2.1, hsame.2.2]
    exact sending_of_mem_removalAsked (fun x d => rfl) hy (by rw [← hsame.1, hregion]; exact beq_self_eq_true r)
  case write =>
    have haway := s.abandons_of_write hw hregion hop
    refine ⟨?_, ?_⟩
    · rw [s.loseConflict_eq, State.post_port, State.markStale_port, State.dropHeld_port, State.givenUp,
        State.discardEntries_port, hport, haway]
      rfl
    · rw [hout, State.givenUp, State.discardEntries_eq]
      simp only [Outbox.discarded, Outbox.withoutAll, (s.changeOwner_out r (some ⟨o, stamp.epoch⟩) hchange).2.1, howns, haway]
      rfl
  case fence =>
    intro lost done
    obtain ⟨hfence, hevents⟩ := s.givenUp_fence r o stamp hchange hf
    refine ⟨fun x hx => ?_, fun hnone => ?_, fun hcur hnopull => ?_⟩
    · rw [hout, hfence, hx]; rfl
    · rw [hout, hfence, hnone]; simp
    · have hbefore : (s.changeOwner r (some ⟨o, stamp.epoch⟩)).events = s.events := by
        rw [(State.changeOwner_of_holds s r (some ⟨o, stamp.epoch⟩) hchange hf).2, (s.ownerHandedOn_of_holds r _ hf).2.2,
          (s.pullOf_eq_none_iff r).1 hnopull]
        rfl
      have hcurrent : ((s.givenUp r o stamp).dropHeld r).table[r].copy = .current := by
        rw [State.dropHeld, State.mapEntry_read, if_pos rfl, State.givenUp, State.discardEntries_table]
        exact hcopy.trans (by rw [hnopull]; exact hcur)
      have hstate : ((s.givenUp r o stamp).dropHeld r).ctl.state = s.ctl.state := by
        rw [State.dropHeld_ctl, State.givenUp, State.discardEntries_ctl_state, State.changeOwner_ctl]
      intro stale
      rw [s.loseConflict_eq, State.events_post, State.markStale_events _ r .damaged (.inl hcurrent), hstate,
        State.dropHeld_events, hevents, hbefore, List.foldl_append, List.foldl_append, ← hout]
      simp only [stale]
      split <;> rfl
  case ctl =>
    rw [s.loseConflict_eq, State.post_ctl, State.markStale_ctl, State.dropHeld_ctl, State.givenUp,
      State.discardEntries_ctl_of_uncut, State.changeOwner_ctl]
  case line => simp [s.loseConflict_eq, State.givenUp]
  case applyQ => simp [s.loseConflict_eq, State.givenUp]
  case array => simp [s.loseConflict_eq, State.givenUp]

end Sys2Proof.Machine
end

section
/-! SUPPORT. The handing on of a status change (R44), the comparison with Q (R55, R56), and the timers of silence (R41). -/

namespace Sys2Proof.Machine

-- One proof at a time: the proofs that wait for each other would hold the memory of the whole text.
set_option Elab.async false

/-! ### The quorum count (R55) -/

theorem State.counted_eq (s : State) (n : Station) : s.counted n = (decide (n ≠ s.own) && s.isMember n
    && (s.statusOf n == .present || s.statusOf n == .dozing)) := by
  rw [State.counted, Bool.eq_iff_iff]
  cases s.statusOf n <;> simp [Presence.counted]

theorem State.quorumCount_eq (s : State) : s.quorumCount = 1 + ((List.finRange 16).filter (fun n : Station =>
    decide (n ≠ s.own) && s.isMember n && (s.statusOf n == .present || s.statusOf n == .dozing))).length := by
  rw [State.quorumCount, List.countP_eq_length_filter, funext s.counted_eq]

theorem State.quorum_eq (s : State) : s.quorum = ((List.finRange 16).filter (fun n : Station => s.isMember n)).length / 2 + 1 := by
  rw [State.quorum, State.groupSize, countBits, List.countP_eq_length_filter]
  rfl

/-- The counted members are members other than the station, which is a member itself. -/
theorem State.quorumCount_le (s : State) (hself : s.isMember s.own = true) :
    s.quorumCount ≤ ((List.finRange 16).filter (fun n : Station => s.isMember n)).length := by
  rw [State.quorumCount, ← List.countP_eq_length_filter, Nat.add_comm]
  have hown : s.counted s.own = false := by simp [State.counted]
  have hmem : s.own ∈ List.finRange 16 := List.mem_finRange _
  have hone : 1 ≤ (List.finRange 16).countP (fun n => s.isMember n) := List.countP_pos_iff.2 ⟨_, hmem, hself⟩
  have hcounted := List.countP_erase s.counted (List.finRange 16) s.own
  have hmembers := List.countP_erase (fun n => s.isMember n) (List.finRange 16) s.own
  have hle : ((List.finRange 16).erase s.own).countP s.counted ≤ ((List.finRange 16).erase s.own).countP (fun n => s.isMember n) :=
    List.countP_mono_left fun n _ hn => by
      simp only [State.counted, Bool.and_eq_true] at hn
      exact hn.1.2
  simp only [hmem, hown, hself, and_true, if_true, Bool.false_eq_true, and_false, if_false] at hcounted hmembers
  omega

/-! ### What a serving record's end leaves quiet -/

/-- From `s` to `t` the controller and the sweep stand, and where an open fence has an entry nothing is posted and the fence goes
on. -/
def State.Quiet (s t : State) : Prop := t.ctl = s.ctl ∧ t.out.sweep = s.out.sweep
  ∧ (s.out.fenceHolds → t.out.fenceHolds ∧ t.out.fence = s.out.fence ∧ t.events = s.events)

theorem State.Quiet.rfl {s : State} : s.Quiet s := ⟨Eq.refl _, Eq.refl _, fun h => ⟨h, Eq.refl _, Eq.refl _⟩⟩

theorem State.Quiet.trans {s t u : State} (h : s.Quiet t) (g : t.Quiet u) : s.Quiet u := by
  obtain ⟨hctl, hsweep, hfence⟩ := h
  obtain ⟨gctl, gsweep, gfence⟩ := g
  refine ⟨gctl.trans hctl, gsweep.trans hsweep, fun hf => ?_⟩
  obtain ⟨hholds, hsame, hevents⟩ := hfence hf
  obtain ⟨gholds, gsame, gevents⟩ := gfence hholds
  exact ⟨gholds, gsame.trans hsame, gevents.trans hevents⟩

theorem State.endServing_quiet (s : State) (r : Region) : s.Quiet (s.endServing r) := by
  refine ⟨by rw [s.endServing_eq r], by rw [s.endServing_eq r], fun hf => ⟨s.endServing_fenceHolds r hf, s.endServing_of_holds r hf⟩⟩

theorem State.dropTarget_quiet (s : State) (r : Region) (n : Station) : s.Quiet (s.dropTarget r n) := by
  unfold State.dropTarget State.putTargets
  split
  · split
    · split
      · exact s.endServing_quiet _
      · exact State.Quiet.rfl
    · exact State.Quiet.rfl
  · exact State.Quiet.rfl

theorem State.dropTargets_quiet (s : State) (n : Station) : s.Quiet (s.dropTargets n) := by
  have hfold (rs : List Region) : ∀ t : State, t.Quiet (rs.foldl (fun u r => u.dropTarget r n) t) := by
    induction rs with
    | nil => exact fun t => State.Quiet.rfl
    | cons r rs ih => exact fun t => (t.dropTarget_quiet r n).trans (ih _)
  exact hfold _ s

/-! ### Pulls that open add PULL entries alone -/

/-- The Outbox `o'` is `o` with WAITING PULL entries added. -/
def Outbox.PullsAdded (o o' : Outbox) : Prop :=
  ∃ added, o' = { o with entries := o.entries ++ added }
    ∧ ∀ e ∈ added, e.isPull = true ∧ e.sending = false ∧ e.doom = .none

theorem Outbox.PullsAdded.rfl {o : Outbox} : o.PullsAdded o := ⟨[], by rw [List.append_nil], by simp⟩

theorem Outbox.PullsAdded.trans {o p q : Outbox} (h : o.PullsAdded p) (g : p.PullsAdded q) : o.PullsAdded q := by
  obtain ⟨added, rfl, hadded⟩ := h
  obtain ⟨more, rfl, hmore⟩ := g
  exact ⟨added ++ more, by simp [List.append_assoc], fun e he => (List.mem_append.1 he).elim (hadded e) (hmore e)⟩

theorem State.queuePull_out (s : State) (p : PullRecord) : s.out.PullsAdded (s.queuePull p).out := by
  unfold State.queuePull
  split
  · exact ⟨[⟨p.region, .pull (s.pullForce p), false, .none⟩], Eq.refl _, by simp [OutEntry.isPull]⟩
  · exact .rfl

theorem State.queuePulls_out (s : State) : s.out.PullsAdded s.queuePulls.out := by
  have hfold (ps : List PullRecord) : ∀ t : State, t.out.PullsAdded (ps.foldl State.queuePull t).out := by
    induction ps with
    | nil => exact fun t => .rfl
    | cons p ps ih => exact fun t => (t.queuePull_out p).trans (ih _)
  exact hfold _ s

theorem State.openPull_out (s : State) (r : Region) (n : Station) (k : Cause) : s.out.PullsAdded (s.openPull r n k).out :=
  State.queuePulls_out _

theorem State.openPullsFrom_out (fuel : Nat) (s : State) : s.out.PullsAdded (State.openPullsFrom fuel s).out := by
  induction fuel generalizing s with
  | zero => exact .rfl
  | succ fuel ih =>
    rw [State.openPullsFrom]
    split
    · exact (s.openPull_out _ _ _).trans (ih _)
    · exact .rfl

theorem State.openPulls_out (s : State) : s.out.PullsAdded s.openPulls.out :=
  (State.openPullsFrom_out _ s).trans (State.queuePulls_out _)

theorem Outbox.PullsAdded.fenceHolds {o o' : Outbox} (h : o.PullsAdded o') (hf : o.fenceHolds) : o'.fenceHolds := by
  obtain ⟨added, rfl, -⟩ := h
  exact fun hopen => (hf hopen).imp fun x hx => ⟨List.mem_append_left _ hx.1, hx.2⟩

theorem State.openPulls_quiet (s : State) : s.Quiet s.openPulls := by
  have hadded := s.openPulls_out
  refine ⟨s.openPulls_ctl, ?_, fun hf => ⟨hadded.fenceHolds hf, ?_, s.openPulls_events⟩⟩
  all_goals
    obtain ⟨added, hout, -⟩ := hadded
    rw [hout]

/-! ### The walk of the sweep (R104) -/

theorem Sweep.pass_outstanding (w : Sweep) (r : Region) : (w.pass r).outstanding = w.outstanding := by
  unfold Sweep.pass
  split
  · rfl
  · split <;> rfl

/-- What the sweep's act keeps, its walk keeps. -/
theorem State.sweepWalk_keeps {P : State → Prop}
    (hact : ∀ t : State, t.out.sweep.phase = .running → t.out.sweep.outstanding = none → P t → P t.sweepAct.1)
    (s : State) (h : P s) : P s.sweepWalk := by
  have hfrom (fuel : Nat) : ∀ t : State, t.out.sweep.outstanding = none → P t → P (t.sweepFrom fuel) := by
    induction fuel with
    | zero => exact fun t _ ht => ht
    | succ fuel ih =>
      intro t hnone ht
      rw [State.sweepFrom]
      split
      next hrun =>
        split
        next hon => exact ih _ (by rw [t.sweepAct_sweep hon, Sweep.pass_outstanding, hnone]) (hact t hrun hnone ht)
        next => exact hact t hrun hnone ht
      next => exact ht
  rw [State.sweepWalk]
  split
  next hgo => exact hfrom 64 s hgo.2 h
  next => exact h

/-- The sweep's act keeps the entries and the fence; it may add a CLAIM entry (R104). -/
theorem State.sweepAct_out (s : State) : s.sweepAct.1.out.fence = s.out.fence ∧ s.sweepAct.1.out.reserved = s.out.reserved
    ∧ s.sweepAct.1.out.hostClaim = s.out.hostClaim
    ∧ ∃ added, s.sweepAct.1.out.entries = s.out.entries ++ added ∧ ∀ e ∈ added, e.body = .claim .sweep ∧ e.sending = false := by
  unfold State.sweepAct
  dsimp only
  split
  · exact ⟨rfl, rfl, rfl, [], by simp [State.setSweep, State.mapOut, State.setOut], by simp⟩
  split
  · exact ⟨rfl, rfl, rfl, [], by simp [State.setSweep, State.mapOut, State.setOut], by simp⟩
  split
  · exact ⟨rfl, rfl, rfl, [], by simp [State.setSweep, State.mapOut, State.setOut], by simp⟩
  · exact ⟨rfl, rfl, rfl, [_], rfl, by simp⟩

/-- The sweep's walk leaves the fence and the entries, but for a CLAIM entry that it adds. -/
theorem State.sweepWalk_fenceHolds (s : State) (h : s.out.fenceHolds) :
    s.sweepWalk.out.fenceHolds ∧ s.sweepWalk.out.fence = s.out.fence := by
  refine s.sweepWalk_keeps (P := fun t => t.out.fenceHolds ∧ t.out.fence = s.out.fence) (fun t _ _ ht => ?_) ⟨h, rfl⟩
  obtain ⟨hfence, -, -, added, hentries, -⟩ := t.sweepAct_out
  refine ⟨fun hopen => ?_, hfence.trans ht.2⟩
  obtain ⟨x, hx, hin⟩ := ht.1 (hfence ▸ hopen)
  exact ⟨x, by rw [hentries]; exact List.mem_append_left _ hx, hin⟩

/-! ### The handing on of a status change (R44) -/

theorem State.statusChange_of_same (s : State) {n : Station} {st : Presence} (h : s.statusOf n = st) : s.statusChange n st = s := by
  rw [State.statusChange, if_pos h]

theorem State.statusChange_of_ne (s : State) {n : Station} {st : Presence} (h : s.statusOf n ≠ st) : s.statusChange n st =
    ((((s.statusTold n st).quorumCheck).targetsFollow n st).openPulls).differsFollows n st := by
  rw [State.statusChange, if_neg h]
  rfl

theorem State.targetsFollow_quiet (s : State) (n : Station) (st : Presence) : s.Quiet (s.targetsFollow n st) := by
  rw [State.targetsFollow]
  split
  · exact .rfl
  · exact s.dropTargets_quiet n

/-- What follows the comparison with Q posts nothing where an open fence has an entry. -/
theorem State.statusChange_quiet (s : State) {n : Station} {st : Presence} (h : s.statusOf n ≠ st) :
    (s.statusTold n st).quorumCheck.Quiet (s.statusChange n st) := by
  rw [s.statusChange_of_ne h]
  exact ((State.targetsFollow_quiet _ n st).trans (State.openPulls_quiet _)).trans .rfl

theorem State.statusChange_roster (s : State) (n : Station) (st : Presence) : (s.statusChange n st).roster = { s.roster with
    entries := s.roster.entries.set n { s.roster.entries[n] with
      status := st, differs := s.roster.entries[n].differs && (s.statusOf n == st || st != .absent) } } := by
  by_cases h : s.statusOf n = st
  · have hsame : s.roster.entries.set n { s.roster.entries[n] with
        status := st, differs := s.roster.entries[n].differs && (s.statusOf n == st || st != .absent) } = s.roster.entries := by
      have hentry : { s.roster.entries[n] with
          status := st, differs := s.roster.entries[n].differs && (s.statusOf n == st || st != .absent) } = s.roster.entries[n] := by
        subst h
        simp [State.statusOf]
      rw [hentry]
      exact Vector.set_getElem_self _
    rw [s.statusChange_of_same h, hsame]
  · rw [s.statusChange_of_ne h, State.differsFollows, State.mapRosterEntry, State.mapRoster, State.setRoster]
    simp only [State.openPulls_roster, State.targetsFollow_roster, State.quorumCheck_roster]
    have hst : (s.statusOf n == st) = false := beq_false_of_ne h
    simp [State.statusTold, hst]

/-- The comparison with Q, by case (R56, R103). -/
theorem State.quorumCheck_of_lost (s : State) (hst : s.ctl.state = .active) (hq : s.quorumCount < s.quorum) :
    s.quorumCheck = { s with
      ctl := { s.ctl with state := .isolated }
      out := { s.out with sweep := { s.out.sweep with
        phase := if s.out.sweep.phase = .running then .paused else s.out.sweep.phase } }
      events := postTo s.events (.isolation true) } := by
  rw [State.quorumCheck, if_pos ⟨hst, hq⟩, Sweep.pause_eq]
  rfl

theorem State.quorumCheck_of_regained (s : State) (hst : s.ctl.state = .isolated) (hq : s.quorum ≤ s.quorumCount) :
    s.quorumCheck = State.sweepWalk { s with
      ctl := { s.ctl with state := .active }
      out := { s.out with sweep := { s.out.sweep with
        phase := if s.out.sweep.phase = .paused then .running else s.out.sweep.phase } }
      events := postTo s.events (.isolation false) } := by
  rw [State.quorumCheck, if_neg (fun h => by simp [hst] at h), if_pos ⟨hst, hq⟩, Sweep.resume_eq]
  rfl

theorem State.quorumCheck_of_stands (s : State) (hact : s.ctl.state = .active → s.quorum ≤ s.quorumCount)
    (hiso : s.ctl.state = .isolated → s.quorumCount < s.quorum) : s.quorumCheck = s := by
  rw [State.quorumCheck, if_neg (fun h => Nat.not_lt.2 (hact h.1) h.2), if_neg (fun h => Nat.not_le.2 (hiso h.1) h.2)]

theorem State.quorumCheck_fenceHolds (s : State) (h : s.out.fenceHolds) : s.quorumCheck.out.fenceHolds := by
  unfold State.quorumCheck
  split
  · exact h
  split
  · refine (State.sweepWalk_fenceHolds _ ?_).1
    exact h
  · exact h

/-- Settles O33: the count as a filter, the comparison by its cases, and what follows it as `State.Quiet`. -/
theorem quorumAndIsolation : Obligations.QuorumAndIsolation := by
  refine ⟨fun s => ⟨s.quorumCount_eq, s.quorum_eq, Nat.le_add_right 1 _, s.quorumCount_le⟩, fun s => ⟨s.quorumCheck_of_lost,
    s.quorumCheck_of_regained, s.quorumCheck_of_stands⟩, fun s n st => ⟨s.statusChange_of_same, fun hne => ?_⟩⟩
  refine ⟨_, rfl, ?_⟩
  intro told fenceHolds
  obtain ⟨hctl, hsweep, hquiet⟩ := s.statusChange_quiet hne
  have hholds (hf : fenceHolds) : told.quorumCheck.out.fenceHolds := told.quorumCheck_fenceHolds hf
  refine ⟨rfl, hctl, hsweep, fun hf => (hquiet (hholds hf)).2.2, fun hst hq => ?_, fun hst hq => ?_, fun hact hiso => ?_⟩
  · have hlost := told.quorumCheck_of_lost hst hq
    exact ⟨by rw [hctl, hlost], fun hf => by rw [(hquiet (hholds hf)).2.2, hlost]; rfl⟩
  · have hregained := told.quorumCheck_of_regained hst hq
    refine ⟨by rw [hctl, hregained, State.sweepWalk_ctl], fun hf hoff => ?_⟩
    rw [(hquiet (hholds hf)).2.2, hregained, State.sweepWalk_of_not _ (.inl (by simp [told, State.statusTold, hoff]))]
    rfl
  · have hstands := told.quorumCheck_of_stands hact hiso
    exact ⟨by rw [hctl, hstands]; rfl, by rw [hsweep, hstands]; rfl, fun hf => by rw [(hquiet (hholds hf)).2.2, hstands]; rfl⟩

end Sys2Proof.Machine
end

section
/-! SUPPORT. What a frame does to the roster (R41 to R45), and the timers of silence, strangers and beacons (R31, R41, R47). -/

namespace Sys2Proof.Machine

-- One proof at a time: the proofs that wait for each other would hold the memory of the whole text.
set_option Elab.async false

/-! ### The roster after a frame (R41 to R45) -/

/-- A change to PRESENT or DOZING posts STATION and what the comparison with Q posts, and nothing more (R44). -/
theorem State.statusChange_events_of_counted (s : State) {n : Station} {st : Presence} (h : s.statusOf n ≠ st)
    (hst : st.counted = true) : (s.statusChange n st).events = (s.statusTold n st).quorumCheck.events := by
  rw [s.statusChange_of_ne h, State.targetsFollow, if_pos hst, State.differsFollows_events, State.openPulls_events]

theorem State.statusChange_entry (s : State) (n : Station) (st : Presence) : (s.statusChange n st).roster.entries[n] =
    { s.roster.entries[n] with
      status := st, differs := s.roster.entries[n].differs && (s.statusOf n == st || st != .absent) } := by
  rw [s.statusChange_roster]
  simp

theorem State.statusChange_entry_other (s : State) {n m : Station} (st : Presence) (h : m ≠ n) :
    (s.statusChange n st).roster.entries[m] = s.roster.entries[m] := by
  rw [s.statusChange_roster]
  simp [Fin.val_ne_of_ne h.symm]

/-- The station with the silence timer of `n` at `k` ms (R41). -/
def State.timedAt (s : State) (n : Station) (k : Option Nat) : State :=
  { s with roster := { s.roster with entries := s.roster.entries.set n { s.roster.entries[n] with timer := k } } }

theorem State.timedAt_entry (s : State) (n : Station) (k : Option Nat) :
    (s.timedAt n k).roster.entries[n] = { s.roster.entries[n] with timer := k } := by
  simp [State.timedAt]

theorem State.timedAt_entry_other (s : State) {n m : Station} (k : Option Nat) (h : m ≠ n) :
    (s.timedAt n k).roster.entries[m] = s.roster.entries[m] := by
  simp [State.timedAt, Fin.val_ne_of_ne h.symm]

theorem State.timedAt_statusOf (s : State) (n m : Station) (k : Option Nat) : (s.timedAt n k).statusOf m = s.statusOf m := by
  by_cases h : m = n
  · subst h; rw [State.statusOf, s.timedAt_entry]; rfl
  · rw [State.statusOf, s.timedAt_entry_other k h]; rfl

theorem State.rosterHandoff_eq (s : State) (f : Frame) :
    s.rosterHandoff f = ((s.timedAt f.origin (some 0)).followFrame f).checkMembers f := rfl

theorem State.rosterHandoff_of_other (s : State) {f : Frame} (h : ∀ b, f ≠ .beacon b) :
    s.rosterHandoff f = (s.timedAt f.origin (some 0)).statusChange f.origin .present := by
  rw [s.rosterHandoff_eq]
  cases f with
  | beacon b => exact absurd rfl (h b)
  | claim | pull | update | image => rfl

/-- The status after a beacon's handing on, by its mode (R42, R43). -/
def State.followBeacon (s : State) (b : BeaconFrame) : State :=
  if b.mode = .leaving then s else s.statusChange b.origin (if b.mode = .dozing then .dozing else .present)

theorem State.rosterHandoff_of_beacon (s : State) (b : BeaconFrame) : s.rosterHandoff (.beacon b) =
    ((s.timedAt b.origin (some 0)).followBeacon b).checkMembers (.beacon b) := by
  rw [s.rosterHandoff_eq, State.followBeacon]
  congr 1
  cases hmode : b.mode <;> simp [State.followFrame, framePresence, hmode, Frame.origin]

/-- A beacon's member set reported: MEMBERS_DIFFER posted, and the report remembered (R45). -/
def State.differsReported (s : State) (n : Station) : State :=
  { s with
    events := postTo s.events (.membersDiffer n)
    roster := { s.roster with entries := s.roster.entries.set n { s.roster.entries[n] with differs := true } } }

theorem State.checkMembers_beacon (s : State) (b : BeaconFrame) : s.checkMembers (.beacon b) =
    if b.members ≠ s.ctl.members ∧ s.roster.entries[b.origin].differs = false then s.differsReported b.origin else s := by
  simp only [State.checkMembers, Bool.and_eq_true, bne_iff_ne, Bool.not_eq_true', ne_eq]
  rfl

theorem State.followBeacon_ctl_members (s : State) (b : BeaconFrame) : (s.followBeacon b).ctl.members = s.ctl.members := by
  unfold State.followBeacon
  split
  · rfl
  · exact State.statusChange_ctl_members _ _ _

/-- The status that a beacon's handing on leaves (R42, R43). -/
def statusAfterBeacon (b : BeaconFrame) (was : Presence) : Presence :=
  match b.mode with
  | .leaving => was
  | .dozing => .dozing
  | .joining | .active | .isolated => .present

theorem State.followBeacon_entry (s : State) (b : BeaconFrame) : (s.followBeacon b).roster.entries[b.origin] =
    { s.roster.entries[b.origin] with status := statusAfterBeacon b (s.statusOf b.origin) } := by
  unfold State.followBeacon statusAfterBeacon
  cases b.mode
  case leaving => rfl
  all_goals exact (s.statusChange_entry _ _).trans (by simp)

theorem State.followBeacon_entry_other (s : State) (b : BeaconFrame) {n : Station} (h : n ≠ b.origin) :
    (s.followBeacon b).roster.entries[n] = s.roster.entries[n] := by
  unfold State.followBeacon
  split
  · rfl
  · exact s.statusChange_entry_other _ h

theorem State.followBeacon_events (s : State) (b : BeaconFrame) : (s.followBeacon b).events =
    if s.statusOf b.origin = statusAfterBeacon b (s.statusOf b.origin) then s.events
    else (s.statusTold b.origin (statusAfterBeacon b (s.statusOf b.origin))).quorumCheck.events := by
  unfold State.followBeacon
  split
  next hmode => simp [statusAfterBeacon, hmode]
  next hmode =>
    have hafter : statusAfterBeacon b (s.statusOf b.origin) = if b.mode = .dozing then .dozing else .present := by
      unfold statusAfterBeacon
      cases hm : b.mode <;> simp_all
    have hcounted : Presence.counted (if b.mode = .dozing then .dozing else .present) = true := by split <;> rfl
    rw [hafter]
    by_cases hsame : s.statusOf b.origin = if b.mode = .dozing then .dozing else .present
    · rw [s.statusChange_of_same hsame, if_pos hsame]
    · rw [s.statusChange_events_of_counted hsame hcounted, if_neg hsame]

/-! ### What a status change leaves of the regions -/

/-- The sweep's act and its walk change held alone (R104). -/
theorem State.sweepAct_table (s : State) (q : Region) :
    s.sweepAct.1.table[q] = { s.table[q] with held := s.sweepAct.1.table[q].held } := by
  have hdrop (t : State) (r : Region) : (t.dropHeld r).table[q] = { t.table[q] with held := (t.dropHeld r).table[q].held } := by
    rw [State.dropHeld, State.mapEntry_read]
    split
    next h => rw [h]
    next => rfl
  unfold State.sweepAct
  dsimp only
  split
  · rfl
  split
  · exact hdrop (s.setSweep _) _
  split
  · exact hdrop (s.setSweep _) _
  · rfl

theorem State.sweepWalk_table (s : State) (q : Region) :
    s.sweepWalk.table[q] = { s.table[q] with held := s.sweepWalk.table[q].held } := by
  refine s.sweepWalk_keeps (P := fun t => t.table[q] = { s.table[q] with held := t.table[q].held }) (fun t _ _ ht => ?_) rfl
  rw [t.sweepAct_table, ht]

theorem State.quorumCheck_table (s : State) (q : Region) :
    s.quorumCheck.table[q] = { s.table[q] with held := s.quorumCheck.table[q].held } := by
  unfold State.quorumCheck
  split
  · rfl
  split
  · exact State.sweepWalk_table _ q
  · rfl

/-- Targets that leave clear write hold alone (R127). -/
theorem State.dropTarget_table (s : State) (r : Region) (n : Station) (q : Region) :
    (s.dropTarget r n).table[q] = { s.table[q] with writeHold := (s.dropTarget r n).table[q].writeHold } := by
  unfold State.dropTarget State.putTargets
  split
  · split
    · split
      · rw [s.endServing_table]
      · rfl
    · rfl
  · rfl

theorem State.dropTargets_table (s : State) (n : Station) (q : Region) :
    (s.dropTargets n).table[q] = { s.table[q] with writeHold := (s.dropTargets n).table[q].writeHold } := by
  have hfold (rs : List Region) : ∀ t : State, (rs.foldl (fun u r => u.dropTarget r n) t).table[q]
      = { t.table[q] with writeHold := (rs.foldl (fun u r => u.dropTarget r n) t).table[q].writeHold } := by
    induction rs with
    | nil => exact fun t => rfl
    | cons r rs ih => exact fun t => (ih _).trans (by rw [t.dropTarget_table r n q]; rfl)
  exact hfold _ s

/-- Pulls that open change the copy alone (R7, R113). -/
theorem State.openPull_table (s : State) (r : Region) (n : Station) (k : Cause) (q : Region) :
    (s.openPull r n k).table[q] = if q = r then { s.table[q] with copy := .fetching k } else s.table[q] := by
  rw [State.openPull, State.queuePulls_table, State.mapEntry_read]
  split
  next h => rw [h]; rfl
  next => rfl

theorem State.openPullsFrom_table (fuel : Nat) (s : State) (q : Region) :
    (State.openPullsFrom fuel s).table[q] = { s.table[q] with copy := (State.openPullsFrom fuel s).table[q].copy } := by
  induction fuel generalizing s with
  | zero => rfl
  | succ fuel ih =>
    rw [State.openPullsFrom]
    split
    next p _ =>
      rw [ih, s.openPull_table]
      split <;> rfl
    next => rfl

theorem State.openPulls_table (s : State) (q : Region) :
    s.openPulls.table[q] = { s.table[q] with copy := s.openPulls.table[q].copy } := by
  rw [State.openPulls, State.queuePulls_table, State.openPullsFrom_table]

/-- A status change leaves every owner field. -/
theorem State.statusChange_owner (s : State) (n : Station) (st : Presence) (q : Region) :
    (s.statusChange n st).table[q].owner = s.table[q].owner := by
  by_cases h : s.statusOf n = st
  · rw [s.statusChange_of_same h]
  · rw [s.statusChange_of_ne h, State.differsFollows_table, State.openPulls_table]
    have htargets (t : State) : (t.targetsFollow n st).table[q].owner = t.table[q].owner := by
      rw [State.targetsFollow]
      split
      · rfl
      · rw [t.dropTargets_table]
    have hquorum := (s.statusTold n st).quorumCheck_table q
    exact (htargets _).trans (by rw [hquorum]; rfl)

theorem State.rosterHandoff_table (s : State) (f : Frame) (q : Region) :
    (s.rosterHandoff f).table[q].stamp = s.table[q].stamp ∧ (s.rosterHandoff f).table[q].owner = s.table[q].owner := by
  have hchange (st : Presence) : ((s.timedAt f.origin (some 0)).statusChange f.origin st).table[q].stamp = s.table[q].stamp
      ∧ ((s.timedAt f.origin (some 0)).statusChange f.origin st).table[q].owner = s.table[q].owner :=
    ⟨State.statusChange_stamp _ _ _ q q.isLt, State.statusChange_owner _ _ _ q⟩
  have hcheck (t : State) : (t.checkMembers f).table = t.table := by simp
  rw [s.rosterHandoff_eq, hcheck, State.followFrame]
  split
  · exact hchange _
  · exact ⟨rfl, rfl⟩

/-- What a beacon's handing on leaves in the roster and posts (R42, R43, R45). -/
theorem State.rosterHandoff_beacon (s : State) (b : BeaconFrame) :
    let report := b.members ≠ s.ctl.members ∧ s.roster.entries[b.origin].differs = false
    let u := (s.timedAt b.origin (some 0)).followBeacon b
    s.rosterHandoff (.beacon b) = (if report then u.differsReported b.origin else u)
      ∧ (s.rosterHandoff (.beacon b)).roster.entries[b.origin]
        = ⟨statusAfterBeacon b (s.statusOf b.origin), some 0, s.roster.entries[b.origin].differs || b.members != s.ctl.members⟩
      ∧ (∀ n : Station, n ≠ b.origin → (s.rosterHandoff (.beacon b)).roster.entries[n] = s.roster.entries[n])
      ∧ (s.rosterHandoff (.beacon b)).events = if report then postTo u.events (.membersDiffer b.origin) else u.events := by
  intro report u
  have hmembers : u.ctl.members = s.ctl.members := State.followBeacon_ctl_members _ b
  have hentry : u.roster.entries[b.origin]
      = ⟨statusAfterBeacon b (s.statusOf b.origin), some 0, s.roster.entries[b.origin].differs⟩ := by
    rw [State.followBeacon_entry, State.timedAt_entry, State.timedAt_statusOf]
  have hother (n : Station) (hn : n ≠ b.origin) : u.roster.entries[n] = s.roster.entries[n] := by
    rw [State.followBeacon_entry_other _ b hn, State.timedAt_entry_other _ _ hn]
  have hwhole : s.rosterHandoff (.beacon b) = if report then u.differsReported b.origin else u := by
    rw [s.rosterHandoff_of_beacon, State.checkMembers_beacon, hmembers, hentry]
  refine ⟨hwhole, ?_, fun n hn => ?_, ?_⟩
  · rw [hwhole]
    by_cases hreport : report
    · rw [if_pos hreport]
      simp only [State.differsReported, hentry, bne_iff_ne.2 hreport.1, Bool.or_true]
      exact Vector.getElem_set_self _
    · rw [if_neg hreport, hentry]
      simp only [report, not_and_or, Bool.not_eq_false, Decidable.not_not] at hreport
      rcases hreport with hsame | hseen <;> simp_all
  · rw [hwhole, ← hother n hn]
    split
    · simp [State.differsReported, Fin.val_ne_of_ne hn.symm]
    · rfl
  · rw [hwhole]
    split <;> rfl

/-- Settles O35: a beacon's handing on by its mode, then the check of its member set; another frame's as a change to PRESENT. -/
theorem rosterFollowsFrames : Obligations.RosterFollowsFrames := by
  intro s f hother
  refine ⟨_, rfl, ?_⟩
  intro timed
  by_cases hbeacon : ∃ b, f = .beacon b
  · obtain ⟨b, rfl⟩ := hbeacon
    obtain ⟨hwhole, hentry, hothers, hevents⟩ := s.rosterHandoff_beacon b
    have hstatus : (s.rosterHandoff (.beacon b)).statusOf (Frame.beacon b).origin = statusAfterBeacon b (s.statusOf b.origin) :=
      congrArg RosterEntry.status hentry
    have htold := State.followBeacon_events (s.timedAt b.origin (some 0)) b
    rw [State.timedAt_statusOf] at htold
    refine ⟨fun b' hb => ?_, fun hnot => absurd rfl (hnot b), congrArg RosterEntry.timer hentry, hothers, fun b' hb => ?_,
      fun hnot => absurd rfl (hnot b), by simp, by simp, by simp, s.rosterHandoff_table _⟩
    · cases hb
      refine ⟨hwhole, fun hne => ?_⟩
      rw [hstatus] at hne
      rw [hevents, htold, if_neg (show ¬s.statusOf b.origin = _ from hne), hstatus]
      rfl
    · cases hb
      refine ⟨fun hmode => ?_, fun hmode => ?_, fun hleave hdoze => ?_, congrArg RosterEntry.differs hentry, fun hsame => ?_⟩
      · rw [hstatus, statusAfterBeacon, hmode]
        rfl
      · rw [hstatus, statusAfterBeacon, hmode]
      · rw [hstatus, statusAfterBeacon]
        cases hm : b.mode <;> simp_all
      · rw [hstatus] at hsame
        rw [hevents, htold, if_pos (show s.statusOf b.origin = _ from hsame)]
        rfl
  · have hnot : ∀ b, f ≠ .beacon b := fun b hb => hbeacon ⟨b, hb⟩
    have hwhole := s.rosterHandoff_of_other hnot
    have hentry := State.statusChange_entry (s.timedAt f.origin (some 0)) f.origin .present
    have hsame := s.timedAt_statusOf f.origin f.origin (some 0)
    rw [← hwhole] at hentry
    refine ⟨fun b hb => absurd hb (hnot b), fun _ => ⟨hwhole, fun hne => ?_⟩, ?_, fun n hn => ?_, fun b hb => absurd hb (hnot b),
      fun _ => ⟨congrArg RosterEntry.status hentry, fun hpres => ?_⟩, by simp, by simp, by simp, s.rosterHandoff_table _⟩
    · rw [hwhole, State.statusChange_events_of_counted _ (by rw [hsame]; exact hne) rfl]
      rfl
    · rw [hentry, State.timedAt_entry]
    · rw [hwhole, State.statusChange_entry_other _ _ hn, State.timedAt_entry_other _ _ hn]
    · rw [hwhole, State.statusChange_of_same _ (by rw [hsame]; exact hpres)]
      rfl

end Sys2Proof.Machine
end

section
/-! SUPPORT. Targets that leave their serving records (R44, R126), and the timers of silence, strangers and beacons (R31, R41, R47). -/

namespace Sys2Proof.Machine

-- One proof at a time: the proofs that wait for each other would hold the memory of the whole text.
set_option Elab.async false

theorem State.whenOn_of_on {s : State} (f : State → State) (h : s.power = .on) : s.whenOn f = f s := if_pos h

/-! ### Targets that leave (R126) -/

/-- The targets of a record without station `n`. -/
def ServingRecord.without (v : ServingRecord) (n : Station) : List Target := v.targets.filter (fun q => q.station != n)

/-- A record once station `n` has left it: it ends with its last target (R126). -/
def ServingRecord.leftBy (n : Station) (v : ServingRecord) : Option ServingRecord :=
  if v.without n = [] then none else some { v with targets := v.without n }

/-- A serving table as the Image Server keeps it: a record a region, and no record without target. -/
def servingFormed (vs : List ServingRecord) : Prop := (vs.map (·.region)).Nodup ∧ ∀ v ∈ vs, v.targets ≠ []

/-- The only record of a region in a formed table. -/
theorem servingFormed.unique {vs : List ServingRecord} (h : servingFormed vs) {v w : ServingRecord} (hv : v ∈ vs) (hw : w ∈ vs)
    (hr : v.region = w.region) : v = w := List.inj_on_of_nodup_map h.1 hv hw hr

theorem State.servingOf_mem {s : State} {r : Region} {v : ServingRecord} (h : s.servingOf r = some v) :
    v ∈ s.serving ∧ v.region = r :=
  ⟨List.mem_of_find?_eq_some h, by simpa using List.find?_some h⟩

/-- A target that leaves the record of one region (R126). -/
theorem State.dropTarget_serving (s : State) (r : Region) (n : Station) (h : servingFormed s.serving) :
    (s.dropTarget r n).serving = s.serving.filterMap (fun v => if v.region = r then v.leftBy n else some v) := by
  cases hserving : s.servingOf r with
  | none =>
    have hno : ∀ v ∈ s.serving, v.region ≠ r := fun v hv hr => by
      have := List.find?_eq_none.1 hserving v hv
      simp [hr] at this
    rw [State.dropTarget, hserving]
    exact ((List.filterMap_congr fun v hv => if_neg (hno v hv)).trans List.filterMap_some).symm
  | some v =>
    obtain ⟨hv, hr⟩ := State.servingOf_mem hserving
    have hthe (w : ServingRecord) (hw : w ∈ s.serving) (hwr : w.region = r) : w = v := h.unique hw hv (hwr.trans hr.symm)
    rw [State.dropTarget, hserving]
    dsimp only
    split
    next hserves =>
      rw [State.putTargets, show (v.targets.filter fun t => t.station != n) = v.without n from rfl]
      split
      next hempty =>
        have hnone : v.leftBy n = none := if_pos (List.isEmpty_iff.1 hempty)
        rw [s.endServing_serving, hr, ← List.filterMap_eq_filter]
        refine List.filterMap_congr fun w hw => ?_
        by_cases hwr : w.region = r
        · rw [if_pos hwr, hthe w hw hwr, hnone]
          simp [hr]
        · rw [if_neg hwr]
          simp [hwr]
      next hsome =>
        have hleft : v.leftBy n = some { v with targets := v.without n } := if_neg (by simpa using hsome)
        have hput : (s.putServing { v with targets := v.without n }).serving
            = s.serving.map (fun x => if x.region = r then { v with targets := v.without n } else x) := by
          subst hr; rfl
        rw [hput, ← List.filterMap_eq_map]
        refine List.filterMap_congr fun w hw => ?_
        by_cases hwr : w.region = r
        · rw [if_pos hwr, hthe w hw hwr, hleft, Function.comp, if_pos hr]
        · rw [if_neg hwr, Function.comp, if_neg hwr]
    next hserves =>
      have hsame : v.without n = v.targets := List.filter_eq_self.2 fun q hq => by
        rw [State.serves, hserving, Bool.not_eq_true, List.any_eq_false] at hserves
        simpa using hserves q hq
      have hleft : v.leftBy n = some v := by rw [ServingRecord.leftBy, hsame, if_neg (h.2 v hv)]
      refine ((List.filterMap_congr fun w hw => ?_).trans List.filterMap_some).symm
      by_cases hwr : w.region = r
      · rw [if_pos hwr, hthe w hw hwr, hleft]
      · rw [if_neg hwr]

/-- A formed table stays formed as a target leaves. -/
theorem servingFormed.leave {vs : List ServingRecord} (h : servingFormed vs) (r : Region) (n : Station) :
    servingFormed (vs.filterMap (fun v => if v.region = r then v.leftBy n else some v)) := by
  have hkept (v w : ServingRecord) (hw : (if v.region = r then v.leftBy n else some v) = some w) :
      w.region = v.region ∧ (v.targets ≠ [] → w.targets ≠ []) := by
    split at hw
    · rw [ServingRecord.leftBy] at hw
      split at hw
      · cases hw
      next hleft => cases hw; exact ⟨rfl, fun _ => hleft⟩
    · cases hw; exact ⟨rfl, id⟩
  refine ⟨?_, fun w hw => ?_⟩
  · refine h.1.sublist ?_
    have hregions (us : List ServingRecord) :
        ((us.filterMap (fun v => if v.region = r then v.leftBy n else some v)).map (·.region)).Sublist (us.map (·.region)) := by
      induction us with
      | nil => exact .slnil
      | cons u us ih =>
        rw [List.filterMap_cons]
        split
        · exact ih.cons _
        next w hw => rw [List.map_cons, List.map_cons, (hkept u w hw).1]; exact ih.cons_cons _
    exact hregions vs
  · obtain ⟨v, hv, hvw⟩ := List.mem_filterMap.1 hw
    exact (hkept v w hvw).2 (h.2 v hv)

theorem ServingRecord.leftBy_region {n : Station} {v w : ServingRecord} (h : v.leftBy n = some w) : w.region = v.region := by
  rw [ServingRecord.leftBy] at h
  split at h
  · cases h
  · cases h; rfl

/-- A station that leaves the records of several regions (R126). -/
theorem State.dropTarget_foldl_serving (n : Station) (rs : List Region) (hnodup : rs.Nodup) :
    ∀ s : State, servingFormed s.serving → (rs.foldl (fun t r => t.dropTarget r n) s).serving
      = s.serving.filterMap (fun v => if v.region ∈ rs then v.leftBy n else some v) := by
  induction rs with
  | nil => exact fun s _ => by simp
  | cons r rs ih =>
    intro s h
    have hserving := s.dropTarget_serving r n h
    obtain ⟨hnot, hrest⟩ := List.nodup_cons.1 hnodup
    rw [List.foldl_cons, ih hrest _ (hserving ▸ h.leave r n), hserving, List.filterMap_filterMap]
    refine List.filterMap_congr fun v _ => ?_
    by_cases hr : v.region = r
    · rw [if_pos hr, if_pos (by simp [hr])]
      cases hleft : v.leftBy n with
      | none => rfl
      | some w =>
        have hw : w.region ∉ rs := by rw [ServingRecord.leftBy_region hleft, hr]; exact hnot
        rw [Option.bind_some, if_neg hw]
    · rw [if_neg hr, Option.bind_some]
      simp only [List.mem_cons, hr, false_or]

/-- A station that leaves every record (R44, R126). -/
theorem State.dropTargets_serving (s : State) (n : Station) (h : servingFormed s.serving) :
    (s.dropTargets n).serving = s.serving.filterMap (ServingRecord.leftBy n) := by
  rw [State.dropTargets, State.dropTarget_foldl_serving n _ h.1 s h]
  exact List.filterMap_congr fun v hv => if_pos (List.mem_map_of_mem hv)

/-- Write hold is not set as a target leaves, and it is cleared where the record ends with it (R127). -/
theorem State.dropTarget_writeHold (s : State) (r : Region) (n : Station) (h : servingFormed s.serving) (q : Region)
    (hq : s.table[q].writeHold = false ∨ q = r ∧ ∃ v ∈ s.serving, v.region = r ∧ v.leftBy n = none) :
    (s.dropTarget r n).table[q].writeHold = false := by
  rcases hq with hq | ⟨rfl, v, hv, hr, hleft⟩
  · unfold State.dropTarget State.putTargets
    split
    · split
      · split
        · rw [s.endServing_table]
          simp only [hq, Bool.false_and]
        · exact hq
      · exact hq
    · exact hq
  · have hthe : s.servingOf q = some v := by
      cases hfind : s.servingOf q with
      | none =>
        have := List.find?_eq_none.1 hfind v hv
        simp [hr] at this
      | some w =>
        obtain ⟨hw, hwr⟩ := State.servingOf_mem hfind
        rw [h.unique hw hv (hwr.trans hr.symm)]
    have hempty : v.without n = [] := by
      by_contra hne
      rw [ServingRecord.leftBy, if_neg hne] at hleft
      cases hleft
    have hserves : s.serves q n = true := by
      rw [State.serves, hthe]
      by_contra hno
      rw [Bool.not_eq_true, List.any_eq_false] at hno
      have hall : v.without n = v.targets := List.filter_eq_self.2 fun x hx => by simpa using hno x hx
      exact h.2 v hv (hall ▸ hempty)
    have hserved : s.served q = true := List.any_eq_true.2 ⟨v, hv, by simp [hr]⟩
    rw [State.dropTarget, hthe]
    dsimp only
    rw [if_pos hserves, State.putTargets, show (v.targets.filter fun t => t.station != n) = v.without n from rfl, hempty, hr,
      List.isEmpty_nil, if_pos rfl, s.endServing_table]
    simp [hserved]

theorem State.dropTarget_foldl_writeHold (n : Station) (rs : List Region) (hnodup : rs.Nodup) (q : Region) :
    ∀ s : State, servingFormed s.serving →
      (s.table[q].writeHold = false ∨ q ∈ rs ∧ ∃ v ∈ s.serving, v.region = q ∧ v.leftBy n = none) →
      (rs.foldl (fun t r => t.dropTarget r n) s).table[q].writeHold = false := by
  induction rs with
  | nil => exact fun s _ hq => hq.elim id fun h => absurd h.1 List.not_mem_nil
  | cons r rs ih =>
    intro s h hq
    have hserving := s.dropTarget_serving r n h
    refine ih (List.nodup_cons.1 hnodup).2 _ (hserving ▸ h.leave r n) ?_
    by_cases hqr : q = r
    · left
      refine s.dropTarget_writeHold r n h q (hq.imp id fun ⟨_, v, hv, hr, hleft⟩ => ⟨hqr, v, hv, hqr ▸ hr, hleft⟩)
    · rcases hq with hq | ⟨hmem, v, hv, hr, hleft⟩
      · exact .inl (s.dropTarget_writeHold r n h q (.inl hq))
      · refine .inr ⟨(List.mem_cons.1 hmem).resolve_left hqr, v, ?_, hr, hleft⟩
        rw [hserving]
        exact List.mem_filterMap.2 ⟨v, hv, if_neg fun e => hqr (hr.symm.trans e)⟩

/-- Out of ACTIVE and ISOLATED no pull opens, and with none open none is owed (R113). -/
theorem State.openPulls_of_not_working (s : State) (hst : s.ctl.state.working = false) (hnone : s.catchup.pulls = []) :
    s.openPulls = s := by
  have hnext : s.nextPull = none := by rw [State.nextPull, if_neg (fun h => by simp [hst] at h)]
  have hfrom : State.openPullsFrom Config.pullLimit s = s := by
    rw [show Config.pullLimit = 1 + 1 from rfl, State.openPullsFrom, hnext]
  rw [State.openPulls, hfrom, State.queuePulls, hnone]
  rfl

theorem State.differsFollows_eq (s : State) (n : Station) (st : Presence) : s.differsFollows n st = { s with
    roster := { s.roster with
      entries := s.roster.entries.set n { s.roster.entries[n] with differs := s.roster.entries[n].differs && st != .absent } } } := rfl

/-- A status change in a station that neither serves nor pulls, and whose state the count does not change. -/
theorem State.statusChange_of_idle (s : State) {n : Station} {st : Presence} (h : s.statusOf n ≠ st)
    (hst : s.ctl.state = .dozing ∨ s.ctl.state = .leaving ∨ s.ctl.state = .listening) (hserving : s.serving = [])
    (hpulls : s.catchup.pulls = []) : s.statusChange n st = { s with
      roster := { s.roster with
        entries := s.roster.entries.set n
          { s.roster.entries[n] with status := st, differs := s.roster.entries[n].differs && st != .absent } }
      events := postTo s.events (.station n st) } := by
  have hnot : s.ctl.state ≠ .active ∧ s.ctl.state ≠ .isolated := by rcases hst with hst | hst | hst <;> simp [hst]
  have hquorum : (s.statusTold n st).quorumCheck = s.statusTold n st :=
    State.quorumCheck_of_stands _ (fun h => absurd h hnot.1) (fun h => absurd h hnot.2)
  have htargets : (s.statusTold n st).targetsFollow n st = s.statusTold n st := by
    rw [State.targetsFollow, State.dropTargets, show (s.statusTold n st).serving = [] from hserving]
    exact ite_self _
  have hpulling : (s.statusTold n st).openPulls = s.statusTold n st :=
    State.openPulls_of_not_working _ ((StationState.working_eq_false_iff _).2 hnot) hpulls
  rw [s.statusChange_of_ne h, hquorum, htargets, hpulling, State.differsFollows_eq]
  simp [State.statusTold]

/-- The serving table after a status change (R44, R126). -/
theorem State.statusChange_serving (s : State) {n : Station} {st : Presence} (h : s.statusOf n ≠ st)
    (hformed : servingFormed s.serving) :
    (s.statusChange n st).serving = if st.counted then s.serving else s.serving.filterMap (ServingRecord.leftBy n) := by
  have hsame : (s.statusTold n st).quorumCheck.serving = s.serving := State.quorumCheck_serving _
  rw [s.statusChange_of_ne h, State.differsFollows_serving, State.openPulls_serving, State.targetsFollow]
  split
  · exact hsame
  · rw [State.dropTargets_serving _ n (hsame.symm ▸ hformed), hsame]

/-- A record that ends with a target fallen SILENT or ABSENT clears its write hold (R127). -/
theorem State.statusChange_writeHold (s : State) {n : Station} {st : Presence} (h : s.statusOf n ≠ st)
    (hformed : servingFormed s.serving) (hst : st.counted = false) {v : ServingRecord} (hv : v ∈ s.serving)
    (hleft : v.leftBy n = none) : (s.statusChange n st).table[v.region].writeHold = false := by
  have hsame : (s.statusTold n st).quorumCheck.serving = s.serving := State.quorumCheck_serving _
  rw [s.statusChange_of_ne h, State.differsFollows_table, State.openPulls_table, State.targetsFollow, if_neg (by simp [hst])]
  exact State.dropTarget_foldl_writeHold n _ (hsame.symm ▸ hformed.1) v.region _ (hsame.symm ▸ hformed)
    (.inr ⟨by rw [hsame]; exact List.mem_map_of_mem hv, v, hsame.symm ▸ hv, rfl, hleft⟩)

theorem Presence.counted_iff (st : Presence) : st.counted = true ↔ st = .present ∨ st = .dozing := by
  cases st <;> simp [Presence.counted]

theorem Presence.counted_eq_false_iff (st : Presence) : st.counted = false ↔ st = .silent ∨ st = .absent := by
  cases st <;> simp [Presence.counted]

theorem State.silence_eq (s : State) (n : Station) :
    s.silence n = if s.statusOf n = .present ∨ s.statusOf n = .dozing then s.statusChange n .silent else s := by
  simp only [State.silence, Presence.counted_iff]

theorem State.silenceRuns_of (s : State) {n : Station} (hother : n ≠ s.own) (hmember : s.isMember n = true)
    (htimer : s.roster.entries[n].timer ≠ none) : s.silenceRuns n = true := by
  rw [State.silenceRuns, hmember, Option.isSome_iff_ne_none.2 htimer, bne_iff_ne.2 hother]
  rfl

/-- Settles O51: the expiries as the timed roster with its status change, and the change of R44 step by step. -/
theorem silenceStrangerAndBeaconTimers : Obligations.SilenceStrangerAndBeaconTimers := by
  refine ⟨fun s n hon hother hmember htimer => ⟨?silent, ?absent, fun hst hserving st hne hpulls => s.statusChange_of_idle hne hst hserving hpulls,
    fun st hne hnodup htargets => ?left⟩, fun s n st hne => ?told, fun s n hon => ⟨?stranger, fun hbeacon => ?beacon⟩⟩
  case silent =>
    have hruns := s.silenceRuns_of hother hmember htimer
    let timed := s.timedAt n (s.roster.entries[n].timer.map (fun k => max k 24))
    have hstatus : timed.statusOf n = s.statusOf n := s.timedAt_statusOf n n _
    have hexec : exec (.silenceTimer24ms n) s = .next (timed.silence n).resume := by
      rw [exec, execSilenceTimer24ms, State.whenOn_of_on _ hon, if_pos hruns]
      rfl
    have hchanged (hcounted : s.statusOf n = .present ∨ s.statusOf n = .dozing) :
        (timed.silence n).resume.roster.entries[n].status = .silent := by
      rw [State.resume_roster, State.silence_eq, hstatus, if_pos hcounted, State.statusChange_entry]
    refine ⟨_, hexec, ?_, hchanged, fun hnot => ?_, ?_, ?_, fun m hm => ?_⟩
    · rw [State.silence_eq, hstatus]
      rfl
    · have hstays : timed.silence n = timed := by
        rw [State.silence_eq, hstatus, if_neg]
        rcases hnot with h | h <;> simp [h]
      rw [hstays]
      exact ⟨by rw [State.statusOf, State.resume_roster]; exact hstatus, State.resume_events _⟩
    · rw [State.resume_roster, State.silence_eq]
      split
      · rw [State.statusChange_entry, State.timedAt_entry]
      · rw [State.timedAt_entry]
    · rw [State.resume_roster, State.silence_eq]
      split
      · rw [State.statusChange_entry, State.timedAt_entry]; simp
      · rw [State.timedAt_entry]
    · rw [State.resume_roster, State.silence_eq]
      split
      · rw [State.statusChange_entry_other _ _ hm, State.timedAt_entry_other _ _ hm]
      · rw [State.timedAt_entry_other _ _ hm]
  case absent =>
    have hruns := s.silenceRuns_of hother hmember htimer
    have hexec : exec (.silenceTimer48ms n) s = .next (s.fallAbsent n).resume := by
      rw [exec, execSilenceTimer48ms, State.whenOn_of_on _ hon, if_pos hruns]
    let u := (s.timedAt n none).statusChange n .absent
    have hentry : u.roster.entries[n] = ⟨.absent, none, u.roster.entries[n].differs⟩ := by
      rw [State.statusChange_entry, State.timedAt_entry]
    have hfall : s.fallAbsent n = { u with roster := { u.roster with entries := u.roster.entries.set n ⟨.absent, none, false⟩ } } := by
      have hu : (s.mapRosterEntry n ({ · with timer := none })).statusChange n .absent = u := rfl
      rw [State.fallAbsent, State.differsFollows_eq, hu, hentry]
      simp
    refine ⟨_, hexec, ?_, ?_, fun m hm => ?_⟩
    · rw [hfall]; rfl
    · rw [State.resume_roster, hfall]
      exact Vector.getElem_set_self _
    · rw [State.resume_roster, hfall]
      refine (Vector.getElem_set_ne n.isLt m.isLt (Fin.val_ne_of_ne hm.symm)).trans ?_
      exact (State.statusChange_entry_other _ _ hm).trans (State.timedAt_entry_other _ _ hm)
  case left =>
    have hformed : servingFormed s.serving := ⟨hnodup, htargets⟩
    have hserving := s.statusChange_serving hne hformed
    refine ⟨fun hst => ?_, fun hst => ?_⟩
    · have hcounted := (Presence.counted_eq_false_iff st).2 hst
      rw [hcounted] at hserving
      exact ⟨hserving, fun v hv hleft => s.statusChange_writeHold hne hformed hcounted hv (if_pos hleft)⟩
    · rw [hserving, if_pos ((Presence.counted_iff st).2 hst)]
  case told =>
    intro compared served u
    have hserved : compared.targetsFollow n st = served := by
      by_cases hst : st = .silent ∨ st = .absent
      · rw [State.targetsFollow, if_neg (by simp [(Presence.counted_eq_false_iff st).2 hst])]
        exact (if_pos hst).symm
      · have hcounted : st.counted = true := by
          rw [← Bool.not_eq_false, Presence.counted_eq_false_iff]
          exact hst
        rw [State.targetsFollow, if_pos hcounted]
        exact (if_neg hst).symm
    have hdiffers : (u.roster.entries[n].differs && st != .absent) = if st = .absent then false else u.roster.entries[n].differs := by
      by_cases hst : st = .absent <;> simp [hst]
    rw [s.statusChange_of_ne hne, State.differsFollows_eq, hserved, hdiffers]
  case stranger =>
    rw [exec, execStrangerTimerExpiry, State.whenOn_of_on _ hon]
    rfl
  case beacon =>
    rw [exec, execBeaconTimerExpiry, State.whenOn_of_on _ hon, if_pos (Option.isSome_iff_ne_none.2 hbeacon)]
    rfl

end Sys2Proof.Machine
end

section
/-! SUPPORT. The frame ends of UPDATE, PULL and IMAGE (R77, R78, R116, R125): the entry being sent, and what each outcome leaves. -/

namespace Sys2Proof.Machine

-- One proof at a time: the proofs that wait for each other would hold the memory of the whole text.
set_option Elab.async false

/-! ### The entry being sent -/

/-- The entry being sent stands between two lists of entries that are not. -/
theorem State.sendingEntry_of_split {s : State} {before after : List OutEntry} {x : OutEntry}
    (hsplit : s.out.entries = before ++ x :: after) (hrest : ∀ y ∈ before ++ after, y.sending = false) (hx : x.sending = true) :
    s.sendingEntry = some x := by
  have hbefore : before.find? OutEntry.sending = none :=
    List.find?_eq_none.2 fun y hy => by simp [hrest y (List.mem_append_left _ hy)]
  rw [State.sendingEntry, hsplit, List.find?_append, hbefore, List.find?_cons_of_pos hx]
  rfl

theorem removeSending_entries {before after : List OutEntry} {x : OutEntry}
    (hrest : ∀ y ∈ before ++ after, y.sending = false) (hx : x.sending = true) :
    (before ++ x :: after).filter (fun e => !e.sending) = before ++ after := by
  have hkeep (es : List OutEntry) (hes : ∀ y ∈ es, y.sending = false) : es.filter (fun e => !e.sending) = es :=
    List.filter_eq_self.2 fun y hy => by simp [hes y hy]
  rw [List.filter_append, List.filter_cons_of_neg (by simp [hx]), hkeep before fun y hy => hrest y (List.mem_append_left _ hy),
    hkeep after fun y hy => hrest y (List.mem_append_right _ hy)]

/-- The station once the entry being sent has ended its attempt at a frame end and has left (R26, R34). -/
def State.attemptOver (s : State) (before after : List OutEntry) : State :=
  { s with
    line := { s.line with slot := none, faults := 0 }
    out := { s.out with entries := before ++ after } }

theorem State.attemptDone_removeSending {s : State} {before after : List OutEntry} {x : OutEntry}
    (hsplit : s.out.entries = before ++ x :: after) (hrest : ∀ y ∈ before ++ after, y.sending = false) (hx : x.sending = true) :
    s.attemptDone.removeSending = s.attemptOver before after := by
  have hentries : s.attemptDone.out.entries = before ++ x :: after := hsplit
  rw [State.removeSending, State.mapOut, hentries, removeSending_entries hrest hx]
  rfl

/-! ### The fence at a frame end (R84) -/

theorem State.checkFence_of_holds {s : State} (h : s.out.fence = none ∨ ∃ e ∈ s.out.entries, e.inFence = true) : s.checkFence = s := by
  rcases h with h | h
  · rw [State.checkFence, h]
  · exact s.checkFence_of_inFence (List.any_eq_true.2 h)

/-- A discard that spares the in-fence entries and the claims is a removal, and a look at the fence. -/
theorem State.discardEntries_of_unlisted (s : State) {p : OutEntry → Bool}
    (hspared : ∀ e, p e = true → e.inFence = false ∧ e.isHost = false ∧ e.isSweep = false) :
    s.discardEntries p false = State.checkFence { s with
      out := { s.out with entries := removalAsked p s.out.entries } } := by
  have hhost := goesNow_of_spared (es := s.out.entries) fun e _ he => (hspared e he).2.1
  have hsweep := goesNow_of_spared (es := s.out.entries) fun e _ he => (hspared e he).2.2
  have hnone : (s.out.entries.filter (goesNow p)).countP OutEntry.inFence = 0 := by
    have hfence := goesNow_of_spared (es := s.out.entries) fun e _ he => (hspared e he).1
    simpa [List.countP_eq_zero] using hfence
  have hkept : s.out.discarded p false = { s.out with entries := removalAsked p s.out.entries } := by
    simp only [Outbox.discarded, Outbox.withoutAll, hhost, hsweep, hnone, keptEntries_eq_removalAsked, Nat.add_zero]
    congr 1
    exact Option.map_id'
  rw [State.discardEntries_eq, State.checkFence_eq, hkept]
  rfl

/-! ### UPDATE (R77, R78) -/

theorem inMap_and {n : Nat} (a b : BitVec n) (i : Fin n) : inMap (a &&& b) i = (inMap a i && inMap b i) := by simp [inMap]

theorem inMap_not {n : Nat} (a : BitVec n) (i : Fin n) : inMap (~~~ a) i = !inMap a i := by simp [inMap]

/-- The missing set of an UPDATE (R77). -/
theorem State.missing_iff (s : State) (r : Region) (ack : StationMap) (n : Station) :
    inMap (s.expected r &&& ~~~ ack) n = true ↔ n ≠ s.own ∧ s.isMember n = true ∧ s.statusOf n = .present
      ∧ s.serves r n = false ∧ inMap ack n = false := by
  rw [inMap_and, inMap_not, State.expected, inMap_mapOf]
  simp only [Bool.and_eq_true, bne_iff_ne, beq_iff_eq, Bool.not_eq_true', and_assoc]

/-- An UPDATE that waits again after a frame end with stations missing (R78). -/
theorem State.attemptDone_retryUpdate {s : State} {before after : List OutEntry} {r : Region} {u : UpdateEntry}
    (hsplit : s.out.entries = before ++ ⟨r, .update u, true, .none⟩ :: after) (hrest : ∀ y ∈ before ++ after, y.sending = false) :
    s.attemptDone.retryUpdate = { s with
      line := { s.line with slot := none, faults := 0 }
      out := { s.out with
        entries := before ++ ⟨r, .update { u with retries := u.retries + 1 }, false, .none⟩ :: after } } := by
  have hentries : s.attemptDone.out.entries = before ++ ⟨r, .update u, true, .none⟩ :: after := hsplit
  have hkeep (es : List OutEntry) (hes : ∀ y ∈ es, y.sending = false) : es.map (fun x =>
      if x.sending then { x.mapUpdate (fun u => { u with retries := u.retries + 1 }) with sending := false } else x) = es :=
    (List.map_congr_left fun y hy => by rw [hes y hy]; rfl).trans (List.map_id es)
  rw [State.retryUpdate, State.mapOut, hentries, List.map_append, List.map_cons,
    hkeep before fun y hy => hrest y (List.mem_append_left _ hy), hkeep after fun y hy => hrest y (List.mem_append_right _ hy)]
  rfl

/-- Settles O49: the missing set, then the outcomes of `State.settleUpdate` one by one. -/
theorem updateFrameEnds : Obligations.UpdateFrameEnds := by
  intro s f ack hon
  refine ⟨fun bit acked hslot hrx => ?receiver, fun w r u doom before after hslot hsplit hrest => ?origin, fun x hx hnone => ?fence,
    fun h => State.checkFence_of_holds h⟩
  case receiver =>
    rw [exec, execUpdateFrameEnd, State.whenOn_of_on _ hon, hslot, hrx]
    rfl
  case fence =>
    exact s.checkFence_of_done hx (by simpa using hnone)
  case origin =>
    have hsending : s.sendingEntry = some ⟨r, .update u, true, doom⟩ := State.sendingEntry_of_split hsplit hrest rfl
    have hover := State.attemptDone_removeSending hsplit hrest rfl
    have hexec : exec (.updateFrameEnd ack) s
        = .next (State.afterAttempt (s.attemptDone.settleUpdate r u doom (s.expected r &&& ~~~ ack))) := by
      rw [exec, execUpdateFrameEnd, State.whenOn_of_on _ hon, hslot]
      dsimp only
      rw [State.ownUpdateEnd, hsending]
    refine ⟨s.expected r &&& ~~~ ack, s.missing_iff r ack, fun hnone => ?_, fun hsome hdoom => ?_, fun hsome hdoom hretry => ?_,
      fun hsome hdoom hretry => ?_⟩
    · rw [hexec, State.settleUpdate.eq_def, if_pos hnone, hover]
      rfl
    · rw [hexec, State.settleUpdate.eq_def, if_neg hsome, hover]
      cases doom with
      | none => exact absurd rfl hdoom
      | cut => cases hin : u.inFence <;> simp [State.departed, State.attemptOver, State.mapCtl, State.setCtl, State.mapOut, State.setOut, Controller.countCut, Outbox.without, hin]
      | discard => cases hin : u.inFence <;> simp [State.departed, State.attemptOver, State.mapCtl, State.setCtl, State.mapOut, State.setOut, Controller.countCut, Outbox.without, hin]
    · subst hdoom
      rw [hexec, State.settleUpdate.eq_def, if_neg hsome]
      dsimp only
      rw [if_pos (by exact hretry), State.attemptDone_retryUpdate hsplit hrest]
    · subst hdoom
      rw [hexec, State.settleUpdate.eq_def, if_neg hsome]
      dsimp only
      rw [if_neg (Nat.not_lt.2 (by exact hretry)), hover, State.settledShort]
      cases u.inFence <;> rfl

/-! ### IMAGE (R125, R126) -/

/-- Settles O50: the record with the map applied, and the end of a record by `State.endServing_of_served`. -/
theorem imageFrameEnds : Obligations.ImageFrameEnds := by
  intro s f ack hon
  refine ⟨fun bit acked hslot hrx => ?receiver, fun w r i doom before after v hslot hserving hsplit hrest => ?origin,
    fun r => ⟨fun hnone => ?unserved, fun hserved => ?ended⟩, fun h => State.checkFence_of_holds h⟩
  case receiver =>
    rw [exec, execImageFrameEnd, State.whenOn_of_on _ hon, hslot, hrx]
    rfl
  case unserved => exact s.endServing_of_not_served ((s.servingOf_eq_none_iff r).1 hnone)
  case ended =>
    have hs : s.served r = true := by
      rw [← Bool.not_eq_false, ← s.servingOf_eq_none_iff]
      exact hserved
    have harb : s.arbAfterServing (fun q => q == r) = (match s.arb.op with
        | some (.chunkRead q k stamp live) => { s.arb with op := some (.chunkRead q k stamp (live && q != r)) }
        | _ => s.arb) := by
      rw [s.arbAfterServing_eq]
      generalize s.arb = a
      rcases a with ⟨_ | (_ | _ | _ | _ | _), streak, wait⟩ <;> rfl
    rw [s.endServing_of_served hs, State.discardEntries_of_unlisted _ (imageOf_spared r), harb, State.mapEntry]
    have hentries : removalAsked (imageOf r) s.out.entries
        = (s.out.entries.filter (fun x => !(x.isImage && x.region == r && !x.sending))).map (fun x =>
            if x.isImage = true ∧ x.region = r ∧ x.doom = .none then { x with doom := .discard } else x) := by
      rw [removalAsked_eq]
      refine List.map_congr_left fun x _ => ?_
      simp only [OutEntry.asked, imageOf, Bool.and_eq_true, beq_iff_eq, and_assoc]
    rw [State.checkFence_table]
    simp only [State.setArb, State.dropServing, State.setServing, hentries] <;> rfl
  case origin =>
    have hsending : s.sendingEntry = some ⟨r, .image i, true, doom⟩ := State.sendingEntry_of_split hsplit hrest rfl
    have hover := State.attemptDone_removeSending hsplit hrest rfl
    have hr := (State.servingOf_mem hserving).2
    intro u heard left
    have hexec : exec (.imageFrameEnd ack) s = .next (s.ownImageEnd ack).afterAttempt := by
      rw [exec, execImageFrameEnd, State.whenOn_of_on _ hon, hslot]
    have hleft : (v.targets.map (fun t => t.heard i ack)).filter Target.stays = left := by
      refine List.filter_congr fun q _ => ?_
      rw [Target.stays, Bool.eq_iff_iff]
      simp
    have hread (hdoom : doom = .none) : s.ownImageEnd ack = u.putTargets v left := by
      subst hdoom
      rw [State.ownImageEnd, hsending]
      dsimp only
      rw [hserving]
      dsimp only
      rw [hover, State.imageAcked, hleft]
      rfl
    refine ⟨fun hdoom => ?_, fun hdoom hsome => ?_, fun hdoom hnone => ?_⟩
    · rw [hexec, State.ownImageEnd, hsending]
      cases doom with
      | none => exact absurd rfl hdoom
      | cut | discard => dsimp only; rw [hover]; rfl
    · have hput : u.putServing { v with targets := left } = { u with
          serving := s.serving.map (fun x => if x.region = r then { v with targets := left } else x) } := by
        subst hr; rfl
      rw [hexec, hread hdoom, State.putTargets, if_neg (by simpa using hsome), hput]
    · rw [hexec, hread hdoom, hnone, State.putTargets, hr]
      rfl

/-! ### PULL (R116) -/

/-- The open record of a region, between records of other regions. -/
theorem State.pullOf_of_split {s : State} {others more : List PullRecord} {p : PullRecord}
    (hpulls : s.catchup.pulls = others ++ p :: more) (hothers : ∀ x ∈ others ++ more, x.region ≠ p.region) :
    s.pullOf p.region = some p := by
  have hnone : others.find? (fun q => q.region == p.region) = none :=
    List.find?_eq_none.2 fun x hx => by simpa using hothers x (List.mem_append_left _ hx)
  rw [State.pullOf, hpulls, List.find?_append, hnone, List.find?_cons_of_pos (by simp)]
  rfl

theorem filter_region_of_split {others more : List PullRecord} {p : PullRecord}
    (hothers : ∀ x ∈ others ++ more, x.region ≠ p.region) :
    (others ++ p :: more).filter (fun q => q.region != p.region) = others ++ more := by
  have hkeep (ps : List PullRecord) (hps : ∀ x ∈ ps, x.region ≠ p.region) : ps.filter (fun q => q.region != p.region) = ps :=
    List.filter_eq_self.2 fun x hx => by simpa using hps x hx
  rw [List.filter_append, List.filter_cons_of_neg (by simp), hkeep others fun x hx => hothers x (List.mem_append_left _ hx),
    hkeep more fun x hx => hothers x (List.mem_append_right _ hx)]

/-- A record put in the place of the one of its region. -/
theorem map_region_of_split {others more : List PullRecord} {p q : PullRecord}
    (hothers : ∀ x ∈ others ++ more, x.region ≠ p.region) :
    (others ++ p :: more).map (fun x => if x.region = p.region then q else x) = others ++ q :: more := by
  have hkeep (ps : List PullRecord) (hps : ∀ x ∈ ps, x.region ≠ p.region) :
      ps.map (fun x => if x.region = p.region then q else x) = ps :=
    (List.map_congr_left fun x hx => if_neg (hps x hx)).trans (List.map_id ps)
  rw [List.map_append, List.map_cons, if_pos rfl, hkeep others fun x hx => hothers x (List.mem_append_left _ hx),
    hkeep more fun x hx => hothers x (List.mem_append_right _ hx)]

/-- Settles O48: the record of the region between the others, and the two outcomes of `State.pullAnswered`. -/
theorem pullFrameEnds : Obligations.PullFrameEnds := by
  intro s f ack hon
  refine ⟨fun bit acked hslot hrx => ?receiver, fun w force doom before after others p more hslot hpulls hothers hsplit hrest => ?origin⟩
  case receiver =>
    rw [exec, execPullFrameEnd, State.whenOn_of_on _ hon, hslot, hrx]
    rfl
  case origin =>
    have hsending : s.sendingEntry = some ⟨p.region, .pull force, true, doom⟩ := State.sendingEntry_of_split hsplit hrest rfl
    have hover := State.attemptDone_removeSending hsplit hrest rfl
    have hpull := State.pullOf_of_split hpulls hothers
    have hexec : exec (.pullFrameEnd ack) s = .next (s.ownPullEnd ack).afterAttempt := by
      rw [exec, execPullFrameEnd, State.whenOn_of_on _ hon, hslot]
    intro u
    have hread (hdoom : doom = .none) : s.ownPullEnd ack = u.pullAnswered p ack := by
      subst hdoom
      rw [State.ownPullEnd, hsending]
      dsimp only
      rw [hpull]
      dsimp only
      rw [hover]
      rfl
    refine ⟨fun hdoom => ?_, fun hdoom hbit => ?_, fun hdoom hbit => ?_⟩
    · rw [hexec, State.ownPullEnd, hsending]
      cases doom with
      | none => exact absurd rfl hdoom
      | cut | discard => dsimp only; rw [hover]; rfl
    · have hdropped : u.catchup.pulls.filter (fun q => q.region != p.region) = others ++ more := by
        rw [show u.catchup.pulls = others ++ p :: more from hpulls]
        exact filter_region_of_split hothers
      rw [hexec, hread hdoom, State.pullAnswered, if_pos hbit, State.dropPull, State.mapCatchup, State.mapEntry_catchup, hdropped]
      rfl
    · have hput : u.catchup.pulls.map (fun q => if q.region = p.awaitAnswer.region then p.awaitAnswer else q)
          = others ++ p.awaitAnswer :: more := by
        rw [show u.catchup.pulls = others ++ p :: more from hpulls]
        exact map_region_of_split hothers
      rw [hexec, hread hdoom, State.pullAnswered, if_neg (by simp [hbit]), State.putPull, State.mapCatchup, hput]
      rfl

end Sys2Proof.Machine
end

section
/-! SUPPORT. The answer timer of a pull (R118, R119), and the end of a CLAIM (R90, R95, R97, R99, R105). -/

namespace Sys2Proof.Machine

-- One proof at a time: the proofs that wait for each other would hold the memory of the whole text.
set_option Elab.async false

/-! ### The answer timer (R118) -/

/-- Records that are owed nothing queue no PULL entry. -/
theorem State.foldl_queuePull_of_none_owed {ps : List PullRecord} (h : ∀ p ∈ ps, p.owed = false) (s : State) :
    ps.foldl State.queuePull s = s := by
  induction ps with
  | nil => rfl
  | cons p ps ih =>
    have hsame : s.queuePull p = s := by rw [State.queuePull, h p (List.mem_cons_self ..)]; rfl
    rw [List.foldl_cons, hsame]
    exact ih fun q hq => h q (List.mem_cons_of_mem _ hq)

/-- The PULL entries owed to the records of a list in which one alone may be owed one. -/
theorem State.queuePulls_of_split {s : State} {others more : List PullRecord} {p : PullRecord}
    (hpulls : s.catchup.pulls = others ++ p :: more) (hothers : ∀ x ∈ others ++ more, x.owed = false) :
    s.queuePulls = s.queuePull p := by
  rw [State.queuePulls, hpulls, List.foldl_append, List.foldl_cons,
    State.foldl_queuePull_of_none_owed fun x hx => hothers x (List.mem_append_left _ hx),
    State.foldl_queuePull_of_none_owed fun x hx => hothers x (List.mem_append_right _ hx)]

/-- A PULL entry that is owed and has room is appended, and owed no more (R65, R115). -/
theorem State.queuePull_of_room {s : State} {p : PullRecord} (howed : p.owed = true)
    (hroom : s.out.entries.countP OutEntry.isPull < 2) : s.queuePull p = { s with
      out := { s.out with entries := s.out.entries
        ++ [⟨p.region, .pull (s.table[p.region].copy == .fetching .damaged || p.taken), false, .none⟩] }
      catchup := { s.catchup with
        pulls := s.catchup.pulls.map (fun q => if q.region = p.region then { q with owed := false } else q) } } := by
  rw [State.queuePull, if_pos (by simpa [howed, Config.pullEntryLimit] using hroom)]
  rfl

theorem State.queuePull_of_full {s : State} {p : PullRecord} (hfull : 2 ≤ s.out.entries.countP OutEntry.isPull) :
    s.queuePull p = s := by
  rw [State.queuePull, if_neg]
  exact fun h => Nat.not_lt.2 hfull (of_decide_eq_true (Bool.and_elim_right h))

theorem State.pullStands_iff (s : State) (r : Region) :
    s.pullStands r = true ↔ ∃ x ∈ s.out.entries, x.isPull = true ∧ x.region = r ∧ x.doom = .none := by
  simp only [State.pullStands, pullEntryOf, List.any_eq_true, Bool.and_eq_true, beq_iff_eq, and_assoc]

/-- The closure of a pull with an open fence that has an entry, in ACTIVE and ISOLATED, its region parked (R119). -/
theorem State.closePull_parked {s : State} {others more : List PullRecord} {p : PullRecord} {k : Cause}
    (hpulls : s.catchup.pulls = others ++ p :: more) (hothers : ∀ x ∈ others ++ more, x.region ≠ p.region)
    (hcopy : s.table[p.region].copy = .fetching k) (hst : s.ctl.state = .active ∨ s.ctl.state = .isolated)
    (hfence : s.out.fenceHolds) :
    s.closePull p.region true = { s.setEntry p.region { s.table[p.region] with copy := .stale (if p.taken then .damaged else k) } with
      catchup := { s.catchup with pulls := others ++ more, parked := addBit s.catchup.parked p.region }
      out := { s.out with entries := removalAsked (pullEntryOf p.region) s.out.entries }
      events := postTo s.events (.regionStale p.region (if p.taken then .damaged else k)) } := by
  have hpull := State.pullOf_of_split hpulls hothers
  have hdropped : s.dropPull p.region = { s with catchup := { s.catchup with pulls := others ++ more } } := by
    rw [State.dropPull, State.mapCatchup, hpulls, filter_region_of_split hothers]
    rfl
  have hchecked : (s.dropPull p.region).discardEntries (pullEntryOf p.region) false = { s with
      catchup := { s.catchup with pulls := others ++ more }
      out := { s.out with entries := removalAsked (pullEntryOf p.region) s.out.entries } } := by
    rw [hdropped, State.discardEntries_of_unlisted _ (pullEntryOf_spared p.region)]
    refine State.checkFence_of_holds ?_
    by_cases hopen : s.out.fence = none
    · exact .inl hopen
    · exact .inr (removalAsked_inFence (fun e he => (pullEntryOf_spared p.region e he).1) (hfence hopen))
  have hclosed : closedCopy p.taken s.table[p.region].copy = .stale (if p.taken then .damaged else k) := by rw [hcopy]; rfl
  rw [s.closePull_of_pulled true hpull, hchecked, State.mapEntry]
  simp only [hclosed]
  rw [State.afterClosure, if_pos (by exact (StationState.working_iff _).2 hst), if_pos rfl, State.postStale]
  simp [State.setEntry, State.parkRegion, State.mapCatchup, State.setCatchup, State.post, State.setEvents, State.unwritten]

/-- Settles O52: a further attempt with its PULL entry by room, or the closure of `State.closePull_parked`. -/
theorem answerTimerExpires : Obligations.AnswerTimerExpires := by
  intro s others more p k hon hpulls hothers htimer howed hcopy hst
  have hregions : ∀ x ∈ others ++ more, x.region ≠ p.region := fun x hx => (hothers x hx).1
  have hexec : exec (.answerTimerExpiry p.region) s = .next (s.answerExpired p).resume := by
    rw [exec, execAnswerTimerExpiry, State.whenOn_of_on _ hon, State.pullOf_of_split hpulls hregions]
    dsimp only
    rw [if_pos (Option.isSome_iff_ne_none.2 htimer)]
  refine ⟨fun hlow => ?_, fun hhigh hfence => ?_⟩
  · intro next
    let again (owed : Bool) : PullRecord := { p with attempts := p.attempts + 1, timer := none, owed := owed }
    have hput (owed : Bool) : s.putPull (again owed) = { s with catchup := next owed } := by
      rw [State.putPull, State.mapCatchup, hpulls]
      exact congrArg (fun ps => s.setCatchup { s.catchup with pulls := ps }) (map_region_of_split hregions)
    have hqueue (owed : Bool) : ({ s with catchup := next owed } : State).queuePulls = ({ s with catchup := next owed } : State).queuePull (again owed) :=
      State.queuePulls_of_split rfl fun x hx => (hothers x hx).2
    have hexpired : s.answerExpired p = ({ s with catchup := next (!s.pullStands p.region) } : State).queuePull (again (!s.pullStands p.region)) := by
      rw [State.answerExpired, if_pos (by exact hlow), ← hqueue, ← hput]
    refine ⟨fun hdoomed => ?_, fun hstands => ?_⟩
    · have hnot : s.pullStands p.region = false := by
        rw [← Bool.not_eq_true, s.pullStands_iff]
        exact fun ⟨x, hx, hkind, hr, hdoom⟩ => hdoomed x hx hkind hr hdoom
      have hqueued : s.answerExpired p = ({ s with catchup := next true } : State).queuePull (again true) := by
        rw [hexpired, hnot]
        rfl
      rw [hexec, hqueued]
      refine ⟨fun hroom => ?_, fun hfull => ?_⟩
      · have hback : (next true).pulls.map (fun q => if q.region = p.region then { q with owed := false } else q) = (next false).pulls := by
          have hkeep (ps : List PullRecord) (hps : ∀ x ∈ ps, x.region ≠ p.region) :
              ps.map (fun q => if q.region = p.region then { q with owed := false } else q) = ps :=
            (List.map_congr_left fun x hx => if_neg (hps x hx)).trans (List.map_id ps)
          simp only [next]
          rw [List.map_append, List.map_cons, if_pos rfl, hkeep others fun x hx => hregions x (List.mem_append_left _ hx),
            hkeep more fun x hx => hregions x (List.mem_append_right _ hx)]
        have hforce : (s.table[p.region].copy == .fetching .damaged || p.taken) = (k == .damaged || p.taken) := by
          rw [hcopy]
          cases k <;> rfl
        rw [State.queuePull_of_room (s := { s with catchup := next true }) rfl hroom]
        show Host.Outcome.next (State.resume { s with
          catchup := { next true with
            pulls := (next true).pulls.map (fun q => if q.region = p.region then { q with owed := false } else q) }
          out := { s.out with entries := s.out.entries
            ++ [⟨p.region, .pull (s.table[p.region].copy == .fetching .damaged || p.taken), false, .none⟩] } }) = _
        rw [hback, hforce]
      · rw [State.queuePull_of_full (s := { s with catchup := next true }) hfull]
    · rw [hexec, hexpired, (s.pullStands_iff _).2 hstands]
      rfl
  · intro after
    have hentries : removalAsked (pullEntryOf p.region) s.out.entries
        = (s.out.entries.filter (fun x => !(x.isPull && x.region == p.region && !x.sending))).map (fun x =>
            if x.isPull = true ∧ x.region = p.region ∧ x.doom = .none then { x with doom := .discard } else x) := by
      rw [removalAsked_eq]
      refine List.map_congr_left fun x _ => ?_
      simp only [OutEntry.asked, pullEntryOf, Bool.and_eq_true, beq_iff_eq, and_assoc]
    rw [hexec, State.answerExpired, if_neg (Nat.not_lt.2 (by exact hhigh)), State.closePull_parked hpulls hregions hcopy hst hfence,
      hentries]
    rfl

end Sys2Proof.Machine
end

section
/-! SUPPORT. The claim decision (R95 to R99): what an effective claim changes at a station. -/

namespace Sys2Proof.Machine

-- One proof at a time: the proofs that wait for each other would hold the memory of the whole text.
set_option Elab.async false

/-! ### The copy at an effective claim (R96 step 1) -/

/-- A copy at the claim stamp is raised; another is marked STALE BEHIND. -/
theorem State.claimCopy_table (s : State) (r q : Region) (stamp : Stamp) : (s.claimCopy r stamp).table[q] =
    if q = r then (if s.table[r].stamp = stamp then { s.table[r] with stamp := nextEpoch stamp }
      else { s.table[r] with copy := markedCopy s.table[r].copy .behind }) else s.table[q] := by
  rw [State.claimCopy]
  split
  · rw [State.mapEntry_read]
  · rw [State.markStale_table]

/-- A mark in the catch-up list: the region is listed where it is marked, or parked and left as it is (R6, R111). -/
theorem State.markStale_catchup (s : State) (r : Region) (c : Cause) : (s.markStale r c).catchup =
    if s.ctl.state.working = true ∧ ((s.table[r].copy = .current ∨ s.table[r].copy = .stale .behind ∧ c = .damaged)
        ∨ inMap s.catchup.parked r = true)
      then (s.listRegion r).catchup else s.catchup := by
  by_cases h : s.table[r].copy = .current ∨ s.table[r].copy = .stale .behind ∧ c = .damaged
  · rw [s.markStale_of_changes r c h, State.reportMark]
    by_cases hst : s.ctl.state.working = true
    · rw [if_pos (by exact hst), if_pos ⟨hst, .inl h⟩]
      rfl
    · rw [if_neg (by exact hst), if_neg (c := s.ctl.state.working = true ∧ _) (fun e => hst e.1)]
      split <;> rfl
  · rw [s.markStale_of_not_changes r c h, State.unpark_eq]
    by_cases hst : (s.ctl.state.working && inMap s.catchup.parked r) = true
    · rw [if_pos hst, if_pos ⟨Bool.and_elim_left hst, .inr (Bool.and_elim_right hst)⟩]
      rfl
    · rw [if_neg hst, if_neg (fun e => hst (by rw [e.1, e.2.resolve_left h]; rfl))]
      rfl

/-- Whether the copy's part of a claim lists the region (R6, R111). -/
def State.claimLists (s : State) (r : Region) (stamp : Stamp) : Prop :=
  s.ctl.state.working = true ∧ s.table[r].stamp ≠ stamp ∧ (s.table[r].copy = .current ∨ inMap s.catchup.parked r = true)

theorem State.claimCopy_catchup_of_lists {s : State} {r : Region} {stamp : Stamp} (h : s.claimLists r stamp) :
    (s.claimCopy r stamp).catchup = (s.listRegion r).catchup := by
  obtain ⟨hst, hstamp, hcopy⟩ := h
  rw [State.claimCopy, if_neg hstamp, State.markStale_catchup, if_pos ⟨hst, hcopy.imp .inl id⟩]

theorem State.claimCopy_catchup_of_not {s : State} {r : Region} {stamp : Stamp} (h : ¬ s.claimLists r stamp) :
    (s.claimCopy r stamp).catchup = s.catchup := by
  rw [State.claimCopy]
  split
  · rfl
  next hstamp =>
    rw [State.markStale_catchup, if_neg]
    exact fun ⟨hst, hcopy⟩ => h ⟨hst, hstamp, hcopy.imp (fun e => e.resolve_right (fun e => by cases e.2)) id⟩

theorem State.claimCopy_pulls (s : State) (r : Region) (stamp : Stamp) : (s.claimCopy r stamp).catchup.pulls = s.catchup.pulls := by
  by_cases h : s.claimLists r stamp
  · rw [State.claimCopy_catchup_of_lists h]; rfl
  · rw [State.claimCopy_catchup_of_not h]

theorem State.claimCopy_events (s : State) (r : Region) (stamp : Stamp) : (s.claimCopy r stamp).events =
    if (s.table[r].stamp ≠ stamp ∧ s.table[r].copy = .current)
        ∧ (s.ctl.state = .active ∨ s.ctl.state = .isolated ∨ s.ctl.state = .listening)
      then postTo s.events (.regionStale r .behind) else s.events := by
  rw [State.claimCopy]
  by_cases hstamp : s.table[r].stamp = stamp
  · rw [if_pos hstamp, if_neg (fun e => e.1.1 hstamp)]
    rfl
  rw [if_neg hstamp]
  by_cases hcur : s.table[r].copy = .current
  · rw [s.markStale_events r .behind (.inl hcur)]
    exact if_congr ⟨fun h => ⟨⟨hstamp, hcur⟩, h⟩, fun h => h.2⟩ rfl rfl
  · rw [s.markStale_of_not_changes r .behind (fun e => e.elim hcur fun e => by cases e.2), State.unpark_events,
      if_neg (fun e => hcur e.1.2)]

/-! ### The owner at an effective claim (R96 step 2) -/

/-- The claimant becomes the recorded owner as another station. -/
def State.passesTo (s : State) (r : Region) (c : Station) : Bool := s.table[r].owner.map (·.station) != some c

/-- The station was the owner and the claimant is another. -/
def State.losesTo (s : State) (r : Region) (c : Station) : Bool := decide (c ≠ s.own) && s.owns r

theorem State.passesTo_of_losesTo {s : State} {r : Region} {c : Station} (h : s.losesTo r c = true) : s.passesTo r c = true := by
  rw [State.losesTo, Bool.and_eq_true, decide_eq_true_eq] at h
  rw [← s.isSelf_owner] at h
  rw [State.passesTo, s.station_of_isSelf h.2, bne_iff_ne]
  exact fun e => h.1 (Option.some.inj e).symm

/-- A change of owner to the claimant closes the pull of its region; without a change the claim closes it (R96). -/
theorem State.claimOwner_of_passes {s : State} {r : Region} {c : Station} {stamp : Stamp} (h : s.passesTo r c = true) :
    s.claimOwner c r stamp = s.changeOwner r (some ⟨c, (nextEpoch stamp).epoch⟩) := by
  have hchange : s.table[r].owner.map (·.station) ≠ (some (⟨c, (nextEpoch stamp).epoch⟩ : Owner)).map (·.station) := bne_iff_ne.1 h
  refine State.closePull_of_not_pulled _ false ?_
  rw [State.pulled, s.changeOwner_catchup r _ hchange, s.ownerHandedOn_catchup]
  simp

theorem State.claimOwner_of_stays {s : State} {r : Region} {c : Station} {stamp : Stamp} (h : s.passesTo r c = false) :
    s.claimOwner c r stamp = (s.mapEntry r ({ · with owner := some ⟨c, (nextEpoch stamp).epoch⟩ })).closePull r false := by
  have hsame : s.table[r].owner.map (·.station) = (some (⟨c, (nextEpoch stamp).epoch⟩ : Owner)).map (·.station) :=
    Decidable.not_not.1 (mt bne_iff_ne.2 (by simp [State.passesTo] at h; simp [h]))
  rw [State.claimOwner, State.changeOwner, if_pos hsame]

theorem State.losesTo_of_passes {s : State} {r : Region} {c : Station} (h : s.passesTo r c = true) : s.losesTo r c = s.owns r := by
  rw [State.losesTo]
  cases howns : s.owns r with
  | false => exact Bool.and_false _
  | true =>
    rw [← s.isSelf_owner] at howns
    rw [State.passesTo, s.station_of_isSelf howns, bne_iff_ne] at h
    rw [Bool.and_true, decide_eq_true_eq]
    exact fun e => h (by rw [e])

theorem State.losesTo_of_stays {s : State} {r : Region} {c : Station} (h : s.passesTo r c = false) : s.losesTo r c = false :=
  Bool.eq_false_iff.2 fun hlose => by rw [State.passesTo_of_losesTo hlose] at h; cases h

theorem State.isSelf_some (s : State) (c : Station) (e : Epoch) : s.isSelf (some ⟨c, e⟩) = (c == s.own) := rfl

/-- What the change of owner and the closure of a claim leave (R11, R96, R119): the region's entry. -/
theorem State.claimOwner_table (s : State) (c : Station) (r : Region) (stamp : Stamp) :
    (s.claimOwner c r stamp).table[r].owner = some ⟨c, (nextEpoch stamp).epoch⟩
      ∧ (s.claimOwner c r stamp).table[r].stamp = s.table[r].stamp
      ∧ (s.claimOwner c r stamp).table[r].copy = (match s.pullOf r with
        | some p => closedCopy p.taken s.table[r].copy
        | none => s.table[r].copy)
      ∧ (s.claimOwner c r stamp).table[r].held = (s.table[r].held || (s.passesTo r c && c == s.own))
      ∧ (s.losesTo r c = true ∨ s.passesTo r c = true ∧ c = s.own → (s.claimOwner c r stamp).table[r].yieldReady = false
        ∧ (s.claimOwner c r stamp).table[r].votePending = false ∧ (s.claimOwner c r stamp).table[r].writeHold = false)
      ∧ ∀ q : Region, q ≠ r → (s.claimOwner c r stamp).table[q] = s.table[q] := by
  cases hpass : s.passesTo r c with
  | true =>
    have hchange : s.table[r].owner.map (·.station) ≠ (some (⟨c, (nextEpoch stamp).epoch⟩ : Owner)).map (·.station) :=
      bne_iff_ne.1 hpass
    obtain ⟨howner, hcopy, hheld, hflags⟩ := s.changeOwner_table r _ hchange
    rw [State.claimOwner_of_passes hpass]
    refine ⟨howner, State.changeOwner_stamp s r _ r r.isLt, hcopy, ?_, fun hgone => hflags ?_, fun q hq => s.changeOwner_table_other _ hq⟩
    · rw [hheld, s.isSelf_some, Bool.true_and]
    · rw [← State.losesTo_of_passes hpass, s.isSelf_some, beq_iff_eq]
      exact hgone.imp id (·.2)
  | false =>
    have hpull : (s.mapEntry r ({ · with owner := some ⟨c, (nextEpoch stamp).epoch⟩ })).pullOf r = s.pullOf r := rfl
    rw [State.claimOwner_of_stays hpass, State.losesTo_of_stays hpass]
    rw [Bool.false_and, Bool.or_false]
    refine ⟨?_, State.claimOwner_of_stays hpass ▸ State.claimOwner_stamp s c r stamp r r.isLt, ?_, ?_,
      fun hgone => absurd hgone (by simp), fun q hq => ?other⟩
    case other => rw [State.closePull_table_other _ _ hq, State.mapEntry_read, if_neg hq]
    all_goals
      cases hp : s.pullOf r with
      | none => rw [State.closePull, hpull, hp, State.mapEntry_read, if_pos rfl]
      | some p => rw [State.closePull_table _ _ (hpull.trans hp), if_pos rfl, State.mapEntry_read, if_pos rfl]

/-- The lists and records after the change of owner and the closure of a claim (R96, R119, R127). -/
theorem State.claimOwner_out (s : State) (c : Station) (r : Region) (stamp : Stamp) :
    let served := s.losesTo r c && s.served r
    let kept := removalAsked (fun x => x.region == r && ((x.isPull && s.pulled r) || (x.isImage && served))) s.out.entries
    (s.claimOwner c r stamp).out.entries = (if s.losesTo r c then s.turnedAway r kept else kept)
      ∧ (s.claimOwner c r stamp).serving = (if s.losesTo r c then s.serving.filter (fun v => v.region != r) else s.serving)
      ∧ (s.claimOwner c r stamp).arb = s.arbAfterServing (fun q => served && q == r)
      ∧ (s.claimOwner c r stamp).out.hostClaim = s.out.hostClaim ∧ (s.claimOwner c r stamp).out.sweep = s.out.sweep := by
  intro served kept
  cases hpass : s.passesTo r c with
  | true =>
    have hchange : s.table[r].owner.map (·.station) ≠ (some (⟨c, (nextEpoch stamp).epoch⟩ : Owner)).map (·.station) :=
      bne_iff_ne.1 hpass
    obtain ⟨hentries, -, hhost, hsweep⟩ := s.changeOwner_out r _ hchange
    have hlose := State.losesTo_of_passes hpass
    rw [State.claimOwner_of_passes hpass]
    refine ⟨?_, ?_, ?_, hhost, hsweep⟩
    · rw [hentries, hlose]
      simp only [kept, served, hlose, ← changeOwner_hits]
      cases s.owns r <;> simp
    · rw [s.changeOwner_serving r _ hchange, hlose]
    · rw [s.changeOwner_arb r _ hchange]
      simp only [served, hlose]
  | false =>
    have hlose := State.losesTo_of_stays hpass
    rw [State.claimOwner_of_stays hpass]
    refine ⟨?_, ?_, ?_, ?_, ?_⟩
    · rw [State.closePull_out, hlose]
      simp only [kept, served, hlose, ← changeOwner_hits]
      simp
      rfl
    · rw [State.closePull_serving, hlose]
      rfl
    · rw [State.closePull_arb, s.arbAfterServing_of_none (by simp [served, hlose])]
      rfl
    · rw [State.closePull_out]
      rfl
    · rw [State.closePull_out]
      rfl

theorem State.claimOwner_catchup (s : State) (c : Station) (r : Region) (stamp : Stamp) :
    let lists := s.ctl.state.working && (s.pulled r || s.passesTo r c && inMap s.catchup.parked r)
    (s.claimOwner c r stamp).catchup = { s.catchup with
      pulls := s.catchup.pulls.filter (fun q => q.region != r)
      list := if lists then (if r ∈ s.catchup.list then s.catchup.list else s.catchup.list ++ [r]) else s.catchup.list
      parked := if lists then dropBit s.catchup.parked r else s.catchup.parked } := by
  intro lists
  cases hpass : s.passesTo r c with
  | true =>
    have hchange : s.table[r].owner.map (·.station) ≠ (some (⟨c, (nextEpoch stamp).epoch⟩ : Owner)).map (·.station) :=
      bne_iff_ne.1 hpass
    rw [State.claimOwner_of_passes hpass, s.changeOwner_catchup r _ hchange, s.ownerHandedOn_catchup]
    simp only [lists, hpass, Bool.true_and]
  | false =>
    have hsame : lists = (s.pulled r && s.ctl.state.working) := by
      simp only [lists, hpass, Bool.false_and, Bool.or_false, Bool.and_comm]
    rw [State.claimOwner_of_stays hpass, State.closePull_catchup, hsame]
    rfl

/-- The posts of the closure, and the fence, where an open fence has an entry. -/
theorem State.claimOwner_of_holds (s : State) (c : Station) (r : Region) (stamp : Stamp) (h : s.out.fenceHolds) :
    (s.claimOwner c r stamp).out.fence = s.out.fence
      ∧ (s.claimOwner c r stamp).events = if s.pulled r && s.ctl.state.working then
          (match (s.claimOwner c r stamp).table[r].copy with
            | .stale k => postTo s.events (.regionStale r k)
            | .current | .fetching _ => s.events)
        else s.events := by
  cases hpass : s.passesTo r c with
  | true =>
    have hchange : s.table[r].owner.map (·.station) ≠ (some (⟨c, (nextEpoch stamp).epoch⟩ : Owner)).map (·.station) :=
      bne_iff_ne.1 hpass
    obtain ⟨hfence, hevents⟩ := s.changeOwner_of_holds r _ hchange h
    have hcopy : (s.changeOwner r (some ⟨c, (nextEpoch stamp).epoch⟩)).table[r].copy
        = (s.ownerHandedOn r (some ⟨c, (nextEpoch stamp).epoch⟩)).table[r].copy := by
      rw [(s.changeOwner_table r _ hchange).2.1, s.ownerHandedOn_table]
    rw [State.claimOwner_of_passes hpass]
    exact ⟨hfence, by rw [hevents, (s.ownerHandedOn_of_holds r _ h).2.2, hcopy] <;> rfl⟩
  | false =>
    rw [State.claimOwner_of_stays hpass]
    exact State.closePull_of_holds _ r false h

/-! ### The whole of an effective claim (R96, R98) -/

/-- What the copy's part leaves for the owner's part to look at. -/
theorem State.claimCopy_same (s : State) (r : Region) (stamp : Stamp) (c : Station) :
    (s.claimCopy r stamp).losesTo r c = s.losesTo r c ∧ (s.claimCopy r stamp).passesTo r c = s.passesTo r c
      ∧ (s.claimCopy r stamp).pullOf r = s.pullOf r ∧ (s.claimCopy r stamp).pulled r = s.pulled r
      ∧ (s.claimCopy r stamp).served r = s.served r
      ∧ (∀ es, (s.claimCopy r stamp).turnedAway r es = s.turnedAway r es)
      ∧ (∀ p, (s.claimCopy r stamp).arbAfterServing p = s.arbAfterServing p)
      ∧ (s.claimCopy r stamp).table[r].owner = s.table[r].owner := by
  have howner : (s.claimCopy r stamp).table[r].owner = s.table[r].owner := by
    rw [s.claimCopy_table, if_pos rfl]
    split <;> rfl
  have howns : (s.claimCopy r stamp).owns r = s.owns r := by
    rw [← State.isSelf_owner, ← State.isSelf_owner, howner, State.isSelf, State.isSelf, State.own, State.own, State.claimCopy_ctl]
  refine ⟨?_, ?_, ?_, ?_, ?_, fun es => ?_, fun p => ?_, howner⟩
  · rw [State.losesTo, State.losesTo, howns, State.own, State.own, State.claimCopy_ctl]
  · rw [State.passesTo, State.passesTo, howner]
  · rw [State.pullOf, State.pullOf, s.claimCopy_pulls]
  · rw [State.pulled, State.pulled, s.claimCopy_pulls]
  · rw [State.served, State.served, State.claimCopy_serving]
  · rw [State.turnedAway_eq, State.turnedAway_eq, State.abandons, State.abandons, State.claimCopy_port, State.claimCopy_arb]
  · rw [State.arbAfterServing, State.arbAfterServing, State.claimCopy_arb]

theorem State.yielded_table (s : State) (r q : Region) (former : Bool) : (s.yielded r former).table[q] =
    if q = r ∧ former = true then { s.table[r] with held := false } else s.table[q] := by
  cases former with
  | false => simp [State.yielded]
  | true =>
    rw [State.yielded, if_pos rfl, State.post_table, State.dropHeld, State.mapEntry_read]
    simp only [and_true]

theorem State.yielded_events (s : State) (r : Region) (former : Bool) :
    (s.yielded r former).events = if former then postTo s.events (.ownershipLost r false) else s.events := by
  cases former <;> rfl

theorem State.applyClaim_eq (s : State) (c : Station) (r : Region) (stamp : Stamp) :
    s.applyClaim c r stamp = ((s.claimCopy r stamp).claimOwner c r stamp).yielded r (s.losesTo r c) := by
  have hlose : (s.owns r && c != s.own) = s.losesTo r c := by
    rw [State.losesTo, Bool.and_comm]
    congr 1
    rw [Bool.eq_iff_iff, bne_iff_ne, decide_eq_true_eq]
  rw [State.applyClaim, hlose]

/-- The entries, records and arbiter after an effective claim (R96, R119, R127). -/
theorem State.applyClaim_out (s : State) (c : Station) (r : Region) (stamp : Stamp) :
    let served := s.losesTo r c && s.served r
    let kept := removalAsked (fun x => x.region == r && ((x.isPull && s.pulled r) || (x.isImage && served))) s.out.entries
    (s.applyClaim c r stamp).out.entries = (if s.losesTo r c then s.turnedAway r kept else kept)
      ∧ (s.applyClaim c r stamp).serving = (if s.losesTo r c then s.serving.filter (fun v => v.region != r) else s.serving)
      ∧ (s.applyClaim c r stamp).arb = s.arbAfterServing (fun q => served && q == r)
      ∧ (s.applyClaim c r stamp).out.hostClaim = s.out.hostClaim ∧ (s.applyClaim c r stamp).out.sweep = s.out.sweep := by
  obtain ⟨hlose, -, -, hpulled, hserved, haway, harb, -⟩ := s.claimCopy_same r stamp c
  obtain ⟨hentries, hserving, harbiter, hhost, hsweep⟩ := (s.claimCopy r stamp).claimOwner_out c r stamp
  simp only [hlose, hpulled, hserved, haway, harb, State.claimCopy_out, State.claimCopy_serving] at hentries hserving harbiter hhost hsweep
  rw [s.applyClaim_eq, State.yielded_out, State.yielded_serving, State.yielded_arb]
  exact ⟨hentries, hserving, harbiter, hhost, hsweep⟩

/-- The region's entry after an effective claim (R96, R97, R98). -/
theorem State.applyClaim_table (s : State) (c : Station) (r : Region) (stamp : Stamp) :
    (s.applyClaim c r stamp).table[r].owner = some ⟨c, (nextEpoch stamp).epoch⟩
      ∧ (s.applyClaim c r stamp).table[r].stamp = (if s.table[r].stamp = stamp then nextEpoch stamp else s.table[r].stamp)
      ∧ (s.applyClaim c r stamp).table[r].copy = (match s.pullOf r with
        | some p => closedCopy p.taken (if s.table[r].stamp = stamp then s.table[r].copy else markedCopy s.table[r].copy .behind)
        | none => if s.table[r].stamp = stamp then s.table[r].copy else markedCopy s.table[r].copy .behind)
      ∧ (s.applyClaim c r stamp).table[r].held
        = (!s.losesTo r c && (s.table[r].held || (s.passesTo r c && c == s.own)))
      ∧ (s.losesTo r c = true ∨ s.passesTo r c = true ∧ c = s.own → (s.applyClaim c r stamp).table[r].yieldReady = false
        ∧ (s.applyClaim c r stamp).table[r].votePending = false ∧ (s.applyClaim c r stamp).table[r].writeHold = false)
      ∧ ∀ q : Region, q ≠ r → (s.applyClaim c r stamp).table[q] = s.table[q] := by
  obtain ⟨hlose, hpass, hpull, -⟩ := s.claimCopy_same r stamp c
  obtain ⟨howner, hstamp, hcopy, hheld, hflags, hother⟩ := (s.claimCopy r stamp).claimOwner_table c r stamp
  have hown : (s.claimCopy r stamp).own = s.own := by rw [State.own, State.own, State.claimCopy_ctl]
  have hbefore := s.claimCopy_table r r stamp
  rw [if_pos rfl] at hbefore
  have hkept : (s.claimCopy r stamp).table[r].held = s.table[r].held := by rw [hbefore]; split <;> rfl
  have htable := State.yielded_table ((s.claimCopy r stamp).claimOwner c r stamp) r r (s.losesTo r c)
  rw [hlose, hpass, hown] at hflags
  rw [hpass, hown, hkept] at hheld
  rw [hpull] at hcopy
  have hfields : (s.applyClaim c r stamp).table[r] = { ((s.claimCopy r stamp).claimOwner c r stamp).table[r] with
      held := !s.losesTo r c && ((s.claimCopy r stamp).claimOwner c r stamp).table[r].held } := by
    rw [s.applyClaim_eq, htable]
    cases s.losesTo r c with
    | false => rw [if_neg (by simp)]; rfl
    | true => rw [if_pos ⟨rfl, rfl⟩]; rfl
  rw [hfields]
  refine ⟨howner, ?_, ?_, ?_, hflags, fun q hq => ?_⟩
  · refine hstamp.trans ?_
    rw [hbefore]
    split <;> rfl
  · refine hcopy.trans ?_
    rw [hbefore]
    split <;> split <;> rfl
  · rw [← hheld]
  · rw [s.applyClaim_eq, State.yielded_table, if_neg (fun e => hq e.1), hother q hq, s.claimCopy_table, if_neg hq]

/-- The catch-up unit after an effective claim (R6, R96, R110, R119). -/
theorem State.applyClaim_catchup (s : State) (c : Station) (r : Region) (stamp : Stamp) :
    let before := (s.claimCopy r stamp).catchup
    let lists := s.ctl.state.working && (s.pulled r || s.passesTo r c && inMap before.parked r)
    (s.applyClaim c r stamp).catchup = { s.catchup with
      pulls := s.catchup.pulls.filter (fun q => q.region != r)
      list := if lists then (if r ∈ before.list then before.list else before.list ++ [r]) else before.list
      parked := if lists then dropBit before.parked r else before.parked } := by
  obtain ⟨-, hpass, -, hpulled, -⟩ := s.claimCopy_same r stamp c
  have hcatchup := (s.claimCopy r stamp).claimOwner_catchup c r stamp
  rw [hpass, hpulled, s.claimCopy_pulls] at hcatchup
  simp only [State.claimCopy_ctl] at hcatchup
  rw [s.applyClaim_eq, State.yielded_catchup]
  exact hcatchup

/-- The posts of an effective claim and the fence, where an open fence has an entry. -/
theorem State.applyClaim_of_holds (s : State) (c : Station) (r : Region) (stamp : Stamp) (h : s.out.fenceHolds) :
    (s.applyClaim c r stamp).out.fence = s.out.fence
      ∧ (s.applyClaim c r stamp).events =
        let marked := (s.claimCopy r stamp).events
        let closed := if s.pulled r && s.ctl.state.working then
            (match (s.applyClaim c r stamp).table[r].copy with
              | .stale k => postTo marked (.regionStale r k)
              | .current | .fetching _ => marked)
          else marked
        if s.losesTo r c then postTo closed (.ownershipLost r false) else closed := by
  obtain ⟨-, -, -, hpulled, -⟩ := s.claimCopy_same r stamp c
  obtain ⟨hfence, hevents⟩ := (s.claimCopy r stamp).claimOwner_of_holds c r stamp (by rw [State.claimCopy_out]; exact h)
  have hcopy : (s.applyClaim c r stamp).table[r].copy = ((s.claimCopy r stamp).claimOwner c r stamp).table[r].copy := by
    rw [s.applyClaim_eq, State.yielded_table]
    split <;> rfl
  rw [hpulled, State.claimCopy_ctl] at hevents
  rw [State.claimCopy_out] at hfence
  refine ⟨by rw [s.applyClaim_eq, State.yielded_out, hfence], ?_⟩
  rw [hcopy, s.applyClaim_eq, State.yielded_events, hevents]

/-- The front list of a former owner (R52). -/
theorem State.applyClaim_front (s : State) (c : Station) (r : Region) (stamp : Stamp) (h : s.losesTo r c = true) :
    r ∉ (s.applyClaim c r stamp).roster.front := by
  obtain ⟨hlose, -⟩ := s.claimCopy_same r stamp c
  have hpass : (s.claimCopy r stamp).passesTo r c = true := State.passesTo_of_losesTo (hlose.trans h)
  have howns : (s.claimCopy r stamp).owns r = true := by rw [← State.losesTo_of_passes hpass, hlose, h]
  have hfront := (State.changeOwner_of_owner (s.claimCopy r stamp) r (some ⟨c, (nextEpoch stamp).epoch⟩) (bne_iff_ne.1 hpass) howns).1
  rw [s.applyClaim_eq, State.yielded_roster, State.claimOwner_of_passes hpass, hfront]
  simp

theorem nextEpoch_of_lt {a : Stamp} (h : a.epoch.toNat < 65535) : nextEpoch a = ⟨a.epoch + 1, a.version⟩ := by
  refine if_neg fun e => ?_
  rw [e] at h
  exact absurd h (by decide)

/-- A removal leaves the entries that it does not name as they are. -/
theorem filter_removalAsked_of_spared {hit q : OutEntry → Bool} (hdoom : ∀ (x : OutEntry) d, q { x with doom := d } = q x)
    (hspared : ∀ x, hit x = true → q x = false) (es : List OutEntry) : (removalAsked hit es).filter q = es.filter q := by
  rw [removalAsked_eq, List.filter_map, List.filter_filter]
  have hkept : (fun x => (q ∘ OutEntry.asked hit) x && !(hit x && !x.sending)) = q := by
    funext x
    rw [Function.comp, OutEntry.asked_congr hdoom]
    cases hq : q x with
    | false => rfl
    | true =>
      have hnot : hit x = false := Bool.eq_false_iff.2 fun hx => by rw [hspared x hx] at hq; cases hq
      rw [hnot]
      rfl
  rw [hkept]
  refine (List.map_congr_left fun x hx => ?_).trans (List.map_id _)
  have hnot : ¬ hit x = true := fun hhit => by rw [List.mem_filter, hspared x hhit] at hx; cases hx.2
  exact if_neg fun e => hnot e.1

theorem State.filter_turnedAway (s : State) (r : Region) {q : OutEntry → Bool} (hq : ∀ x : OutEntry, q x.released = q x)
    (es : List OutEntry) : (s.turnedAway r es).filter q = s.turnedAway r (es.filter q) := by
  rw [s.turnedAway_released, s.turnedAway_released, List.filter_map]
  cases s.abandons r with
  | false => rfl
  | true => exact congrArg _ (congrArg (List.filter · es) (funext hq))

/-- The list and the parked set with `r` placed at the tail (R110, R111). -/
def Catchup.placed (u : Catchup) (r : Region) : Catchup :=
  { u with list := if r ∈ u.list then u.list else u.list ++ [r], parked := dropBit u.parked r }

theorem State.listRegion_catchup (s : State) (r : Region) : (s.listRegion r).catchup = s.catchup.placed r := by
  rw [s.listRegion_eq]
  rfl

theorem Catchup.mem_placed (u : Catchup) (r : Region) : r ∈ (u.placed r).list := by
  rw [Catchup.placed]
  by_cases h : r ∈ u.list
  · simp only [h, if_true]
  · simp only [h, if_false]
    exact List.mem_append_right _ (List.mem_singleton.2 rfl)

theorem Catchup.placed_parked (u : Catchup) (r : Region) : inMap (u.placed r).parked r = false := by
  simp [Catchup.placed]

/-- An effective claim lists the region where its copy's part does, where a pull of it is closed, or where it was parked and changes
owner (R6, R11, R119). -/
theorem State.applyClaim_lists {s : State} {c : Station} {r : Region} {stamp : Stamp} (hst : s.ctl.state.working = true)
    (h : s.claimLists r stamp ∨ s.pulled r = true ∨ s.passesTo r c = true ∧ inMap s.catchup.parked r = true) :
    (s.applyClaim c r stamp).catchup.list = (s.catchup.placed r).list
      ∧ inMap (s.applyClaim c r stamp).catchup.parked r = false
      ∧ (s.pulled r = false → (s.applyClaim c r stamp).catchup.parked = (s.catchup.placed r).parked) := by
  have hcatchup := s.applyClaim_catchup c r stamp
  dsimp only at hcatchup
  rw [hst, Bool.true_and] at hcatchup
  by_cases hcopy : s.claimLists r stamp
  · rw [State.claimCopy_catchup_of_lists hcopy, s.listRegion_catchup, (s.catchup).placed_parked, Bool.and_false, Bool.or_false,
      if_pos (s.catchup.mem_placed r)] at hcatchup
    rw [hcatchup]
    refine ⟨ite_self _, ?_, fun hno => ?_⟩
    · dsimp only
      split
      · simp
      · exact s.catchup.placed_parked r
    · rw [hno]
      rfl
  · have hlists : (s.pulled r || s.passesTo r c && inMap s.catchup.parked r) = true := by
      rw [Bool.or_eq_true, Bool.and_eq_true]
      exact h.resolve_left hcopy
    rw [State.claimCopy_catchup_of_not hcopy, hlists] at hcatchup
    rw [hcatchup]
    exact ⟨rfl, by simp, fun _ => rfl⟩

theorem State.applyClaim_not_lists {s : State} {c : Station} {r : Region} {stamp : Stamp} (hcopy : ¬ s.claimLists r stamp)
    (hlists : s.ctl.state.working = false ∨ s.pulled r = false ∧ (s.passesTo r c = false ∨ inMap s.catchup.parked r = false)) :
    (s.applyClaim c r stamp).catchup.list = s.catchup.list ∧ (s.applyClaim c r stamp).catchup.parked = s.catchup.parked := by
  have hcatchup := s.applyClaim_catchup c r stamp
  dsimp only at hcatchup
  have hnone : (s.ctl.state.working && (s.pulled r || s.passesTo r c && inMap s.catchup.parked r)) = false := by
    rcases hlists with hst | ⟨hpulled, hpass⟩
    · rw [hst, Bool.false_and]
    · rw [hpulled, Bool.false_or, Bool.and_eq_false_iff, Bool.and_eq_false_iff]
      exact .inr hpass
  rw [State.claimCopy_catchup_of_not hcopy, hnone] at hcatchup
  rw [hcatchup]
  exact ⟨rfl, rfl⟩

theorem State.losesTo_iff (s : State) (r : Region) (c : Station) : s.losesTo r c = true ↔ c ≠ s.own ∧ s.owns r = true := by
  rw [State.losesTo, Bool.and_eq_true, decide_eq_true_eq]

/-- Settles O47: the copy's part, the owner's part and the former owner's part, block by block. -/
theorem effectiveClaimApplied : Obligations.EffectiveClaimApplied := by
  intro s c r stamp hepoch fenceHolds
  obtain ⟨hentries, hserving, harb, hhost, hsweep⟩ := s.applyClaim_out c r stamp
  obtain ⟨howner, hstamp, hcopy, hheld, hflags, hother⟩ := s.applyClaim_table c r stamp
  have hcatchup := s.applyClaim_catchup c r stamp
  have hnext := nextEpoch_of_lt hepoch
  have hholds (hf : fenceHolds) := s.applyClaim_of_holds c r stamp hf
  have hpulls : (s.applyClaim c r stamp).catchup.pulls = s.catchup.pulls.filter (fun x => x.region != r) := by rw [hcatchup]
  have hpulled : (s.pullOf r).isSome = s.pulled r := s.pullOf_isSome r
  refine ⟨_, rfl, fun hf => (hholds hf).1, ?others, ⟨?entries, hserving, harb, hhost, hsweep⟩, hpulls, fun hpull => ?leaving,
    by rw [howner, hnext], ?closed, hother, fun hat => by rw [hstamp, if_pos hat, hnext], fun hnot => by rw [hstamp, if_neg hnot],
    fun hnone => ?noPull, fun p k hp hk => ?pull, fun hown hnot => ?gained, fun hnot howns => ?lost, fun hnot hnowns => ?stranger⟩
  case others =>
    intro others
    have hspared (x : OutEntry) (hx : (x.region == r && ((x.isPull && s.pulled r) || (x.isImage && (s.losesTo r c && s.served r)))) = true) :
        (!((x.isPull || x.isImage) && x.region == r)) = false := by
      cases hp : x.isPull <;> cases hi : x.isImage <;> simp_all
    have hreleased (x : OutEntry) : (!((x.released.isPull || x.released.isImage) && x.released.region == r))
        = !((x.isPull || x.isImage) && x.region == r) := by
      rcases x with ⟨q, _ | _ | _ | _, sending, doom⟩ <;> rfl
    have hkept := filter_removalAsked_of_spared (fun x d => rfl) hspared s.out.entries
    rw [hentries]
    by_cases hlose : s.losesTo r c = true
    · rw [if_pos hlose, if_pos ((s.losesTo_iff r c).1 hlose), s.filter_turnedAway r hreleased, hkept]
    · rw [if_neg hlose, if_neg (mt (s.losesTo_iff r c).2 hlose), hkept]
  case entries =>
    rw [hpulled]
    exact hentries
  case leaving =>
    intro x hx hkind hr
    rw [← Option.isSome_iff_ne_none, hpulled] at hpull
    have hhit (y : OutEntry) (hy : y.isPull = true) (hyr : y.region = r) :
        (y.region == r && ((y.isPull && s.pulled r) || (y.isImage && (s.losesTo r c && s.served r)))) = true := by
      simp [hy, hyr, hpull]
    rw [hentries] at hx
    split at hx
    next =>
      obtain ⟨y, hy, rfl | rfl⟩ := s.mem_turnedAway hx
      · exact sending_of_mem_removalAsked (fun _ _ => rfl) hy (hhit _ hkind hr)
      · have hsame := OutEntry.mapUpdate_of_pull _ hkind
        rw [hsame] at hkind hr ⊢
        exact sending_of_mem_removalAsked (fun _ _ => rfl) hy (hhit _ hkind hr)
    next => exact sending_of_mem_removalAsked (fun _ _ => rfl) hx (hhit _ hkind hr)
  case closed =>
    rw [State.pullOf_eq_none_iff, State.pulled, hpulls]
    simp
  case noPull =>
    intro marks stale yielded changes lists
    have hunpulled : s.pulled r = false := (s.pullOf_eq_none_iff r).1 hnone
    have hpasses : s.passesTo r c = true ↔ changes := bne_iff_ne
    have hcopy' : (s.applyClaim c r stamp).table[r].copy
        = if s.table[r].stamp = stamp then s.table[r].copy else markedCopy s.table[r].copy .behind := by rw [hcopy, hnone]
    have hevents (hf : fenceHolds) : (s.applyClaim c r stamp).events = (stale ++ yielded).foldl postTo s.events := by
      have hyielded : yielded = if s.losesTo r c then [.ownershipLost r false] else [] :=
        if_congr (s.losesTo_iff r c).symm rfl rfl
      have hstale : (s.claimCopy r stamp).events = stale.foldl postTo s.events := by
        rw [s.claimCopy_events]
        simp only [stale]
        by_cases hm : marks ∧ (s.ctl.state = .active ∨ s.ctl.state = .isolated ∨ s.ctl.state = .listening)
        · rw [if_pos hm, if_pos hm]
          rfl
        · rw [if_neg hm, if_neg hm]
          rfl
      rw [(hholds hf).2, hunpulled, Bool.false_and, hstale, hyielded, List.foldl_append]
      cases s.losesTo r c <;> rfl
    refine ⟨fun hnot => ?_, hevents, fun hlists => ?_, fun hnot => ?_, fun hat => by rw [hcopy', if_pos hat],
      fun hoff hcur => by rw [hcopy', if_neg hoff, hcur]; rfl, fun hf hown hnowns hat => ?_, fun hf hnot howns hat => ?_⟩
    · rw [hcopy']
      split
      · rfl
      next hoff =>
        refine markedCopy_of_not_changes fun e => ?_
        exact hnot ⟨hoff, e.resolve_right fun e => by cases e.2⟩
    · obtain ⟨hst, hwhy⟩ := hlists
      have hworking := (StationState.working_iff _).2 hst
      obtain ⟨hlist, -, hparked⟩ := State.applyClaim_lists (c := c) (stamp := stamp) (r := r) hworking (by
        rcases hwhy with ⟨hoff, hcur⟩ | ⟨hpark, hoff | hch⟩
        · exact .inl ⟨hworking, hoff, .inl hcur⟩
        · exact .inl ⟨hworking, hoff, .inr hpark⟩
        · exact .inr (.inr ⟨hpasses.2 hch, hpark⟩))
      exact ⟨hlist, hparked hunpulled⟩
    · refine State.applyClaim_not_lists (fun e => hnot ?_) ?_
      · obtain ⟨hst, hoff, hwhy⟩ := e
        exact ⟨(StationState.working_iff _).1 hst, hwhy.imp (fun hcur => ⟨hoff, hcur⟩) fun hpark => ⟨hpark, .inl hoff⟩⟩
      · by_cases hst : s.ctl.state.working = true
        · refine .inr ⟨hunpulled, ?_⟩
          rw [← Bool.not_eq_true, ← Bool.not_eq_true, ← not_and_or]
          exact fun e => hnot ⟨(StationState.working_iff _).1 hst, .inr ⟨e.2, .inr (hpasses.1 e.1)⟩⟩
        · exact .inl (by simpa using hst)
    · have hstale : stale = [] := if_neg fun e => e.1.1 hat
      have hyielded : yielded = [] := if_neg fun e => e.1 hown
      rw [hevents hf, hstale, hyielded]
      rfl
    · have hstale : stale = [] := if_neg fun e => e.1.1 hat
      have hyielded : yielded = [.ownershipLost r false] := if_pos ⟨hnot, howns⟩
      rw [hevents hf, hstale, hyielded]
      rfl
  case pull =>
    have hmarked : (if s.table[r].stamp = stamp then s.table[r].copy else markedCopy s.table[r].copy .behind) = .fetching k := by
      rw [hk]
      exact ite_self _
    have hpulling : s.pulled r = true := by rw [← hpulled, hp]; rfl
    have hclosed : (s.applyClaim c r stamp).table[r].copy = .stale (if p.taken = true then .damaged else k) := by
      rw [hcopy, hp, hmarked]
      rfl
    have hunposted : (s.claimCopy r stamp).events = s.events := by
      rw [s.claimCopy_events, if_neg]
      exact fun e => by rw [hk] at e; cases e.1.2
    have hkeeps (hnowns : s.owns r = false) : s.losesTo r c = false := by rw [State.losesTo, hnowns, Bool.and_false]
    refine ⟨hclosed, fun hnowns hst => ⟨fun hf => ?_, ?_⟩, fun hnowns hact hiso => ⟨fun hf => ?_, ?_⟩⟩
    · rw [(hholds hf).2, hclosed, hpulling, (StationState.working_iff _).2 hst, hkeeps hnowns, hunposted]
      rfl
    · obtain ⟨hlist, hparked, -⟩ := State.applyClaim_lists (c := c) (stamp := stamp) ((StationState.working_iff _).2 hst)
        (.inr (.inl hpulling))
      exact ⟨hlist, hparked⟩
    · rw [(hholds hf).2, (StationState.working_eq_false_iff _).2 ⟨hact, hiso⟩, hkeeps hnowns, hunposted, Bool.and_false]
      rfl
    · have hst := (StationState.working_eq_false_iff _).2 ⟨hact, hiso⟩
      exact (State.applyClaim_not_lists (fun e => by rw [State.claimLists, hst] at e; cases e.1) (.inl hst)).1
  case gained =>
    have hpass : s.passesTo r c = true := bne_iff_ne.2 fun e => by
      rw [State.owns] at hnot
      obtain ⟨w, hw, hwc⟩ := Option.map_eq_some_iff.1 e
      rw [hw] at hnot
      simp [hwc, hown] at hnot
    obtain ⟨hyield, hvote, hhold⟩ := hflags (.inr ⟨hpass, hown⟩)
    refine ⟨?_, hyield, hvote, hhold⟩
    rw [hheld, hpass, State.losesTo, hnot, hown]
    simp
  case lost =>
    have hlose := (s.losesTo_iff r c).2 ⟨hnot, howns⟩
    obtain ⟨hyield, hvote, hhold⟩ := hflags (.inl hlose)
    refine ⟨by rw [hheld, hlose]; rfl, hyield, hvote, hhold, ?_, s.applyClaim_front c r stamp hlose⟩
    rw [State.servingOf_eq_none_iff, State.served, hserving, if_pos hlose]
    simp
  case stranger =>
    rw [hheld, State.losesTo, hnowns, beq_false_of_ne hnot]
    simp

end Sys2Proof.Machine
end

section
/-! SUPPORT. The frame end of a CLAIM (R95, R97, R99, R105) and of a BEACON (R42, R51, R166). -/

namespace Sys2Proof.Machine

-- One proof at a time: the proofs that wait for each other would hold the memory of the whole text.
set_option Elab.async false

/-! ### CLAIM (R95 to R99) -/

/-- The claim decision (R95). -/
theorem State.claimEffective_iff (s : State) (c : Station) (ack : StationMap) : s.claimEffective c ack = true ↔
    (∀ n : Station, n ≠ c → n = s.own ∨ (s.isMember n = true ∧ (s.statusOf n = .present ∨ s.statusOf n = .dozing)) →
        inMap ack n = true)
      ∧ s.quorum ≤ 1 + ((List.finRange 16).filter (fun n : Station => inMap ack n && s.isMember n)).length := by
  rw [State.claimEffective, Bool.and_eq_true, decide_eq_true_eq, List.countP_eq_length_filter, Nat.add_comm 1, List.all_eq_true]
  refine and_congr_left' ⟨fun h n hn hcount => ?_, fun h n _ => ?_⟩
  · have hn' := h n (List.mem_finRange n)
    by_cases hself : n = s.own
    · simpa [hself, hself ▸ hn] using hn'
    · obtain ⟨hmember, hstatus⟩ := hcount.resolve_left hself
      have hcounted : s.counted n = true := by
        rw [State.counted, hmember, (Presence.counted_iff _).2 hstatus, bne_iff_ne.2 hself]
        rfl
      simpa [hcounted, hn] using hn'
  · cases hack : inMap ack n with
    | true => rw [Bool.or_true]
    | false =>
      rw [Bool.or_false, Bool.not_eq_true', Bool.and_eq_false_iff, bne_eq_false_iff_eq]
      by_cases hn : n = c
      · exact .inr hn
      · left
        rw [← Bool.not_eq_true]
        intro hcount
        rw [h n hn ?_] at hack
        · cases hack
        · rw [Bool.or_eq_true, beq_iff_eq, State.counted, Bool.and_eq_true, Bool.and_eq_true, Presence.counted_iff] at hcount
          exact hcount.symm.imp id fun ⟨⟨_, hmember⟩, hstatus⟩ => ⟨hmember, hstatus⟩

theorem State.applyClaim_sweep (s : State) (c : Station) (r : Region) (stamp : Stamp) :
    (s.applyClaim c r stamp).out.sweep = s.out.sweep := (s.applyClaim_out c r stamp).2.2.2.2

/-- The sweep once the claim for `r` that was outstanding is over (R105). -/
theorem Sweep.pass_over (w : Sweep) (r : Region) : { w.pass r with outstanding := none } =
    (if w.phase = .inactive then { w with outstanding := none }
      else if r = 63 then { w with phase := .inactive, outstanding := none }
      else { w with position := r + 1, outstanding := none }) := by
  rw [Sweep.pass]
  split
  · rfl
  · split <;> rfl

/-- Settles O46: the decision at a receiver, and at the claimant by the source of its entry. -/
theorem claimFrameEnds : Obligations.ClaimFrameEnds := by
  intro s c ack hon
  refine ⟨s.claimEffective_iff, fun bit hslot hrx => ?heard, fun bit hslot hrx => ?unheard,
    fun w doom before after hslot hsplit hrest => ?host, fun w doom before after hslot hsplit hrest => ?sweep⟩
  case heard =>
    rw [exec, execClaimFrameEnd, State.whenOn_of_on _ hon, hslot, hrx]
    rfl
  case unheard =>
    rw [exec, execClaimFrameEnd, State.whenOn_of_on _ hon, hslot, hrx]
    rfl
  case host =>
    have hsending : s.sendingEntry = some ⟨c.region, .claim .host, true, doom⟩ := State.sendingEntry_of_split hsplit hrest rfl
    have hover := State.attemptDone_removeSending hsplit hrest rfl
    intro u
    rw [exec, execClaimFrameEnd, State.whenOn_of_on _ hon, hslot]
    dsimp only
    rw [State.ownClaimEnd, hsending]
    dsimp only
    rw [State.claimDecided, hover]
    rfl
  case sweep =>
    have hsending : s.sendingEntry = some ⟨c.region, .claim .sweep, true, doom⟩ := State.sendingEntry_of_split hsplit hrest rfl
    have hover := State.attemptDone_removeSending hsplit hrest rfl
    intro u sweep
    have hpass : { s.out.sweep.pass c.region with outstanding := none } = sweep := Sweep.pass_over _ _
    rw [exec, execClaimFrameEnd, State.whenOn_of_on _ hon, hslot]
    dsimp only
    rw [State.ownClaimEnd, hsending]
    dsimp only
    rw [State.claimDecided, hover]
    have heff : s.attemptDone.claimEffective s.attemptDone.own ack = u.claimEffective s.own ack := rfl
    rw [heff]
    split
    next heffective =>
      have hsweep : ((s.attemptOver before after).applyClaim s.attemptDone.own c.region c.stamp).out.sweep = s.out.sweep :=
        State.applyClaim_sweep _ _ _ _
      rw [State.claimOver, State.unheldUnless, if_pos rfl, State.post_out, hsweep, hpass]
      rfl
    next hrefused =>
      have hsweep : ((s.attemptOver before after).post (.claimDone c.region ack .sweep (some .refused))).out.sweep = s.out.sweep := rfl
      rw [State.claimOver, State.unheldUnless, if_neg (by simp), hsweep, hpass]
      rfl

/-! ### The line given up, and the return to OFFLINE (R22, R35, R166) -/

/-- A frame given up clears vote pending of the CLAIM that it was (R21, R35). -/
theorem State.dropFrame_table (s : State) (q : Region) :
    s.dropFrame.table[q] = { s.table[q] with votePending := s.dropFrame.table[q].votePending } := by
  unfold State.dropFrame
  split
  · rw [State.endVote, State.mapEntry_read]
    split
    next h => rw [h]; rfl
    next => rfl
  · rfl

theorem State.dropFrame_line (s : State) : s.dropFrame.line = { s.line with rx := none } := by
  unfold State.dropFrame
  split <;> rfl

theorem State.lineOff_line (s : State) : s.lineOff.line =
    { s.line with slot := none, rx := none, syncing := false, strangers := Vector.replicate 16 none } := by
  rw [State.lineOff, State.mapLine, State.setLine, State.dropFrame_line]

theorem State.lineOff_table' (s : State) (q : Region) :
    s.lineOff.table[q] = { s.table[q] with votePending := s.lineOff.table[q].votePending } :=
  s.dropFrame_table q

theorem State.forgetOwners_read (s : State) (q : Region) :
    s.forgetOwners.table[q] = { s.table[q].clearFlags with owner := none } := by
  simp [State.forgetOwners, State.setTable]

/-- The station in OFFLINE at the end of phase FINAL, block by block (R166). -/
theorem State.goOffline_blocks (s : State) :
    s.goOffline.ctl = { s.ctl with state := .offline, leaveTimer := none, leavePhase := .drain, beaconDue := false }
      ∧ s.goOffline.roster = { s.roster with entries := Vector.replicate 16 ⟨.absent, none, false⟩, front := [] }
      ∧ s.goOffline.line = { s.line with slot := none, rx := none, syncing := false, strangers := Vector.replicate 16 none }
      ∧ s.goOffline.events = postTo s.events (.left s.ctl.discarded)
      ∧ ∀ q : Region, s.goOffline.table[q] = { s.table[q].clearFlags with owner := none } := by
  have hlineOff := (s.setState .offline).lineOff_line
  refine ⟨?_, ?_, ?_, ?_, fun q => ?_⟩
  · rw [State.goOffline, State.post_ctl, State.forgetOwners_ctl, State.clearRoster_ctl, State.mapCtl, State.setCtl, State.lineOff_ctl]
    rfl
  · rw [State.goOffline, State.post_roster, State.forgetOwners_roster, State.clearRoster, State.mapRoster, State.mapCtl_roster,
      State.lineOff_roster]
    rfl
  · rw [State.goOffline, State.post_line, State.forgetOwners_line, State.clearRoster_line, State.mapCtl_line, hlineOff]
    rfl
  · have hevents (t : State) (e : Event) : (t.post e).events = postTo t.events e := rfl
    rw [State.goOffline, hevents, State.forgetOwners_events, State.clearRoster_events, State.mapCtl_events, State.lineOff_events]
    rfl
  · rw [State.goOffline, State.post_table, State.forgetOwners_read, State.clearRoster_table, State.mapCtl_table,
      State.lineOff_table']
    rfl

/-! ### BEACON (R42, R51, R166) -/

theorem State.resume_table (s : State) (q : Region) : s.resume.table[q] = { s.table[q] with copy := s.resume.table[q].copy } := by
  rw [State.resume, State.arbitrate_table, State.requestReads_table, State.openPulls_table]

theorem State.afterAttempt_of_not_leaving {s : State} (h : s.ctl.state ≠ .leaving) : s.afterAttempt = s.resume := by
  have hdrain : s.drainEnd = s := if_neg fun e => h e.1
  have hfinal : s.finalEnd = s := if_neg fun e => h e.1
  rw [State.afterAttempt, hdrain, hfinal]

/-- Settles O45: the roster's part at the origin, the return to OFFLINE, and the change to ABSENT at a receiver. -/
theorem beaconFrameEnds : Obligations.BeaconFrameEnds := by
  intro s b w ack hon
  refine ⟨fun hslot => ⟨_, rfl, fun hmode => ?ordinary, fun hmode hst => ?late, fun hmode hst => ?leaving⟩,
    fun bit acked hslot hrx => ⟨fun hmode => ?heard, fun hmode hother => ?gone⟩⟩
  case heard =>
    rw [exec, execBeaconFrameEnd, State.whenOn_of_on _ hon, hslot, hrx]
    dsimp only
    rw [State.beaconHeard, if_neg hmode]
    rfl
  case gone =>
    have hexec : exec (.beaconFrameEnd ack) s = .next (s.receptionDone.beaconHeard b).resume := by
      rw [exec, execBeaconFrameEnd, State.whenOn_of_on _ hon, hslot, hrx]
    let u := s.receptionDone.statusChange b.origin .absent
    have hentry : u.roster.entries[b.origin] = { s.receptionDone.roster.entries[b.origin] with
        status := .absent, differs := u.roster.entries[b.origin].differs } := by
      rw [State.statusChange_entry]
    have hheard : s.receptionDone.beaconHeard b
        = { u with roster := { u.roster with entries := u.roster.entries.set b.origin ⟨.absent, none, false⟩ } } := by
      have hmapped : s.receptionDone.beaconHeard b = u.mapRosterEntry b.origin ({ · with timer := none, differs := false }) :=
        if_pos hmode
      rw [hmapped, State.mapRosterEntry, State.mapRoster, hentry]
      rfl
    refine ⟨_, hexec, by rw [hheard]; rfl, ?_, fun n hn => ?_⟩
    · rw [State.resume_roster, hheard]
      exact Vector.getElem_set_self _
    · rw [State.resume_roster, hheard]
      refine (Vector.getElem_set_ne b.origin.isLt n.isLt (Fin.val_ne_of_ne hn.symm)).trans ?_
      exact State.statusChange_entry_other _ _ hn
  all_goals
    have hexec : exec (.beaconFrameEnd ack) s = .next (s.ownBeaconEnd b w ack).afterAttempt := by
      rw [exec, execBeaconFrameEnd, State.whenOn_of_on _ hon, hslot]
  case ordinary =>
    rw [hexec, State.ownBeaconEnd, if_neg (fun e => hmode e.1)]
    cases w <;> rfl
  case late =>
    rw [hexec, State.ownBeaconEnd, if_neg (fun e => hst e.2)]
    cases w <;> rfl
  case leaving =>
    have hoff : (s.ownBeaconEnd b w ack).afterAttempt = (s.attemptDone.beaconSent b w ack).goOffline.resume := by
      rw [State.ownBeaconEnd, if_pos ⟨hmode, hst⟩]
      refine State.afterAttempt_of_not_leaving ?_
      rw [(State.goOffline_blocks _).1]
      simp
    obtain ⟨hctl, hroster, hline, hevents, htable⟩ := (s.attemptDone.beaconSent b w ack).goOffline_blocks
    rw [hoff] at hexec
    refine ⟨_, hexec, ?_⟩
    rw [State.resume_ctl, State.resume_roster, State.resume_line, State.resume_events, hctl, hroster, hline, hevents]
    refine ⟨rfl, ?_, rfl, rfl, rfl, rfl, rfl, rfl, fun r => ?_⟩
    · cases w <;> rfl
    · rw [State.resume_table, htable]
      exact ⟨rfl, rfl, rfl⟩

end Sys2Proof.Machine
end

section
/-! SUPPORT. The ack points of BEACON, CLAIM, PULL, UPDATE and IMAGE (R53, R91, R120, R71, R130). -/

namespace Sys2Proof.Machine

-- One proof at a time: the proofs that wait for each other would hold the memory of the whole text.
set_option Elab.async false

/-! ### BEACON (R53, R54) -/

/-- Settles O40: `State.censusCase` by ownership, and the comparison by the order of the stamps. -/
theorem censusHandled : Obligations.CensusHandled := by
  intro s b e
  refine ⟨rfl, fun howns => ?_, fun hnot t ht => ⟨fun hno => ?_, fun hyes => ⟨fun hup => ?_, fun hdown => ?_, fun hsame => ?_⟩⟩⟩
  · rw [State.censusEntry, State.censusCase, if_pos howns]
  all_goals rw [State.censusEntry, State.censusCase, if_neg (by simp [hnot]), ht, State.compareIfOwner]
  · rw [if_neg (by simp [hno])]
  · rw [if_pos hyes, State.compareStamp, if_pos hup]
  · rw [if_pos hyes, State.compareStamp, if_neg (Bool.eq_false_iff.1 (stampLower_asymm hdown)), if_pos hdown]
    rfl
  · rw [if_pos hyes, State.compareStamp, hsame, if_neg (by simp [not_stampLower_self]), if_neg (by simp [not_stampLower_self])]

/-! ### CLAIM (R91 to R94) -/

theorem State.ownerAgrees_iff (s : State) (r : Region) : s.ownerAgrees r = true ↔
    s.table[r].yieldReady = true ∧ s.out.hasUpdate r = false ∧ s.ctl.state ≠ .dozing := by
  rw [State.ownerAgrees, Bool.and_eq_true, Bool.and_eq_true, Bool.not_eq_true', bne_iff_ne, and_assoc]

theorem State.ownerSilent_iff (s : State) (r : Region) : s.ownerSilent r = true ↔
    ∃ o, s.table[r].owner = some o ∧ o.station ≠ s.own ∧ s.statusOf o.station = .silent := by
  rw [State.ownerSilent]
  cases s.table[r].owner with
  | none => simp
  | some o => simp [bne_iff_ne]

theorem State.votes_iff (s : State) (r : Region) (stamp : Stamp) (guardPin : Bool) : s.votes r stamp guardPin = true ↔
    stampUpTo s.table[r].stamp stamp ∧ (s.owns r = true → s.ownerAgrees r = true)
      ∧ ¬ s.protectedNow r guardPin = true ∧ ¬ s.ownerSilent r = true := by
  rw [State.votes, stampUpTo]
  cases s.owns r <;> cases s.ownerAgrees r <;> simp [and_assoc]

theorem State.votes_of_dozing {s : State} {r : Region} {stamp : Stamp} {guardPin : Bool} (howns : s.owns r = true)
    (hst : s.ctl.state = .dozing) : s.votes r stamp guardPin = false := by
  rw [← Bool.not_eq_true, s.votes_iff]
  intro ⟨_, hagrees, _⟩
  exact ((s.ownerAgrees_iff r).1 (hagrees howns)).2.2 hst

/-- Settles O41: the four conditions of the vote, then the mark and the wake by the vote's value. -/
theorem voteOnClaim : Obligations.VoteOnClaim := by
  intro s c guardPin
  have hbit : (State.claimAct c guardPin s).1 = s.votes c.region c.stamp guardPin := rfl
  have hafter : (State.claimAct c guardPin s).2
      = (s.holdVote c.region (s.votes c.region c.stamp guardPin)).wakeIfAsked c.region := rfl
  rw [hbit, hafter]
  refine ⟨?_, fun hnot => ?_, fun howns hvote => ?_, fun howns hno hst => ?_, fun howns hst => ⟨State.votes_of_dozing howns hst, ?_⟩⟩
  · rw [s.votes_iff, s.ownerAgrees_iff, s.ownerSilent_iff, State.protectedNow, State.guarded, Bool.and_eq_true]
  · rw [State.holdVote, hnot, Bool.false_and, if_neg (by simp), State.wakeIfAsked, hnot, Bool.false_and, if_neg (by simp)]
  · have hst : s.ctl.state ≠ .dozing := fun e => by rw [State.votes_of_dozing howns e] at hvote; cases hvote
    rw [State.holdVote, howns, hvote, if_pos (Bool.and_self true), State.wakeIfAsked, State.mapEntry_ctl, beq_false_of_ne hst, Bool.and_false,
      if_neg (by simp)]
    rfl
  · rw [State.holdVote, hno, Bool.and_false, if_neg (by simp), State.wakeIfAsked, beq_false_of_ne hst, Bool.and_false,
      if_neg (by simp)]
  · rw [State.votes_of_dozing howns hst, State.holdVote, Bool.and_false, if_neg (by simp), State.wakeIfAsked, howns, hst]
    rfl

/-! ### PULL (R120 to R122) -/

theorem State.wakeUp_ctl_state (s : State) (cause : Option Region) :
    (s.wakeUp cause).ctl.state = if s.quorum ≤ s.quorumCount then .active else .isolated := by
  rw [s.wakeUp_eq, State.sweepWalk_ctl]
  rfl

theorem State.wakeUp_owns (s : State) (cause : Option Region) (r : Region) : (s.wakeUp cause).owns r = s.owns r := by
  have howner : (s.wakeUp cause).table[r].owner = s.table[r].owner := by
    rw [s.wakeUp_eq, State.sweepWalk_table]
    rfl
  have hown : (s.wakeUp cause).own = s.own := by
    rw [State.own, State.own, s.wakeUp_eq, State.sweepWalk_ctl]
    rfl
  rw [← State.isSelf_owner, ← State.isSelf_owner, howner, State.isSelf, State.isSelf, hown]

theorem State.wakeIfAsked_of_awake {s : State} {r : Region} (hst : s.ctl.state ≠ .dozing) : s.wakeIfAsked r = s := by
  rw [State.wakeIfAsked, beq_false_of_ne hst, Bool.and_false, if_neg (by simp)]

theorem State.pullAct_of_awake {s : State} {p : PullFrame} (howns : s.owns p.region = true) (hst : s.ctl.state ≠ .dozing) :
    State.pullAct p s = s.decidePull p := by
  rw [State.pullAct, if_pos howns, State.wakeIfAsked_of_awake hst]

theorem State.serves_iff {s : State} {r : Region} {v : ServingRecord} (h : s.servingOf r = some v) (n : Station) :
    s.serves r n = true ↔ ∃ q ∈ v.targets, q.station = n := by
  rw [State.serves, h]
  simp

theorem State.putServing_of_region {s : State} {v : ServingRecord} {r : Region} (h : v.region = r) :
    s.putServing v = { s with serving := s.serving.map (fun x => if x.region = r then v else x) } := by
  subst h
  rfl

/-- Settles O42: the decision by the order of the stamps, and serving by the record of the region. -/
theorem pullDecided : Obligations.PullDecided := by
  intro s p
  refine ⟨fun hnot => by rw [State.pullAct, if_neg (by simp [hnot])], fun howns hst => ?awake, fun howns hst => ?dozing⟩
  case dozing =>
    have hwoken : (s.wakeUp (some p.region)).ctl.state ≠ .dozing := by
      rw [s.wakeUp_ctl_state]
      split <;> simp
    have howner : (s.wakeUp (some p.region)).owns p.region = true := (s.wakeUp_owns _ _).trans howns
    have hwakes : s.wakeIfAsked p.region = s.wakeUp (some p.region) := by rw [State.wakeIfAsked, howns, hst]; rfl
    have hdecides : State.pullAct p s = (s.wakeUp (some p.region)).decidePull p := by
      rw [State.pullAct, if_pos howns, hwakes]
    exact ⟨hdecides, by rw [hdecides, State.pullAct_of_awake howner hwoken], howner, hwoken⟩
  case awake =>
    intro own
    have hact := State.pullAct_of_awake (p := p) howns hst
    refine ⟨fun hhigher => ?_, fun hsame hforce => ⟨?_, fun hno => ?_, fun v hv htarget => ?_⟩, fun hserve => ?_⟩
    · rw [hact, State.decidePull, if_pos hhigher]
      rfl
    · have hnot : ¬ stampLower s.table[p.region].stamp p.stamp = true := by
        rw [show s.table[p.region].stamp = p.stamp from hsame.symm, not_stampLower_self]
        simp
      rw [hact, State.decidePull, if_neg hnot, if_pos ⟨hsame, hforce⟩]
    · rw [State.dropTarget, hno]
      split <;> rfl
    · intro left
      have hr := (State.servingOf_mem hv).2
      rw [State.dropTarget, hv]
      dsimp only
      rw [if_pos ((State.serves_iff hv p.origin).2 htarget), State.putTargets]
      refine ⟨fun hsome => ?_, fun hnone => ?_⟩
      · rw [if_neg (mt List.isEmpty_iff.1 hsome), State.putServing_of_region (by exact hr)]
      · rw [if_pos (List.isEmpty_iff.2 hnone), hr]
    · have hnot : ¬ stampLower s.table[p.region].stamp p.stamp = true := by
        rcases hserve with hlower | ⟨hsame, -⟩
        · rw [stampLower_asymm hlower]; simp
        · rw [show s.table[p.region].stamp = p.stamp from hsame.symm, not_stampLower_self]; simp
      have hforced : ¬ (p.stamp = s.table[p.region].stamp ∧ p.force = false) := by
        rintro ⟨hsame, hforce⟩
        rcases hserve with hlower | ⟨-, hyes⟩
        · rw [hsame, not_stampLower_self] at hlower
          cases hlower
        · rw [hforce] at hyes
          cases hyes
      have hdecide : State.pullAct p s = (false, if s.ctl.state = .leaving then s else s.serve p.region p.origin) := by
        rw [hact, State.decidePull, if_neg hnot, if_neg hforced]
      refine ⟨fun hleave => by rw [hdecide, if_pos hleave], fun hleave hnone hroom => ?_, fun hleave hnone hfull => ?_,
        fun v hleave hv hnew => ?_, fun v hleave hv hold => ?_⟩
      all_goals rw [hdecide, if_neg hleave, State.serve]
      · rw [hnone]
        dsimp only
        rw [if_pos (by exact hroom)]
        rfl
      · rw [hnone]
        dsimp only
        rw [if_neg (Nat.not_lt.2 (by exact hfull))]
      · have hno : ¬ s.serves p.region p.origin = true := by
          rw [State.serves_iff hv]
          exact fun ⟨q, hq, hqn⟩ => hnew q hq hqn
        rw [hv]
        dsimp only
        rw [if_neg hno, State.putServing_of_region (by exact (State.servingOf_mem hv).2)]
        rfl
      · rw [hv]
        dsimp only
        rw [if_pos ((State.serves_iff hv p.origin).2 hold), State.putServing_of_region (by exact (State.servingOf_mem hv).2)]

end Sys2Proof.Machine
end

section
/-! SUPPORT. The ack points of UPDATE and IMAGE (R71 to R75, R130). -/

namespace Sys2Proof.Machine

-- One proof at a time: the proofs that wait for each other would hold the memory of the whole text.
set_option Elab.async false

/-! ### UPDATE (R71 to R75) -/

/-- The stamps are totally ordered (R2). -/
theorem stampLower_or_eq (a b : Stamp) : stampLower a b = true ∨ a = b ∨ stampLower b a = true := by
  rcases a with ⟨ae, av⟩
  rcases b with ⟨be, bv⟩
  simp only [stampLower, Bool.or_eq_true, Bool.and_eq_true, decide_eq_true_eq, beq_iff_eq]
  rcases Nat.lt_trichotomy ae.toNat be.toNat with h | h | h
  · exact .inl (.inl h)
  · have he : ae = be := BitVec.eq_of_toNat_eq h
    subst he
    rcases Nat.lt_trichotomy av.toNat bv.toNat with h | h | h
    · exact .inl (.inr ⟨rfl, h⟩)
    · exact .inr (.inl (by rw [BitVec.eq_of_toNat_eq h]))
    · exact .inr (.inr (.inr ⟨rfl, h⟩))
  · exact .inr (.inr (.inl h))

theorem ne_of_stampLower {a b : Stamp} (h : stampLower a b = true) : a ≠ b := by
  rintro rfl
  rw [not_stampLower_self] at h
  cases h

/-- An entry with unwritten data is retained STALE DAMAGED (R8). -/
theorem nvImage_unwritten (e : RegionEntry) : (nvImage e true).stale = some .damaged := by
  rcases e with ⟨_, _ | (_ | _) | _, _⟩ <;> rfl

/-- An Apply Queue entry taken for a region: its data is unwritten from then on (R8, R140). -/
theorem State.takeApply_eq (s : State) (r : Region) (b : ApplyBody) : s.takeApply r b = { s with
    applyQ := s.applyQ ++ [⟨s.serial, r, b⟩]
    serial := s.serial + 1
    nv := { s.nv with regions := s.nv.regions.set r (nvImage s.table[r] true) } } := by
  have hunwritten : ((s.appendApply r b).countSerial).unwritten r = true := by
    simp [State.unwritten, State.appendApply, State.countSerial, State.setApplyQ, State.setSerial]
  have hsame : s.table.set r s.table[r] = s.table := Vector.set_getElem_self _
  rw [State.takeApply, State.retain, State.mapEntry, State.setEntry, hunwritten]
  simp only [id, State.appendApply, State.countSerial, State.setApplyQ, State.setSerial, hsame]

/-- Settles O43: the cases of `State.compareUpdate` by the order of the stamps, the station state and the copy. -/
theorem updateReceived : Obligations.UpdateReceived := by
  intro s u r result
  refine ⟨fun howns => by rw [State.updateAct, if_pos howns], fun hnot t ht => ?_⟩
  have hact : State.updateAct u s = t.updateIfOwner u := by
    rw [State.updateAct, if_neg (Bool.eq_false_iff.1 hnot), ht]
  refine ⟨fun hno => by rw [hact, State.updateIfOwner, if_neg (Bool.eq_false_iff.1 hno)], fun hyes => ?_⟩
  have hcompare : State.updateAct u s = t.compareUpdate u := by rw [hact, State.updateIfOwner, if_pos hyes]
  rw [hcompare]
  refine ⟨fun hlower => by rw [State.compareUpdate, if_pos hlower], fun hsame hcopy => ?_, fun hsame hcur hbehind => ?_,
    fun hhigher => ⟨fun hout => ?_, fun hawake hcur hbase => ?_⟩⟩
  · rw [State.compareUpdate, if_neg (by rw [show (⟨u.ownerEpoch, u.result⟩ : Stamp) = _ from hsame, not_stampLower_self]; simp),
      if_pos hsame]
    rcases hcopy with hcopy | hcopy <;> rw [hcopy] <;> rfl
  · rw [State.compareUpdate, if_neg (by rw [show (⟨u.ownerEpoch, u.result⟩ : Stamp) = _ from hsame, not_stampLower_self]; simp),
      if_pos hsame, beq_false_of_ne hcur, beq_false_of_ne hbehind]
    rfl
  all_goals
    rw [State.compareUpdate, if_neg (Bool.eq_false_iff.1 (stampLower_asymm hhigher)), if_neg (ne_of_stampLower hhigher).symm]
  · by_cases hst : t.ctl.state = .dozing
    · rw [if_pos hst]
    · rw [if_neg hst, if_neg]
      rintro ⟨hcur, hbase⟩
      rcases hout with h | h | h
      · exact hst h
      · exact h hcur
      · exact h hbase
  · rw [if_neg hawake, if_pos ⟨hcur, hbase⟩, State.takeUpdate]
    refine ⟨fun hfull => if_neg (Nat.not_lt.2 (by exact hfull)), fun hroom => ?_⟩
    let taken : State := { t with
      applyQ := t.applyQ ++ [⟨t.serial, r, .update u.offset u.data⟩]
      serial := t.serial + 1
      nv := { t.nv with regions := t.nv.regions.set r (nvImage t.table[r] true) } }
    have hunwritten : taken.unwritten r = true := by simp [taken, State.unwritten]
    have himage : nvImage { t.table[r] with stamp := result } true = ⟨result, some .damaged, true, t.table[r].held⟩ := by
      rw [nvImage, hcur]
      rfl
    have hset : (t.nv.regions.set r (nvImage t.table[r] true)).set r (nvImage { t.table[r] with stamp := result } true)
        = t.nv.regions.set r ⟨result, some .damaged, true, t.table[r].held⟩ := by
      rw [Vector.set_set, himage]
    have hentry : taken.mapEntry r ({ · with stamp := result }) = { taken with
        table := t.table.set r { t.table[r] with stamp := result }
        nv := { t.nv with regions := t.nv.regions.set r ⟨result, some .damaged, true, t.table[r].held⟩ } } := by
      rw [State.mapEntry, State.setEntry, hunwritten, ← hset]
    rw [if_pos (by exact hroom), State.takeApply_eq]
    exact congrArg (Prod.mk true) hentry

/-! ### IMAGE (R130, R117) -/

theorem State.pullOf_region {s : State} {r : Region} {p : PullRecord} (h : s.pullOf r = some p) : p.region = r := by
  simpa using List.find?_some h

/-- The catch-up unit with a record put in the place of the one of its region. -/
def Catchup.put (u : Catchup) (r : Region) (p : PullRecord) : Catchup :=
  { u with pulls := u.pulls.map (fun y => if y.region = r then p else y) }

theorem State.putPull_of_region {s : State} {p : PullRecord} {r : Region} (h : p.region = r) :
    s.putPull p = { s with catchup := s.catchup.put r p } := by
  subst h
  rfl

/-- The outcomes of a chunk for a record that collects its stamp (R130 cases 3 to 5). -/
theorem State.takeChunk_cases {s : State} {p : PullRecord} {i : ImageFrame} (h : p.region = i.region) :
    (inMap p.collected i.chunk = true → s.takeChunk p i = (true, { s with catchup := s.catchup.put i.region p }))
      ∧ (inMap p.collected i.chunk = false → 8 ≤ s.applyQ.length →
        s.takeChunk p i = (false, { s with catchup := s.catchup.put i.region p }))
      ∧ (inMap p.collected i.chunk = false → s.applyQ.length < 8 → ∃ x : State, s.takeChunk p i = (true, { x with
            catchup := s.catchup.put i.region (p.withChunk i.chunk)
            applyQ := s.applyQ ++ [⟨s.serial, i.region, .chunk i.chunk i.data i.stamp p.id⟩]
            serial := s.serial + 1 })
          ∧ x.table = s.table ∧ x.out = s.out ∧ x.events = s.events ∧ x.ctl = s.ctl ∧ x.line = s.line
          ∧ x.nv.array = s.nv.array ∧ x.nv.regions[i.region].stale = some .damaged) := by
  refine ⟨fun hhas => ?_, fun hnot hfull => ?_, fun hnot hroom => ?_⟩
  · rw [State.takeChunk, if_pos hhas, State.putPull_of_region h]
  · rw [State.takeChunk, if_neg (Bool.eq_false_iff.1 hnot), if_neg (Nat.not_lt.2 (by exact hfull)), State.putPull_of_region h]
  · have hwith : (p.withChunk i.chunk).region = i.region := h
    refine ⟨{ s with nv := { s.nv with regions := s.nv.regions.set i.region (nvImage s.table[i.region] true) } }, ?_,
      rfl, rfl, rfl, rfl, rfl, rfl, ?_⟩
    · rw [State.takeChunk, if_neg (Bool.eq_false_iff.1 hnot), if_pos (by exact hroom), State.putPull_of_region hwith,
        State.takeApply_eq]
    · simp [nvImage_unwritten]

theorem State.asking_eq_false_iff (s : State) (p : PullRecord) : s.asking p = false ↔
    p.owed = false ∧ ∀ x ∈ s.out.entries, x.isPull = true → x.region ≠ p.region := by
  rw [State.asking, Bool.or_eq_false_iff, List.any_eq_false]
  simp only [Bool.and_eq_true, beq_iff_eq, not_and]

/-- A record that begins its collection anew (R130 case 2, R117). -/
theorem State.recollect_anew {s : State} {p : PullRecord} {r : Region} {stamp : Stamp} (hr : p.region = r)
    (h : p.collecting ≠ some stamp) : s.recollect p stamp = { p with
      collecting := some stamp
      collected := 0
      written := 0
      timer := if p.timer = none ∧ p.collected = 0xFFFF ∧ p.owed = false
          ∧ (∀ x ∈ s.out.entries, x.isPull = true → x.region ≠ r) then some 0
        else p.timer } := by
  have hcond : (p.timer.isNone && p.collected == allChunks && !s.asking p) = true
      ↔ p.timer = none ∧ p.collected = 0xFFFF ∧ p.owed = false
        ∧ (∀ x ∈ s.out.entries, x.isPull = true → x.region ≠ r) := by
    rw [Bool.and_eq_true, Bool.and_eq_true, Option.isNone_iff_eq_none, beq_iff_eq, Bool.not_eq_true', s.asking_eq_false_iff,
      and_assoc, hr]
    rfl
  rw [State.recollect, if_neg h]
  simp only [hcond]

/-- One chunk is not all 16. -/
theorem addBit_zero_ne_allChunks : ∀ k : Chunk, addBit (0 : ChunkSet) k ≠ allChunks := by decide

/-- Settles O44: the cases of `State.collect` by the order of the stamps, the chunk and the room. -/
theorem imageReceived : Obligations.ImageReceived := by
  intro s i r
  refine ⟨fun howns => by rw [State.imageAct, if_pos howns], fun hnot t ht => ?_, fun p hp hnamed hruns => ?_, fun hnone => ?_,
    fun hst => ?_⟩
  · have hact : State.imageAct i s = t.collectIfAsked i := by rw [State.imageAct, if_neg (Bool.eq_false_iff.1 hnot), ht]
    refine ⟨fun hnone => ?_, fun p hp htarget => ?_, fun p hp hnamed htarget => ?_⟩
    · rw [hact, State.collectIfAsked]
      rcases hnone with hnone | hunnamed
      · rw [hnone]
      · rw [hunnamed]
        split <;> rfl
    · rw [hact, State.collectIfAsked, hp]
      dsimp only
      rw [beq_false_of_ne htarget, Bool.and_false, if_neg (by simp)]
    · intro put
      have hcollects : State.imageAct i s = t.collect p i := by
        rw [hact, State.collectIfAsked, hp]
        dsimp only
        rw [hnamed, beq_iff_eq.2 htarget, if_pos (Bool.and_self true)]
      have hr : p.region = r := State.pullOf_region hp
      have htakes (hup : stampUpTo t.table[r].stamp i.stamp) (hcollecting : ∀ c, p.collecting = some c → stampLower i.stamp c = false) :
          State.imageAct i s = t.takeChunk (t.recollect p i.stamp) i := by
        rw [hcollects, State.collect, if_neg]
        rw [Bool.or_eq_true, show stampLower i.stamp t.table[i.region].stamp = false from hup]
        cases hc : p.collecting with
        | none => simp
        | some c => simp [hcollecting c hc]
      refine ⟨fun hlower => ?_, fun hup hsame => ?_, fun hup hhigher => ?_⟩
      · rw [hcollects, State.collect, if_pos]
        rw [Bool.or_eq_true, Option.any_eq_true]
        exact hlower.imp id fun ⟨c, hc, hl⟩ => ⟨c, hc, hl⟩
      · have hkept : t.recollect p i.stamp = p := if_pos hsame
        rw [htakes hup (fun c hc => by rw [hsame] at hc; cases hc; exact not_stampLower_self _), hkept]
        exact State.takeChunk_cases hr
      · intro anew
        have hne : p.collecting ≠ some i.stamp := fun e => ne_of_stampLower (hhigher _ e) rfl
        have hanew : t.recollect p i.stamp = anew := State.recollect_anew hr hne
        rw [htakes hup (fun c hc => stampLower_asymm (hhigher c hc)), hanew]
        obtain ⟨-, hfull, hroom⟩ := State.takeChunk_cases (s := t) (p := anew) (i := i) hr
        have hnew : inMap anew.collected i.chunk = false := inMap_zero _
        have hwith : anew.withChunk i.chunk = { anew with collected := addBit 0 i.chunk, taken := true } := by
          rw [PullRecord.withChunk, if_neg (addBit_zero_ne_allChunks i.chunk)]
        rw [hwith] at hroom
        exact ⟨hfull hnew, hroom hnew⟩
  · rw [State.imageHeard, hp]
    dsimp only
    rw [hnamed, Option.isSome_iff_ne_none.2 hruns, if_pos (Bool.and_self true)]
    have hr := State.pullOf_region hp
    exact State.putPull_of_region (p := { p with timer := some 0 }) hr
  · rw [State.imageHeard]
    rcases hnone with hnone | hunnamed | ⟨p, hp, htimer⟩
    · rw [hnone]
    · rw [hunnamed]
      split <;> rfl
    · rw [hp]
      dsimp only
      rw [htimer, Option.isSome_none, Bool.and_false, if_neg (by simp)]
  · have hstate : ((s.rosterHandoff (.image i)).imageHeard i).ctl.state ≠ .listening := by
      rw [State.imageHeard_ctl]
      exact hst
    exact if_neg hstate

end Sys2Proof.Machine
end

section
/-! SUPPORT. The Apply Queue head's write, a chunk at the Catch-up Unit, and an image chunk read (R141, R131, R123). -/

namespace Sys2Proof.Machine

-- One proof at a time: the proofs that wait for each other would hold the memory of the whole text.
set_option Elab.async false

/-! ### CHUNK_READ_DONE (R123) -/

theorem State.servingOf_region {s : State} {r : Region} {v : ServingRecord} (h : s.servingOf r = some v) : v.region = r := by
  simpa using List.find?_some h

theorem ServingRecord.needing_iff (v : ServingRecord) (k : Chunk) (n : Station) :
    inMap (v.needing k) n = true ↔ ∃ q ∈ v.targets, q.station = n ∧ inMap q.needed k = true := by
  simp [ServingRecord.needing, List.any_eq_true]

theorem ServingRecord.needing_eq_zero_iff (v : ServingRecord) (k : Chunk) :
    v.needing k = 0 ↔ ∀ q ∈ v.targets, inMap q.needed k = false := by
  refine ⟨fun h q hq => ?_, fun h => map_ext fun n => ?_⟩
  · have hn : ¬ inMap (v.needing k) q.station = true := by rw [h]; simp
    rw [v.needing_iff] at hn
    exact Bool.eq_false_iff.2 fun hneed => hn ⟨q, hq, rfl, hneed⟩
  · refine (Bool.eq_false_iff.2 fun hn => ?_).trans (inMap_zero n).symm
    obtain ⟨q, hq, -, hneed⟩ := (v.needing_iff k n).1 hn
    rw [h q hq] at hneed
    cases hneed

/-- Settles O27: the cases of `State.chunkRead`. -/
theorem chunkReadMakesImageEntry : Obligations.ChunkReadMakesImageEntry := by
  intro s r k stamp live hop free
  have hexec : exec .chunkReadDone s = .next (s.chunkRead r k stamp live).finishOp := by
    rw [exec, execChunkReadDone, hop]
  rw [hexec]
  refine ⟨fun hgone => ?_, fun v hlive hv => ?_⟩
  · rcases hgone with hdead | hnone
    · rw [State.chunkRead, hdead]
      split <;> rfl
    · rw [State.chunkRead, hnone]
      rfl
  · have hregion := State.servingOf_region hv
    have hread : s.chunkRead r k stamp live = if v.needing k = 0 then free.putServing { v with read := .none }
        else (free.putServing { v with read := .none, next := k + 1 }).appendEntry r
          (.image ⟨stamp, k, v.needing k, s.readArray r (chunkOffset k) Config.chunkBytes⟩) := by
      rw [State.chunkRead, hv, hlive]
      rfl
    refine ⟨fun hnone => ?_, fun hsome => ⟨v.needing k, v.needing_iff k, ?_⟩⟩
    · rw [hread, if_pos ((v.needing_eq_zero_iff k).2 hnone), State.putServing_of_region (r := r) (by exact hregion)]
    · have hneeded : ¬ v.needing k = 0 := fun h => by
        obtain ⟨q, hq, hneed⟩ := hsome
        rw [(v.needing_eq_zero_iff k).1 h q hq] at hneed
        cases hneed
      have hbytes : s.readArray r (chunkOffset k) Config.chunkBytes
          = (List.range 256).map (fun i => memRead s.nv.array (4096 * r.val + 256 * k.val + i)) := by
        simp only [State.readArray, memReadBytes, arrayAddr, chunkOffset, Config.chunkBytes, Config.regionBytes]
      rw [hread, if_neg hneeded, hbytes, State.putServing_of_region (r := r) (by exact hregion)]
      rfl

/-! ### A written chunk at the Catch-up Unit (R131) -/

theorem State.pullEntries_gone (s : State) (r : Region) : ∀ x ∈ (s.discardEntries (pullEntryOf r) false).out.entries,
    x.isPull = true → x.region = r → x.sending = true ∧ x.doom ≠ .none := by
  rw [State.discardEntries_of_spared s _ (pullEntryOf_spared r)]
  intro x hx hpull hregion
  exact sending_of_mem_removalAsked (fun x d => by cases x; rfl) hx (by simp [pullEntryOf, hpull, hregion])

theorem State.pullEntries_others (s : State) (r : Region) :
    (s.discardEntries (pullEntryOf r) false).out.entries.filter (fun x => !(x.isPull && x.region == r))
      = s.out.entries.filter (fun x => !(x.isPull && x.region == r)) := by
  rw [State.discardEntries_of_spared s _ (pullEntryOf_spared r)]
  exact filter_removalAsked_of_spared (fun x d => by cases x; rfl)
    (fun x hx => by rw [show (x.isPull && x.region == r) = true from hx]; rfl) _

/-- The record that a written CHUNK entry names, with its identity and the stamp it collects (R131). -/
def PullRecord.collects (pull : Nat) (stamp : Stamp) (p : PullRecord) : Bool := p.id == pull && p.collecting == some stamp

theorem PullRecord.collects_iff (pull : Nat) (stamp : Stamp) (p : PullRecord) :
    p.collects pull stamp = true ↔ p.id = pull ∧ p.collecting = some stamp := by
  simp [PullRecord.collects]

/-- A written chunk whose record is found between others of other regions. -/
theorem State.chunkWritten_of_split {s : State} {k : Chunk} {stamp : Stamp} {pull : Nat} {before after : List PullRecord}
    {p : PullRecord} (hpulls : s.catchup.pulls = before ++ p :: after) (hp : p.collects pull stamp = true)
    (hfirst : ∀ x ∈ before, ¬ (x.id = pull ∧ x.collecting = some stamp)) (hothers : ∀ x ∈ before ++ after, x.region ≠ p.region) :
    let put := { s with catchup := { s.catchup with
      pulls := before ++ { p with written := addBit p.written k } :: after } }
    s.chunkWritten k stamp pull = if addBit p.written k = allChunks then put.completePull p stamp else put := by
  intro put
  have hfind : s.catchup.pulls.find? (PullRecord.collects pull stamp) = some p := by
    have hnone : before.find? (PullRecord.collects pull stamp) = none :=
      List.find?_eq_none.2 fun x hx => mt (PullRecord.collects_iff pull stamp x).1 (hfirst x hx)
    rw [hpulls, List.find?_append, hnone, List.find?_cons_of_pos hp]
    rfl
  have hput : s.putPull { p with written := addBit p.written k } = put := by
    rw [State.putPull, State.mapCatchup, State.setCatchup, hpulls, map_region_of_split (q := { p with written := _ }) hothers]
  rw [State.chunkWritten, show s.catchup.pulls.find? (fun q => q.id == pull && q.collecting == some stamp) = some p from hfind]
  dsimp only
  rw [hput]

/-- A pull that completes: the copy at the stamp collected, the record closed, its PULL entry gone (R131). -/
theorem State.completePull_eq {s : State} {p : PullRecord} {collecting : Stamp} {before after : List PullRecord} {q : PullRecord}
    (hpulls : s.catchup.pulls = before ++ q :: after) (hq : q.region = p.region)
    (hothers : ∀ x ∈ before ++ after, x.region ≠ p.region) : s.completePull p collecting
      = State.post (State.discardEntries { s.mapEntry p.region (fun e => { e with
          stamp := if stampLower collecting e.stamp then e.stamp else collecting, copy := .current }) with
        catchup := { s.catchup with pulls := before ++ after } } (pullEntryOf p.region) false) (.regionCurrent p.region) := by
  rw [← hq] at hothers
  rw [State.completePull, State.dropPull, State.mapCatchup, State.mapEntry_catchup, hpulls, ← hq, filter_region_of_split hothers]
  rfl

/-! ### APPLY_WRITE_DONE (R141) -/

/-- The state in which the bookkeeping of the head's write begins: its bytes in the array, its entry gone (R141 step 1). -/
def State.headWritten (s : State) (e : ApplyEntry) (rest : List ApplyEntry) : State := { s with
  nv := { s.nv with array := memWriteBytes s.nv.array (4096 * e.region.val + e.body.span.1) e.body.span.2 }
  arb := { s.arb with op := none }
  applyQ := rest }

/-- The retained image and the intent record after the head's write (R141 steps 3 and 4). -/
def State.headRetained (s : State) (e : ApplyEntry) (rest : List ApplyEntry) (made : State) : State := { made with
  nv := { made.nv with
    regions := made.nv.regions.set e.region (nvImage made.table[e.region]
      (rest.any (fun x => x.region == e.region) || inMap s.unsaved e.region))
    intent := s.intentAfterApply } }

theorem State.applyDone_eq (s : State) (e : ApplyEntry) (rest : List ApplyEntry) :
    s.applyDone e rest = s.headRetained e rest ((s.headWritten e rest).applied e.body) := by
  have hwritten : ((s.writeArray e.region e.body.span.1 e.body.span.2).endOp).setApplyQ rest = s.headWritten e rest := rfl
  rw [State.applyDone, hwritten]
  have hunwritten : ((s.headWritten e rest).applied e.body).unwritten e.region
      = (rest.any (fun x => x.region == e.region) || inMap s.unsaved e.region) := by
    rw [State.unwritten, State.applied_applyQ, State.applied_unsaved]
    rfl
  generalize (s.headWritten e rest).applied e.body = made at hunwritten ⊢
  have hsame : made.table.set e.region made.table[e.region] = made.table := Vector.set_getElem_self _
  rw [State.retain, State.mapEntry, State.setEntry, hunwritten]
  simp only [id, hsame]
  rfl

theorem State.execApplyWriteDone_eq {s : State} {e : ApplyEntry} {rest : List ApplyEntry} (hop : s.arb.op = some .apply)
    (hqueue : s.applyQ = e :: rest) (hspan : inRegion e.body.span.1 e.body.span.2.length = true) :
    exec .applyWriteDone s = .next (s.headRetained e rest ((s.headWritten e rest).applied e.body)).finishOp := by
  rw [exec, execApplyWriteDone, hop, hqueue]
  dsimp only
  rw [if_pos hspan, s.applyDone_eq]

/-- Settles O26: the bookkeeping by the entry's kind and the power state; a completed pull by the rules of the operations that
`State.completePull` joins. -/
theorem applyWriteAndPullCompletion : Obligations.ApplyWriteAndPullCompletion := by
  refine ⟨fun s e rest hop hqueue => ?head, fun s k stamp pull => ⟨fun hnone => ?unnamed,
    fun before p after hpulls hid hcollect hfirst hothers => ?named⟩⟩
  case head =>
    intro intent wrote retained
    have hintent : s.intentAfterApply = intent := rfl
    have hretained (made : State) : s.headRetained e rest made = retained made := by rw [State.headRetained, hintent]
    refine ⟨fun offset data hbody hspan => ?_, fun k data stamp pull hbody hlength => ?_⟩
    · have hwritten : s.headWritten e rest = wrote offset data := by rw [State.headWritten, hbody]; rfl
      have happlied : (wrote offset data).applied e.body = wrote offset data := by
        rw [hbody, State.applied.eq_def]
        split <;> simp_all
      rw [State.execApplyWriteDone_eq hop hqueue (by simpa [hbody, ApplyBody.span, inRegion, Config.regionBytes] using hspan),
        hwritten, happlied, hretained]
    · intro made
      have hwritten : s.headWritten e rest = wrote (256 * k.val) data := by rw [State.headWritten, hbody]; rfl
      have hspan : inRegion e.body.span.1 e.body.span.2.length = true := by
        rw [hbody]
        have hk := k.isLt
        refine decide_eq_true (?_ : 256 * k.val + data.length ≤ 4096)
        omega
      rw [State.execApplyWriteDone_eq hop hqueue hspan, hwritten, hretained]
      refine ⟨fun hon => ?_, fun x hreset => ?_⟩
      · have happlied : (wrote (256 * k.val) data).applied e.body = made := by
          rw [hbody, State.applied.eq_def, show (wrote (256 * k.val) data).power = .on from hon]
        rw [happlied]
      · have happlied : (wrote (256 * k.val) data).applied e.body
            = (wrote (256 * k.val) data).chunkWrittenInReset k stamp pull := by
          rw [hbody, State.applied.eq_def, show (wrote (256 * k.val) data).power = .resetPending x from hreset]
        rw [happlied, State.chunkWrittenInReset]
        by_cases hbit : Config.freeBit (wrote (256 * k.val) data).free = true
        · rw [if_pos hbit]
          exact .inl rfl
        · rw [if_neg hbit]
          exact .inr rfl
  case unnamed =>
    have hfind : s.catchup.pulls.find? (PullRecord.collects pull stamp) = none :=
      List.find?_eq_none.2 fun x hx => mt (PullRecord.collects_iff pull stamp x).1 (hnone x hx)
    rw [State.chunkWritten, show s.catchup.pulls.find? (fun q => q.id == pull && q.collecting == some stamp) = none from hfind]
  case named =>
    have hp := (PullRecord.collects_iff pull stamp p).2 ⟨hid, hcollect⟩
    have hwritten := State.chunkWritten_of_split (k := k) hpulls hp hfirst hothers
    refine ⟨fun hsome => by rw [hwritten, if_neg (by exact hsome)], fun hall hfence => ⟨_, rfl, ?_⟩⟩
    rw [hwritten, if_pos (by exact hall), State.completePull_eq (p := p) (q := { p with written := addBit p.written k }) rfl rfl hothers]
    generalize hdone : ({ State.mapEntry _ p.region _ with catchup := _ } : State) = u
    have hout : u.out = s.out := by rw [← hdone]; rfl
    have hheld := State.discardEntries_of_holds u (pullEntryOf p.region) (fun e he => (pullEntryOf_spared p.region e he).1)
      (by rw [Outbox.fenceHolds, hout]; exact hfence)
    refine ⟨?copy, fun q hq => ?others, ?catchup, ?events, ?gone, ?kept, ?fence, ?queue, ?array, ?line, ?ctl, ?port⟩
    case gone => exact u.pullEntries_gone p.region
    case kept => exact (u.pullEntries_others p.region).trans (by rw [hout])
    case fence => exact hheld.1.trans (by rw [hout])
    case events =>
      rw [State.events_post, hheld.2, ← hdone]
      rfl
    case copy =>
      rw [State.post_table, State.discardEntries_table, ← hdone]
      exact Vector.getElem_set_self _
    case others =>
      rw [State.post_table, State.discardEntries_table, ← hdone]
      exact Vector.getElem_set_ne p.region.isLt q.isLt (Fin.val_ne_of_ne hq.symm)
    case catchup => rw [State.post_catchup, State.discardEntries_catchup, ← hdone]
    case queue => rw [State.post_applyQ, State.discardEntries_applyQ, ← hdone]; rfl
    case array => rw [State.post_nv, State.discardEntries_nv, ← hdone]; rfl
    case line => rw [State.post_line, State.discardEntries_line, ← hdone]; rfl
    case ctl => rw [State.post_ctl, State.discardEntries_ctl_of_uncut, ← hdone]; rfl
    case port => rw [State.post_port, State.discardEntries_port, ← hdone]; rfl

end Sys2Proof.Machine
end

section
/-! SUPPORT. The array arbiter (R135 to R137). -/

namespace Sys2Proof.Machine

-- One proof at a time: the proofs that wait for each other would hold the memory of the whole text.
set_option Elab.async false

/-! ### What the arbiter chooses (R136) -/

theorem State.arbitrate_of_free {s : State} (h : s.arb.op = none) :
    s.arbitrate = match s.choice with
      | .none => s
      | .host => s.grantHost
      | .head => s.grantHead
      | .image v => s.grantImage v := by
  rw [State.arbitrate, h]
  rfl

/-- The head of the Apply Queue comes before the Host Port (R136 lines 2 and 3). -/
def State.headFirst (s : State) : Bool := s.headWaits && (!s.hostWaits || s.arb.hostStreak == Config.arbiterLimit)

theorem State.headFirst_iff (s : State) :
    s.headFirst = true ↔ s.headWaits = true ∧ (s.hostWaits = false ∨ s.arb.hostStreak = 4) := by
  simp [State.headFirst, Config.arbiterLimit]

/-- Where no image read goes first, the head and the Host Port are chosen by R136 alone. -/
theorem State.choice_of_unhurried {s : State} (h : s.waitingRead = none ∨ s.arb.imageWait ≠ 4) :
    (s.headFirst = true → s.choice = .head) ∧ (s.headFirst = false → s.hostWaits = true → s.choice = .host) := by
  have hfirst : (s.headWaits && (!s.hostWaits || s.arb.hostStreak == Config.arbiterLimit)) = s.headFirst := rfl
  rw [State.choice, hfirst]
  cases hread : s.waitingRead with
  | none => exact ⟨fun hhead => by rw [hhead]; rfl, fun hhead hhost => by rw [hhead, hhost]; rfl⟩
  | some v =>
    have hwait : ¬ s.arb.imageWait = Config.arbiterLimit := h.resolve_left (by simp [hread])
    dsimp only
    rw [if_neg hwait]
    exact ⟨fun hhead => by rw [hhead]; rfl, fun hhead hhost => by rw [hhead, hhost]; rfl⟩

theorem State.choice_of_hurried {s : State} {v : ServingRecord} (h : s.waitingRead = some v) (hwait : s.arb.imageWait = 4) :
    s.choice = .image v := by
  rw [State.choice, h]
  exact if_pos hwait

theorem State.choice_of_image_alone {s : State} {v : ServingRecord} (h : s.waitingRead = some v) (hhead : s.headWaits = false)
    (hhost : s.hostWaits = false) : s.choice = .image v := by
  rw [State.choice, h, hhead, hhost]
  dsimp only
  split <;> rfl

theorem State.choice_of_none {s : State} (h : s.waitingRead = none) (hhead : s.headWaits = false)
    (hhost : s.hostWaits = false) : s.choice = .none := by
  rw [State.choice, h, hhead, hhost]
  rfl

/-! ### The older waiting read (R136) -/

/-- What `olderRead` keeps of the records seen so far: none that waits, or the one with the lowest order mark. -/
def oldestOf (s : State) (seen : List ServingRecord) : Option ServingRecord → Prop
  | none => ∀ v ∈ seen, s.readWaits v = none
  | some v => v ∈ seen ∧ ∃ n, s.readWaits v = some n ∧ ∀ x ∈ seen, ∀ m, s.readWaits x = some m → n ≤ m

theorem oldestOf_olderRead {s : State} {seen : List ServingRecord} {a : Option ServingRecord} (h : oldestOf s seen a)
    (v : ServingRecord) : oldestOf s (seen ++ [v]) (olderRead s a v) := by
  cases hv : s.readWaits v with
  | none =>
    have hsame : olderRead s a v = a := by rw [olderRead.eq_def, hv]
    rw [hsame]
    cases a with
    | none => simpa [oldestOf, or_imp, forall_and, hv] using h
    | some w =>
      obtain ⟨hmem, n, hn, hleast⟩ := h
      refine ⟨List.mem_append_left _ hmem, n, hn, fun x hx m hm => ?_⟩
      rcases List.mem_append.1 hx with hx | hx
      · exact hleast x hx m hm
      · rw [List.mem_singleton.1 hx, hv] at hm
        cases hm
  | some k =>
    cases a with
    | none =>
      have hnew : olderRead s none v = some v := by rw [olderRead.eq_def, hv]
      rw [hnew]
      refine ⟨List.mem_append_right _ (List.mem_singleton_self v), k, hv, fun x hx m hm => ?_⟩
      rcases List.mem_append.1 hx with hx | hx
      · rw [h x hx] at hm
        cases hm
      · rw [List.mem_singleton.1 hx, hv] at hm
        exact le_of_eq (Option.some.inj hm)
    | some w =>
      obtain ⟨hmem, n, hn, hleast⟩ := h
      have hpick : olderRead s (some w) v = if k < n then some v else some w := by rw [olderRead.eq_def, hv]; dsimp only; rw [hn]; rfl
      rw [hpick]
      split
      next hlt =>
        refine ⟨List.mem_append_right _ (List.mem_singleton_self v), k, hv, fun x hx m hm => ?_⟩
        rcases List.mem_append.1 hx with hx | hx
        · exact (le_of_lt hlt).trans (hleast x hx m hm)
        · rw [List.mem_singleton.1 hx, hv] at hm
          exact le_of_eq (Option.some.inj hm)
      next hge =>
        refine ⟨List.mem_append_left _ hmem, n, hn, fun x hx m hm => ?_⟩
        rcases List.mem_append.1 hx with hx | hx
        · exact hleast x hx m hm
        · rw [List.mem_singleton.1 hx, hv] at hm
          exact (Nat.le_of_not_lt hge).trans (le_of_eq (Option.some.inj hm))

theorem oldestOf_foldl (s : State) : ∀ (l seen : List ServingRecord) (a : Option ServingRecord), oldestOf s seen a →
    oldestOf s (seen ++ l) (l.foldl (olderRead s) a)
  | [], seen, a, h => by simpa using h
  | v :: l, seen, a, h => by
    have := oldestOf_foldl s l (seen ++ [v]) (olderRead s a v) (oldestOf_olderRead h v)
    simpa using this

theorem State.waitingRead_oldest (s : State) : oldestOf s s.serving s.waitingRead :=
  oldestOf_foldl s s.serving [] none (fun _ hv => absurd hv List.not_mem_nil)

theorem State.waitingRead_none_iff (s : State) : s.waitingRead = none ↔ ∀ v ∈ s.serving, s.readWaits v = none := by
  have h := s.waitingRead_oldest
  cases hread : s.waitingRead with
  | none =>
    rw [hread] at h
    exact ⟨fun _ => h, fun _ => rfl⟩
  | some v =>
    rw [hread] at h
    obtain ⟨hmem, n, hn, -⟩ := h
    refine ⟨fun hc => absurd hc (by simp), fun hnone => ?_⟩
    rw [hnone v hmem] at hn
    cases hn

/-! ### Requests held back (R135, R139) -/

theorem State.queuedBefore_eq_false_iff (s : State) (r : Region) (before : Nat) :
    s.queuedBefore r before = false ↔ ∀ e ∈ s.applyQ, e.region = r → before ≤ e.seq := by
  simp [State.queuedBefore, List.any_eq_false]

theorem State.queuedBefore_iff (s : State) (r : Region) (before : Nat) :
    s.queuedBefore r before = true ↔ ∃ e ∈ s.applyQ, e.region = r ∧ e.seq < before := by
  simp [State.queuedBefore, List.any_eq_true]

theorem State.headHeld_of_not_read {s : State} (h : ∀ w, s.port.state ≠ .working (.read w)) (e : ApplyEntry) :
    s.headHeld e = false := by
  rw [State.headHeld]
  split
  next w hw => exact absurd hw (h w)
  next => rfl

/-- Settles O28: the choice by the two counts, the grants field by field, and the requests held back. -/
theorem arbiterGrantsInOrder : Obligations.ArbiterGrantsInOrder := by
  refine ⟨fun s => ⟨fun hbusy => ?busy, fun hfree => ?free, fun v hv => ?oldest, s.waitingRead_none_iff,
    fun e rest hqueue => ?head, fun w op hw hop => ?host, fun v k order hread => ?image⟩,
    fun s => ⟨fun w hw => ?read, fun w hw => ?write, fun r k hw => ?format, fun hport => ?silent, fun hempty => ?empty,
      fun hno => ?headWaits, fun v k order hread => ?readWaits, fun v hno => ?noRead⟩⟩
  case busy =>
    rw [State.arbitrate, if_pos (Option.isSome_iff_ne_none.2 hbusy)]
  case free =>
    rw [State.arbitrate_of_free hfree]
    refine ⟨fun v hv hwait => by rw [State.choice_of_hurried hv hwait], fun hcalm hhead hfirst => ?_,
      fun hcalm hsecond hhost => ?_, fun v hv hhead hhost => by rw [State.choice_of_image_alone hv hhead hhost],
      fun hnone hhead hhost => by rw [State.choice_of_none hnone hhead hhost]⟩
    · rw [(State.choice_of_unhurried hcalm).1 (s.headFirst_iff.2 ⟨hhead, hfirst⟩)]
    · have hnot : s.headFirst = false := Bool.eq_false_iff.2 fun h => by
        obtain ⟨hhead, hstreak⟩ := s.headFirst_iff.1 h
        rcases hsecond with hno | hno
        · simp [hno] at hhead
        · exact hstreak.elim (fun hidle => by simp [hidle] at hhost) hno
      rw [(State.choice_of_unhurried hcalm).2 hnot hhost]
  case oldest =>
    have h := s.waitingRead_oldest
    rw [hv] at h
    exact h
  case head =>
    have hgrant : s.grantHead = (s.setArb ⟨some .apply, 0, if s.waitingRead.isSome then bump s.arb.imageWait else 0⟩).setIntent
        (some ⟨e.body.intent, e.region⟩) := by rw [State.grantHead, hqueue]
    have hkind : e.body.intent = match e.body with | .update _ _ => .apply | .chunk _ _ _ _ => .chunk := by
      cases e.body <;> rfl
    rw [hgrant, hkind]
    rfl
  case host =>
    cases w with
    | setup m g => exact absurd hop (by simp)
    | read w | write w | format r k =>
      obtain rfl := hop
      rw [State.grantHost, hw]
      rfl
  case image =>
    rw [State.grantImage, hread]
    rfl
  case read =>
    refine ⟨?_, fun e rest hqueue => ?_⟩
    · rw [State.hostWaits, hw, ← s.queuedBefore_eq_false_iff, Bool.not_eq_true']
    · have hheld : s.headHeld e = (w.region == e.region && decide (w.before ≤ e.seq)) := by rw [State.headHeld, hw]
      rw [State.headWaits, hqueue]
      dsimp only
      rw [hheld, Bool.not_eq_true', Bool.eq_false_iff]
      simp [@eq_comm _ w.region]
  case write => rw [State.hostWaits, hw, ← s.queuedBefore_eq_false_iff, Bool.not_eq_true']
  case format => rw [State.hostWaits, hw]
  case silent =>
    rcases hport with h | ⟨a, h⟩ | ⟨m, g, h⟩ <;> rw [State.hostWaits, h]
  case empty => rw [State.headWaits, hempty]
  case headWaits =>
    rw [State.headWaits]
    cases hqueue : s.applyQ with
    | nil => simp
    | cons e rest => simp [State.headHeld_of_not_read hno]
  case readWaits =>
    rw [← s.queuedBefore_eq_false_iff, ← s.queuedBefore_iff, State.readWaits, hread]
    cases hbefore : s.queuedBefore v.region order <;> simp [hbefore]
  case noRead =>
    rw [State.readWaits]
    split
    next k order h => exact absurd h (hno k order)
    next => rfl

end Sys2Proof.Machine
end

section
/-! SUPPORT. The pulls that open, the chunk reads that are requested, and what ends a step (R113 to R115, R123). -/

namespace Sys2Proof.Machine

-- One proof at a time: the proofs that wait for each other would hold the memory of the whole text.
set_option Elab.async false

/-! ### Which pull opens next (R113) -/

theorem State.pullable_iff (s : State) (r : Region) : s.pullable r = true ↔ ∃ c o, s.table[r].copy = .stale c
    ∧ s.table[r].owner = some o ∧ o.station ≠ s.own ∧ (s.statusOf o.station = .present ∨ s.statusOf o.station = .dozing) := by
  rw [State.pullable]
  split
  next c o hcopy howner =>
    rw [Bool.and_eq_true, bne_iff_ne, Presence.counted_iff]
    refine ⟨fun h => ⟨c, o, hcopy, howner, h⟩, fun ⟨d, w, _, hw, h⟩ => ?_⟩
    rw [howner] at hw
    obtain rfl := Option.some.inj hw
    exact h
  next hno => exact ⟨fun h => absurd h Bool.false_ne_true, fun ⟨c, o, hcopy, howner, _⟩ => absurd howner (hno c o hcopy)⟩

theorem State.pullFor_of_stale {s : State} {r : Region} {c : Cause} {o : Owner} (hcopy : s.table[r].copy = .stale c)
    (howner : s.table[r].owner = some o) : s.pullFor r = some (r, o.station, c) := by
  rw [State.pullFor, hcopy, howner]

theorem State.nextPull_of_shut {s : State} (h : s.ctl.state.working = false ∨ 2 ≤ s.catchup.pulls.length
    ∨ ∀ r ∈ s.catchup.list, s.pullable r = false) : s.nextPull = none := by
  rw [State.nextPull]
  split
  next hopen =>
    rcases h with h | h | h
    · simp [h] at hopen
    · exact absurd hopen.2 (Nat.not_lt.2 h)
    · rw [List.find?_eq_none.2 fun r hr => by simp [h r hr]]
      rfl
  next => rfl

theorem State.nextPull_of_split {s : State} {before after : List Region} {r : Region} {c : Cause} {o : Owner}
    (hworking : s.ctl.state.working = true) (hroom : s.catchup.pulls.length < 2) (hlist : s.catchup.list = before ++ r :: after)
    (hbefore : ∀ x ∈ before, s.pullable x = false) (hr : s.pullable r = true) (hcopy : s.table[r].copy = .stale c)
    (howner : s.table[r].owner = some o) : s.nextPull = some (r, o.station, c) := by
  have hnone : before.find? s.pullable = none := List.find?_eq_none.2 fun x hx => by simp [hbefore x hx]
  rw [State.nextPull, if_pos ⟨hworking, hroom⟩, hlist, List.find?_append, hnone, List.find?_cons_of_pos hr]
  exact State.pullFor_of_stale hcopy howner

/-- What a next pull says: it is pullable, with its owner and cause, in ACTIVE or ISOLATED with a record free. -/
theorem State.of_nextPull {s : State} {r : Region} {n : Station} {c : Cause} (h : s.nextPull = some (r, n, c)) :
    s.pullable r = true ∧ s.table[r].copy = .stale c ∧ s.catchup.pulls.length < 2 := by
  rw [State.nextPull] at h
  split at h
  next hopen =>
    obtain ⟨q, hfind, hfor⟩ := Option.bind_eq_some_iff.1 h
    rw [State.pullFor] at hfor
    split at hfor
    next d o hcopy howner =>
      obtain ⟨rfl, rfl, rfl⟩ : q = r ∧ o.station = n ∧ d = c := by simpa using hfor
      exact ⟨List.find?_some hfind, hcopy, hopen.2⟩
    next => cases hfor
  next => cases h

/-- What `State.nextPull` reads of a state. -/
theorem State.nextPull_congr {s t : State} (htable : t.table = s.table) (hctl : t.ctl = s.ctl) (hroster : t.roster = s.roster)
    (hlist : t.catchup.list = s.catchup.list) (hlength : t.catchup.pulls.length = s.catchup.pulls.length) :
    t.nextPull = s.nextPull := by
  have hpullable : t.pullable = s.pullable := by
    funext r
    rw [State.pullable, State.pullable, State.own, State.own, htable, hctl]
    simp only [State.statusOf, hroster]
  have hfor : t.pullFor = s.pullFor := by
    funext r
    rw [State.pullFor, State.pullFor, htable]
  rw [State.nextPull, State.nextPull, hpullable, hfor, hctl, hlist, hlength]

/-! ### PULL entries queued (R65, R115) -/

/-- The PULL entry of a record, with its force (R115). -/
def State.pullEntry (s : State) (p : PullRecord) : OutEntry :=
  ⟨p.region, .pull (s.table[p.region].copy == .fetching .damaged || p.taken), false, .none⟩

/-- A record whose PULL entry has been queued, among the records of a list. -/
def settledPull (placed : List PullRecord) (q : PullRecord) : PullRecord :=
  if q.region ∈ placed.map (·.region) then { q with owed := false } else q

@[simp] theorem settledPull_region (placed : List PullRecord) (q : PullRecord) : (settledPull placed q).region = q.region := by
  rw [settledPull]
  split <;> rfl

theorem settledPull_settledPull (first second : List PullRecord) (q : PullRecord) :
    settledPull second (settledPull first q) = settledPull (first ++ second) q := by
  by_cases hf : q.region ∈ first.map (·.region) <;> by_cases hs : q.region ∈ second.map (·.region) <;>
    simp only [settledPull, hf, hs, List.map_append, List.mem_append, if_true, if_false, or_true, or_false]

/-- The records of a list whose PULL entries find room, the older record first (R65, R115). -/
def roomedPulls (entries : List OutEntry) (ps : List PullRecord) : List PullRecord :=
  (ps.filter PullRecord.owed).take (2 - entries.countP OutEntry.isPull)

theorem State.foldl_queuePull (ps : List PullRecord) : ∀ s : State, ps.foldl State.queuePull s = { s with
    catchup := { s.catchup with pulls := s.catchup.pulls.map (settledPull (roomedPulls s.out.entries ps)) }
    out := { s.out with entries := s.out.entries ++ (roomedPulls s.out.entries ps).map s.pullEntry } } := by
  have hid (q : PullRecord) : settledPull [] q = q := if_neg List.not_mem_nil
  have hnone (s : State) : s = { s with
      catchup := { s.catchup with pulls := s.catchup.pulls.map (settledPull []) }
      out := { s.out with entries := s.out.entries ++ [] } } := by
    rw [List.append_nil, List.map_congr_left fun q _ => hid q, List.map_id']
  induction ps with
  | nil =>
    intro s
    rw [roomedPulls, List.filter_nil, List.take_nil]
    exact hnone s
  | cons p ps ih =>
    intro s
    rw [List.foldl_cons]
    by_cases howed : p.owed = true
    · by_cases hroom : s.out.entries.countP OutEntry.isPull < 2
      · have hentries : ∀ x : OutEntry, x.isPull = true → roomedPulls s.out.entries (p :: ps)
            = p :: roomedPulls (s.out.entries ++ [x]) ps := by
          intro x hx
          rw [roomedPulls, roomedPulls, List.filter_cons_of_pos howed, List.countP_append, List.countP_cons_of_pos hx, List.countP_nil,
            show 2 - s.out.entries.countP OutEntry.isPull = 2 - (s.out.entries.countP OutEntry.isPull + 1) + 1 by omega,
            List.take_succ_cons]
        have hmap : s.catchup.pulls.map (fun q => if q.region = p.region then { q with owed := false } else q)
            = s.catchup.pulls.map (settledPull [p]) := by
          refine List.map_congr_left fun q _ => ?_
          simp [settledPull]
        rw [State.queuePull_of_room howed hroom, ih, hmap, hentries (s.pullEntry p) rfl, List.map_map]
        have hcomp (l : List PullRecord) : settledPull l ∘ settledPull [p] = settledPull (p :: l) :=
          funext fun q => settledPull_settledPull [p] l q
        simp only [hcomp, List.map_cons, List.append_assoc, List.singleton_append, State.pullEntry]
        rfl
      · have hzero : 2 - s.out.entries.countP OutEntry.isPull = 0 := by omega
        rw [State.queuePull_of_full (Nat.le_of_not_lt hroom), ih, roomedPulls, roomedPulls, hzero, List.take_zero, List.take_zero]
    · have hsame : s.queuePull p = s := State.foldl_queuePull_of_none_owed (ps := [p]) (by simpa using howed) s
      rw [hsame, ih, roomedPulls, roomedPulls, List.filter_cons_of_neg howed]

/-- The PULL entries owed are queued where their kind has room (R65, R115). -/
theorem State.queuePulls_eq (s : State) : s.queuePulls = { s with
    catchup := { s.catchup with pulls := s.catchup.pulls.map (settledPull (roomedPulls s.out.entries s.catchup.pulls)) }
    out := { s.out with entries := s.out.entries ++ (roomedPulls s.out.entries s.catchup.pulls).map s.pullEntry } } :=
  s.foldl_queuePull s.catchup.pulls

theorem State.queuePulls_of_nothing {s : State}
    (h : (∀ p ∈ s.catchup.pulls, p.owed = false) ∨ 2 ≤ s.out.entries.countP OutEntry.isPull) : s.queuePulls = s := by
  rcases h with h | h
  · exact State.foldl_queuePull_of_none_owed h s
  · have hzero : roomedPulls s.out.entries s.catchup.pulls = [] := by
      rw [roomedPulls, show 2 - s.out.entries.countP OutEntry.isPull = 0 by omega, List.take_zero]
    have hid : s.catchup.pulls.map (settledPull []) = s.catchup.pulls :=
      (List.map_congr_left fun q _ => if_neg List.not_mem_nil).trans (List.map_id' _)
    rw [s.queuePulls_eq, hzero, hid, List.map_nil, List.append_nil]

theorem State.queuePulls_queuePulls (s : State) : s.queuePulls.queuePulls = s.queuePulls := by
  refine State.queuePulls_of_nothing ?_
  rw [s.queuePulls_eq]
  generalize hplaced : roomedPulls s.out.entries s.catchup.pulls = placed
  by_cases hfull : 2 ≤ s.out.entries.countP OutEntry.isPull + placed.length
  · right
    have hall : (placed.map s.pullEntry).countP OutEntry.isPull = placed.length := by
      rw [List.countP_map]
      exact List.countP_eq_length.2 fun p _ => rfl
    rw [List.countP_append, hall]
    exact hfull
  · left
    have hevery : placed = s.catchup.pulls.filter PullRecord.owed := by
      rw [← hplaced, roomedPulls]
      refine List.take_of_length_le (Nat.le_of_not_lt fun hlt => hfull ?_)
      rw [← hplaced, roomedPulls, List.length_take]
      omega
    intro q hq
    obtain ⟨p, hp, rfl⟩ := List.mem_map.1 hq
    rw [settledPull]
    split
    next => rfl
    next hout =>
      refine Bool.eq_false_iff.2 fun howed => hout ?_
      rw [hevery]
      exact List.mem_map_of_mem (List.mem_filter.2 ⟨hp, howed⟩)

/-! ### Pulls that open (R113, R114) -/

/-- The state with the pull of `p` opened, its PULL entry still owed (R114). -/
def State.opening (s : State) (r : Region) (n : Station) (c : Cause) : State :=
  ((s.addPull r n).countSerial).mapEntry r ({ · with copy := .fetching c })

theorem State.opening_eq (s : State) (r : Region) (n : Station) (c : Cause) : s.opening r n c = { s with
    catchup := { s.catchup with
      list := s.catchup.list.erase r
      pulls := s.catchup.pulls ++ [⟨s.serial, r, n, 1, none, none, 0, 0, false, true⟩] }
    table := s.table.set r { s.table[r] with copy := .fetching c }
    nv := { s.nv with regions := s.nv.regions.set r (nvImage { s.table[r] with copy := .fetching c } (s.unwritten r)) }
    serial := s.serial + 1 } := rfl

theorem State.openPull_eq (s : State) (r : Region) (n : Station) (c : Cause) : s.openPull r n c = (s.opening r n c).queuePulls := rfl

theorem State.opening_table (s : State) (r : Region) (n : Station) (c : Cause) :
    (s.opening r n c).table[r] = { s.table[r] with copy := .fetching c } := Vector.getElem_set_self _

theorem State.opening_table_other (s : State) {r q : Region} (n : Station) (c : Cause) (h : q ≠ r) :
    (s.opening r n c).table[q] = s.table[q] := Vector.getElem_set_ne r.isLt q.isLt (Fin.val_ne_of_ne h.symm)

theorem State.opening_pullable (s : State) (r : Region) (n : Station) (c : Cause) (q : Region) :
    (s.opening r n c).pullable q = (s.pullable q && q != r) := by
  by_cases hq : q = r
  · subst hq
    rw [State.pullable, s.opening_table q n c, bne_self_eq_false, Bool.and_false]
  · rw [State.pullable, s.opening_table_other n c hq, bne_iff_ne.2 hq, Bool.and_true, State.pullable]
    rfl

theorem State.nextPull_queuePulls (s : State) : s.queuePulls.nextPull = s.nextPull := by
  rw [s.queuePulls_eq]
  exact State.nextPull_congr rfl rfl rfl rfl (List.length_map _)

/-- A pull that opens for another region leaves the PULL entries that are queued before it as they are. -/
theorem State.opening_queuePull (s : State) {p : PullRecord} {r : Region} (n : Station) (c : Cause) (h : p.region ≠ r) :
    (s.queuePull p).opening r n c = (s.opening r n c).queuePull p := by
  by_cases hroom : p.owed = true ∧ s.out.entries.countP OutEntry.isPull < 2
  · rw [State.queuePull_of_room hroom.1 hroom.2, State.queuePull_of_room (s := s.opening r n c) hroom.1 hroom.2,
      s.opening_table_other n c h]
    have hlast : (⟨s.serial, r, n, 1, none, none, 0, 0, false, true⟩ : PullRecord).region ≠ p.region := h.symm
    simp only [State.opening, State.addPull, State.mapCatchup, State.setCatchup, State.countSerial, State.setSerial, State.mapEntry,
      State.setEntry, State.unwritten, List.map_append, List.map_cons, List.map_nil, if_neg hlast]
  · have hsame (t : State) (ht : t.out = s.out) : t.queuePull p = t := by
      by_cases howed : p.owed = true
      · exact State.queuePull_of_full (by rw [ht]; exact Nat.le_of_not_lt fun hlt => hroom ⟨howed, hlt⟩)
      · exact State.foldl_queuePull_of_none_owed (ps := [p]) (by simpa using howed) t
    rw [hsame s rfl, hsame (s.opening r n c) rfl]

theorem State.openPullsFrom_of_none (n : Nat) {s : State} (h : s.nextPull = none) : s.openPullsFrom n = s := by
  cases n with
  | zero => rfl
  | succ n => exact State.openPullsFrom_none n s h

theorem State.openPulls_of_none {s : State} (h : s.nextPull = none) : s.openPulls = s.queuePulls := by
  rw [State.openPulls, State.openPullsFrom_of_none _ h]

/-- Queueing the PULL entry of the first record first changes nothing. -/
theorem State.queuePulls_of_first {s : State} {p q : PullRecord} (hpulls : s.catchup.pulls = [p, q]) (h : q.region ≠ p.region) :
    (s.queuePull p).queuePulls = s.queuePulls := by
  have hboth : s.queuePulls = (s.queuePull p).queuePull q := by rw [State.queuePulls, hpulls]; rfl
  rw [hboth]
  by_cases hroom : p.owed = true ∧ s.out.entries.countP OutEntry.isPull < 2
  · have hafter : (s.queuePull p).catchup.pulls = [{ p with owed := false }, q] := by
      rw [State.queuePull_of_room hroom.1 hroom.2, hpulls]
      simp [h]
    rw [State.queuePulls, hafter]
    exact congrArg (State.queuePull · q) (State.foldl_queuePull_of_none_owed (ps := [{ p with owed := false }]) (by simp) _)
  · have hsame : s.queuePull p = s := by
      by_cases howed : p.owed = true
      · exact State.queuePull_of_full (Nat.le_of_not_lt fun hlt => hroom ⟨howed, hlt⟩)
      · exact State.foldl_queuePull_of_none_owed (ps := [p]) (by simpa using howed) s
    rw [hsame, State.queuePulls, hpulls, List.foldl_cons, hsame]
    rfl

theorem State.opening_length (s : State) (r : Region) (n : Station) (c : Cause) :
    (s.opening r n c).catchup.pulls.length = s.catchup.pulls.length + 1 := by
  show (s.catchup.pulls ++ [_]).length = _
  exact List.length_append

/-- The pulls that open, from the first that does (R113, R114). -/
theorem State.openPulls_of_next {s : State} {r : Region} {n : Station} {c : Cause} (h : s.nextPull = some (r, n, c)) :
    s.openPulls = (s.opening r n c).openPulls := by
  obtain ⟨-, -, hroom⟩ := State.of_nextPull h
  have hopen : s.openPulls = ((s.opening r n c).queuePulls.openPullsFrom 1).queuePulls := by
    rw [State.openPulls, show Config.pullLimit = 1 + 1 from rfl, State.openPullsFrom_some 1 s (r, n, c) h]
    rfl
  rw [hopen]
  have hlength := s.opening_length r n c
  have hnext := (s.opening r n c).nextPull_queuePulls
  cases hsecond : (s.opening r n c).nextPull with
  | none =>
    rw [hsecond] at hnext
    rw [State.openPullsFrom_of_none 1 hnext, State.queuePulls_queuePulls, State.openPulls_of_none hsecond]
  | some second =>
    obtain ⟨q, m, d⟩ := second
    rw [hsecond] at hnext
    obtain ⟨hpullable, -, hless⟩ := State.of_nextPull hsecond
    have hother : r ≠ q := by
      rw [s.opening_pullable r n c q] at hpullable
      exact (bne_iff_ne.1 (Bool.and_elim_right hpullable)).symm
    have hempty : s.catchup.pulls = [] := List.length_eq_zero_iff.1 (by omega)
    let first : PullRecord := ⟨s.serial, r, n, 1, none, none, 0, 0, false, true⟩
    have hfirst : (s.opening r n c).catchup.pulls = [first] := congrArg (· ++ [first]) hempty
    have hfull (t : State) (ht : t.catchup.pulls.length = 2) : t.nextPull = none :=
      State.nextPull_of_shut (.inr (.inl (le_of_eq ht.symm)))
    have hboth : ((s.opening r n c).opening q m d).catchup.pulls = [first, ⟨s.serial + 1, q, m, 1, none, none, 0, 0, false, true⟩] :=
      congrArg (· ++ [_]) hfirst
    have hqueued : (s.opening r n c).queuePulls = (s.opening r n c).queuePull first := by rw [State.queuePulls, hfirst]; rfl
    have hleft : (s.opening r n c).queuePulls.openPullsFrom 1 = ((s.opening r n c).opening q m d).queuePulls := by
      rw [State.openPullsFrom_some 0 _ (q, m, d) hnext]
      show ((s.opening r n c).queuePulls.opening q m d).queuePulls = _
      rw [hqueued, State.opening_queuePull _ m d hother, State.queuePulls_of_first hboth hother.symm]
    have hright : (s.opening r n c).openPullsFrom 2 = ((s.opening r n c).opening q m d).queuePulls := by
      rw [State.openPullsFrom_some 1 _ (q, m, d) hsecond]
      refine State.openPullsFrom_of_none 1 ?_
      show ((s.opening r n c).opening q m d).queuePulls.nextPull = none
      rw [State.nextPull_queuePulls]
      exact hfull _ (by rw [hboth]; rfl)
    rw [hleft]
    exact (congrArg State.queuePulls hright).symm

/-- The one pull that opens, its PULL entry with room (R113 to R115). -/
theorem State.openPulls_of_last {s : State} {r : Region} {n : Station} {c : Cause} (h : s.nextPull = some (r, n, c))
    (hlast : (s.opening r n c).nextPull = none) (hheld : ∀ p ∈ s.catchup.pulls, p.owed = false ∧ p.region ≠ r)
    (hroom : s.out.entries.countP OutEntry.isPull < 2) : s.openPulls
      = { s.opening r n c with
        catchup := { s.catchup with
          list := s.catchup.list.erase r
          pulls := s.catchup.pulls ++ [⟨s.serial, r, n, 1, none, none, 0, 0, false, false⟩] }
        out := { s.out with entries := s.out.entries ++ [⟨r, .pull (c == .damaged), false, .none⟩] } } := by
  have hsplit : (s.opening r n c).catchup.pulls
      = s.catchup.pulls ++ (⟨s.serial, r, n, 1, none, none, 0, 0, false, true⟩ : PullRecord) :: [] := rfl
  have hkeep : s.catchup.pulls.map (fun q => if q.region = r then { q with owed := false } else q) = s.catchup.pulls :=
    (List.map_congr_left fun x hx => if_neg (hheld x hx).2).trans (List.map_id' _)
  have hforce : ((s.opening r n c).table[r].copy == CopyState.fetching .damaged || false) = (c == .damaged) := by
    rw [s.opening_table r n c]
    cases c <;> rfl
  rw [State.openPulls_of_next h, State.openPulls_of_none hlast,
    State.queuePulls_of_split hsplit (by simpa using fun x hx => (hheld x hx).1), State.queuePull_of_room (s := s.opening r n c) rfl hroom]
  dsimp only
  rw [hforce, hsplit, List.map_append, hkeep, List.map_cons, List.map_nil, if_pos rfl]
  rfl

/-! ### Chunk reads requested (R123) -/

theorem ServingRecord.needed_iff (v : ServingRecord) (k : Chunk) :
    inMap v.needed k = true ↔ ∃ q ∈ v.targets, inMap q.needed k = true := by
  have hfold : ∀ (ts : List Target) (m : ChunkSet), inMap (ts.foldl (fun m t => m ||| t.needed) m) k = true
      ↔ inMap m k = true ∨ ∃ q ∈ ts, inMap q.needed k = true := by
    intro ts
    induction ts with
    | nil => simp
    | cons t ts ih =>
      intro m
      rw [List.foldl_cons, ih, show inMap (m ||| t.needed) k = (inMap m k || inMap t.needed k) by simp [inMap]]
      simp [or_assoc]
  exact (hfold v.targets 0).trans (by simp)

theorem ServingRecord.nextNeeded_of_first {v : ServingRecord} {i : Chunk} (h : inMap v.needed (v.next + i) = true)
    (hfirst : ∀ j : Chunk, j < i → inMap v.needed (v.next + j) = false) : v.nextNeeded = some (v.next + i) := by
  rw [ServingRecord.nextNeeded, List.find?_eq_some_iff_getElem]
  refine ⟨h, i.val, by simp, by simp, fun j hj => ?_⟩
  have hlt : j < 16 := hj.trans i.isLt
  simpa using hfirst ⟨j, hlt⟩ hj

theorem ServingRecord.nextNeeded_eq_none {v : ServingRecord} (h : ∀ k : Chunk, inMap v.needed k = false) : v.nextNeeded = none :=
  List.find?_eq_none.2 fun k _ => by simp [h k]

theorem State.servingOf_of_split {s : State} {before after : List ServingRecord} {v : ServingRecord}
    (hserving : s.serving = before ++ v :: after) (hothers : ∀ x ∈ before ++ after, x.region ≠ v.region) :
    s.servingOf v.region = some v := by
  have hnone : before.find? (fun q => q.region == v.region) = none :=
    List.find?_eq_none.2 fun x hx => by simpa using hothers x (List.mem_append_left _ hx)
  rw [State.servingOf, hserving, List.find?_append, hnone, List.find?_cons_of_pos (by simp)]
  rfl

theorem State.putServing_of_split {s : State} {before after : List ServingRecord} {v w : ServingRecord}
    (hserving : s.serving = before ++ v :: after) (hothers : ∀ x ∈ before ++ after, x.region ≠ v.region)
    (hw : w.region = v.region) : s.putServing w = { s with serving := before ++ w :: after } := by
  have hkeep (l : List ServingRecord) (hl : ∀ x ∈ l, x.region ≠ v.region) :
      l.map (fun x => if x.region = v.region then w else x) = l :=
    (List.map_congr_left fun x hx => if_neg (hl x hx)).trans (List.map_id' _)
  rw [State.putServing_of_region hw, hserving, List.map_append, List.map_cons, if_pos rfl,
    hkeep before fun x hx => hothers x (List.mem_append_left _ hx), hkeep after fun x hx => hothers x (List.mem_append_right _ hx)]

/-- A record with a read, or an IMAGE entry in the Outbox (R123). -/
theorem ServingRecord.busy_iff (s : State) (v : ServingRecord) : (v.reading || s.out.entries.any (imageOf v.region)) = true
    ↔ v.read ≠ .none ∨ ∃ x ∈ s.out.entries, x.isImage = true ∧ x.region = v.region := by
  simp [ServingRecord.reading, imageOf, List.any_eq_true]

theorem State.requestRead_of_split {s : State} {before after : List ServingRecord} {v : ServingRecord}
    (hserving : s.serving = before ++ v :: after) (hothers : ∀ x ∈ before ++ after, x.region ≠ v.region) :
    let busy := v.read ≠ .none ∨ ∃ x ∈ s.out.entries, x.isImage = true ∧ x.region = v.region
    let under := s.out.entries.countP OutEntry.isImage + s.serving.countP (fun x => x.read != .none)
    let needed := fun k : Chunk => ∃ q ∈ v.targets, inMap q.needed k = true
    (busy ∨ 2 ≤ under ∨ (∀ k : Chunk, ¬ needed k) → s.requestRead v.region = s)
    ∧ (∀ i : Chunk, ¬ busy → under < 2 → needed (v.next + i) → (∀ j : Chunk, j < i → ¬ needed (v.next + j)) →
      s.requestRead v.region = { s with
        serving := before ++ { v with read := .requested (v.next + i) s.serial } :: after
        serial := s.serial + 1 }) := by
  intro busy under needed
  have hrequest : s.requestRead v.region = if (v.reading || s.out.entries.any (imageOf v.region)) || decide (2 ≤ under) then s
      else match v.nextNeeded with
        | none => s
        | some k => (s.putServing { v with read := .requested k s.serial }).countSerial := by
    rw [State.requestRead, State.servingOf_of_split hserving hothers]
    rfl
  rw [hrequest]
  refine ⟨fun h => ?_, fun i hfree hunder hneed hfirst => ?_⟩
  · rcases h with h | h | h
    · rw [if_pos (by rw [(ServingRecord.busy_iff s v).2 h]; rfl)]
    · rw [if_pos (by rw [decide_eq_true h, Bool.or_true])]
    · rw [ServingRecord.nextNeeded_eq_none fun k => Bool.eq_false_iff.2 fun hk => h k ((v.needed_iff k).1 hk)]
      split <;> rfl
  · have hclear : ¬ ((v.reading || s.out.entries.any (imageOf v.region)) || decide (2 ≤ under)) = true := by
      rw [Bool.or_eq_true, decide_eq_true_eq, ServingRecord.busy_iff]
      exact fun h => h.elim hfree (Nat.not_le.2 hunder)
    rw [if_neg hclear, ServingRecord.nextNeeded_of_first ((v.needed_iff _).2 hneed)
      fun j hj => Bool.eq_false_iff.2 fun hk => hfirst j hj ((v.needed_iff _).1 hk)]
    dsimp only
    rw [State.putServing_of_split (w := { v with read := .requested (v.next + i) s.serial }) hserving hothers rfl]
    rfl

/-! ### The end of phase FINAL (R166) -/

/-- The retained image of a region stands, or follows its working entry again, where a received frame is given up. -/
theorem State.dropFrame_image (s : State) (r : Region) :
    s.dropFrame.nv.regions[r] = s.nv.regions[r] ∨ s.dropFrame.nv.regions[r] = nvImage s.table[r] (s.unwritten r) := by
  unfold State.dropFrame
  split
  next c ack voted h =>
    rw [State.endVote, mapEntry_nv_read]
    split
    next hr => exact .inr (by rw [hr]; rfl)
    next => exact .inl rfl
  next => exact .inl rfl

/-- What phase FINAL ends with, field by field (R166). -/
theorem State.goOffline_eq (s : State) : s.goOffline = { s with
    line := { s.line with slot := none, rx := none, syncing := false, strangers := Vector.replicate 16 none }
    ctl := { s.ctl with state := .offline, leaveTimer := none, leavePhase := .drain, beaconDue := false }
    roster := { s.roster with entries := Vector.replicate 16 ⟨.absent, none, false⟩, front := [] }
    table := Vector.ofFn fun r : Region =>
      { s.table[r] with owner := none, yieldReady := false, votePending := false, writeHold := false }
    nv := s.goOffline.nv
    events := postTo s.events (.left s.ctl.discarded) } := by
  obtain ⟨hctl, hroster, hline, hevents, htable⟩ := s.goOffline_blocks
  have hentries : s.goOffline.table = Vector.ofFn fun r : Region =>
      { s.table[r] with owner := none, yieldReady := false, votePending := false, writeHold := false } := by
    ext1 q hq
    have := htable ⟨q, hq⟩
    rw [Vector.getElem_ofFn]
    exact this
  rw [← hctl, ← hroster, ← hline, ← hevents, ← hentries]
  obtain ⟨hpower, hport, hout, hqueue, hunsaved, hcatchup, hserving, harb, hserial, hfree, hpending⟩ := s.goOffline_frame
  rw [← hpower, ← hport, ← hout, ← hqueue, ← hunsaved, ← hcatchup, ← hserving, ← harb, ← hserial, ← hfree, ← hpending]

/-- Settles O29: the next pull by `State.nextPull_of_split`, the pulls that open one after the other, the PULL entries by
`State.queuePulls_eq`, and the requests by `State.requestRead_of_split`. -/
theorem pullsOpenAndReadsAreRequested : Obligations.PullsOpenAndReadsAreRequested := by
  intro s ready opened asked pulls
  have hpullable (r : Region) (c : Cause) (o : Owner) (h : ready r c o) : s.pullable r = true :=
    (s.pullable_iff r).2 ⟨c, o, h⟩
  have hnotIn (before : List Region) (r : Region) (c : Cause) (o : Owner) (hbefore : ∀ x ∈ before, s.pullable x = false)
      (h : ready r c o) : r ∉ before := fun hr => by
    have := hbefore r hr
    rw [hpullable r c o h] at this
    cases this
  refine ⟨?shut, ?none, s.pullable_iff, fun r n c h => State.openPulls_of_next h, ?queued, fun h => State.nextPull_of_shut (.inr (.inl h)),
    ?next, ?one, ?two, ?alone, rfl, fun before after v hserving hothers => State.requestRead_of_split hserving hothers, ?pair, rfl,
    rfl, rfl, ?drain, ?final⟩
  case shut =>
    intro hstate howed
    rw [State.openPulls_of_none (State.nextPull_of_shut (.inl hstate)), State.queuePulls_of_nothing (.inl howed)]
  case none => exact fun h => State.nextPull_of_shut (h.imp_right .inr)
  case queued =>
    intro hnext hnodup placed
    have hplaced : roomedPulls s.out.entries s.catchup.pulls = placed := rfl
    have hsub : ∀ p ∈ placed, p ∈ s.catchup.pulls := fun p hp => (List.mem_filter.1 (List.mem_of_mem_take hp)).1
    have hsettled : s.catchup.pulls.map (settledPull placed)
        = s.catchup.pulls.map (fun p => if p ∈ placed then { p with owed := false } else p) := by
      refine List.map_congr_left fun p hp => ?_
      have hiff : p.region ∈ placed.map (·.region) ↔ p ∈ placed := by
        refine ⟨fun h => ?_, List.mem_map_of_mem⟩
        obtain ⟨q, hq, hr⟩ := List.mem_map.1 h
        rwa [← List.inj_on_of_nodup_map hnodup (hsub q hq) hp hr]
      simp only [settledPull, hiff]
    rw [State.openPulls_of_none hnext, s.queuePulls_eq, hplaced, hsettled]
    rfl
  case next =>
    intro before after r c o hworking hlist hbefore hr hroom
    exact State.nextPull_of_split hworking hroom hlist hbefore (hpullable r c o hr) hr.1 hr.2.1
  case one =>
    intro before after r c o held hworking hheld hfree hlist hbefore hr hshut hroom
    subst hheld
    have hlength : s.catchup.pulls.length < 2 := by
      rcases hshut with h | h
      · omega
      · simp [h.1]
    have hnext := State.nextPull_of_split hworking hlength hlist hbefore (hpullable r c o hr) hr.1 hr.2.1
    have herase : s.catchup.list.erase r = before ++ after := by
      rw [hlist, List.erase_append_right _ (hnotIn before r c o hbefore hr), List.erase_cons_head]
    have hlast : (s.opening r o.station c).nextPull = none := by
      refine State.nextPull_of_shut (.inr ?_)
      rcases hshut with h | ⟨-, h⟩
      · exact .inl (by rw [State.opening_length, h])
      · refine .inr fun x hx => ?_
        have hx' : x ∈ before ++ after := by rw [← herase]; exact hx
        rw [s.opening_pullable r o.station c x, (List.mem_append.1 hx').elim (hbefore x) (h x), Bool.false_and]
    rw [State.openPulls_of_last hnext hlast hfree hroom, herase]
    rfl
  case two =>
    intro before mid after r q c d o w hworking hempty hlist hne hothers hr hq hnone
    have hbefore : ∀ x ∈ before, s.pullable x = false := fun x hx => hothers x (List.mem_append_left _ hx)
    have hlist' : s.catchup.list = before ++ r :: (mid ++ q :: after) := by rw [hlist]; simp
    have hnext := State.nextPull_of_split hworking (by simp [hempty]) hlist' hbefore (hpullable r c o hr) hr.1 hr.2.1
    have herase : s.catchup.list.erase r = before ++ mid ++ q :: after := by
      rw [hlist', List.erase_append_right _ (hnotIn before r c o hbefore hr), List.erase_cons_head, List.append_assoc]
    have hqentry := s.opening_table_other o.station c hne.symm
    have hsecond : (s.opening r o.station c).nextPull = some (q, w.station, d) := by
      refine State.nextPull_of_split (s := s.opening r o.station c) (before := before ++ mid) (after := after) (o := w) hworking
        (by rw [State.opening_length, hempty]; decide) herase (fun x hx => ?_) ?_ ?_ ?_
      · rw [s.opening_pullable r o.station c x, hothers x hx, Bool.false_and]
      · rw [s.opening_pullable r o.station c q, hpullable q d w hq, bne_iff_ne.2 hne.symm, Bool.and_true]
      · rw [hqentry]; exact hq.1
      · rw [hqentry]; exact hq.2.1
    have hpulls : ((s.opening r o.station c).opening q w.station d).catchup.pulls
        = [⟨s.serial, r, o.station, 1, none, none, 0, 0, false, true⟩, ⟨s.serial + 1, q, w.station, 1, none, none, 0, 0, false, true⟩] :=
      congrArg (· ++ [_] ++ [_]) hempty
    have hcount : s.out.entries.countP OutEntry.isPull = 0 := List.countP_eq_zero.2 fun x hx => by simp [hnone x hx]
    have hroomed : roomedPulls s.out.entries ((s.opening r o.station c).opening q w.station d).catchup.pulls
        = ((s.opening r o.station c).opening q w.station d).catchup.pulls := by
      rw [hpulls, roomedPulls, hcount]
      rfl
    have hfull : ((s.opening r o.station c).opening q w.station d).nextPull = none :=
      State.nextPull_of_shut (.inr (.inl (by rw [hpulls]; exact Nat.le_refl 2)))
    have hfirst : ((s.opening r o.station c).opening q w.station d).table[r].copy = .fetching c := by
      rw [(s.opening r o.station c).opening_table_other w.station d hne, s.opening_table r o.station c]
    have hforce (e : Cause) : (CopyState.fetching e == CopyState.fetching .damaged || false) = (e == .damaged) := by
      cases e <;> rfl
    have hentry : ((s.opening r o.station c).opening q w.station d).table[q].copy = .fetching d := by
      rw [(s.opening r o.station c).opening_table q w.station d]
    have hdone : ((s.opening r o.station c).opening q w.station d).queuePulls
        = { (s.opening r o.station c).opening q w.station d with
          catchup := { s.catchup with
            list := before ++ mid ++ after
            pulls := [⟨s.serial, r, o.station, 1, none, none, 0, 0, false, false⟩,
              ⟨s.serial + 1, q, w.station, 1, none, none, 0, 0, false, false⟩] }
          out := { s.out with entries := s.out.entries ++ [asked r c, asked q d] } } := by
      have hlast : ((s.opening r o.station c).opening q w.station d).catchup.list = before ++ mid ++ after := by
        show (s.catchup.list.erase r).erase q = _
        rw [herase, List.erase_append_right _ (hnotIn (before ++ mid) q d w hothers hq), List.erase_cons_head]
      rw [State.queuePulls_eq,
        show ((s.opening r o.station c).opening q w.station d).out = s.out from rfl, hroomed, hpulls]
      simp only [settledPull, State.pullEntry, List.map_cons, List.map_nil, List.mem_cons, true_or, or_true, if_true, hfirst, hentry,
        hforce, hlast]
      rfl
    rw [State.openPulls_of_next hnext, State.openPulls_of_next hsecond, State.openPulls_of_none hfull, hdone, State.opening_eq, hqentry]
    rfl
  case alone =>
    intro v i hserving hread himage hneed hfirst
    have hsame : s.requestReads = s.requestRead v.region := by rw [State.requestReads, hserving]; rfl
    rw [hsame]
    refine (State.requestRead_of_split (before := []) (after := []) hserving (fun x hx => absurd hx List.not_mem_nil)).2 i ?_ ?_ hneed ?_
    · rintro (h | ⟨x, hx, hkind, -⟩)
      · exact h hread
      · rw [himage x hx] at hkind
        cases hkind
    · rw [List.countP_eq_zero.2 fun x hx => by simp [himage x hx], hserving]
      simp [hread]
    · exact fun j hj ⟨q, hq, hneed⟩ => by rw [hfirst j hj q hq] at hneed; cases hneed
  case pair =>
    intro v w i j hserving hne hv hw himage first hi hj
    have hnoImage : ∀ r : Region, ¬ ∃ x ∈ s.out.entries, x.isImage = true ∧ x.region = r := fun r ⟨x, hx, hkind, _⟩ => by
      rw [himage x hx] at hkind
      cases hkind
    have hcount : s.out.entries.countP OutEntry.isImage = 0 := List.countP_eq_zero.2 fun x hx => by simp [himage x hx]
    have hneedless {x : ServingRecord} {k : Chunk} (h : first x k) (j : Chunk) (hj : j < k) :
        ¬ ∃ q ∈ x.targets, inMap q.needed (x.next + j) = true := fun ⟨q, hq, hneed⟩ => by
      rw [h.2 j hj q hq] at hneed
      cases hneed
    have hone := (State.requestRead_of_split (s := s) (before := []) (after := [w]) (v := v) hserving
      (by simpa using hne.symm)).2 i (fun h => h.elim (· hv) (hnoImage _)) (by rw [hcount, hserving]; simp [hv, hw]) hi.1 (hneedless hi)
    have htwo := (State.requestRead_of_split (s := s.requestRead v.region) (before := [{ v with read := .requested (v.next + i) s.serial }])
      (after := []) (v := w) (by rw [hone]; rfl) (by simpa using hne)).2 j (fun h => h.elim (· hw) (by rw [hone]; exact hnoImage _))
      (by rw [hone]; simp [hcount, hw]) hj.1 (hneedless hj)
    have hboth : s.requestReads = (s.requestRead v.region).requestRead w.region := by rw [State.requestReads, hserving]; rfl
    rw [hboth, htwo, hone]
    rfl
  case drain => rfl
  case final =>
    refine ⟨fun h => if_neg h, fun h => ?_, ?_, ?_, ?_, fun r => ?_⟩
    · have hends : s.finalEnd = s.goOffline := if_pos h
      rw [hends]
      exact s.goOffline_eq
    · exact s.finalEnd_nv_array
    · exact s.finalEnd_nv_setup
    · exact s.finalEnd_nv_intent
    · rw [State.finalEnd]
      split
      · exact State.dropFrame_image (s.setState .offline) r
      · exact .inl rfl

end Sys2Proof.Machine
end

section
/-! SUPPORT. The completion of a host WRITE, and the restart of a serving record (R63, R128). -/

namespace Sys2Proof.Machine

-- One proof at a time: the proofs that wait for each other would hold the memory of the whole text.
set_option Elab.async false

/-! ### The restart of a serving record (R128) -/

theorem State.imageEntries_gone (s : State) (r : Region) : ∀ x ∈ (s.discardEntries (imageOf r) false).out.entries,
    x.region = r → x.isImage = true → x.sending = true ∧ x.doom ≠ .none := by
  rw [State.discardEntries_of_spared s _ (imageOf_spared r)]
  intro x hx hregion himage
  exact sending_of_mem_removalAsked (fun x d => by cases x; rfl) hx (by simp [imageOf, himage, hregion])

theorem State.imageEntries_others (s : State) (r : Region) :
    (s.discardEntries (imageOf r) false).out.entries.filter (fun x => !(x.isImage && x.region == r))
      = s.out.entries.filter (fun x => !(x.isImage && x.region == r)) := by
  rw [State.discardEntries_of_spared s _ (imageOf_spared r)]
  exact filter_removalAsked_of_spared (fun x d => by cases x; rfl)
    (fun x hx => by rw [show (x.isImage && x.region == r) = true from hx]; rfl) _

/-- The third restart sets write hold (R16, R128). -/
theorem ServingRecord.restarted_holds (v : ServingRecord) (stamp : Stamp) :
    ((v.restarted stamp).restarts == Config.restartLimit) = decide (2 ≤ v.restarts) := by
  rw [Bool.eq_iff_iff, beq_iff_eq, decide_eq_true_eq]
  show min (v.restarts + 1) 3 = 3 ↔ 2 ≤ v.restarts
  omega

/-! ### The completion of a WRITE (R63) -/

theorem nextVersion_eq (a : Stamp) :
    nextVersion a = ⟨a.epoch, if a.version.toNat = 2 ^ 48 - 1 then a.version else a.version + 1⟩ := by
  have hceiling : a.version = Config.versionCeiling ↔ a.version.toNat = 2 ^ 48 - 1 :=
    ⟨fun h => by rw [h]; rfl, fun h => BitVec.eq_of_toNat_eq h⟩
  by_cases h : a.version.toNat = 2 ^ 48 - 1
  · rw [nextVersion, if_pos (hceiling.2 h), if_pos h]
  · rw [nextVersion, if_neg (mt hceiling.1 h), if_neg h]

/-- The Outbox after a WRITE of the owner: no entry in HALTED, else the candidate coalesced or an entry appended (R63, R68). -/
theorem State.queueWrite_eq (s : State) (w : WriteWork) (e : RegionEntry) {o : Owner} (howner : e.owner = some o) :
    s.queueWrite w e = { s with out := { s.out with 
      entries := if s.ctl.state = .halted then s.out.entries
        else if s.out.candidate w.region w.offset w.data.length = true then
          mapYoungest w.region (fun u => { u with data := w.data, result := (nextVersion e.stamp).version }) s.out.entries
        else s.out.entries ++ [⟨w.region, .update ⟨w.offset, w.data, e.stamp.version, (nextVersion e.stamp).version, o.epoch, 0,
          false, false, false⟩, false, .none⟩] } } := by
  rw [State.queueWrite, howner]
  split
  next => rfl
  next =>
    rw [State.mapOut, State.setOut, Outbox.afterWrite]

theorem State.execWriteArrayDone_eq {s : State} {w : WriteWork} (hop : s.arb.op = some .hostWrite)
    (hport : s.port.state = .working (.write w)) (hspan : w.offset + w.data.length ≤ 4096) :
    exec .writeArrayDone s = .next (s.writeDone w).finishOp := by
  rw [exec, execWriteArrayDone, hop, hport]
  dsimp only
  exact if_pos (decide_eq_true hspan)

/-- Settles O14: the owner's completion by its parts, and the restart by the entries, the read and the record it changes. -/
theorem writeCompletesAndRestartsServing : Obligations.WriteCompletesAndRestartsServing := by
  refine ⟨fun s w hop hport hspan => ?write, fun s r => ⟨fun hnone => ?without, fun v hv => ⟨_, rfl, ?restarts⟩⟩⟩
  case write =>
    intro r e array version unheld
    have hexec := State.execWriteArrayDone_eq hop hport hspan
    rw [hexec, State.writeDone, State.concludeWrite]
    generalize hwritten : (s.writeArray w.region w.offset w.data).endOp = t
    have ht : t = { s with nv := { s.nv with array := array }, arb := { s.arb with op := none } } := hwritten.symm
    have howns : t.owns w.region = s.owns r := by rw [ht]; rfl
    refine ⟨fun o howner hself => ?_, fun hnot => ?_⟩
    · have hown : s.owns r = true := by
        rw [State.owns, howner]
        exact beq_iff_eq.2 hself
      have hnew : nextVersion e.stamp = ⟨e.stamp.epoch, version⟩ := nextVersion_eq e.stamp
      rw [howns, if_pos hown, State.ownerWrote, show t.table[w.region] = e by rw [ht], State.queueWrite_eq _ w e howner, hnew, ht]
      rfl
    · rw [howns, hnot, if_neg Bool.false_ne_true, ht]
      rfl
  case without => rw [State.restartServing, hnone]
  case restarts =>
    have hregion := State.servingOf_region hv
    have hputregion : (v.restarted s.table[r].stamp).region = r := hregion
    have hrestart : s.restartServing r
        = (((s.discardEntries (imageOf r) false).dropRead r).putServing (v.restarted s.table[r].stamp)).mapEntry r fun e =>
          { e with writeHold := e.writeHold || decide (2 ≤ v.restarts) } := by
      rw [State.restartServing, hv]
      dsimp only
      rw [v.restarted_holds]
    have hout : (s.restartServing r).out = (s.discardEntries (imageOf r) false).out := by
      rw [hrestart, State.mapEntry_out, State.putServing_out, State.dropRead_out]
    rw [hout]
    refine ⟨?serving, ?entry, fun q hq => ?others, s.imageEntries_gone r, s.imageEntries_others r, ?port, ?ctl, ?line, ?roster,
      ?catchup, ?queue, ?array⟩
    case serving =>
      rw [hrestart, State.mapEntry_serving, State.putServing_of_region hputregion, State.dropRead_serving,
        State.discardEntries_serving]
      rfl
    case entry =>
      rw [hrestart, State.mapEntry_read, if_pos rfl, State.putServing_table, State.dropRead_table, State.discardEntries_table]
    case others =>
      rw [hrestart, State.mapEntry_read, if_neg hq, State.putServing_table, State.dropRead_table, State.discardEntries_table]
    case ctl =>
      rw [hrestart, State.mapEntry_ctl, State.putServing_ctl, State.dropRead_ctl, State.discardEntries_ctl_of_uncut]
    case port => rw [hrestart]; simp
    case line => rw [hrestart]; simp
    case roster => rw [hrestart]; simp
    case catchup => rw [hrestart]; simp
    case queue => rw [hrestart]; simp
    case array => rw [hrestart]; simp

end Sys2Proof.Machine
end

section
/-! SUPPORT. The copy stamps stay retained: what each operation of the model keeps of it (R8). -/

namespace Sys2Proof.Machine

-- One proof at a time: the proofs that wait for each other would hold the memory of the whole text.
set_option Elab.async false

/-- Every retained region holds the copy stamp of its working entry. -/
def stampsPaired (regions : Vector NvRegion 64) (table : Vector RegionEntry 64) : Prop :=
  ∀ r : Region, regions[r].stamp = table[r].stamp

/-- The copy stamps of the state are retained. -/
abbrev State.paired (s : State) : Prop := stampsPaired s.nv.regions s.table

@[simp] theorem State.paired_iff (s : State) : s.paired ↔ stampsPaired s.nv.regions s.table := Iff.rfl

@[simp] theorem nvImage_stamp (e : RegionEntry) (u : Bool) : (nvImage e u).stamp = e.stamp := by
  rcases e with ⟨_, _ | (_ | _) | _, _⟩ <;> cases u <;> rfl

@[simp] theorem State.setEntry_paired (s : State) (r : Region) (e : RegionEntry) (h : s.paired) : (s.setEntry r e).paired := by
  intro q
  simp only [State.setEntry, Fin.getElem_fin, Vector.getElem_set]
  split
  next => exact nvImage_stamp e _
  next => exact h q

@[simp] theorem State.mapEntry_paired (s : State) (r : Region) (f : RegionEntry → RegionEntry) (h : s.paired) :
    (s.mapEntry r f).paired := s.setEntry_paired r _ h

@[simp] theorem State.forgetOwners_paired (s : State) (h : s.paired) : s.forgetOwners.paired := by
  intro r
  have := h r
  simpa [State.forgetOwners, RegionEntry.clearFlags] using this

/-- A retained state comes up with the stamps it holds (R146). -/
theorem Retained.table_paired (n : Retained) : stampsPaired n.regions n.table := by
  intro r
  simp [Retained.table, NvRegion.working]

@[simp] theorem State.clearWorking_paired (s : State) (p : Power) : (s.clearWorking p).paired := s.nv.table_paired

@[simp] theorem State.recover_paired (s : State) (c : ResetCause) (straps : Straps) : (s.recover c straps).paired :=
  s.nv.recover.table_paired

@[simp] theorem State.retain_paired (s : State) (r : Region) (h : s.paired) :
    (State.retain s r).paired := by
  unfold State.retain
  simp_all

@[simp] theorem State.takeApply_paired (s : State) (r : Region) (b : ApplyBody) (h : s.paired) :
    (State.takeApply s r b).paired := by
  unfold State.takeApply
  simp_all

@[simp] theorem State.endServing_paired (s : State) (r : Region) (h : s.paired) :
    (State.endServing s r).paired := by
  unfold State.endServing
  repeat' split
  all_goals simp_all

@[simp] theorem State.putTargets_paired (s : State) (v : ServingRecord) (ts : List Target) (h : s.paired) :
    (State.putTargets s v ts).paired := by
  unfold State.putTargets
  repeat' split
  all_goals simp_all

@[simp] theorem State.dropTarget_paired (s : State) (r : Region) (n : Station) (h : s.paired) :
    (State.dropTarget s r n).paired := by
  unfold State.dropTarget
  repeat' split
  all_goals simp_all

@[simp] theorem State.dropTargets_paired (s : State) (n : Station) (h : s.paired) :
    (State.dropTargets s n).paired := by
  unfold State.dropTargets
  exact foldl_preserves (fun t : State => t.paired) _ (fun t x ht => by simp at ht ⊢; simp [ht]) _ _ (by simp at h ⊢; simp [h])

@[simp] theorem State.endAllServing_paired (s : State) (h : s.paired) :
    (State.endAllServing s).paired := by
  unfold State.endAllServing
  exact foldl_preserves (fun t : State => t.paired) _ (fun t x ht => by simp at ht ⊢; simp [ht]) _ _ (by simp at h ⊢; simp [h])

@[simp] theorem State.restartServing_paired (s : State) (r : Region) (h : s.paired) :
    (State.restartServing s r).paired := by
  unfold State.restartServing
  repeat' split
  all_goals simp_all

@[simp] theorem State.dropHeld_paired (s : State) (r : Region) (h : s.paired) :
    (State.dropHeld s r).paired := by
  unfold State.dropHeld
  simp_all

@[simp] theorem State.sweepAct_paired (s : State) (h : s.paired) :
    (State.sweepAct s).1.paired := by
  unfold State.sweepAct
  dsimp only
  repeat' split
  all_goals simp_all

@[simp] theorem State.sweepFrom_paired (n : Nat) (s : State) (h : s.paired) :
    (State.sweepFrom n s).paired := by
  induction n generalizing s with
  | zero => exact h
  | succ n ih =>
    unfold State.sweepFrom
    repeat' split
    all_goals simp_all

@[simp] theorem State.sweepWalk_paired (s : State) (h : s.paired) :
    (State.sweepWalk s).paired := by
  unfold State.sweepWalk
  repeat' split
  all_goals simp_all

@[simp] theorem State.closePull_paired (s : State) (r : Region) (park : Bool) (h : s.paired) :
    (State.closePull s r park).paired := by
  unfold State.closePull
  repeat' split
  all_goals simp_all

@[simp] theorem State.closeAllPulls_paired (s : State) (h : s.paired) :
    (State.closeAllPulls s).paired := by
  unfold State.closeAllPulls
  exact foldl_preserves (fun t : State => t.paired) _ (fun t x ht => by simp at ht ⊢; simp [ht]) _ _ (by simp at h ⊢; simp [h])

@[simp] theorem State.openPull_paired (s : State) (r : Region) (n : Station) (kept : Cause) (h : s.paired) :
    (State.openPull s r n kept).paired := by
  unfold State.openPull
  simp_all

@[simp] theorem State.openPullsFrom_paired (n : Nat) (s : State) (h : s.paired) :
    (State.openPullsFrom n s).paired := by
  induction n generalizing s with
  | zero => exact h
  | succ n ih =>
    cases hnext : s.nextPull with
    | none => rwa [State.openPullsFrom_none n s hnext]
    | some p =>
      rw [State.openPullsFrom_some n s p hnext]
      exact ih _ (by simp at h ⊢; simp [h])

@[simp] theorem State.openPulls_paired (s : State) (h : s.paired) :
    (State.openPulls s).paired := by
  unfold State.openPulls
  simp_all

@[simp] theorem State.markStale_paired (s : State) (r : Region) (c : Cause) (h : s.paired) :
    (State.markStale s r c).paired := by
  unfold State.markStale
  repeat' split
  all_goals simp_all

@[simp] theorem State.surrender_paired (s : State) (r : Region) (h : s.paired) :
    (s.surrender r).paired := by
  unfold State.surrender
  simp_all

@[simp] theorem State.assume_paired (s : State) (r : Region) (h : s.paired) :
    (State.assume s r).paired := by
  unfold State.assume
  simp_all

@[simp] theorem State.partOld_paired (s : State) (r : Region) (self : Bool) (h : s.paired) :
    (State.partOld s r self).paired := by
  unfold State.partOld
  repeat' split
  all_goals simp_all

@[simp] theorem State.partNew_paired (s : State) (r : Region) (self : Bool) (h : s.paired) :
    (State.partNew s r self).paired := by
  unfold State.partNew
  repeat' split
  all_goals simp_all

@[simp] theorem State.changeOwner_paired (s : State) (r : Region) (o : Option Owner) (h : s.paired) :
    (State.changeOwner s r o).paired := by
  unfold State.changeOwner
  split
  next => exact State.mapEntry_paired s r _ h
  next =>
    have hclosed := State.closePull_paired (s.mapEntry r ({ · with owner := o })) r false (State.mapEntry_paired s r _ h)
    exact State.partNew_paired _ r _ (State.partOld_paired _ r _ (by simpa using hclosed))

@[simp] theorem State.quorumCheck_paired (s : State) (h : s.paired) :
    (State.quorumCheck s).paired := by
  unfold State.quorumCheck
  repeat' split
  all_goals simp_all

@[simp] theorem State.targetsFollow_paired (s : State) (n : Station) (st : Presence) (h : s.paired) :
    (State.targetsFollow s n st).paired := by
  unfold State.targetsFollow
  repeat' split
  all_goals simp_all

@[simp] theorem State.statusChange_paired (s : State) (n : Station) (st : Presence) (h : s.paired) :
    (State.statusChange s n st).paired := by
  unfold State.statusChange
  split
  next => exact h
  next =>
    have hfollowed := State.targetsFollow_paired _ n st
      (State.quorumCheck_paired ((s.mapRosterEntry n ({ · with status := st })).post (.station n st)) h)
    simpa using State.openPulls_paired _ hfollowed

@[simp] theorem State.followFrame_paired (s : State) (f : Frame) (h : s.paired) :
    (State.followFrame s f).paired := by
  unfold State.followFrame
  repeat' split
  all_goals simp_all

@[simp] theorem State.rosterHandoff_paired (s : State) (f : Frame) (h : s.paired) :
    (State.rosterHandoff s f).paired := by
  unfold State.rosterHandoff
  simp_all

@[simp] theorem State.learnOwner_paired (s : State) (r : Region) (o : Station) (e : Epoch) (h : s.paired) :
    (State.learnOwner s r o e).paired := by
  unfold State.learnOwner
  repeat' split
  all_goals simp_all

@[simp] theorem State.loseConflict_paired (s : State) (r : Region) (o : Station) (stamp : Stamp) (h : s.paired) :
    (State.loseConflict s r o stamp).paired := by
  unfold State.loseConflict
  have hchanged := State.changeOwner_paired s r (some ⟨o, stamp.epoch⟩) h
  have hdropped := State.dropHeld_paired ((s.changeOwner r (some ⟨o, stamp.epoch⟩)).discardEntries (fun e => e.region == r) false) r
    (by simpa using hchanged)
  simpa using State.markStale_paired _ r .damaged hdropped

@[simp] theorem State.resolveConflict_paired (s : State) (r : Region) (o : Station) (stamp : Stamp) (h : s.paired) :
    (State.resolveConflict s r o stamp).paired := by
  unfold State.resolveConflict
  repeat' split
  all_goals simp_all

@[simp] theorem State.claimCopy_paired (s : State) (r : Region) (stamp : Stamp) (h : s.paired) :
    (s.claimCopy r stamp).paired := by
  unfold State.claimCopy
  repeat' split
  all_goals simp_all

@[simp] theorem State.yielded_paired (s : State) (r : Region) (former : Bool) (h : s.paired) :
    (State.yielded s r former).paired := by
  unfold State.yielded
  repeat' split
  all_goals simp_all

@[simp] theorem State.claimOwner_paired (s : State) (c : Station) (r : Region) (stamp : Stamp) (h : s.paired) :
    (State.claimOwner s c r stamp).paired := by
  unfold State.claimOwner
  simp_all

@[simp] theorem State.applyClaim_paired (s : State) (c : Station) (r : Region) (stamp : Stamp) (h : s.paired) :
    (State.applyClaim s c r stamp).paired := by
  exact State.yielded_paired _ r _ (State.claimOwner_paired _ c r stamp (State.claimCopy_paired s r stamp h))

@[simp] theorem State.wakeUp_paired (s : State) (coincidence : Option Region) (h : s.paired) :
    (State.wakeUp s coincidence).paired := by
  unfold State.wakeUp
  simp_all

@[simp] theorem State.endVote_paired (s : State) (r : Region) (h : s.paired) :
    (State.endVote s r).paired := by
  unfold State.endVote
  simp_all

@[simp] theorem State.dropFrame_paired (s : State) (h : s.paired) :
    (State.dropFrame s).paired := by
  unfold State.dropFrame
  repeat' split
  all_goals simp_all

@[simp] theorem State.lineOff_paired (s : State) (h : s.paired) :
    (State.lineOff s).paired := by
  unfold State.lineOff
  simp_all

@[simp] theorem State.disown_paired (s : State) (r : Region) (h : s.paired) :
    (State.disown s r).paired := by
  unfold State.disown
  repeat' split
  all_goals simp_all

@[simp] theorem State.haltRegion_paired (s : State) (r : Region) (h : s.paired) :
    (State.haltRegion s r).paired := by
  unfold State.haltRegion
  simp_all

@[simp] theorem State.haltApply_paired (s : State) (h : s.paired) :
    (State.haltApply s).paired := by
  unfold State.haltApply
  exact foldl_preserves (fun t : State => t.paired) _ (fun t x ht => by simp at ht ⊢; simp [ht]) _ _ (by simp at h ⊢; simp [h])

@[simp] theorem State.halt_paired (s : State) (c : HaltCause) (h : s.paired) :
    (State.halt s c).paired := by
  unfold State.halt
  have hclosed := State.closeAllPulls_paired ((s.setState .halted).lineOff.stopTimers.clearOutbox)
    (by simpa using State.lineOff_paired (s.setState .halted) h)
  have hended := State.endAllServing_paired ((s.setState .halted).lineOff.stopTimers.clearOutbox.closeAllPulls.setCatchup ⟨[], 0, []⟩)
    (by simpa using hclosed)
  simpa using State.haltApply_paired _ hended

@[simp] theorem State.goOffline_paired (s : State) (h : s.paired) :
    (State.goOffline s).paired := by
  unfold State.goOffline
  have hoff := State.lineOff_paired (s.setState .offline) h
  exact State.forgetOwners_paired ((((s.setState .offline).lineOff.mapCtl
    ({ · with leaveTimer := none, leavePhase := .drain, beaconDue := false })).clearRoster)) hoff

@[simp] theorem State.finalEnd_paired (s : State) (h : s.paired) :
    (State.finalEnd s).paired := by
  unfold State.finalEnd
  repeat' split
  all_goals simp_all

@[simp] theorem State.setIntent_paired (s : State) (i : Option Intent) (h : s.paired) :
    (State.setIntent s i).paired := by
  unfold State.setIntent
  simp_all

@[simp] theorem State.grantHost_paired (s : State) (h : s.paired) :
    (State.grantHost s).paired := by
  unfold State.grantHost
  repeat' split
  all_goals simp_all

@[simp] theorem State.grantHead_paired (s : State) (h : s.paired) :
    (State.grantHead s).paired := by
  unfold State.grantHead
  repeat' split
  all_goals simp_all

@[simp] theorem State.arbitrate_paired (s : State) (h : s.paired) :
    (State.arbitrate s).paired := by
  unfold State.arbitrate
  repeat' split
  all_goals simp_all

@[simp] theorem State.resume_paired (s : State) (h : s.paired) :
    (State.resume s).paired := by
  unfold State.resume
  simp_all

@[simp] theorem State.settle_paired (s : State) (h : s.paired) :
    (State.settle s).paired := by
  unfold State.settle
  simp_all

@[simp] theorem State.afterAttempt_paired (s : State) (h : s.paired) :
    (State.afterAttempt s).paired := by
  unfold State.afterAttempt
  simp_all

@[simp] theorem State.startRead_paired (s : State) (r : Region) (offset length : Nat) (h : s.paired) :
    (State.startRead s r offset length).paired := by
  unfold State.startRead
  repeat' split
  all_goals simp_all

@[simp] theorem State.setYield_paired (s : State) (code : Byte) (r : Region) (yes : Bool) (h : s.paired) :
    (State.setYield s code r yes).paired := by
  unfold State.setYield
  simp_all

@[simp] theorem State.formatIntent_paired (s : State) (h : s.paired) :
    (State.formatIntent s).paired := by
  unfold State.formatIntent
  repeat' split
  all_goals simp_all

@[simp] theorem State.startLeaving_paired (s : State) (h : s.paired) :
    (State.startLeaving s).paired := by
  unfold State.startLeaving
  simp_all

@[simp] theorem State.writeArray_paired (s : State) (r : Region) (k : Nat) (data : List Byte) (h : s.paired) :
    (State.writeArray s r k data).paired := by
  unfold State.writeArray
  simp_all

@[simp] theorem State.setupWritten_paired (s : State) (members : StationMap) (guardSet : RegionMap) (h : s.paired) :
    (State.setupWritten s members guardSet).paired := by
  unfold State.setupWritten
  simp_all

@[simp] theorem State.ownerWrote_paired (s : State) (w : WriteWork) (h : s.paired) :
    (s.ownerWrote w).paired := by
  unfold State.ownerWrote
  simp_all

@[simp] theorem State.concludeWrite_paired (s : State) (w : WriteWork) (h : s.paired) :
    (State.concludeWrite s w).paired := by
  unfold State.concludeWrite
  repeat' split
  all_goals simp_all

@[simp] theorem State.writeDone_paired (s : State) (w : WriteWork) (h : s.paired) :
    (State.writeDone s w).paired := by
  unfold State.writeDone
  simp_all

@[simp] theorem State.completePull_paired (s : State) (p : PullRecord) (c : Stamp) (h : s.paired) :
    (s.completePull p c).paired := by
  unfold State.completePull
  simp_all

@[simp] theorem State.chunkWritten_paired (s : State) (k : Chunk) (stamp : Stamp) (pull : Nat) (h : s.paired) :
    (State.chunkWritten s k stamp pull).paired := by
  unfold State.chunkWritten
  repeat' split
  all_goals simp_all

@[simp] theorem State.chunkWrittenInReset_paired (s : State) (k : Chunk) (stamp : Stamp) (pull : Nat) (h : s.paired) :
    (State.chunkWrittenInReset s k stamp pull).paired := by
  unfold State.chunkWrittenInReset
  repeat' split
  all_goals simp_all

@[simp] theorem State.applied_paired (s : State) (b : ApplyBody) (h : s.paired) :
    (State.applied s b).paired := by
  unfold State.applied
  repeat' split
  all_goals simp_all

@[simp] theorem State.applyDone_paired (s : State) (e : ApplyEntry) (rest : List ApplyEntry) (h : s.paired) :
    (State.applyDone s e rest).paired := by
  unfold State.applyDone
  simp_all

@[simp] theorem State.unheldUnless_paired (s : State) (won : Bool) (r : Region) (h : s.paired) :
    (State.unheldUnless s won r).paired := by
  unfold State.unheldUnless
  repeat' split
  all_goals simp_all

@[simp] theorem State.claimOver_paired (s : State) (r : Region) (source : ClaimSource) (won : Bool) (h : s.paired) :
    (State.claimOver s r source won).paired := by
  unfold State.claimOver
  repeat' split
  all_goals simp_all

@[simp] theorem State.withdraw_paired (s : State) (e : OutEntry) (source : ClaimSource) (why : LostReason) (h : s.paired) :
    (State.withdraw s e source why).paired := by
  unfold State.withdraw
  simp_all

@[simp] theorem State.offerFrom_paired (n : Nat) (s : State) (h : s.paired) :
    (State.offerFrom n s).paired := by
  induction n generalizing s with
  | zero => exact h
  | succ n ih => cases hnext : s.nextOffer <;> simp_all [State.offerFrom]

@[simp] theorem State.offer_paired (s : State) (h : s.paired) :
    (State.offer s).paired := by
  unfold State.offer
  simp_all

@[simp] theorem State.countFault_paired (s : State) (h : s.paired) :
    (State.countFault s).paired := by
  unfold State.countFault
  repeat' split
  all_goals simp_all

@[simp] theorem State.compareStamp_paired (s : State) (o : Station) (e : CensusEntry) (h : s.paired) :
    (State.compareStamp s o e).paired := by
  unfold State.compareStamp
  repeat' split
  all_goals simp_all

@[simp] theorem State.compareIfOwner_paired (s : State) (o : Station) (e : CensusEntry) (h : s.paired) :
    (State.compareIfOwner s o e).paired := by
  unfold State.compareIfOwner
  repeat' split
  all_goals simp_all

@[simp] theorem State.censusCase_paired (s : State) (o : Station) (e : CensusEntry) (h : s.paired) :
    (State.censusCase s o e).paired := by
  unfold State.censusCase
  repeat' split
  all_goals simp_all

@[simp] theorem State.censusEntry_paired (o : Station) (s : State) (e : CensusEntry) (h : s.paired) :
    (State.censusEntry o s e).paired := by
  unfold State.censusEntry
  simp_all

@[simp] theorem State.censusList_paired (s : State) (o : Station) (es : List CensusEntry) (h : s.paired) :
    (State.censusList s o es).paired := by
  unfold State.censusList
  exact foldl_preserves (fun t : State => t.paired) _ (fun t x ht => by simp at ht ⊢; simp [ht]) _ _ (by simp at h ⊢; simp [h])

@[simp] theorem State.markIfBehind_paired (s : State) (u : UpdateFrame) (h : s.paired) :
    (State.markIfBehind s u).paired := by
  unfold State.markIfBehind
  repeat' split
  all_goals simp_all

@[simp] theorem State.listen_paired (s : State) (f : Frame) (h : s.paired) :
    (State.listen s f).paired := by
  unfold State.listen
  repeat' split
  all_goals simp_all

@[simp] theorem State.listenIfListening_paired (s : State) (f : Frame) (h : s.paired) :
    (State.listenIfListening s f).paired := by
  unfold State.listenIfListening
  repeat' split
  all_goals simp_all

@[simp] theorem State.handOn_paired (s : State) (f : Frame) (h : s.paired) :
    (State.handOn s f).paired := by
  unfold State.handOn
  simp_all

@[simp] theorem State.ownNumberHeard_paired (s : State) (f : Frame) (h : s.paired) :
    (State.ownNumberHeard s f).paired := by
  unfold State.ownNumberHeard
  repeat' split
  all_goals simp_all

@[simp] theorem State.beaconAct_paired (b : BeaconFrame) (s : State) (h : s.paired) :
    (State.beaconAct b s).2.paired := by
  unfold State.beaconAct
  simp_all

@[simp] theorem State.holdVote_paired (s : State) (r : Region) (bit : Bool) (h : s.paired) :
    (State.holdVote s r bit).paired := by
  unfold State.holdVote
  repeat' split
  all_goals simp_all

@[simp] theorem State.wakeIfAsked_paired (s : State) (r : Region) (h : s.paired) :
    (State.wakeIfAsked s r).paired := by
  unfold State.wakeIfAsked
  repeat' split
  all_goals simp_all

@[simp] theorem State.claimAct_paired (c : ClaimFrame) (guardPin : Bool) (s : State) (h : s.paired) :
    (State.claimAct c guardPin s).2.paired := by
  unfold State.claimAct
  simp_all

@[simp] theorem State.decidePull_paired (s : State) (p : PullFrame) (h : s.paired) :
    (State.decidePull s p).2.paired := by
  unfold State.decidePull
  repeat' split
  all_goals simp_all

@[simp] theorem State.pullAct_paired (p : PullFrame) (s : State) (h : s.paired) :
    (State.pullAct p s).2.paired := by
  unfold State.pullAct
  repeat' split
  all_goals simp_all

@[simp] theorem State.takeUpdate_paired (s : State) (u : UpdateFrame) (h : s.paired) :
    (s.takeUpdate u).2.paired := by
  unfold State.takeUpdate
  repeat' split
  all_goals simp_all

@[simp] theorem State.compareUpdate_paired (s : State) (u : UpdateFrame) (h : s.paired) :
    (s.compareUpdate u).2.paired := by
  unfold State.compareUpdate
  repeat' split
  all_goals simp_all

@[simp] theorem State.updateIfOwner_paired (s : State) (u : UpdateFrame) (h : s.paired) :
    (State.updateIfOwner s u).2.paired := by
  unfold State.updateIfOwner
  repeat' split
  all_goals simp_all

@[simp] theorem State.updateAct_paired (u : UpdateFrame) (s : State) (h : s.paired) :
    (State.updateAct u s).2.paired := by
  unfold State.updateAct
  repeat' split
  all_goals simp_all

@[simp] theorem State.takeChunk_paired (s : State) (p : PullRecord) (i : ImageFrame) (h : s.paired) :
    (State.takeChunk s p i).2.paired := by
  unfold State.takeChunk
  repeat' split
  all_goals simp_all

@[simp] theorem State.collect_paired (s : State) (p : PullRecord) (i : ImageFrame) (h : s.paired) :
    (State.collect s p i).2.paired := by
  unfold State.collect
  repeat' split
  all_goals simp_all

@[simp] theorem State.collectIfAsked_paired (s : State) (i : ImageFrame) (h : s.paired) :
    (State.collectIfAsked s i).2.paired := by
  unfold State.collectIfAsked
  repeat' split
  all_goals simp_all

@[simp] theorem State.imageAct_paired (i : ImageFrame) (s : State) (h : s.paired) :
    (State.imageAct i s).2.paired := by
  unfold State.imageAct
  repeat' split
  all_goals simp_all

@[simp] theorem State.ownBeaconEnd_paired (s : State) (b : BeaconFrame) (walkLast : Option Region) (ack : StationMap) (h : s.paired) :
    (State.ownBeaconEnd s b walkLast ack).paired := by
  unfold State.ownBeaconEnd
  repeat' split
  all_goals simp_all

@[simp] theorem State.beaconHeard_paired (s : State) (b : BeaconFrame) (h : s.paired) :
    (State.beaconHeard s b).paired := by
  unfold State.beaconHeard
  repeat' split
  all_goals simp_all

@[simp] theorem State.claimDecided_paired (s : State) (c : ClaimFrame) (source : ClaimSource) (ack : StationMap) (h : s.paired) :
    (State.claimDecided s c source ack).paired := by
  unfold State.claimDecided
  repeat' split
  all_goals simp_all

@[simp] theorem State.ownClaimEnd_paired (s : State) (c : ClaimFrame) (ack : StationMap) (h : s.paired) :
    (State.ownClaimEnd s c ack).paired := by
  unfold State.ownClaimEnd
  repeat' split
  all_goals simp_all

@[simp] theorem State.decideClaim_paired (s : State) (c : ClaimFrame) (m : StationMap) (h : s.paired) :
    (State.decideClaim s c m).paired := by
  unfold State.decideClaim
  repeat' split
  all_goals simp_all

@[simp] theorem State.claimHeard_paired (s : State) (acked : Bool) (c : ClaimFrame) (ack : StationMap) (h : s.paired) :
    (State.claimHeard s acked c ack).paired := by
  unfold State.claimHeard
  repeat' split
  all_goals simp_all

@[simp] theorem State.pullAnswered_paired (s : State) (p : PullRecord) (ack : StationMap) (h : s.paired) :
    (State.pullAnswered s p ack).paired := by
  unfold State.pullAnswered
  repeat' split
  all_goals simp_all

@[simp] theorem State.ownPullEnd_paired (s : State) (ack : StationMap) (h : s.paired) :
    (State.ownPullEnd s ack).paired := by
  unfold State.ownPullEnd
  repeat' split
  all_goals simp_all

@[simp] theorem State.imageAcked_paired (s : State) (v : ServingRecord) (i : ImageEntry) (ack : StationMap) (h : s.paired) :
    (State.imageAcked s v i ack).paired := by
  unfold State.imageAcked
  simp_all

@[simp] theorem State.ownImageEnd_paired (s : State) (ack : StationMap) (h : s.paired) :
    (State.ownImageEnd s ack).paired := by
  unfold State.ownImageEnd
  repeat' split
  all_goals simp_all

@[simp] theorem State.silence_paired (s : State) (n : Station) (h : s.paired) :
    (State.silence s n).paired := by
  unfold State.silence
  repeat' split
  all_goals simp_all

@[simp] theorem State.fallSilent_paired (s : State) (n : Station) (h : s.paired) :
    (State.fallSilent s n).paired := by
  unfold State.fallSilent
  simp_all

@[simp] theorem State.fallAbsent_paired (s : State) (n : Station) (h : s.paired) :
    (State.fallAbsent s n).paired := by
  unfold State.fallAbsent
  simp_all

@[simp] theorem State.joinComplete_paired (s : State) (h : s.paired) :
    (State.joinComplete s).paired := by
  unfold State.joinComplete
  simp_all

@[simp] theorem State.answerExpired_paired (s : State) (p : PullRecord) (h : s.paired) :
    (State.answerExpired s p).paired := by
  unfold State.answerExpired
  repeat' split
  all_goals simp_all

@[simp] theorem State.cutWrite_paired (s : State) (h : s.paired) :
    (State.cutWrite s).paired := by
  unfold State.cutWrite
  repeat' split
  all_goals simp_all

@[simp] theorem State.cutSetup_paired (s : State) (h : s.paired) :
    (State.cutSetup s).paired := by
  unfold State.cutSetup
  repeat' split
  all_goals simp_all

@[simp] theorem State.formatRegionDone_paired (s : State) (r : Region) (h : s.paired) : (s.formatRegionDone r).paired := by
  unfold State.formatRegionDone
  simp_all

@[simp] theorem State.formatNext_paired (s : State) (r : Region) (k : Chunk) (h : s.paired) : (s.formatNext r k).paired := by
  unfold State.formatNext
  repeat' split
  all_goals simp_all

@[simp] theorem State.formatStep_paired (s : State) (r : Region) (k : Chunk) (h : s.paired) : (s.formatStep r k).paired := by
  unfold State.formatStep
  simp_all

@[simp] theorem State.losePower_paired (s : State) (h : s.paired) : s.losePower.paired := by
  unfold State.losePower
  split
  next => exact h
  next => exact State.clearWorking_paired _ _

@[simp] theorem State.finishOp_paired (s : State) (h : s.paired) : s.finishOp.paired := by
  unfold State.finishOp
  split
  next => exact State.clearWorking_paired _ _
  next => exact State.recover_paired _ _ _
  next => exact State.resume_paired s h
  next => exact h
  next => exact h

@[simp] theorem State.assertReset_paired (s : State) (h : s.paired) : s.assertReset.paired := by
  unfold State.assertReset
  repeat' split
  next => exact h
  next => exact State.clearWorking_paired _ _
  all_goals exact h

@[simp] theorem State.releaseReset_paired (s : State) (straps : Straps) (h : s.paired) : (s.releaseReset straps).paired := by
  unfold State.releaseReset
  split
  next => exact State.recover_paired _ _ _
  all_goals exact h

@[simp] theorem ackPoint_paired (guardPin : Bool) (f : Frame) (s : State) (h : s.paired) : (ackPoint guardPin f s).2.paired := by
  cases f <;> simp_all [ackPoint]

end Sys2Proof.Machine
end

section
/-! SUPPORT. No step but a FORMAT step lowers a copy stamp (R3, R8). -/

namespace Sys2Proof.Machine

-- One proof at a time: the proofs that wait for each other would hold the memory of the whole text.
set_option Elab.async false

/-- Every command keeps the copy stamps retained. -/
theorem Effect.keeps_paired {s t : State} {c : Instr} (he : Effect s c t) (h : s.paired) : t.paired := by
  have hu : s.undriven.paired := by simpa using h
  cases he with
  | received guardPin f =>
    exact State.settle_paired _ (by simpa using ackPoint_paired guardPin f _ (State.handOn_paired s f h))
  | resetAsserted => exact s.assertReset_paired h
  | powerLost => exact s.losePower_paired h
  | _ => simp_all

section
variable {base : Vector Stamp 64} {s : State}

/-- The working entries that a retained state comes up with hold the stamps it retained. -/
theorem stampsFrom_of_retained {t : State} (hp : s.paired) (h : s.stampsFrom base)
    (ht : ∀ r : Region, t.table[r].stamp = s.nv.regions[r].stamp) : t.stampsFrom base := fun r => by
  rw [ht r, hp r]
  exact h r

theorem State.clearWorking_stampsFrom (p : Power) (hp : s.paired) (h : s.stampsFrom base) :
    (s.clearWorking p).stampsFrom base :=
  stampsFrom_of_retained hp h fun r => ((s.clearWorking_paired p) r).symm

theorem State.recover_stampsFrom (c : ResetCause) (straps : Straps) (hp : s.paired) (h : s.stampsFrom base) :
    (s.recover c straps).stampsFrom base :=
  stampsFrom_of_retained hp h fun r => by
    rw [← (s.recover_paired c straps) r]
    show s.nv.recover.regions[r].stamp = _
    rw [s.nv.recover_regions]

theorem State.finishOp_stampsFrom (hp : s.paired) (h : s.stampsFrom base) : s.finishOp.stampsFrom base := by
  unfold State.finishOp
  split
  next => exact State.clearWorking_stampsFrom _ hp h
  next => exact State.recover_stampsFrom _ _ (State.clearWorking_paired _ _) (State.clearWorking_stampsFrom _ hp h)
  next => exact State.resume_stamps s h
  next => exact h
  next => exact h

theorem State.losePower_stampsFrom (hp : s.paired) (h : s.stampsFrom base) : s.losePower.stampsFrom base := by
  unfold State.losePower
  split
  next => exact h
  next => exact State.clearWorking_stampsFrom _ (by simpa using hp) (by simp [h])

theorem State.assertReset_stampsFrom (hp : s.paired) (h : s.stampsFrom base) : s.assertReset.stampsFrom base := by
  unfold State.assertReset
  repeat' split
  next => exact h
  next => exact State.clearWorking_stampsFrom _ hp h
  all_goals exact h

theorem State.releaseReset_stampsFrom (straps : Straps) (hp : s.paired) (h : s.stampsFrom base) :
    (s.releaseReset straps).stampsFrom base := by
  unfold State.releaseReset
  split
  next => exact State.recover_stampsFrom _ _ hp h
  all_goals exact h

end

@[simp] theorem ackPoint_stampsFrom {base : Vector Stamp 64} (guardPin : Bool) (f : Frame) (s : State) (h : s.stampsFrom base) :
    (ackPoint guardPin f s).2.stampsFrom base := by
  cases f <;> simp [ackPoint, h]

/-- Every command but a FORMAT step's completion leaves no copy stamp below the base. -/
theorem Effect.keeps_stampsFrom {base : Vector Stamp 64} {s t : State} {c : Instr} (he : Effect s c t) (hc : c ≠ .formatStepDone)
    (hp : s.paired) (h : s.stampsFrom base) : t.stampsFrom base := by
  have hu : s.undriven.stampsFrom base := by simp [h]
  cases he with
  | unchanged => exact h
  | write => exact State.arbitrate_stamps _ (by simp [hu])
  | claim => exact hu
  | fence => exact State.checkFence_stamps _ (by simp [hu])
  | format =>
    have hcleared : s.undriven.formatClear.formatIntent.stampsFrom base := by simp [hu]
    exact State.arbitrate_stamps _ hcleared
  | join => exact hu
  | leave => exact State.drainEnd_stamps _ (by simp [hu])
  | doze => exact State.answer_stamps _ _ _ _ (by simp [hu])
  | wake => exact State.openPulls_stamps _ (by simp [hu])
  | formatStep => exact absurd rfl hc
  | readPiece => exact State.finishOp_stampsFrom (by simpa using hp) (by simp [h])
  | writeDone => exact State.finishOp_stampsFrom (by simp_all) (by simp [h])
  | applyDone => exact State.finishOp_stampsFrom (by simp_all) (by simp [h])
  | chunkRead => exact State.finishOp_stampsFrom (by simp_all) (by simp [h])
  | lineFault => exact State.afterAttempt_stamps _ (State.countFault_stamps _ (by simp [h]))
  | received => exact State.settle_stamps _ (State.holdFrame_stamps _ _ _ _ (by simp [h]))
  | beaconHeard => exact State.resume_stamps _ (by simp [h])
  | claimHeard => exact State.resume_stamps _ (by simp [h])
  | powerOn => exact State.recover_stampsFrom _ _ (s.losePower_paired hp) (State.losePower_stampsFrom hp h)
  | resetAsserted => exact State.assertReset_stampsFrom hp h
  | resetReleased straps => exact State.releaseReset_stampsFrom straps hp h
  | powerLost => exact State.losePower_stampsFrom hp h
  | _ => simp [h, hu]

/-- Settles O56: the stamps stay retained through every effect, and each effect but a FORMAT step's is bounded below by the stamps
of its state. -/
theorem stepNeverLowersStamp : Obligations.StepNeverLowersStamp := by
  intro s t hs hstep
  have hbase : ∃ base : Vector Stamp 64, ∀ r : Region, base[r] = s.table[r].stamp :=
    ⟨s.table.map (·.stamp), fun r => by simp⟩
  obtain ⟨base, hbase⟩ := hbase
  have hfrom : s.stampsFrom base := fun r => by
    rw [hbase r]
    exact stampUpTo_refl _
  have hbound (u : State) (hu : u.stampsFrom base) (r : Region) : stampUpTo s.table[r].stamp u.table[r].stamp := by
    rw [← hbase r]
    exact hu r
  rcases step_cases hstep with ⟨-, rfl⟩ | ⟨c, rest, hpending, he⟩
  · have htick : s.tick.paired := by simpa using (show s.paired from hs)
    exact ⟨htick, fun _ => hbound _ (State.tick_stamps s hfrom)⟩
  · refine ⟨he.keeps_paired hs, fun hfirst => hbound t (he.keeps_stampsFrom (fun hc => hfirst ?_) hs hfrom)⟩
    rw [hpending, hc]
    rfl

end Sys2Proof.Machine
end

section
/-! SUPPORT. The census of a beacon, and the order of its walk (R49, R50). -/

namespace Sys2Proof.Machine

-- One proof at a time: the proofs that wait for each other would hold the memory of the whole text.
set_option Elab.async false

/-- The place of a region in the census walk: how far after the cursor it stands (R50). -/
def walkPlace (cursor : Option Region) (r : Region) : Nat :=
  match cursor with
  | none => r.val
  | some c => (r.val + 63 - c.val) % 64

theorem walkPlace_after (c i : Region) : walkPlace (some c) (c + 1 + i) = i.val := by
  have hval : (c + 1 + i).val = ((c.val + 1) % 64 + i.val) % 64 := by
    rw [Fin.val_add, Fin.val_add]
    rfl
  have hc := c.isLt
  have hi := i.isLt
  show ((c + 1 + i).val + 63 - c.val) % 64 = i.val
  rw [hval]
  omega

/-- The walk meets the regions in the order of their places. -/
theorem walkOrder_pairwise (cursor : Option Region) :
    (walkOrder cursor).Pairwise (fun x y => walkPlace cursor x < walkPlace cursor y) := by
  have hrange : (List.finRange 64).Pairwise (fun i j : Region => i.val < j.val) := List.pairwise_lt_finRange 64
  cases cursor with
  | none => exact hrange
  | some c =>
    rw [walkOrder, List.pairwise_map]
    exact hrange.imp fun {i j} h => by rw [walkPlace_after, walkPlace_after]; exact h

/-- The walk meets every region. -/
theorem mem_walkOrder (cursor : Option Region) (r : Region) : r ∈ walkOrder cursor := by
  cases cursor with
  | none => exact List.mem_finRange r
  | some c => exact List.mem_map.2 ⟨r - (c + 1), List.mem_finRange _, by rw [add_sub_cancel]⟩

/-- A list that rises by place, cut short, keeps what stands before anything it keeps. -/
theorem mem_take_of_lt {place : Region → Nat} {l : List Region} (hrise : l.Pairwise (fun x y => place x < place y)) {n : Nat}
    {x r : Region} (hx : x ∈ l.take n) (hr : r ∈ l) (hlt : place r < place x) : r ∈ l.take n := by
  rw [← List.take_append_drop n l] at hrise hr
  rcases List.mem_append.1 hr with h | h
  · exact h
  · exact absurd ((List.pairwise_append.1 hrise).2.2 x hx r h) (Nat.not_lt.2 (le_of_lt hlt))

/-- What a beacon announces of the census front list (R50). -/
def State.frontPass (s : State) : List Region := (s.roster.front.filter s.announces).take 4

/-- What the census walk meets, before it is cut to the room left (R50). -/
def State.walkFull (s : State) : List Region :=
  (walkOrder s.roster.cursor).filter (fun r => s.announces r && !s.frontPass.contains r)

theorem State.censusPasses_eq (s : State) : s.censusPasses = (s.frontPass, s.walkFull.take (4 - s.frontPass.length)) := rfl

theorem State.mem_walkFull (s : State) (r : Region) : r ∈ s.walkFull ↔ s.announces r = true ∧ r ∉ s.frontPass := by
  simp [State.walkFull, mem_walkOrder]

theorem State.mem_frontPass {s : State} {r : Region} (h : r ∈ s.frontPass) : s.announces r = true :=
  (List.mem_filter.1 (List.mem_of_mem_take h)).2

theorem State.walkFull_pairwise (s : State) :
    s.walkFull.Pairwise (fun x y => walkPlace s.roster.cursor x < walkPlace s.roster.cursor y) :=
  (walkOrder_pairwise s.roster.cursor).filter _

theorem State.announces_iff (s : State) (r : Region) :
    s.announces r = true ↔ s.owns r = true ∧ s.out.hasUpdate r = false := by
  simp [State.announces]

/-- The regions of a census. -/
def State.censusRegions (s : State) : List Region := s.frontPass ++ s.walkFull.take (4 - s.frontPass.length)

theorem State.frontPass_length (s : State) : s.frontPass.length ≤ 4 := List.length_take_le 4 _

theorem State.censusRegions_length (s : State) : s.censusRegions.length ≤ 4 := by
  have := s.frontPass_length
  rw [State.censusRegions, List.length_append, List.length_take]
  omega

theorem State.mem_censusRegions {s : State} {r : Region} (h : r ∈ s.censusRegions) : s.announces r = true := by
  rcases List.mem_append.1 h with h | h
  · exact State.mem_frontPass h
  · exact ((s.mem_walkFull r).1 (List.mem_of_mem_take h)).1

theorem State.censusRegions_nodup {s : State} (h : s.roster.front.Nodup) : s.censusRegions.Nodup := by
  have hwalk : s.walkFull.Nodup := s.walkFull_pairwise.imp fun {x y} hlt heq => by rw [heq] at hlt; exact lt_irrefl _ hlt
  refine List.nodup_append.2 ⟨(h.filter _).sublist (List.take_sublist _ _), hwalk.sublist (List.take_sublist _ _),
    fun x hx y hy heq => ?_⟩
  subst heq
  exact ((s.mem_walkFull x).1 (List.mem_of_mem_take hy)).2 hx

/-- A census with room left names every region announced. -/
theorem State.censusRegions_of_room {s : State} (hroom : s.censusRegions.length < 4) {r : Region} (hr : s.announces r = true) :
    r ∈ s.censusRegions := by
  by_cases hfront : r ∈ s.frontPass
  · exact List.mem_append_left _ hfront
  · have hall : s.walkFull.take (4 - s.frontPass.length) = s.walkFull := by
      refine List.take_of_length_le (Nat.le_of_not_lt fun hlt => ?_)
      rw [State.censusRegions, List.length_append, List.length_take] at hroom
      omega
    refine List.mem_append_right _ ?_
    rw [hall]
    exact (s.mem_walkFull r).2 ⟨hr, hfront⟩

theorem State.censusRegions_head {s : State} {r : Region} (hfirst : s.roster.front.head? = some r) (hr : s.announces r = true) :
    s.censusRegions.head? = some r := by
  obtain ⟨rest, hfront⟩ : ∃ rest, s.roster.front = r :: rest := by
    cases hlist : s.roster.front with
    | nil => rw [hlist] at hfirst; cases hfirst
    | cons x rest =>
      rw [hlist] at hfirst
      exact ⟨rest, by rw [Option.some.inj hfirst]⟩
  rw [State.censusRegions, State.frontPass, hfront, List.filter_cons_of_pos hr]
  rfl

theorem State.beaconMode_leaving_iff (s : State) : s.beaconMode = .leaving ↔ s.ctl.state = .leaving := by
  rw [State.beaconMode]
  cases s.ctl.state <;> cases s.ctl.joining <;> simp

theorem State.beaconPasses_of_leaving {s : State} (h : s.ctl.state = .leaving) : s.beaconPasses = ([], []) :=
  if_pos (s.beaconMode_leaving_iff.2 h)

theorem State.beaconPasses_of_not_leaving {s : State} (h : s.ctl.state ≠ .leaving) : s.beaconPasses = s.censusPasses :=
  if_neg (mt s.beaconMode_leaving_iff.1 h)

/-- Settles O37: the census of `State.censusRegions`, and none in LEAVING. -/
theorem censusOfBeacon : Obligations.CensusOfBeacon := by
  intro s
  have hregions (ps : List Region) :
      (ps.map (fun r => (⟨r, s.table[r].stamp⟩ : CensusEntry))).map (·.region) = ps := by
    rw [List.map_map]
    exact List.map_id' ps
  refine ⟨_, _, rfl, rfl, rfl, ?_⟩
  by_cases hleaving : s.ctl.state = .leaving
  · rw [State.beaconPasses_of_leaving hleaving]
    refine ⟨Nat.zero_le 4, fun _ => List.nodup_nil, fun e he => absurd he List.not_mem_nil, fun h => absurd hleaving h,
      fun h => absurd hleaving h, fun h => absurd hleaving h, fun _ => ⟨rfl, s.beaconMode_leaving_iff.2 hleaving, rfl⟩, ?_, ?_, ?_, ?_⟩
    all_goals intro h; rw [hleaving] at h
    · cases h
    · rcases h with h | h <;> cases h
    · cases h
    · cases h
  · rw [State.beaconPasses_of_not_leaving hleaving, State.censusPasses_eq]
    dsimp only
    rw [hregions]
    refine ⟨?length, fun h => State.censusRegions_nodup h, fun e he => ?entries, fun _ hroom r howns hclear => ?full,
      fun _ r hfirst howns hclear => ?head, fun _ => ?walk, fun h => absurd h hleaving, fun h => ?dozing, fun h hj => ?joining,
      fun h hj => ?active, fun h hj => ?isolated⟩
    case length =>
      rw [List.length_map]
      exact s.censusRegions_length
    case entries =>
      obtain ⟨r, hr, rfl⟩ := List.mem_map.1 he
      obtain ⟨howns, hclear⟩ := (s.announces_iff r).1 (State.mem_censusRegions hr)
      exact ⟨howns, hclear, rfl⟩
    case full =>
      rw [List.length_map] at hroom
      exact State.censusRegions_of_room hroom ((s.announces_iff r).2 ⟨howns, hclear⟩)
    case head => exact State.censusRegions_head hfirst ((s.announces_iff r).2 ⟨howns, hclear⟩)
    case walk =>
      refine ⟨s.walkFull.take (4 - s.frontPass.length), rfl, s.walkFull_pairwise.sublist (List.take_sublist _ _), fun r hr => ?_,
        fun x hx r hlt howns hclear hfront => ?_, rfl⟩
      · exact ((s.mem_walkFull r).1 (List.mem_of_mem_take hr)).2
      · exact mem_take_of_lt s.walkFull_pairwise hx ((s.mem_walkFull r).2 ⟨(s.announces_iff r).2 ⟨howns, hclear⟩, hfront⟩) hlt
    case dozing => simp [State.beaconMode, h]
    case joining => rcases h with h | h <;> simp [State.beaconMode, h, hj]
    case active => simp [State.beaconMode, h, hj]
    case isolated => simp [State.beaconMode, h, hj]

end Sys2Proof.Machine
end

section
/-! SUPPORT. Every pull closes and every serving record ends, and what entry to HALTED leaves (R119, R127, R167). -/

namespace Sys2Proof.Machine

-- One proof at a time: the proofs that wait for each other would hold the memory of the whole text.
set_option Elab.async false

/-! ### Every pull closes (R119) -/

/-- The entry of a region whose pull, where one is open, has closed (R119). -/
def State.pullClosed (s : State) (q : Region) : RegionEntry :=
  { s.table[q] with copy := match s.pullOf q with
      | some p => closedCopy p.taken s.table[q].copy
      | none => s.table[q].copy }

theorem State.closePull_read (s : State) (r q : Region) :
    (s.closePull r false).table[q] = if q = r then s.pullClosed q else s.table[q] := by
  by_cases hq : q = r
  · subst hq
    rw [if_pos rfl, State.pullClosed]
    cases hp : s.pullOf q with
    | none => rw [State.closePull, hp]
    | some p => rw [s.closePull_table false hp, if_pos rfl]
  · rw [s.closePull_table_other false hq, if_neg hq]

/-- The open record of another region stands where a pull closes, and that of the region is gone. -/
theorem State.closePull_pullOf (s : State) (r q : Region) :
    (s.closePull r false).pullOf q = if q = r then none else s.pullOf q := by
  rw [State.pullOf, s.closePull_catchup r]
  by_cases hq : q = r
  · rw [if_pos hq]
    exact List.find?_eq_none.2 fun p hp => by
      have := (List.mem_filter.1 hp).2
      simpa [hq] using this
  · rw [if_neg hq, State.pullOf, List.find?_filter]
    refine congrArg (fun f => s.catchup.pulls.find? f) (funext fun p => ?_)
    by_cases hp : p.region = q <;> simp [hp, hq]

theorem State.closePull_pullClosed (s : State) (r q : Region) : (s.closePull r false).pullClosed q = s.pullClosed q := by
  rw [State.pullClosed, s.closePull_pullOf, s.closePull_read]
  by_cases hq : q = r
  · rw [if_pos hq, if_pos hq]
  · rw [if_neg hq, if_neg hq, State.pullClosed]

theorem State.pulled_iff_pullOf (s : State) (q : Region) : s.pulled q = (s.pullOf q).isSome := by
  cases h : s.pulled q with
  | false => rw [(s.pullOf_eq_none_iff q).2 h]; rfl
  | true =>
    obtain ⟨p, hp⟩ := Option.ne_none_iff_exists'.1 (mt (s.pullOf_eq_none_iff q).1 (by simp [h]))
    rw [hp]
    rfl

theorem State.closePull_pulled (s : State) (r q : Region) : (s.closePull r false).pulled q = (s.pulled q && q != r) := by
  rw [State.pulled_iff_pullOf, s.closePull_pullOf, State.pulled_iff_pullOf]
  by_cases hq : q = r <;> simp [hq]

/-- The pulls of the regions of a list closed one after the other. -/
def State.closePulls (s : State) (rs : List Region) : State := rs.foldl (fun t r => t.closePull r false) s

theorem State.closeAllPulls_eq (s : State) : s.closeAllPulls = s.closePulls (s.catchup.pulls.map (·.region)) := rfl

theorem State.closePulls_read (rs : List Region) : ∀ (s : State) (q : Region),
    (s.closePulls rs).table[q] = if q ∈ rs then s.pullClosed q else s.table[q] := by
  induction rs with
  | nil => exact fun s q => (if_neg List.not_mem_nil).symm
  | cons r rs ih =>
    intro s q
    show ((s.closePull r false).closePulls rs).table[q] = _
    rw [ih, s.closePull_pullClosed, s.closePull_read]
    by_cases hq : q = r <;> by_cases hmem : q ∈ rs <;> simp [hq, hmem]

theorem State.closePulls_pulls (rs : List Region) : ∀ s : State,
    (s.closePulls rs).catchup.pulls = s.catchup.pulls.filter (fun p => !rs.contains p.region) := by
  induction rs with
  | nil => exact fun s => (List.filter_eq_self.2 fun p _ => rfl).symm
  | cons r rs ih =>
    intro s
    show ((s.closePull r false).closePulls rs).catchup.pulls = _
    rw [ih, s.closePull_catchup r, List.filter_filter]
    refine congrArg (fun f => s.catchup.pulls.filter f) (funext fun p => ?_)
    rw [List.contains_cons, Bool.not_or, Bool.and_comm]
    rfl

theorem State.closeAllPulls_table (s : State) (q : Region) : s.closeAllPulls.table[q] = s.pullClosed q := by
  rw [s.closeAllPulls_eq, State.closePulls_read]
  split
  next => rfl
  next hq =>
    have hnone : s.pullOf q = none := List.find?_eq_none.2 fun p hp => by
      rw [beq_iff_eq]
      exact fun h => hq (List.mem_map.2 ⟨p, hp, h⟩)
    rw [State.pullClosed, hnone]

/-- Pulls that close outside ACTIVE and ISOLATED list nothing. -/
theorem State.closePulls_lists (rs : List Region) : ∀ s : State, s.ctl.state.working = false →
    (s.closePulls rs).catchup.list = s.catchup.list ∧ (s.closePulls rs).catchup.parked = s.catchup.parked := by
  induction rs with
  | nil => exact fun s _ => ⟨rfl, rfl⟩
  | cons r rs ih =>
    intro s h
    obtain ⟨hlist, hparked⟩ := ih (s.closePull r false) (by simpa using h)
    refine ⟨hlist.trans ?_, hparked.trans ?_⟩ <;> rw [s.closePull_catchup r, h, Bool.and_false] <;> rfl

/-- The Outbox once the pulls of a list have closed, but for its fence. -/
theorem State.closePulls_entries (rs : List Region) : ∀ s : State, (s.closePulls rs).out.entries
    = removalAsked (fun x => rs.any fun r => s.pulled r && pullEntryOf r x) s.out.entries := by
  induction rs with
  | nil => exact fun s => (removalAsked_of_none fun _ _ => rfl).symm
  | cons r rs ih =>
    intro s
    show ((s.closePull r false).closePulls rs).out.entries = _
    rw [ih, s.closePull_out r false]
    dsimp only
    rw [removalAsked_removalAsked (fun x d => by cases x; rfl)]
    refine congrArg (fun hit => removalAsked hit s.out.entries) (funext fun x => ?_)
    have hrest : (rs.any fun q => (s.closePull r false).pulled q && pullEntryOf q x)
        = rs.any fun q => (s.pulled q && pullEntryOf q x) && q != r := by
      simp only [s.closePull_pulled, Bool.and_right_comm]
    rw [hrest, List.any_cons]
    cases hfirst : s.pulled r && pullEntryOf r x with
    | true => rfl
    | false =>
      rw [Bool.false_or, Bool.false_or]
      refine congrArg (List.any rs) (funext fun q => ?_)
      by_cases hq : q = r
      · rw [hq, hfirst, Bool.false_and]
      · rw [bne_iff_ne.2 hq, Bool.and_true]

theorem State.closeAllPulls_entries (s : State) : s.closeAllPulls.out.entries
    = removalAsked (fun x => x.isPull && s.pulled x.region) s.out.entries := by
  rw [s.closeAllPulls_eq, State.closePulls_entries]
  refine congrArg (fun hit => removalAsked hit s.out.entries) (funext fun x => ?_)
  rw [Bool.eq_iff_iff, List.any_eq_true]
  constructor
  · rintro ⟨r, -, hr⟩
    obtain ⟨hpulled, hentry⟩ := (Bool.and_eq_true _ _).mp hr
    obtain ⟨hpull, hregion⟩ := (Bool.and_eq_true _ _).mp hentry
    rw [hpull, beq_iff_eq.1 hregion, hpulled]
    rfl
  · intro h
    obtain ⟨hpull, hpulled⟩ := (Bool.and_eq_true _ _).mp h
    have hmem : x.region ∈ s.catchup.pulls.map (·.region) := by
      obtain ⟨p, hp, hr⟩ := List.any_eq_true.1 hpulled
      exact List.mem_map.2 ⟨p, hp, beq_iff_eq.1 hr⟩
    exact ⟨x.region, hmem, by simp [pullEntryOf, hpull, hpulled]⟩

theorem State.closePulls_quiet (rs : List Region) : ∀ s : State, s.ctl.state.working = false → s.out.fenceHolds →
    (s.closePulls rs).out.fenceHolds ∧ (s.closePulls rs).out.fence = s.out.fence ∧ (s.closePulls rs).events = s.events := by
  induction rs with
  | nil => exact fun s _ h => ⟨h, rfl, rfl⟩
  | cons r rs ih =>
    intro s hidle h
    obtain ⟨hfence, hevents⟩ := s.closePull_of_holds r false h
    obtain ⟨hholds, hfence', hevents'⟩ := ih (s.closePull r false) (by simpa using hidle) (s.closePull_fenceHolds r false h)
    refine ⟨hholds, hfence'.trans hfence, hevents'.trans (hevents.trans ?_)⟩
    rw [hidle, Bool.and_false]
    rfl

theorem State.closePulls_rest (rs : List Region) : ∀ s : State, (s.closePulls rs).out.reserved = s.out.reserved
    ∧ (s.closePulls rs).out.hostClaim = s.out.hostClaim ∧ (s.closePulls rs).out.sweep = s.out.sweep
    ∧ (s.closePulls rs).ctl = s.ctl := by
  induction rs with
  | nil => exact fun s => ⟨rfl, rfl, rfl, rfl⟩
  | cons r rs ih =>
    intro s
    obtain ⟨h1, h2, h3, h4⟩ := ih (s.closePull r false)
    have hout := s.closePull_out r false
    have hctl : (s.closePull r false).ctl = s.ctl := by rw [s.closePull_eq r false]
    exact ⟨h1.trans (by rw [hout]), h2.trans (by rw [hout]), h3.trans (by rw [hout]), h4.trans hctl⟩

/-! ### Every serving record ends (R127) -/

/-- The serving records of the regions of a list ended one after the other. -/
def State.endServings (s : State) (rs : List Region) : State := rs.foldl State.endServing s

theorem State.endAllServing_eq (s : State) : s.endAllServing = s.endServings (s.serving.map (·.region)) := rfl

theorem State.endServing_served (s : State) (r q : Region) : (s.endServing r).served q = (s.served q && q != r) := by
  rw [State.served, s.endServing_serving, List.any_filter, State.served, Bool.eq_iff_iff, Bool.and_eq_true, List.any_eq_true,
    List.any_eq_true]
  constructor
  · rintro ⟨v, hv, h⟩
    obtain ⟨hne, hq⟩ := (Bool.and_eq_true _ _).mp h
    refine ⟨⟨v, hv, hq⟩, ?_⟩
    rwa [beq_iff_eq.1 hq] at hne
  · rintro ⟨⟨v, hv, hq⟩, hne⟩
    exact ⟨v, hv, by rw [hq, beq_iff_eq.1 hq, hne]; rfl⟩

theorem State.endServings_serving (rs : List Region) : ∀ s : State,
    (s.endServings rs).serving = s.serving.filter (fun v => !rs.contains v.region) := by
  induction rs with
  | nil => exact fun s => (List.filter_eq_self.2 fun p _ => rfl).symm
  | cons r rs ih =>
    intro s
    show ((s.endServing r).endServings rs).serving = _
    rw [ih, s.endServing_serving, List.filter_filter]
    refine congrArg (fun f => s.serving.filter f) (funext fun p => ?_)
    rw [List.contains_cons, Bool.not_or, Bool.and_comm]
    rfl

theorem State.endAllServing_serving (s : State) : s.endAllServing.serving = [] := by
  rw [s.endAllServing_eq, State.endServings_serving]
  exact List.filter_eq_nil_iff.2 fun p hp => by simpa using ⟨p, hp, rfl⟩

theorem State.endServings_read (rs : List Region) : ∀ (s : State) (q : Region), (s.endServings rs).table[q]
    = { s.table[q] with writeHold := s.table[q].writeHold && !(rs.contains q && s.served q) } := by
  induction rs with
  | nil => intro s q; simp [State.endServings]
  | cons r rs ih =>
    intro s q
    show ((s.endServing r).endServings rs).table[q] = _
    have hserved : (s.served r && q == r) = (s.served q && q == r) := by
      by_cases hq : q = r
      · rw [hq]
      · rw [beq_false_of_ne hq, Bool.and_false, Bool.and_false]
    have hhold (hold mine here later : Bool) :
        ((hold && !(mine && here)) && !(later && (mine && !here))) = (hold && !((here || later) && mine)) := by
      cases hold <;> cases mine <;> cases here <;> cases later <;> rfl
    rw [ih, s.endServing_served, s.endServing_table, hserved, List.contains_cons]
    exact congrArg (fun b => { s.table[q] with writeHold := b }) (hhold _ _ _ _)

theorem State.endAllServing_table (s : State) (q : Region) : s.endAllServing.table[q]
    = { s.table[q] with writeHold := s.table[q].writeHold && !s.served q } := by
  rw [s.endAllServing_eq, State.endServings_read]
  have hall : ((s.serving.map (·.region)).contains q && s.served q) = s.served q := by
    cases hserved : s.served q with
    | false => exact Bool.and_false _
    | true =>
      obtain ⟨v, hv, hr⟩ := List.any_eq_true.1 hserved
      rw [Bool.and_true, List.contains_iff_mem]
      exact List.mem_map.2 ⟨v, hv, beq_iff_eq.1 hr⟩
  rw [hall]

/-- Whether the array is busy with a host WRITE is not touched by the end of serving records. -/
theorem State.endServings_abandons (rs : List Region) : ∀ (s : State) (r : Region),
    (s.endServings rs).abandons r = s.abandons r := by
  induction rs with
  | nil => exact fun s r => rfl
  | cons q rs ih =>
    intro s r
    exact (ih (s.endServing q) r).trans (State.abandons_congr (s.endServing_port q) (s.endServing_arb q) r)

theorem State.endServings_entries (rs : List Region) : ∀ s : State, (s.endServings rs).out.entries
    = removalAsked (fun x => rs.any fun r => s.served r && imageOf r x) s.out.entries := by
  induction rs with
  | nil => exact fun s => (removalAsked_of_none fun _ _ => rfl).symm
  | cons r rs ih =>
    intro s
    show ((s.endServing r).endServings rs).out.entries = _
    rw [ih, s.endServing_out r]
    dsimp only
    rw [removalAsked_removalAsked (fun x d => by cases x; rfl)]
    refine congrArg (fun hit => removalAsked hit s.out.entries) (funext fun x => ?_)
    have hrest : (rs.any fun q => (s.endServing r).served q && imageOf q x)
        = rs.any fun q => (s.served q && imageOf q x) && q != r := by
      simp only [s.endServing_served, Bool.and_right_comm]
    rw [hrest, List.any_cons]
    cases hfirst : s.served r && imageOf r x with
    | true => rfl
    | false =>
      rw [Bool.false_or, Bool.false_or]
      refine congrArg (List.any rs) (funext fun q => ?_)
      by_cases hq : q = r
      · rw [hq, hfirst, Bool.false_and]
      · rw [bne_iff_ne.2 hq, Bool.and_true]

theorem State.endAllServing_entries (s : State) : s.endAllServing.out.entries
    = removalAsked (fun x => x.isImage && s.served x.region) s.out.entries := by
  rw [s.endAllServing_eq, State.endServings_entries]
  refine congrArg (fun hit => removalAsked hit s.out.entries) (funext fun x => ?_)
  rw [Bool.eq_iff_iff, List.any_eq_true]
  constructor
  · rintro ⟨r, -, hr⟩
    obtain ⟨hserved, hentry⟩ := (Bool.and_eq_true _ _).mp hr
    obtain ⟨himage, hregion⟩ := (Bool.and_eq_true _ _).mp hentry
    rw [himage, beq_iff_eq.1 hregion, hserved]
    rfl
  · intro h
    obtain ⟨himage, hserved⟩ := (Bool.and_eq_true _ _).mp h
    have hmem : x.region ∈ s.serving.map (·.region) := by
      obtain ⟨v, hv, hr⟩ := List.any_eq_true.1 hserved
      exact List.mem_map.2 ⟨v, hv, beq_iff_eq.1 hr⟩
    exact ⟨x.region, hmem, by simp [imageOf, himage, hserved]⟩

theorem State.endServings_quiet (rs : List Region) : ∀ s : State, s.out.fenceHolds →
    (s.endServings rs).out.fenceHolds ∧ (s.endServings rs).out.fence = s.out.fence ∧ (s.endServings rs).events = s.events := by
  induction rs with
  | nil => exact fun s h => ⟨h, rfl, rfl⟩
  | cons r rs ih =>
    intro s h
    obtain ⟨hfence, hevents⟩ := s.endServing_of_holds r h
    obtain ⟨hholds, hfence', hevents'⟩ := ih (s.endServing r) (s.endServing_fenceHolds r h)
    exact ⟨hholds, hfence'.trans hfence, hevents'.trans hevents⟩

theorem State.endServings_rest (rs : List Region) : ∀ s : State, (s.endServings rs).out.reserved = s.out.reserved
    ∧ (s.endServings rs).out.hostClaim = s.out.hostClaim ∧ (s.endServings rs).out.sweep = s.out.sweep
    ∧ (s.endServings rs).ctl = s.ctl := by
  induction rs with
  | nil => exact fun s => ⟨rfl, rfl, rfl, rfl⟩
  | cons r rs ih =>
    intro s
    obtain ⟨h1, h2, h3, h4⟩ := ih (s.endServing r)
    have hout := s.endServing_out r
    have hctl : (s.endServing r).ctl = s.ctl := by rw [s.endServing_eq r]
    exact ⟨h1.trans (by rw [hout]), h2.trans (by rw [hout]), h3.trans (by rw [hout]), h4.trans hctl⟩

/-! ### The clearing of the Apply Queue at the halt (R141, R167) -/

/-- The blocks that entry to HALTED has emptied before it clears the Apply Queue (R167). -/
def State.stilled (s : State) : Prop :=
  s.ctl.state = .halted ∧ s.out.entries = [] ∧ s.out.reserved = none ∧ s.out.fence = none ∧ s.catchup = ⟨[], 0, []⟩
    ∧ s.serving = []

/-- The entry of a region with an Apply Queue entry cleared: STALE DAMAGED, and UNKNOWN where the station owned it (R141). -/
def State.haltedEntry (s : State) (q : Region) : RegionEntry :=
  if s.owns q = true then { s.table[q].clearFlags with owner := none, copy := .stale .damaged }
  else { s.table[q] with copy := .stale .damaged }

/-- What the clearing of one region's entries leaves as it is. -/
structure HaltKept (s t : State) : Prop where
  ctl : t.ctl = s.ctl
  line : t.line = s.line
  arb : t.arb = s.arb
  applyQ : t.applyQ = s.applyQ
  events : t.events = s.events
  hostClaim : t.out.hostClaim = s.out.hostClaim
  sweep : t.out.sweep = s.out.sweep
  array : t.nv.array = s.nv.array
  stilled : t.stilled

theorem HaltKept.trans {s t u : State} (h : HaltKept s t) (h' : HaltKept t u) : HaltKept s u :=
  ⟨h'.ctl.trans h.ctl, h'.line.trans h.line, h'.arb.trans h.arb, h'.applyQ.trans h.applyQ, h'.events.trans h.events,
    h'.hostClaim.trans h.hostClaim, h'.sweep.trans h.sweep, h'.array.trans h.array, h'.stilled⟩

/-- A region owned with its entries cleared gives up its flags, its place in the front list and a WRITE not yet granted. -/
theorem State.haltRegion_of_owner {s : State} {r : Region} (h : s.stilled) (howns : s.owns r = true) : s.haltRegion r
    = ((((s.mapEntry r ({ · with copy := .stale .damaged })).mapEntry r ({ · with owner := none })).mapEntry r
        RegionEntry.clearFlags).dropFront r).abandonWrite r := by
  obtain ⟨hstate, -, -, -, hcatchup, hserving⟩ := h
  let marked := s.mapEntry r ({ · with copy := .stale .damaged })
  have hmarked : marked.table[r].owner = s.table[r].owner := by rw [State.mapEntry_read, if_pos rfl]
  have howns' : marked.owns r = true := by rw [State.owns, hmarked]; exact howns
  have hchange : marked.table[r].owner.map (·.station) ≠ (none : Option Owner).map (·.station) := fun hnone => by
    rw [State.station_of_isSelf marked (by rw [State.isSelf_owner]; exact howns')] at hnone
    cases hnone
  have hpulled (t : State) (ht : t.catchup = s.catchup) : t.pulled r = false := by rw [State.pulled, ht, hcatchup]; rfl
  have hhanded : marked.ownerHandedOn r none = marked.mapEntry r ({ · with owner := none }) := by
    have hidle : (marked.mapEntry r ({ · with owner := none })).ctl.state.working = false := by
      show s.ctl.state.working = false
      rw [hstate]
      rfl
    rw [State.ownerHandedOn, State.closePull_of_not_pulled _ false (hpulled (marked.mapEntry r ({ · with owner := none })) rfl), State.unpark_eq, hidle]
    rfl
  have hended : (marked.mapEntry r ({ · with owner := none })).endServing r = marked.mapEntry r ({ · with owner := none }) :=
    State.endServing_of_not_served _ (by
      show s.serving.any _ = false
      rw [hserving]
      rfl)
  rw [State.haltRegion, State.disown, if_pos howns', State.changeOwner_of_change _ _ _ hchange, howns', State.partOld_of_self,
    State.surrender, hhanded, hended]
  rfl

theorem State.haltRegion_of_other {s : State} {r : Region} (howns : s.owns r = false) :
    s.haltRegion r = s.mapEntry r ({ · with copy := .stale .damaged }) := by
  have howns' : (s.mapEntry r ({ · with copy := .stale .damaged })).owns r = false := by
    rw [State.owns, State.mapEntry_read, if_pos rfl]
    exact howns
  rw [State.haltRegion, State.disown, howns']
  rfl

theorem State.haltRegion_read {s : State} (h : s.stilled) (r q : Region) :
    (s.haltRegion r).table[q] = if q = r then s.haltedEntry q else s.table[q] := by
  cases howns : s.owns r with
  | true =>
    rw [State.haltRegion_of_owner h howns, State.abandonWrite_table, State.dropFront_table, State.mapEntry_read, State.mapEntry_read,
      State.mapEntry_read, State.mapEntry_read, State.mapEntry_read, if_pos rfl, if_pos rfl]
    by_cases hq : q = r
    · subst hq
      rw [if_pos rfl, if_pos rfl, State.haltedEntry, if_pos howns]
      rfl
    · rw [if_neg hq, if_neg hq, if_neg hq, State.mapEntry_read, if_neg hq]
  | false =>
    rw [State.haltRegion_of_other howns, State.mapEntry_read]
    by_cases hq : q = r
    · subst hq
      rw [if_pos rfl, if_pos rfl, State.haltedEntry, if_neg (Bool.eq_false_iff.1 howns)]
    · rw [if_neg hq, if_neg hq]

theorem State.haltRegion_port {s : State} (h : s.stilled) (r : Region) : (s.haltRegion r).port = { s.port with
    state := if s.owns r && s.abandons r then .answer ⟨0x02, .notOwner, []⟩ else s.port.state } := by
  cases howns : s.owns r with
  | true =>
    rw [State.haltRegion_of_owner h howns, State.abandonWrite_blocks, Bool.true_and]
    rfl
  | false => rw [State.haltRegion_of_other howns]; rfl

theorem State.haltRegion_kept {s : State} (h : s.stilled) (r : Region) : HaltKept s (s.haltRegion r) := by
  obtain ⟨hstate, hentries, hreserved, hfence, hcatchup, hserving⟩ := h
  cases howns : s.owns r with
  | true =>
    have hentries' (t : State) : t.turnedAway r ([] : List OutEntry) = [] := by
      rw [State.turnedAway_eq]
      split <;> rfl
    rw [State.haltRegion_of_owner ⟨hstate, hentries, hreserved, hfence, hcatchup, hserving⟩ howns, State.abandonWrite_blocks]
    refine ⟨rfl, rfl, rfl, rfl, rfl, rfl, rfl, rfl, hstate, ?_, ?_, hfence, hcatchup, hserving⟩
    · show State.turnedAway _ r s.out.entries = []
      rw [hentries]
      exact hentries' _
    · show (if _ then none else s.out.reserved) = none
      rw [hreserved, ite_self]
  | false =>
    rw [State.haltRegion_of_other howns]
    exact ⟨rfl, rfl, rfl, rfl, rfl, rfl, rfl, rfl, hstate, hentries, hreserved, hfence, hcatchup, hserving⟩

theorem State.haltRegion_haltedEntry {s : State} (h : s.stilled) (r q : Region) :
    (s.haltRegion r).haltedEntry q = s.haltedEntry q := by
  have hown : (s.haltRegion r).own = s.own := by rw [State.own, (State.haltRegion_kept h r).ctl]; rfl
  by_cases hq : q = r
  · have hentry := State.haltRegion_read h r q
    rw [if_pos hq] at hentry
    rw [State.haltedEntry, State.owns, hentry, hown]
    cases howns : s.owns q with
    | true => rw [State.haltedEntry, if_pos howns]; rfl
    | false =>
      have hsame : s.haltedEntry q = { s.table[q] with copy := .stale .damaged } := if_neg (Bool.eq_false_iff.1 howns)
      rw [hsame, if_neg]
      rw [State.owns] at howns
      exact Bool.eq_false_iff.1 howns
  · have hentry := State.haltRegion_read h r q
    rw [if_neg hq] at hentry
    rw [State.haltedEntry, State.haltedEntry, State.owns, State.owns, hentry, hown]

/-- The regions of a list with their Apply Queue entries cleared one after the other. -/
def State.haltRegions (s : State) (rs : List Region) : State := rs.foldl State.haltRegion s

theorem State.haltRegions_kept (rs : List Region) : ∀ {s : State}, s.stilled → HaltKept s (s.haltRegions rs) := by
  induction rs with
  | nil => exact fun {s} h => ⟨rfl, rfl, rfl, rfl, rfl, rfl, rfl, rfl, h⟩
  | cons r rs ih =>
    intro s h
    have hfirst := State.haltRegion_kept h r
    exact hfirst.trans (ih hfirst.stilled)

theorem State.haltRegions_read (rs : List Region) : ∀ {s : State}, s.stilled → ∀ q : Region,
    (s.haltRegions rs).table[q] = if q ∈ rs then s.haltedEntry q else s.table[q] := by
  induction rs with
  | nil => exact fun {s} _ q => (if_neg List.not_mem_nil).symm
  | cons r rs ih =>
    intro s h q
    show ((s.haltRegion r).haltRegions rs).table[q] = _
    rw [ih (State.haltRegion_kept h r).stilled, State.haltRegion_haltedEntry h, State.haltRegion_read h]
    by_cases hq : q = r <;> by_cases hmem : q ∈ rs <;> simp [hq, hmem]

/-- A WRITE that is turned away at the halt answers NOT_OWNER, once (R17). -/
theorem State.haltRegions_port (rs : List Region) : ∀ {s : State}, s.stilled → (s.haltRegions rs).port.state
    = if (rs.any fun r => s.owns r && s.abandons r) = true then .answer ⟨0x02, .notOwner, []⟩ else s.port.state := by
  induction rs with
  | nil => exact fun {s} _ => (if_neg (by simp)).symm
  | cons r rs ih =>
    intro s h
    have hkept := State.haltRegion_kept h r
    have hport := State.haltRegion_port h r
    show ((s.haltRegion r).haltRegions rs).port.state = _
    rw [ih hkept.stilled, List.any_cons]
    cases hfirst : s.owns r && s.abandons r with
    | true =>
      rw [hfirst, if_pos rfl] at hport
      have hnone : ¬ (rs.any fun q => (s.haltRegion r).owns q && (s.haltRegion r).abandons q) = true := by
        rw [List.any_eq_true]
        rintro ⟨q, -, hq⟩
        rw [State.abandons, hport, Bool.and_false] at hq
        cases hq
      rw [if_neg hnone, hport, Bool.true_or, if_pos rfl]
    | false =>
      rw [hfirst, if_neg Bool.false_ne_true] at hport
      have habandons (q : Region) : (s.haltRegion r).abandons q = s.abandons q := by
        rw [State.abandons, State.abandons, hport, hkept.arb]
      have hmine (q : Region) : ((s.haltRegion r).owns q && (s.haltRegion r).abandons q) = (s.owns q && s.abandons q) := by
        rw [habandons]
        by_cases hq : q = r
        · subst hq
          rw [hfirst]
          cases habandon : s.abandons q with
          | false => exact Bool.and_false _
          | true =>
            rw [habandon, Bool.and_true] at hfirst
            rw [State.haltRegion_of_other hfirst, Bool.and_true, State.owns, State.mapEntry_read, if_pos rfl]
            exact hfirst
        · rw [State.owns, State.haltRegion_read h, if_neg hq, State.own, hkept.ctl]
          rfl
      simp only [hmine, hport, Bool.false_or]

end Sys2Proof.Machine
end

section
/-! SUPPORT. What entry to HALTED leaves, and what it does to the regions, the Apply Queue and the Host Port (R167). -/

namespace Sys2Proof.Machine

-- One proof at a time: the proofs that wait for each other would hold the memory of the whole text.
set_option Elab.async false

/-- The state with the line off, the timers stopped and the Outbox cleared (R167 steps 1 to 3). -/
def State.haltOff (s : State) : State := (s.setState .halted).lineOff.stopTimers.clearOutbox

/-- The state with the pulls and serving records ended as well (R167 step 4). -/
def State.haltEnded (s : State) : State := (s.haltOff.closeAllPulls.setCatchup ⟨[], 0, []⟩).endAllServing

theorem State.halt_eq (s : State) (c : HaltCause) : s.halt c
    = ((((s.haltEnded.setApplyQ s.haltEnded.applyInProgress).haltRegions (s.haltEnded.applyCleared.map (·.region))).clearRoster).post
        (.halted c)) := rfl

theorem State.haltOff_out (s : State) : s.haltOff.out
    = ⟨[], none, none, none, { s.out.sweep with phase := .inactive, outstanding := none }⟩ := by
  rw [State.haltOff, State.clearOutbox, State.mapOut, State.stopTimers_out, State.lineOff_out]
  rfl

theorem State.haltOff_ctl (s : State) : s.haltOff.ctl = { s.ctl with
    state := .halted, beaconTimer := none, beaconDue := false, listenTimer := none, leaveTimer := none } := by
  rw [State.haltOff, State.clearOutbox_ctl, State.stopTimers, State.mapCtl, State.lineOff_ctl]
  rfl

theorem State.haltOff_line (s : State) : s.haltOff.line
    = { s.line with slot := none, rx := none, syncing := false, strangers := Vector.replicate 16 none } := by
  rw [State.haltOff, State.clearOutbox_line, State.stopTimers_line, State.lineOff_line]
  rfl

/-- Entry to HALTED ends the vote of a CLAIM under way, and leaves the regions else (R21, R167). -/
theorem State.haltOff_table (s : State) (q : Region) :
    s.haltOff.table[q] = { s.table[q] with votePending := s.dropFrame.table[q].votePending } := by
  have hoff : (s.setState .halted).lineOff.table = s.dropFrame.table := by
    have hline : (s.setState .halted).line.rx = s.line.rx := rfl
    rw [State.lineOff, State.mapLine_table, State.dropFrame, State.dropFrame, hline]
    rcases s.line.rx with _ | ⟨_ | _ | _ | _ | _, _, _ | _⟩ <;> rfl
  rw [State.haltOff, State.clearOutbox_table, State.stopTimers_table, hoff, State.dropFrame_table]

/-- Where no CLAIM for a region is under way its vote is left as it is. -/
theorem State.dropFrame_votePending {s : State} {q : Region}
    (h : ∀ c bit, s.line.rx = some ⟨.claim c, bit, true⟩ → c.region ≠ q) :
    s.dropFrame.table[q].votePending = s.table[q].votePending := by
  unfold State.dropFrame
  split
  next c bit hrx =>
    rw [State.endVote, State.mapEntry_read, if_neg (h c bit hrx).symm]
    rfl
  next => rfl

theorem State.dropFrame_vote_ended {s : State} {c : ClaimFrame} {bit : Bool} (h : s.line.rx = some ⟨.claim c, bit, true⟩) :
    s.dropFrame.table[c.region].votePending = false := by
  rw [State.dropFrame, h]
  dsimp only
  rw [State.endVote, State.mapEntry_read, if_pos rfl]

/-- The closed pulls of the halting state are those of the state before it, but for the votes. -/
theorem State.haltOff_pullClosed (s : State) (q : Region) :
    s.haltOff.pullClosed q = { s.pullClosed q with votePending := s.dropFrame.table[q].votePending } := by
  have hpull : s.haltOff.pullOf q = s.pullOf q := by
    rw [State.pullOf, State.haltOff, State.clearOutbox_catchup, State.stopTimers_catchup, State.lineOff_catchup]
    rfl
  rw [State.pullClosed, hpull, s.haltOff_table, State.pullClosed]

theorem State.haltOff_served (s : State) (q : Region) : s.haltOff.served q = s.served q := by
  rw [State.served, State.haltOff, State.clearOutbox_serving, State.stopTimers_serving, State.lineOff_serving]
  rfl

theorem State.haltOff_closed_quiet (s : State) : s.haltOff.closeAllPulls.out.fenceHolds
    ∧ s.haltOff.closeAllPulls.out.fence = none ∧ s.haltOff.closeAllPulls.events = s.events := by
  have hidle : s.haltOff.ctl.state.working = false := by rw [s.haltOff_ctl]; rfl
  have hfence : s.haltOff.out.fence = none := by rw [s.haltOff_out]
  obtain ⟨hholds, hclosed, hevents⟩ := State.closePulls_quiet (s.haltOff.catchup.pulls.map (·.region)) s.haltOff hidle
    (fun hopen => absurd hfence hopen)
  refine ⟨hholds, hclosed.trans hfence, hevents.trans ?_⟩
  rw [State.haltOff, State.clearOutbox_events, State.stopTimers_events, State.lineOff_events]
  rfl

/-- The regions once the pulls and serving records of the halting station have ended (R167 step 4). -/
theorem State.haltEnded_table (s : State) (q : Region) : s.haltEnded.table[q] = { s.pullClosed q with
    votePending := s.dropFrame.table[q].votePending
    writeHold := s.table[q].writeHold && !s.served q } := by
  have hserved : (s.haltOff.closeAllPulls.setCatchup ⟨[], 0, []⟩).served q = s.served q := by
    rw [← s.haltOff_served, State.served, State.served]
    simp
  rw [State.haltEnded, State.endAllServing_table, hserved, State.setCatchup_table, State.closeAllPulls_table, s.haltOff_pullClosed]
  rfl

theorem State.haltEnded_out (s : State) : s.haltEnded.out.entries = [] ∧ s.haltEnded.out.reserved = none
    ∧ s.haltEnded.out.hostClaim = none ∧ s.haltEnded.out.fence = none
    ∧ s.haltEnded.out.sweep = { s.out.sweep with phase := .inactive, outstanding := none } := by
  obtain ⟨hholds, hfence, -⟩ := s.haltOff_closed_quiet
  obtain ⟨hr, hh, hs, -⟩ := State.closePulls_rest (s.haltOff.catchup.pulls.map (·.region)) s.haltOff
  let closed := s.haltOff.closeAllPulls.setCatchup ⟨[], 0, []⟩
  obtain ⟨hr', hh', hs', -⟩ := State.endServings_rest (closed.serving.map (·.region)) closed
  obtain ⟨-, hfence', -⟩ := State.endServings_quiet (closed.serving.map (·.region)) closed hholds
  have hout := s.haltOff_out
  refine ⟨?_, hr'.trans (hr.trans (by rw [hout])), hh'.trans (hh.trans (by rw [hout])), hfence'.trans hfence,
    hs'.trans (hs.trans (by rw [hout]))⟩
  rw [State.haltEnded, State.endAllServing_entries, State.setCatchup_out, State.closeAllPulls_entries, hout]
  rfl

theorem State.haltEnded_ctl (s : State) : s.haltEnded.ctl = { s.ctl with
    state := .halted, beaconTimer := none, beaconDue := false, listenTimer := none, leaveTimer := none } := by
  let closed := s.haltOff.closeAllPulls.setCatchup ⟨[], 0, []⟩
  obtain ⟨-, -, -, hctl⟩ := State.closePulls_rest (s.haltOff.catchup.pulls.map (·.region)) s.haltOff
  obtain ⟨-, -, -, hctl'⟩ := State.endServings_rest (closed.serving.map (·.region)) closed
  exact hctl'.trans (hctl.trans s.haltOff_ctl)

theorem State.haltEnded_events (s : State) : s.haltEnded.events = s.events := by
  obtain ⟨hholds, -, hevents⟩ := s.haltOff_closed_quiet
  let closed := s.haltOff.closeAllPulls.setCatchup ⟨[], 0, []⟩
  obtain ⟨-, -, hevents'⟩ := State.endServings_quiet (closed.serving.map (·.region)) closed hholds
  exact hevents'.trans hevents

theorem State.haltEnded_stilled (s : State) : s.haltEnded.stilled := by
  obtain ⟨hentries, hreserved, -, hfence, -⟩ := s.haltEnded_out
  refine ⟨by rw [s.haltEnded_ctl], hentries, hreserved, hfence, ?_, State.endAllServing_serving _⟩
  rw [State.haltEnded, State.endAllServing_catchup]
  rfl

/-- What the ends of pulls and serving records leave of the halting station. -/
theorem State.haltEnded_rest (s : State) : s.haltEnded.line
      = { s.line with slot := none, rx := none, syncing := false, strangers := Vector.replicate 16 none }
    ∧ s.haltEnded.applyQ = s.applyQ ∧ s.haltEnded.port = s.port ∧ s.haltEnded.nv.array = s.nv.array := by
  refine ⟨?_, ?_, ?_, ?_⟩
  · rw [State.haltEnded, State.endAllServing_line, State.setCatchup_line, State.closeAllPulls_line, s.haltOff_line]
  all_goals simp [State.haltEnded, State.haltOff]

theorem State.endServings_applies (rs : List Region) : ∀ s : State,
    (s.endServings rs).arb.op = some .apply ↔ s.arb.op = some .apply := by
  induction rs with
  | nil => exact fun s => Iff.rfl
  | cons r rs ih =>
    intro s
    refine (ih (s.endServing r)).trans ?_
    rw [s.endServing_arb, s.arbAfterServing_eq]
    rcases s.arb.op with _ | (_ | _ | _ | _ | _) <;> simp [ArrayOp.droppedBy]

theorem State.haltOff_arb (s : State) : s.haltOff.closeAllPulls.arb = s.arb := by
  simp [State.haltOff]

theorem State.haltEnded_applies (s : State) : s.haltEnded.arb.op = some .apply ↔ s.arb.op = some .apply := by
  refine (State.endServings_applies _ (s.haltOff.closeAllPulls.setCatchup ⟨[], 0, []⟩)).trans ?_
  rw [State.setCatchup_arb, s.haltOff_arb]

theorem State.haltEnded_abandons (s : State) (r : Region) : s.haltEnded.abandons r = s.abandons r := by
  refine (State.endServings_abandons _ (s.haltOff.closeAllPulls.setCatchup ⟨[], 0, []⟩) r).trans ?_
  rw [State.abandons, State.abandons, State.setCatchup_arb, s.haltOff_arb, State.setCatchup_port, State.closeAllPulls_port]
  simp [State.haltOff]

theorem State.haltEnded_owns (s : State) (r : Region) : s.haltEnded.owns r = s.owns r := by
  rw [State.owns, s.haltEnded_table, State.own, s.haltEnded_ctl]
  rfl

/-- Entry to HALTED, field by field: the halting station's blocks, and what it cleared (R167). -/
theorem State.halt_kept (s : State) (c : HaltCause) : ∃ t, s.halt c = (t.clearRoster).post (.halted c)
    ∧ HaltKept (s.haltEnded.setApplyQ s.haltEnded.applyInProgress) t
    ∧ (∀ q : Region, t.table[q] = if q ∈ s.haltEnded.applyCleared.map (·.region) then s.haltEnded.haltedEntry q
        else s.haltEnded.table[q])
    ∧ t.port.state = if ((s.haltEnded.applyCleared.map (·.region)).any fun r => s.owns r && s.abandons r) = true
        then .answer ⟨0x02, .notOwner, []⟩ else s.port.state := by
  have hstilled : (s.haltEnded.setApplyQ s.haltEnded.applyInProgress).stilled := s.haltEnded_stilled
  refine ⟨_, s.halt_eq c, State.haltRegions_kept _ hstilled, fun q => State.haltRegions_read _ hstilled q, ?_⟩
  rw [State.haltRegions_port _ hstilled]
  have hmine (r : Region) : ((s.haltEnded.setApplyQ s.haltEnded.applyInProgress).owns r
      && (s.haltEnded.setApplyQ s.haltEnded.applyInProgress).abandons r) = (s.owns r && s.abandons r) := by
    rw [← s.haltEnded_owns, ← s.haltEnded_abandons]
    rfl
  simp only [hmine]
  rw [State.setApplyQ_port, s.haltEnded_rest.2.2.1]

theorem State.halt_clear (s : State) (c : HaltCause) : (s.halt c).haltedClear := by
  obtain ⟨t, ht, hkept, -, -⟩ := s.halt_kept c
  obtain ⟨-, hentries, hreserved, hfence, hcatchup, hserving⟩ := hkept.stilled
  have hctl := hkept.ctl.trans (State.setApplyQ_ctl _ _ |>.trans s.haltEnded_ctl)
  have hline := hkept.line.trans (State.setApplyQ_line _ _ |>.trans s.haltEnded_rest.1)
  have hsweep := hkept.sweep.trans s.haltEnded_out.2.2.2.2
  have hclaim := hkept.hostClaim.trans s.haltEnded_out.2.2.1
  rw [ht]
  refine ⟨?_, ?_, ?_, fun n => ?_, ?_, ?_, ?_, ?_, hentries, hreserved, hfence, hclaim, ?_, ?_, hcatchup, hserving, fun n => ?_, rfl⟩
  · show t.ctl.state = _; rw [hctl]
  · show t.line.slot = _; rw [hline]
  · show t.line.rx = _; rw [hline]
  · show t.line.strangers[n] = _; rw [hline]; exact Vector.getElem_replicate n.isLt
  · show t.ctl.beaconTimer = _; rw [hctl]
  · show t.ctl.beaconDue = _; rw [hctl]
  · show t.ctl.listenTimer = _; rw [hctl]
  · show t.ctl.leaveTimer = _; rw [hctl]
  · show t.out.sweep.phase = _; rw [hsweep]
  · show t.out.sweep.outstanding = _; rw [hsweep]
  · exact Vector.getElem_replicate n.isLt

theorem State.halt_events (s : State) (c : HaltCause) : (s.halt c).events = postTo s.events (.halted c) := by
  obtain ⟨t, ht, hkept, -, -⟩ := s.halt_kept c
  have hevents : t.events = s.events := hkept.events.trans s.haltEnded_events
  rw [ht, State.events_post, State.clearRoster_events, hevents]

theorem State.halt_line (s : State) (c : HaltCause) : (s.halt c).line
    = { s.line with slot := none, rx := none, syncing := false, strangers := Vector.replicate 16 none } := by
  obtain ⟨t, ht, hkept, -, -⟩ := s.halt_kept c
  rw [ht]
  exact hkept.line.trans s.haltEnded_rest.1

/-- The number of Apply Queue entries that a write in progress keeps from being cleared (R141). -/
def State.writing (s : State) : Nat := if s.arb.op = some .apply then 1 else 0

theorem State.haltEnded_applyInProgress (s : State) : s.haltEnded.applyInProgress = s.applyQ.take s.writing := by
  rw [State.applyInProgress, s.haltEnded_rest.2.1, State.writing]
  by_cases h : s.arb.op = some .apply
  · rw [if_pos (s.haltEnded_applies.2 h), if_pos h]
  · rw [if_neg (mt s.haltEnded_applies.1 h), if_neg h, List.take_zero]

theorem State.haltEnded_applyCleared (s : State) : s.haltEnded.applyCleared = s.applyQ.drop s.writing := by
  rw [State.applyCleared, s.haltEnded_rest.2.1, State.writing]
  by_cases h : s.arb.op = some .apply
  · rw [if_pos (s.haltEnded_applies.2 h), if_pos h]
  · rw [if_neg (mt s.haltEnded_applies.1 h), if_neg h, List.drop_zero]

theorem State.abandons_iff (s : State) (r : Region) :
    s.abandons r = true ↔ ∃ w, s.port.state = .working (.write w) ∧ w.region = r ∧ s.arb.op ≠ some .hostWrite := by
  rw [State.abandons]
  split
  next w hw =>
    rw [Bool.and_eq_true, beq_iff_eq, bne_iff_ne]
    refine ⟨fun h => ⟨w, hw, h⟩, fun ⟨x, hx, h⟩ => ?_⟩
    rw [hw] at hx
    cases hx
    exact h
  next hno => exact ⟨fun h => absurd h Bool.false_ne_true, fun ⟨w, hw, _⟩ => absurd hw (hno w)⟩

theorem State.pullClosed_of_fetching {s : State} {q : Region} {k : Cause} {p : PullRecord} (hcopy : s.table[q].copy = .fetching k)
    (hp : s.pullOf q = some p) : (s.pullClosed q).copy = .stale (if p.taken then .damaged else k) := by
  rw [State.pullClosed, hp]
  dsimp only
  rw [hcopy]
  rfl

theorem State.pullClosed_of_not_fetching {s : State} {q : Region} (hcopy : ∀ k, s.table[q].copy ≠ .fetching k) :
    s.pullClosed q = s.table[q] := by
  have hclosed (taken : Bool) : closedCopy taken s.table[q].copy = s.table[q].copy := by
    cases h : s.table[q].copy with
    | fetching k => exact absurd h (hcopy k)
    | current => rfl
    | stale c => rfl
  rw [State.pullClosed]
  cases s.pullOf q with
  | none => rfl
  | some p => dsimp only; rw [hclosed]

/-- The entry of a region whose Apply Queue entry the halt cleared; `mine` says that the station owned it (R167 step 5). -/
def RegionEntry.haltedTo (mine : Bool) (e : RegionEntry) : RegionEntry :=
  if mine = true then { e.clearFlags with owner := none, copy := .stale .damaged } else { e with copy := .stale .damaged }

theorem RegionEntry.haltedTo_copy (mine : Bool) (e : RegionEntry) : (e.haltedTo mine).copy = .stale .damaged := by
  cases mine <;> rfl

theorem RegionEntry.haltedTo_kept (mine : Bool) (e : RegionEntry) :
    (e.haltedTo mine).stamp = e.stamp ∧ (e.haltedTo mine).held = e.held := by
  cases mine <;> exact ⟨rfl, rfl⟩

theorem RegionEntry.haltedTo_votePending (mine : Bool) {e : RegionEntry} (h : e.votePending = false) :
    (e.haltedTo mine).votePending = false := by
  cases mine
  · exact h
  · rfl

theorem State.halt_from (s : State) (c : HaltCause) : s.haltedFrom (s.halt c) := by
  obtain ⟨t, ht, hkept, htable, hport⟩ := s.halt_kept c
  rw [ht]
  let cleared (r : Region) : Prop := ∃ e ∈ s.applyQ.drop s.writing, e.region = r
  have hcleared (r : Region) : r ∈ s.haltEnded.applyCleared.map (·.region) ↔ cleared r := by
    rw [s.haltEnded_applyCleared, List.mem_map]
  have howned (r : Region) : s.haltEnded.haltedEntry r = s.haltEnded.table[r].haltedTo (s.owns r) := by
    rw [State.haltedEntry, s.haltEnded_owns, RegionEntry.haltedTo]
  have hcase (r : Region) (h : cleared r) : ((t.clearRoster).post (.halted c)).table[r] = s.haltEnded.haltedEntry r :=
    (htable r).trans (if_pos ((hcleared r).2 h))
  have helse (r : Region) (h : ¬ cleared r) : ((t.clearRoster).post (.halted c)).table[r] = s.haltEnded.table[r] :=
    (htable r).trans (if_neg (mt (hcleared r).1 h))
  have hout (r : Region) (h : ¬ cleared r ∨ s.owns r = false) : ∃ copy, ((t.clearRoster).post (.halted c)).table[r]
      = { s.haltEnded.table[r] with copy := copy } := by
    by_cases hc : cleared r
    · rw [hcase r hc, howned, h.resolve_left (not_not_intro hc)]
      exact ⟨.stale .damaged, rfl⟩
    · rw [helse r hc]
      exact ⟨s.haltEnded.table[r].copy, rfl⟩
  have hended := s.haltEnded_table
  refine ⟨?queue, fun r => ⟨?stamp, ?held, fun h => ?damaged, fun h k p hcopy hp => ?closed, fun h hcopy => ?stays,
    fun h howns => ?disowned, fun h => ?flags⟩, fun f bit hrx => ?vote, fun w hw h howns hop => ?turned, fun hw => ?portStays, ?array⟩
  case queue => exact hkept.applyQ.trans s.haltEnded_applyInProgress
  case stamp =>
    by_cases h : cleared r
    · rw [hcase r h, howned, (RegionEntry.haltedTo_kept _ _).1, hended]
      rfl
    · rw [helse r h, hended]
      rfl
  case held =>
    by_cases h : cleared r
    · rw [hcase r h, howned, (RegionEntry.haltedTo_kept _ _).2, hended]
      rfl
    · rw [helse r h, hended]
      rfl
  case damaged =>
    rw [hcase r h, howned, RegionEntry.haltedTo_copy]
  case closed =>
    rw [helse r h, hended]
    exact State.pullClosed_of_fetching hcopy hp
  case stays =>
    rw [helse r h, hended]
    exact (congrArg RegionEntry.copy (State.pullClosed_of_not_fetching hcopy) :)
  case disowned =>
    rw [hcase r h, howned, howns]
    exact ⟨rfl, rfl, rfl, rfl⟩
  case flags =>
    obtain ⟨copy, hcopy⟩ := hout r h
    have hserved : s.served r = (s.servingOf r).isSome := by
      cases hv : s.served r with
      | false => rw [(s.servingOf_eq_none_iff r).2 hv]; rfl
      | true =>
        obtain ⟨v, hsome⟩ := Option.ne_none_iff_exists'.1 (mt (s.servingOf_eq_none_iff r).1 (by simp [hv]))
        rw [hsome]
        rfl
    rw [hcopy, hended, hserved]
    exact ⟨rfl, rfl, rfl, fun hclaim => State.dropFrame_votePending hclaim⟩
  case vote =>
    have hended' : s.haltEnded.table[f.region].votePending = false := by
      rw [hended]
      exact State.dropFrame_vote_ended hrx
    by_cases h : cleared f.region
    · rw [hcase _ h, howned]
      exact RegionEntry.haltedTo_votePending _ hended'
    · rw [helse _ h]
      exact hended'
  case turned =>
    refine hport.trans (if_pos (List.any_eq_true.2 ⟨w.region, (hcleared w.region).2 h, ?_⟩))
    rw [howns, (s.abandons_iff w.region).2 ⟨w, hw, rfl, hop⟩]
    rfl
  case portStays =>
    refine hport.trans (if_neg ?_)
    rw [List.any_eq_true]
    rintro ⟨r, hr, hboth⟩
    obtain ⟨howns, habandons⟩ := (Bool.and_eq_true _ _).mp hboth
    obtain ⟨w, hwrite, hregion, hop⟩ := (s.abandons_iff r).1 habandons
    subst hregion
    rcases hw w hwrite with h | h | h
    · exact h ((hcleared _).1 hr)
    · rw [h] at howns
      cases howns
    · exact hop h
  case array => exact hkept.array.trans s.haltEnded_rest.2.2.2

end Sys2Proof.Machine
end

section
/-! SUPPORT. A frame at this station (R29 to R32, R35, R156, R157). -/

namespace Sys2Proof.Machine

-- One proof at a time: the proofs that wait for each other would hold the memory of the whole text.
set_option Elab.async false

/-! ### The array after entry to HALTED -/

/-- A grant changes no serving record where there is none (R136). -/
theorem State.arbitrate_serving_of_nil {s : State} (h : s.serving = []) : s.arbitrate.serving = [] := by
  have hnone : s.waitingRead = none := s.waitingRead_none_iff.2 fun v hv => absurd hv (by simp [h])
  rw [State.arbitrate]
  split
  · exact h
  · rw [State.choice, hnone]
    dsimp only
    split
    next => exact h
    next => exact s.grantHost_serving.trans h
    next => exact s.grantHead_serving.trans h
    next v hchoice => split at hchoice <;> [skip; split at hchoice] <;> cases hchoice

theorem State.haltedClear_arbitrate {t : State} (h : t.haltedClear) : t.arbitrate.haltedClear := by
  rw [State.haltedClear] at h ⊢
  rw [State.arbitrate_ctl, State.arbitrate_line, State.arbitrate_out, State.arbitrate_catchup, State.arbitrate_roster]
  obtain ⟨hstate, hslot, hrx, hstrangers, hbeacon, hdue, hlisten, hleave, hentries, hreserved, hfence, hclaim, hphase, houtstanding,
    hcatchup, hserving, hroster⟩ := h
  exact ⟨hstate, hslot, hrx, hstrangers, hbeacon, hdue, hlisten, hleave, hentries, hreserved, hfence, hclaim, hphase, houtstanding,
    hcatchup, State.arbitrate_serving_of_nil hserving, hroster⟩

theorem State.haltedFrom_arbitrate {s t : State} (h : s.haltedFrom t) : s.haltedFrom t.arbitrate := by
  rw [State.haltedFrom] at h ⊢
  rw [State.arbitrate_applyQ, State.arbitrate_table, State.arbitrate_port, State.arbitrate_nv_array]
  exact h

/-! ### The station state through the handing on -/

theorem State.quorumCheck_listening (s : State) : s.quorumCheck.ctl.state = .listening ↔ s.ctl.state = .listening := by
  unfold State.quorumCheck
  split
  next h => simp [h.1, State.setState]
  split
  next h => simp [h.1, State.setState]
  · rfl

theorem State.quorumCheck_onLine (s : State) : s.quorumCheck.ctl.state.onLine = s.ctl.state.onLine := by
  unfold State.quorumCheck
  split
  next h => simp [h.1, State.setState, StationState.onLine]
  split
  next h => simp [h.1, State.setState, StationState.onLine]
  · rfl

theorem State.statusChange_listening (s : State) (n : Station) (st : Presence) :
    (s.statusChange n st).ctl.state = .listening ↔ s.ctl.state = .listening := by
  by_cases h : s.statusOf n = st
  · rw [s.statusChange_of_same h]
  · rw [(s.statusChange_quiet h).1]
    exact State.quorumCheck_listening _

theorem State.statusChange_onLine (s : State) (n : Station) (st : Presence) :
    (s.statusChange n st).ctl.state.onLine = s.ctl.state.onLine := by
  by_cases h : s.statusOf n = st
  · rw [s.statusChange_of_same h]
  · rw [(s.statusChange_quiet h).1]
    exact State.quorumCheck_onLine _

theorem State.followFrame_listening (s : State) (f : Frame) :
    (s.followFrame f).ctl.state = .listening ↔ s.ctl.state = .listening := by
  unfold State.followFrame
  split
  · exact s.statusChange_listening _ _
  · rfl

theorem State.followFrame_onLine (s : State) (f : Frame) : (s.followFrame f).ctl.state.onLine = s.ctl.state.onLine := by
  unfold State.followFrame
  split
  · exact s.statusChange_onLine _ _
  · rfl

theorem State.rosterHandoff_listening (s : State) (f : Frame) :
    (s.rosterHandoff f).ctl.state = .listening ↔ s.ctl.state = .listening := by
  rw [s.rosterHandoff_eq, State.checkMembers_ctl]
  exact State.followFrame_listening _ f

theorem State.handOn_onLine (s : State) (f : Frame) : (s.handOn f).ctl.state.onLine = s.ctl.state.onLine := by
  rw [State.handOn, State.listenIfListening_ctl_state, State.restartAnswer_ctl, s.rosterHandoff_eq, State.checkMembers_ctl]
  exact State.followFrame_onLine _ f

theorem State.restartAnswer_listening (s : State) (f : Frame) :
    ((s.rosterHandoff f).restartAnswer f).ctl.state = .listening ↔ s.ctl.state = .listening := by
  rw [State.restartAnswer_ctl]
  exact s.rosterHandoff_listening f

theorem State.handOn_of_not_listening {s : State} (f : Frame) (h : s.ctl.state ≠ .listening) :
    s.handOn f = (s.rosterHandoff f).restartAnswer f := by
  rw [State.handOn, State.listenIfListening, if_neg (mt (s.restartAnswer_listening f).1 h)]

theorem State.handOn_of_listening {s : State} (f : Frame) (h : s.ctl.state = .listening) :
    s.handOn f = ((s.rosterHandoff f).restartAnswer f).listen f := by
  rw [State.handOn, State.listenIfListening, if_pos ((s.restartAnswer_listening f).2 h)]

/-! ### A frame found (R29 to R32) -/

/-- Every reception row is `State.receive` with the ack point of its frame's kind. -/
theorem exec_receptionOf {s : State} (f : Frame) (g : Bool) (h : s.power = .on) :
    exec (receptionOf g f) s = .next (s.receive f (ackPoint g f)) := by
  cases f <;> exact congrArg Host.Outcome.next (State.whenOn_of_on _ h)

theorem exec_frameEndLost_some {s : State} (f : Frame) (h : s.power = .on) :
    exec (.frameEndLost (some f)) s = .next (s.found f State.settle) := congrArg Host.Outcome.next (State.whenOn_of_on _ h)

theorem exec_frameEndLost_none {s : State} (h : s.power = .on) (hrx : s.line.rx.isSome = true) :
    exec (.frameEndLost none) s = .next s.dropFrame := by
  show Host.Outcome.next _ = _
  rw [State.whenOn_of_on _ h]
  exact congrArg Host.Outcome.next (if_pos hrx)

theorem State.found_of_not_heard {s : State} {f : Frame} (k : State → State) (h : s.canReceive = false ∨ f.inRange = false) :
    s.found f k = s := by
  rw [State.found, if_pos]
  rcases h with h | h <;> simp [h]

theorem State.found_of_heard {s : State} {f : Frame} (k : State → State) (hcan : s.canReceive = true) (hrange : f.inRange = true) :
    s.found f k = if f.origin = s.own then s.ownNumberHeard f
      else if !s.isMember f.origin then s.strangerHeard f.origin else k (s.handOn f) := by
  rw [State.found, if_neg (by simp [hcan, hrange])]

theorem State.found_of_own {s : State} {f : Frame} (k : State → State) (hcan : s.canReceive = true) (hrange : f.inRange = true)
    (hown : f.origin = s.own) : s.found f k = s.ownNumberHeard f := by
  rw [State.found_of_heard k hcan hrange, if_pos hown]

theorem State.found_of_stranger {s : State} {f : Frame} (k : State → State) (hcan : s.canReceive = true) (hrange : f.inRange = true)
    (hother : f.origin ≠ s.own) (hmember : s.isMember f.origin = false) : s.found f k = s.strangerHeard f.origin := by
  rw [State.found_of_heard k hcan hrange, if_neg hother, if_pos (by simp [hmember])]

/-- A station that hears a frame hands it on, and goes on from there (R32). -/
theorem State.found_of_hears {s : State} {f : Frame} (k : State → State) (h : s.hears f) : s.found f k = k (s.handOn f) := by
  obtain ⟨-, hcan, hrange, hother, hmember⟩ := h
  rw [State.found_of_heard k hcan hrange, if_neg hother, if_neg (by simp [hmember])]

theorem State.canReceive_receives {s : State} (h : s.canReceive = true) : s.ctl.state.receives = true := by
  simp only [State.canReceive, Bool.and_eq_true] at h
  exact h.1.1.1

theorem State.ownNumberHeard_of_listening {s : State} (f : Frame) (h : s.ctl.state = .listening) :
    s.ownNumberHeard f = match f with
      | .beacon _ => { s with ctl := { s.ctl with duplicateHeard := true } }
      | .claim _ | .pull _ | .update _ | .image _ => s := by
  rw [State.ownNumberHeard.eq_def, if_pos h]
  cases f <;> rfl

theorem State.ownNumberHeard_of_not_listening {s : State} (f : Frame) (h : s.ctl.state ≠ .listening) :
    s.ownNumberHeard f = (s.halt .duplicate).arbitrate := by
  rw [State.ownNumberHeard.eq_def, if_neg h]

theorem State.postStranger_eq (s : State) (n : Station) : s.postStranger n = { s with
    events := if s.line.strangers[n] = none then postTo s.events (.stranger n) else s.events } := by
  rw [State.postStranger]
  by_cases h : s.line.strangers[n] = none
  · rw [if_pos (by rw [h]; rfl), if_pos h]; rfl
  · rw [if_neg (by rw [Option.isNone_iff_eq_none]; exact h), if_neg h]

theorem State.strangerHeard_eq (s : State) (n : Station) : s.strangerHeard n = { s with
    events := if s.line.strangers[n] = none then postTo s.events (.stranger n) else s.events
    line := { s.line with strangers := s.line.strangers.set n (some 0) } } := by
  rw [State.strangerHeard, s.postStranger_eq]
  rfl

theorem State.dropFrame_of_rx {s : State} (f : Frame) (bit acked : Bool) : s.line.rx = some ⟨f, bit, acked⟩ →
    s.dropFrame = match f, acked with
      | .claim c, true => State.setEntry { s with line := { s.line with rx := none } } c.region
          { s.table[c.region] with votePending := false }
      | _, _ => { s with line := { s.line with rx := none } } := by
  intro h
  rw [State.dropFrame, h]
  cases f <;> cases acked <;> rfl

/-- Settles O39: the rows go through `State.found`, whose branches are the cases; the halt is R167's. -/
theorem framesFoundIntact : Obligations.FramesFoundIntact := by
  intro s f g hon
  rw [exec_receptionOf f g hon, exec_frameEndLost_some f hon, State.receive]
  refine ⟨fun h => ?unheard, fun hcan hrange hown => ?own, fun hcan hrange hother hmember => ?stranger, fun hhears => ?member,
    s.rosterHandoff_listening f, fun hst => ?online, fun hst => ?listening, fun bit acked hrx => ?lost⟩
  case unheard => exact ⟨by rw [State.found_of_not_heard _ h], by rw [State.found_of_not_heard _ h]⟩
  case own =>
    rw [State.found_of_own _ hcan hrange hown, State.found_of_own _ hcan hrange hown]
    refine ⟨fun hst => congrArg Host.Outcome.next (State.ownNumberHeard_of_listening f hst |>.trans (by cases f <;> rfl)), rfl, fun hst =>
      ⟨_, rfl, ?_⟩⟩
    rw [State.ownNumberHeard_of_not_listening f hst]
    exact ⟨State.haltedClear_arbitrate (s.halt_clear _), State.haltedFrom_arbitrate (s.halt_from _),
      (State.arbitrate_events _).trans (s.halt_events _)⟩
  case stranger =>
    have hrow : exec (.strangerFrame f.origin) s = .next (s.strangerHeard f.origin) := by
      show Host.Outcome.next _ = _
      rw [State.whenOn_of_on _ hon, if_pos (by simp [hcan, hmember, hother])]
    rw [State.found_of_stranger _ hcan hrange hother hmember, State.found_of_stranger _ hcan hrange hother hmember, hrow]
    exact ⟨rfl, rfl, by rw [State.strangerHeard_eq]⟩
  case member =>
    rw [State.found_of_hears _ hhears, State.found_of_hears _ hhears]
    have hreceives := State.canReceive_receives hhears.2.1
    refine ⟨fun hst => ?_, fun hst => ?_, rfl⟩
    · rw [if_neg (by rw [s.handOn_onLine, hst]; simp [StationState.onLine])]
      rfl
    · rw [if_pos]
      · rfl
      · rw [s.handOn_onLine]
        cases hs : s.ctl.state <;> simp_all [StationState.onLine, StationState.receives]
  case online =>
    rw [State.handOn_of_not_listening f hst]
    cases f <;> rfl
  case listening =>
    rw [State.handOn_of_listening f hst]
    cases f with
    | beacon | claim | pull | image => rfl
    | update u =>
      show State.markIfBehind _ u = _
      rw [State.markIfBehind]
      simp only [Bool.and_eq_true]
      rfl
  case lost =>
    rw [exec_frameEndLost_none hon (by rw [hrx]; rfl), State.dropFrame_of_rx f bit acked hrx] <;>
      cases f <;> cases acked <;> rfl

end Sys2Proof.Machine
end

section
/-! SUPPORT. Attempts that do not reach frame end (R26, R28, R36, R37). -/

namespace Sys2Proof.Machine

-- One proof at a time: the proofs that wait for each other would hold the memory of the whole text.
set_option Elab.async false

/-! ### Entry to HALTED from a state that differs in other blocks -/

/-- What entry to HALTED reads of the regions, the Apply Queue and the Host Port stands as it stood in `s` (R167). -/
structure HaltsAs (s u : State) : Prop where
  applyQ : u.applyQ = s.applyQ
  table : u.table = s.table
  number : u.ctl.number = s.ctl.number
  serving : u.serving = s.serving
  arb : u.arb = s.arb
  rx : u.line.rx = s.line.rx
  port : u.port = s.port
  nv : u.nv = s.nv
  taken : ∀ r p, s.pullOf r = some p → ∃ q, u.pullOf r = some q ∧ q.taken = p.taken

theorem HaltsAs.haltedFrom {s u t : State} (h : HaltsAs s u) (hu : u.haltedFrom t) : s.haltedFrom t := by
  have howns (r : Region) : u.owns r = s.owns r := by
    rw [State.owns, State.owns, State.own, State.own, h.table, h.number]
  have hserving (r : Region) : u.servingOf r = s.servingOf r := by rw [State.servingOf, State.servingOf, h.serving]
  simp only [State.haltedFrom, howns, hserving, h.applyQ, h.table, h.arb, h.rx, h.port, h.nv] at hu ⊢
  obtain ⟨hqueue, hregions, hrest⟩ := hu
  refine ⟨hqueue, fun r => ?_, hrest⟩
  obtain ⟨hstamp, hheld, hcleared, hclosed, hstays⟩ := hregions r
  refine ⟨hstamp, hheld, hcleared, fun hno k p hcopy hp => ?_, hstays⟩
  obtain ⟨q, hq, htaken⟩ := h.taken r p hp
  rw [hclosed hno k q hcopy hq, htaken]

/-- What follows an attempt is the arbiter alone once the station is HALTED. -/
theorem State.haltedClear_afterAttempt {t : State} (h : t.haltedClear) : t.afterAttempt = t.arbitrate := by
  obtain ⟨hstate, -, -, -, -, -, -, -, -, -, -, -, -, -, hcatchup, hserving, -⟩ := h
  have hopen : t.openPulls = t :=
    t.openPulls_of_not_working (by rw [hstate]; rfl) (by rw [hcatchup])
  have hread : t.requestReads = t := by rw [State.requestReads, hserving]; rfl
  rw [State.afterAttempt_of_not_leaving (by rw [hstate]; simp), State.resume, hopen, hread]

/-! ### The entry or the beacon after an attempt that was lost (R26) -/

theorem State.attemptLost_line (s : State) (t : TxSlot) : (s.attemptLost t).line = { s.line with slot := none } := by
  unfold State.attemptLost State.returnBeacon
  split
  · split <;> rfl
  all_goals exact State.returnSending_line _

theorem State.attemptLost_number (s : State) (t : TxSlot) : (s.attemptLost t).ctl.number = s.ctl.number := by
  unfold State.attemptLost State.returnBeacon
  split
  · split <;> rfl
  all_goals exact State.returnSending_ctl_number _

theorem State.attemptLost_of_entry {s : State} {f : Frame} (w : Option Region) (h : ∀ b, f ≠ .beacon b) :
    s.attemptLost ⟨f, w⟩ = (s.mapLine ({ · with slot := none })).returnSending := by
  rw [State.attemptLost]
  cases f with
  | beacon b => exact absurd rfl (h b)
  | claim | pull | update | image => rfl

theorem map_waiting (es : List OutEntry) :
    es.map (fun x => if x.sending = true then { x with sending := false } else x) = es.map (fun x => { x with sending := false }) := by
  refine List.map_congr_left fun x _ => ?_
  split
  next => rfl
  next h => rw [← Bool.eq_false_iff.2 h]

/-- An entry whose removal was not asked for is WAITING again in its place (R26). -/
theorem State.attemptLost_of_kept {s : State} {f : Frame} (w : Option Region) (hf : ∀ b, f ≠ .beacon b)
    (h : ∀ x, s.sendingEntry = some x → x.doom = .none) : s.attemptLost ⟨f, w⟩ = { s with
      line := { s.line with slot := none }
      out := { s.out with entries := s.out.entries.map (fun x => { x with sending := false }) } } := by
  rw [State.attemptLost_of_entry w hf, State.returnSending]
  split
  next hnone =>
    have hwaiting (x : OutEntry) (hx : x ∈ s.out.entries) : { x with sending := false } = x := by
      rw [← Bool.eq_false_iff.2 (List.find?_eq_none.1 (show s.out.entries.find? OutEntry.sending = none from hnone) x hx)]
    rw [List.map_congr_left (g := id) hwaiting, List.map_id]
    rfl
  next x hx =>
    rw [if_pos (by rw [h x hx]; rfl), ← map_waiting]
    rfl

/-- An entry whose removal was asked for leaves, and the fence is looked at (R26, R67, R84). -/
theorem State.attemptLost_of_doomed {s : State} {f : Frame} (w : Option Region) (hf : ∀ b, f ≠ .beacon b)
    {before after : List OutEntry} {x : OutEntry} (hsplit : s.out.entries = before ++ x :: after)
    (hrest : ∀ y ∈ before ++ after, y.sending = false) (hx : x.sending = true) (hdoom : x.doom ≠ .none) :
    s.attemptLost ⟨f, w⟩ = (State.departed { s with
        line := { s.line with slot := none }, out := { s.out with entries := before ++ after } } (x.doom == .cut) x).checkFence := by
  have hsending : (s.mapLine ({ · with slot := none })).sendingEntry = some x := State.sendingEntry_of_split hsplit hrest hx
  rw [State.attemptLost_of_entry w hf, State.returnSending, hsending]
  dsimp only
  rw [if_neg (by simpa using hdoom), State.removeSending, State.mapOut,
    show (s.mapLine ({ · with slot := none })).out.entries = before ++ x :: after from hsplit, removeSending_entries hrest hx]
  rfl

/-! ### The answer timer at a fault of the own PULL (R21, R36, R115) -/

/-- A fault leaves the answer timers, or it is one of an own PULL in the tail, where a free value decides (log 38). -/
theorem State.answerAfterFault_cases (s : State) (place : FaultPlace) (f : Frame) : s.answerAfterFault place f = s
    ∨ (∃ g, f = .pull g) ∧ ∃ p, s.pullBeingSent = some p
      ∧ s.answerAfterFault place f = (if Config.freeBit s.free then s.putPull p.awaitAnswer else s).setFree (s.free + 1) := by
  cases hp : s.pullBeingSent with
  | none => left; rw [State.answerAfterFault.eq_def, hp]; cases place <;> cases f <;> rfl
  | some p =>
    cases place with
    | content => exact .inl rfl
    | tail =>
      cases f with
      | beacon | claim | update | image => exact .inl rfl
      | pull g => exact .inr ⟨⟨g, rfl⟩, p, rfl, by rw [State.answerAfterFault.eq_def, hp]⟩

theorem State.pullBeingSent_eq_some {s : State} {p : PullRecord} (h : s.pullBeingSent = some p) :
    ∃ r force sending, s.sendingEntry = some ⟨r, .pull force, sending, .none⟩ ∧ s.pullOf r = some p := by
  rw [State.pullBeingSent] at h
  split at h
  next r force sending hsending => exact ⟨r, force, sending, hsending, h⟩
  next => cases h

/-- A pull record put in its place leaves the chunk taken of every record (R115). -/
theorem State.putPull_awaitAnswer_taken {s : State} {p : PullRecord} (hp : s.pullOf p.region = some p) (r : Region) (q : PullRecord)
    (hq : s.pullOf r = some q) : ∃ q', (s.putPull p.awaitAnswer).pullOf r = some q' ∧ q'.taken = q.taken := by
  have hregion (x : PullRecord) : ((if x.region = p.region then p.awaitAnswer else x).region == r) = (x.region == r) := by
    split
    next h => rw [h]; rfl
    next => rfl
  refine ⟨if q.region = p.region then p.awaitAnswer else q, ?_, ?_⟩
  · show (s.catchup.pulls.map fun x => if x.region = p.region then p.awaitAnswer else x).find? _ = _
    rw [List.find?_map, show ((fun x : PullRecord => x.region == r) ∘ fun x => if x.region = p.region then p.awaitAnswer else x)
      = fun x => x.region == r from funext hregion]
    rw [State.pullOf] at hq
    rw [hq]
    rfl
  · split
    next h =>
      have hsame : q = p := by
        rw [← State.pullOf_region hq, h, hp] at hq
        exact (Option.some.inj hq).symm
      rw [hsame]
      rfl
    next => rfl

theorem State.answerAfterFault_haltsAs (s : State) (place : FaultPlace) (f : Frame) : HaltsAs s (s.answerAfterFault place f) := by
  rcases s.answerAfterFault_cases place f with h | ⟨-, p, hp, h⟩
  · rw [h]
    exact ⟨rfl, rfl, rfl, rfl, rfl, rfl, rfl, rfl, fun _ q hq => ⟨q, hq, rfl⟩⟩
  · obtain ⟨r, _, _, -, hpull⟩ := State.pullBeingSent_eq_some hp
    have hregion : p.region = r := State.pullOf_region hpull
    subst hregion
    rw [h]
    split
    · exact ⟨rfl, rfl, rfl, rfl, rfl, rfl, rfl, rfl, State.putPull_awaitAnswer_taken hpull⟩
    · exact ⟨rfl, rfl, rfl, rfl, rfl, rfl, rfl, rfl, fun _ q hq => ⟨q, hq, rfl⟩⟩

theorem State.attemptLost_haltsAs {s u : State} (h : HaltsAs s u) (t : TxSlot) (n : Nat) :
    HaltsAs s ((u.attemptLost t).mapLine ({ · with faults := n })) where
  applyQ := (u.attemptLost_applyQ t).trans h.applyQ
  table := (u.attemptLost_table t).trans h.table
  number := (u.attemptLost_number t).trans h.number
  serving := (u.attemptLost_serving t).trans h.serving
  arb := (u.attemptLost_arb t).trans h.arb
  rx := (congrArg Line.rx (u.attemptLost_line t)).trans h.rx
  port := (u.attemptLost_port t).trans h.port
  nv := (u.attemptLost_nv t).trans h.nv
  taken := fun r p hp => by
    obtain ⟨q, hq, htaken⟩ := h.taken r p hp
    refine ⟨q, ?_, htaken⟩
    rw [← hq]
    exact congrArg (fun c => List.find? (fun p => p.region == r) c.pulls) (u.attemptLost_catchup t)

/-- A fault's free choice about the answer timer posts nothing (log 38). -/
theorem State.attemptLost_events_afterFault (s : State) (place : FaultPlace) (f : Frame) (w : Option Region) :
    ((s.answerAfterFault place f).attemptLost ⟨f, w⟩).events = (s.attemptLost ⟨f, w⟩).events := by
  rcases s.answerAfterFault_cases place f with h | ⟨⟨g, hg⟩, p, hp, -⟩
  · rw [h]
  · subst hg
    obtain ⟨r, force, sending, hsending, -⟩ := State.pullBeingSent_eq_some hp
    have hkept (x : OutEntry) (hx : s.sendingEntry = some x) : x.doom = .none := by
      rw [hsending] at hx
      cases hx
      rfl
    have hsame : (s.answerAfterFault place (.pull g)).sendingEntry = s.sendingEntry := by
      rw [State.sendingEntry, State.sendingEntry, State.answerAfterFault_out]
    rw [State.attemptLost_of_kept w (fun _ => by simp) hkept, State.attemptLost_of_kept w (fun _ => by simp) (hsame ▸ hkept)]
    exact s.answerAfterFault_events place _

/-! ### The fault count (R37) -/

theorem State.countFault_of_lt {s : State} (h : s.line.faults < 15) :
    s.countFault = { s with line := { s.line with faults := s.line.faults + 1 } } := by
  rw [State.countFault, if_pos (show s.line.faults + 1 < Config.faultLimit by rw [Config.faultLimit]; omega)]
  rfl

theorem State.countFault_of_ge {s : State} (h : 15 ≤ s.line.faults) :
    s.countFault = (s.mapLine ({ · with faults := 16 })).halt .lineFault := by
  rw [State.countFault, if_neg (show ¬ s.line.faults + 1 < Config.faultLimit by rw [Config.faultLimit]; omega)]
  rfl

/-! ### What follows a beacon's attempt while the Outbox drains or the leave timer runs (R163, R166) -/

theorem State.afterAttempt_of_leaving {t : State} (h : (t.ctl.leavePhase = .drain ∧ t.out.entries ≠ []) ∨
    (t.ctl.leavePhase = .final ∧ t.ctl.leaveTimer ≠ none)) : t.afterAttempt = t.resume := by
  have hdrain : t.drainEnd = t := by
    rw [State.drainEnd, if_neg]
    rintro ⟨-, hphase, hempty⟩
    rcases h with h | h
    · exact h.2 hempty
    · simp [h.1] at hphase
  have hfinal : t.finalEnd = t := by
    rw [State.finalEnd, if_neg]
    rintro ⟨-, hphase, htimer, -⟩
    rcases h with h | h
    · simp [h.1] at hphase
    · exact h.2 htimer
  rw [State.afterAttempt, hdrain, hfinal]

theorem State.attemptLost_of_beacon (s : State) (b : BeaconFrame) (w : Option Region) : s.attemptLost ⟨.beacon b, w⟩ =
    if s.ctl.state = .leaving ∧ b.mode ≠ .leaving then { s with line := { s.line with slot := none } }
    else { s with line := { s.line with slot := none }, ctl := { s.ctl with beaconDue := true } } := by
  rw [State.attemptLost]
  dsimp only
  rw [State.returnBeacon, show (s.mapLine ({ · with slot := none })).ctl = s.ctl from rfl]
  split <;> rfl

theorem exec_lostArbitration {s : State} {t : TxSlot} (hon : s.power = .on) (hslot : s.line.slot = some t) :
    exec .lostArbitration s = .next (s.attemptLost t).afterAttempt := by
  show Host.Outcome.next _ = _
  rw [State.whenOn_of_on _ hon, hslot]

theorem exec_lineFault {s : State} {t : TxSlot} (place : FaultPlace) (hon : s.power = .on) (hslot : s.line.slot = some t) :
    exec (.lineFault place) s = .next ((s.answerAfterFault place t.frame).attemptLost t).countFault.afterAttempt := by
  show Host.Outcome.next _ = _
  rw [State.whenOn_of_on _ hon, hslot]

theorem State.pullBeingSent_of_discarded {s : State} (h : ∀ x ∈ s.out.entries, x.sending = true → x.isPull = true →
    x.doom ≠ .none ∨ s.pullOf x.region = none) : s.pullBeingSent = none := by
  refine Option.eq_none_iff_forall_ne_some.2 fun p hp => ?_
  obtain ⟨r, force, sending, hsending, hpull⟩ := State.pullBeingSent_eq_some hp
  rcases h _ (List.mem_of_find?_eq_some hsending) (List.find?_some hsending) rfl with hdoom | hnone
  · exact hdoom rfl
  · rw [hnone] at hpull
    cases hpull

theorem State.attemptLost_departed {s : State} (r : Region) (body : EntryBody) (doom : Doom) (hdoom : doom ≠ .none) :
    (s.departed (doom == .cut) ⟨r, body, true, doom⟩) = { s with
      ctl := { s.ctl with discarded := if doom = .cut then s.ctl.discarded + 1 else s.ctl.discarded }
      out := match body with
        | .update x => { s.out with
            fence := if x.inFence = true then s.out.fence.map (fun y => { y with lost := y.lost + 1 }) else s.out.fence }
        | .claim .host => { s.out with hostClaim := none }
        | .claim .sweep => { s.out with sweep := { s.out.sweep with outstanding := none } }
        | .pull _ => s.out
        | .image _ => s.out } := by
  have hctl : s.ctl.countCut (doom == .cut)
      = { s.ctl with discarded := if doom = .cut then s.ctl.discarded + 1 else s.ctl.discarded } := by
    cases doom with
    | none => exact absurd rfl hdoom
    | cut | discard => rfl
  rw [State.departed, State.mapCtl, hctl, State.mapOut]
  cases body with
  | update u => cases hin : u.inFence <;> simp [State.setCtl, State.setOut, Outbox.without, hin]
  | claim source => cases source <;> rfl
  | pull | image => rfl

/-- Settles O38: the attempt's own end, then the count, then the halt of R167 or what follows an attempt. -/
theorem attemptWithoutFrameEnd : Obligations.AttemptWithoutFrameEnd := by
  intro s f w hon hslot
  have hline := s.attemptLost_line ⟨f, w⟩
  have hfaults (u : State) (hu : u.line = s.line) : (u.attemptLost ⟨f, w⟩).line.faults = s.line.faults := by
    rw [u.attemptLost_line, hu]
  have hrow (place : FaultPlace) (hcount : s.line.faults < 15) : exec (.lineFault place) s = .next (State.afterAttempt
      { (s.answerAfterFault place f).attemptLost ⟨f, w⟩ with
        line := { ((s.answerAfterFault place f).attemptLost ⟨f, w⟩).line with faults := s.line.faults + 1 } }) := by
    have hsame := hfaults (s.answerAfterFault place f) (s.answerAfterFault_line place f)
    rw [exec_lineFault place hon hslot, State.countFault_of_lt (by rw [hsame]; exact hcount), hsame]
  refine ⟨s.attemptLost ⟨f, w⟩, (s.answerAfterFault .tail f).attemptLost ⟨f, w⟩, exec_lostArbitration hon hslot,
    fun hcount => ⟨hrow .content hcount, hrow .tail hcount⟩, fun place hcount => ?halts, fun hno => ?noAnswer,
    fun g force before p after hf hp hsplit hbefore => ?answer, hline, fun b hb => ?beacon, fun hf hkept => ?kept,
    fun r body doom before after hf hsplit hrest hdoom => ?doomed⟩
  case halts =>
    have hsame := hfaults (s.answerAfterFault place f) (s.answerAfterFault_line place f)
    have hevents := s.attemptLost_events_afterFault place f w
    have hfrom := State.attemptLost_haltsAs (s.answerAfterFault_haltsAs place f) ⟨f, w⟩ 16
    have hexec := exec_lineFault place hon hslot
    rw [State.countFault_of_ge (by rw [hsame]; exact hcount), State.haltedClear_afterAttempt (State.halt_clear _ _)] at hexec
    refine ⟨_, hexec, State.haltedClear_arbitrate (State.halt_clear _ _),
      State.haltedFrom_arbitrate (hfrom.haltedFrom (State.halt_from _ _)), ?_, ?_⟩
    · rw [State.arbitrate_line, State.halt_line]
      rfl
    · rw [State.arbitrate_events, State.halt_events]
      exact congrArg (postTo · _) hevents
  case noAnswer =>
    rcases s.answerAfterFault_cases .tail f with h | ⟨⟨g, hg⟩, p, hp, -⟩
    · rw [h]
    · rcases hno with hno | hno
      · exact absurd hg (hno g)
      · rw [State.pullBeingSent_of_discarded hno] at hp
        cases hp
  case answer =>
    subst hf
    have hsending : s.sendingEntry = some ⟨p.region, .pull force, true, .none⟩ := by
      have hskip : before.find? OutEntry.sending = none := List.find?_eq_none.2 fun y hy => by simp [hbefore y hy]
      rw [State.sendingEntry, hsplit, List.find?_append, hskip]
      rfl
    have hsent : s.pullBeingSent = some p := by rw [State.pullBeingSent, hsending]; exact hp
    have hkept (u : State) (hu : u.out = s.out) (x : OutEntry) (hx : u.sendingEntry = some x) : x.doom = .none := by
      rw [State.sendingEntry, hu] at hx
      rw [State.sendingEntry] at hsending
      rw [hsending] at hx
      cases hx
      rfl
    have hfault : s.answerAfterFault .tail (.pull g)
        = (if Config.freeBit s.free then s.putPull p.awaitAnswer else s).setFree (s.free + 1) := by
      rw [State.answerAfterFault.eq_def, hsent]
    have hentry (b : BeaconFrame) : Frame.pull g ≠ .beacon b := by simp
    have hback := State.attemptLost_of_kept w hentry (hkept s rfl)
    rw [hfault, hback]
    split
    · right
      exact State.attemptLost_of_kept w hentry (hkept _ rfl)
    · left
      exact State.attemptLost_of_kept w hentry (hkept _ rfl)
  case beacon =>
    subst hb
    have hlost := s.attemptLost_of_beacon b w
    refine ⟨fun h => ?_, fun hst hmode => ?_, fun place hst hphase => ?_⟩
    · rw [hlost, if_neg]
      rintro ⟨hst, hmode⟩
      exact h.elim (fun h => h hst) hmode
    · rw [hlost, if_pos ⟨hst, hmode⟩]
    · intro ended
      have hfault : s.answerAfterFault place (.beacon b) = s := by cases place <;> rfl
      have hctl : (s.attemptLost ⟨.beacon b, w⟩).ctl = if b.mode = .leaving then { s.ctl with beaconDue := true } else s.ctl := by
        rw [hlost]
        by_cases hmode : b.mode = .leaving
        · rw [if_neg (fun h => h.2 hmode), if_pos hmode]
        · rw [if_pos ⟨hst, hmode⟩, if_neg hmode]
      have hout : (s.attemptLost ⟨.beacon b, w⟩).out = s.out := by rw [hlost]; split <;> rfl
      have hended (t : State) (hc : t.ctl = (s.attemptLost ⟨.beacon b, w⟩).ctl) (ho : t.out = s.out) (hl : t.line.slot = none) :
          ended t.afterAttempt := by
        have hresume : t.afterAttempt = t.resume := by
          refine State.afterAttempt_of_leaving ?_
          rw [hc, hctl, ho]
          split <;> exact hphase
        refine ⟨?_, ?_⟩
        · rw [hresume, State.resume_line, hl]
        · rw [hresume, State.resume_ctl, hc, hctl]
      refine ⟨⟨_, exec_lostArbitration hon hslot, hended _ rfl hout (by rw [hline])⟩, fun hcount => ⟨_, hrow place hcount, ?_⟩⟩
      rw [hfault]
      exact hended _ rfl hout (congrArg Line.slot hline)
  case kept =>
    exact State.attemptLost_of_kept w hf fun x hx => hkept x (List.mem_of_find?_eq_some hx) (List.find?_some hx)
  case doomed =>
    rw [State.attemptLost_of_doomed w hf hsplit hrest rfl hdoom, State.attemptLost_departed r body doom hdoom] <;>
      rfl

end Sys2Proof.Machine
end

section
/-! SUPPORT. JOIN and the end of the listen window (R155, R157, R158). -/

namespace Sys2Proof.Machine

-- One proof at a time: the proofs that wait for each other would hold the memory of the whole text.
set_option Elab.async false

/-- The station that listens (R155). -/
theorem State.startListening_eq (s : State) : s.startListening = { s with
    ctl := { s.ctl with state := .listening, duplicateHeard := false, listenTimer := some 0 }
    roster := ⟨Vector.replicate 16 RosterEntry.cleared, none, [], 0⟩
    line := { s.line with syncing := true, faults := 0 } } := rfl

/-- The station that has joined, before the sweep walks (R158). -/
def State.joinedAs (s : State) (st : StationState) : State :=
  (((s.mapCtl ({ · with
      state := st, listenTimer := none, beaconTimer := some 0, beaconDue := true, joining := true })).mapCatchup
    ({ · with list := s.staleRegions, parked := 0 })).setSweep (Sweep.start st)).post .joined

theorem State.joinComplete_of_quorum {s : State} (h : s.quorum ≤ s.quorumCount) :
    s.joinComplete = (s.joinedAs .active).sweepWalk := by
  have hst : s.quorumState = .active := if_pos h
  have hpost : (s.joinedAs .active).postIsolation = s.joinedAs .active := if_neg (by simp [State.joinedAs, State.mapCtl, State.setCtl,
    State.mapCatchup, State.setCatchup, State.setSweep, State.mapOut, State.setOut])
  rw [State.joinComplete, hst]
  exact congrArg State.sweepWalk hpost

theorem State.joinComplete_of_no_quorum {s : State} (h : s.quorumCount < s.quorum) :
    s.joinComplete = (s.joinedAs .isolated).post (.isolation true) := by
  have hst : s.quorumState = .isolated := if_neg (Nat.not_le.2 h)
  have hpost : (s.joinedAs .isolated).postIsolation = (s.joinedAs .isolated).post (.isolation true) := if_pos rfl
  rw [State.joinComplete, hst]
  exact (congrArg State.sweepWalk hpost).trans (State.sweepWalk_of_not _ (.inl SweepPhase.noConfusion))

/-- The row where its timer runs in LISTENING (R157, R158). -/
theorem exec_listenExpiry {s : State} (hon : s.power = .on) (hst : s.ctl.state = .listening) (htimer : s.ctl.listenTimer ≠ none) :
    exec .listenExpiry s
      = .next (if s.ctl.duplicateHeard then (s.halt .duplicate).arbitrate else s.joinComplete.resume) := by
  show Host.Outcome.next _ = _
  rw [State.whenOn_of_on _ hon, if_pos ⟨hst, Option.isSome_iff_ne_none.2 htimer⟩]

/-- Settles O23: LISTENING begins, and its end is the halt of R167 or the joined station whose sweep walks. -/
theorem joinAndListenWindow : Obligations.JoinAndListenWindow := by
  refine ⟨fun s hput => ⟨fun hst => ?refused, fun hst => ?taken⟩, fun s hon hst htimer => ⟨fun hdup => ?halts, fun hdup => ?joins⟩⟩
  case refused => rw [exec, execJoin, s.onPut_of_takesPut _ hput, if_pos (by exact hst)]
  case taken =>
    rw [exec, execJoin, s.onPut_of_takesPut _ hput, if_neg (by exact not_not_intro hst), State.startListening_eq]
    rfl
  case halts =>
    rw [exec_listenExpiry hon hst htimer, if_pos hdup]
    exact ⟨_, rfl, State.haltedClear_arbitrate (s.halt_clear _), State.haltedFrom_arbitrate (s.halt_from _),
      (State.arbitrate_events _).trans (s.halt_events _)⟩
  case joins =>
    intro stale joined active
    have hexec : exec .listenExpiry s = .next s.joinComplete.resume := by
      rw [exec_listenExpiry hon hst htimer, if_neg (Bool.eq_false_iff.1 hdup)]
    have hstale : stale = s.staleRegions := List.filter_congr fun r _ => by generalize s.table[r].copy = c; cases c <;> rfl
    have hactive : active = s.joinedAs .active := by
      simp only [active, joined, hstale]
      rfl
    refine ⟨fun hq => ?quorum, fun hq => ?alone⟩
    case quorum =>
      have hwalked : exec .listenExpiry s = .next active.sweepWalk.resume := by
        rw [hexec, State.joinComplete_of_quorum hq, hactive]
      refine ⟨hwalked, fun hfree => ?_, fun r hbelow hheld howns hhost hcopy hepoch => ?_⟩
      · rw [hwalked, State.sweepWalk_of_none_held active rfl rfl hfree]
        rfl
      · have hact := State.sweepAct_of_claimed (active.setSweep ⟨.running, r, none⟩) hheld howns hhost hcopy
          (mt (eq_epochCeiling_iff _).1 hepoch)
        rw [hwalked, State.sweepWalk_to active r rfl rfl (Fin.zero_le r) fun q _ hq => hbelow q hq,
          State.sweepWalk_of_off (active.setSweep ⟨.running, r, none⟩) rfl rfl (by rw [hact]), hact]
        rfl
    case alone =>
      rw [hexec, State.joinComplete_of_no_quorum hq]
      simp only [joined, hstale]
      rfl

end Sys2Proof.Machine
end

section
/-! SUPPORT. LEAVE, the cut of the drain, and the end of phase FINAL (R163 to R166). -/

namespace Sys2Proof.Machine

-- One proof at a time: the proofs that wait for each other would hold the memory of the whole text.
set_option Elab.async false

/-! ### The retained regions and the arbiter after serving records end and pulls close (R8, R127) -/

theorem State.endServing_unwritten (s : State) (r q : Region) : (s.endServing r).unwritten q = s.unwritten q := by
  rw [State.unwritten, State.unwritten, State.endServing_applyQ, State.endServing_unsaved]

theorem State.closePull_unwritten (s : State) (r q : Region) : (s.closePull r false).unwritten q = s.unwritten q := by
  rw [State.unwritten, State.unwritten, State.closePull_applyQ, State.closePull_unsaved]

theorem State.endServings_nv_regions (rs : List Region) : ∀ (s : State) (q : Region), (s.endServings rs).nv.regions[q]
    = if q ∈ rs ∧ s.served q = true then nvImage (s.endServings rs).table[q] (s.unwritten q) else s.nv.regions[q] := by
  induction rs with
  | nil => exact fun s q => (if_neg fun h => List.not_mem_nil h.1).symm
  | cons r rs ih =>
    intro s q
    show ((s.endServing r).endServings rs).nv.regions[q] = if _ then nvImage ((s.endServing r).endServings rs).table[q] _ else _
    rw [ih, s.endServing_served, s.endServing_nv_regions, s.endServing_unwritten]
    by_cases hq : q = r
    · have hlast : ((s.endServing r).endServings rs).table[q] = (s.endServing r).table[q] := by
        rw [State.endServings_read, s.endServing_served, hq, bne_self_eq_false, Bool.and_false, Bool.and_false, Bool.not_false,
          Bool.and_true]
      rw [if_neg (by simp [hq]), hlast]
      simp only [hq, and_true, List.mem_cons_self, true_and]
    · simp only [hq, and_false, if_false, List.mem_cons, false_or, bne_iff_ne.2 hq, Bool.and_true]

theorem State.closePulls_nv_regions (rs : List Region) : ∀ (s : State) (q : Region), (s.closePulls rs).nv.regions[q]
    = if q ∈ rs ∧ s.pulled q = true then nvImage (s.closePulls rs).table[q] (s.unwritten q) else s.nv.regions[q] := by
  induction rs with
  | nil => exact fun s q => (if_neg fun h => List.not_mem_nil h.1).symm
  | cons r rs ih =>
    intro s q
    show ((s.closePull r false).closePulls rs).nv.regions[q]
      = if _ then nvImage ((s.closePull r false).closePulls rs).table[q] _ else _
    rw [ih, s.closePull_pulled, s.closePull_nv_regions, s.closePull_unwritten]
    by_cases hq : q = r
    · have hlast : ((s.closePull r false).closePulls rs).table[q] = (s.closePull r false).table[q] := by
        rw [State.closePulls_read, s.closePull_pullClosed, s.closePull_read, if_pos hq, ite_self]
      rw [if_neg (by simp [hq]), hlast]
      simp only [hq, and_true, List.mem_cons_self, true_and]
    · simp only [hq, and_false, if_false, List.mem_cons, false_or, bne_iff_ne.2 hq, Bool.and_true]

theorem State.served_mem {s : State} {q : Region} (h : s.served q = true) : q ∈ s.serving.map (·.region) := by
  obtain ⟨v, hv, hr⟩ := List.any_eq_true.1 h
  exact List.mem_map.2 ⟨v, hv, beq_iff_eq.1 hr⟩

theorem State.pulled_mem {s : State} {q : Region} (h : s.pulled q = true) : q ∈ s.catchup.pulls.map (·.region) := by
  obtain ⟨p, hp, hr⟩ := List.any_eq_true.1 h
  exact List.mem_map.2 ⟨p, hp, beq_iff_eq.1 hr⟩

theorem State.endAllServing_nv_regions (s : State) (q : Region) : s.endAllServing.nv.regions[q]
    = if s.served q = true then nvImage s.endAllServing.table[q] (s.unwritten q) else s.nv.regions[q] := by
  rw [s.endAllServing_eq, State.endServings_nv_regions]
  exact if_congr (and_iff_right_of_imp State.served_mem) rfl rfl

theorem State.closeAllPulls_nv_regions (s : State) (q : Region) : s.closeAllPulls.nv.regions[q]
    = if s.pulled q = true then nvImage s.closeAllPulls.table[q] (s.unwritten q) else s.nv.regions[q] := by
  rw [s.closeAllPulls_eq, State.closePulls_nv_regions]
  exact if_congr (and_iff_right_of_imp State.pulled_mem) rfl rfl

/-- An operation whose data two lots of serving records no longer want. -/
theorem ArrayOp.droppedBy_droppedBy (first second : Region → Bool) (x : ArrayOp) :
    (x.droppedBy first).droppedBy second = x.droppedBy (fun q => first q || second q) := by
  cases x with
  | chunkRead q k stamp live => simp [ArrayOp.droppedBy, Bool.and_assoc]
  | hostWrite | readPiece | apply | formatStep => rfl

theorem State.endServings_arb (rs : List Region) : ∀ s : State,
    (s.endServings rs).arb = s.arbAfterServing (fun q => rs.contains q && s.served q) := by
  induction rs with
  | nil => exact fun s => (s.arbAfterServing_of_none fun _ => rfl).symm
  | cons r rs ih =>
    intro s
    show ((s.endServing r).endServings rs).arb = _
    rw [ih, State.arbAfterServing_eq, s.endServing_arb, State.arbAfterServing_eq, State.arbAfterServing_eq, Option.map_map]
    refine congrArg (fun f => { s.arb with op := s.arb.op.map f }) (funext fun x => ?_)
    rw [Function.comp, ArrayOp.droppedBy_droppedBy]
    refine congrArg (fun f => x.droppedBy f) (funext fun q => ?_)
    rw [s.endServing_served, List.contains_cons]
    by_cases hq : q = r
    · subst hq
      simp
    · simp [beq_false_of_ne hq, bne_iff_ne.2 hq]

theorem State.endAllServing_arb (s : State) : s.endAllServing.arb = s.arbAfterServing s.served := by
  rw [s.endAllServing_eq, State.endServings_arb]
  refine congrArg s.arbAfterServing (funext fun q => ?_)
  cases hserved : s.served q with
  | false => exact Bool.and_false _
  | true => rw [Bool.and_true, List.contains_iff_mem]; exact State.served_mem hserved

/-! ### LEAVE (R163) -/

/-- The station as LEAVE has switched its timers and its sweep off. -/
def State.leavingOff (s : State) : State :=
  (s.mapCtl ({ · with
    state := .leaving, leavePhase := .drain, beaconTimer := none, beaconDue := false, discarded := 0 })).setSweep
    { s.out.sweep with phase := .inactive }

/-- The station once its serving records have ended and its pulls have closed. -/
def State.leavingEnded (s : State) : State := s.leavingOff.endAllServing.closeAllPulls

theorem State.startLeaving_eq (s : State) : s.startLeaving = { s.leavingEnded with
    catchup := { s.leavingEnded.catchup with list := [], parked := 0 }
    ctl := { s.leavingEnded.ctl with leaveTimer := some 0 } } := rfl

theorem State.leavingOff_endAllServing_pulls (s : State) : s.leavingOff.endAllServing.catchup = s.catchup :=
  State.endAllServing_catchup _

theorem State.leavingEnded_table (s : State) (r : Region) : s.leavingEnded.table[r] = { s.table[r] with
    copy := match s.table[r].copy, s.pullOf r with
      | .fetching k, some p => .stale (if p.taken then .damaged else k)
      | x, _ => x
    writeHold := s.table[r].writeHold && !s.served r } := by
  have hpull : s.leavingOff.endAllServing.pullOf r = s.pullOf r := by
    rw [State.pullOf, s.leavingOff_endAllServing_pulls, State.pullOf]
  have hended : s.leavingOff.endAllServing.table[r] = { s.table[r] with writeHold := s.table[r].writeHold && !s.served r } :=
    State.endAllServing_table _ r
  rw [State.leavingEnded, State.closeAllPulls_table, State.pullClosed, hpull, hended]
  cases s.pullOf r with
  | none => cases s.table[r].copy <;> rfl
  | some p => cases s.table[r].copy <;> rfl

theorem State.leavingEnded_entries (s : State) : s.leavingEnded.out.entries
    = removalAsked (fun x => (x.isImage && s.served x.region) || (x.isPull && s.pulled x.region)) s.out.entries := by
  have hpulled (r : Region) : s.leavingOff.endAllServing.pulled r = s.pulled r := by
    rw [State.pulled, s.leavingOff_endAllServing_pulls, State.pulled]
  rw [State.leavingEnded, State.closeAllPulls_entries, State.endAllServing_entries]
  simp only [hpulled]
  rw [removalAsked_removalAsked fun x d => by cases x; rfl]
  rfl

theorem State.leavingEnded_quiet (s : State) (h : s.out.fenceHolds) :
    s.leavingEnded.out.fence = s.out.fence ∧ s.leavingEnded.events = s.events := by
  obtain ⟨hholds, hfence, hevents⟩ := State.endServings_quiet (s.leavingOff.serving.map (·.region)) s.leavingOff h
  obtain ⟨-, hfence', hevents'⟩ := State.closePulls_quiet (s.leavingOff.endAllServing.catchup.pulls.map (·.region))
    s.leavingOff.endAllServing (by rw [State.endAllServing_ctl_state]; rfl) hholds
  exact ⟨hfence'.trans hfence, hevents'.trans hevents⟩

/-- The rest of the Outbox and the Station Controller as LEAVE leaves them. -/
theorem State.leavingEnded_rest (s : State) : s.leavingEnded.out.reserved = s.out.reserved
    ∧ s.leavingEnded.out.hostClaim = s.out.hostClaim ∧ s.leavingEnded.out.sweep = { s.out.sweep with phase := .inactive }
    ∧ s.leavingEnded.ctl = s.leavingOff.ctl := by
  obtain ⟨h1, h2, h3, h4⟩ := State.endServings_rest (s.leavingOff.serving.map (·.region)) s.leavingOff
  obtain ⟨k1, k2, k3, k4⟩ := State.closePulls_rest (s.leavingOff.endAllServing.catchup.pulls.map (·.region))
    s.leavingOff.endAllServing
  exact ⟨k1.trans h1, k2.trans h2, k3.trans h3, k4.trans h4⟩

theorem State.leavingEnded_catchup (s : State) : s.leavingEnded.catchup.pulls = [] := State.closeAllPulls_pulls _

theorem State.leavingEnded_serving (s : State) : s.leavingEnded.serving = [] := by
  rw [State.leavingEnded, State.closeAllPulls_serving, State.endAllServing_serving]

theorem State.leavingEnded_arb (s : State) : s.leavingEnded.arb = s.arbAfterServing s.served := by
  rw [State.leavingEnded, State.closeAllPulls_arb, State.endAllServing_arb]
  rfl

theorem State.leavingEnded_nv_regions (s : State) (r : Region) : s.leavingEnded.nv.regions[r]
    = if s.served r = true ∨ s.pulled r = true then nvImage s.leavingEnded.table[r] (s.unwritten r) else s.nv.regions[r] := by
  have hpulled : s.leavingOff.endAllServing.pulled r = s.pulled r := by
    rw [State.pulled, s.leavingOff_endAllServing_pulls, State.pulled]
  have hunwritten : s.leavingOff.endAllServing.unwritten r = s.unwritten r := by
    rw [State.unwritten, State.unwritten, State.endAllServing_applyQ, State.endAllServing_unsaved]
    rfl
  rw [State.leavingEnded, State.closeAllPulls_nv_regions, hpulled, hunwritten]
  cases hp : s.pulled r with
  | true => rw [if_pos rfl, if_pos (.inr rfl)]
  | false =>
    have hsame : s.leavingOff.endAllServing.closeAllPulls.table[r] = s.leavingOff.endAllServing.table[r] := by
      rw [State.closeAllPulls_table, State.pullClosed, (State.pullOf_eq_none_iff _ r).2 (hpulled.trans hp)]
    rw [if_neg Bool.false_ne_true, hsame, State.endAllServing_nv_regions]
    exact if_congr ⟨.inl, fun h => h.resolve_right Bool.false_ne_true⟩ rfl rfl

/-- The end of the drain, where its condition holds (R164). -/
theorem State.drainEnd_eq {s : State} (hst : s.ctl.state = .leaving) (hphase : s.ctl.leavePhase = .drain) : s.drainEnd = { s with
    ctl := { s.ctl with
      leavePhase := if s.out.entries = [] then .final else .drain
      beaconDue := if s.out.entries = [] then true else s.ctl.beaconDue
      leaveTimer := if s.out.entries = [] then some 0 else s.ctl.leaveTimer } } := by
  by_cases h : s.out.entries = []
  · rw [State.drainEnd, if_pos ⟨hst, hphase, h⟩, if_pos h, if_pos h, if_pos h]
    rfl
  · rw [State.drainEnd, if_neg (fun e => h e.2.2), if_neg h, if_neg h, if_neg h, ← hphase]

/-- The station that a LEAVE taken leaves. -/
theorem exec_leave_taken {s : State} (hput : s.takesPut)
    (hst : s.ctl.state = .active ∨ s.ctl.state = .isolated ∨ s.ctl.state = .dozing) :
    exec .leave s = .next (s.undriven.startLeaving.answer 0x0E .accepted []).drainEnd := by
  rw [exec, execLeave, s.onPut_of_takesPut _ hput, State.undriven_ctl]
  rcases hst with hst | hst | hst <;> rw [hst]

/-- The station that a LEAVE taken leaves, block by block (R163, R164). -/
def State.leftFrom (s : State) : State := { s.leavingEnded with
  catchup := ⟨[], 0, []⟩
  port := { s.port with state := .answer ⟨0x0E, .accepted, []⟩ }
  ctl := { s.ctl with
    state := .leaving
    leavePhase := if s.leavingEnded.out.entries = [] then .final else .drain
    beaconTimer := none
    beaconDue := s.leavingEnded.out.entries.isEmpty
    discarded := 0
    leaveTimer := some 0 } }

theorem State.startLeaving_drainEnd (s : State) : (s.startLeaving.answer 0x0E .accepted []).drainEnd = s.leftFrom := by
  have hctl : s.leavingEnded.ctl = s.leavingOff.ctl := s.leavingEnded_rest.2.2.2
  have hport : s.leavingEnded.port = s.port := (State.closeAllPulls_port _).trans (State.endAllServing_port _)
  have hcatchup : s.leavingEnded.catchup = ⟨s.leavingEnded.catchup.list, s.leavingEnded.catchup.parked, []⟩ := by
    rw [← s.leavingEnded_catchup]
  have hstarted : s.startLeaving.answer 0x0E .accepted [] = { s.leavingEnded with
      catchup := ⟨[], 0, []⟩
      port := { s.port with state := .answer ⟨0x0E, .accepted, []⟩ }
      ctl := { s.leavingOff.ctl with leaveTimer := some 0 } } := by
    rw [s.startLeaving_eq, hcatchup, hctl]
    show { s.leavingEnded with
      catchup := ⟨[], 0, []⟩
      port := { s.leavingEnded.port with state := .answer ⟨0x0E, .accepted, []⟩ }
      ctl := { s.leavingOff.ctl with leaveTimer := some 0 } } = ( _ : State)
    rw [hport]
  rw [hstarted, State.drainEnd_eq rfl rfl, State.leftFrom]
  dsimp only
  rw [ite_self]
  cases s.leavingEnded.out.entries <;> rfl

theorem State.served_of_mem {s : State} {v : ServingRecord} {r : Region} (hv : v ∈ s.serving) (hr : v.region = r) :
    s.served r = true := List.any_eq_true.2 ⟨v, hv, beq_iff_eq.2 hr⟩

theorem State.pulled_of_mem {s : State} {p : PullRecord} {r : Region} (hp : p ∈ s.catchup.pulls) (hr : p.region = r) :
    s.pulled r = true := List.any_eq_true.2 ⟨p, hp, beq_iff_eq.2 hr⟩

/-- LEAVE takes no entry but of the PULL and IMAGE kinds. -/
theorem State.leavingEnded_others (s : State) : s.leavingEnded.out.entries.filter (fun x => !(x.isPull || x.isImage))
    = s.out.entries.filter (fun x => !(x.isPull || x.isImage)) := by
  rw [s.leavingEnded_entries]
  refine filter_removalAsked_of_spared (fun x d => by cases x; rfl) (fun x hx => ?_) _
  rcases (Bool.or_eq_true _ _).mp hx with h | h
  · rw [Bool.and_elim_left h, Bool.or_true]; rfl
  · rw [Bool.and_elim_left h]; rfl

/-- The PULL and IMAGE entries that LEAVE leaves are being sent. -/
theorem State.leavingEnded_sending (s : State) {x : OutEntry} (hx : x ∈ s.leavingEnded.out.entries) :
    (x.isPull = true → s.pulled x.region = true → x.sending = true)
    ∧ (x.isImage = true → s.served x.region = true → x.sending = true) := by
  rw [s.leavingEnded_entries] at hx
  refine ⟨fun hpull hpulled => ?_, fun himage hserved => ?_⟩
  · exact (sending_of_mem_removalAsked (fun x d => by cases x; rfl) hx (by rw [hpull, hpulled]; exact Bool.or_true _)).1
  · exact (sending_of_mem_removalAsked (fun x d => by cases x; rfl) hx (by rw [himage, hserved]; rfl)).1

theorem State.leavingEnded_not_fetching {s : State} {p : PullRecord} (hp : p ∈ s.catchup.pulls) (k : Cause) :
    s.leavingEnded.table[p.region].copy ≠ .fetching k := by
  have hsome : s.pullOf p.region ≠ none := mt (s.pullOf_eq_none_iff p.region).1 (by rw [State.pulled_of_mem hp rfl]; simp)
  obtain ⟨q, hq⟩ := Option.ne_none_iff_exists'.1 hsome
  rw [s.leavingEnded_table, hq]
  cases s.table[p.region].copy <;> simp

theorem State.leavingEnded_blocks (s : State) : s.leavingEnded.line = s.line ∧ s.leavingEnded.applyQ = s.applyQ
    ∧ s.leavingEnded.roster = s.roster ∧ s.leavingEnded.nv.array = s.nv.array ∧ s.leavingEnded.nv.setup = s.nv.setup
    ∧ s.leavingEnded.nv.intent = s.nv.intent ∧ s.leavingEnded.unsaved = s.unsaved ∧ s.leavingEnded.serial = s.serial
    ∧ s.leavingEnded.free = s.free ∧ s.leavingEnded.power = s.power ∧ s.leavingEnded.pending = s.pending :=
  ⟨(State.closeAllPulls_line _).trans (State.endAllServing_line _), (State.closeAllPulls_applyQ _).trans (State.endAllServing_applyQ _),
    (State.closeAllPulls_roster _).trans (State.endAllServing_roster _),
    (State.closeAllPulls_nv_array _).trans (State.endAllServing_nv_array _),
    (State.closeAllPulls_nv_setup _).trans (State.endAllServing_nv_setup _),
    (State.closeAllPulls_nv_intent _).trans (State.endAllServing_nv_intent _),
    (State.closeAllPulls_unsaved _).trans (State.endAllServing_unsaved _),
    (State.closeAllPulls_serial _).trans (State.endAllServing_serial _), (State.closeAllPulls_free _).trans (State.endAllServing_free _),
    (State.closeAllPulls_power _).trans (State.endAllServing_power _),
    (State.closeAllPulls_pending _).trans (State.endAllServing_pending _)⟩

/-! ### The cut of the drain (R165) -/

theorem keptEntries_all (es : List OutEntry) : keptEntries (fun _ => true) true es
    = (es.filter (fun x => x.sending)).map (fun x => if x.doom = .none then { x with doom := .cut } else x) := by
  have hstays : (fun e : OutEntry => !goesNow (fun _ => true) e) = fun x => x.sending := by
    funext e
    rw [goesNow, Bool.true_and, Bool.not_not]
  rw [keptEntries, hstays]
  refine List.map_congr_left fun x _ => ?_
  simp [OutEntry.markedBy]

theorem filter_goesNow_all (es : List OutEntry) : es.filter (goesNow fun _ => true) = es.filter (fun x => !x.sending) := by
  refine List.filter_congr fun x _ => ?_
  rw [goesNow, Bool.true_and]

theorem State.cut_out (s : State) : s.cut.out = { s.out with
    entries := (s.out.entries.filter (fun x => x.sending)).map (fun x => if x.doom = .none then { x with doom := .cut } else x)
    fence := (s.out.discarded (fun _ => true) true).fenceLeft
    hostClaim := if (s.out.entries.filter (fun x => !x.sending)).any OutEntry.isHost then none else s.out.hostClaim
    sweep := { s.out.sweep with
      outstanding := if (s.out.entries.filter (fun x => !x.sending)).any OutEntry.isSweep then none else s.out.sweep.outstanding } } := by
  rw [State.cut, State.discardEntries_eq, ← keptEntries_all, ← filter_goesNow_all]
  rfl

theorem State.cut_ctl (s : State) : s.cut.ctl = { s.ctl with
    leaveTimer := none, discarded := s.ctl.discarded + (s.out.entries.filter (fun x => !x.sending)).length } := by
  rw [State.cut, State.discardEntries_eq, ← filter_goesNow_all]
  rfl

theorem State.cut_events (s : State) :
    s.cut.events = (s.out.discarded (fun _ => true) true).fencePosts.foldl postTo s.events := by
  rw [State.cut, State.discardEntries_eq]
  rfl

/-- The Outbox that the cut leaves before its fence is looked at. -/
theorem Outbox.discarded_all (o : Outbox) : (o.discarded (fun _ => true) true).fence
      = o.fence.map (fun f => { f with lost := f.lost + ((o.entries.filter (fun x => !x.sending)).filter OutEntry.inFence).length })
    ∧ (o.discarded (fun _ => true) true).entries
      = (o.entries.filter (fun x => x.sending)).map (fun x => if x.doom = .none then { x with doom := .cut } else x) := by
  refine ⟨?_, keptEntries_all o.entries⟩
  rw [← List.countP_eq_length_filter, ← filter_goesNow_all]
  rfl

/-- The cut row where it applies (R165). -/
theorem exec_leaveDrainCut {s : State} (hon : s.power = .on) (hst : s.ctl.state = .leaving) (htimer : s.ctl.leaveTimer ≠ none)
    (hphase : s.ctl.leavePhase = .drain) : exec .leaveDrainCut s = .next s.cut.drainEnd := by
  show Host.Outcome.next _ = _
  rw [State.whenOn_of_on _ hon, if_pos ⟨hst, hphase, Option.isSome_iff_ne_none.2 htimer⟩]

/-! ### The end of phase FINAL (R166) -/

/-- What the end of phase FINAL leaves of `s` in `t` (R166). -/
def State.hasLeft (s t : State) : Prop :=
  t.ctl = { s.ctl with
    state := .offline, leavePhase := .drain, leaveTimer := none, beaconDue := false, joining := t.ctl.joining }
  ∧ t.line.slot = none ∧ t.line.rx = none ∧ (∀ n : Station, t.line.strangers[n] = none)
  ∧ (∀ n : Station, t.roster.entries[n] = ⟨.absent, none, false⟩) ∧ t.roster.front = []
  ∧ (∀ r : Region, t.table[r] = { s.table[r] with
      owner := none, yieldReady := false, votePending := false, writeHold := false })
  ∧ t.events = postTo s.events (.left s.ctl.discarded) ∧ t.applyQ = s.applyQ ∧ t.nv.array = s.nv.array

/-- What phase FINAL's end reads of the station stands as it stood in `s`. -/
structure LeavesAs (s u : State) : Prop where
  ctl : u.ctl = { s.ctl with leaveTimer := u.ctl.leaveTimer, beaconDue := u.ctl.beaconDue, joining := u.ctl.joining }
  table : u.table = s.table
  events : u.events = s.events
  applyQ : u.applyQ = s.applyQ
  array : u.nv.array = s.nv.array

/-- Outside ACTIVE and ISOLATED what goes on at the end of a step changes no region (R113). -/
theorem State.resume_table_of_not_working {u : State} (h : u.ctl.state.working = false) : u.resume.table = u.table := by
  rw [State.resume, State.arbitrate_table, State.requestReads_table, State.openPulls_of_none (State.nextPull_of_shut (.inl h)),
    State.queuePulls_table]

theorem LeavesAs.hasLeft {s u : State} (h : LeavesAs s u) : s.hasLeft u.goOffline.resume := by
  obtain ⟨hctl, hroster, hline, hevents, htable⟩ := u.goOffline_blocks
  rw [State.hasLeft, State.resume_ctl, State.resume_line, State.resume_roster, State.resume_events, State.resume_applyQ,
    State.resume_nv_array, hctl, hroster, hline, hevents, State.goOffline_applyQ, State.goOffline_nv_array, h.events, h.applyQ,
    h.array, h.ctl]
  refine ⟨rfl, rfl, rfl, fun n => Vector.getElem_replicate n.isLt, fun n => Vector.getElem_replicate n.isLt, rfl, fun r => ?_, rfl,
    rfl, rfl⟩
  rw [State.resume_table_of_not_working (by rw [hctl]; rfl), htable, h.table]
  rfl

/-- Phase FINAL ends after an attempt once its timer has run out (R166). -/
theorem State.afterAttempt_of_final {u : State} (hst : u.ctl.state = .leaving) (hphase : u.ctl.leavePhase = .final)
    (htimer : u.ctl.leaveTimer = none) (hslot : u.line.slot = none) : u.afterAttempt = u.goOffline.resume := by
  have hdrain : u.drainEnd = u := by
    rw [State.drainEnd, if_neg]
    rintro ⟨-, hdrain, -⟩
    rw [hphase] at hdrain
    cases hdrain
  rw [State.afterAttempt, hdrain, State.finalEnd, if_pos ⟨hst, hphase, htimer, hslot⟩]

/-- After an attempt in phase FINAL whose timer has run out the station has left. -/
theorem LeavesAs.afterAttempt {s u : State} (h : LeavesAs s u) (hst : s.ctl.state = .leaving) (hphase : s.ctl.leavePhase = .final)
    (htimer : u.ctl.leaveTimer = none) (hslot : u.line.slot = none) :
    s.hasLeft u.afterAttempt ∧ u.afterAttempt.line.faults = u.line.faults := by
  have hst' : u.ctl.state = .leaving := by rw [h.ctl]; exact hst
  have hphase' : u.ctl.leavePhase = .final := by rw [h.ctl]; exact hphase
  rw [State.afterAttempt_of_final hst' hphase' htimer hslot]
  refine ⟨h.hasLeft, ?_⟩
  rw [State.resume_line, State.goOffline_line_faults]

/-- An own beacon that loses its attempt leaves the station so (R26, R163). -/
theorem State.attemptLost_leavesAs (s : State) (b : BeaconFrame) (w : Option Region) :
    LeavesAs s (s.attemptLost ⟨.beacon b, w⟩) := by
  rw [s.attemptLost_of_beacon b w]
  split <;> exact ⟨rfl, rfl, rfl, rfl, rfl⟩

theorem State.attemptLost_leaveTimer (s : State) (b : BeaconFrame) (w : Option Region) :
    (s.attemptLost ⟨.beacon b, w⟩).ctl.leaveTimer = s.ctl.leaveTimer := by
  rw [s.attemptLost_of_beacon b w]
  split <;> rfl

/-- Settles O24: LEAVE and the cut block by block; every end of phase FINAL is `State.goOffline`. -/
theorem leaveAndItsTimer : Obligations.LeaveAndItsTimer := by
  refine ⟨fun s hput => ⟨fun hst => ?refused, fun hst => ?taken⟩,
    fun s hon hst htimer => ⟨fun hphase => ?cut, fun hphase hslot => ?runs⟩, fun s hon hst hphase => ?final⟩
  case refused =>
    rw [exec, execLeave, s.onPut_of_takesPut _ hput, State.undriven_ctl]
    rcases hst with hst | hst | hst | hst <;> rw [hst]
  case taken =>
    refine ⟨_, (exec_leave_taken hput hst).trans (congrArg Host.Outcome.next s.undriven.startLeaving_drainEnd), rfl, rfl, ?_⟩
    obtain ⟨hreserved, hclaim, hsweep, -⟩ := s.undriven.leavingEnded_rest
    obtain ⟨hline, hqueue, hroster, harray, hsetup, hintent, hunsaved, hserial, hfree, hpower, hpending⟩ :=
      s.undriven.leavingEnded_blocks
    have htable := s.undriven.leavingEnded_table
    refine ⟨hsweep, s.undriven.leavingEnded_serving, rfl, ⟨s.undriven.leavingEnded_entries, s.undriven.leavingEnded_others, hclaim,
      hreserved, s.undriven.leavingEnded_quiet, htable, s.undriven.leavingEnded_nv_regions, s.undriven.leavingEnded_arb, hsetup,
      hintent, hunsaved, hserial, hfree, hpower, hpending⟩, fun x hx => ?sent, fun r => ?kept,
      fun p hp k => State.leavingEnded_not_fetching (s := s.undriven) hp k, hline, hqueue, hroster, harray⟩
    case sent =>
      obtain ⟨hpull, himage⟩ := s.undriven.leavingEnded_sending hx
      exact ⟨fun h ⟨p, hp, hr⟩ => hpull h (State.pulled_of_mem hp hr), fun h ⟨v, hv, hr⟩ => himage h (State.served_of_mem hv hr)⟩
    case kept =>
      rw [State.leftFrom]
      dsimp only
      rw [htable]
      exact ⟨rfl, rfl, rfl⟩
  case cut =>
    intro gone kept
    have hcut := s.cut_ctl
    have hout := s.cut_out
    have hentries : s.cut.out.entries = kept := congrArg Outbox.entries hout
    obtain ⟨hdiscarded, hleft⟩ := s.out.discarded_all
    have hexec := exec_leaveDrainCut hon hst htimer hphase
    rw [State.drainEnd_eq (by rw [hcut]; exact hst) (by rw [hcut]; exact hphase)] at hexec
    have hhost : (gone.any OutEntry.isHost = true) ↔ ∃ x ∈ gone, x.body = .claim .host := by
      rw [List.any_eq_true]
      exact exists_congr fun x => and_congr_right fun _ => x.isHost_iff
    have hsweep : (gone.any OutEntry.isSweep = true) ↔ ∃ x ∈ gone, x.body = .claim .sweep := by
      rw [List.any_eq_true]
      exact exists_congr fun x => and_congr_right fun _ => x.isSweep_iff
    have hfence : s.cut.out.fence = (s.out.discarded (fun _ => true) true).fenceLeft := congrArg Outbox.fence hout
    refine ⟨_, hexec, hentries, ?ctl', ?claim, ?sweep, ?reserved, fun x hx => ?opened, fun hnone => ?closed,
      ?table', ?line', ?roster', ?queue', ?nv', ?port'⟩
    case ctl' =>
      refine (congrArg (fun c : Controller => { c with
        leavePhase := if s.cut.out.entries = [] then .final else .drain
        beaconDue := if s.cut.out.entries = [] then true else c.beaconDue
        leaveTimer := if s.cut.out.entries = [] then some 0 else c.leaveTimer }) hcut : ).trans ?_
      rw [hentries]
    case reserved => exact (congrArg Outbox.reserved hout :)
    case claim =>
      refine (congrArg Outbox.hostClaim hout).trans (if_congr hhost rfl rfl)
    case sweep =>
      refine (congrArg Outbox.sweep hout).trans ?_
      exact congrArg (fun o => { s.out.sweep with outstanding := o }) (if_congr hsweep rfl rfl)
    case opened =>
      intro lost
      have hlost : (s.out.discarded (fun _ => true) true).fence = some ⟨x.missing, lost⟩ := by
        rw [hdiscarded, hx]
        rfl
      refine ⟨fun hin => ?_, fun hin => ?_⟩
      · have hany : (s.out.discarded (fun _ => true) true).entries.any OutEntry.inFence = true := by
          rw [hleft, List.any_eq_true]
          exact hin
        refine ⟨hfence.trans ?_, s.cut_events.trans ?_⟩
        · rw [Outbox.fenceLeft, if_pos hany, hlost]
        · rw [Outbox.fencePosts, hlost, hany]
          rfl
      · have hany : (s.out.discarded (fun _ => true) true).entries.any OutEntry.inFence = false := by
          rw [hleft, List.any_eq_false]
          exact fun y hy => Bool.eq_false_iff.1 (hin y hy)
        refine ⟨hfence.trans ?_, s.cut_events.trans ?_⟩
        · rw [Outbox.fenceLeft, hany]
          rfl
        · rw [Outbox.fencePosts, hlost, hany]
          rfl
    case closed =>
      have hnot : (s.out.discarded (fun _ => true) true).fence = none := by
        rw [hdiscarded, hnone]
        rfl
      refine ⟨hfence.trans ?_, s.cut_events.trans ?_⟩
      · rw [Outbox.fenceLeft, hnot, ite_self]
      · rw [Outbox.fencePosts, hnot]
        rfl
    case table' => exact (State.discardEntries_table _ _ _)
    case line' => exact (State.discardEntries_line _ _ _)
    case roster' => exact (State.discardEntries_roster _ _ _)
    case queue' => exact (State.discardEntries_applyQ _ _ _)
    case nv' => exact (State.discardEntries_nv _ _ _)
    case port' => exact (State.discardEntries_port _ _ _)
  case runs =>
    have hexec : exec .leaveFinalExpiry s = .next (s.mapCtl ({ · with leaveTimer := none })).afterAttempt := by
      show Host.Outcome.next _ = _
      rw [State.whenOn_of_on _ hon, if_pos ⟨hst, hphase, Option.isSome_iff_ne_none.2 htimer⟩]
    have hdrain : (s.mapCtl ({ · with leaveTimer := none })).drainEnd = s.mapCtl ({ · with leaveTimer := none }) := by
      rw [State.drainEnd, if_neg]
      rintro ⟨-, h, -⟩
      rw [show (s.mapCtl ({ · with leaveTimer := none })).ctl.leavePhase = .final from hphase] at h
      cases h
    rw [hexec, State.afterAttempt, hdrain, State.finalEnd, if_neg (fun h => hslot h.2.2.2)]
    rfl
  case final =>
    intro left
    refine ⟨fun htimer hslot => ?expiry, fun b w ack htimer hslot => ⟨?lost, fun place hcount => ?fault, ?ended⟩⟩
    case expiry =>
      have hexec : exec .leaveFinalExpiry s = .next (s.mapCtl ({ · with leaveTimer := none })).afterAttempt := by
        show Host.Outcome.next _ = _
        rw [State.whenOn_of_on _ hon, if_pos ⟨hst, hphase, Option.isSome_iff_ne_none.2 htimer⟩]
      have hleaves : LeavesAs s (s.mapCtl ({ · with leaveTimer := none })) := ⟨rfl, rfl, rfl, rfl, rfl⟩
      exact ⟨_, hexec, (hleaves.afterAttempt hst hphase rfl hslot).1⟩
    case lost =>
      have hleaves := s.attemptLost_leavesAs b w
      exact ⟨_, exec_lostArbitration hon hslot, (hleaves.afterAttempt hst hphase ((s.attemptLost_leaveTimer b w).trans htimer)
        (congrArg Line.slot (s.attemptLost_line _))).1⟩
    case fault =>
      have hsame : s.answerAfterFault place (.beacon b) = s := by cases place <;> rfl
      have hfaults : (s.attemptLost ⟨.beacon b, w⟩).line.faults = s.line.faults :=
        (congrArg Line.faults (s.attemptLost_line _) :)
      have hexec : exec (.lineFault place) s
          = .next ((s.attemptLost ⟨.beacon b, w⟩).mapLine ({ · with faults := s.line.faults + 1 })).afterAttempt := by
        rw [exec_lineFault place hon hslot, hsame, State.countFault_of_lt (by rw [hfaults]; exact hcount), hfaults]
        rfl
      have hleaves : LeavesAs s ((s.attemptLost ⟨.beacon b, w⟩).mapLine ({ · with faults := s.line.faults + 1 })) :=
        let h := s.attemptLost_leavesAs b w
        ⟨h.ctl, h.table, h.events, h.applyQ, h.array⟩
      exact ⟨_, hexec, hleaves.afterAttempt hst hphase ((s.attemptLost_leaveTimer b w).trans htimer)
        (congrArg Line.slot (s.attemptLost_line _))⟩
    case ended =>
      have hexec : exec (.beaconFrameEnd ack) s = .next (s.ownBeaconEnd b w ack).afterAttempt := by
        rw [exec, execBeaconFrameEnd, State.whenOn_of_on _ hon, hslot]
      have hleaves : LeavesAs s (s.attemptDone.beaconSent b w ack) := ⟨rfl, rfl, rfl, rfl, rfl⟩
      refine ⟨_, hexec, ?_⟩
      rw [State.ownBeaconEnd]
      split
      · rw [State.afterAttempt_of_not_leaving (by rw [(State.goOffline_blocks _).1]; simp)]
        exact hleaves.hasLeft
      · exact (hleaves.afterAttempt hst hphase htimer rfl).1

end Sys2Proof.Machine
end

section
/-! SUPPORT. The choice at a line idle, and the offer or the withdrawal of an Outbox entry (R23 to R26, R89). -/

namespace Sys2Proof.Machine

-- One proof at a time: the proofs that wait for each other would hold the memory of the whole text.
set_option Elab.async false

/-! ### The entry that is chosen (R25) -/

theorem OutEntry.priority_cases (e : OutEntry) : e.priority = 1 ∨ e.priority = 2 ∨ e.priority = 3 ∨ e.priority = 4 := by
  rcases e with ⟨r, _ | _ | _ | _, sending, doom⟩
  · exact .inr (.inr (.inl rfl))
  · exact .inl rfl
  · exact .inr (.inl rfl)
  · exact .inr (.inr (.inr rfl))

theorem OutEntry.isClaim_iff (e : OutEntry) : e.isClaim = true ↔ e.priority = 1 := by
  rcases e with ⟨r, _ | _ | _ | _, sending, doom⟩ <;> simp [OutEntry.isClaim, OutEntry.priority]

theorem pickEntry_of_none {es : List OutEntry} (h : ∀ x ∈ es, x.offerable = false) : pickEntry es = none := by
  rw [pickEntry, List.findSome?_eq_none_iff]
  exact fun p _ => List.find?_eq_none.2 fun x hx => by simp [h x hx]

/-- The oldest offerable entry of the lowest priority number is the one chosen (R25). -/
theorem pickEntry_of_split {before after : List OutEntry} {e : OutEntry} (he : e.offerable = true)
    (hbefore : ∀ x ∈ before, x.offerable = true → e.priority < x.priority)
    (hafter : ∀ x ∈ after, x.offerable = true → e.priority ≤ x.priority) : pickEntry (before ++ e :: after) = some e := by
  have hlower (p : Nat) (hp : p < e.priority) :
      (before ++ e :: after).find? (fun x => x.offerable && x.priority == p) = none := by
    refine List.find?_eq_none.2 fun x hx hboth => ?_
    obtain ⟨hoffer, hprio⟩ := (Bool.and_eq_true _ _).mp hboth
    have hx' : x.priority = p := beq_iff_eq.1 hprio
    rcases List.mem_append.1 hx with hx | hx
    · have := hbefore x hx hoffer
      omega
    · rcases List.mem_cons.1 hx with rfl | hx
      · omega
      · have := hafter x hx hoffer
        omega
  have hfound : (before ++ e :: after).find? (fun x => x.offerable && x.priority == e.priority) = some e := by
    have hskip : before.find? (fun x => x.offerable && x.priority == e.priority) = none := by
      refine List.find?_eq_none.2 fun x hx hboth => ?_
      obtain ⟨hoffer, hprio⟩ := (Bool.and_eq_true _ _).mp hboth
      have hx' : x.priority = e.priority := beq_iff_eq.1 hprio
      have := hbefore x hx hoffer
      omega
    rw [List.find?_append, hskip, List.find?_cons_of_pos (by simp [he])]
    rfl
  rw [pickEntry]
  rcases e.priority_cases with hp | hp | hp | hp <;> rw [hp] at hfound hlower
  · rw [List.findSome?_cons, hfound]
  · rw [List.findSome?_cons, hlower 1 (by omega), List.findSome?_cons, hfound]
  · rw [List.findSome?_cons, hlower 1 (by omega), List.findSome?_cons, hlower 2 (by omega), List.findSome?_cons, hfound]
  · rw [List.findSome?_cons, hlower 1 (by omega), List.findSome?_cons, hlower 2 (by omega), List.findSome?_cons, hlower 3 (by omega),
      List.findSome?_cons, hfound]

theorem mapFirst_of_split {p : OutEntry → Bool} (f : OutEntry → OutEntry) {before after : List OutEntry} {e : OutEntry}
    (hbefore : ∀ x ∈ before, p x = false) (he : p e = true) :
    mapFirst p f (before ++ e :: after) = before ++ f e :: after := by
  induction before with
  | nil => exact if_pos he
  | cons x before ih =>
    rw [List.cons_append, mapFirst, if_neg (by simp [hbefore x List.mem_cons_self]),
      ih fun y hy => hbefore y (List.mem_cons_of_mem x hy)]
    rfl

/-- The entries before the one chosen are no candidates of its kind. -/
theorem offerable_of_before {before : List OutEntry} {e : OutEntry} (hbefore : ∀ x ∈ before, x.offerable = true → e.priority < x.priority)
    {x : OutEntry} (hx : x ∈ before) : (x.offerable && x.priority == e.priority) = false := by
  cases hoffer : x.offerable with
  | false => rfl
  | true => exact beq_false_of_ne (Nat.ne_of_gt (hbefore x hx hoffer))

/-! ### The row (R23, R35) -/

/-- The station as the idle gap after entry to LISTENING has been read. -/
def State.synced (s : State) : State := { s with line := { s.line with syncing := false } }

theorem State.dropFrame_of_no_rx {s : State} (h : s.line.rx = none) : s.dropFrame = s := by
  rw [State.dropFrame, h]
  show { s with line := { s.line with rx := none } } = s
  rw [← h]

theorem exec_lineIdle {s : State} (hon : s.power = .on) (hreceives : s.ctl.state.receives = true) (hslot : s.line.slot = none) :
    exec .lineIdle s = .next s.dropFrame.synced.offer := by
  show Host.Outcome.next _ = _
  rw [State.whenOn_of_on _ hon, hreceives, hslot]
  rfl

theorem exec_lineIdle_of_no_rx {s : State} (hon : s.power = .on) (hreceives : s.ctl.state.receives = true) (hslot : s.line.slot = none)
    (hrx : s.line.rx = none) : exec .lineIdle s = .next s.synced.offer := by
  rw [exec_lineIdle hon hreceives hslot, State.dropFrame_of_no_rx hrx]

/-- The frame that a line idle gives up is given up first (R35, log 26). -/
theorem exec_lineIdle_dropFrame {s : State} (hon : s.power = .on) (hreceives : s.ctl.state.receives = true) (hslot : s.line.slot = none) :
    exec .lineIdle s = exec .lineIdle s.dropFrame := by
  have hline := s.dropFrame_line
  rw [exec_lineIdle hon hreceives hslot, exec_lineIdle_of_no_rx (s := s.dropFrame) (by rw [State.dropFrame_power]; exact hon)
    (by rw [State.dropFrame_ctl]; exact hreceives) (by rw [hline]; exact hslot) (by rw [hline])]

/-- A choice that comes to no withdrawal is the last one (R25). -/
theorem State.offer_of_nothing {s : State} (h : s.nextOffer = .nothing) : s.offer = s := by
  rw [State.offer, State.offerFrom, h]

theorem State.offer_of_beacon {s : State} (h : s.nextOffer = .beacon) : s.offer = s.sendBeacon := by
  rw [State.offer, State.offerFrom, h]

theorem State.offer_of_entry {s : State} {e : OutEntry} (h : s.nextOffer = .entry e) : s.offer = s.sendEntry e := by
  rw [State.offer, State.offerFrom, h]

theorem State.nextOffer_of_pick {s : State} {e : OutEntry} (hdue : s.ctl.beaconDue = false)
    (hoffers : s.ctl.state.offersEntries = true) (hpick : pickEntry s.out.entries = some e) : s.nextOffer = s.offerOf e := by
  rw [State.nextOffer, hdue, Bool.false_and, if_neg Bool.false_ne_true, if_pos hoffers, hpick]

theorem State.nextOffer_of_no_pick {s : State} (hdue : s.ctl.beaconDue = false) (hpick : pickEntry s.out.entries = none) :
    s.nextOffer = .nothing := by
  rw [State.nextOffer, hdue, Bool.false_and, if_neg Bool.false_ne_true, hpick]
  exact ite_self _

theorem StationState.offersEntries_of_receives {st : StationState} (h : st.receives = true) (hlisten : st ≠ .listening) (hdoze : st ≠ .dozing) :
    st.offersEntries = true := by
  cases st <;> simp_all [StationState.receives, StationState.offersEntries]

/-- The station that sends the entry chosen (R25, R26). -/
theorem State.sendEntry_of_split {s : State} {before after : List OutEntry} {e : OutEntry} (hsplit : s.out.entries = before ++ e :: after)
    (he : e.offerable = true) (hbefore : ∀ x ∈ before, x.offerable = true → e.priority < x.priority) :
    s.sendEntry e = { s with
      line := { s.line with slot := some ⟨s.frameOf e, none⟩ }
      out := { s.out with entries := before ++ s.startSending e :: after } } := by
  have hmap : mapFirst (fun x => x.offerable && x.priority == e.priority) s.startSending (before ++ e :: after)
      = before ++ s.startSending e :: after := mapFirst_of_split _ (fun x hx => offerable_of_before hbefore hx) (by simp [he])
  rw [State.sendEntry, State.mapOut, ← hmap, ← hsplit]
  rfl

theorem State.offerOf_of_not_claim {s : State} {e : OutEntry} (h : e.isClaim = false) : s.offerOf e = .entry e := by
  rcases e with ⟨r, _ | _ | _ | _, sending, doom⟩
  · rfl
  · cases h
  · rfl
  · rfl

theorem State.startSending_kept (s : State) (e : OutEntry) :
    (s.startSending e).region = e.region ∧ (s.startSending e).sending = true ∧ (s.startSending e).doom = e.doom := by
  rcases e with ⟨r, _ | _ | _ | _, sending, doom⟩ <;> exact ⟨rfl, rfl, rfl⟩

/-! ### CLAIM entries at their offer (R89) -/

/-- The recorded owner is another station under a later epoch than the copy's (R89). -/
def State.outrun (s : State) (r : Region) : Prop :=
  ∃ o, s.table[r].owner = some o ∧ o.station ≠ s.own ∧ s.table[r].stamp.epoch.toNat < o.epoch.toNat

theorem State.outrun_iff (s : State) (r : Region) : (match s.table[r].owner with
    | some o => o.station != s.own && decide (s.table[r].stamp.epoch.toNat < o.epoch.toNat)
    | none => false) = true ↔ s.outrun r := by
  rw [State.outrun]
  cases s.table[r].owner <;> simp

theorem State.withdrawReason_of_not_current {s : State} {r : Region} (h : s.table[r].copy ≠ .current ∨ s.outrun r) :
    s.withdrawReason r = some .notCurrent := if_pos (h.imp_right (s.outrun_iff r).2)

theorem State.withdrawReason_of_current {s : State} {r : Region} (hcopy : s.table[r].copy = .current) (hnot : ¬ s.outrun r) :
    s.withdrawReason r = if s.table[r].stamp.epoch.toNat = 65535 then some .exhausted else none := by
  have hno := mt (s.outrun_iff r).1 hnot
  refine (if_neg fun h => h.elim (fun h => h hcopy) hno).trans ?_
  exact if_congr (eq_epochCeiling_iff _) rfl rfl

/-- An offerable CLAIM entry behind none of its kind is the entry chosen (R25). -/
theorem claim_before {before : List OutEntry} {r : Region} {source : ClaimSource}
    (hbefore : ∀ x ∈ before, x.isClaim = true → x.sending = true) (x : OutEntry) (hx : x ∈ before) (hoffer : x.offerable = true) :
    (⟨r, .claim source, false, .none⟩ : OutEntry).priority < x.priority := by
  have hnot : x.priority ≠ 1 := fun hp => by
    have hsending := hbefore x hx (x.isClaim_iff.2 hp)
    rw [OutEntry.offerable, hsending] at hoffer
    exact absurd hoffer (by simp)
  show 1 < x.priority
  rcases x.priority_cases with hp | hp | hp | hp <;> omega

theorem claim_after {r : Region} {source : ClaimSource} (x : OutEntry) :
    (⟨r, .claim source, false, .none⟩ : OutEntry).priority ≤ x.priority := by
  show 1 ≤ x.priority
  rcases x.priority_cases with hp | hp | hp | hp <;> omega

/-- A withdrawn entry leaves the Outbox, and CLAIM_DONE is posted, before its source learns of it (R89). -/
theorem State.withdraw_of_split {s : State} {before after : List OutEntry} {r : Region} {source : ClaimSource} (why : LostReason)
    (hsplit : s.out.entries = before ++ ⟨r, .claim source, false, .none⟩ :: after)
    (hbefore : ∀ x ∈ before, x.isClaim = true → x.sending = true) :
    s.withdraw ⟨r, .claim source, false, .none⟩ source why = State.claimOver { s with
      out := { s.out with entries := before ++ after }
      events := postTo s.events (.claimDone r 0 source (some why)) } r source false := by
  have herase : (before ++ (⟨r, .claim source, false, .none⟩ : OutEntry) :: after).eraseP (fun x => x.offerable && x.priority == 1)
      = before ++ after := by
    have hskip (x : OutEntry) (hx : x ∈ before) : ¬ (x.offerable && x.priority == 1) = true := Bool.eq_false_iff.1
      (offerable_of_before (e := ⟨r, .claim source, false, .none⟩) (claim_before hbefore) hx)
    rw [List.eraseP_append_right _ hskip, List.eraseP_cons_of_pos rfl]
  rw [State.withdraw, State.mapOut, hsplit, herase]
  rfl

/-- The sweep past a region whose SWEEP entry is over (R105, log 42). -/
theorem Sweep.pass_over_eq (w : Sweep) (r : Region) : { w.pass r with outstanding := none }
    = if w.phase = SweepPhase.inactive then { w with outstanding := none }
      else if r = 63 then { w with phase := .inactive, outstanding := none }
      else { w with position := r + 1, outstanding := none } := by
  rw [Sweep.pass]
  split
  · rfl
  · split <;> rfl

/-- After a withdrawal the row goes on as from the state that it leaves (R89). -/
theorem exec_lineIdle_of_withdrawn {s : State} {e : OutEntry} {source : ClaimSource} {why : LostReason} (hon : s.power = .on)
    (hreceives : s.ctl.state.receives = true) (hslot : s.line.slot = none) (hrx : s.line.rx = none)
    (h : s.synced.nextOffer = .withdrawn e source why) :
    exec .lineIdle s = exec .lineIdle (s.synced.withdraw e source why).drainEnd := by
  have hline : (s.synced.withdraw e source why).drainEnd.line = s.synced.line := by
    rw [State.drainEnd_line, State.withdraw_line]
  have hsynced : (s.synced.withdraw e source why).drainEnd.synced = (s.synced.withdraw e source why).drainEnd := by
    show { (s.synced.withdraw e source why).drainEnd with
      line := { (s.synced.withdraw e source why).drainEnd.line with syncing := false } } = _
    rw [show { (s.synced.withdraw e source why).drainEnd.line with syncing := false }
      = (s.synced.withdraw e source why).drainEnd.line by rw [hline]; rfl]
  rw [exec_lineIdle_of_no_rx hon hreceives hslot hrx, State.offer_withdrawn h,
    exec_lineIdle_of_no_rx (s := (s.synced.withdraw e source why).drainEnd) (by rw [State.drainEnd_power, State.withdraw_power]; exact hon)
      (by rw [State.drainEnd_ctl_state, State.withdraw_ctl]; exact hreceives) (by rw [hline]; exact hslot) (by rw [hline]; exact hrx),
    hsynced]

/-- Settles O36: the row as `State.offer` of the synced state, the choice by `pickEntry_of_split`. -/
theorem lineIdleOffers : Obligations.LineIdleOffers := by
  refine ⟨fun s hon => ⟨fun h => ?shut, fun f bit acked hslot hrx hreceives => ?dropped, fun hreceives hslot hrx =>
    ⟨fun hdue hline => ?beacon, fun h => ?nothing, fun before e after hdue hlisten hdoze hsplit he hclaim hbefore hafter => ?entry⟩⟩,
    fun s r source before after hon hst hslot hrx hdue hsplit hbefore => ?claim, fun s => rfl⟩
  case shut =>
    show Host.Outcome.next _ = _
    rw [State.whenOn_of_on _ hon, if_neg]
    rcases h with h | h
    · simp [h]
    · simp [h]
  case dropped =>
    rw [exec_lineIdle_dropFrame hon hreceives hslot, State.dropFrame_of_rx f bit acked hrx] <;>
      cases f <;> cases acked <;> rfl
  case beacon =>
    have hnext : s.synced.nextOffer = .beacon := if_pos (by rw [show s.synced.ctl = s.ctl from rfl, hdue, hline]; rfl)
    rw [exec_lineIdle_of_no_rx hon hreceives hslot hrx, State.offer_of_beacon hnext]
    rfl
  case nothing =>
    have hnext : s.synced.nextOffer = .nothing := by
      rcases h with hst | ⟨hdue, hrest⟩
      · rw [State.nextOffer, show s.synced.ctl.state = .listening from hst]
        simp [StationState.onLine, StationState.offersEntries]
      · by_cases hoffers : s.ctl.state.offersEntries = true
        · have hnone : ∀ x ∈ s.out.entries, x.offerable = false := hrest.resolve_left fun hst => by
            rw [hst] at hoffers
            cases hoffers
          exact State.nextOffer_of_no_pick (s := s.synced) hdue (pickEntry_of_none hnone)
        · rw [State.nextOffer, show s.synced.ctl = s.ctl from rfl, hdue, Bool.false_and, if_neg Bool.false_ne_true, if_neg hoffers]
    rw [exec_lineIdle_of_no_rx hon hreceives hslot hrx, State.offer_of_nothing hnext]
    rfl
  case entry =>
    have hnext : s.synced.nextOffer = .entry e := by
      have hpick : pickEntry s.synced.out.entries = some e :=
        (congrArg pickEntry hsplit).trans (pickEntry_of_split he hbefore hafter)
      rw [State.nextOffer_of_pick (s := s.synced) hdue (StationState.offersEntries_of_receives hreceives hlisten hdoze) hpick]
      exact State.offerOf_of_not_claim hclaim
    obtain ⟨hregion, hsending, hdoom⟩ := s.synced.startSending_kept e
    refine ⟨s.synced.frameOf e, s.synced.startSending e, ?_, hregion, hsending, hdoom, fun u hu => ?_, fun p force hf hp => ?_,
      fun i hi => ?_⟩
    · rw [exec_lineIdle_of_no_rx hon hreceives hslot hrx, State.offer_of_entry hnext, State.sendEntry_of_split (s := s.synced) hsplit he hbefore]
      rfl
    · rw [State.startSending, State.frameOf, hu]
      exact ⟨rfl, rfl⟩
    · have hp' : s.synced.pullOf e.region = some p := hp
      have hr := State.pullOf_region hp
      have hforce : s.synced.pullForce p = (s.table[e.region].copy == .fetching .damaged || p.taken) := by
        simp only [State.pullForce, hr]
        rfl
      rw [State.startSending, State.frameOf, hf]
      dsimp only
      rw [hp']
      dsimp only
      rw [hforce]
      exact ⟨rfl, rfl⟩
    · rw [State.startSending, State.frameOf, hi]
      exact ⟨rfl, rfl⟩
  case claim =>
    intro outrun
    have hreceives : s.ctl.state.receives = true := by rcases hst with hst | hst | hst <;> rw [hst] <;> rfl
    have hoffers : s.ctl.state.offersEntries = true := by rcases hst with hst | hst | hst <;> rw [hst] <;> rfl
    have hnext : s.synced.nextOffer = s.synced.offerOf ⟨r, .claim source, false, .none⟩ := by
      have hpick : pickEntry s.synced.out.entries = some ⟨r, .claim source, false, .none⟩ :=
        (congrArg pickEntry hsplit).trans (pickEntry_of_split rfl (claim_before hbefore) fun x _ _ => claim_after x)
      exact State.nextOffer_of_pick (s := s.synced) hdue hoffers hpick
    refine ⟨fun hcopy hnot hepoch => ?offered, fun h => ?withdrawn⟩
    case offered =>
      have hreason : s.synced.withdrawReason r = none :=
        (State.withdrawReason_of_current (s := s.synced) hcopy hnot).trans (if_neg hepoch)
      have hentry : s.synced.nextOffer = .entry ⟨r, .claim source, false, .none⟩ := by
        rw [hnext, State.offerOf]
        dsimp only
        rw [hreason]
      rw [exec_lineIdle_of_no_rx hon hreceives hslot hrx, State.offer_of_entry hentry,
        State.sendEntry_of_split (s := s.synced) hsplit rfl (claim_before hbefore)]
      rfl
    case withdrawn =>
      have hwhy : ∃ why, s.synced.withdrawReason r = some why ∧ (why = .exhausted ↔ s.table[r].copy = .current ∧ ¬ outrun)
          ∧ why ≠ .refused := by
        by_cases hcase : s.table[r].copy ≠ .current ∨ outrun
        · exact ⟨.notCurrent, State.withdrawReason_of_not_current (s := s.synced) hcase, by simp; tauto, by simp⟩
        · obtain ⟨hcopy, hnot⟩ := not_or.1 hcase
          have hcopy := not_not.1 hcopy
          have hepoch := (h.resolve_left (not_not_intro hcopy)).resolve_left hnot
          exact ⟨.exhausted, (State.withdrawReason_of_current (s := s.synced) hcopy hnot).trans (if_pos hepoch),
            iff_of_true rfl ⟨hcopy, hnot⟩, by simp⟩
      obtain ⟨why, hwhy, hexhausted, hrefused⟩ := hwhy
      have hoffer : s.synced.nextOffer = .withdrawn ⟨r, .claim source, false, .none⟩ source why := by
        rw [hnext, State.offerOf]
        dsimp only
        rw [hwhy]
      have hexec := exec_lineIdle_of_withdrawn hon hreceives hslot hrx hoffer
      rw [State.withdraw_of_split (s := s.synced) why hsplit hbefore] at hexec
      refine ⟨why, hexhausted, hrefused, fun hsource => ?_, fun hsource => ?_⟩
      · subst hsource
        exact hexec
      · subst hsource
        rw [hexec, State.claimOver]
        dsimp only
        rw [Sweep.pass_over_eq]
        rfl

end Sys2Proof.Machine
end

section
/-! SUPPORT. The content bytes of a frame read back (R195, R197, R198). -/

namespace Sys2Proof
open Machine

-- One proof at a time: the proofs that wait for each other would hold the memory of the whole text.
set_option Elab.async false

/-! ### Numbers and stamps in bytes (Table 11-1) -/

theorem natBE_foldl (bytes : List Byte) (acc : Nat) :
    bytes.foldl (fun acc b => acc * 256 + b.toNat) acc = acc * 256 ^ bytes.length + natBE bytes := by
  induction bytes generalizing acc with
  | nil => simp [natBE]
  | cons b bytes ih =>
    rw [natBE, List.foldl_cons, List.foldl_cons, ih, ih (0 * 256 + b.toNat), List.length_cons, Nat.pow_succ]
    ring

theorem natBE_cons (b : Byte) (bytes : List Byte) : natBE (b :: bytes) = b.toNat * 256 ^ bytes.length + natBE bytes := by
  rw [natBE, List.foldl_cons, natBE_foldl]
  simp

theorem natBE_bytesBE (n x : Nat) : natBE (bytesBE n x) = x % 256 ^ n := by
  induction n with
  | zero => rw [bytesBE, Nat.pow_zero, Nat.mod_one]; rfl
  | succ n ih =>
    rw [bytesBE, natBE_cons, ih, bytesBE_length, BitVec.toNat_ofNat, Nat.pow_succ 256 n, Nat.mod_mul,
      Nat.add_comm, Nat.mul_comm (256 ^ n)]

/-- A number that fits in its bytes is read back (R195). -/
theorem natBE_bytesBE_of_lt {n x : Nat} (h : x < 256 ^ n) : natBE (bytesBE n x) = x := by
  rw [natBE_bytesBE, Nat.mod_eq_of_lt h]

theorem ofNat_natBE_bytesBE_two (x : BitVec 16) : BitVec.ofNat 16 (natBE (bytesBE 2 x.toNat)) = x := by
  rw [natBE_bytesBE_of_lt x.isLt, BitVec.ofNat_toNat, BitVec.setWidth_eq]

theorem ofNat_natBE_bytesBE_six (x : BitVec 48) : BitVec.ofNat 48 (natBE (bytesBE 6 x.toNat)) = x := by
  rw [natBE_bytesBE_of_lt x.isLt, BitVec.ofNat_toNat, BitVec.setWidth_eq]

theorem stampOfBytes_stampBytes (s : Stamp) : stampOfBytes (stampBytes s) = s := by
  rw [stampOfBytes, stampBytes, List.take_left' (bytesBE_length _ _), List.drop_left' (bytesBE_length _ _), ofNat_natBE_bytesBE_two,
    ofNat_natBE_bytesBE_six]

theorem numByte_toNat {n : Nat} (h : n ≤ 256) (i : Fin n) : (numByte i).toNat = i.val := by
  rw [numByte, BitVec.toNat_ofNat, Nat.mod_eq_of_lt (Nat.lt_of_lt_of_le i.isLt h)]

theorem regionOfByte_numByte (r : Region) : regionOfByte (numByte r) = some r :=
  regionOfByte_of_eq (numByte_toNat (by decide) r)

theorem chunkOfByte_numByte (k : Chunk) : chunkOfByte (numByte k) = some k := by
  have h := numByte_toNat (by decide) k
  rw [chunkOfByte, dif_pos (by rw [h]; exact k.isLt)]
  exact congrArg some (Fin.ext h)

theorem modeOfByte_modeByte (m : BeaconMode) : modeOfByte (modeByte m) = some m := by
  cases m <;> rfl

/-! ### The census of a beacon (Table 11-3) -/

theorem censusOfBytes_of_entries (es : List CensusEntry) : censusOfBytes es.length (es.flatMap censusBytes) = some es := by
  induction es with
  | nil => rfl
  | cons e es ih =>
    have htake : (stampBytes e.stamp ++ es.flatMap censusBytes).take 8 = stampBytes e.stamp := List.take_left' (stampBytes_length _)
    have hdrop : (stampBytes e.stamp ++ es.flatMap censusBytes).drop 8 = es.flatMap censusBytes := List.drop_left' (stampBytes_length _)
    have hlong : 8 ≤ (stampBytes e.stamp ++ es.flatMap censusBytes).length := by
      rw [List.length_append, stampBytes_length]
      omega
    show censusOfBytes (es.length + 1) (numByte e.region :: (stampBytes e.stamp ++ es.flatMap censusBytes)) = _
    rw [censusOfBytes, if_pos hlong, htake, hdrop, regionOfByte_numByte, ih, stampOfBytes_stampBytes]

theorem flatMap_censusBytes_length (es : List CensusEntry) : (es.flatMap censusBytes).length = 9 * es.length := by
  induction es with
  | nil => rfl
  | cons e es ih =>
    rw [List.flatMap_cons, List.length_append, ih, censusBytes, List.length_cons, stampBytes_length, List.length_cons]
    omega

/-! ### The header (R27, R197) -/

theorem Frame.kindPriority_le (f : Frame) : f.kindPriority ≤ 4 := by
  cases f <;> simp [Frame.kindPriority]

theorem Frame.header_toNat (f : Frame) : f.header.toNat = f.kindPriority * 16 + f.origin.val := by
  have hkind := f.kindPriority_le
  have horigin := f.origin.isLt
  rw [Frame.header, BitVec.toNat_ofNat, Nat.mod_eq_of_lt (by omega)]

theorem Frame.header_kind (f : Frame) : f.header.toNat / 16 = f.kindPriority := by
  have horigin := f.origin.isLt
  rw [f.header_toNat]
  omega

theorem Frame.header_origin (f : Frame) : (⟨f.header.toNat % 16, Nat.mod_lt _ (by decide)⟩ : Station) = f.origin := by
  have horigin := f.origin.isLt
  refine Fin.ext ?_
  show f.header.toNat % 16 = _
  rw [f.header_toNat]
  omega

/-! ### The payloads of the five kinds (Tables 11-3 to 11-7) -/

theorem BeaconFrame.inRange_count {b : BeaconFrame} (h : b.inRange = true) : b.census.length ≤ 4 := by
  simp only [BeaconFrame.inRange, Bool.and_eq_true, decide_eq_true_eq] at h
  exact h.1.1.2

theorem beaconOfPayload_payload {b : BeaconFrame} (h : b.inRange = true) :
    beaconOfPayload b.origin (Frame.beacon b).payload = some (.beacon b) := by
  have hcount := b.inRange_count h
  have hk : (BitVec.ofNat 8 b.census.length).toNat = b.census.length := by
    rw [BitVec.toNat_ofNat, Nat.mod_eq_of_lt (by omega)]
  have hmembers := ofNat_natBE_bytesBE_two b.members
  rw [bytesBE, bytesBE, bytesBE] at hmembers
  rw [Frame.payload, bytesBE, bytesBE, bytesBE]
  show beaconOfPayload b.origin (modeByte b.mode :: _ :: _ :: BitVec.ofNat 8 b.census.length :: b.census.flatMap censusBytes) = _
  rw [beaconOfPayload, modeOfByte_modeByte, hk, censusOfBytes_of_entries]
  dsimp only
  rw [hmembers]

theorem claimOfPayload_payload (c : ClaimFrame) : claimOfPayload c.origin (Frame.claim c).payload = some (.claim c) := by
  rw [Frame.payload, claimOfPayload, regionOfByte_numByte]
  dsimp only
  rw [if_pos (stampBytes_length _), stampOfBytes_stampBytes]

theorem pullOfPayload_payload (p : PullFrame) : pullOfPayload p.origin (Frame.pull p).payload = some (.pull p) := by
  have htake (rest : List Byte) : (stampBytes p.stamp ++ rest).take 8 = stampBytes p.stamp := List.take_left' (stampBytes_length _)
  have hdrop (rest : List Byte) : (stampBytes p.stamp ++ rest).drop 8 = rest := List.drop_left' (stampBytes_length _)
  rw [Frame.payload]
  show pullOfPayload p.origin (numByte p.region :: (stampBytes p.stamp ++ [if p.force then 1 else 0])) = _
  rw [pullOfPayload, regionOfByte_numByte, hdrop, htake, stampOfBytes_stampBytes]
  obtain ⟨origin, region, stamp, force⟩ := p
  cases force <;> rfl

theorem UpdateFrame.inRange_sizes {u : UpdateFrame} (h : u.inRange = true) : u.offset < 4096 ∧ u.data.length ≤ 256 := by
  simp only [UpdateFrame.inRange, updateSpanOk, Bool.and_eq_true, decide_eq_true_eq] at h
  exact ⟨h.2.1.2, h.2.1.1.2⟩

/-- The fields of an UPDATE after its region: epoch, base, result, offset, length and data (Table 11-6). -/
def updateFields (u : UpdateFrame) : List Byte :=
  bytesBE 2 u.ownerEpoch.toNat ++ (bytesBE 6 u.base.toNat ++ (bytesBE 6 u.result.toNat ++ (bytesBE 2 u.offset
    ++ (bytesBE 2 u.data.length ++ u.data))))

theorem update_payload (u : UpdateFrame) : (Frame.update u).payload = numByte u.region :: updateFields u := by
  simp only [Frame.payload, updateFields, List.cons_append, List.append_assoc]

theorem updateFields_drop (u : UpdateFrame) : (updateFields u).drop 2 = bytesBE 6 u.base.toNat ++ (bytesBE 6 u.result.toNat
      ++ (bytesBE 2 u.offset ++ (bytesBE 2 u.data.length ++ u.data)))
    ∧ (updateFields u).drop 8 = bytesBE 6 u.result.toNat ++ (bytesBE 2 u.offset ++ (bytesBE 2 u.data.length ++ u.data))
    ∧ (updateFields u).drop 14 = bytesBE 2 u.offset ++ (bytesBE 2 u.data.length ++ u.data)
    ∧ (updateFields u).drop 16 = bytesBE 2 u.data.length ++ u.data ∧ (updateFields u).drop 18 = u.data := by
  have h2 : (updateFields u).drop 2 = _ := List.drop_left' (bytesBE_length _ _)
  have h8 : (updateFields u).drop 8 = bytesBE 6 u.result.toNat
      ++ (bytesBE 2 u.offset ++ (bytesBE 2 u.data.length ++ u.data)) := by
    rw [show 8 = 2 + 6 from rfl, ← List.drop_drop, h2, List.drop_left' (bytesBE_length _ _)]
  have h14 : (updateFields u).drop 14 = bytesBE 2 u.offset ++ (bytesBE 2 u.data.length ++ u.data) := by
    rw [show 14 = 8 + 6 from rfl, ← List.drop_drop, h8, List.drop_left' (bytesBE_length _ _)]
  have h16 : (updateFields u).drop 16 = bytesBE 2 u.data.length ++ u.data := by
    rw [show 16 = 14 + 2 from rfl, ← List.drop_drop, h14, List.drop_left' (bytesBE_length _ _)]
  have h18 : (updateFields u).drop 18 = u.data := by
    rw [show 18 = 16 + 2 from rfl, ← List.drop_drop, h16, List.drop_left' (bytesBE_length _ _)]
  exact ⟨h2, h8, h14, h16, h18⟩

theorem updateFields_length (u : UpdateFrame) : (updateFields u).length = 18 + u.data.length := by
  simp only [updateFields, List.length_append, bytesBE_length]
  omega

theorem updateOfPayload_payload {u : UpdateFrame} (h : u.inRange = true) :
    updateOfPayload u.origin (Frame.update u).payload = some (.update u) := by
  obtain ⟨hoffset, hlength⟩ := UpdateFrame.inRange_sizes h
  obtain ⟨h2, h8, h14, h16, h18⟩ := updateFields_drop u
  have hlen : natBE (bytesBE 2 u.data.length) = u.data.length := natBE_bytesBE_of_lt (by omega)
  have hepoch : (updateFields u).take 2 = bytesBE 2 u.ownerEpoch.toNat := List.take_left' (bytesBE_length _ _)
  rw [update_payload, updateOfPayload, regionOfByte_numByte]
  dsimp only
  rw [h2, h8, h14, h16, h18, hepoch, List.take_left' (bytesBE_length _ _), List.take_left' (bytesBE_length _ _),
    List.take_left' (bytesBE_length _ _), List.take_left' (bytesBE_length _ _), hlen,
    if_pos ⟨by rw [updateFields_length]; omega, rfl⟩, ofNat_natBE_bytesBE_two, ofNat_natBE_bytesBE_six, ofNat_natBE_bytesBE_six,
    natBE_bytesBE_of_lt (show u.offset < 256 ^ 2 by omega)]

theorem imageOfPayload_payload (i : ImageFrame) : imageOfPayload i.origin (Frame.image i).payload = some (.image i) := by
  have htake (rest : List Byte) : (stampBytes i.stamp ++ rest).take 8 = stampBytes i.stamp := List.take_left' (stampBytes_length _)
  have hdrop (rest : List Byte) : (stampBytes i.stamp ++ rest).drop 8 = rest := List.drop_left' (stampBytes_length _)
  have htargets := ofNat_natBE_bytesBE_two i.targets
  rw [bytesBE, bytesBE, bytesBE] at htargets
  have hpayload : (Frame.image i).payload
      = numByte i.region :: (stampBytes i.stamp ++ numByte i.chunk :: (bytesBE 2 i.targets.toNat ++ i.data)) := by
    simp only [Frame.payload, List.cons_append, List.append_assoc]
  rw [hpayload, imageOfPayload, regionOfByte_numByte, hdrop, htake, bytesBE, bytesBE, bytesBE]
  dsimp only [List.cons_append, List.nil_append]
  rw [chunkOfByte_numByte, stampOfBytes_stampBytes]
  dsimp only
  rw [htargets]

/-- Header and payload spell the frame (R197). -/
theorem frameOfBody_of_frame {f : Frame} (h : f.inRange = true) : frameOfBody (f.header :: f.payload) = some f := by
  rw [frameOfBody, f.header_kind, f.header_origin]
  cases f with
  | beacon b => exact beaconOfPayload_payload h
  | claim c => exact claimOfPayload_payload c
  | pull p => exact pullOfPayload_payload p
  | update u => exact updateOfPayload_payload h
  | image i => exact imageOfPayload_payload i

/-- Every frame in range is read back whole from its content bytes (R197, R198). -/
theorem decodeFrame_encodeFrame {f : Frame} (h : f.inRange = true) : decodeFrame (encodeFrame f) = some f := by
  have hcrc (x : Nat) : (bytesBE 2 x).length = 2 := bytesBE_length 2 x
  generalize hbody : f.header :: f.payload = body
  have hcontent : encodeFrame f = body ++ bytesBE 2 (crc16 body).toNat := by rw [encodeFrame, hbody]
  have hlen : (encodeFrame f).length - 2 = body.length := by rw [hcontent, List.length_append, hcrc, Nat.add_sub_cancel]
  rw [decodeFrame, hlen, hcontent, List.take_left, List.drop_left, if_pos rfl, ← hbody, frameOfBody_of_frame h]
  dsimp only
  rw [if_pos h]

/-! ### The length of the content (R197) -/

theorem Frame.payload_length (f : Frame) : f.payload.length = match f with
    | .beacon b => 4 + 9 * b.census.length
    | .claim _ => 9
    | .pull _ => 10
    | .update u => 19 + u.data.length
    | .image i => 12 + i.data.length := by
  cases f with
  | beacon b =>
    simp only [Frame.payload, List.cons_append, List.length_cons, List.length_append, bytesBE_length, flatMap_censusBytes_length]
    omega
  | claim c => simp only [Frame.payload, List.length_cons, stampBytes_length]
  | pull p => simp only [Frame.payload, List.cons_append, List.length_cons, List.length_append, stampBytes_length, List.length_nil]
  | update u =>
    rw [update_payload, List.length_cons, updateFields_length]
    exact Nat.add_right_comm _ _ _
  | image i =>
    simp only [Frame.payload, List.cons_append, List.length_cons, List.length_append, stampBytes_length, bytesBE_length]
    omega

theorem encodeFrame_length (f : Frame) : (encodeFrame f).length = f.payload.length + 3 := by
  rw [encodeFrame, List.length_append, bytesBE_length, List.length_cons]

theorem encodeFrame_cons (f : Frame) :
    encodeFrame f = f.header :: (f.payload ++ bytesBE 2 (crc16 (f.header :: f.payload)).toNat) := rfl

theorem lengthKnownAt_header (f : Frame) : lengthKnownAt f.header = match f with
    | .beacon _ => 5
    | .update _ => 20
    | .claim _ | .pull _ | .image _ => 1 := by
  rw [lengthKnownAt, f.header_kind]
  cases f <;> rfl

/-- The first bytes of a content tell its length (R197). -/
theorem contentLength_take {f : Frame} (h : f.inRange = true) :
    contentLength ((encodeFrame f).take (lengthKnownAt f.header)) = some (encodeFrame f).length := by
  have hlen := (encodeFrame_length f).trans (congrArg (· + 3) f.payload_length)
  rw [lengthKnownAt_header, hlen, encodeFrame_cons]
  cases f with
  | beacon b =>
    have hcount : b.census.length ≤ 4 := BeaconFrame.inRange_count h
    have hk : (BitVec.ofNat 8 b.census.length).toNat = b.census.length := by
      rw [BitVec.toNat_ofNat, Nat.mod_eq_of_lt (by omega)]
    rw [List.take_succ_cons, contentLength, Frame.header_kind, Frame.payload, bytesBE, bytesBE, bytesBE]
    show (some (BitVec.ofNat 8 b.census.length)).bind _ = _
    rw [Option.bind_some, hk, if_pos hcount]
    dsimp only
    exact congrArg some (by omega)
  | claim c => rw [List.take_succ_cons, contentLength, Frame.header_kind]; rfl
  | pull p => rw [List.take_succ_cons, contentLength, Frame.header_kind]; rfl
  | update u =>
    obtain ⟨-, hlength⟩ := UpdateFrame.inRange_sizes h
    obtain ⟨-, -, -, h16, -⟩ := updateFields_drop u
    have hlen : natBE (bytesBE 2 u.data.length) = u.data.length := natBE_bytesBE_of_lt (by omega)
    have hfield (crc : List Byte) : (((numByte u.region :: updateFields u ++ crc).take 19).drop 17).take 2
        = bytesBE 2 u.data.length := by
      rw [List.drop_take, List.take_take, List.cons_append, List.drop_succ_cons, List.drop_append_of_le_length
        (by rw [updateFields_length]; omega), h16, List.append_assoc]
      exact List.take_left' (bytesBE_length _ _)
    have hlong (crc : List Byte) : 19 ≤ ((numByte u.region :: updateFields u ++ crc).take 19).length := by
      rw [List.length_take, List.length_append, List.length_cons, updateFields_length]
      omega
    rw [List.take_succ_cons, contentLength, Frame.header_kind, update_payload]
    dsimp only [Frame.kindPriority]
    rw [if_pos (hlong _), hfield, hlen, if_pos hlength]
    exact congrArg some (by omega)
  | image i =>
    have hdata : i.data.length = 256 := by
      simp only [Frame.inRange, ImageFrame.inRange, Bool.and_eq_true, beq_iff_eq] at h
      exact h.2
    rw [List.take_succ_cons, contentLength, Frame.header_kind]
    show some 271 = some (12 + i.data.length + 3)
    rw [hdata]

end Sys2Proof
end

section
/-! SUPPORT. The cells of a frame as a receiver reads them and as its transmitter reads them back (R29, R34 to R36, R196). -/

namespace Sys2Proof
open Machine

-- One proof at a time: the proofs that wait for each other would hold the memory of the whole text.
set_option Elab.async false

/-! ### Bytes and bits (R195) -/

theorem byteOfBits_getLsbD (b : Byte) : byteOfBits (b.getLsbD 7) (b.getLsbD 6) (b.getLsbD 5) (b.getLsbD 4) (b.getLsbD 3)
    (b.getLsbD 2) (b.getLsbD 1) (b.getLsbD 0) = b := by
  revert b
  decide

theorem bytesOfBits_byteBits (b : Byte) (rest : List Bool) : bytesOfBits (byteBits b ++ rest) = b :: bytesOfBits rest :=
  congrArg (· :: bytesOfBits rest) (byteOfBits_getLsbD b)

theorem bytesOfBits_flatMap (bytes : List Byte) : bytesOfBits (bytes.flatMap byteBits) = bytes := by
  induction bytes with
  | nil => rfl
  | cons b bytes ih => rw [List.flatMap_cons, bytesOfBits_byteBits, ih]

/-! ### Content groups (R196) -/

theorem bit_bitCell (bit : Bool) : (bitCell bit).bit = bit := by
  cases bit <;> rfl

theorem groupCells_length (b : Byte) : (groupCells b).length = 9 := rfl

theorem flatMap_groupCells_length (bytes : List Byte) : (bytes.flatMap groupCells).length = 9 * bytes.length := by
  induction bytes with
  | nil => rfl
  | cons b bytes ih =>
    rw [List.flatMap_cons, List.length_append, groupCells_length, ih, List.length_cons]
    omega

theorem readGroup_groupCells (b : Byte) (rest : List LineCell) : readGroup (groupCells b ++ rest) = some (b, rest) := by
  show some (byteOfBits _ _ _ _ _ _ _ _, rest) = _
  simp only [bit_bitCell, byteOfBits_getLsbD]

/-- A group whose marker is read recessive (R29). -/
theorem readGroup_of_recessive (b : Byte) (rest : List LineCell) :
    readGroup ((byteBits b).map bitCell ++ .recessive :: rest) = none := rfl

theorem readGroups_of_content (bytes : List Byte) (rest : List LineCell) :
    readGroups bytes.length (bytes.flatMap groupCells ++ rest) = some (bytes, rest) := by
  induction bytes with
  | nil => rfl
  | cons b bytes ih =>
    rw [List.flatMap_cons, List.append_assoc, List.length_cons, readGroups, readGroup_groupCells]
    dsimp only
    rw [ih]

theorem readGroups_of_take {k : Nat} (bytes : List Byte) (rest : List LineCell) (h : k ≤ bytes.length) :
    readGroups k (bytes.flatMap groupCells ++ rest) = some (bytes.take k, (bytes.drop k).flatMap groupCells ++ rest) := by
  have hsplit : bytes.flatMap groupCells ++ rest
      = (bytes.take k).flatMap groupCells ++ ((bytes.drop k).flatMap groupCells ++ rest) := by
    rw [← List.append_assoc, ← List.flatMap_append, List.take_append_drop]
  have hlen : (bytes.take k).length = k := List.length_take_of_le h
  have hread := readGroups_of_content (bytes.take k) ((bytes.drop k).flatMap groupCells ++ rest)
  rw [hsplit]
  rwa [hlen] at hread

/-- No run of groups is read past one whose marker is wrong (R29). -/
theorem readGroups_of_recessive {k : Nat} (bytes : List Byte) (b : Byte) (rest : List LineCell) (h : bytes.length < k) :
    readGroups k (bytes.flatMap groupCells ++ ((byteBits b).map bitCell ++ .recessive :: rest)) = none := by
  induction bytes generalizing k with
  | nil =>
    obtain ⟨k, rfl⟩ := Nat.exists_eq_succ_of_ne_zero (Nat.ne_of_gt h)
    rw [List.flatMap_nil, List.nil_append, readGroups, readGroup_of_recessive]
  | cons c bytes ih =>
    obtain ⟨k, rfl⟩ := Nat.exists_eq_succ_of_ne_zero (Nat.ne_of_gt (Nat.lt_of_le_of_lt (Nat.zero_le _) h))
    rw [List.flatMap_cons, List.append_assoc, readGroups, readGroup_groupCells]
    dsimp only
    rw [ih (Nat.lt_of_succ_lt_succ h)]

/-! ### The content of a frame (R197) -/

theorem lengthKnownAt_le {f : Frame} (h : f.inRange = true) : lengthKnownAt f.header ≤ (encodeFrame f).length := by
  rw [lengthKnownAt_header, encodeFrame_length, Frame.payload_length]
  cases f <;> simp only <;> omega

theorem readContent_encodeFrame {f : Frame} (h : f.inRange = true) (rest : List LineCell) :
    readContent ((encodeFrame f).flatMap groupCells ++ rest) = some (encodeFrame f, rest) := by
  have hfirst : readGroup ((encodeFrame f).flatMap groupCells ++ rest) = some (f.header,
      (f.payload ++ bytesBE 2 (crc16 (f.header :: f.payload)).toNat).flatMap groupCells ++ rest) := by
    rw [encodeFrame_cons, List.flatMap_cons, List.append_assoc, readGroup_groupCells]
  rw [readContent, hfirst]
  dsimp only
  rw [readGroups_of_take _ _ (lengthKnownAt_le h)]
  dsimp only
  rw [contentLength_take h, Option.bind_some, readGroups_of_content]

/-- A content with a marker read recessive is no content (R29). -/
theorem readContent_of_recessive {f : Frame} (h : f.inRange = true) {before after : List Byte} {b : Byte}
    (hsplit : encodeFrame f = before ++ b :: after) (rest : List LineCell) :
    readContent (before.flatMap groupCells ++ ((byteBits b).map bitCell ++ .recessive :: rest)) = none := by
  rw [readContent]
  cases before with
  | nil => rw [List.flatMap_nil, List.nil_append, readGroup_of_recessive]
  | cons c before =>
    have hc : c = f.header := by
      rw [encodeFrame_cons] at hsplit
      exact (List.cons.inj hsplit).1.symm
    have hknown := contentLength_take h
    have hlen : (c :: before).length < (encodeFrame f).length := by
      rw [hsplit, List.length_append]
      exact Nat.lt_add_of_pos_right (Nat.succ_pos _)
    have hfirst : readGroup ((c :: before).flatMap groupCells ++ ((byteBits b).map bitCell ++ .recessive :: rest))
        = some (c, before.flatMap groupCells ++ ((byteBits b).map bitCell ++ .recessive :: rest)) := by
      rw [List.flatMap_cons, List.append_assoc, readGroup_groupCells]
    rw [hfirst, hc]
    dsimp only
    rw [hc] at hlen hsplit
    by_cases hk : lengthKnownAt f.header ≤ (f.header :: before).length
    · rw [readGroups_of_take _ _ hk]
      dsimp only
      rw [hsplit, List.take_append_of_le_length hk] at hknown
      rw [hknown, ← hsplit, Option.bind_some, readGroups_of_recessive _ _ _ hlen]
    · rw [readGroups_of_recessive _ _ _ (Nat.lt_of_not_le hk)]

/-! ### The tail of a frame (R33 to R35, R196) -/

theorem ackCells_length (marker : LineCell) (ack : StationMap) : (ackCells marker ack).length = 18 := rfl

theorem slotCell_beq (ack : StationMap) (n : Nat) : (slotCell ack n == .dominant) = ack.getLsbD n := by
  rw [slotCell]
  cases ack.getLsbD n <;> rfl

theorem ackCells_slot (marker : LineCell) (ack : StationMap) (n : Station) :
    (ackCells marker ack)[if n.val < 8 then n.val else n.val + 1]? = some (slotCell ack n.val) := by
  obtain ⟨n, hn⟩ := n
  interval_cases n <;> rfl

theorem mapOfSlots_ackCells (marker : LineCell) (ack : StationMap) : mapOfSlots (ackCells marker ack) = ack := by
  refine BitVec.eq_of_getLsbD_eq fun i hi => ?_
  have hslot : inMap (mapOfSlots (ackCells marker ack)) ⟨i, hi⟩
      = ((ackCells marker ack)[if i < 8 then i else i + 1]? == some .dominant) := inMap_mapOf _ ⟨i, hi⟩
  have hcell : (ackCells marker ack)[if i < 8 then i else i + 1]? = some (slotCell ack i) := ackCells_slot marker ack ⟨i, hi⟩
  have hbit : (some (slotCell ack i) == some LineCell.dominant) = (slotCell ack i == .dominant) := rfl
  rw [hcell, hbit, slotCell_beq] at hslot
  exact hslot

/-- The cells of a frame after its content. -/
def tailCells (ack : StationMap) : List LineCell := [.dominant, .dominant] ++ ackCells .dominant ack ++ delimiterCells

theorem tailCells_length (ack : StationMap) : (tailCells ack).length = 24 := rfl

theorem frameCells_eq (content : List Byte) (ack : StationMap) :
    frameCells content ack = .dominant :: (content.flatMap groupCells ++ tailCells ack) := by
  simp only [frameCells, tailCells, List.append_assoc, List.cons_append, List.nil_append]

theorem frameCells_length (content : List Byte) (ack : StationMap) : (frameCells content ack).length = 9 * content.length + 25 := by
  rw [frameCells_eq, List.length_cons, List.length_append, flatMap_groupCells_length, tailCells_length]

theorem readTail_tailCells (f : Frame) (ack : StationMap) : readTail f (tailCells ack) = .complete f ack := by
  have hack : ((tailCells ack).drop 2).take 18 = ackCells .dominant ack := rfl
  rw [readTail, hack, if_neg (by exact not_not_intro rfl), if_pos ⟨rfl, rfl, rfl⟩, mapOfSlots_ackCells]

/-- The cells after an intact content decide how the frame ends (R33 to R35). -/
theorem readCells_of_content {f : Frame} (h : f.inRange = true) (tail : List LineCell) :
    readCells (.dominant :: ((encodeFrame f).flatMap groupCells ++ tail)) = readTail f tail := by
  rw [readCells, readContent_encodeFrame h]
  dsimp only
  rw [decodeFrame_encodeFrame h]

theorem set_cons_flatMap {content : List Byte} {tail : List LineCell} {c : LineCell} (i : Nat) (x : LineCell) :
    (c :: (content.flatMap groupCells ++ tail)).set (9 * content.length + 1 + i) x
      = c :: (content.flatMap groupCells ++ tail.set i x) := by
  rw [show 9 * content.length + 1 + i = 9 * content.length + i + 1 by omega, List.set_cons_succ,
    List.set_append_right _ _ (by rw [flatMap_groupCells_length]; omega), flatMap_groupCells_length, Nat.add_sub_cancel_left]

/-- The set of a group's marker in a content. -/
theorem set_marker {before after : List Byte} {b : Byte} {tail : List LineCell} :
    ((before ++ b :: after).flatMap groupCells ++ tail).set (9 * before.length + 8) .recessive
      = before.flatMap groupCells ++ ((byteBits b).map bitCell ++ .recessive :: (after.flatMap groupCells ++ tail)) := by
  rw [List.flatMap_append, List.flatMap_cons, List.append_assoc, List.append_assoc,
    List.set_append_right _ _ (by rw [flatMap_groupCells_length]; omega), flatMap_groupCells_length, Nat.add_sub_cancel_left]
  rfl

/-! ### The transmitter's readback (R28, R36) -/

/-- An attempt whose cells are read back as they were driven, but where they are not checked, is not ended by them (R34). -/
theorem readback_none (checks : List CellCheck) : ∀ ds rs : List LineCell,
    (∀ i : Nat, checks[i]? = some .unchecked ∨ ds[i]? = rs[i]?) → readback checks ds rs = none := by
  induction checks with
  | nil => intro ds rs _; rw [readback.eq_def]
  | cons c checks ih =>
    intro ds rs h
    have hrest (d r : LineCell) (ds rs : List LineCell) (h : ∀ i : Nat, (c :: checks)[i]? = some .unchecked ∨ (d :: ds)[i]? = (r :: rs)[i]?) :
        readback checks ds rs = none := ih ds rs fun i => h (i + 1)
    cases ds with
    | nil => rw [readback.eq_def]
    | cons d ds =>
      cases rs with
      | nil => rw [readback.eq_def]
      | cons r rs =>
        rcases h 0 with hc | hd
        · have hc : c = .unchecked := Option.some.inj hc
          subst hc
          rw [readback.eq_def]
          exact hrest d r ds rs h
        · have hd : d = r := Option.some.inj hd
          subst hd
          rw [readback.eq_def]
          cases c <;> cases d <;> exact hrest _ _ ds rs h

/-- The place of the line fault that a check finds (R36). -/
def CellCheck.place : CellCheck → FaultPlace
  | .arbitration | .unchecked => .content
  | .both place => place

/-- The first driven dominant cell read recessive outside the ack field is a line fault (R36). -/
theorem readback_fault (i : Nat) : ∀ (checks : List CellCheck) (ds rs : List LineCell) (c : CellCheck),
    (∀ j : Nat, j < i → checks[j]? = some .unchecked ∨ ds[j]? = rs[j]?) → checks[i]? = some c → c ≠ .unchecked →
    ds[i]? = some .dominant → rs[i]? = some .recessive → readback checks ds rs = some (.lineFault c.place) := by
  induction i with
  | zero =>
    intro checks ds rs c _ hc hchecked hd hr
    obtain _ | ⟨c', checks⟩ := checks
    · cases hc
    obtain _ | ⟨d, ds⟩ := ds
    · cases hd
    obtain _ | ⟨r, rs⟩ := rs
    · cases hr
    obtain rfl := Option.some.inj hc
    obtain rfl := Option.some.inj hd
    obtain rfl := Option.some.inj hr
    rw [readback.eq_def]
    cases c' with
    | unchecked => exact absurd rfl hchecked
    | arbitration | both place => rfl
  | succ i ih =>
    intro checks ds rs c hsame hc hchecked hd hr
    obtain _ | ⟨c', checks⟩ := checks
    · cases hc
    obtain _ | ⟨d, ds⟩ := ds
    · cases hd
    obtain _ | ⟨r, rs⟩ := rs
    · cases hr
    have hrest := ih checks ds rs c (fun j hj => hsame (j + 1) (Nat.succ_lt_succ hj)) hc hchecked hd hr
    rw [readback.eq_def]
    rcases hsame 0 (Nat.succ_pos i) with hc' | hd'
    · obtain rfl : c' = .unchecked := Option.some.inj hc'
      exact hrest
    · obtain rfl : d = r := Option.some.inj hd'
      cases c' <;> cases d <;> exact hrest

/-- The checks up to the ack field, of the ack field, and of the end delimiter (R196). -/
theorem cellChecks_eq {n : Nat} (hn : 0 < n) : ∃ head : List CellCheck, head.length = 9 * n + 3
    ∧ (∀ i, i < 9 * n + 3 → ∃ c, head[i]? = some c ∧ c ≠ .unchecked ∧ c.place = if i < 9 * n + 1 then .content else .tail)
    ∧ cellChecks n = head ++ (List.replicate 18 .unchecked ++ List.replicate 4 (.both .tail)) := by
  refine ⟨List.replicate 10 .arbitration ++ (List.replicate (9 * (n - 1)) (.both .content) ++ List.replicate 2 (.both .tail)), ?_,
    fun i hi => ?_, ?_⟩
  · simp only [List.length_append, List.length_replicate]
    omega
  · by_cases hstart : i < 10
    · refine ⟨.arbitration, ?_, by simp, (if_pos (by omega)).symm⟩
      rw [List.getElem?_append_left (by rw [List.length_replicate]; exact hstart), List.getElem?_replicate_of_lt hstart]
    · rw [List.getElem?_append_right (by rw [List.length_replicate]; omega), List.length_replicate]
      by_cases hcontent : i < 9 * n + 1
      · refine ⟨.both .content, ?_, by simp, (if_pos hcontent).symm⟩
        rw [List.getElem?_append_left (by rw [List.length_replicate]; omega), List.getElem?_replicate_of_lt (by omega)]
      · refine ⟨.both .tail, ?_, by simp, (if_neg hcontent).symm⟩
        rw [List.getElem?_append_right (by rw [List.length_replicate]; omega), List.length_replicate,
          List.getElem?_replicate_of_lt (by omega)]
  · simp only [cellChecks, List.append_assoc]

theorem cellChecks_unchecked {n i : Nat} (hn : 0 < n) (hlow : 9 * n + 3 ≤ i) (hhigh : i < 9 * n + 21) :
    (cellChecks n)[i]? = some .unchecked := by
  obtain ⟨head, hlen, -, heq⟩ := cellChecks_eq hn
  rw [heq, List.getElem?_append_right (by omega), hlen,
    List.getElem?_append_left (by rw [List.length_replicate]; omega), List.getElem?_replicate_of_lt (by omega)]

theorem cellChecks_checked {n i : Nat} (hn : 0 < n) (h : i < 9 * n + 3 ∨ 9 * n + 21 ≤ i) (hi : i < 9 * n + 25) :
    ∃ c, (cellChecks n)[i]? = some c ∧ c ≠ .unchecked ∧ c.place = if i < 9 * n + 1 then .content else .tail := by
  obtain ⟨head, hlen, hhead, heq⟩ := cellChecks_eq hn
  rw [heq]
  rcases h with h | h
  · rw [List.getElem?_append_left (by omega)]
    exact hhead i h
  · refine ⟨.both .tail, ?_, by simp, (if_neg (by omega)).symm⟩
    rw [List.getElem?_append_right (by omega), hlen, List.getElem?_append_right (by rw [List.length_replicate]; omega),
      List.length_replicate, List.getElem?_replicate_of_lt (by omega)]

/-- The cells that the transmitter drives differ from those of the line in the ack field alone (R34). -/
theorem frameCells_driven (content : List Byte) (ack : StationMap) {i : Nat}
    (h : i < 9 * content.length + 3 ∨ 9 * content.length + 21 ≤ i) : (frameCells content 0)[i]? = (frameCells content ack)[i]? := by
  have hsplit (m : StationMap) : frameCells content m
      = (.dominant :: (content.flatMap groupCells ++ [.dominant, .dominant])) ++ (ackCells .dominant m ++ delimiterCells) := by
    simp only [frameCells, List.append_assoc, List.cons_append, List.nil_append]
  have hlen : (LineCell.dominant :: (content.flatMap groupCells ++ [.dominant, .dominant])).length = 9 * content.length + 3 := by
    rw [List.length_cons, List.length_append, flatMap_groupCells_length]
    rfl
  rcases h with h | h
  · rw [hsplit, hsplit, List.getElem?_append_left (by omega), List.getElem?_append_left (by omega)]
  · have hread (m : StationMap) : (frameCells content m)[i]? = delimiterCells[i - (9 * content.length + 3) - 18]? := by
      rw [hsplit, List.getElem?_append_right (by omega), hlen, List.getElem?_append_right (by rw [ackCells_length]; omega),
        ackCells_length]
    rw [hread, hread]

theorem encodeFrame_length_pos (f : Frame) : 0 < (encodeFrame f).length := by
  rw [encodeFrame_length]
  omega

/-- Settles O53: content, cells and readback, each by its own lemma. -/
theorem frameContentRoundTrip : Obligations.FrameContentRoundTrip := by
  refine ⟨fun f => decodeFrame_encodeFrame, fun f ack h => ?_, fun bytes => ⟨bytesOfBits_flatMap bytes,
    fun b _ i hi => byteBits_getElem? b hi⟩⟩
  intro n cells
  have hcells : cells = .dominant :: ((encodeFrame f).flatMap groupCells ++ tailCells ack) := frameCells_eq _ ack
  refine ⟨frameCells_length _ ack, ?complete, ?sent, fun i hi => ?early, ?late, fun i hi => ?marker, fun i hi hlt hdriven => ?fault⟩
  case complete => rw [hcells, readCells_of_content h, readTail_tailCells]
  case sent =>
    have hsame (i : Nat) : (cellChecks n)[i]? = some .unchecked ∨ (frameCells (encodeFrame f) 0)[i]? = cells[i]? := by
      by_cases hi : i < 9 * n + 3 ∨ 9 * n + 21 ≤ i
      · exact .inr (frameCells_driven _ ack hi)
      · exact .inl (cellChecks_unchecked (encodeFrame_length_pos f) (by omega) (by omega))
    have hack : (cells.drop (9 * n + 3)).take 18 = ackCells .dominant ack := by
      have hdrop : cells.drop (9 * n + 3) = (tailCells ack).drop 2 := by
        rw [hcells, List.drop_succ_cons, ← List.drop_drop, show 9 * n = ((encodeFrame f).flatMap groupCells).length from
          (flatMap_groupCells_length _).symm, List.drop_left]
      rw [hdrop]
      rfl
    rw [attemptCommand]
    rw [readback_none _ _ _ hsame]
    dsimp only
    rw [hack, mapOfSlots_ackCells]
  case early =>
    rw [hcells, set_cons_flatMap, readCells_of_content h, readTail, if_pos]
    interval_cases i <;> simp [tailCells]
  case late =>
    rw [show 9 * n + 24 = 9 * (encodeFrame f).length + 1 + 23 by rfl, hcells, set_cons_flatMap, readCells_of_content h, readTail,
      if_neg (by exact not_not_intro rfl), if_neg]
    rintro ⟨-, -, hend⟩
    have hlast : (((tailCells ack).set 23 .recessive).drop 20).take 4 = [.recessive, .dominant, .dominant, .recessive] := rfl
    rw [hlast] at hend
    cases hend
  case marker =>
    obtain ⟨before, b, after, hsplit, hbefore⟩ : ∃ before b after, encodeFrame f = before ++ b :: after ∧ before.length = i :=
      ⟨(encodeFrame f).take i, (encodeFrame f)[i], (encodeFrame f).drop (i + 1),
        by rw [List.getElem_cons_drop, List.take_append_drop], List.length_take_of_le (Nat.le_of_lt hi)⟩
    rw [hcells, List.set_cons_succ, hsplit, ← hbefore, set_marker, readCells, readContent_of_recessive h hsplit]
  case fault =>
    obtain ⟨c, hc, hchecked, hplace⟩ := cellChecks_checked (encodeFrame_length_pos f) hi hlt
    have hlen : i < cells.length := by rw [frameCells_length]; exact hlt
    have hread : (cells.set i .recessive)[i]? = some .recessive := List.getElem?_set_self hlen
    have hsame (j : Nat) (hj : j < i) :
        (cellChecks n)[j]? = some .unchecked ∨ (frameCells (encodeFrame f) 0)[j]? = (cells.set i .recessive)[j]? := by
      rw [List.getElem?_set_ne (Nat.ne_of_gt hj)]
      by_cases hack : j < 9 * n + 3 ∨ 9 * n + 21 ≤ j
      · exact .inr (frameCells_driven _ ack hack)
      · exact .inl (cellChecks_unchecked (encodeFrame_length_pos f) (by omega) (by omega))
    rw [attemptCommand]
    rw [readback_fault i _ _ _ c hsame hc hchecked hdriven hread]
    exact congrArg (fun place => Instr.lineFault place) hplace

end Sys2Proof
end

section
/-! SUPPORT. What an invariant of the blocks' common state has to be kept by, once for all of them: the changes of which every
command consists. -/

namespace Sys2Proof.Machine

-- One proof at a time: the proofs that wait for each other would hold the memory of the whole text.
set_option Elab.async false

/-- `t` has of `s` all that the invariants on pulls, catch-up list, Outbox and ownership read: a frame under way may have been
given up, and a chunk read's data be marked for discarding. -/
structure SameCore (s t : State) : Prop where
  state : t.ctl.state = s.ctl.state
  number : t.ctl.number = s.ctl.number
  phase : t.ctl.leavePhase = s.ctl.leavePhase
  due : t.ctl.beaconDue = s.ctl.beaconDue
  timer : s.ctl.beaconTimer = none → t.ctl.beaconTimer = none
  slot : t.line.slot = s.line.slot ∨ t.line.slot = none
  rx : t.line.rx = s.line.rx ∨ t.line.rx = none
  port : t.port.state = s.port.state
  copy : ∀ r : Region, t.table[r].copy = s.table[r].copy
  stamp : ∀ r : Region, t.table[r].stamp = s.table[r].stamp
  owner : ∀ r : Region, t.table[r].owner = s.table[r].owner
  list : t.catchup.list = s.catchup.list
  parked : t.catchup.parked = s.catchup.parked
  pulls : t.catchup.pulls.map (·.region) = s.catchup.pulls.map (·.region)
  entries : t.out.entries = s.out.entries
  reserved : t.out.reserved = s.out.reserved
  hostClaim : t.out.hostClaim = s.out.hostClaim
  sweep : t.out.sweep = s.out.sweep
  serving : t.serving.map (fun v => (v.region, v.reading)) = s.serving.map (fun v => (v.region, v.reading))
  op : ∀ r k st, t.arb.op = some (.chunkRead r k st true) → s.arb.op = some (.chunkRead r k st true)

theorem SameCore.refl (s : State) : SameCore s s :=
  ⟨rfl, rfl, rfl, rfl, id, .inl rfl, .inl rfl, rfl, fun _ => rfl, fun _ => rfl, fun _ => rfl, rfl, rfl, rfl, rfl, rfl, rfl, rfl,
    rfl, fun _ _ _ => id⟩

/-- Serving and recording: the work of which the invariants know nothing. -/
def Work.isPlain : Work → Bool
  | .read _ | .setup _ _ => true
  | .write _ | .format _ _ => false

/-- The copy, the stamp and the owner stand. -/
def keepsCopy (f : RegionEntry → RegionEntry) : Prop := ∀ e, (f e).copy = e.copy ∧ (f e).stamp = e.stamp ∧ (f e).owner = e.owner

/-- The entries go back to WAITING, an UPDATE with another retry count. -/
def putsBack (f : OutEntry → OutEntry) : Prop :=
  ∀ e, (f e).region = e.region ∧ ((f e).sending = true → e.sending = true)
    ∧ ((f e).body = e.body ∨ ∃ u n, e.body = .update u ∧ (f e).body = .update { u with retries := n })

/-- What keeps an invariant that reads no more than `SameCore` names: each change, with what is known where a command makes it. -/
structure Invariant (P : State → Prop) : Prop where
  core {s t : State} : SameCore s t → P s → P t
  port {s : State} (f : Port → Port) :
    (∀ w, (f s.port).state = .working w → s.port.state = .working w ∨ w.isPlain = true) → P s → P (s.mapPort f)
  -- the Outbox
  discard {s : State} (p : OutEntry → Bool) (cut : Bool) : P s → P (s.discardEntries p cut)
  fewer {s : State} (es : List OutEntry) : es.Sublist s.out.entries → s.line.slot = none → P s →
    P (s.mapOut ({ · with entries := es }))
  putBack {s : State} (f : OutEntry → OutEntry) : putsBack f → s.line.slot = none → P s →
    P (s.mapOut fun o => { o with entries := o.entries.map f })
  sweepAct {s : State} : s.out.sweep.phase = .running → s.out.sweep.outstanding = none → P s → P s.sweepAct.1
  hostClaim {s : State} (r : Region) (guardPin : Bool) : s.ctl.state = .active → s.owns r = false →
    s.claimRefusal r guardPin = none → P s → P ((s.appendEntry r (.claim .host)).mapOut ({ · with hostClaim := some r }))
  queuePull {s : State} (p : PullRecord) : s.catchup.pulls ≠ [] → P s → P (s.queuePull p)
  sendBeacon {s : State} : s.nextOffer = .beacon → P s → P s.sendBeacon
  sendEntry {s : State} (e : OutEntry) : s.nextOffer = .entry e → s.line.slot = none → P s → P (s.sendEntry e)
  openFence {s : State} : s.port.state = .idle → P s → P s.openFence
  drainEnd {s : State} : P s → P s.drainEnd
  -- a WRITE
  takeWrite {s : State} (w : WriteWork) (guardPin : Bool) : s.port.state = .idle →
    s.writeRefusal w.region w.offset w.data.length guardPin = none → P s → P ((s.takeRoom w.region).work (.write w))
  abandon {s : State} (r : Region) : P s → P (s.abandonWrite r)
  conclude {s : State} (w : WriteWork) : s.port.state = .working (.write w) → P s → P (s.concludeWrite w)
  -- serving
  chunkRead {s : State} (r : Region) (k : Chunk) (stamp : Stamp) (live : Bool) :
    s.arb.op = some (.chunkRead r k stamp live) → P s → P (s.chunkRead r k stamp live)
  putServing {s : State} (v w : ServingRecord) : s.servingOf v.region = some v → w.region = v.region → w.reading = v.reading →
    P s → P (s.putServing w)
  requestRead {s : State} (r : Region) : P s → P (s.requestRead r)
  grantImage {s : State} (v : ServingRecord) : v ∈ s.serving → P s → P (s.grantImage v)
  serve {s : State} (r : Region) (q : Station) : s.ctl.state.working = true → P s → P (s.serve r q)
  endServing {s : State} (r : Region) : P s → P (s.endServing r)
  -- pulls and copies
  closePull {s : State} (r : Region) (park : Bool) : P s → P (s.closePull r park)
  opening {s : State} (r : Region) (n : Station) (k : Cause) : s.nextPull = some (r, n, k) → P s → P (s.opening r n k)
  endPull {s : State} (r : Region) (g : RegionEntry → Stamp) : (∃ p ∈ s.catchup.pulls, p.region = r) → P s →
    P ((s.mapEntry r fun e => { e with stamp := g e, copy := .current }).dropPull r)
  unpark {s : State} (r : Region) : P s → P (s.unpark r)
  markStale {s : State} (r : Region) (c : Cause) : s.line.slot = none → s.owns r = false → P s → P (s.markStale r c)
  setOwner {s : State} (r : Region) (o : Option Owner) : s.isSelf o = false → P s → P (s.mapEntry r ({ · with owner := o }))
  takeStamp {s : State} (r : Region) (stamp : Stamp) : s.line.slot = none → s.owns r = false → P s →
    P (s.mapEntry r ({ · with stamp := stamp }))
  startFormat {s : State} : s.ctl.state = .offline → P s → P (s.work (.format 0 0))
  formatStep {s : State} (r : Region) (k : Chunk) : s.port.state = .working (.format r k) → P s → P (s.formatStep r k)
  -- the station state
  halt {s : State} (c : HaltCause) : s.ctl.state ≠ .offline → P s → P (s.halt c)
  goOffline {s : State} : s.ctl.state = .leaving → s.ctl.leavePhase = .final → P s → P s.goOffline
  leavingSent {s : State} (b : BeaconFrame) (w : Option Region) (ack : StationMap) : s.line.slot = some ⟨.beacon b, w⟩ →
    b.mode = .leaving → s.ctl.state = .leaving → P s → P (s.attemptDone.beaconSent b w ack).goOffline
  cleared (s : State) (p : Power) : P (s.clearWorking p)
  recovered (s : State) (c : ResetCause) (straps : Straps) : P (s.recover c straps)
  listening {s : State} : s.ctl.state = .offline → s.port.state = .idle → P s → P s.startListening
  leaving {s : State} : (s.ctl.state = .active ∨ s.ctl.state = .isolated ∨ s.ctl.state = .dozing) → s.port.state = .idle → P s →
    P s.startLeaving
  dozing {s : State} : s.ctl.state = .active → s.port.state = .idle → s.dozeBusy = false → P s →
    P ((s.setState .dozing).setSweep s.out.sweep.pause)
  woken {s : State} (c : Option Region) : s.ctl.state = .dozing → P s → P (s.woken c)
  joined {s : State} (st : StationState) : s.ctl.state = .listening → st.working = true → P s → P (s.joinedAs st)
  isolated {s : State} : s.ctl.state = .active → P s → P ((s.setState .isolated).setSweep s.out.sweep.pause)
  activated {s : State} : s.ctl.state = .isolated → P s → P ((s.setState .active).setSweep s.out.sweep.resume)
  -- the line
  sends {s : State} : P s → s.line.slot ≠ none → s.ctl.state.onLine = true
  holdFrame {s : State} (f : Frame) (bit acked : Bool) : f.origin ≠ s.own → P s → P (s.holdFrame f bit acked)
  beaconTimer {s : State} : s.ctl.beaconTimer.isSome = true → P s → P (s.mapCtl ({ · with beaconTimer := some 0, beaconDue := true }))
  loseBeacon {s : State} (b : BeaconFrame) (w : Option Region) : s.line.slot = some ⟨.beacon b, w⟩ → P s →
    P ((s.mapLine ({ · with slot := none })).returnBeacon b)

theorem sameCore_flags (s : State) (r : Region) {f : RegionEntry → RegionEntry} (hf : keepsCopy f) : SameCore s (s.mapEntry r f) := by
  have hsame (q : Region) : (s.mapEntry r f).table[q].copy = s.table[q].copy
      ∧ (s.mapEntry r f).table[q].stamp = s.table[q].stamp ∧ (s.mapEntry r f).table[q].owner = s.table[q].owner := by
    rw [s.mapEntry_read r q f]
    split
    next heq => rw [heq]; exact hf _
    next => exact ⟨rfl, rfl, rfl⟩
  exact { SameCore.refl s with
    copy := fun q => (hsame q).1, stamp := fun q => (hsame q).2.1, owner := fun q => (hsame q).2.2 }

namespace Invariant

variable {P : State → Prop} (H : Invariant P) {s t : State}

include H

/-! ### Changes of what no invariant reads -/

/-- A change beside the blocks that the invariants read. -/
theorem quiet (h : P s) (hctl : t.ctl = s.ctl := by simp) (hline : t.line = s.line := by simp) (hport : t.port = s.port := by simp)
    (htable : t.table = s.table := by simp) (hcatchup : t.catchup = s.catchup := by simp) (hout : t.out = s.out := by simp)
    (hserving : t.serving = s.serving := by simp) (harb : t.arb = s.arb := by simp) : P t := by
  refine H.core ?_ h
  constructor <;> simp [hctl, hline, hport, htable, hcatchup, hout, hserving, harb]

theorem post (e : Event) (h : P s) : P (s.post e) := H.quiet h

theorem setFree (n : Nat) (h : P s) : P (s.setFree n) := H.quiet h

theorem countSerial (h : P s) : P s.countSerial := H.quiet h

theorem mapNv (f : Retained → Retained) (h : P s) : P (s.mapNv f) := H.quiet h

theorem mapRoster (f : Roster → Roster) (h : P s) : P (s.mapRoster f) := H.quiet h

theorem setPower (p : Power) (h : P s) : P (s.setPower p) := H.quiet h

theorem setPending (l : List Instr) (h : P s) : P (s.setPending l) := H.quiet h

theorem setApplyQ (q : List ApplyEntry) (h : P s) : P (s.setApplyQ q) := H.quiet h

theorem setIntent (i : Option Intent) (h : P s) : P (s.setIntent i) := H.quiet h

theorem postStale (r : Region) (h : P s) : P (s.postStale r) := H.quiet h

theorem checkMembers (f : Frame) (h : P s) : P (s.checkMembers f) := H.quiet h

theorem differsFollows (n : Station) (st : Presence) (h : P s) : P (s.differsFollows n st) := H.quiet h

/-- The line gives up a frame under way, or changes what no invariant reads. -/
theorem mapLine (f : Line → Line) (hslot : (f s.line).slot = s.line.slot ∨ (f s.line).slot = none)
    (hrx : (f s.line).rx = s.line.rx ∨ (f s.line).rx = none) (h : P s) : P (s.mapLine f) := by
  refine H.core ?_ h
  constructor <;> simp [hslot, hrx]

/-- A change of the Station Controller that leaves states, number, phase and beacons. -/
theorem mapCtl (f : Controller → Controller) (hstate : (f s.ctl).state = s.ctl.state := by rfl)
    (hnumber : (f s.ctl).number = s.ctl.number := by rfl) (hphase : (f s.ctl).leavePhase = s.ctl.leavePhase := by rfl)
    (hdue : (f s.ctl).beaconDue = s.ctl.beaconDue := by rfl) (htimer : (f s.ctl).beaconTimer = s.ctl.beaconTimer := by rfl)
    (h : P s) : P (s.mapCtl f) := by
  refine H.core ?_ h
  constructor <;> simp [hstate, hnumber, hphase, hdue, htimer]

/-- A change of flags, held among them, in a region's entry. -/
theorem flags (r : Region) (f : RegionEntry → RegionEntry) (hf : keepsCopy f) (h : P s) : P (s.mapEntry r f) :=
  H.core (sameCore_flags s r hf) h

/-- A change of pull records that leaves their regions. -/
theorem mapPulls (f : PullRecord → PullRecord) (hf : ∀ p, (f p).region = p.region) (h : P s) :
    P (s.mapCatchup fun u => { u with pulls := u.pulls.map f }) := by
  refine H.core ?_ h
  exact { SameCore.refl s with pulls := by simp [Function.comp_def, hf] }

/-- The array is free, or an operation goes on whose data no serving record waits for. -/
theorem setArb (a : Arbiter) (ha : ∀ r k st, a.op ≠ some (.chunkRead r k st true)) (h : P s) : P (s.setArb a) := by
  refine H.core ?_ h
  exact { SameCore.refl s with op := fun r k st hop => absurd hop (ha r k st) }

/-- A change of the fence alone. -/
theorem setFence (f : Option Fence) (h : P s) : P (s.mapOut ({ · with fence := f })) :=
  H.core { SameCore.refl s with } h

end Invariant
end Sys2Proof.Machine
end

section
/-! SUPPORT. What an invariant's changes give for the operations that the commands share. -/

namespace Sys2Proof.Machine

-- One proof at a time: the proofs that wait for each other would hold the memory of the whole text.
set_option Elab.async false

theorem State.putPull_eq_nil {s : State} {p : PullRecord} : (s.putPull p).catchup.pulls = [] ↔ s.catchup.pulls = [] := by
  simp [State.putPull]

theorem State.queuePull_eq_nil {s : State} {p : PullRecord} : (s.queuePull p).catchup.pulls = [] ↔ s.catchup.pulls = [] := by
  unfold State.queuePull
  split <;> simp

theorem StationState.eq_of_working {st : StationState} (h : st.working = true) : st = .active ∨ st = .isolated := by
  cases st <;> simp_all [StationState.working]

theorem State.isSelf_other {s : State} {o : Station} {e : Epoch} (h : o ≠ s.own) : s.isSelf (some ⟨o, e⟩) = false := by
  simpa [State.isSelf] using h

theorem State.owns_of_ownedBy {s : State} {r : Region} {o : Station} (h : s.ownedBy r o = true) (ho : o ≠ s.own) :
    s.owns r = false := by
  unfold State.ownedBy at h
  unfold State.owns
  cases howner : s.table[r].owner with
  | none => rfl
  | some w =>
    rw [howner] at h
    obtain rfl : w.station = o := by simpa using h
    exact beq_false_of_ne ho

theorem State.changeOwner_owner (s : State) (r : Region) (o : Option Owner) : (s.changeOwner r o).table[r].owner = o := by
  by_cases hchange : s.table[r].owner.map (·.station) = o.map (·.station)
  · rw [State.changeOwner, if_pos hchange, State.mapEntry_read, if_pos rfl]
  · exact (s.changeOwner_table r o hchange).1

theorem State.givenUp_owns {s : State} {r : Region} {o : Station} {stamp : Stamp} (ho : o ≠ s.own) :
    ((s.givenUp r o stamp).dropHeld r).owns r = false := by
  rw [← State.isSelf_owner, State.dropHeld, State.mapEntry_read, if_pos rfl, State.givenUp, State.discardEntries_table,
    State.changeOwner_owner]
  exact beq_false_of_ne (by simpa [State.own] using ho)

theorem State.mem_serving_of_choice {s : State} {v : ServingRecord} (h : s.choice = .image v) : v ∈ s.serving := by
  have hold := s.waitingRead_oldest
  have hread : s.waitingRead = some v := by
    cases hw : s.waitingRead with
    | none =>
      rw [State.choice, hw] at h
      dsimp only at h
      split_ifs at h
    | some w =>
      rw [State.choice, hw] at h
      dsimp only at h
      split_ifs at h <;> cases h <;> rfl
  rw [hread] at hold
  exact hold.1

namespace Invariant

variable {P : State → Prop} (H : Invariant P) {s t : State}

include H

/-! ### Port, Outbox and sweep -/

theorem answer (code : Byte) (result : ResultCode) (data : List Byte) (h : P s) : P (s.answer code result data) :=
  H.port _ (fun _ hw => nomatch hw) h

theorem workPlain (w : Work) (hw : w.isPlain = true) (h : P s) : P (s.work w) :=
  H.port _ (fun _ hw' => by cases hw'; exact .inr hw) h

theorem undriven (h : P s) : P s.undriven := H.port _ (fun _ => .inl) h

theorem checkFence (h : P s) : P s.checkFence := by
  unfold State.checkFence
  split
  next f hf =>
    split
    next => exact h
    next => exact H.post _ (H.setFence none h)
  next => exact h

theorem dropHeld (r : Region) (h : P s) : P (s.dropHeld r) := H.flags r _ (fun _ => ⟨rfl, rfl, rfl⟩) h

theorem endVote (r : Region) (h : P s) : P (s.endVote r) := H.flags r _ (fun _ => ⟨rfl, rfl, rfl⟩) h

theorem sweepFrom (n : Nat) (hnone : s.out.sweep.outstanding = none) (h : P s) : P (s.sweepFrom n) := by
  induction n generalizing s with
  | zero => exact h
  | succ n ih =>
    rw [State.sweepFrom]
    split
    next hrun =>
      have hact := H.sweepAct hrun hnone h
      split
      next hon => exact ih (by rw [s.sweepAct_sweep hon, Sweep.pass_of_running _ hrun]; split <;> exact hnone) hact
      next => exact hact
    next => exact h

theorem sweepWalk (h : P s) : P s.sweepWalk := by
  unfold State.sweepWalk
  split
  next hwalk => exact H.sweepFrom 64 hwalk.2 h
  next => exact h

/-! ### Pulls -/

theorem putPull (p : PullRecord) (h : P s) : P (s.putPull p) :=
  H.mapPulls _ (fun q => by split <;> simp_all) h

theorem queuePulls (h : P s) : P s.queuePulls := by
  unfold State.queuePulls
  by_cases hnil : s.catchup.pulls = []
  · rw [hnil]
    exact h
  · exact (foldl_preserves (fun t : State => t.catchup.pulls ≠ [] ∧ P t) _
      (fun t p ht => ⟨mt State.queuePull_eq_nil.1 ht.1, H.queuePull p ht.1 ht.2⟩) _ s ⟨hnil, h⟩).2

theorem openPullsFrom (n : Nat) (h : P s) : P (s.openPullsFrom n) := by
  induction n generalizing s with
  | zero => exact h
  | succ n ih =>
    cases hnext : s.nextPull with
    | none => rwa [State.openPullsFrom_none n s hnext]
    | some p =>
      rw [State.openPullsFrom_some n s p hnext, State.openPull_eq]
      exact ih (H.queuePulls (H.opening _ _ _ hnext h))

theorem openPulls (h : P s) : P s.openPulls := H.queuePulls (H.openPullsFrom _ h)

theorem completePull (p : PullRecord) (c : Stamp) (hp : ∃ q ∈ s.catchup.pulls, q.region = p.region) (h : P s) :
    P (s.completePull p c) := H.post _ (H.discard _ _ (H.endPull p.region _ hp h))

theorem chunkWritten (k : Chunk) (stamp : Stamp) (pull : Nat) (h : P s) : P (s.chunkWritten k stamp pull) := by
  unfold State.chunkWritten
  split
  next => exact h
  next p hp =>
    have hput := H.putPull { p with written := addBit p.written k } h
    split
    next =>
      refine H.completePull _ _ ⟨{ p with written := addBit p.written k }, ?_, rfl⟩ hput
      exact List.mem_map.2 ⟨p, List.mem_of_find?_eq_some hp, if_pos rfl⟩
    next => exact hput

theorem pullAnswered (p : PullRecord) (ack : StationMap) (hp : ∃ q ∈ s.catchup.pulls, q.region = p.region) (h : P s) :
    P (s.pullAnswered p ack) := by
  unfold State.pullAnswered
  split
  next => exact H.post _ (H.endPull p.region (·.stamp) hp h)
  next => exact H.putPull _ h

theorem answerExpired (p : PullRecord) (h : P s) : P (s.answerExpired p) := by
  unfold State.answerExpired
  split
  next => exact H.queuePulls (H.putPull _ h)
  next => exact H.post _ (H.closePull _ _ h)

/-! ### Serving records and the arbiter -/

theorem putTargets (v : ServingRecord) (ts : List Target) (hv : s.servingOf v.region = some v) (h : P s) :
    P (s.putTargets v ts) := by
  unfold State.putTargets
  split
  next => exact H.endServing _ h
  next => exact H.putServing v _ hv rfl rfl h

theorem dropTarget (r : Region) (n : Station) (h : P s) : P (s.dropTarget r n) := by
  unfold State.dropTarget
  split
  next v hv =>
    obtain rfl : v.region = r := by simpa using List.find?_some hv
    split
    next => exact H.putTargets v _ hv h
    next => exact h
  next => exact h

theorem dropTargets (n : Station) (h : P s) : P (s.dropTargets n) :=
  foldl_preserves P _ (fun _ r ht => H.dropTarget r n ht) _ s h

theorem requestReads (h : P s) : P s.requestReads :=
  foldl_preserves P _ (fun _ r ht => H.requestRead r ht) _ s h

theorem grantHost (h : P s) : P s.grantHost := by
  unfold State.grantHost
  split
  next w _ =>
    split
    next op i hgrant =>
      refine H.setIntent _ (H.setArb _ (fun r k st => ?_) h)
      cases w <;> cases hgrant <;> exact fun hop => nomatch hop
    next => exact h
  next => exact h

theorem grantHead (h : P s) : P s.grantHead := by
  unfold State.grantHead
  split
  next => exact H.setIntent _ (H.setArb _ (fun _ _ _ hop => nomatch hop) h)
  next => exact h

theorem endOp (h : P s) : P s.endOp := H.setArb _ (fun _ _ _ hop => nomatch hop) h

theorem arbitrate (h : P s) : P s.arbitrate := by
  unfold State.arbitrate
  split
  next => exact h
  next =>
    split
    next => exact h
    next => exact H.grantHost h
    next => exact H.grantHead h
    next v hv => exact H.grantImage v (State.mem_serving_of_choice hv) h

theorem resume (h : P s) : P s.resume := H.arbitrate (H.requestReads (H.openPulls h))

theorem settle (h : P s) : P s.settle := H.resume (H.drainEnd h)

theorem finalEnd (h : P s) : P s.finalEnd := by
  unfold State.finalEnd
  split
  next hend => exact H.goOffline hend.1 hend.2.1 h
  next => exact h

theorem afterAttempt (h : P s) : P s.afterAttempt := H.resume (H.finalEnd (H.drainEnd h))

theorem finishOp (h : P s) : P s.finishOp := by
  unfold State.finishOp
  split
  next => exact H.cleared s _
  next => exact H.recovered _ _ _
  next => exact H.resume h
  next => exact h
  next => exact h

/-! ### Owners -/

theorem surrender (r : Region) (h : P s) : P (s.surrender r) :=
  H.abandon r (H.mapRoster _ (H.flags r _ (fun _ => ⟨rfl, rfl, rfl⟩) (H.endServing r h)))

theorem changeOwner (r : Region) (o : Option Owner) (ho : s.isSelf o = false) (h : P s) : P (s.changeOwner r o) := by
  unfold State.changeOwner
  have hset := H.setOwner r o ho h
  split
  next => exact hset
  next =>
    rw [ho]
    have hunparked := H.unpark r (H.closePull r false hset)
    cases hself : s.isSelf s.table[r].owner with
    | false => exact hunparked
    | true => exact H.surrender r hunparked

theorem learnOwner (r : Region) (o : Station) (e : Epoch) (ho : o ≠ s.own) (h : P s) : P (s.learnOwner r o e) := by
  unfold State.learnOwner
  split
  next => exact H.changeOwner r _ (State.isSelf_other ho) h
  next => exact h

theorem loseConflict (r : Region) (o : Station) (stamp : Stamp) (hslot : s.line.slot = none) (ho : o ≠ s.own) (h : P s) :
    P (s.loseConflict r o stamp) := by
  have hlost := H.dropHeld r (H.discard (fun e => e.region == r) false
    (H.changeOwner r (some ⟨o, stamp.epoch⟩) (State.isSelf_other ho) h))
  refine H.post _ (H.markStale r .damaged (by simpa using hslot) (State.givenUp_owns ho) hlost)

theorem resolveConflict (r : Region) (o : Station) (stamp : Stamp) (hslot : s.line.slot = none) (ho : o ≠ s.own) (h : P s) :
    P (s.resolveConflict r o stamp) := by
  unfold State.resolveConflict
  split
  next => exact H.mapRoster _ h
  next => exact H.loseConflict r o stamp hslot ho h

/-! ### Roster and quorum -/

theorem mapRosterEntry (n : Station) (f : RosterEntry → RosterEntry) (h : P s) : P (s.mapRosterEntry n f) := H.mapRoster _ h

theorem quorumCheck (h : P s) : P s.quorumCheck := by
  unfold State.quorumCheck
  split
  next hlow => exact H.post _ (H.isolated hlow.1 h)
  next =>
    split
    next hhigh => exact H.sweepWalk (H.post _ (H.activated hhigh.1 h))
    next => exact h

theorem targetsFollow (n : Station) (st : Presence) (h : P s) : P (s.targetsFollow n st) := by
  unfold State.targetsFollow
  split
  next => exact h
  next => exact H.dropTargets n h

theorem statusChange (n : Station) (st : Presence) (h : P s) : P (s.statusChange n st) := by
  unfold State.statusChange
  split
  next => exact h
  next =>
    exact H.differsFollows n st (H.openPulls (H.targetsFollow n st (H.quorumCheck (H.post _ (H.mapRosterEntry n _ h)))))

theorem followFrame (f : Frame) (h : P s) : P (s.followFrame f) := by
  unfold State.followFrame
  split
  next => exact H.statusChange _ _ h
  next => exact h

theorem rosterHandoff (f : Frame) (h : P s) : P (s.rosterHandoff f) :=
  H.checkMembers f (H.followFrame f (H.mapRosterEntry _ _ h))

/-! ### Wake, halt, the end of an attempt -/

theorem wakeUp (c : Option Region) (hdoze : s.ctl.state = .dozing) (h : P s) : P (s.wakeUp c) := by
  rw [State.wakeUp_eq]
  exact H.sweepWalk (H.woken c hdoze h)

theorem joinComplete (hlisten : s.ctl.state = .listening) (h : P s) : P s.joinComplete := by
  by_cases hq : s.quorum ≤ s.quorumCount
  · rw [State.joinComplete_of_quorum hq]
    exact H.sweepWalk (H.joined .active hlisten rfl h)
  · rw [State.joinComplete_of_no_quorum (Nat.lt_of_not_le hq)]
    exact H.post _ (H.joined .isolated hlisten rfl h)

theorem dropFrame (h : P s) : P s.dropFrame := by
  unfold State.dropFrame
  have hdrop : P (s.mapLine ({ · with rx := none })) := H.mapLine _ (.inl rfl) (.inr rfl) h
  split
  next => exact H.endVote _ hdrop
  next => exact hdrop

theorem attemptDone (h : P s) : P s.attemptDone := H.mapLine _ (.inr rfl) (.inl rfl) h

theorem receptionDone (h : P s) : P s.receptionDone := H.mapLine _ (.inl rfl) (.inr rfl) h

theorem removeSending (hslot : s.line.slot = none) (h : P s) : P s.removeSending :=
  H.fewer _ List.filter_sublist hslot h

theorem countFault (hst : s.ctl.state ≠ .offline) (h : P s) : P s.countFault := by
  unfold State.countFault
  split
  next => exact H.mapLine _ (.inl rfl) (.inl rfl) h
  next => exact H.halt _ hst (H.mapLine _ (.inl rfl) (.inl rfl) h)

end Invariant
end Sys2Proof.Machine
end

section
/-! SUPPORT. What an invariant's changes give for every command: the induction over commands, once for all invariants. -/

namespace Sys2Proof.Machine

-- One proof at a time: the proofs that wait for each other would hold the memory of the whole text.
set_option Elab.async false

/-- What keeps an invariant through the ends of CLAIM entries, beside the changes of `Invariant`. -/
structure StepInvariant (P : State → Prop) : Prop extends Invariant P where
  withdraw {s : State} (e : OutEntry) (source : ClaimSource) (why : LostReason) : s.nextOffer = .withdrawn e source why →
    s.line.slot = none → P s → P (s.withdraw e source why)
  dropDoomed {s : State} (e : OutEntry) (cut : Bool) : s.sendingEntry = some e → s.line.slot = none → P s →
    P (s.removeSending.departed cut e)
  ownClaimEnd {s : State} (c : ClaimFrame) (w : Option Region) (ack : StationMap) : s.line.slot = some ⟨.claim c, w⟩ → P s →
    P (s.ownClaimEnd c ack)
  claimHeard {s : State} (c : ClaimFrame) (bit acked : Bool) (ack : StationMap) : s.line.rx = some ⟨.claim c, bit, acked⟩ →
    (∀ c' w', s.line.slot ≠ some ⟨.claim c', w'⟩) → P s → P (s.receptionDone.claimHeard acked c ack)

theorem State.takeApply_owns (s : State) (r q : Region) (b : ApplyBody) : (s.takeApply r b).owns q = s.owns q := by
  rw [← State.isSelf_owner, ← State.isSelf_owner, State.takeApply, State.retain, State.mapEntry_read]
  split
  next hq => rw [hq]; rfl
  next => rfl

@[simp] theorem ackPoint_number (guardPin : Bool) (f : Frame) (s : State) :
    (ackPoint guardPin f s).2.ctl.number = s.ctl.number := by
  cases f <;> simp [ackPoint]

/-- A dozing owner has woken: it serves unless it leaves (R161). -/
theorem State.wakeIfAsked_working {s : State} {r : Region} (hline : s.ctl.state.onLine = true) (howns : s.owns r = true) :
    (s.wakeIfAsked r).ctl.state = .leaving ∨ (s.wakeIfAsked r).ctl.state.working = true := by
  unfold State.wakeIfAsked
  split
  next =>
    rw [State.wakeUp_ctl_state]
    split <;> exact .inr rfl
  next hawake =>
    rw [howns] at hawake
    cases hst : s.ctl.state <;> simp_all [StationState.onLine, StationState.working]

namespace Invariant

variable {P : State → Prop} (H : Invariant P) {s t : State}

include H

/-! ### Host commands and completions -/

theorem refusePut (h : P s) : P s.refusePut := H.port _ (fun _ => .inl) h

theorem takeBits (bits : Nat) (h : P s) : P (s.takeBits bits) := by
  unfold State.takeBits
  split
  next a _ =>
    refine H.port _ (fun w hw => ?_) h
    dsimp only at hw
    split at hw <;> cases hw
  all_goals exact H.port _ (fun _ => .inl) h

theorem pollBits (n : Nat) (h : P s) : P (s.pollBits n) := by
  induction n generalizing s with
  | zero => exact h
  | succ n ih => exact ih (H.port _ (fun _ => .inl) h)

theorem pollRun (run : PollRun) (h : P s) : P (s.pollRun run) := by
  unfold State.pollRun
  split
  next => exact H.port _ (fun _ => .inl) h
  next =>
    refine H.port _ (fun w hw => .inl ?_) (H.pollBits _ (H.port _ (fun w hw => .inl ?_) h))
    · rw [Port.endRun] at hw
      split at hw <;> exact hw
    · rw [Port.beginPoll] at hw
      split at hw <;> exact hw

theorem startRead (r : Region) (offset length : Nat) (h : P s) : P (s.startRead r offset length) := by
  unfold State.startRead
  split
  next => exact H.answer _ _ _ h
  next => exact H.arbitrate (H.workPlain _ rfl h)

theorem readPiece (w : ReadWork) (h : P s) : P (s.readPiece w) := by
  unfold State.readPiece
  dsimp only
  split
  next => exact H.answer _ _ _ (H.endOp h)
  next => exact H.workPlain _ rfl (H.endOp h)

theorem setYield (code : Byte) (r : Region) (yes : Bool) (h : P s) : P (s.setYield code r yes) :=
  H.answer _ _ _ (H.flags r _ (fun _ => ⟨rfl, rfl, rfl⟩) h)

theorem applied (b : ApplyBody) (h : P s) : P (s.applied b) := by
  unfold State.applied
  split
  next => exact H.chunkWritten _ _ _ h
  next =>
    unfold State.chunkWrittenInReset
    split
    next => exact H.setFree _ (H.chunkWritten _ _ _ h)
    next => exact H.setFree _ h
  next => exact h

theorem retain (r : Region) (h : P s) : P (s.retain r) := H.flags r _ (fun _ => ⟨rfl, rfl, rfl⟩) h

theorem applyDone (e : ApplyEntry) (rest : List ApplyEntry) (h : P s) : P (s.applyDone e rest) :=
  H.setIntent _ (H.retain _ (H.applied _ (H.setApplyQ _ (H.endOp (H.mapNv _ h)))))

theorem writeDone (w : WriteWork) (hport : s.port.state = .working (.write w)) (h : P s) : P (s.writeDone w) :=
  H.conclude w hport (H.endOp (H.mapNv _ h))

/-! ### Frames received -/

theorem imageHeard (i : ImageFrame) (h : P s) : P (s.imageHeard i) := by
  unfold State.imageHeard
  split
  next =>
    split
    next => exact H.putPull _ h
    next => exact h
  next => exact h

theorem restartAnswer (f : Frame) (h : P s) : P (s.restartAnswer f) := by
  cases f with
  | image i => exact H.imageHeard i h
  | _ => exact h

theorem compareIfOwner (o : Station) (e : CensusEntry) (hslot : s.line.slot = none) (ho : o ≠ s.own) (h : P s) :
    P (s.compareIfOwner o e) := by
  unfold State.compareIfOwner State.compareStamp
  split
  next howned =>
    split
    next => exact H.markStale _ _ hslot (State.owns_of_ownedBy howned ho) h
    next =>
      split
      next => exact H.post _ h
      next => exact h
  next => exact h

theorem censusCase (o : Station) (e : CensusEntry) (hslot : s.line.slot = none) (ho : o ≠ s.own) (h : P s) :
    P (s.censusCase o e) := by
  unfold State.censusCase
  split
  next => exact H.resolveConflict _ o _ hslot ho h
  next =>
    exact H.compareIfOwner o e (by simpa using hslot) (by simpa [State.own] using ho) (H.learnOwner _ o _ ho h)

theorem censusList (o : Station) (es : List CensusEntry) (hslot : s.line.slot = none) (ho : o ≠ s.own) (h : P s) :
    P (s.censusList o es) :=
  (foldl_preserves (fun t : State => t.line.slot = none ∧ o ≠ t.own ∧ P t) _
    (fun t e ⟨hslot, ho, ht⟩ => ⟨by simpa using hslot, by simpa [State.own] using ho, H.openPulls (H.censusCase o e hslot ho ht)⟩)
    es s ⟨hslot, ho, h⟩).2.2

theorem markIfBehind (u : UpdateFrame) (hslot : s.line.slot = none) (ho : u.origin ≠ s.own) (h : P s) : P (s.markIfBehind u) := by
  unfold State.markIfBehind
  split
  next hbehind =>
    rw [Bool.and_eq_true] at hbehind
    exact H.markStale _ _ hslot (State.owns_of_ownedBy hbehind.1 ho) h
  next => exact h

theorem listen (f : Frame) (hslot : s.line.slot = none) (ho : f.origin ≠ s.own) (h : P s) : P (s.listen f) := by
  cases f with
  | beacon b => exact H.censusList b.origin b.census hslot ho h
  | update u =>
    have ho' : u.origin ≠ s.own := ho
    exact H.markIfBehind u (by simpa using hslot) (by simpa [State.own] using ho') (H.learnOwner _ u.origin _ ho' h)
  | image i => exact H.learnOwner _ i.origin _ ho h
  | claim _ | pull _ => exact h

theorem handOn (f : Frame) (hslot : s.line.slot = none) (ho : f.origin ≠ s.own) (h : P s) : P (s.handOn f) := by
  have hheard := H.restartAnswer f (H.rosterHandoff f h)
  unfold State.handOn State.listenIfListening
  split
  next => exact H.listen f (by simpa using hslot) (by simpa [State.own] using ho) hheard
  next => exact hheard

theorem takeApply (r : Region) (b : ApplyBody) (h : P s) : P (s.takeApply r b) :=
  H.retain _ (H.countSerial (H.setApplyQ _ h))

theorem compareUpdate (u : UpdateFrame) (hslot : s.line.slot = none) (howns : s.owns u.region = false) (h : P s) :
    P (s.compareUpdate u).2 := by
  have hmark := H.markStale u.region .behind hslot howns h
  unfold State.compareUpdate
  split_ifs
  case pos | pos => exact h
  case pos => exact hmark
  case neg => exact hmark
  case pos =>
    unfold State.takeUpdate
    split
    next =>
      exact H.takeStamp _ _ (by simpa using hslot) (by rwa [State.takeApply_owns]) (H.takeApply _ _ h)
    next => exact h

theorem updateAct (u : UpdateFrame) (hslot : s.line.slot = none) (ho : u.origin ≠ s.own) (h : P s) : P (State.updateAct u s).2 := by
  unfold State.updateAct State.updateIfOwner
  split
  next => exact H.resolveConflict _ u.origin _ hslot ho h
  next =>
    have hlearned := H.learnOwner u.region u.origin u.ownerEpoch ho h
    split
    next howned =>
      exact H.compareUpdate u (by simpa using hslot) (State.owns_of_ownedBy howned (by simpa [State.own] using ho)) hlearned
    next => exact hlearned

theorem collectIfAsked (i : ImageFrame) (h : P s) : P (s.collectIfAsked i).2 := by
  unfold State.collectIfAsked
  split
  next p _ =>
    split
    next =>
      unfold State.collect State.takeChunk
      split_ifs
      case pos => exact h
      case pos => exact H.putPull _ h
      case pos => exact H.takeApply _ _ (H.putPull _ h)
      case neg => exact H.putPull _ h
    next => exact h
  next => exact h

theorem imageAct (i : ImageFrame) (ho : i.origin ≠ s.own) (h : P s) : P (State.imageAct i s).2 := by
  unfold State.imageAct
  split
  next => exact h
  next => exact H.collectIfAsked i (H.learnOwner _ i.origin _ ho h)

theorem wakeIfAsked (r : Region) (h : P s) : P (s.wakeIfAsked r) := by
  unfold State.wakeIfAsked
  split
  next hasked => exact H.wakeUp _ (by simp_all) h
  next => exact h

theorem claimAct (c : ClaimFrame) (guardPin : Bool) (h : P s) : P (State.claimAct c guardPin s).2 := by
  refine H.wakeIfAsked _ ?_
  unfold State.holdVote
  split
  next => exact H.flags _ _ (fun _ => ⟨rfl, rfl, rfl⟩) h
  next => exact h

theorem decidePull (p : PullFrame) (hst : s.ctl.state = .leaving ∨ s.ctl.state.working = true) (h : P s) :
    P (s.decidePull p).2 := by
  unfold State.decidePull
  split
  next =>
    dsimp only
    split
    next => exact h
    next => exact H.post _ h
  next =>
    split
    next => exact H.dropTarget _ _ h
    next =>
      dsimp only
      split
      next => exact h
      next hstays => exact H.serve _ _ (hst.resolve_left hstays) h

theorem pullAct (p : PullFrame) (hline : s.ctl.state.onLine = true) (h : P s) : P (State.pullAct p s).2 := by
  unfold State.pullAct
  split
  next howns => exact H.decidePull p (State.wakeIfAsked_working hline howns) (H.wakeIfAsked _ h)
  next => exact h

theorem ackPoint (guardPin : Bool) (f : Frame) (hslot : s.line.slot = none) (ho : f.origin ≠ s.own)
    (hline : s.ctl.state.onLine = true) (h : P s) : P (ackPoint guardPin f s).2 := by
  cases f with
  | beacon b => exact H.censusList b.origin b.census hslot ho h
  | claim c => exact H.claimAct c guardPin h
  | pull p => exact H.pullAct p hline h
  | update u => exact H.updateAct u hslot ho h
  | image i => exact H.imageAct i ho h

theorem ownNumberHeard (f : Frame) (hst : s.ctl.state ≠ .offline) (h : P s) : P (s.ownNumberHeard f) := by
  unfold State.ownNumberHeard
  split
  next =>
    cases f with
    | beacon b => exact H.mapCtl (h := h) _
    | _ => exact h
  next => exact H.arbitrate (H.halt _ hst h)

theorem strangerHeard (n : Station) (h : P s) : P (s.strangerHeard n) := by
  unfold State.strangerHeard
  exact H.mapLine _ (.inl rfl) (.inl rfl) (H.quiet h)

/-! ### Ends of attempts -/

/-- A change of the Outbox's fence. -/
theorem mapFence (f : Outbox → Outbox) (hf : f s.out = { s.out with fence := (f s.out).fence }) (h : P s) : P (s.mapOut f) := by
  refine H.core ?_ h
  refine { SameCore.refl s with entries := ?_, reserved := ?_, hostClaim := ?_, sweep := ?_ } <;> rw [State.mapOut_out, hf]

theorem departUpdate (cut : Bool) (r : Region) (u : UpdateEntry) (sending : Bool) (doom : Doom) (h : P s) :
    P (s.departed cut ⟨r, .update u, sending, doom⟩) := by
  have hcount : P (s.mapCtl (·.countCut cut)) := by
    cases cut with
    | false => exact h
    | true => exact H.mapCtl (h := h) _
  refine H.mapFence _ ?_ hcount
  unfold Outbox.without
  dsimp only
  split <;> rfl

theorem settledShort (r : Region) (u : UpdateEntry) (missing : StationMap) (h : P s) : P (s.settledShort r u missing) := by
  refine H.mapFence _ ?_ (H.post _ h)
  split <;> rfl

theorem retryUpdate (hslot : s.line.slot = none) (h : P s) : P s.retryUpdate := by
  refine H.putBack _ (fun e => ?_) hslot h
  rcases e with ⟨r, body, sending, doom⟩
  cases sending with
  | false => exact ⟨rfl, id, .inl rfl⟩
  | true =>
    cases body with
    | update u => exact ⟨rfl, fun _ => rfl, .inr ⟨u, _, rfl, rfl⟩⟩
    | claim _ | pull _ | image _ => exact ⟨rfl, fun _ => rfl, .inl rfl⟩

theorem settleUpdate (r : Region) (u : UpdateEntry) (doom : Doom) (missing : StationMap) (hslot : s.line.slot = none) (h : P s) :
    P (s.settleUpdate r u doom missing) := by
  have hgone := H.removeSending hslot h
  unfold State.settleUpdate
  split
  next => exact H.checkFence hgone
  next =>
    cases doom with
    | cut => exact H.checkFence (H.departUpdate _ _ _ _ _ hgone)
    | discard => exact H.checkFence (H.departUpdate _ _ _ _ _ hgone)
    | none =>
      dsimp only
      split
      next => exact H.retryUpdate hslot h
      next => exact H.checkFence (H.settledShort _ _ _ hgone)

theorem ownUpdateEnd (ack : StationMap) (h : P s) : P (s.ownUpdateEnd ack) := by
  unfold State.ownUpdateEnd
  split
  next => exact H.settleUpdate _ _ _ _ rfl (H.attemptDone h)
  next => exact H.attemptDone h

theorem ownImageEnd (ack : StationMap) (h : P s) : P (s.ownImageEnd ack) := by
  have hgone : P s.attemptDone.removeSending := H.removeSending rfl (H.attemptDone h)
  unfold State.ownImageEnd
  split
  next r i _ doom _ =>
    split
    next v hv _ =>
      obtain rfl : v.region = r := by simpa using List.find?_some hv
      exact H.putTargets v _ hv hgone
    next => exact hgone
  next => exact H.attemptDone h

theorem ownPullEnd (ack : StationMap) (h : P s) : P (s.ownPullEnd ack) := by
  have hgone : P s.attemptDone.removeSending := H.removeSending rfl (H.attemptDone h)
  unfold State.ownPullEnd
  split
  next r _ _ doom _ =>
    split
    next p hp _ => exact H.pullAnswered p ack ⟨p, List.mem_of_find?_eq_some hp, rfl⟩ hgone
    next => exact hgone
  next => exact H.attemptDone h

theorem ownBeaconEnd (b : BeaconFrame) (w : Option Region) (ack : StationMap) (hslot : s.line.slot = some ⟨.beacon b, w⟩)
    (h : P s) : P (s.ownBeaconEnd b w ack) := by
  have hsent : P (s.attemptDone.beaconSent b w ack) := H.mapCtl (h := H.mapRoster _ (H.attemptDone h)) _
  unfold State.ownBeaconEnd
  split
  next hleave => exact H.leavingSent b w ack hslot hleave.1 hleave.2 h
  next => exact hsent

theorem answerAfterFault (place : FaultPlace) (f : Frame) (h : P s) : P (s.answerAfterFault place f) := by
  unfold State.answerAfterFault
  split
  next =>
    split
    next => exact H.setFree _ (H.putPull _ h)
    next => exact H.setFree _ h
  next => exact h

/-! ### Timers and received ends -/

theorem beaconHeard (b : BeaconFrame) (h : P s) : P (s.beaconHeard b) := by
  unfold State.beaconHeard
  split
  next => exact H.mapRosterEntry _ _ (H.statusChange _ _ h)
  next => exact h

theorem fallSilent (n : Station) (h : P s) : P (s.fallSilent n) := by
  unfold State.fallSilent State.silence
  split
  next => exact H.statusChange _ _ (H.mapRosterEntry _ _ h)
  next => exact H.mapRosterEntry _ _ h

theorem fallAbsent (n : Station) (h : P s) : P (s.fallAbsent n) :=
  H.differsFollows _ _ (H.statusChange _ _ (H.mapRosterEntry _ _ h))

theorem tick (h : P s) : P s.tick := by
  unfold State.tick State.whenOn
  split
  next =>
    refine H.setPending _ (H.core ?_ h)
    exact { SameCore.refl s with
      timer := fun hstop => by simp [State.advanceTimers, hstop, advance]
      pulls := by simp [State.advanceTimers, Function.comp_def] }
  next => exact h

/-! ### Resets -/

theorem losePower (h : P s) : P s.losePower := by
  unfold State.losePower
  split
  next => exact h
  next => exact H.cleared _ _

theorem assertReset (h : P s) : P s.assertReset := by
  unfold State.assertReset
  split
  next =>
    split
    next => exact H.setPower _ (H.port _ (fun _ => .inl) (H.mapLine _ (.inr rfl) (.inr rfl) h))
    next => exact H.cleared _ _
  next => exact H.setPower _ h
  next => exact h
  next => exact h

theorem releaseReset (straps : Straps) (h : P s) : P (s.releaseReset straps) := by
  unfold State.releaseReset
  split
  next => exact H.recovered _ _ _
  next => exact H.setPower _ h
  all_goals exact h

end Invariant

namespace StepInvariant

variable {P : State → Prop} (H : StepInvariant P) {s t : State}

include H

theorem returnSending (hslot : s.line.slot = none) (h : P s) : P s.returnSending := by
  unfold State.returnSending
  split
  next => exact h
  next e he =>
    split
    next =>
      refine H.putBack _ (fun e => ?_) hslot h
      split
      next => exact ⟨rfl, fun hs => (Bool.false_ne_true hs).elim, .inl rfl⟩
      next => exact ⟨rfl, id, .inl rfl⟩
    next => exact H.checkFence (H.dropDoomed e _ he hslot h)

theorem attemptLost (x : TxSlot) (hslot : s.line.slot = some x) (h : P s) : P (s.attemptLost x) := by
  obtain ⟨f, w⟩ := x
  cases f with
  | beacon b => exact H.loseBeacon b w hslot h
  | _ => exact H.returnSending rfl (H.mapLine _ (.inr rfl) (.inl rfl) h)

theorem offerFrom (n : Nat) (hslot : s.line.slot = none) (h : P s) : P (s.offerFrom n) := by
  induction n generalizing s with
  | zero => exact h
  | succ n ih =>
    rw [State.offerFrom]
    split
    next => exact h
    next hnext => exact H.sendBeacon hnext h
    next e hnext => exact H.sendEntry e hnext hslot h
    next e source why hnext => exact ih (by simpa using hslot) (H.drainEnd (H.withdraw e source why hnext hslot h))

/-- Every effect keeps an invariant; a CLAIM frame's end is dealt with apart, where it is known that the slot holds no CLAIM. -/
theorem effect {c : Instr} (he : Effect s c t) (hc : ∀ ack, c ≠ .claimFrameEnd ack) (h : P s) : P t := by
  have hu : P s.undriven := H.undriven h
  cases he with
  | unchanged => exact h
  | undriven => exact hu
  | refused => exact H.refusePut hu
  | answered => exact H.answer _ _ _ hu
  | take => exact H.takeBits _ h
  | poll => exact H.pollRun _ h
  | pollIgnored => exact H.port _ (fun _ => .inl) h
  | read => exact H.startRead _ _ _ hu
  | write region offset length data guardPin r hput hargs hcheck =>
    have hlength : data.length = length.toNat := by
      unfold writeArgs at hargs
      split at hargs
      next hok => exact hok.2
      next => cases hargs
    exact H.arbitrate (H.takeWrite ⟨r, offset.toNat, data, s.serial⟩ guardPin hput.2 (by rw [hlength]; exact hcheck) hu)
  | claim region guardPin r hput hstate howns hcheck => exact H.answer _ _ _ (H.hostClaim r guardPin hstate howns hcheck hu)
  | yield => exact H.setYield _ _ _ hu
  | fence hput => exact H.checkFence (H.answer _ _ _ (H.openFence hput.2 hu))
  | event => exact H.answer _ _ _ (H.quiet hu)
  | setup => exact H.workPlain _ rfl hu
  | format guardPin hput hstate =>
    refine H.arbitrate (H.startFormat ?_ ?_)
    · simpa using hstate
    · exact H.quiet hu
  | join hput hstate => exact H.answer _ _ _ (H.listening hstate hput.2 hu)
  | leave hput hstate => exact H.drainEnd (H.answer _ _ _ (H.leaving hstate hput.2 hu))
  | doze hput hstate hidle => exact H.answer _ _ _ (H.dozing hstate hput.2 hidle hu)
  | wake hput hstate => exact H.openPulls (H.answer _ _ _ (H.wakeUp _ hstate hu))
  | setupWritten => exact H.answer _ _ _ (H.mapCtl (h := H.mapNv _ h) _)
  | formatStep r k hop hport => exact H.finishOp (H.formatStep r k hport h)
  | readPiece => exact H.finishOp (H.readPiece _ h)
  | writeDone w hop hport => exact H.finishOp (H.writeDone w hport h)
  | applyDone => exact H.finishOp (H.applyDone _ _ h)
  | chunkRead r k stamp live hop => exact H.finishOp (H.chunkRead r k stamp live hop h)
  | lineIdle hon hrecv hslot =>
    refine H.offerFrom _ ?_ (H.mapLine _ (.inl rfl) (.inl rfl) (H.dropFrame h))
    simpa using hslot
  | lostArbitration x hon hslot => exact H.afterAttempt (H.attemptLost x hslot h)
  | lineFault place x hon hslot =>
    have hst : s.ctl.state ≠ .offline := fun hoff => by
      have := H.sends h (hslot ▸ Option.some_ne_none x)
      rw [hoff] at this
      cases this
    exact H.afterAttempt (H.countFault (by simpa using hst) (H.attemptLost x (by simpa using hslot) (H.answerAfterFault _ _ h)))
  | stranger => exact H.strangerHeard _ h
  | ownNumber _ f hon hrecv =>
    refine H.ownNumberHeard _ (fun hoff => ?_) h
    rw [State.canReceive, hoff] at hrecv
    cases hrecv
  | received guardPin f hf hline =>
    obtain ⟨hon, hcan, hrange, ho, hmember⟩ := hf
    have hslot : s.line.slot = none := by simp_all [State.canReceive]
    refine H.settle (H.holdFrame _ _ _ ?_ (H.ackPoint guardPin f (by simpa using hslot) ?_ hline (H.handOn f hslot ho h)))
    all_goals simpa [State.own] using ho
  | listened guardPin f hf hline =>
    obtain ⟨hon, hcan, hrange, ho, hmember⟩ := hf
    have hslot : s.line.slot = none := by simp_all [State.canReceive]
    exact H.holdFrame _ _ _ (by simpa [State.own] using ho) (H.handOn f hslot ho h)
  | endLost => exact H.dropFrame h
  | endLostEarly f hf =>
    obtain ⟨hon, hcan, hrange, ho, hmember⟩ := hf
    exact H.settle (H.handOn f (by simp_all [State.canReceive]) ho h)
  | beaconSent ack b w hon hslot => exact H.afterAttempt (H.ownBeaconEnd b w ack hslot h)
  | beaconHeard => exact H.resume (H.beaconHeard _ (H.receptionDone h))
  | claimSent ack | claimHeard ack => exact absurd rfl (hc ack)
  | pullSent => exact H.afterAttempt (H.ownPullEnd _ h)
  | updateSent => exact H.afterAttempt (H.ownUpdateEnd _ h)
  | imageSent => exact H.afterAttempt (H.ownImageEnd _ h)
  | otherHeard => exact H.receptionDone h
  | silent => exact H.resume (H.fallSilent _ h)
  | absent => exact H.resume (H.fallAbsent _ h)
  | strangerTimer => exact H.mapLine _ (.inl rfl) (.inl rfl) h
  | beaconTimer hon hruns => exact H.beaconTimer hruns h
  | duplicate hon hstate => exact H.arbitrate (H.halt _ (by rw [hstate]; exact StationState.noConfusion) h)
  | joined hon hstate => exact H.resume (H.joinComplete hstate h)
  | cut => exact H.drainEnd (H.discard _ _ (H.mapCtl (h := h) _))
  | finalExpired => exact H.afterAttempt (H.mapCtl (h := h) _)
  | answerExpired => exact H.resume (H.answerExpired _ h)
  | powerOn => exact H.recovered _ _ _
  | resetAsserted => exact H.assertReset h
  | resetReleased => exact H.releaseReset _ h
  | powerLost => exact H.losePower h

/-- The end of a CLAIM frame, own or received (R95). -/
theorem claimFrameEnd (ack : StationMap) (hexec : exec (.claimFrameEnd ack) s = .next t) (h : P s) : P t := by
  cases hexec
  unfold State.whenOn
  split
  next =>
    dsimp only
    split
    next c w hslot => exact H.afterAttempt (H.ownClaimEnd c w ack hslot h)
    next c bit acked hrx hother => exact H.resume (H.claimHeard c bit acked ack hrx hother h)
    next => exact h
  next => exact h

/-- Every step keeps an invariant. -/
theorem step (hstep : step s = .next t) (h : P s) : P t := by
  unfold Machine.step at hstep
  split at hstep
  next c rest hp =>
    have hs := H.setPending rest h
    by_cases hc : ∃ ack, c = .claimFrameEnd ack
    · obtain ⟨ack, rfl⟩ := hc
      exact H.claimFrameEnd ack hstep hs
    · exact H.effect (exec_effect hstep) (fun ack he => hc ⟨ack, he⟩) hs
  next => cases hstep; exact H.tick h

end StepInvariant
end Sys2Proof.Machine
end

section
/-! SUPPORT. Every step keeps the pulls in step with the FETCHING copies (R7, R113, R154). -/

namespace Sys2Proof.Machine

-- One proof at a time: the proofs that wait for each other would hold the memory of the whole text.
set_option Elab.async false

theorem any_region_eq (l : List PullRecord) (r : Region) :
    l.any (fun p => p.region == r) = (l.map (·.region)).any (fun q => q == r) := by
  rw [List.any_map]
  rfl

theorem State.fetchingOk_congr {s t : State} (hcopy : ∀ r : Region, t.table[r].copy = s.table[r].copy)
    (hpulls : t.catchup.pulls.map (·.region) = s.catchup.pulls.map (·.region)) (h : s.fetchingOk) : t.fetchingOk := fun r => by
  rw [hcopy, any_region_eq, hpulls, ← any_region_eq]
  exact h r

/-- The gates of pulls, FORMAT and the transmit slot after a change that leaves the station state. -/
theorem State.pullsOk.change {s t : State} (h : s.pullsOk) (hfetching : t.fetchingOk)
    (hpulls : t.catchup.pulls ≠ [] → s.catchup.pulls ≠ [] := by simp)
    (hport : ∀ r k, t.port.state = .working (.format r k) → s.port.state = .working (.format r k) := by simp)
    (hslot : t.line.slot ≠ none → s.line.slot ≠ none := by simp) (hstate : t.ctl.state = s.ctl.state := by simp) : t.pullsOk := by
  obtain ⟨-, hworking, hformat, hline⟩ := h
  rw [← hstate] at hworking hformat hline
  exact ⟨hfetching, hworking ∘ hpulls, fun r k hp => hformat r k (hport r k hp), hline ∘ hslot⟩

theorem State.pullsOk.noPulls {s : State} (h : s.pullsOk) (hst : s.ctl.state.working = false) : s.catchup.pulls = [] := by
  by_contra hne
  rw [h.2.1 hne] at hst
  cases hst

theorem State.pullsOk.noFormat {s : State} (h : s.pullsOk) (hst : s.ctl.state ≠ .offline) (r : Region) (k : Chunk) :
    s.port.state ≠ .working (.format r k) := fun hp => hst (h.2.2.1 r k hp)

/-- The gates where no pull is open, no FORMAT runs and the transmitter, if off, has nothing in its slot. -/
theorem State.pullsOk_of_none {t : State} (hfetching : t.fetchingOk) (hpulls : t.catchup.pulls = [])
    (hport : ∀ r k, t.port.state ≠ .working (.format r k)) (hslot : t.line.slot ≠ none → t.ctl.state.onLine = true) : t.pullsOk :=
  ⟨hfetching, fun hne => absurd hpulls hne, fun r k hp => absurd hp (hport r k), hslot⟩

theorem State.listRegion_pulls (s : State) (r : Region) : (s.listRegion r).catchup.pulls = s.catchup.pulls := rfl

theorem State.unpark_pulls (s : State) (r : Region) : (s.unpark r).catchup.pulls = s.catchup.pulls := by
  unfold State.unpark
  split <;> rfl

theorem State.markStale_pulls (s : State) (r : Region) (c : Cause) : (s.markStale r c).catchup.pulls = s.catchup.pulls := by
  rw [State.markStale_catchup]
  split <;> rfl

theorem State.abandonWrite_port_state {s : State} {r : Region} {w : Work} (h : (s.abandonWrite r).port.state = .working w) :
    s.port.state = .working w := by
  rw [State.abandonWrite_eq] at h
  split at h
  next => cases h
  next => exact h

theorem State.concludeWrite_answers (s : State) (w : WriteWork) : ∃ a, (s.concludeWrite w).port.state = .answer a := by
  unfold State.concludeWrite
  split <;> exact ⟨_, rfl⟩

/-- A beacon goes out where one is due and the transmitter is on (R25). -/
theorem State.due_of_beacon {s : State} (h : s.nextOffer = .beacon) : s.ctl.beaconDue = true ∧ s.ctl.state.onLine = true := by
  unfold State.nextOffer at h
  split at h
  next hdue => exact Bool.and_eq_true _ _ ▸ hdue
  next =>
    split at h
    next =>
      split at h
      next => cases h
      next =>
        unfold State.offerOf at h
        split at h
        next => split at h <;> cases h
        all_goals cases h
    next => cases h

theorem StationState.onLine_of_offers {st : StationState} (h : st.offersEntries = true) : st.onLine = true := by
  cases st <;> simp_all [StationState.offersEntries, StationState.onLine]

theorem State.offers_of_entry {s : State} {e : OutEntry} (h : s.nextOffer = .entry e) : s.ctl.state.offersEntries = true := by
  unfold State.nextOffer at h
  split at h
  next => cases h
  next =>
    split at h
    next hoffers => exact hoffers
    next => cases h

theorem StationState.onLine_of_working {st : StationState} (h : st.working = true) : st.onLine = true := by
  cases st <;> simp_all [StationState.working, StationState.onLine]

theorem State.working_of_nextPull {s : State} {p : Region × Station × Cause} (h : s.nextPull = some p) :
    s.ctl.state.working = true := by
  unfold State.nextPull at h
  split at h
  next hopen => exact hopen.1
  next => cases h

theorem State.opening_fetching (s : State) (r : Region) (n : Station) (k : Cause) (h : s.fetchingOk) :
    (s.opening r n k).fetchingOk := fun q => by
  unfold State.opening
  rw [State.mapEntry_read]
  by_cases hq : q = r
  · subst hq
    simp [State.addPull, CopyState.isFetching]
  · rw [if_neg hq]
    simpa [State.addPull, beq_eq_false_iff_ne.2 (Ne.symm hq)] using h q

theorem State.endPull_fetching (s : State) (r : Region) (g : RegionEntry → Stamp) (h : s.fetchingOk) :
    ((s.mapEntry r fun e => { e with stamp := g e, copy := .current }).dropPull r).fetchingOk := by
  refine State.close_fetching s _ r h (fun q hq => ?_) ?_ rfl
  · rw [State.dropPull_table, State.mapEntry_read, if_neg hq]
  · rw [State.dropPull_table, State.mapEntry_read, if_pos rfl]
    rfl

/-- Only what the gates read changes with the station state. -/
theorem State.pullsOk.restate {s t : State} (h : s.pullsOk) (hst : s.ctl.state ≠ .offline) (hpulls : s.catchup.pulls = [])
    (htable : ∀ r : Region, t.table[r].copy = s.table[r].copy) (hsame : t.catchup.pulls = s.catchup.pulls)
    (hport : t.port = s.port) (hslot : t.line.slot ≠ none → t.ctl.state.onLine = true) : t.pullsOk := by
  refine State.pullsOk_of_none (State.fetchingOk_congr htable (by rw [hsame]) h.1) (hsame.trans hpulls) (fun r k hp => ?_) hslot
  exact h.noFormat hst r k (hport ▸ hp)

theorem SameCore.pullsOk {s t : State} (hs : SameCore s t) (h : s.pullsOk) : t.pullsOk := by
  refine h.change (State.fetchingOk_congr hs.copy hs.pulls h.1) ?_ (fun r k hp => hs.port ▸ hp) ?_ hs.state
  · exact fun hne hnil => hne (List.map_eq_nil_iff.1 (by rw [hs.pulls, hnil]; rfl))
  · rcases hs.slot with hslot | hslot <;> simp [hslot]

theorem State.goOffline_pullsOk {s : State} (hst : s.ctl.state = .leaving) (h : s.pullsOk) : s.goOffline.pullsOk := by
  refine State.pullsOk_of_none (State.goOffline_fetching s h.1) ?_ (fun r k hp => ?_) (fun hne => absurd (by rw [s.goOffline_eq]) hne)
  · rw [s.goOffline_eq]
    exact h.noPulls (by rw [hst]; rfl)
  · exact h.noFormat (by rw [hst]; exact StationState.noConfusion) r k (by simpa using hp)

/-- The frame end of an own beacon frees the slot, and changes the roster and first-beacon mode. -/
theorem sameCore_beaconSent (s : State) (b : BeaconFrame) (w : Option Region) (ack : StationMap) :
    SameCore s (s.attemptDone.beaconSent b w ack) := { SameCore.refl s with slot := .inr rfl }

/-- The changes of which commands consist keep the pulls. -/
theorem pulls_invariant : Invariant State.pullsOk where
  core := SameCore.pullsOk
  port f hf h := h.change (by simpa using h.1) (hport := fun r k hp => by
    rcases hf _ hp with hp | hp
    · exact hp
    · cases hp)
  discard p cut h := h.change (State.discardEntries_fetching _ _ _ h.1)
  fewer es _ _ h := h.change h.1
  putBack f _ _ h := h.change h.1
  sweepAct _ _ h := h.change (State.sweepAct_fetching _ h.1)
  hostClaim r g _ _ _ h := h.change h.1
  queuePull p _ h := h.change (State.queuePull_fetching _ _ h.1) (hpulls := mt State.queuePull_eq_nil.2)
  sendBeacon {s} hnext h :=
    have hline : s.ctl.state.onLine = true := (State.due_of_beacon hnext).2
    ⟨State.sendBeacon_fetching _ h.1, h.2.1, h.2.2.1, fun _ => hline⟩
  sendEntry {s} e hnext _ h :=
    have hline : s.ctl.state.onLine = true := StationState.onLine_of_offers (State.offers_of_entry hnext)
    ⟨State.sendEntry_fetching _ _ h.1, h.2.1, h.2.2.1, fun _ => hline⟩
  openFence _ h := h.change h.1
  drainEnd h := h.change (State.drainEnd_fetching _ h.1)
  takeWrite w g _ _ h := h.change (State.work_fetching _ _ (State.takeRoom_fetching _ _ h.1)) (hport := fun _ _ hp => nomatch hp)
  abandon r h := h.change (State.abandonWrite_fetching _ _ h.1) (hport := fun _ _ => State.abandonWrite_port_state)
  conclude {s} w _ h := by
    obtain ⟨a, ha⟩ := s.concludeWrite_answers w
    exact h.change (State.concludeWrite_fetching _ _ h.1) (hport := fun _ _ hp => by rw [ha] at hp; cases hp)
  chunkRead r k st live _ h := h.change (State.chunkRead_fetching _ _ _ _ _ h.1)
  putServing v w _ _ _ h := h.change h.1
  requestRead r h := h.change (State.requestRead_fetching _ _ h.1)
  grantImage v _ h := h.change (State.grantImage_fetching _ _ h.1)
  serve r q _ h := h.change (State.serve_fetching _ _ _ h.1)
  endServing r h := h.change (State.endServing_fetching _ _ h.1)
  closePull r park h := h.change (State.closePull_fetching _ _ _ h.1)
    (hpulls := by rw [State.closePull_pulls]; exact mt fun hnil => by rw [hnil]; rfl)
  opening {s} r n k hnext h :=
    have hworking : s.ctl.state.working = true := State.working_of_nextPull hnext
    ⟨State.opening_fetching _ r n k h.1, fun _ => hworking, h.2.2.1, h.2.2.2⟩
  endPull r g _ h := h.change (State.endPull_fetching _ r g h.1) (hpulls := mt fun hnil => by
    show (_ : State).catchup.pulls.filter _ = []
    rw [State.mapEntry_catchup, hnil]
    rfl)
  unpark r h := h.change (State.unpark_fetching _ _ h.1) (hpulls := by rw [State.unpark_pulls]; exact id)
  markStale r c _ _ h := h.change (State.markStale_fetching _ _ _ h.1) (hpulls := by rw [State.markStale_pulls]; exact id)
  setOwner r o _ h := h.change (State.mapEntry_fetching _ _ _ (fun _ => rfl) h.1)
  takeStamp r st _ _ h := h.change (State.mapEntry_fetching _ _ _ (fun _ => rfl) h.1)
  startFormat hoff h := ⟨State.work_fetching _ _ h.1, h.2.1, fun _ _ _ => hoff, h.2.2.2⟩
  formatStep {s} r k hport h := by
    have hoff := h.2.2.1 r k hport
    have hnil := h.noPulls (by rw [hoff]; rfl)
    have hsame : (s.formatStep r k).catchup = s.catchup ∧ (s.formatStep r k).ctl = s.ctl ∧ (s.formatStep r k).line = s.line := by simp
    obtain ⟨hcatchup, hctl, hline⟩ := hsame
    refine ⟨State.formatStep_fetching s r k hnil h.1, ?_, ?_, ?_⟩
    · rw [hcatchup, hctl]
      exact h.2.1
    · rw [hctl]
      exact fun _ _ _ => hoff
    · rw [hline, hctl]
      exact h.2.2.2
  halt {s} c hst h := by
    obtain ⟨hstate, hslot, hrest⟩ := s.halt_clear c
    have hcatchup : (s.halt c).catchup = ⟨[], 0, []⟩ := by tauto
    obtain ⟨t, ht, -, -, hport⟩ := s.halt_kept c
    refine State.pullsOk_of_none (State.halt_fetching s c h.1) (by rw [hcatchup]) (fun r k hp => ?_) (fun hne => absurd hslot hne)
    rw [ht] at hp
    have hformat : t.port.state = .working (.format r k) := hp
    rw [hport] at hformat
    split at hformat
    next => cases hformat
    next => exact h.noFormat hst r k hformat
  goOffline hst _ h := State.goOffline_pullsOk hst h
  leavingSent b w ack _ _ hst h := State.goOffline_pullsOk (by simpa using hst) ((sameCore_beaconSent _ b w ack).pullsOk h)
  cleared s p := State.pullsOk_of_none (State.clearWorking_fetching s p) rfl (fun _ _ hp => nomatch hp) (fun hne => absurd rfl hne)
  recovered s c straps := State.pullsOk_of_none (State.recover_fetching s c straps) rfl (fun _ _ hp => nomatch hp) (fun hne => absurd rfl hne)
  listening {s} hst hport h := by
    refine State.pullsOk_of_none (State.startListening_fetching s h.1) (h.noPulls (by rw [hst]; rfl)) (fun r k hp => ?_) (fun hne => ?_)
    · rw [State.startListening_port, hport] at hp
      cases hp
    · have := h.2.2.2 hne
      rw [hst] at this
      cases this
  leaving {s} hst hport h := by
    refine State.pullsOk_of_none (State.startLeaving_fetching s h.1) ?_ (fun r k hp => ?_) (fun _ => ?_)
    · rw [s.startLeaving_eq]
      exact s.leavingEnded_catchup
    · rw [State.startLeaving_port, hport] at hp
      cases hp
    · rw [s.startLeaving_eq]
      show s.leavingEnded.ctl.state.onLine = true
      rw [s.leavingEnded_rest.2.2.2]
      rfl
  dozing {s} hst hport hidle h := by
    have hnil : s.catchup.pulls = [] := by simp_all [State.dozeBusy]
    exact h.restate (by rw [hst]; exact StationState.noConfusion) hnil (fun _ => rfl) rfl rfl (fun _ => rfl)
  woken {s} c hst h := h.restate (by rw [hst]; exact StationState.noConfusion) (h.noPulls (by rw [hst]; rfl)) (fun _ => rfl) rfl rfl
    (fun _ => by unfold State.woken; dsimp only; split <;> rfl)
  joined st hst hw h := h.restate (by rw [hst]; exact StationState.noConfusion) (h.noPulls (by rw [hst]; rfl)) (fun _ => rfl) rfl rfl
    (fun _ => StationState.onLine_of_working hw)
  isolated hst h := ⟨h.1, fun _ => rfl, fun r k hp => absurd hp (h.noFormat (by rw [hst]; exact StationState.noConfusion) r k),
    fun _ => rfl⟩
  activated hst h := ⟨h.1, fun _ => rfl, fun r k hp => absurd hp (h.noFormat (by rw [hst]; exact StationState.noConfusion) r k),
    fun _ => rfl⟩
  sends h := h.2.2.2
  holdFrame f bit acked _ h := h.change (State.holdFrame_fetching _ _ _ _ h.1)
  beaconTimer _ h := h.change h.1
  loseBeacon b w _ h := h.change (State.returnBeacon_fetching _ _ h.1) (hslot := fun hne => absurd (by simp) hne)

end Sys2Proof.Machine
end

section
/-! SUPPORT. Effective claims under invariants that know of no ownership, and every step under those that know of no Outbox. -/

namespace Sys2Proof.Machine

-- One proof at a time: the proofs that wait for each other would hold the memory of the whole text.
set_option Elab.async false

/-- An invariant that holds whoever owns a region and whatever its stamp is. -/
structure FreeInvariant (P : State → Prop) : Prop extends Invariant P where
  anyOwner {s : State} (r : Region) (o : Option Owner) : P s → P (s.mapEntry r ({ · with owner := o }))
  anyStamp {s : State} (r : Region) (stamp : Stamp) : P s → P (s.mapEntry r ({ · with stamp := stamp }))
  anyMark {s : State} (r : Region) (c : Cause) : P s → P (s.markStale r c)

theorem Invariant.countCut {P : State → Prop} (H : Invariant P) {s : State} (cut : Bool) (h : P s) :
    P (s.mapCtl (·.countCut cut)) := by
  cases cut with
  | false => exact h
  | true => exact H.mapCtl (h := h) _

namespace FreeInvariant

variable {P : State → Prop} (H : FreeInvariant P) {s t : State}

include H

theorem recordOwner (r : Region) (o : Option Owner) (h : P s) : P (s.changeOwner r o) := by
  have hset := H.anyOwner r o h
  unfold State.changeOwner
  split
  next => exact hset
  next =>
    have hunparked := H.unpark r (H.closePull r false hset)
    have hold (self : Bool) : P ((((s.mapEntry r ({ · with owner := o })).closePull r false).unpark r).partOld r self) := by
      cases self with
      | false => exact hunparked
      | true => exact H.surrender r hunparked
    cases s.isSelf o with
    | false => exact hold _
    | true => exact H.flags r (fun e => { e.clearFlags with held := true }) (fun _ => ⟨rfl, rfl, rfl⟩) (hold _)

theorem applyClaim (c : Station) (r : Region) (stamp : Stamp) (h : P s) : P (s.applyClaim c r stamp) := by
  have hcopy : P (s.claimCopy r stamp) := by
    unfold State.claimCopy
    split
    next => exact H.anyStamp r _ h
    next => exact H.anyMark r _ h
  have howner : P ((s.claimCopy r stamp).claimOwner c r stamp) := H.closePull r false (H.recordOwner r _ hcopy)
  unfold State.applyClaim State.yielded
  split
  next => exact H.post _ (H.dropHeld r howner)
  next => exact howner

theorem claimHeard (c : ClaimFrame) (acked : Bool) (ack : StationMap) (h : P s) : P (s.receptionDone.claimHeard acked c ack) := by
  have hdone := H.receptionDone h
  unfold State.claimHeard State.decideClaim
  split
  next =>
    split
    next => exact H.applyClaim _ _ _ (H.endVote _ hdone)
    next => exact H.endVote _ hdone
  next => exact hdone

/-- An invariant that reads nothing of the Outbox is kept by the ends of CLAIM entries. -/
theorem toStep (hout : ∀ {s : State} (o : Outbox), P s → P (s.setOut o)) : StepInvariant P := by
  have hover {s : State} (r : Region) (source : ClaimSource) (won : Bool) (h : P s) : P (s.claimOver r source won) := by
    cases source with
    | host => exact hout _ h
    | sweep =>
      refine H.sweepWalk (hout _ ?_)
      cases won with
      | true => exact h
      | false => exact H.dropHeld r h
  refine { H.toInvariant with withdraw := ?_, dropDoomed := ?_, ownClaimEnd := ?_, claimHeard := ?_ }
  · exact fun e source why _ _ h => hover _ _ _ (H.post _ (hout _ h))
  · exact fun e cut _ _ h => hout _ (H.countCut cut (hout _ h))
  · intro s c w ack _ h
    have hdone := H.attemptDone h
    unfold State.ownClaimEnd State.claimDecided
    split
    next =>
      split
      next => exact hover _ _ _ (H.post _ (H.applyClaim _ _ _ (hout _ hdone)))
      next => exact hover _ _ _ (H.post _ (hout _ hdone))
    next => exact hdone
  · exact fun c _ acked ack _ _ h => H.claimHeard c acked ack h

end FreeInvariant

theorem pulls_free : FreeInvariant State.pullsOk where
  toInvariant := pulls_invariant
  anyOwner r o h := h.change (State.mapEntry_fetching _ _ _ (fun _ => rfl) h.1)
  anyStamp r st h := h.change (State.mapEntry_fetching _ _ _ (fun _ => rfl) h.1)
  anyMark r c h := h.change (State.markStale_fetching _ _ _ h.1) (hpulls := by rw [State.markStale_pulls]; exact id)

/-- Every step keeps the pulls in step with the FETCHING copies. -/
theorem pulls_step : StepInvariant State.pullsOk := pulls_free.toStep fun _ h => h

end Sys2Proof.Machine
end

section
/-! SUPPORT. Every step keeps the catch-up list and the parked set to STALE regions (R110 to R112). -/

namespace Sys2Proof.Machine

-- One proof at a time: the proofs that wait for each other would hold the memory of the whole text.
set_option Elab.async false

/-- The catch-up list is kept where the listed and parked regions stay STALE. -/
theorem State.catchupOk.change {s t : State} (h : s.catchupOk)
    (hstale : ∀ r : Region, s.table[r].copy.isStale = true → t.table[r].copy.isStale = true := by simp)
    (hlist : t.catchup.list = s.catchup.list := by simp) (hparked : t.catchup.parked = s.catchup.parked := by simp)
    (hstate : t.ctl.state = s.ctl.state := by simp) : t.catchupOk := by
  obtain ⟨hnodup, hlisted, hpark, hgate⟩ := h
  rw [← hlist] at hnodup hlisted hpark hgate
  rw [← hparked] at hpark hgate
  rw [← hstate] at hgate
  exact ⟨hnodup, fun r hr => hstale r (hlisted r hr), fun r hr => ⟨hstale r (hpark r hr).1, (hpark r hr).2⟩, hgate⟩

theorem State.catchupOk_of_empty {t : State} (hlist : t.catchup.list = []) (hparked : t.catchup.parked = 0) : t.catchupOk := by
  rw [State.catchupOk, hlist, hparked]
  exact ⟨List.nodup_nil, fun _ hr => absurd hr List.not_mem_nil, fun r hr => absurd hr (by simp), fun _ _ => ⟨rfl, rfl⟩⟩

theorem State.catchupOk.empty {s : State} (h : s.catchupOk) (hworking : s.ctl.state.working = false) (hdoze : s.ctl.state ≠ .dozing) :
    s.catchup.list = [] ∧ s.catchup.parked = 0 := h.2.2.2 hworking hdoze

theorem State.mapEntry_copy {s : State} {r : Region} {f : RegionEntry → RegionEntry} (hf : ∀ e, (f e).copy = e.copy) (q : Region) :
    (s.mapEntry r f).table[q].copy = s.table[q].copy := by
  rw [State.mapEntry_read]
  split
  next hq => rw [hf, hq]
  next => rfl

/-- A restart of a serving record changes nothing of the region entries but write hold. -/
theorem State.restartServing_read (s : State) (r q : Region) :
    ∃ hold, (s.restartServing r).table[q] = { s.table[q] with writeHold := hold } := by
  unfold State.restartServing
  split
  next => exact ⟨_, rfl⟩
  next v _ =>
    rw [State.mapEntry_read, State.putServing_table, State.dropRead_table, State.discardEntries_table]
    split
    next hq => rw [hq]; exact ⟨_, rfl⟩
    next => exact ⟨_, rfl⟩

/-- The completion of a WRITE changes of the region entries the owner's stamp and write hold. -/
theorem State.concludeWrite_read (s : State) (w : WriteWork) (q : Region) : ∃ hold, (s.concludeWrite w).table[q] = { s.table[q] with
    stamp := if s.owns w.region = true ∧ q = w.region then nextVersion s.table[q].stamp else s.table[q].stamp
    writeHold := hold } := by
  unfold State.concludeWrite
  split
  next howns =>
    obtain ⟨hold, hread⟩ := State.restartServing_read (((s.mapEntry w.region
      ({ · with stamp := nextVersion s.table[w.region].stamp })).queueWrite w s.table[w.region]).releaseHold) w.region q
    refine ⟨hold, hread.trans ?_⟩
    rw [State.releaseHold_table, State.queueWrite_table, State.mapEntry_read]
    by_cases hq : q = w.region
    · rw [if_pos hq, if_pos ⟨howns, hq⟩, hq]
    · rw [if_neg hq, if_neg fun h => hq h.2]
  next hlost =>
    have hnot : ¬ (s.owns w.region = true ∧ q = w.region) := fun h => hlost h.1
    rw [if_neg hnot]
    exact ⟨_, rfl⟩

/-- A STALE region is listed (R110). -/
theorem State.listRegion_catchupOk {s : State} {r : Region} (h : s.catchupOk) (hr : s.table[r].copy.isStale = true)
    (hworking : s.ctl.state.working = true) : (s.listRegion r).catchupOk := by
  obtain ⟨hnodup, hlisted, hpark, hgate⟩ := h
  rw [State.listRegion_eq]
  refine ⟨?_, fun q hq => ?_, fun q hq => ?_, fun hidle => absurd (hworking.symm.trans hidle) Bool.noConfusion⟩
  · dsimp only
    split
    next => exact hnodup
    next hout => exact List.nodup_append.2 ⟨hnodup, List.nodup_singleton r, fun a ha b hb hab =>
        hout (List.mem_singleton.1 hb ▸ hab ▸ ha)⟩
  · dsimp only at hq ⊢
    split at hq
    next => exact hlisted q hq
    next =>
      rcases List.mem_append.1 hq with hq | hq
      · exact hlisted q hq
      · exact List.mem_singleton.1 hq ▸ hr
  · dsimp only at hq ⊢
    rw [inMap_dropBit, Bool.and_eq_true, Bool.not_eq_true', decide_eq_false_iff_not] at hq
    refine ⟨(hpark q hq.1).1, ?_⟩
    split
    next => exact (hpark q hq.1).2
    next => exact fun hmem => (List.mem_append.1 hmem).elim (hpark q hq.1).2 fun hmem => hq.2 (List.mem_singleton.1 hmem)

/-- A STALE region that is not listed is parked (R111). -/
theorem State.parkRegion_catchupOk {s : State} {r : Region} (h : s.catchupOk) (hr : s.table[r].copy.isStale = true)
    (hout : r ∉ s.catchup.list) (hworking : s.ctl.state.working = true) : (s.parkRegion r).catchupOk := by
  obtain ⟨hnodup, hlisted, hpark, hgate⟩ := h
  refine ⟨hnodup, hlisted, fun q hq => ?_, fun hidle => absurd (hworking.symm.trans hidle) Bool.noConfusion⟩
  have hq : inMap (addBit s.catchup.parked r) q = true := hq
  rw [Sys2Proof.inMap_addBit, Bool.or_eq_true, decide_eq_true_eq] at hq
  rcases hq with hq | rfl
  · exact hpark q hq
  · exact ⟨hr, hout⟩

/-- A region with an open pull is FETCHING, and so neither listed nor parked (R7, R114). -/
theorem State.not_listed_of_pulled {s : State} {r : Region} (hpulls : s.pullsOk) (h : s.catchupOk)
    (hr : ∃ p ∈ s.catchup.pulls, p.region = r) :
    s.table[r].copy.isFetching = true ∧ r ∉ s.catchup.list ∧ inMap s.catchup.parked r = false := by
  obtain ⟨p, hp, rfl⟩ := hr
  have hfetching : s.table[p.region].copy.isFetching = true := by
    rw [hpulls.1 p.region, List.any_eq_true]
    exact ⟨p, hp, beq_self_eq_true _⟩
  have hfresh : s.table[p.region].copy.isStale ≠ true := by
    cases hcopy : s.table[p.region].copy <;> simp_all [CopyState.isFetching, CopyState.isStale]
  exact ⟨hfetching, fun hl => hfresh (h.2.1 _ hl), Bool.eq_false_iff.2 fun hp => hfresh (h.2.2.1 _ hp).1⟩

theorem State.closePull_catchupOk {s : State} (r : Region) (park : Bool) (hpulls : s.pullsOk) (h : s.catchupOk) :
    (s.closePull r park).catchupOk := by
  cases hp : s.pullOf r with
  | none => rwa [State.closePull, hp]
  | some p =>
    have hmem : ∃ p ∈ s.catchup.pulls, p.region = r := ⟨p, List.mem_of_find?_eq_some hp, by simpa using List.find?_some hp⟩
    obtain ⟨hfetching, hout, -⟩ := State.not_listed_of_pulled hpulls h hmem
    rw [State.closePull_of_pulled _ _ hp]
    have hread (q : Region) : (((s.dropPull r).discardEntries (pullEntryOf r) false).mapEntry r
        (fun e => { e with copy := closedCopy p.taken e.copy })).table[q]
          = if q = r then { s.table[r] with copy := closedCopy p.taken s.table[r].copy } else s.table[q] := by
      rw [State.mapEntry_read, State.discardEntries_table]
      rfl
    have hstale : (closedCopy p.taken s.table[r].copy).isStale = true := by
      cases hcopy : s.table[r].copy <;> simp_all [CopyState.isFetching, closedCopy, CopyState.isStale]
    have hclosed : (((s.dropPull r).discardEntries (pullEntryOf r) false).mapEntry r
        (fun e => { e with copy := closedCopy p.taken e.copy })).catchupOk := by
      refine h.change (fun q hq => ?_) (by simp; rfl) (by simp; rfl) (by simp)
      rw [hread]
      split
      next => exact hstale
      next => exact hq
    have hr : (((s.dropPull r).discardEntries (pullEntryOf r) false).mapEntry r
        (fun e => { e with copy := closedCopy p.taken e.copy })).table[r].copy.isStale = true := by
      rw [hread, if_pos rfl]
      exact hstale
    unfold State.afterClosure
    split
    next hworking =>
      split
      · exact State.parkRegion_catchupOk (hclosed.change) (by simpa using hr) (by simp; exact hout) (by simpa using hworking)
      · exact State.listRegion_catchupOk (hclosed.change) (by simpa using hr) (by simpa using hworking)
    next => exact hclosed

theorem State.mem_list_of_nextPull {s : State} {r : Region} {n : Station} {k : Cause} (h : s.nextPull = some (r, n, k)) :
    r ∈ s.catchup.list := by
  unfold State.nextPull at h
  split at h
  next =>
    obtain ⟨q, hfind, hfor⟩ := Option.bind_eq_some_iff.1 h
    unfold State.pullFor at hfor
    split at hfor
    next =>
      obtain ⟨rfl, -⟩ : q = r ∧ _ := by simpa using hfor
      exact List.mem_of_find?_eq_some hfind
    next => cases hfor
  next => cases h

/-- A pull that opens takes its region off the list (R114). -/
theorem State.opening_catchupOk {s : State} {r : Region} {n : Station} {k : Cause} (hnext : s.nextPull = some (r, n, k))
    (h : s.catchupOk) : (s.opening r n k).catchupOk := by
  have hworking := State.working_of_nextPull hnext
  have hmem := State.mem_list_of_nextPull hnext
  obtain ⟨hnodup, hlisted, hpark, -⟩ := h
  have hkeeps {q : Region} (hq : q ≠ r) (hs : s.table[q].copy.isStale = true) :
      (s.opening r n k).table[q].copy.isStale = true := by
    unfold State.opening
    rw [State.mapEntry_read, if_neg hq]
    exact hs
  refine ⟨hnodup.erase r, fun q hq => ?_, fun q hq => ?_, fun hidle => absurd (hworking.symm.trans hidle) Bool.noConfusion⟩
  · obtain ⟨hne, hq⟩ := hnodup.mem_erase_iff.1 hq
    exact hkeeps hne (hlisted q hq)
  · obtain ⟨hstale, hout⟩ := hpark q hq
    exact ⟨hkeeps (fun hqr => hout (hqr ▸ hmem)) hstale, fun hq => hout (List.mem_of_mem_erase hq)⟩

theorem State.mem_staleRegions {s : State} {r : Region} : r ∈ s.staleRegions ↔ s.table[r].copy.isStale = true := by
  unfold State.staleRegions
  rw [List.mem_filter]
  cases s.table[r].copy <;> simp [CopyState.isStale]

theorem State.staleRegions_nodup (s : State) : s.staleRegions.Nodup := (List.nodup_finRange 64).filter _

theorem State.unpark_catchupOk {s : State} (r : Region) (h : s.catchupOk) : (s.unpark r).catchupOk := by
  unfold State.unpark
  split
  next hparked =>
    rw [Bool.and_eq_true] at hparked
    exact State.listRegion_catchupOk h (h.2.2.1 r hparked.2).1 hparked.1
  next => exact h

theorem State.mapEntry_catchupOk {s : State} {r : Region} {f : RegionEntry → RegionEntry} (hf : ∀ e, (f e).copy = e.copy)
    (h : s.catchupOk) : (s.mapEntry r f).catchupOk := h.change fun q hq => by rwa [State.mapEntry_copy hf]

theorem markedCopy_stale {c : CopyState} (x : Cause) (h : c.isStale = true ∨ markedCopy c x ≠ c) : (markedCopy c x).isStale = true := by
  rcases c with _ | (_ | _) | _ <;> cases x <;> simp_all [markedCopy, CopyState.isStale]

theorem State.markStale_catchupOk {s : State} (r : Region) (c : Cause) (h : s.catchupOk) : (s.markStale r c).catchupOk := by
  unfold State.markStale
  split
  next => exact State.unpark_catchupOk r h
  next hchanges =>
    have hread (q : Region) := s.mapEntry_read r q (fun e => { e with copy := markedCopy e.copy c })
    have hmarked : (s.mapEntry r (fun e => { e with copy := markedCopy e.copy c })).catchupOk := by
      refine h.change (fun q hq => ?_)
      rw [hread]
      split
      next hqr => exact markedCopy_stale c (.inr hchanges)
      next => exact hq
    have hr : (s.mapEntry r (fun e => { e with copy := markedCopy e.copy c })).table[r].copy.isStale = true := by
      rw [hread, if_pos rfl]
      exact markedCopy_stale c (.inr hchanges)
    unfold State.reportMark
    split
    next hworking => exact State.listRegion_catchupOk hmarked.change (by simpa using hr) (by simpa using hworking)
    next => split <;> exact hmarked.change

theorem State.queuePull_lists (s : State) (p : PullRecord) : (s.queuePull p).catchup.list = s.catchup.list
    ∧ (s.queuePull p).catchup.parked = s.catchup.parked := by
  unfold State.queuePull
  split <;> exact ⟨rfl, rfl⟩

theorem SameCore.catchupOk {s t : State} (hs : SameCore s t) (h : s.catchupOk) : t.catchupOk :=
  h.change (fun r hr => by rwa [hs.copy]) hs.list hs.parked hs.state

theorem State.goOffline_catchupOk {s : State} (hst : s.ctl.state = .leaving) (h : s.catchupOk) : s.goOffline.catchupOk := by
  obtain ⟨hlist, hparked⟩ := h.empty (by rw [hst]; rfl) (by rw [hst]; exact StationState.noConfusion)
  exact State.catchupOk_of_empty (by simpa using hlist) (by simpa using hparked)

/-- The catch-up list beside the pulls. -/
def State.listOk (s : State) : Prop := s.pullsOk ∧ s.catchupOk

/-- The changes of which commands consist keep the catch-up list. -/
theorem list_invariant : Invariant State.listOk where
  core hs h := ⟨hs.pullsOk h.1, hs.catchupOk h.2⟩
  port f hf h := ⟨pulls_invariant.port f hf h.1, h.2.change⟩
  discard p cut h := ⟨pulls_invariant.discard p cut h.1, h.2.change⟩
  fewer es hes hslot h := ⟨pulls_invariant.fewer es hes hslot h.1, h.2.change⟩
  putBack f hf hslot h := ⟨pulls_invariant.putBack f hf hslot h.1, h.2.change⟩
  sweepAct hrun hnone h := ⟨pulls_invariant.sweepAct hrun hnone h.1, h.2.change (fun r hr => by rw [State.sweepAct_table]; exact hr)⟩
  hostClaim r g hst howns hcheck h := ⟨pulls_invariant.hostClaim r g hst howns hcheck h.1, h.2.change⟩
  queuePull {s} p hne h := ⟨pulls_invariant.queuePull p hne h.1,
    h.2.change (hlist := (s.queuePull_lists p).1) (hparked := (s.queuePull_lists p).2)⟩
  sendBeacon hnext h := ⟨pulls_invariant.sendBeacon hnext h.1, h.2.change⟩
  sendEntry e hnext hslot h := ⟨pulls_invariant.sendEntry e hnext hslot h.1, h.2.change⟩
  openFence hport h := ⟨pulls_invariant.openFence hport h.1, h.2.change⟩
  drainEnd h := ⟨pulls_invariant.drainEnd h.1, h.2.change⟩
  takeWrite w g hport hcheck h := ⟨pulls_invariant.takeWrite w g hport hcheck h.1, h.2.change⟩
  abandon r h := ⟨pulls_invariant.abandon r h.1, h.2.change⟩
  conclude {s} w hport h := ⟨pulls_invariant.conclude w hport h.1, h.2.change (fun r hr => by
    obtain ⟨hold, hread⟩ := s.concludeWrite_read w r
    rw [hread]
    exact hr)⟩
  chunkRead r k st live hop h := ⟨pulls_invariant.chunkRead r k st live hop h.1, h.2.change⟩
  putServing v w hv hr hread h := ⟨pulls_invariant.putServing v w hv hr hread h.1, h.2.change⟩
  requestRead r h := ⟨pulls_invariant.requestRead r h.1, h.2.change⟩
  grantImage v hv h := ⟨pulls_invariant.grantImage v hv h.1, h.2.change⟩
  serve r q hst h := ⟨pulls_invariant.serve r q hst h.1, h.2.change⟩
  endServing r h := ⟨pulls_invariant.endServing r h.1, h.2.change (fun q hq => by rw [State.endServing_table]; exact hq)⟩
  closePull r park h := ⟨pulls_invariant.closePull r park h.1, State.closePull_catchupOk r park h.1 h.2⟩
  opening r n k hnext h := ⟨pulls_invariant.opening r n k hnext h.1, State.opening_catchupOk hnext h.2⟩
  endPull {s} r g hp h := by
    obtain ⟨hfetching, hout, hpark⟩ := State.not_listed_of_pulled h.1 h.2 hp
    refine ⟨pulls_invariant.endPull r g hp h.1, h.2.change (fun q hq => ?_) rfl rfl rfl⟩
    rw [State.dropPull_table, State.mapEntry_read]
    split
    next hqr =>
      rw [hqr] at hq
      cases hcopy : s.table[r].copy <;> simp_all [CopyState.isFetching, CopyState.isStale]
    next => exact hq
  unpark r h := ⟨pulls_invariant.unpark r h.1, State.unpark_catchupOk r h.2⟩
  markStale r c hslot howns h := ⟨pulls_invariant.markStale r c hslot howns h.1, State.markStale_catchupOk r c h.2⟩
  setOwner r o ho h := ⟨pulls_invariant.setOwner r o ho h.1, State.mapEntry_catchupOk (fun _ => rfl) h.2⟩
  takeStamp r st hslot howns h := ⟨pulls_invariant.takeStamp r st hslot howns h.1, State.mapEntry_catchupOk (fun _ => rfl) h.2⟩
  startFormat hoff h := ⟨pulls_invariant.startFormat hoff h.1, h.2.change⟩
  formatStep {s} r k hport h := by
    have hoff := h.1.2.2.1 r k hport
    obtain ⟨hlist, hparked⟩ := h.2.empty (by rw [hoff]; rfl) (by rw [hoff]; exact StationState.noConfusion)
    exact ⟨pulls_invariant.formatStep r k hport h.1, State.catchupOk_of_empty (by simpa using hlist) (by simpa using hparked)⟩
  halt {s} c hst h := by
    have hclear := s.halt_clear c
    have hcatchup : (s.halt c).catchup = ⟨[], 0, []⟩ := by
      unfold State.haltedClear at hclear
      tauto
    exact ⟨pulls_invariant.halt c hst h.1, State.catchupOk_of_empty (by rw [hcatchup]) (by rw [hcatchup])⟩
  goOffline hst hph h := ⟨pulls_invariant.goOffline hst hph h.1, State.goOffline_catchupOk hst h.2⟩
  leavingSent b w ack hslot hm hst h := ⟨pulls_invariant.leavingSent b w ack hslot hm hst h.1,
    State.goOffline_catchupOk (by simpa using hst) ((sameCore_beaconSent _ b w ack).catchupOk h.2)⟩
  cleared s p := ⟨pulls_invariant.cleared s p, State.catchupOk_of_empty rfl rfl⟩
  recovered s c straps := ⟨pulls_invariant.recovered s c straps, State.catchupOk_of_empty rfl rfl⟩
  listening {s} hst hport h := by
    obtain ⟨hlist, hparked⟩ := h.2.empty (by rw [hst]; rfl) (by rw [hst]; exact StationState.noConfusion)
    exact ⟨pulls_invariant.listening hst hport h.1, State.catchupOk_of_empty hlist hparked⟩
  leaving {s} hst hport h := ⟨pulls_invariant.leaving hst hport h.1, by
    rw [s.startLeaving_eq]
    exact State.catchupOk_of_empty rfl rfl⟩
  dozing hst hport hidle h := ⟨pulls_invariant.dozing hst hport hidle h.1, h.2.1, h.2.2.1, h.2.2.2.1, fun _ hdoze => absurd rfl hdoze⟩
  woken {s} c hst h := by
    have hmem (r : Region) (hr : r ∈ s.catchup.list ++ s.unlisted) : s.table[r].copy.isStale = true :=
      (List.mem_append.1 hr).elim (h.2.2.1 r) fun hr => State.mem_staleRegions.1 (List.mem_of_mem_filter hr)
    refine ⟨pulls_invariant.woken c hst h.1, ?_, hmem, fun r hr => absurd hr (by simp [State.woken]), fun hidle => ?_⟩
    · refine List.nodup_append.2 ⟨h.2.1, s.staleRegions_nodup.filter _, fun a ha b hb hab => ?_⟩
      have hout := (List.mem_filter.1 hb).2
      simp [← hab, ha] at hout
    · unfold State.woken at hidle
      dsimp only at hidle
      split at hidle <;> cases hidle
  joined {s} st hst hw h := ⟨pulls_invariant.joined st hst hw h.1, s.staleRegions_nodup, fun r hr => State.mem_staleRegions.1 hr,
    fun r hr => absurd hr (by simp [State.joinedAs]), fun hidle => absurd (hw.symm.trans hidle) Bool.noConfusion⟩
  isolated hst h := ⟨pulls_invariant.isolated hst h.1, h.2.1, h.2.2.1, h.2.2.2.1, fun hidle => nomatch hidle⟩
  activated hst h := ⟨pulls_invariant.activated hst h.1, h.2.1, h.2.2.1, h.2.2.2.1, fun hidle => nomatch hidle⟩
  sends h := h.1.2.2.2
  holdFrame f bit acked ho h := ⟨pulls_invariant.holdFrame f bit acked ho h.1, h.2.change⟩
  beaconTimer ht h := ⟨pulls_invariant.beaconTimer ht h.1, h.2.change⟩
  loseBeacon b w hslot h := ⟨pulls_invariant.loseBeacon b w hslot h.1, h.2.change⟩

theorem list_free : FreeInvariant State.listOk where
  toInvariant := list_invariant
  anyOwner r o h := ⟨pulls_free.anyOwner r o h.1, State.mapEntry_catchupOk (fun _ => rfl) h.2⟩
  anyStamp r st h := ⟨pulls_free.anyStamp r st h.1, State.mapEntry_catchupOk (fun _ => rfl) h.2⟩
  anyMark r c h := ⟨pulls_free.anyMark r c h.1, State.markStale_catchupOk r c h.2⟩

/-- Every step keeps the catch-up list. -/
theorem list_step : StepInvariant State.listOk := list_free.toStep fun _ h => h

end Sys2Proof.Machine
end

section
/-! SUPPORT. Lists of Outbox entries of which some have left and others have gone back to WAITING: what they keep of counts, claims
and coalescing candidates. -/

namespace Sys2Proof.Machine

-- One proof at a time: the proofs that wait for each other would hold the memory of the whole text.
set_option Elab.async false

/-- `e'` is the entry `e`, perhaps back at WAITING, with another retry count or another mark of its removal. -/
def OutEntry.Like (e' e : OutEntry) : Prop :=
  e'.region = e.region ∧ (e'.sending = true → e.sending = true)
    ∧ (e'.body = e.body ∨ ∃ u n, e.body = .update u ∧ e'.body = .update { u with retries := n })

/-- `e'` is of the kind and region of `e`, an UPDATE at least as sealed, and not being sent where `e` is not. -/
def OutEntry.Shape (e' e : OutEntry) : Prop :=
  e'.region = e.region ∧ (e'.sending = true → e.sending = true)
    ∧ (e'.body = e.body ∨ ∃ u u', e.body = .update u ∧ e'.body = .update u' ∧ (u.sealed = true → u'.sealed = true))

theorem OutEntry.Like.shape {e' e : OutEntry} (h : e'.Like e) : e'.Shape e := by
  obtain ⟨hregion, hsending, hbody | ⟨u, n, hu, hu'⟩⟩ := h
  · exact ⟨hregion, hsending, .inl hbody⟩
  · exact ⟨hregion, hsending, .inr ⟨u, _, hu, hu', id⟩⟩

theorem OutEntry.Like.refl (e : OutEntry) : e.Like e := ⟨rfl, id, .inl rfl⟩

/-- A property of an entry that its kind and region decide. -/
def readsKind (p : OutEntry → Bool) : Prop := ∀ e' e : OutEntry, e'.Shape e → p e' = p e

theorem readsKind_of_body {p : OutEntry → Bool} (q : Region → EntryBody → Bool) (hp : ∀ e, p e = q e.region e.body)
    (hq : ∀ r u u', q r (.update u') = q r (.update u)) : readsKind p := by
  rintro e' e ⟨hregion, -, hbody | ⟨u, u', hbody, hbody', -⟩⟩
  · rw [hp, hp, hregion, hbody]
  · rw [hp, hp, hregion, hbody, hbody', hq _ u u']

theorem readsKind_isUpdate : readsKind OutEntry.isUpdate :=
  readsKind_of_body (fun _ b => match b with | .update _ => true | _ => false) (fun _ => rfl) fun _ _ _ => rfl

theorem readsKind_isImage : readsKind OutEntry.isImage :=
  readsKind_of_body (fun _ b => match b with | .image _ => true | _ => false) (fun _ => rfl) fun _ _ _ => rfl

theorem readsKind_isHost : readsKind OutEntry.isHost :=
  readsKind_of_body (fun _ b => match b with | .claim .host => true | _ => false) (fun _ => rfl) fun _ _ _ => rfl

theorem readsKind_isSweep : readsKind OutEntry.isSweep :=
  readsKind_of_body (fun _ b => match b with | .claim .sweep => true | _ => false) (fun _ => rfl) fun _ _ _ => rfl

theorem readsKind_isClaim : readsKind OutEntry.isClaim :=
  readsKind_of_body (fun _ b => match b with | .claim _ => true | _ => false) (fun _ => rfl) fun _ _ _ => rfl

theorem readsKind_updates (r : Region) : readsKind (OutEntry.updates r) := fun e' e h => by
  rw [OutEntry.updates, OutEntry.updates, readsKind_isUpdate e' e h, h.1]

/-- The entries `es'` are those of `es` in their places, some of them gone. -/
abbrev Thinned (es' es : List OutEntry) : Prop := List.SublistForall₂ OutEntry.Like es' es

/-- The entries `es'` are of the kinds and regions of those of `es` in their places, some of them gone. -/
abbrev Shaped (es' es : List OutEntry) : Prop := List.SublistForall₂ OutEntry.Shape es' es

theorem Thinned.shaped {es' es : List OutEntry} (h : Thinned es' es) : Shaped es' es := by
  induction h with
  | nil => exact .nil
  | cons hlike _ ih => exact .cons hlike.shape ih
  | cons_right _ ih => exact .cons_right ih

theorem shaped_of_filter_map (keep : OutEntry → Bool) (f : OutEntry → OutEntry) (hf : ∀ e, (f e).Shape e) (es : List OutEntry) :
    Shaped ((es.filter keep).map f) es := by
  induction es with
  | nil => exact .nil
  | cons e es ih =>
    rw [List.filter_cons]
    split
    next => exact .cons (hf e) ih
    next => exact .cons_right ih

theorem shaped_map (f : OutEntry → OutEntry) (hf : ∀ e, (f e).Shape e) (es : List OutEntry) : Shaped (es.map f) es := by
  simpa using shaped_of_filter_map (fun _ => true) f hf es

theorem thinned_of_filter_map (keep : OutEntry → Bool) (f : OutEntry → OutEntry) (hf : ∀ e, (f e).Like e) (es : List OutEntry) :
    Thinned ((es.filter keep).map f) es := by
  induction es with
  | nil => exact .nil
  | cons e es ih =>
    rw [List.filter_cons]
    split
    next => exact .cons (hf e) ih
    next => exact .cons_right ih

theorem thinned_refl (es : List OutEntry) : Thinned es es := by
  simpa using thinned_of_filter_map (fun _ => true) id OutEntry.Like.refl es

theorem thinned_of_sublist {es' es : List OutEntry} (h : es'.Sublist es) : Thinned es' es :=
  List.sublistForall₂_iff.2 ⟨es', List.forall₂_same.2 fun e _ => OutEntry.Like.refl e, h⟩

theorem markedBy_like (p : OutEntry → Bool) (cut : Bool) (e : OutEntry) : (e.markedBy p cut).Like e := by
  unfold OutEntry.markedBy
  split <;> exact ⟨rfl, id, .inl rfl⟩

theorem thinned_keptEntries (p : OutEntry → Bool) (cut : Bool) (es : List OutEntry) : Thinned (keptEntries p cut es) es :=
  thinned_of_filter_map _ _ (markedBy_like p cut) es

theorem thinned_removalAsked (p : OutEntry → Bool) (es : List OutEntry) : Thinned (removalAsked p es) es := by
  rw [← keptEntries_eq_removalAsked]
  exact thinned_keptEntries p false es

namespace Shaped

variable {es' es : List OutEntry}

theorem countP_le (h : Shaped es' es) {p : OutEntry → Bool} (hp : readsKind p) : es'.countP p ≤ es.countP p := by
  induction h with
  | nil => exact Nat.zero_le _
  | cons hlike _ ih =>
    rw [List.countP_cons, List.countP_cons, hp _ _ hlike]
    exact Nat.add_le_add_right ih _
  | cons_right _ ih => exact ih.trans (by rw [List.countP_cons]; exact Nat.le_add_right _ _)

theorem of_mem (h : Shaped es' es) {e' : OutEntry} (he : e' ∈ es') : ∃ e ∈ es, e'.Shape e := by
  induction h with
  | nil => cases he
  | cons hlike _ ih =>
    rcases List.mem_cons.1 he with rfl | he
    · exact ⟨_, List.mem_cons_self, hlike⟩
    · obtain ⟨e, hmem, hle⟩ := ih he
      exact ⟨e, List.mem_cons_of_mem _ hmem, hle⟩
  | cons_right _ ih =>
    obtain ⟨e, hmem, hle⟩ := ih he
    exact ⟨e, List.mem_cons_of_mem _ hmem, hle⟩

theorem ne_nil (h : Shaped es' es) (hne : es' ≠ []) : es ≠ [] := by
  cases h with
  | nil => exact absurd rfl hne
  | cons => exact List.cons_ne_nil _ _
  | cons_right => exact List.cons_ne_nil _ _

theorem claimed_regions (h : Shaped es' es) :
    ((es'.filter OutEntry.isClaim).map (·.region)).Sublist ((es.filter OutEntry.isClaim).map (·.region)) := by
  induction h with
  | nil => exact List.nil_sublist _
  | cons hlike _ ih =>
    rw [List.filter_cons, List.filter_cons, readsKind_isClaim _ _ hlike]
    split
    next =>
      rw [List.map_cons, List.map_cons, hlike.1]
      exact ih.cons_cons _
    next => exact ih
  | cons_right _ ih =>
    rw [List.filter_cons]
    split
    next => exact ih.cons _
    next => exact ih

end Shaped

namespace Thinned

variable {es' es : List OutEntry}

/-- With no UPDATE entry gone, the UPDATE entries are the same ones. -/
theorem updates_forall₂ (h : Thinned es' es) (hcount : es'.countP OutEntry.isUpdate = es.countP OutEntry.isUpdate) :
    List.Forall₂ OutEntry.Like (es'.filter OutEntry.isUpdate) (es.filter OutEntry.isUpdate) := by
  induction h with
  | nil =>
    rw [List.countP_nil, eq_comm, List.countP_eq_zero] at hcount
    rw [List.filter_eq_nil_iff.2 hcount]
    exact .nil
  | cons hlike _ ih =>
    rw [List.countP_cons, List.countP_cons, readsKind_isUpdate _ _ hlike.shape, Nat.add_right_cancel_iff] at hcount
    rw [List.filter_cons, List.filter_cons, readsKind_isUpdate _ _ hlike.shape]
    split
    next => exact .cons hlike (ih hcount)
    next => exact ih hcount
  | @cons_right a l₁ l₂ hthin ih =>
    have hle : l₁.countP OutEntry.isUpdate ≤ l₂.countP OutEntry.isUpdate := Shaped.countP_le (Thinned.shaped hthin) readsKind_isUpdate
    rw [List.countP_cons] at hcount
    rw [List.filter_cons]
    split
    next hupdate =>
      rw [if_pos hupdate] at hcount
      omega
    next hother =>
      rw [if_neg hother] at hcount
      exact ih hcount

end Thinned

theorem forall₂_filter {l' l : List OutEntry} {p : OutEntry → Bool} (hp : readsKind p) (h : List.Forall₂ OutEntry.Like l' l) :
    List.Forall₂ OutEntry.Like (l'.filter p) (l.filter p) := by
  induction h with
  | nil => exact .nil
  | cons hlike _ ih =>
    rw [List.filter_cons, List.filter_cons, hp _ _ hlike.shape]
    split
    next => exact .cons hlike ih
    next => exact ih

theorem forall₂_getLast? {l' l : List OutEntry} (h : List.Forall₂ OutEntry.Like l' l) {e : OutEntry} (he : l.getLast? = some e) :
    ∃ e', l'.getLast? = some e' ∧ e'.Like e := by
  induction h with
  | nil => cases he
  | @cons a b l₁ l₂ hlike hall ih =>
    rw [List.getLast?_cons] at he ⊢
    cases hl : l₂.getLast? with
    | none =>
      have hnil : l₁ = [] := by
        rw [List.getLast?_eq_none_iff.1 hl] at hall
        exact List.forall₂_nil_right_iff.1 hall
      rw [hl] at he
      cases he
      rw [hnil]
      exact ⟨a, rfl, hlike⟩
    | some x =>
      rw [hl] at he
      cases he
      obtain ⟨e', he', hle⟩ := ih hl
      rw [he']
      exact ⟨e', rfl, hle⟩

theorem filter_updates (r : Region) (es : List OutEntry) :
    (es.filter OutEntry.isUpdate).filter (OutEntry.updates r) = es.filter (OutEntry.updates r) := by
  rw [List.filter_filter]
  refine List.filter_congr fun e _ => ?_
  unfold OutEntry.updates
  cases e.isUpdate <;> simp

/-- The youngest UPDATE entry of a region among the entries. -/
theorem Outbox.youngest_eq_some {o : Outbox} {r : Region} {u : UpdateEntry} :
    o.youngest r = some u ↔ ∃ e, (o.entries.filter (OutEntry.updates r)).getLast? = some e ∧ e.body = .update u := by
  unfold Outbox.youngest
  constructor
  · intro h
    split at h
    next x hlast => cases h; exact ⟨_, hlast, rfl⟩
    next => cases h
  · rintro ⟨⟨q, body, sending, doom⟩, hlast, rfl⟩
    rw [hlast]

theorem Outbox.youngest_of_thinned {o' o : Outbox} {r : Region} {u : UpdateEntry} (h : Thinned o'.entries o.entries)
    (hcount : o'.entries.countP OutEntry.isUpdate = o.entries.countP OutEntry.isUpdate) (hu : o.youngest r = some u) :
    ∃ n, o'.youngest r = some { u with retries := n } := by
  obtain ⟨e, hlast, hbody⟩ := Outbox.youngest_eq_some.1 hu
  have hall := forall₂_filter (readsKind_updates r) (Thinned.updates_forall₂ h hcount)
  rw [filter_updates, filter_updates] at hall
  obtain ⟨e', hlast', -, -, hsame | ⟨v, n, hv, hv'⟩⟩ := forall₂_getLast? hall hlast
  · exact ⟨u.retries, Outbox.youngest_eq_some.2 ⟨e', hlast', hsame.trans hbody⟩⟩
  · obtain rfl : v = u := by
      rw [hv] at hbody
      exact EntryBody.update.inj hbody
    exact ⟨n, Outbox.youngest_eq_some.2 ⟨e', hlast', hv'⟩⟩

end Sys2Proof.Machine
end

section
/-! SUPPORT. The parts of the Outbox's invariant, and how each is kept by a change of what it reads. -/

namespace Sys2Proof.Machine

-- One proof at a time: the proofs that wait for each other would hold the memory of the whole text.
set_option Elab.async false

/-- The entries within their limits, the CLAIM entries those of the host claim and of the sweep, and a sent UPDATE sealed (R61, R65,
R69, R88, R104). -/
def Outbox.boxOk (o : Outbox) : Prop :=
  o.updateCount ≤ Config.updateLimit
    ∧ (∀ e ∈ o.entries, (e.body = .claim .host → o.hostClaim = some e.region)
      ∧ (e.body = .claim .sweep → o.sweep.outstanding = some e.region))
    ∧ o.entries.countP OutEntry.isHost ≤ 1 ∧ o.entries.countP OutEntry.isSweep ≤ 1
    ∧ (∀ e ∈ o.entries, e.sending = true → ∀ u, e.body = .update u → u.sealed = true)

/-- The room of a WRITE in progress (R61). -/
def Outbox.roomFor (o : Outbox) (w : WriteWork) : Prop :=
  o.reserved.isSome = true ∨ o.updateCount < Config.updateLimit
    ∨ ∃ u, o.youngest w.region = some u ∧ u.offset = w.offset ∧ u.data.length = w.data.length ∧ u.sealed = false ∧ u.held = true

/-- Every WRITE in progress has its room. -/
def State.writeOk (s : State) : Prop := ∀ w, s.port.state = .working (.write w) → s.out.roomFor w

theorem countP_isClaim (es : List OutEntry) :
    es.countP OutEntry.isClaim = es.countP OutEntry.isHost + es.countP OutEntry.isSweep := by
  induction es with
  | nil => rfl
  | cons e es ih =>
    rw [List.countP_cons, List.countP_cons, List.countP_cons, ih]
    rcases e with ⟨_, _ | (_ | _) | _ | _, _, _⟩ <;> simp [OutEntry.isClaim, OutEntry.isHost, OutEntry.isSweep] <;> omega

theorem State.outboxOk_iff (s : State) : s.outboxOk ↔ s.out.boxOk ∧ s.writeOk ∧ s.imagesOk ∧ s.phasesOk := by
  constructor
  · rintro ⟨hcount, -, -, ⟨hclaims, hhost, hsweep⟩, ⟨hroom, hsealed⟩, himages, hphases⟩
    exact ⟨⟨hcount, hclaims, hhost, hsweep, hsealed⟩, hroom, himages, hphases⟩
  · rintro ⟨⟨hcount, hclaims, hhost, hsweep, hsealed⟩, hroom, himages, hphases⟩
    refine ⟨hcount, ?_, ?_, ⟨hclaims, hhost, hsweep⟩, ⟨hroom, hsealed⟩, himages, hphases⟩
    · rw [countP_isClaim]
      exact Nat.add_le_add hhost hsweep
    · exact (Nat.le_add_right _ _).trans himages.1

theorem Outbox.updateCount_le_of_shaped {o' o : Outbox} (h : Shaped o'.entries o.entries)
    (hreserved : o'.reserved = o.reserved ∨ o'.reserved = none) : o'.updateCount ≤ o.updateCount := by
  refine Nat.add_le_add (h.countP_le readsKind_isUpdate) ?_
  rcases hreserved with hsame | hnone
  · rw [hsame]
  · rw [hnone]
    exact Nat.zero_le _

theorem Outbox.boxOk.shaped {o' o : Outbox} (h : o.boxOk) (hthin : Shaped o'.entries o.entries)
    (hreserved : o'.reserved = o.reserved ∨ o'.reserved = none)
    (hhost : (∃ e ∈ o'.entries, e.isHost = true) → o'.hostClaim = o.hostClaim)
    (hsweep : (∃ e ∈ o'.entries, e.isSweep = true) → o'.sweep.outstanding = o.sweep.outstanding) : o'.boxOk := by
  obtain ⟨hcount, hclaims, hhosts, hsweeps, hsealed⟩ := h
  refine ⟨(Outbox.updateCount_le_of_shaped hthin hreserved).trans hcount, fun e' he' => ?_,
    (hthin.countP_le readsKind_isHost).trans hhosts, (hthin.countP_le readsKind_isSweep).trans hsweeps, fun e' he' hsend u hu => ?_⟩
  · obtain ⟨e, he, hregion, -, hbody⟩ := hthin.of_mem he'
    have hclaim (source : ClaimSource) (hb : e'.body = .claim source) : e.body = .claim source := by
      rcases hbody with hsame | ⟨u, u', -, hb'⟩
      · exact hsame.symm.trans hb
      · exact absurd (hb'.1.symm.trans hb) EntryBody.noConfusion
    refine ⟨fun hb => ?_, fun hb => ?_⟩
    · rw [hhost ⟨e', he', by rw [OutEntry.isHost, hb]⟩, hregion]
      exact (hclaims e he).1 (hclaim _ hb)
    · rw [hsweep ⟨e', he', by rw [OutEntry.isSweep, hb]⟩, hregion]
      exact (hclaims e he).2 (hclaim _ hb)
  · obtain ⟨e, he, -, hsent, hsame | ⟨v, v', hv, hv', hseal⟩⟩ := hthin.of_mem he'
    · exact hsealed e he (hsent hsend) u (hsame.symm.trans hu)
    · obtain rfl := EntryBody.update.inj (hv'.symm.trans hu)
      exact hseal (hsealed e he (hsent hsend) v hv)

theorem Outbox.roomFor.thinned {o' o : Outbox} {w : WriteWork} (h : o.roomFor w) (hcount : o.updateCount ≤ Config.updateLimit)
    (hthin : Thinned o'.entries o.entries) (hreserved : o'.reserved = o.reserved) : o'.roomFor w := by
  have hle := Outbox.updateCount_le_of_shaped hthin.shaped (.inl hreserved)
  rcases h with hroom | hroom | ⟨u, hu, hoffset, hlength, hsealed, hheld⟩
  · exact .inl (hreserved ▸ hroom)
  · exact .inr (.inl (Nat.lt_of_le_of_lt hle hroom))
  · by_cases hsame : o'.entries.countP OutEntry.isUpdate = o.entries.countP OutEntry.isUpdate
    · obtain ⟨n, hn⟩ := Outbox.youngest_of_thinned hthin hsame hu
      exact .inr (.inr ⟨_, hn, hoffset, hlength, hsealed, hheld⟩)
    · refine .inr (.inl (Nat.lt_of_lt_of_le ?_ hcount))
      unfold Outbox.updateCount
      rw [hreserved]
      exact Nat.add_lt_add_right (Nat.lt_of_le_of_ne (hthin.shaped.countP_le readsKind_isUpdate) hsame) _

theorem countP_reading (l : List ServingRecord) :
    l.countP ServingRecord.reading = (l.map (fun v => (v.region, v.reading))).countP (fun x => x.2) := by
  rw [List.countP_map]
  rfl

theorem State.imagesOk.change {s t : State} (h : s.imagesOk)
    (himages : t.out.entries.countP OutEntry.isImage ≤ s.out.entries.countP OutEntry.isImage)
    (hserving : t.serving.map (fun v => (v.region, v.reading)) = s.serving.map (fun v => (v.region, v.reading)))
    (hop : ∀ r k st, t.arb.op = some (.chunkRead r k st true) → s.arb.op = some (.chunkRead r k st true)) : t.imagesOk := by
  obtain ⟨hcount, hnodup, hlive⟩ := h
  refine ⟨?_, ?_, fun r k st hread => ?_⟩
  · rw [countP_reading, hserving, ← countP_reading]
    exact (Nat.add_le_add_right himages _).trans hcount
  · have hregions : t.serving.map (·.region) = s.serving.map (·.region) := by
      simpa [List.map_map, Function.comp_def] using congrArg (List.map Prod.fst) hserving
    rw [hregions]
    exact hnodup
  · obtain ⟨v, hv, hr, hreading⟩ := hlive r k st (hop r k st hread)
    have hmem : (v.region, v.reading) ∈ t.serving.map (fun v => (v.region, v.reading)) :=
      hserving ▸ List.mem_map.2 ⟨v, hv, rfl⟩
    obtain ⟨x, hx, heq⟩ := List.mem_map.1 hmem
    obtain ⟨hxr, hxread⟩ := Prod.mk.inj heq
    exact ⟨x, hx, hxr.trans hr, hxread.trans hreading⟩

theorem State.phasesOk.change {s t : State} (h : s.phasesOk) (hentries : t.out.entries ≠ [] → s.out.entries ≠ [] := by simp)
    (hserving : t.serving ≠ [] → s.serving ≠ [] := by simp)
    (hsweep : t.out.sweep.phase = .running → s.out.sweep.phase = .running := by simp)
    (hport : ∀ w, t.port.state = .working (.write w) → s.port.state = .working (.write w) := by simp)
    (hslot : ∀ x, t.line.slot = some x → s.line.slot = some x := by simp)
    (hstate : t.ctl.state = s.ctl.state := by simp) (hphase : t.ctl.leavePhase = s.ctl.leavePhase := by simp)
    (htimer : s.ctl.beaconTimer = none → t.ctl.beaconTimer = none := by simp)
    (hdue : t.ctl.beaconDue = s.ctl.beaconDue := by simp) : t.phasesOk := by
  obtain ⟨hhold, hserve, hrun, hwrite, hbeacon, hstop, hidle⟩ := h
  have hmay : t.ctl.mayHoldEntries = s.ctl.mayHoldEntries := by rw [Controller.mayHoldEntries, hstate, hphase]; rfl
  refine ⟨fun hne => ?_, fun hne => ?_, fun hr => ?_, fun w hw => ?_, fun b w hw hm => ?_, fun hl => ?_, fun hl hd => ?_⟩
  · rw [hmay]; exact hhold (hentries hne)
  · rw [hstate]; exact hserve (hserving hne)
  · rw [hstate]; exact hrun (hsweep hr)
  · rw [hstate]; exact hwrite w (hport w hw)
  · rw [hstate, hphase]; exact hbeacon b w (hslot _ hw) hm
  · exact htimer (hstop (hstate ▸ hl))
  · rw [hdue]; exact hidle (hstate ▸ hl) (hphase ▸ hd)

/-- The Outbox's invariant where entries may have left, and nothing else changes that it reads. -/
theorem State.outboxOk.thin {s t : State} (h : s.outboxOk) (hthin : Thinned t.out.entries s.out.entries)
    (hphases : t.phasesOk) (hreserved : t.out.reserved = s.out.reserved := by simp)
    (hhost : (∃ e ∈ t.out.entries, e.isHost = true) → t.out.hostClaim = s.out.hostClaim := by simp)
    (hsweep : (∃ e ∈ t.out.entries, e.isSweep = true) → t.out.sweep.outstanding = s.out.sweep.outstanding := by simp)
    (hserving : t.serving.map (fun v => (v.region, v.reading)) = s.serving.map (fun v => (v.region, v.reading)) := by simp)
    (hop : ∀ r k st, t.arb.op = some (.chunkRead r k st true) → s.arb.op = some (.chunkRead r k st true) := by simp)
    (hport : ∀ w, t.port.state = .working (.write w) → s.port.state = .working (.write w) := by simp) : t.outboxOk := by
  obtain ⟨hbox, hwrite, himages, -⟩ := s.outboxOk_iff.1 h
  exact t.outboxOk_iff.2 ⟨hbox.shaped hthin.shaped (.inl hreserved) hhost hsweep,
    fun w hw => (hwrite w (hport w hw)).thinned hbox.1 hthin hreserved,
    himages.change (hthin.shaped.countP_le readsKind_isImage) hserving hop, hphases⟩

theorem State.outboxOk.phases {s : State} (h : s.outboxOk) : s.phasesOk := (s.outboxOk_iff.1 h).2.2.2

theorem State.outboxOk.images {s : State} (h : s.outboxOk) : s.imagesOk := (s.outboxOk_iff.1 h).2.2.1

theorem State.outboxOk.box {s : State} (h : s.outboxOk) : s.out.boxOk := (s.outboxOk_iff.1 h).1

theorem SameCore.phasesOk {s t : State} (hs : SameCore s t) (h : s.phasesOk) : t.phasesOk := by
  refine h.change (by rw [hs.entries]; exact id) ?_ (by rw [hs.sweep]; exact id) (fun w hw => hs.port ▸ hw) ?_ hs.state hs.phase
    hs.timer hs.due
  · exact mt fun hnil => List.map_eq_nil_iff.1 (hs.serving.trans (by rw [hnil]; rfl))
  · rcases hs.slot with hslot | hslot <;> simp [hslot]

theorem SameCore.outboxOk {s t : State} (hs : SameCore s t) (h : s.outboxOk) : t.outboxOk :=
  h.thin (hs.entries ▸ thinned_refl _) (hs.phasesOk h.phases) hs.reserved (fun _ => hs.hostClaim) (fun _ => by rw [hs.sweep])
    hs.serving hs.op (fun w hw => hs.port ▸ hw)

/-- A change beside the blocks that the Outbox's invariant reads. -/
theorem State.outboxOk.same {s t : State} (h : s.outboxOk) (hctl : t.ctl = s.ctl := by simp) (hline : t.line = s.line := by simp)
    (hport : t.port = s.port := by simp) (hout : t.out = s.out := by simp) (hserving : t.serving = s.serving := by simp)
    (harb : t.arb = s.arb := by simp) : t.outboxOk := by
  refine h.thin (hout ▸ thinned_refl _) (h.phases.change ?_ ?_ ?_ ?_ ?_ ?_ ?_ ?_ ?_) ?_ ?_ ?_ ?_ ?_ ?_ <;>
    simp [hctl, hline, hport, hout, hserving, harb]

end Sys2Proof.Machine
end

section
/-! SUPPORT. The Outbox's invariant under discards, serving records and the sweep. -/

namespace Sys2Proof.Machine

-- One proof at a time: the proofs that wait for each other would hold the memory of the whole text.
set_option Elab.async false

theorem eq_of_countP_le_one {es : List OutEntry} {p : OutEntry → Bool} (h : es.countP p ≤ 1) {a b : OutEntry} (ha : a ∈ es)
    (hb : b ∈ es) (hpa : p a = true) (hpb : p b = true) : a = b := by
  rw [List.countP_eq_length_filter] at h
  have hfa := List.mem_filter.2 ⟨ha, hpa⟩
  have hfb := List.mem_filter.2 ⟨hb, hpb⟩
  match hl : es.filter p with
  | [] => rw [hl] at hfa; cases hfa
  | [x] =>
    rw [hl] at hfa hfb
    rw [List.mem_singleton.1 hfa, List.mem_singleton.1 hfb]
  | x :: y :: l => rw [hl] at h; simp at h

/-- Where an entry that stays is of a kind that the Outbox holds once, none of that kind leaves. -/
theorem none_goes_of_kept {es : List OutEntry} {p q : OutEntry → Bool} {cut : Bool} (hp : readsKind p) (h : es.countP p ≤ 1)
    (hkept : ∃ e ∈ keptEntries q cut es, p e = true) : (es.filter (goesNow q)).any p = false := by
  obtain ⟨e, he, hpe⟩ := hkept
  obtain ⟨x, hx, rfl⟩ := List.mem_map.1 he
  obtain ⟨hmem, hstays⟩ := List.mem_filter.1 hx
  rw [hp _ x (markedBy_like q cut x).shape] at hpe
  rw [List.any_eq_false]
  intro g hg hpg
  obtain ⟨hgmem, hgoes⟩ := List.mem_filter.1 hg
  rw [eq_of_countP_le_one h hgmem hmem hpg hpe] at hgoes
  rw [hgoes] at hstays
  cases hstays

theorem State.discardEntries_entries (s : State) (p : OutEntry → Bool) (cut : Bool) :
    (s.discardEntries p cut).out.entries = keptEntries p cut s.out.entries := by
  rw [State.discardEntries_eq]
  rfl

/-- What a discard leaves of the claims of entries that stay. -/
theorem State.discardEntries_claims {s : State} (p : OutEntry → Bool) (cut : Bool) (h : s.out.boxOk) :
    ((∃ e ∈ (s.discardEntries p cut).out.entries, e.isHost = true) → (s.discardEntries p cut).out.hostClaim = s.out.hostClaim)
      ∧ ((∃ e ∈ (s.discardEntries p cut).out.entries, e.isSweep = true) →
        (s.discardEntries p cut).out.sweep.outstanding = s.out.sweep.outstanding) := by
  rw [State.discardEntries_eq]
  refine ⟨fun hkept => ?_, fun hkept => ?_⟩
  · show (if _ then _ else _) = _
    rw [none_goes_of_kept readsKind_isHost h.2.2.1 hkept]
    rfl
  · show (if _ then _ else _) = _
    rw [none_goes_of_kept readsKind_isSweep h.2.2.2.1 hkept]
    rfl

theorem State.discardEntries_outboxOk {s : State} (p : OutEntry → Bool) (cut : Bool) (h : s.outboxOk) :
    (s.discardEntries p cut).outboxOk := by
  have hthin : Thinned (s.discardEntries p cut).out.entries s.out.entries := by
    rw [State.discardEntries_entries]
    exact thinned_keptEntries p cut _
  obtain ⟨hhost, hsweep⟩ := State.discardEntries_claims p cut h.box
  have hrest : (s.discardEntries p cut).out.sweep.phase = s.out.sweep.phase ∧ (s.discardEntries p cut).out.reserved = s.out.reserved
      ∧ (s.discardEntries p cut).ctl.leavePhase = s.ctl.leavePhase := by
    rw [State.discardEntries_eq]
    exact ⟨rfl, rfl, rfl⟩
  obtain ⟨hphase, hreserved, hleave⟩ := hrest
  refine h.thin hthin (h.phases.change ?_ (hsweep := by rw [hphase]; exact id) (hphase := hleave)) hreserved hhost hsweep
  exact hthin.shaped.ne_nil

/-- The Outbox's invariant where entries have left or have changed in their places, and no WRITE needs room. -/
theorem State.outboxOk.shaped {s t : State} (h : s.outboxOk) (hshape : Shaped t.out.entries s.out.entries)
    (hidle : ∀ w, t.port.state ≠ .working (.write w)) (hphases : t.phasesOk)
    (hreserved : t.out.reserved = s.out.reserved ∨ t.out.reserved = none)
    (hhost : t.out.hostClaim = s.out.hostClaim := by simp)
    (hsweep : t.out.sweep.outstanding = s.out.sweep.outstanding := by simp)
    (hserving : t.serving.map (fun v => (v.region, v.reading)) = s.serving.map (fun v => (v.region, v.reading)) := by simp)
    (hop : ∀ r k st, t.arb.op = some (.chunkRead r k st true) → s.arb.op = some (.chunkRead r k st true) := by simp) :
    t.outboxOk := by
  obtain ⟨hbox, -, himages, -⟩ := s.outboxOk_iff.1 h
  exact t.outboxOk_iff.2 ⟨hbox.shaped hshape hreserved (fun _ => hhost) (fun _ => hsweep),
    fun w hw => absurd hw (hidle w), himages.change (hshape.countP_le readsKind_isImage) hserving hop, hphases⟩

theorem mapUpdate_shape {f : UpdateEntry → UpdateEntry} (hf : ∀ u, u.sealed = true → (f u).sealed = true) (e : OutEntry) :
    (e.mapUpdate f).Shape e := by
  rcases e with ⟨r, u | _ | _ | _, sending, doom⟩
  · exact ⟨rfl, id, .inr ⟨u, f u, rfl, rfl, hf u⟩⟩
  all_goals exact ⟨rfl, id, .inl rfl⟩

/-- The hold of a WRITE that is turned away, or completes, is given up (R17, R61, R63). -/
theorem State.releaseHold_shaped (s : State) : Shaped s.releaseHold.out.entries s.out.entries :=
  shaped_map _ (mapUpdate_shape (f := fun u => { u with held := false }) fun _ => id) _

theorem State.abandonWrite_outboxOk {s : State} (r : Region) (h : s.outboxOk) : (s.abandonWrite r).outboxOk := by
  rw [State.abandonWrite_eq]
  split
  next =>
    exact h.shaped s.releaseHold_shaped (fun w hw => nomatch hw)
      (h.phases.change s.releaseHold_shaped.ne_nil (hsweep := id) (hport := fun w hw => nomatch hw)) (.inr rfl) rfl rfl
  next => exact h

/-! ### Serving records -/

theorem State.serving_unique {s : State} (h : s.imagesOk) {v w : ServingRecord} (hv : v ∈ s.serving) (hw : w ∈ s.serving)
    (hr : v.region = w.region) : v = w := List.inj_on_of_nodup_map h.2.1 hv hw hr

theorem State.putServing_map {s : State} (h : s.imagesOk) {v w : ServingRecord} (hv : v ∈ s.serving) (hr : w.region = v.region)
    (hread : w.reading = v.reading) : (s.putServing w).serving.map (fun v => (v.region, v.reading))
      = s.serving.map (fun v => (v.region, v.reading)) := by
  unfold State.putServing
  rw [State.setServing_serving, List.map_map]
  refine List.map_congr_left fun x hx => ?_
  show ((if x.region = w.region then w else x).region, (if x.region = w.region then w else x).reading) = _
  split
  next hxr =>
    rw [State.serving_unique h hx hv (hxr.trans hr), hr, hread]
  next => rfl

theorem State.putServing_outboxOk {s : State} {v w : ServingRecord} (hv : v ∈ s.serving) (hr : w.region = v.region)
    (hread : w.reading = v.reading) (h : s.outboxOk) : (s.putServing w).outboxOk :=
  SameCore.outboxOk { SameCore.refl s with serving := State.putServing_map h.images hv hr hread } h

theorem countP_put {l : List ServingRecord} (hl : (l.map (·.region)).Nodup) {v w : ServingRecord} (hv : v ∈ l)
    (hr : w.region = v.region) (p : ServingRecord → Bool) :
    (l.map fun x => if x.region = w.region then w else x).countP p + (if p v = true then 1 else 0)
      = l.countP p + (if p w = true then 1 else 0) := by
  induction l with
  | nil => cases hv
  | cons x xs ih =>
    rw [List.map_cons, List.nodup_cons] at hl
    obtain ⟨hfresh, hl⟩ := hl
    rw [List.map_cons, List.countP_cons, List.countP_cons]
    rcases List.mem_cons.1 hv with rfl | hmem
    · have hothers : (xs.map fun x => if x.region = w.region then w else x) = xs := by
        conv_rhs => rw [← List.map_id xs]
        refine List.map_congr_left fun y hy => if_neg fun heq => hfresh (List.mem_map.2 ⟨y, hy, heq.trans hr⟩)
      rw [if_pos hr.symm, hothers]
      omega
    · have hother : x.region ≠ w.region := fun heq => hfresh (List.mem_map.2 ⟨v, hmem, (heq.trans hr).symm⟩)
      rw [if_neg hother]
      have := ih hl hmem
      omega

/-- A record requests a read, or ends one: the count of the reads under way follows (R65, R123). -/
theorem State.countP_putServing {s : State} (h : s.imagesOk) {v w : ServingRecord} (hv : v ∈ s.serving) (hr : w.region = v.region) :
    (s.putServing w).serving.countP ServingRecord.reading + (if v.reading = true then 1 else 0)
      = s.serving.countP ServingRecord.reading + (if w.reading = true then 1 else 0) := by
  unfold State.putServing
  rw [State.setServing_serving]
  exact countP_put h.2.1 hv hr _

theorem State.putServing_regions (s : State) (w : ServingRecord) :
    (s.putServing w).serving.map (·.region) = s.serving.map (·.region) := by
  unfold State.putServing
  rw [State.setServing_serving, List.map_map]
  refine List.map_congr_left fun x _ => ?_
  show (if x.region = w.region then w else x).region = _
  split
  next hx => exact hx.symm
  next => rfl

end Sys2Proof.Machine
end

section
/-! SUPPORT. The Outbox's invariant as entries join: the sweep's and the host's claims, PULL and IMAGE entries. -/

namespace Sys2Proof.Machine

-- One proof at a time: the proofs that wait for each other would hold the memory of the whole text.
set_option Elab.async false

/-- Entries may join where the station state allows entries. -/
theorem State.phasesOk.grown {s t : State} (h : s.phasesOk) (hmay : s.ctl.mayHoldEntries = true)
    (hserving : t.serving ≠ [] → s.serving ≠ [] := by simp)
    (hsweep : t.out.sweep.phase = .running → s.out.sweep.phase = .running := by simp)
    (hport : ∀ w, t.port.state = .working (.write w) → s.port.state = .working (.write w) := by simp)
    (hslot : ∀ x, t.line.slot = some x → s.line.slot = some x := by simp)
    (hctl : t.ctl = s.ctl := by simp) : t.phasesOk := by
  have hbare : (t.mapOut ({ · with entries := [] })).phasesOk :=
    h.change (fun hne => absurd rfl hne) hserving hsweep hport hslot (by rw [← hctl]; rfl) (by rw [← hctl]; rfl)
      (by rw [← hctl]; exact id) (by rw [← hctl]; rfl)
  exact ⟨fun _ => hctl ▸ hmay, hbare.2⟩

theorem Controller.mayHold_of_working {c : Controller} (h : c.state.working = true) : c.mayHoldEntries = true := by
  unfold Controller.mayHoldEntries
  cases hst : c.state <;> simp_all [StationState.working]

/-- The Outbox's invariant where entries have left or gone back, whatever has become of the serving table. -/
theorem State.outboxOk.served {s t : State} (h : s.outboxOk) (hthin : Thinned t.out.entries s.out.entries) (himages : t.imagesOk)
    (hphases : t.phasesOk) (hreserved : t.out.reserved = s.out.reserved := by simp)
    (hhost : (∃ e ∈ t.out.entries, e.isHost = true) → t.out.hostClaim = s.out.hostClaim := by simp)
    (hsweep : (∃ e ∈ t.out.entries, e.isSweep = true) → t.out.sweep.outstanding = s.out.sweep.outstanding := by simp)
    (hport : ∀ w, t.port.state = .working (.write w) → s.port.state = .working (.write w) := by simp) : t.outboxOk := by
  obtain ⟨hbox, hwrite, -, -⟩ := s.outboxOk_iff.1 h
  exact t.outboxOk_iff.2 ⟨hbox.shaped hthin.shaped (.inl hreserved) hhost hsweep,
    fun w hw => (hwrite w (hport w hw)).thinned hbox.1 hthin hreserved, himages, hphases⟩

theorem State.imagesOk.fewer {s t : State} (h : s.imagesOk)
    (himages : t.out.entries.countP OutEntry.isImage ≤ s.out.entries.countP OutEntry.isImage)
    (hserving : t.serving.Sublist s.serving)
    (hlive : ∀ r k st, t.arb.op = some (.chunkRead r k st true) → ∃ v ∈ t.serving, v.region = r ∧ v.reading = true) : t.imagesOk :=
  ⟨(Nat.add_le_add himages (hserving.countP_le)).trans h.1, (hserving.map _).nodup h.2.1, hlive⟩

theorem ArrayOp.droppedBy_live {ended : Region → Bool} {x : ArrayOp} {r : Region} {k : Chunk} {st : Stamp}
    (h : x.droppedBy ended = .chunkRead r k st true) : x = .chunkRead r k st true ∧ ended r = false := by
  cases x with
  | chunkRead q j stamp live =>
    simp only [ArrayOp.droppedBy, ArrayOp.chunkRead.injEq, Bool.and_eq_true, Bool.not_eq_true'] at h
    obtain ⟨rfl, rfl, rfl, rfl, hended⟩ := h
    exact ⟨rfl, hended⟩
  | hostWrite | readPiece | apply | formatStep => cases h

/-- A chunk read whose data a record still waits for, of those that were under way. -/
theorem State.live_of_arbAfterServing {s : State} {ended : Region → Bool} {r : Region} {k : Chunk} {st : Stamp}
    (h : (s.arbAfterServing ended).op = some (.chunkRead r k st true)) :
    s.arb.op = some (.chunkRead r k st true) ∧ ended r = false := by
  rw [s.arbAfterServing_eq] at h
  obtain ⟨x, hx, hlive⟩ := Option.map_eq_some_iff.1 h
  obtain ⟨rfl, hended⟩ := ArrayOp.droppedBy_live hlive
  exact ⟨hx, hended⟩

theorem State.endServing_outboxOk {s : State} (r : Region) (h : s.outboxOk) : (s.endServing r).outboxOk := by
  have hout := s.endServing_out r
  have hsub : (s.endServing r).serving.Sublist s.serving := by
    rw [s.endServing_serving]
    exact List.filter_sublist
  have hthin : Thinned (s.endServing r).out.entries s.out.entries := by
    rw [hout]
    exact thinned_removalAsked _ _
  refine h.served hthin ?_ (h.phases.change hthin.shaped.ne_nil ?_ (by rw [hout]; exact id)
    (hphase := by rw [s.endServing_eq r])) (by rw [hout])
    (fun _ => by rw [hout]) (fun _ => by rw [hout])
  · refine h.images.fewer (hthin.shaped.countP_le readsKind_isImage) hsub fun q k st hop => ?_
    rw [s.endServing_arb] at hop
    obtain ⟨hop, hended⟩ := State.live_of_arbAfterServing hop
    obtain ⟨v, hv, rfl, hreading⟩ := h.images.2.2 q k st hop
    rw [s.endServing_serving]
    have hserved : s.served v.region = true := List.any_eq_true.2 ⟨v, hv, beq_self_eq_true _⟩
    refine ⟨v, List.mem_filter.2 ⟨hv, ?_⟩, rfl, hreading⟩
    rw [bne_iff_ne]
    intro hr
    rw [← hr, hserved, beq_self_eq_true] at hended
    cases hended
  · intro hne hnil
    rw [hnil] at hsub
    exact hne (List.sublist_nil.1 hsub)

theorem State.closePull_outboxOk {s : State} (r : Region) (park : Bool) (h : s.outboxOk) : (s.closePull r park).outboxOk := by
  have hout := s.closePull_out r park
  have hthin : Thinned (s.closePull r park).out.entries s.out.entries := by
    rw [hout]
    exact thinned_removalAsked _ _
  exact h.thin hthin (h.phases.change hthin.shaped.ne_nil (hsweep := by rw [hout]; exact id)
    (hphase := by rw [s.closePull_eq r park])) (by rw [hout]) (fun _ => by rw [hout])
    (fun _ => by rw [hout])

/-! ### Entries that join -/

/-- An entry joins the Outbox: where it is a claim, it is the one of its source. -/
theorem Outbox.boxOk.append {o o' : Outbox} {e : OutEntry} (h : o.boxOk) (hentries : o'.entries = o.entries ++ [e])
    (hwait : e.sending = false) (hcount : o'.updateCount ≤ Config.updateLimit)
    (hhost : o'.hostClaim = o.hostClaim ∧ e.isHost = false
      ∨ o.entries.countP OutEntry.isHost = 0 ∧ o'.hostClaim = some e.region := by exact .inl ⟨rfl, rfl⟩)
    (hsweep : o'.sweep.outstanding = o.sweep.outstanding ∧ e.isSweep = false
      ∨ o.entries.countP OutEntry.isSweep = 0 ∧ o'.sweep.outstanding = some e.region := by exact .inl ⟨rfl, rfl⟩) : o'.boxOk := by
  obtain ⟨-, hclaims, hhosts, hsweeps, hsealed⟩ := h
  refine ⟨hcount, fun x hx => ?_, ?_, ?_, fun x hx hsend => ?_⟩
  · rw [hentries] at hx
    refine ⟨fun hb => ?_, fun hb => ?_⟩
    · have hkind : x.isHost = true := by rw [OutEntry.isHost, hb]
      rcases hhost with ⟨hsame, hother⟩ | ⟨hnone, hset⟩ <;> rcases List.mem_append.1 hx with hx | hx
      · rw [hsame]; exact (hclaims x hx).1 hb
      · rw [List.mem_singleton.1 hx, hother] at hkind; cases hkind
      · exact absurd hkind (List.countP_eq_zero.1 hnone x hx)
      · rw [hset, List.mem_singleton.1 hx]
    · have hkind : x.isSweep = true := by rw [OutEntry.isSweep, hb]
      rcases hsweep with ⟨hsame, hother⟩ | ⟨hnone, hset⟩ <;> rcases List.mem_append.1 hx with hx | hx
      · rw [hsame]; exact (hclaims x hx).2 hb
      · rw [List.mem_singleton.1 hx, hother] at hkind; cases hkind
      · exact absurd hkind (List.countP_eq_zero.1 hnone x hx)
      · rw [hset, List.mem_singleton.1 hx]
  · rw [hentries, List.countP_append, List.countP_singleton]
    rcases hhost with ⟨-, hother⟩ | ⟨hnone, -⟩
    · rw [hother]; exact hhosts
    · rw [hnone]; split <;> simp
  · rw [hentries, List.countP_append, List.countP_singleton]
    rcases hsweep with ⟨-, hother⟩ | ⟨hnone, -⟩
    · rw [hother]; exact hsweeps
    · rw [hnone]; split <;> simp
  · rw [hentries] at hx
    rcases List.mem_append.1 hx with hx | hx
    · exact hsealed x hx hsend
    · rw [List.mem_singleton.1 hx, hwait] at hsend
      cases hsend

theorem Outbox.updateCount_append {o o' : Outbox} {e : OutEntry} (hentries : o'.entries = o.entries ++ [e])
    (hother : e.isUpdate = false) (hreserved : o'.reserved = o.reserved) : o'.updateCount = o.updateCount := by
  rw [Outbox.updateCount, hentries, List.countP_append, List.countP_singleton, hother, hreserved]
  rfl

theorem Outbox.roomFor.append {o o' : Outbox} {e : OutEntry} {w : WriteWork} (h : o.roomFor w)
    (hentries : o'.entries = o.entries ++ [e]) (hother : e.isUpdate = false) (hreserved : o'.reserved = o.reserved) :
    o'.roomFor w := by
  have hyoungest : o'.youngest w.region = o.youngest w.region := by
    have hnot : OutEntry.updates w.region e = false := by rw [OutEntry.updates, hother]; rfl
    rw [Outbox.youngest, Outbox.youngest, hentries, List.filter_append, List.filter_singleton, hnot]
    simp
  rw [Outbox.roomFor, hyoungest, hreserved, Outbox.updateCount_append hentries hother hreserved]
  exact h

/-- An entry that is no UPDATE joins the Outbox. -/
theorem State.outboxOk.append {s t : State} {e : OutEntry} (h : s.outboxOk) (hentries : t.out.entries = s.out.entries ++ [e])
    (hwait : e.sending = false) (hother : e.isUpdate = false) (himages : t.imagesOk) (hphases : t.phasesOk)
    (hhost : t.out.hostClaim = s.out.hostClaim ∧ e.isHost = false
      ∨ s.out.entries.countP OutEntry.isHost = 0 ∧ t.out.hostClaim = some e.region := by exact .inl ⟨rfl, rfl⟩)
    (hsweep : t.out.sweep.outstanding = s.out.sweep.outstanding ∧ e.isSweep = false
      ∨ s.out.entries.countP OutEntry.isSweep = 0 ∧ t.out.sweep.outstanding = some e.region := by exact .inl ⟨rfl, rfl⟩)
    (hreserved : t.out.reserved = s.out.reserved := by rfl)
    (hport : ∀ w, t.port.state = .working (.write w) → s.port.state = .working (.write w) := by simp) : t.outboxOk := by
  obtain ⟨hbox, hwrite, -, -⟩ := s.outboxOk_iff.1 h
  refine t.outboxOk_iff.2 ⟨hbox.append hentries hwait ?_ hhost hsweep, fun w hw => (hwrite w (hport w hw)).append hentries hother hreserved,
    himages, hphases⟩
  rw [Outbox.updateCount_append hentries hother hreserved]
  exact hbox.1

/-- An entry that is no IMAGE leaves the room of images as it is. -/
theorem State.imagesOk.append {s t : State} {e : OutEntry} (h : s.imagesOk) (hentries : t.out.entries = s.out.entries ++ [e])
    (hother : e.isImage = false) (hserving : t.serving = s.serving := by simp) (harb : t.arb = s.arb := by simp) : t.imagesOk := by
  refine h.change ?_ (by rw [hserving]) (fun r k st hop => harb ▸ hop)
  rw [hentries, List.countP_append, List.countP_singleton, hother]
  exact Nat.le_refl _

theorem Outbox.boxOk.no_host {o : Outbox} (h : o.boxOk) (hnone : o.hostClaim = none) : o.entries.countP OutEntry.isHost = 0 := by
  rw [List.countP_eq_zero]
  rintro ⟨r, _ | (_ | _) | _ | _, sending, doom⟩ he hkind <;> try cases hkind
  have := (h.2.1 _ he).1 rfl
  rw [hnone] at this
  cases this

theorem Outbox.boxOk.no_sweep {o : Outbox} (h : o.boxOk) (hnone : o.sweep.outstanding = none) :
    o.entries.countP OutEntry.isSweep = 0 := by
  rw [List.countP_eq_zero]
  rintro ⟨r, _ | (_ | _) | _ | _, sending, doom⟩ he hkind <;> try cases hkind
  have := (h.2.1 _ he).2 rfl
  rw [hnone] at this
  cases this

theorem Sweep.pass_keeps (w : Sweep) (r : Region) :
    (w.pass r).outstanding = w.outstanding ∧ ((w.pass r).phase = .running → w.phase = .running) := by
  unfold Sweep.pass
  split_ifs <;> simp_all

theorem State.sweepAct_outboxOk {s : State} (hrun : s.out.sweep.phase = .running) (hnone : s.out.sweep.outstanding = none)
    (h : s.outboxOk) : s.sweepAct.1.outboxOk := by
  obtain ⟨hkept, hpasses⟩ := s.out.sweep.pass_keeps s.out.sweep.position
  have hpassed : (s.setSweep (s.out.sweep.pass s.out.sweep.position)).outboxOk :=
    h.thin (thinned_refl _) (h.phases.change (hentries := id) (hsweep := hpasses)) (hreserved := rfl) (hhost := fun _ => rfl)
      (hsweep := fun _ => hkept)
  unfold State.sweepAct
  dsimp only
  split_ifs
  · exact hpassed
  · exact hpassed.same
  · exact hpassed.same
  · have hmay : s.ctl.mayHoldEntries = true := by rw [Controller.mayHoldEntries, h.phases.2.2.1 hrun]
    exact h.append rfl rfl rfl (h.images.append rfl rfl) (h.phases.grown hmay (hsweep := id)) (hsweep := .inr ⟨h.box.no_sweep hnone, rfl⟩)

theorem State.hostClaim_outboxOk {s : State} (r : Region) (hst : s.ctl.state = .active) (hnone : s.out.hostClaim = none)
    (h : s.outboxOk) : ((s.appendEntry r (.claim .host)).mapOut ({ · with hostClaim := some r })).outboxOk := by
  have hmay : s.ctl.mayHoldEntries = true := by rw [Controller.mayHoldEntries, hst]
  exact h.append rfl rfl rfl (h.images.append rfl rfl) (h.phases.grown hmay (hsweep := id)) (hhost := .inr ⟨h.box.no_host hnone, rfl⟩)

theorem State.queuePull_outboxOk {s : State} (p : PullRecord) (hworking : s.ctl.state.working = true) (h : s.outboxOk) :
    (s.queuePull p).outboxOk := by
  unfold State.queuePull
  split
  next => exact h.append rfl rfl rfl (h.images.append rfl rfl) (h.phases.grown (Controller.mayHold_of_working hworking) (hsweep := id))
  next => exact h

end Sys2Proof.Machine
end

section
/-! SUPPORT. The Outbox's invariant where an entry changes in its place: the entry that goes out, the coalescing candidate. -/

namespace Sys2Proof.Machine

-- One proof at a time: the proofs that wait for each other would hold the memory of the whole text.
set_option Elab.async false

theorem OutEntry.Shape.refl (e : OutEntry) : e.Shape e := (OutEntry.Like.refl e).shape

/-! ### The coalescing candidate (R61, R62) -/

theorem mapYoungest_shaped (r : Region) {f : UpdateEntry → UpdateEntry} (hf : ∀ u, u.sealed = true → (f u).sealed = true)
    (es : List OutEntry) : Shaped (mapYoungest r f es) es := by
  induction es with
  | nil => exact .nil
  | cons e rest ih =>
    have hrest : Shaped rest rest := (thinned_refl rest).shaped
    rw [mapYoungest]
    split_ifs
    · exact .cons (OutEntry.Shape.refl e) ih
    · exact .cons (mapUpdate_shape hf e) hrest
    · exact .cons (OutEntry.Shape.refl e) hrest

theorem updates_mapUpdate (r : Region) (f : UpdateEntry → UpdateEntry) (e : OutEntry) :
    OutEntry.updates r (e.mapUpdate f) = OutEntry.updates r e := by
  rcases e with ⟨q, _ | _ | _ | _, sending, doom⟩ <;> rfl

/-- The youngest UPDATE entry of a region after its change. -/
theorem mapYoungest_last {r : Region} {f : UpdateEntry → UpdateEntry} {es : List OutEntry} {e : OutEntry}
    (h : (es.filter (OutEntry.updates r)).getLast? = some e) :
    ((mapYoungest r f es).filter (OutEntry.updates r)).getLast? = some (e.mapUpdate f) := by
  induction es with
  | nil => cases h
  | cons x rest ih =>
    rw [mapYoungest]
    by_cases hlater : rest.any (OutEntry.updates r) = true
    · obtain ⟨y, hy, hupdates⟩ := List.any_eq_true.1 hlater
      have hne : rest.filter (OutEntry.updates r) ≠ [] := List.ne_nil_of_mem (List.mem_filter.2 ⟨hy, hupdates⟩)
      have hlast : (rest.filter (OutEntry.updates r)).getLast? = some e := by
        rw [List.filter_cons] at h
        split at h
        next => rwa [List.getLast?_cons_of_ne_nil hne] at h
        next => exact h
      have hnext := ih hlast
      rw [if_pos hlater, List.filter_cons]
      split
      next =>
        rw [List.getLast?_cons, hnext]
        rfl
      next => exact hnext
    · have hnil : rest.filter (OutEntry.updates r) = [] :=
        List.filter_eq_nil_iff.2 fun y hy hupdates => hlater (List.any_eq_true.2 ⟨y, hy, hupdates⟩)
      rw [List.filter_cons, hnil] at h
      rw [if_neg hlater]
      by_cases hx : x.updates r = true
      · rw [if_pos hx] at h ⊢
        cases h
        rw [List.filter_cons, updates_mapUpdate, if_pos hx, hnil]
        rfl
      · rw [if_neg hx] at h
        cases h

theorem Outbox.youngest_mapYoungest {o : Outbox} {r : Region} {f : UpdateEntry → UpdateEntry} {u : UpdateEntry}
    (h : o.youngest r = some u) : Outbox.youngest { o with entries := mapYoungest r f o.entries } r = some (f u) := by
  obtain ⟨e, hlast, hbody⟩ := Outbox.youngest_eq_some.1 h
  refine Outbox.youngest_eq_some.2 ⟨_, mapYoungest_last hlast, ?_⟩
  rw [OutEntry.mapUpdate, hbody]

theorem Outbox.candidate_iff {o : Outbox} {r : Region} {offset length : Nat} : o.candidate r offset length = true ↔
    ∃ u, o.youngest r = some u ∧ u.offset = offset ∧ u.data.length = length ∧ u.sealed = false := by
  unfold Outbox.candidate
  cases o.youngest r <;> simp [and_assoc]

/-- A WRITE that is not refused has room: a slot below the limit, or its candidate. -/
theorem State.room_of_writeRefusal {s : State} {r : Region} {offset length : Nat} {guardPin : Bool}
    (h : s.writeRefusal r offset length guardPin = none) : s.ctl.state = .active
      ∧ s.owns r = true ∧ (s.out.updateCount < Config.updateLimit ∨ s.out.candidate r offset length = true) := by
  unfold State.writeRefusal at h
  split at h
  next => cases h
  next hgate =>
    have hactive : s.ctl.state = .active := by
      cases hst : s.ctl.state <;> simp_all [StationState.activeOnly]
    split_ifs at h with howns _ _ _ hroom
    have howned : s.owns r = true := by
      cases ho : s.owns r with
      | true => rfl
      | false => simp [ho] at howns
    exact ⟨hactive, howned, by simpa using hroom⟩

theorem State.takeWrite_outboxOk {s : State} (w : WriteWork) (guardPin : Bool)
    (hcheck : s.writeRefusal w.region w.offset w.data.length guardPin = none) (h : s.outboxOk) :
    ((s.takeRoom w.region).work (.write w)).outboxOk := by
  obtain ⟨hbox, -, himages, hhold, hserve, hrun, -, hrest⟩ := s.outboxOk_iff.1 h
  obtain ⟨hactive, -, hroom⟩ := State.room_of_writeRefusal hcheck
  have hworking : s.ctl.state.working = true := by rw [hactive]; rfl
  unfold State.takeRoom
  by_cases hslot : s.out.updateCount < Config.updateLimit
  · rw [if_pos hslot]
    obtain ⟨hcount, hclaims⟩ := hbox
    refine (State.outboxOk_iff _).2 ⟨⟨?_, hclaims⟩, fun w hw => .inl rfl, himages, hhold, hserve, hrun, fun _ _ => .inl hworking, hrest⟩
    exact (Nat.add_lt_add_iff_right (k := 0)).1 (Nat.lt_of_le_of_lt (Nat.le_add_right _ _) hslot)
  · rw [if_neg hslot]
    obtain ⟨u, hu, hoffset, hlength, hsealed⟩ := Outbox.candidate_iff.1 (hroom.resolve_left hslot)
    have hshape : Shaped (mapYoungest w.region (fun u => { u with held := true }) s.out.entries) s.out.entries :=
      mapYoungest_shaped _ (f := fun u => { u with held := true }) (fun _ => id) _
    refine (State.outboxOk_iff _).2 ⟨hbox.shaped hshape (.inl rfl) (fun _ => rfl) (fun _ => rfl), fun w' hw' => ?_,
      himages.change (hshape.countP_le readsKind_isImage) rfl (fun _ _ _ => id), hhold ∘ hshape.ne_nil, hserve, hrun,
      fun _ _ => .inl hworking, hrest⟩
    cases hw'
    exact .inr (.inr ⟨_, Outbox.youngest_mapYoungest hu, hoffset, hlength, hsealed, rfl⟩)

/-! ### The entry that goes out (R26, R69) -/

/-- The entry that `mapFirst` changes, or none. -/
theorem mapFirst_cases (p : OutEntry → Bool) (f : OutEntry → OutEntry) (es : List OutEntry) : mapFirst p f es = es
    ∨ ∃ before x after, es = before ++ x :: after ∧ p x = true ∧ mapFirst p f es = before ++ f x :: after := by
  induction es with
  | nil => exact .inl rfl
  | cons e rest ih =>
    rw [mapFirst]
    split_ifs with hp
    · exact .inr ⟨[], e, rest, rfl, hp, rfl⟩
    · rcases ih with hsame | ⟨before, x, after, hes, hx, hmap⟩
      · exact .inl (by rw [hsame])
      · exact .inr ⟨e :: before, x, after, by rw [hes]; rfl, hx, by rw [hmap]; rfl⟩

/-- An entry that is sent is of its kind and region, and an UPDATE is sealed. -/
theorem State.startSending_kind (s : State) (e : OutEntry) : (s.startSending e).region = e.region
    ∧ (s.startSending e).isUpdate = e.isUpdate ∧ (s.startSending e).isImage = e.isImage ∧ (s.startSending e).isHost = e.isHost
    ∧ (s.startSending e).isSweep = e.isSweep ∧ (s.startSending e).isClaim = e.isClaim
    ∧ (∀ source, (s.startSending e).body = .claim source → e.body = .claim source)
    ∧ (∀ u, (s.startSending e).body = .update u → u.sealed = true) := by
  rcases e with ⟨r, _ | _ | _ | _, sending, doom⟩
  case update => exact ⟨rfl, rfl, rfl, rfl, rfl, rfl, (fun _ hb => nomatch hb), fun v hb => by cases hb; rfl⟩
  case claim => exact ⟨rfl, rfl, rfl, rfl, rfl, rfl, fun _ => id, fun _ hb => nomatch hb⟩
  all_goals exact ⟨rfl, rfl, rfl, rfl, rfl, rfl, (fun _ hb => nomatch hb), fun _ hb => nomatch hb⟩

theorem countP_of_swap {p : OutEntry → Bool} {x y : OutEntry} (h : p y = p x) (before after : List OutEntry) :
    (before ++ y :: after).countP p = (before ++ x :: after).countP p := by
  rw [List.countP_append, List.countP_append, List.countP_cons, List.countP_cons, h]

/-- A change of an entry that is not held leaves the candidate that is held. -/
theorem youngest_of_swap {r : Region} {x y e : OutEntry} {before after : List OutEntry}
    (hupdates : OutEntry.updates r y = OutEntry.updates r x) (hne : x ≠ e)
    (h : ((before ++ x :: after).filter (OutEntry.updates r)).getLast? = some e) :
    ((before ++ y :: after).filter (OutEntry.updates r)).getLast? = some e := by
  rw [List.filter_append, List.filter_cons] at h ⊢
  rw [hupdates]
  by_cases hx : OutEntry.updates r x = true
  · rw [if_pos hx] at h ⊢
    rw [List.getLast?_append, List.getLast?_cons] at h ⊢
    cases hlast : (after.filter (OutEntry.updates r)).getLast? with
    | none =>
      rw [hlast] at h
      exact absurd (by simpa using h) hne
    | some z =>
      rw [hlast] at h
      simpa using h
  · rwa [if_neg hx] at h ⊢

theorem State.sendEntry_outboxOk {s : State} (e : OutEntry) (h : s.outboxOk) : (s.sendEntry e).outboxOk := by
  obtain ⟨hbox, hwrite, himages, hhold, hserve, hrun, hstates, -, hrest⟩ := s.outboxOk_iff.1 h
  have hbeacon : ∀ b w, (s.sendEntry e).line.slot = some ⟨.beacon b, w⟩ → b.mode = .leaving →
      s.ctl.state = .leaving ∧ s.ctl.leavePhase = .final := by
    intro b w hslot
    have hframe : s.frameOf e = .beacon b := congrArg TxSlot.frame (Option.some.inj hslot)
    unfold State.frameOf at hframe
    split at hframe <;> cases hframe
  rcases mapFirst_cases (fun x => x.offerable && x.priority == e.priority) s.startSending s.out.entries with
    hsame | ⟨before, x, after, hes, hx, hmap⟩
  · have hout : (s.sendEntry e).out = s.out := by
      unfold State.sendEntry
      exact congrArg (fun es => { s.out with entries := es }) hsame
    refine (State.outboxOk_iff _).2 ⟨hout ▸ hbox, fun w hw => hout ▸ hwrite w hw, himages.change (by rw [hout]) rfl (fun _ _ _ => id),
      fun hne => hhold (by rwa [hout] at hne), hserve, fun hr => hrun (by rwa [hout] at hr), hstates, hbeacon, hrest⟩
  · have hentries : (s.sendEntry e).out.entries = before ++ s.startSending x :: after := hmap
    obtain ⟨hregion, hupdate, himage, hhost, hsweep, -, hclaim, hseals⟩ := s.startSending_kind x
    have hcount : (s.sendEntry e).out.updateCount = s.out.updateCount := by
      rw [Outbox.updateCount, hentries, countP_of_swap hupdate, ← hes]
      rfl
    obtain ⟨hlimit, hclaims, hhosts, hsweeps, hsealed⟩ := hbox
    have hxin : x ∈ s.out.entries := by rw [hes]; simp
    have hmem {y : OutEntry} (hy : y ∈ (s.sendEntry e).out.entries) : y ∈ s.out.entries ∨ y = s.startSending x := by
      rw [hentries] at hy
      rw [hes]
      simp only [List.mem_append, List.mem_cons] at hy ⊢
      tauto
    refine (State.outboxOk_iff _).2 ⟨⟨hcount ▸ hlimit, fun y hy => ?_, ?_, ?_, fun y hy hsend u hu => ?_⟩, fun w hw => ?_, ?_,
      fun _ => hhold (List.ne_nil_of_mem hxin), hserve, hrun, hstates, hbeacon, hrest⟩
    · rcases hmem hy with hy | rfl
      · exact hclaims y hy
      · rw [hregion]
        exact ⟨fun hb => (hclaims x hxin).1 (hclaim _ hb), fun hb => (hclaims x hxin).2 (hclaim _ hb)⟩
    · rw [hentries, countP_of_swap hhost, ← hes]
      exact hhosts
    · rw [hentries, countP_of_swap hsweep, ← hes]
      exact hsweeps
    · rcases hmem hy with hy | rfl
      · exact hsealed y hy hsend u hu
      · exact hseals u hu
    · rcases hwrite w hw with hroom | hroom | ⟨u, hu, hspan⟩
      · exact .inl hroom
      · exact .inr (.inl (hcount ▸ hroom))
      · obtain ⟨y, hlast, hbody⟩ := Outbox.youngest_eq_some.1 hu
        refine .inr (.inr ⟨u, Outbox.youngest_eq_some.2 ⟨y, ?_, hbody⟩, hspan⟩)
        rw [hentries]
        rw [hes] at hlast
        refine youngest_of_swap ?_ (fun hxy => ?_) hlast
        · rw [OutEntry.updates, OutEntry.updates, hupdate, hregion]
        · subst hxy
          have hheld : x.heldBack = true := by rw [OutEntry.heldBack, hbody]; exact hspan.2.2.2
          simp [OutEntry.offerable, hheld] at hx
    · refine himages.change (Nat.le_of_eq ?_) rfl (fun _ _ _ => id)
      rw [hentries, countP_of_swap himage, ← hes]

/-- A beacon goes out: a LEAVING one where phase FINAL has begun (R166). -/
theorem State.sendBeacon_outboxOk {s : State} (hnext : s.nextOffer = .beacon) (h : s.outboxOk) : s.sendBeacon.outboxOk := by
  obtain ⟨hbox, hwrite, himages, hhold, hserve, hrun, hstates, -, hstop, hidle⟩ := s.outboxOk_iff.1 h
  have hdue := (State.due_of_beacon hnext).1
  refine (State.outboxOk_iff _).2 ⟨hbox, hwrite, himages, hhold, hserve, hrun, hstates, fun b w hslot hmode => ?_, hstop, fun _ _ => rfl⟩
  have hbeacon : s.composeBeacon.frame = .beacon b := congrArg TxSlot.frame (Option.some.inj hslot)
  have hleaving : s.beaconMode = .leaving := by
    rw [← hmode]
    exact congrArg (fun f => match f with | Frame.beacon b => b.mode | _ => .active) hbeacon
  have hst : s.ctl.state = .leaving := s.beaconMode_leaving_iff.1 hleaving
  refine ⟨hst, ?_⟩
  cases hphase : s.ctl.leavePhase with
  | final => exact hphase
  | drain =>
    rw [hidle hst hphase] at hdue
    cases hdue

theorem State.openFence_outboxOk {s : State} (hport : s.port.state = .idle) (h : s.outboxOk) : s.openFence.outboxOk := by
  have hshape : Shaped s.openFence.out.entries s.out.entries :=
    shaped_map _ (mapUpdate_shape (f := fun u => { u with sealed := true, inFence := true }) fun _ _ => rfl) _
  have hidle (w : WriteWork) : s.openFence.port.state ≠ .working (.write w) := by
    show s.port.state ≠ _
    rw [hport]
    exact PortState.noConfusion
  exact h.shaped hshape hidle (h.phases.change hshape.ne_nil (hsweep := id)) (.inl rfl) rfl rfl

theorem State.drainEnd_outboxOk {s : State} (h : s.outboxOk) : s.drainEnd.outboxOk := by
  unfold State.drainEnd
  split
  next hdrain =>
    obtain ⟨hst, hphase, hnil⟩ := hdrain
    obtain ⟨hbox, hwrite, himages, hhold, hserve, hrun, hstates, hbeacon, hstop, hidle⟩ := s.outboxOk_iff.1 h
    refine (State.outboxOk_iff _).2 ⟨hbox, hwrite, himages, fun hne => absurd hnil hne, hserve, hrun, hstates, fun b w hslot hm => ?_,
      hstop, fun _ hd => nomatch hd⟩
    have := (hbeacon b w hslot hm).2
    rw [hphase] at this
    cases this
  next => exact h

end Sys2Proof.Machine
end

section
/-! SUPPORT. The Outbox's invariant through a WRITE's completion and the reads of serving records. -/

namespace Sys2Proof.Machine

-- One proof at a time: the proofs that wait for each other would hold the memory of the whole text.
set_option Elab.async false

theorem State.of_servingOf {s : State} {r : Region} {v : ServingRecord} (h : s.servingOf r = some v) :
    v ∈ s.serving ∧ v.region = r := ⟨List.mem_of_find?_eq_some h, by simpa using List.find?_some h⟩

theorem State.servingOf_of_mem {s : State} {v : ServingRecord} (h : s.imagesOk) (hv : v ∈ s.serving) :
    s.servingOf v.region = some v := by
  cases hfind : s.servingOf v.region with
  | none =>
    have := List.find?_eq_none.1 hfind v hv
    simp at this
  | some x =>
    obtain ⟨hx, hr⟩ := State.of_servingOf hfind
    rw [State.serving_unique h hx hv hr]

theorem State.mem_putServing_of_other {s : State} {v w : ServingRecord} (hv : v ∈ s.serving) (hr : v.region ≠ w.region) :
    v ∈ (s.putServing w).serving := by
  unfold State.putServing
  rw [State.setServing_serving]
  exact List.mem_map.2 ⟨v, hv, if_neg hr⟩

theorem State.mem_putServing_self {s : State} {v w : ServingRecord} (hv : v ∈ s.serving) (hr : w.region = v.region) :
    w ∈ (s.putServing w).serving := by
  unfold State.putServing
  rw [State.setServing_serving]
  exact List.mem_map.2 ⟨v, hv, if_pos hr.symm⟩

theorem State.putServing_ne_nil {s : State} {w : ServingRecord} (h : (s.putServing w).serving ≠ []) : s.serving ≠ [] := by
  intro hnil
  unfold State.putServing at h
  rw [State.setServing_serving, hnil] at h
  exact h rfl

/-! ### The completion of a WRITE (R63, R128) -/

/-- A restart of a serving record in the blocks that the Outbox's invariant reads (R128). -/
theorem State.restartServing_of_record {s : State} {r : Region} {v : ServingRecord} (h : s.servingOf r = some v) :
    (s.restartServing r).out = { s.out with
        entries := removalAsked (imageOf r) s.out.entries, fence := (s.discardEntries (imageOf r) false).out.fence }
      ∧ (s.restartServing r).serving = (s.putServing (v.restarted s.table[r].stamp)).serving
      ∧ (s.restartServing r).arb = s.arbAfterServing (fun q => q == r) ∧ (s.restartServing r).ctl = s.ctl := by
  unfold State.restartServing
  rw [h]
  dsimp only
  rw [State.discardEntries_of_spared _ _ (imageOf_spared r), State.dropRead_eq]
  exact ⟨rfl, rfl, rfl, rfl⟩

/-- The room of images through a restart: the record's read is dropped (R128). -/
theorem State.restartServing_imagesOk {s : State} (r : Region) (h : s.imagesOk) : (s.restartServing r).imagesOk := by
  cases hv : s.servingOf r with
  | none => rwa [State.restartServing, hv]
  | some v =>
    obtain ⟨hout, hserving, harb, -⟩ := State.restartServing_of_record hv
    obtain ⟨hmem, hr⟩ := State.of_servingOf hv
    refine ⟨?_, ?_, fun q k st hop => ?_⟩
    · have himages : (s.restartServing r).out.entries.countP OutEntry.isImage ≤ s.out.entries.countP OutEntry.isImage := by
        rw [hout]
        exact (thinned_removalAsked _ _).shaped.countP_le readsKind_isImage
      have hreads := State.countP_putServing h hmem (w := v.restarted s.table[r].stamp) rfl
      have hended : (v.restarted s.table[r].stamp).reading = false := rfl
      rw [hended, if_neg Bool.false_ne_true] at hreads
      rw [hserving]
      have hlimit := h.1
      omega
    · rw [hserving, State.putServing_regions]
      exact h.2.1
    · rw [harb] at hop
      obtain ⟨hop, hother⟩ := State.live_of_arbAfterServing hop
      obtain ⟨x, hx, rfl, hreading⟩ := h.2.2 q k st hop
      rw [hserving]
      exact ⟨x, State.mem_putServing_of_other hx fun heq => by simp [heq.trans hr] at hother, rfl, hreading⟩

theorem State.restartServing_shaped (s : State) (r : Region) : Shaped (s.restartServing r).out.entries s.out.entries
    ∧ (s.restartServing r).out.reserved = s.out.reserved ∧ (s.restartServing r).out.hostClaim = s.out.hostClaim
    ∧ (s.restartServing r).out.sweep = s.out.sweep ∧ (s.restartServing r).ctl = s.ctl
    ∧ ((s.restartServing r).serving ≠ [] → s.serving ≠ []) := by
  cases hv : s.servingOf r with
  | none =>
    have hsame : s.restartServing r = s := by rw [State.restartServing, hv]
    rw [hsame]
    exact ⟨(thinned_refl _).shaped, rfl, rfl, rfl, rfl, id⟩
  | some v =>
    obtain ⟨hout, hserving, -, hctl⟩ := State.restartServing_of_record hv
    rw [hout, hserving]
    exact ⟨(thinned_removalAsked _ _).shaped, rfl, rfl, rfl, hctl, State.putServing_ne_nil⟩

/-- The Outbox takes a completed WRITE in the room kept for it (R61, R63). -/
theorem Outbox.boxOk.afterWrite {o : Outbox} {w : WriteWork} (h : o.boxOk) (hroom : o.roomFor w) (epoch : Epoch)
    (base result : Version) : Outbox.boxOk { o with reserved := none, entries := o.afterWrite w epoch base result } := by
  unfold Outbox.afterWrite
  by_cases hcandidate : o.candidate w.region w.offset w.data.length = true
  · rw [if_pos hcandidate]
    exact h.shaped (mapYoungest_shaped _ (f := fun u => { u with data := w.data, result := result }) (fun _ => id) _) (.inr rfl)
      (fun _ => rfl) (fun _ => rfl)
  · rw [if_neg hcandidate]
    refine h.append rfl rfl ?_
    have hcount := h.1
    have hfits : o.entries.countP OutEntry.isUpdate + 1 ≤ Config.updateLimit := by
      rcases hroom with hslot | hslot | ⟨u, hu, hoffset, hlength, hsealed, -⟩
      · rwa [Outbox.updateCount, if_pos hslot] at hcount
      · exact Nat.lt_of_le_of_lt (Nat.le_add_right _ _) hslot
      · exact absurd (Outbox.candidate_iff.2 ⟨u, hu, hoffset, hlength, hsealed⟩) hcandidate
    unfold Outbox.updateCount
    rw [List.countP_append]
    exact hfits

theorem State.queueWrite_boxOk {s : State} {w : WriteWork} (e : RegionEntry) (h : s.out.boxOk) (hroom : s.out.roomFor w) :
    (s.queueWrite w e).releaseHold.out.boxOk := by
  have hqueued : Outbox.boxOk { (s.queueWrite w e).out with reserved := none } := by
    unfold State.queueWrite
    split
    next => exact h.shaped (thinned_refl _).shaped (.inr rfl) (fun _ => rfl) (fun _ => rfl)
    next => exact h.afterWrite hroom _ _ _
  exact hqueued.shaped (State.releaseHold_shaped _) (.inl rfl) (fun _ => rfl) (fun _ => rfl)

theorem State.queueWrite_images {s : State} (w : WriteWork) (e : RegionEntry) :
    (s.queueWrite w e).out.entries.countP OutEntry.isImage ≤ s.out.entries.countP OutEntry.isImage := by
  unfold State.queueWrite
  split
  next => exact Nat.le_refl _
  next =>
    show (Outbox.afterWrite _ _ _ _ _).countP _ ≤ _
    unfold Outbox.afterWrite
    split
    next =>
      exact (mapYoungest_shaped _ (f := fun u => { u with data := w.data, result := _ }) (fun _ => id) _).countP_le readsKind_isImage
    next =>
      rw [List.countP_append]
      exact Nat.le_refl _

theorem State.queueWrite_same (s : State) (w : WriteWork) (e : RegionEntry) : (s.queueWrite w e).out.hostClaim = s.out.hostClaim
    ∧ (s.queueWrite w e).out.sweep = s.out.sweep ∧ (s.queueWrite w e).ctl = s.ctl ∧ (s.queueWrite w e).serving = s.serving
    ∧ (s.queueWrite w e).arb = s.arb ∧ (s.queueWrite w e).line = s.line
    ∧ (s.ctl.state = .halted → (s.queueWrite w e).out.entries = s.out.entries) := by
  unfold State.queueWrite
  split
  next => exact ⟨rfl, rfl, rfl, rfl, rfl, rfl, fun _ => rfl⟩
  next hrunning => exact ⟨rfl, rfl, rfl, rfl, rfl, rfl, fun hst => absurd hst hrunning⟩

/-- A WRITE completes at the owner: one entry in its room, and a serving record of the region restarts (R63, R128). -/
theorem State.ownerWrote_outboxOk {s : State} (w : WriteWork) (hport : s.port.state = .working (.write w)) (h : s.outboxOk) :
    (s.ownerWrote w).outboxOk := by
  obtain ⟨hbox, hwrite, himages, hphases⟩ := s.outboxOk_iff.1 h
  let u := s.mapEntry w.region ({ · with stamp := nextVersion s.table[w.region].stamp })
  obtain ⟨hhost, hsweep, hctl, hserving, harb, hline, hhalted⟩ := u.queueWrite_same w s.table[w.region]
  have hqueued : (u.queueWrite w s.table[w.region]).releaseHold.out.boxOk := State.queueWrite_boxOk (s := u) _ hbox (hwrite w hport)
  have hroom : (u.queueWrite w s.table[w.region]).releaseHold.imagesOk := by
    refine himages.change ?_ ?_ ?_
    · exact ((State.releaseHold_shaped _).countP_le readsKind_isImage).trans (u.queueWrite_images w _)
    · show (u.queueWrite w _).serving.map _ = _
      rw [hserving]
      rfl
    · intro r k st hop
      have hop' : (u.queueWrite w s.table[w.region]).arb.op = some (.chunkRead r k st true) := hop
      rwa [harb] at hop'
  obtain ⟨hshape, hreserved, hhost', hsweep', hctl', hserving'⟩ :=
    (u.queueWrite w s.table[w.region]).releaseHold.restartServing_shaped w.region
  have hsent := (State.restartServing_imagesOk w.region hroom)
  refine (State.outboxOk_iff _).2 ⟨hqueued.shaped hshape (.inl hreserved) (fun _ => hhost')
      (fun _ => congrArg Sweep.outstanding hsweep'),
    (fun _ hw => nomatch hw), hsent, ?_⟩
  obtain ⟨hhold, hserve, hrun, hstates, hbeacon, hrest⟩ := hphases
  have hstate : (s.ownerWrote w).ctl = s.ctl := hctl'.trans hctl
  have hslot : (s.ownerWrote w).line = s.line := by simp
  rw [State.phasesOk, hstate, hslot]
  refine ⟨fun hne => ?_, fun hne => hserve ?_, fun hr => hrun ?_, fun _ hw => (nomatch hw), hbeacon, hrest⟩
  · rcases hstates w hport with hworking | hst
    · exact Controller.mayHold_of_working hworking
    · refine hhold ?_
      have := (State.releaseHold_shaped _).ne_nil (hshape.ne_nil hne)
      rwa [hhalted hst] at this
  · have := hserving' hne
    show u.serving ≠ []
    rwa [← hserving]
  · have hphase : ((u.queueWrite w s.table[w.region]).releaseHold.restartServing w.region).out.sweep.phase = .running := hr
    rw [hsweep'] at hphase
    have hphase' : (u.queueWrite w s.table[w.region]).out.sweep.phase = .running := hphase
    rwa [hsweep] at hphase'

theorem State.concludeWrite_outboxOk {s : State} (w : WriteWork) (hport : s.port.state = .working (.write w)) (h : s.outboxOk) :
    (s.concludeWrite w).outboxOk := by
  unfold State.concludeWrite
  split
  next => exact State.ownerWrote_outboxOk w hport h
  next =>
    exact h.shaped s.releaseHold_shaped (fun _ hw => nomatch hw)
      (h.phases.change s.releaseHold_shaped.ne_nil (hsweep := id) (hport := fun _ hw => nomatch hw)) (.inr rfl) rfl rfl

/-! ### The reads of serving records (R123, R136) -/

/-- The room of images where a record of the region goes on with another read. -/
theorem State.putServing_imagesOk {s t : State} {v w : ServingRecord} (h : s.imagesOk) (hv : v ∈ s.serving)
    (hserving : t.serving = (s.putServing w).serving) (hr : w.region = v.region)
    (hcount : t.out.entries.countP OutEntry.isImage + s.serving.countP ServingRecord.reading + (if w.reading = true then 1 else 0)
      ≤ Config.imageLimit + (if v.reading = true then 1 else 0))
    (hlive : ∀ q k st, t.arb.op = some (.chunkRead q k st true) → s.arb.op = some (.chunkRead q k st true) ∧ q ≠ v.region
      ∨ q = v.region ∧ w.reading = true) : t.imagesOk := by
  refine ⟨?_, ?_, fun q k st hop => ?_⟩
  · have := State.countP_putServing h hv hr
    rw [hserving]
    omega
  · rw [hserving, State.putServing_regions]
    exact h.2.1
  · rw [hserving]
    rcases hlive q k st hop with ⟨hop, hother⟩ | ⟨rfl, hreading⟩
    · obtain ⟨x, hx, rfl, hreading⟩ := h.2.2 q k st hop
      exact ⟨x, State.mem_putServing_of_other hx (hr ▸ hother), rfl, hreading⟩
    · exact ⟨w, State.mem_putServing_self hv hr, hr, hreading⟩

/-- The end of a chunk read: the record reads no longer, and its IMAGE entry takes the room (R123). -/
theorem State.chunkRead_outboxOk {s : State} (r : Region) (k : Chunk) (stamp : Stamp) (live : Bool)
    (hop : s.arb.op = some (.chunkRead r k stamp live)) (h : s.outboxOk) : (s.chunkRead r k stamp live).outboxOk := by
  have hended : s.endOp.outboxOk := h.thin (thinned_refl _) (h.phases.change) (hop := fun _ _ _ hop => nomatch hop)
  unfold State.chunkRead
  split
  next v hv =>
    cases live with
    | false => exact hended
    | true =>
      obtain ⟨hmem, rfl⟩ := State.of_servingOf hv
      obtain ⟨x, hx, hxr, hreading⟩ := h.images.2.2 _ _ _ hop
      obtain rfl := State.serving_unique h.images hx hmem hxr
      have hlimit := h.images.1
      have hidle (q : Region) (j : Chunk) (st : Stamp) : s.endOp.arb.op ≠ some (.chunkRead q j st true) := fun hop => nomatch hop
      rw [Bool.not_true, if_neg Bool.false_ne_true]
      split
      next =>
        refine hended.served (thinned_refl _) (State.putServing_imagesOk hended.images hmem rfl rfl ?_ fun q j st hop => nomatch hop)
          (hended.phases.change (hserving := State.putServing_ne_nil))
        rw [hreading]
        exact Nat.le_succ_of_le hlimit
      next =>
        have hworking : s.ctl.state.working = true := h.phases.2.1 (List.ne_nil_of_mem hmem)
        refine hended.append rfl rfl rfl (State.putServing_imagesOk hended.images hmem rfl rfl ?_ fun q j st hop => nomatch hop)
          (hended.phases.grown (Controller.mayHold_of_working hworking) (hserving := State.putServing_ne_nil) (hsweep := id))
        rw [hreading]
        show List.countP _ (_ ++ _) + _ + _ ≤ _
        rw [List.countP_append]
        show s.out.entries.countP OutEntry.isImage + 1 + s.serving.countP ServingRecord.reading + 0 ≤ Config.imageLimit + 1
        omega
  next => exact hended

theorem State.requestRead_outboxOk {s : State} (r : Region) (h : s.outboxOk) : (s.requestRead r).outboxOk := by
  unfold State.requestRead
  split
  next => exact h
  next v hv =>
    split_ifs with hbusy
    · exact h
    · split
      next => exact h
      next k _ =>
        obtain ⟨hmem, rfl⟩ := State.of_servingOf hv
        simp only [Bool.or_eq_true, decide_eq_true_eq, not_or, Nat.not_le, Bool.not_eq_true] at hbusy
        obtain ⟨⟨hidle, -⟩, hroom⟩ := hbusy
        refine h.served (thinned_refl _) (State.putServing_imagesOk h.images hmem rfl rfl ?_ fun q j st hop => ?_)
          (h.phases.change (hserving := State.putServing_ne_nil))
        · rw [hidle]
          exact hroom
        · left
          refine ⟨hop, ?_⟩
          rintro rfl
          obtain ⟨x, hx, hxr, hreading⟩ := h.images.2.2 _ _ _ hop
          rw [State.serving_unique h.images hx hmem hxr, hidle] at hreading
          cases hreading

theorem State.grantImage_outboxOk {s : State} {v : ServingRecord} (hv : v ∈ s.serving) (h : s.outboxOk) : (s.grantImage v).outboxOk := by
  unfold State.grantImage
  split
  next k n hread =>
    have hreading : v.reading = true := by rw [ServingRecord.reading, hread]; rfl
    refine h.served (thinned_refl _) (State.putServing_imagesOk h.images hv rfl rfl ?_ fun q j st hop => ?_)
      (h.phases.change (hserving := State.putServing_ne_nil))
    · rw [hreading]
      exact Nat.add_le_add_right h.images.1 1
    · right
      cases hop
      exact ⟨rfl, rfl⟩
  next => exact h

theorem State.serve_outboxOk {s : State} (r : Region) (q : Station) (hworking : s.ctl.state.working = true) (h : s.outboxOk) :
    (s.serve r q).outboxOk := by
  unfold State.serve
  split
  next v hv =>
    have hmem := (State.of_servingOf hv).1
    split
    next => exact State.putServing_outboxOk hmem rfl rfl h
    next => exact State.putServing_outboxOk hmem rfl rfl h
  next hnone =>
    split
    next =>
      obtain ⟨hhold, -, hrest⟩ := h.phases
      refine h.served (thinned_refl _) ⟨?_, ?_, fun q k st hop => ?_⟩ ⟨hhold, fun _ => hworking, hrest⟩
      · rw [State.setServing_serving, List.countP_append]
        exact h.images.1
      · rw [State.setServing_serving, List.map_append, List.nodup_append]
        refine ⟨h.images.2.1, List.nodup_singleton _, fun a ha b hb hab => ?_⟩
        obtain ⟨v, hv, rfl⟩ := List.mem_map.1 ha
        have := List.find?_eq_none.1 hnone v hv
        simp_all
      · obtain ⟨v, hv, hvr, hreading⟩ := h.images.2.2 q k st hop
        exact ⟨v, List.mem_append_left _ hv, hvr, hreading⟩
    next => exact h

end Sys2Proof.Machine
end

section
/-! SUPPORT. The Outbox's invariant as the station changes its state. -/

namespace Sys2Proof.Machine

-- One proof at a time: the proofs that wait for each other would hold the memory of the whole text.
set_option Elab.async false

namespace State.phasesOk

variable {s : State} (h : s.phasesOk)

include h

theorem noEntries (hst : s.ctl.mayHoldEntries = false) : s.out.entries = [] := by
  by_contra hne
  rw [h.1 hne] at hst
  cases hst

theorem noServing (hst : s.ctl.state.working = false) : s.serving = [] := by
  by_contra hne
  rw [h.2.1 hne] at hst
  cases hst

theorem notRunning (hst : s.ctl.state ≠ .active) : s.out.sweep.phase ≠ .running := fun hrun => hst (h.2.2.1 hrun)

theorem noWrite (hst : s.ctl.state.working = false) (hhalted : s.ctl.state ≠ .halted) (w : WriteWork) :
    s.port.state ≠ .working (.write w) := fun hw => by
  rcases h.2.2.2.1 w hw with hworking | hhalt
  · rw [hworking] at hst
    cases hst
  · exact hhalted hhalt

theorem notLeaving (hst : s.ctl.state ≠ .leaving) {b : BeaconFrame} {w : Option Region} (hslot : s.line.slot = some ⟨.beacon b, w⟩) :
    b.mode ≠ .leaving := fun hm => hst (h.2.2.2.2.1 b w hslot hm).1

end State.phasesOk

theorem Outbox.boxOk_of_empty {o : Outbox} (h : o.entries = []) : o.boxOk := by
  unfold Outbox.boxOk Outbox.updateCount
  rw [h]
  refine ⟨?_, (fun e he => absurd he List.not_mem_nil), Nat.zero_le _, Nat.zero_le _, fun e he => absurd he List.not_mem_nil⟩
  split <;> simp [Config.updateLimit]

theorem Outbox.roomFor_of_empty {o : Outbox} (h : o.entries = []) (w : WriteWork) : o.roomFor w := by
  refine .inr (.inl ?_)
  unfold Outbox.updateCount
  rw [h]
  split <;> simp [Config.updateLimit]

theorem State.imagesOk_of_empty {t : State} (hentries : t.out.entries = []) (hserving : t.serving = [])
    (hop : ∀ r k st, t.arb.op ≠ some (.chunkRead r k st true)) : t.imagesOk := by
  refine ⟨?_, ?_, fun r k st hread => absurd hread (hop r k st)⟩
  · rw [hentries, hserving]
    exact Nat.zero_le _
  · rw [hserving]
    exact List.nodup_nil

/-- The Outbox's invariant of a station with nothing in the Outbox and nothing served. -/
theorem State.outboxOk_of_empty {t : State} (hentries : t.out.entries = []) (hserving : t.serving = [])
    (hop : ∀ r k st, t.arb.op ≠ some (.chunkRead r k st true)) (hphases : t.phasesOk) : t.outboxOk :=
  t.outboxOk_iff.2 ⟨Outbox.boxOk_of_empty hentries, fun w _ => Outbox.roomFor_of_empty hentries w,
    State.imagesOk_of_empty hentries hserving hop, hphases⟩

/-- The Outbox's invariant of a station that is off the line with nothing in progress. -/
theorem State.outboxOk_of_off {t : State} (hst : t.ctl.state = .offline) (hentries : t.out.entries = []) (hserving : t.serving = [])
    (hop : ∀ r k st, t.arb.op ≠ some (.chunkRead r k st true)) (hsweep : t.out.sweep.phase ≠ .running)
    (hport : ∀ w, t.port.state ≠ .working (.write w)) (hslot : t.line.slot = none) : t.outboxOk := by
  refine State.outboxOk_of_empty hentries hserving hop ⟨fun hne => absurd hentries hne, fun hne => absurd hserving hne,
    fun hrun => absurd hrun hsweep, fun w hw => absurd hw (hport w), fun b w hb => ?_, fun hl => ?_, fun hl => ?_⟩
  · rw [hslot] at hb
    cases hb
  · rw [hst] at hl
    cases hl
  · rw [hst] at hl
    cases hl

/-- With nothing served no chunk read is live. -/
theorem State.imagesOk.noRead {s : State} (h : s.imagesOk) (hnil : s.serving = []) (r : Region) (k : Chunk) (st : Stamp) :
    s.arb.op ≠ some (.chunkRead r k st true) := fun hop => by
  obtain ⟨v, hv, -⟩ := h.2.2 r k st hop
  rw [hnil] at hv
  cases hv

/-- No chunk read is live once every record has ended. -/
theorem State.noRead_of_ended {s : State} (h : s.imagesOk) (r : Region) (k : Chunk) (st : Stamp) :
    (s.arbAfterServing s.served).op ≠ some (.chunkRead r k st true) := fun hop => by
  obtain ⟨hop, hended⟩ := State.live_of_arbAfterServing hop
  obtain ⟨v, hv, rfl, -⟩ := h.2.2 r k st hop
  have hserved : s.served v.region = true := List.any_eq_true.2 ⟨v, hv, beq_self_eq_true _⟩
  rw [hserved] at hended
  cases hended

/-- In HALTED nothing is left but a WRITE that the array has taken (R167). -/
theorem State.halt_outboxOk {s : State} (c : HaltCause) (h : s.outboxOk) : (s.halt c).outboxOk := by
  obtain ⟨hstate, hslot, -, -, htimer, -, -, -, hentries, -, -, -, hsweep, -, -, hserving, -, -⟩ := s.halt_clear c
  obtain ⟨t, ht, hkept, -, -⟩ := s.halt_kept c
  have harb : (s.halt c).arb = s.haltOff.closeAllPulls.arbAfterServing s.haltOff.closeAllPulls.served := by
    rw [ht]
    exact hkept.arb.trans (State.endAllServing_arb _)
  have himages : s.haltOff.closeAllPulls.imagesOk := by
    refine h.images.change ?_ (by simp [State.haltOff]) (by rw [State.haltOff_arb]; exact fun _ _ _ => id)
    rw [State.closeAllPulls_entries, s.haltOff_out]
    exact Nat.zero_le _
  refine State.outboxOk_of_empty hentries hserving (fun r k st => ?_) ⟨fun hne => absurd hentries hne, fun hne => absurd hserving hne,
    fun hrun => ?_, fun w _ => .inr hstate, fun b w hb => ?_, fun hl => ?_, fun hl => ?_⟩
  · rw [harb]
    exact State.noRead_of_ended himages r k st
  · rw [hsweep] at hrun
    cases hrun
  · rw [hslot] at hb
    cases hb
  · rw [hstate] at hl
    cases hl
  · rw [hstate] at hl
    cases hl

/-- LEAVING has ended (R166). -/
theorem State.goOffline_outboxOk {s : State} (hst : s.ctl.state = .leaving) (hphase : s.ctl.leavePhase = .final) (h : s.outboxOk) :
    s.goOffline.outboxOk := by
  have hentries := h.phases.noEntries (by rw [Controller.mayHoldEntries, hst, hphase]; rfl)
  have hserving := h.phases.noServing (by rw [hst]; rfl)
  have hblocks : s.goOffline.out = s.out ∧ s.goOffline.serving = s.serving ∧ s.goOffline.arb = s.arb
      ∧ s.goOffline.port = s.port ∧ s.goOffline.line.slot = none ∧ s.goOffline.ctl.state = .offline := by
    rw [s.goOffline_eq]
    exact ⟨rfl, rfl, rfl, rfl, rfl, rfl⟩
  obtain ⟨hout, hserved, harb, hport, hslot, hstate⟩ := hblocks
  refine State.outboxOk_of_off hstate (by rw [hout]; exact hentries) (by rw [hserved]; exact hserving)
    (fun r k st => by rw [harb]; exact h.images.noRead hserving r k st) ?_ (fun w => ?_) hslot
  · rw [hout]
    exact h.phases.notRunning (by rw [hst]; exact StationState.noConfusion)
  · rw [hport]
    exact h.phases.noWrite (by rw [hst]; rfl) (by rw [hst]; exact StationState.noConfusion) w

/-- A LEAVING beacon has ended the leaving (R166). -/
theorem State.leavingSent_outboxOk {s : State} {b : BeaconFrame} {w : Option Region} (ack : StationMap)
    (hslot : s.line.slot = some ⟨.beacon b, w⟩) (hm : b.mode = .leaving) (h : s.outboxOk) :
    (s.attemptDone.beaconSent b w ack).goOffline.outboxOk := by
  obtain ⟨hst, hphase⟩ := h.phases.2.2.2.2.1 b w hslot hm
  exact State.goOffline_outboxOk (by simpa using hst) hphase ((sameCore_beaconSent s b w ack).outboxOk h)

/-- A station in a state without entries and records goes to another one, its sweep stopped or starting. -/
theorem State.outboxOk.restate {s t : State} (h : s.outboxOk) (hmay : s.ctl.mayHoldEntries = false)
    (hst : s.ctl.state.working = false) (hhalted : s.ctl.state ≠ .halted) (hleaving : s.ctl.state ≠ .leaving)
    (hstate : t.ctl.state ≠ .leaving) (hentries : t.out.entries = s.out.entries) (hserving : t.serving = s.serving)
    (hsweep : t.out.sweep.phase = .running → t.ctl.state = .active) (hport : t.port = s.port) (hslot : t.line.slot = s.line.slot)
    (harb : t.arb = s.arb) : t.outboxOk := by
  have hnil := h.phases.noEntries hmay
  have hidle := h.phases.noServing hst
  refine State.outboxOk_of_empty (hentries.trans hnil) (hserving.trans hidle)
    (fun r k st => by rw [harb]; exact h.images.noRead hidle r k st)
    ⟨fun hne => absurd (hentries.trans hnil) hne, fun hne => absurd (hserving.trans hidle) hne, hsweep, fun w hw => ?_, fun b w hb hm => ?_,
      fun hl => absurd hl hstate, fun hl => absurd hl hstate⟩
  · rw [hport] at hw
    exact absurd hw (h.phases.noWrite hst hhalted w)
  · exact absurd hm (h.phases.notLeaving hleaving (hslot ▸ hb))

/-- LEAVE: records and pulls end with their entries, and beacons cease (R163). -/
theorem State.startLeaving_outboxOk {s : State} (hst : s.ctl.state ≠ .leaving) (hport : s.port.state = .idle) (h : s.outboxOk) :
    s.startLeaving.outboxOk := by
  have hentries := s.leavingEnded_entries
  obtain ⟨hreserved, hhost, hsweep, hctl⟩ := s.leavingEnded_rest
  have hserving := s.leavingEnded_serving
  have hout : s.leavingEnded.out.sweep.outstanding = s.out.sweep.outstanding := by rw [hsweep]
  have hthin : Thinned s.leavingEnded.out.entries s.out.entries := by
    rw [hentries]
    exact thinned_removalAsked _ _
  have hctl' : s.startLeaving.ctl = { s.leavingOff.ctl with leaveTimer := some 0 } := by
    rw [s.startLeaving_eq, ← hctl]
  have hline : s.startLeaving.line = s.line := by simp
  have hport' : s.startLeaving.port = s.port := by simp
  rw [s.startLeaving_eq] at hctl' hline hport' ⊢
  refine h.served hthin ⟨?_, ?_, fun r k st hop => ?_⟩ ⟨fun _ => ?_, fun hne => absurd hserving hne, fun hrun => ?_, fun w hw => ?_,
    fun b w hb hm => ?_, fun _ => ?_, fun _ _ => ?_⟩ hreserved (fun _ => hhost) (fun _ => hout)
    (fun w hw => by rw [hport'] at hw; exact hw)
  · show s.leavingEnded.out.entries.countP _ + s.leavingEnded.serving.countP _ ≤ _
    rw [hserving]
    exact (hthin.shaped.countP_le readsKind_isImage).trans ((Nat.le_add_right _ _).trans h.images.1)
  · show (s.leavingEnded.serving.map _).Nodup
    rw [hserving]
    exact List.nodup_nil
  · have hop' : s.leavingEnded.arb.op = some (.chunkRead r k st true) := hop
    rw [s.leavingEnded_arb] at hop'
    exact absurd hop' (State.noRead_of_ended h.images r k st)
  · rw [Controller.mayHoldEntries, hctl']
    rfl
  · have hphase : s.leavingEnded.out.sweep.phase = .running := hrun
    rw [hsweep] at hphase
    cases hphase
  · rw [hport', hport] at hw
    cases hw
  · rw [hline] at hb
    exact absurd hm (h.phases.notLeaving hst hb)
  · rw [hctl']
    rfl
  · rw [hctl']
    rfl

theorem State.dozing_outboxOk {s : State} (hst : s.ctl.state = .active) (hport : s.port.state = .idle) (hidle : s.dozeBusy = false)
    (h : s.outboxOk) : ((s.setState .dozing).setSweep s.out.sweep.pause).outboxOk := by
  have hserving : s.serving = [] := by simp_all [State.dozeBusy]
  refine h.thin (thinned_refl _) ⟨fun _ => rfl, fun hne => absurd hserving hne, fun hrun => ?_, fun w hw => ?_, fun b w hb hm => ?_,
    fun hl => (nomatch hl), fun hl => nomatch hl⟩ (hreserved := rfl) (hhost := fun _ => rfl) (hsweep := fun _ => ?_)
  · have hphase : s.out.sweep.pause.phase = .running := hrun
    unfold Sweep.pause at hphase
    split at hphase <;> simp_all
  · have hw' : s.port.state = .working (.write w) := hw
    rw [hport] at hw'
    cases hw'
  · exact absurd hm (h.phases.notLeaving (by rw [hst]; exact StationState.noConfusion) hb)
  · show s.out.sweep.pause.outstanding = _
    unfold Sweep.pause
    split <;> rfl

/-- ACTIVE and ISOLATED change with the quorum, and the sweep with them (R56, R103). -/
theorem State.quorum_outboxOk {s : State} {st : StationState} {w : Sweep} (hst : s.ctl.state.working = true) (hnew : st.working = true)
    (hkept : w.outstanding = s.out.sweep.outstanding) (hrun : w.phase = .running → st = .active) (h : s.outboxOk) :
    ((s.setState st).setSweep w).outboxOk := by
  have hnot {x : StationState} (hx : x.working = true) : x ≠ .leaving := by
    rintro rfl
    cases hx
  exact h.thin (thinned_refl _) ⟨fun _ => Controller.mayHold_of_working hnew, fun _ => hnew, hrun, fun _ _ => .inl hnew,
    fun b w hb hm => absurd hm (h.phases.notLeaving (hnot hst) hb), fun hl => absurd hl (hnot hnew), fun hl => absurd hl (hnot hnew)⟩
    (hreserved := rfl) (hhost := fun _ => rfl) (hsweep := fun _ => hkept)

theorem State.woken_outboxOk {s : State} (c : Option Region) (hst : s.ctl.state = .dozing) (h : s.outboxOk) : (s.woken c).outboxOk := by
  have hserving := h.phases.noServing (by rw [hst]; rfl)
  have hworking : (s.woken c).ctl.state.working = true := by
    unfold State.woken
    dsimp only
    split <;> rfl
  have hnot : (s.woken c).ctl.state ≠ .leaving := fun hl => by
    rw [hl] at hworking
    cases hworking
  refine h.thin (thinned_refl _) ⟨fun _ => Controller.mayHold_of_working hworking, fun _ => hworking, fun hrun => ?_, fun w hw => ?_,
    fun b w hb hm => ?_, fun hl => absurd hl hnot, fun hl => absurd hl hnot⟩ (hreserved := rfl) (hhost := fun _ => rfl) (hsweep := fun _ => rfl)
    (hserving := rfl) (hop := fun _ _ _ => id) (hport := fun _ => id)
  · have hstopped := h.phases.notRunning (by rw [hst]; exact StationState.noConfusion)
    unfold State.woken at hrun ⊢
    dsimp only at hrun ⊢
    split at hrun
    next hquorum => rw [if_pos hquorum.1]
    next => exact absurd hrun hstopped
  · exact .inl hworking
  · exact absurd hm (h.phases.notLeaving (by rw [hst]; exact StationState.noConfusion) hb)

theorem State.beaconTimer_outboxOk {s : State} (ht : s.ctl.beaconTimer.isSome = true) (h : s.outboxOk) :
    (s.mapCtl ({ · with beaconTimer := some 0, beaconDue := true })).outboxOk := by
  obtain ⟨hbox, hwrite, himages, hhold, hserve, hrun, hstates, hbeacon, hstop, hidle⟩ := s.outboxOk_iff.1 h
  have hnot : s.ctl.state ≠ .leaving := fun hl => by
    rw [hstop hl] at ht
    cases ht
  exact (State.outboxOk_iff _).2 ⟨hbox, hwrite, himages, hhold, hserve, hrun, hstates, hbeacon, fun hl => absurd hl hnot,
    fun hl => absurd hl hnot⟩

/-- A beacon that is lost falls due again but in phase DRAIN (R163). -/
theorem State.loseBeacon_outboxOk {s : State} (b : BeaconFrame) (w : Option Region) (hslot : s.line.slot = some ⟨.beacon b, w⟩)
    (h : s.outboxOk) : ((s.mapLine ({ · with slot := none })).returnBeacon b).outboxOk := by
  obtain ⟨hbox, hwrite, himages, hhold, hserve, hrun, hstates, hbeacon, hstop, hidle⟩ := s.outboxOk_iff.1 h
  unfold State.returnBeacon
  split
  next =>
    exact (State.outboxOk_iff _).2 ⟨hbox, hwrite, himages, hhold, hserve, hrun, hstates, (fun _ _ hb => nomatch hb), hstop, hidle⟩
  next hdue =>
    refine (State.outboxOk_iff _).2 ⟨hbox, hwrite, himages, hhold, hserve, hrun, hstates, (fun _ _ hb => nomatch hb), hstop, fun hl hd => ?_⟩
    have hl' : s.ctl.state = .leaving := hl
    have hd' : s.ctl.leavePhase = .drain := hd
    have hmode : b.mode = .leaving := by
      by_contra hother
      exact hdue ⟨hl, hother⟩
    rw [(hbeacon b w hslot hmode).2] at hd'
    cases hd'

end Sys2Proof.Machine
end

section
/-! SUPPORT. Every change of which commands consist keeps the Outbox's invariant. -/

namespace Sys2Proof.Machine

-- One proof at a time: the proofs that wait for each other would hold the memory of the whole text.
set_option Elab.async false

/-- The Outbox beside the pulls. -/
def State.sendOk (s : State) : Prop := s.pullsOk ∧ s.outboxOk

theorem thinned_putsBack {f : OutEntry → OutEntry} (hf : putsBack f) (es : List OutEntry) : Thinned (es.map f) es := by
  simpa using thinned_of_filter_map (fun _ => true) f hf es

theorem State.claimRefusal_none {s : State} {r : Region} {guardPin : Bool} (h : s.claimRefusal r guardPin = none) :
    s.out.hostClaim = none ∧ s.table[r].copy = .current ∧ ∀ e ∈ s.out.entries, e.isSweep = true → e.region ≠ r := by
  unfold State.claimRefusal at h
  split_ifs at h with hcopy _ _ hbusy
  simp only [Bool.or_eq_true, not_or, Bool.not_eq_true, Option.isSome_eq_false_iff, Option.isNone_iff_eq_none, List.any_eq_false,
    Bool.and_eq_true, beq_iff_eq, not_and] at hbusy
  exact ⟨hbusy.1, not_not.1 hcopy, hbusy.2⟩

theorem Sweep.pause_outstanding (w : Sweep) : w.pause.outstanding = w.outstanding ∧ w.pause.phase ≠ .running := by
  unfold Sweep.pause
  split
  next => exact ⟨rfl, SweepPhase.noConfusion⟩
  next hother => exact ⟨rfl, hother⟩

theorem Sweep.resume_outstanding (w : Sweep) : w.resume.outstanding = w.outstanding := by
  unfold Sweep.resume
  split <;> rfl

/-- A FORMAT step leaves the array free, and no WRITE in progress. -/
theorem State.formatStep_idle (s : State) (r : Region) (k : Chunk) : (s.formatStep r k).arb.op = none
    ∧ ∀ w, (s.formatStep r k).port.state ≠ .working (.write w) := by
  unfold State.formatStep State.formatNext
  split_ifs
  · exact ⟨by simp [State.endOp], fun w hw => nomatch hw⟩
  · exact ⟨by simp [State.endOp], fun w hw => nomatch hw⟩
  · exact ⟨by simp [State.endOp], fun w hw => nomatch hw⟩

/-- The changes of which commands consist keep the Outbox's invariant. -/
theorem outbox_invariant : Invariant State.sendOk where
  core hs h := ⟨hs.pullsOk h.1, hs.outboxOk h.2⟩
  port f hf h := ⟨pulls_invariant.port f hf h.1, h.2.thin (thinned_refl _)
    (h.2.phases.change (hport := fun w hw => (hf _ hw).resolve_right Bool.noConfusion))
    (hport := fun w hw => (hf _ hw).resolve_right Bool.noConfusion)⟩
  discard p cut h := ⟨pulls_invariant.discard p cut h.1, State.discardEntries_outboxOk p cut h.2⟩
  fewer es hes hslot h := ⟨pulls_invariant.fewer es hes hslot h.1, h.2.thin (thinned_of_sublist hes)
    (h.2.phases.change (thinned_of_sublist hes).shaped.ne_nil (hsweep := id)) (hreserved := rfl) (hhost := fun _ => rfl) (hsweep := fun _ => rfl)⟩
  putBack f hf hslot h := ⟨pulls_invariant.putBack f hf hslot h.1, h.2.thin (thinned_putsBack hf _)
    (h.2.phases.change (thinned_putsBack hf _).shaped.ne_nil (hsweep := id)) (hreserved := rfl) (hhost := fun _ => rfl) (hsweep := fun _ => rfl)⟩
  sweepAct hrun hnone h := ⟨pulls_invariant.sweepAct hrun hnone h.1, State.sweepAct_outboxOk hrun hnone h.2⟩
  hostClaim r g hst howns hcheck h := ⟨pulls_invariant.hostClaim r g hst howns hcheck h.1,
    State.hostClaim_outboxOk r hst (State.claimRefusal_none hcheck).1 h.2⟩
  queuePull p hne h := ⟨pulls_invariant.queuePull p hne h.1, State.queuePull_outboxOk p (h.1.2.1 hne) h.2⟩
  sendBeacon hnext h := ⟨pulls_invariant.sendBeacon hnext h.1, State.sendBeacon_outboxOk hnext h.2⟩
  sendEntry e hnext hslot h := ⟨pulls_invariant.sendEntry e hnext hslot h.1, State.sendEntry_outboxOk e h.2⟩
  openFence hport h := ⟨pulls_invariant.openFence hport h.1, State.openFence_outboxOk hport h.2⟩
  drainEnd h := ⟨pulls_invariant.drainEnd h.1, State.drainEnd_outboxOk h.2⟩
  takeWrite w g hport hcheck h := ⟨pulls_invariant.takeWrite w g hport hcheck h.1, State.takeWrite_outboxOk w g hcheck h.2⟩
  abandon r h := ⟨pulls_invariant.abandon r h.1, State.abandonWrite_outboxOk r h.2⟩
  conclude w hport h := ⟨pulls_invariant.conclude w hport h.1, State.concludeWrite_outboxOk w hport h.2⟩
  chunkRead r k st live hop h := ⟨pulls_invariant.chunkRead r k st live hop h.1, State.chunkRead_outboxOk r k st live hop h.2⟩
  putServing v w hv hr hread h := ⟨pulls_invariant.putServing v w hv hr hread h.1,
    State.putServing_outboxOk (State.of_servingOf hv).1 hr hread h.2⟩
  requestRead r h := ⟨pulls_invariant.requestRead r h.1, State.requestRead_outboxOk r h.2⟩
  grantImage v hv h := ⟨pulls_invariant.grantImage v hv h.1, State.grantImage_outboxOk hv h.2⟩
  serve r q hst h := ⟨pulls_invariant.serve r q hst h.1, State.serve_outboxOk r q hst h.2⟩
  endServing r h := ⟨pulls_invariant.endServing r h.1, State.endServing_outboxOk r h.2⟩
  closePull r park h := ⟨pulls_invariant.closePull r park h.1, State.closePull_outboxOk r park h.2⟩
  opening r n k hnext h := ⟨pulls_invariant.opening r n k hnext h.1, h.2.same rfl rfl rfl rfl rfl rfl⟩
  endPull r g hp h := ⟨pulls_invariant.endPull r g hp h.1, h.2.same⟩
  unpark r h := ⟨pulls_invariant.unpark r h.1, h.2.same⟩
  markStale r c hslot howns h := ⟨pulls_invariant.markStale r c hslot howns h.1, h.2.same⟩
  setOwner r o ho h := ⟨pulls_invariant.setOwner r o ho h.1, h.2.same⟩
  takeStamp r st hslot howns h := ⟨pulls_invariant.takeStamp r st hslot howns h.1, h.2.same⟩
  startFormat hoff h := ⟨pulls_invariant.startFormat hoff h.1, h.2.thin (thinned_refl _)
    (h.2.phases.change (hport := fun _ hw => nomatch hw)) (hport := fun _ hw => nomatch hw)⟩
  formatStep {s} r k hport h := ⟨pulls_invariant.formatStep r k hport h.1, h.2.thin (by simpa using thinned_refl _)
    (h.2.phases.change (hport := fun w hw => absurd hw ((s.formatStep_idle r k).2 w)))
    (hop := fun q j st hop => by rw [(s.formatStep_idle r k).1] at hop; cases hop)
    (hport := fun w hw => absurd hw ((s.formatStep_idle r k).2 w))⟩
  halt c hst h := ⟨pulls_invariant.halt c hst h.1, State.halt_outboxOk c h.2⟩
  goOffline hst hphase h := ⟨pulls_invariant.goOffline hst hphase h.1, State.goOffline_outboxOk hst hphase h.2⟩
  leavingSent b w ack hslot hm hst h := ⟨pulls_invariant.leavingSent b w ack hslot hm hst h.1, State.leavingSent_outboxOk ack hslot hm h.2⟩
  cleared s p := ⟨pulls_invariant.cleared s p, State.outboxOk_of_off rfl rfl rfl (fun _ _ _ hop => nomatch hop)
    SweepPhase.noConfusion (fun _ => PortState.noConfusion) rfl⟩
  recovered s c straps := ⟨pulls_invariant.recovered s c straps, State.outboxOk_of_off rfl rfl rfl (fun _ _ _ hop => nomatch hop)
    SweepPhase.noConfusion (fun _ => PortState.noConfusion) rfl⟩
  listening {s} hst hport h := ⟨pulls_invariant.listening hst hport h.1, by
    have hstopped := h.2.phases.notRunning (by rw [hst]; exact StationState.noConfusion)
    exact h.2.restate (by rw [Controller.mayHoldEntries, hst]) (by rw [hst]; rfl) (by rw [hst]; exact StationState.noConfusion)
      (by rw [hst]; exact StationState.noConfusion) StationState.noConfusion rfl rfl (fun hrun => absurd hrun hstopped) rfl rfl rfl⟩
  leaving hst hport h := ⟨pulls_invariant.leaving hst hport h.1,
    State.startLeaving_outboxOk (by rcases hst with hst | hst | hst <;> rw [hst] <;> exact StationState.noConfusion) hport h.2⟩
  dozing hst hport hidle h := ⟨pulls_invariant.dozing hst hport hidle h.1, State.dozing_outboxOk hst hport hidle h.2⟩
  woken c hst h := ⟨pulls_invariant.woken c hst h.1, State.woken_outboxOk c hst h.2⟩
  joined {s} st hst hw h := ⟨pulls_invariant.joined st hst hw h.1, by
    have hnot : st ≠ .leaving := by
      rintro rfl
      cases hw
    refine h.2.restate (by rw [Controller.mayHoldEntries, hst]) (by rw [hst]; rfl) (by rw [hst]; exact StationState.noConfusion)
      (by rw [hst]; exact StationState.noConfusion) hnot rfl rfl (fun hrun => ?_) rfl rfl rfl
    have hphase : (if st = .active then SweepPhase.running else .paused) = .running := hrun
    split at hphase
    next hactive => exact hactive
    next => cases hphase⟩
  isolated {s} hst h := ⟨pulls_invariant.isolated hst h.1, State.quorum_outboxOk (by rw [hst]; rfl) rfl s.out.sweep.pause_outstanding.1
    (fun hrun => absurd hrun s.out.sweep.pause_outstanding.2) h.2⟩
  activated {s} hst h := ⟨pulls_invariant.activated hst h.1, State.quorum_outboxOk (by rw [hst]; rfl) rfl s.out.sweep.resume_outstanding
    (fun _ => rfl) h.2⟩
  sends h := h.1.2.2.2
  holdFrame f bit acked ho h := ⟨pulls_invariant.holdFrame f bit acked ho h.1, h.2.thin (by simpa using thinned_refl _) h.2.phases.change⟩
  beaconTimer ht h := ⟨pulls_invariant.beaconTimer ht h.1, State.beaconTimer_outboxOk ht h.2⟩
  loseBeacon b w hslot h := ⟨pulls_invariant.loseBeacon b w hslot h.1, State.loseBeacon_outboxOk b w hslot h.2⟩

theorem outbox_free : FreeInvariant State.sendOk where
  toInvariant := outbox_invariant
  anyOwner r o h := ⟨pulls_free.anyOwner r o h.1, h.2.same⟩
  anyStamp r st h := ⟨pulls_free.anyStamp r st h.1, h.2.same⟩
  anyMark r c h := ⟨pulls_free.anyMark r c h.1, h.2.same⟩

end Sys2Proof.Machine
end

section
/-! SUPPORT. The ends of CLAIM entries, and every step under the Outbox's invariant. -/

namespace Sys2Proof.Machine

-- One proof at a time: the proofs that wait for each other would hold the memory of the whole text.
set_option Elab.async false

/-- A CLAIM entry of the source. -/
def OutEntry.ofSource : ClaimSource → OutEntry → Bool
  | .host => OutEntry.isHost
  | .sweep => OutEntry.isSweep

theorem OutEntry.ofSource_iff {source : ClaimSource} {e : OutEntry} : e.ofSource source = true ↔ e.body = .claim source := by
  rcases e with ⟨r, _ | (_ | _) | _ | _, sending, doom⟩ <;> cases source <;>
    simp [OutEntry.ofSource, OutEntry.isHost, OutEntry.isSweep]

/-- No CLAIM entry of the source is left. -/
def noClaim (source : ClaimSource) (es : List OutEntry) : Prop := ∀ e ∈ es, e.body ≠ .claim source

theorem noClaim.shaped {source : ClaimSource} {es' es : List OutEntry} (h : noClaim source es) (hshape : Shaped es' es) :
    noClaim source es' := fun e' he' hb => by
  obtain ⟨e, he, -, -, hsame | ⟨u, u', -, hb', -⟩⟩ := hshape.of_mem he'
  · exact h e he (hsame.symm.trans hb)
  · exact absurd (hb'.symm.trans hb) EntryBody.noConfusion

theorem Outbox.boxOk.oneClaim {o : Outbox} (h : o.boxOk) (source : ClaimSource) : o.entries.countP (OutEntry.ofSource source) ≤ 1 := by
  cases source with
  | host => exact h.2.2.1
  | sweep => exact h.2.2.2.1

/-- The one CLAIM entry of its source leaves none. -/
theorem noClaim_of_split {source : ClaimSource} {before after : List OutEntry} {e : OutEntry} (he : e.body = .claim source)
    (h : (before ++ e :: after).countP (OutEntry.ofSource source) ≤ 1) : noClaim source (before ++ after) := fun x hx hb => by
  have hpos : 0 < (before ++ after).countP (OutEntry.ofSource source) := List.countP_pos_iff.2 ⟨x, hx, OutEntry.ofSource_iff.2 hb⟩
  rw [List.countP_append, List.countP_cons, if_pos (OutEntry.ofSource_iff.2 he)] at h
  rw [List.countP_append] at hpos
  omega

theorem OutEntry.Shape.trans {a b c : OutEntry} (h : a.Shape b) (h' : b.Shape c) : a.Shape c := by
  obtain ⟨hregion, hsending, hbody⟩ := h
  obtain ⟨hregion', hsending', hbody'⟩ := h'
  refine ⟨hregion.trans hregion', hsending' ∘ hsending, ?_⟩
  rcases hbody with hsame | ⟨u, v, hu, hv, hseal⟩ <;> rcases hbody' with hsame' | ⟨u', v', hu', hv', hseal'⟩
  · exact .inl (hsame.trans hsame')
  · exact .inr ⟨u', v', hu', hsame.trans hv', hseal'⟩
  · exact .inr ⟨u, v, hsame'.symm.trans hu, hv, hseal⟩
  · obtain rfl := EntryBody.update.inj (hv'.symm.trans hu)
    exact .inr ⟨u', v, hu', hv, hseal ∘ hseal'⟩

theorem Shaped.trans {es₁ es₂ es₃ : List OutEntry} (h : Shaped es₁ es₂) (h' : Shaped es₂ es₃) : Shaped es₁ es₃ :=
  haveI : IsTrans OutEntry OutEntry.Shape := ⟨fun _ _ _ => OutEntry.Shape.trans⟩
  List.SublistForall₂.is_trans.trans _ _ _ h h'

theorem State.turnedAway_shaped (s : State) (r : Region) (es : List OutEntry) : Shaped (s.turnedAway r es) es := by
  rw [State.turnedAway_eq]
  split
  next => exact shaped_map _ (mapUpdate_shape (f := fun u => { u with held := false }) fun _ => id) _
  next => exact (thinned_refl _).shaped

theorem State.applyClaim_shaped (s : State) (c : Station) (r : Region) (stamp : Stamp) :
    Shaped (s.applyClaim c r stamp).out.entries s.out.entries := by
  rw [(s.applyClaim_out c r stamp).1]
  have hkept := (thinned_removalAsked (fun x => x.region == r && ((x.isPull && s.pulled r)
    || (x.isImage && (s.losesTo r c && s.served r)))) s.out.entries).shaped
  split
  next => exact (s.turnedAway_shaped r _).trans hkept
  next => exact hkept

theorem State.noClaim_of_removeSending {s : State} {source : ClaimSource} {e : OutEntry} (h : s.out.boxOk)
    (he : s.sendingEntry = some e) (hb : e.body = .claim source) : noClaim source s.removeSending.out.entries := fun x hx hxb => by
  obtain ⟨hmem, hwait⟩ := List.mem_filter.1 hx
  have hsame := eq_of_countP_le_one (h.oneClaim source) hmem (List.mem_of_find?_eq_some he) (OutEntry.ofSource_iff.2 hxb)
    (OutEntry.ofSource_iff.2 hb)
  rw [hsame, List.find?_some he] at hwait
  cases hwait

/-- A host claim closes where no CLAIM entry of the host is left. -/
theorem State.closeHost_outboxOk {s : State} (hnone : noClaim .host s.out.entries) (h : s.outboxOk) :
    (s.mapOut ({ · with hostClaim := none })).outboxOk :=
  h.thin (thinned_refl _) (h.phases.change (hentries := id) (hsweep := id)) (hreserved := rfl)
    (hhost := fun ⟨e, he, hk⟩ => absurd (OutEntry.ofSource_iff (source := .host).1 hk) (hnone e he)) (hsweep := fun _ => rfl)

/-- The sweep's claim is no longer outstanding where no CLAIM entry of the sweep is left. -/
theorem State.closeSweep_outboxOk {s : State} {w : Sweep} (hnone : noClaim .sweep s.out.entries)
    (hrun : w.phase = .running → s.out.sweep.phase = .running) (h : s.outboxOk) : (s.setSweep w).outboxOk :=
  h.thin (thinned_refl _) (h.phases.change (hentries := id) (hsweep := hrun)) (hreserved := rfl) (hhost := fun _ => rfl)
    (hsweep := fun ⟨e, he, hk⟩ => absurd (OutEntry.ofSource_iff (source := .sweep).1 hk) (hnone e he))

theorem State.claimOver_sendOk {s : State} (r : Region) (source : ClaimSource) (won : Bool) (hnone : noClaim source s.out.entries)
    (h : s.sendOk) : (s.claimOver r source won).sendOk := by
  cases source with
  | host => exact ⟨h.1.change h.1.1, State.closeHost_outboxOk hnone h.2⟩
  | sweep =>
    have hheld : (s.unheldUnless won r).sendOk := by
      cases won with
      | true => exact h
      | false => exact outbox_invariant.dropHeld r h
    have hsame : (s.unheldUnless won r).out = s.out := by cases won <;> rfl
    refine outbox_invariant.sweepWalk ⟨hheld.1.change hheld.1.1, State.closeSweep_outboxOk (by rwa [hsame]) (fun hrun => ?_) hheld.2⟩
    rw [hsame]
    exact (s.out.sweep.pass_keeps r).2 hrun

/-- An entry whose removal was asked for leaves at the end of its attempt, with what it leaves behind (R67). -/
theorem State.departed_outboxOk {s : State} {e : OutEntry} (hnone : ∀ source, e.body = .claim source → noClaim source s.out.entries)
    (h : s.outboxOk) : (s.mapOut (·.without e)).outboxOk := by
  rcases e with ⟨r, u | (_ | _) | _ | _, sending, doom⟩
  · have hfence : Outbox.without s.out ⟨r, .update u, sending, doom⟩
        = { s.out with fence := (Outbox.without s.out ⟨r, .update u, sending, doom⟩).fence } := by
      unfold Outbox.without
      dsimp only
      split <;> rfl
    refine h.thin ?_ (h.phases.change ?_ (hsweep := ?_)) (hreserved := ?_) (hhost := fun _ => ?_) (hsweep := fun _ => ?_) <;>
      rw [State.mapOut_out, hfence]
    · exact thinned_refl _
    · exact id
    · exact id
  · exact State.closeHost_outboxOk (hnone _ rfl) h
  · exact State.closeSweep_outboxOk (hnone _ rfl) id h
  · exact h
  · exact h

/-- Every step keeps the Outbox's invariant. -/
theorem outbox_step : StepInvariant State.sendOk where
  toInvariant := outbox_invariant
  withdraw {s} e source why hnext hslot h := by
    obtain ⟨hb, before, after, hes, herased⟩ := State.nextOffer_withdrawn hnext
    have hone := h.2.box.oneClaim source
    rw [hes] at hone
    refine State.claimOver_sendOk _ _ _ ?_ (outbox_invariant.post _ (outbox_invariant.fewer _ List.eraseP_sublist hslot h))
    show noClaim source (s.out.entries.eraseP _)
    rw [herased]
    exact noClaim_of_split hb hone
  dropDoomed {s} e cut he hslot h := by
    have hgone := outbox_invariant.countCut cut (outbox_invariant.removeSending hslot h)
    refine ⟨hgone.1.change hgone.1.1 (hstate := rfl), State.departed_outboxOk (fun source hb => ?_) hgone.2⟩
    exact State.noClaim_of_removeSending h.2.box he hb
  ownClaimEnd {s} c w ack hslot h := by
    have hdone := outbox_invariant.attemptDone h
    unfold State.ownClaimEnd State.claimDecided
    split
    next r source sending doom he =>
      have hnone : noClaim source s.attemptDone.removeSending.out.entries := State.noClaim_of_removeSending hdone.2.box he rfl
      have hgone : s.attemptDone.removeSending.sendOk := outbox_invariant.removeSending rfl hdone
      split
      next =>
        exact State.claimOver_sendOk _ _ _ (hnone.shaped (State.applyClaim_shaped _ _ _ _))
          (outbox_invariant.post _ (outbox_free.applyClaim _ _ _ hgone))
      next => exact State.claimOver_sendOk _ _ _ hnone (outbox_invariant.post _ hgone)
    next => exact hdone
  claimHeard c bit acked ack _ _ h := outbox_free.claimHeard c acked ack h

end Sys2Proof.Machine
end

section
/-! Every step keeps the limits, the own number in the member set, and the Outbox within its room. -/

namespace Sys2Proof.Machine

-- One proof at a time: the proofs that wait for each other would hold the memory of the whole text.
set_option Elab.async false

/-- Settles O57: the limits and the own number by the effect of each command, the Outbox by the changes of which commands consist. -/
theorem stepKeepsLimitsAndOwnNumber : Obligations.StepKeepsLimitsAndOwnNumber :=
  ⟨fun _ _ h hstep => step_keeps (P := State.limitsOk) (fun s => s.tick_limits) (fun _ _ => id) (fun _ _ _ he => he.keeps_limits) h hstep,
    fun _ _ h hstep => step_keeps (P := State.selfMember) (fun s => s.tick_self) (fun _ _ => id) (fun _ _ _ he => he.keeps_self) h hstep,
    fun _ _ hpulls hout hstep => (outbox_step.step hstep ⟨hpulls, hout⟩).2⟩

end Sys2Proof.Machine
end

section
/-! SUPPORT. The parts of the ownership invariant, and how each is kept by a change of what it reads (R5, R9, R89, R97). -/

namespace Sys2Proof.Machine

-- One proof at a time: the proofs that wait for each other would hold the memory of the whole text.
set_option Elab.async false

/-- A CLAIM entry for the region is being sent. -/
def sendsClaim (es : List OutEntry) (r : Region) : Prop := ∃ e ∈ es, e.isClaim = true ∧ e.sending = true ∧ e.region = r

/-- The CLAIM entries of `es'` are those of `es` in their places, some of them gone. -/
abbrev ClaimsOf (es' es : List OutEntry) : Prop := Shaped (es'.filter OutEntry.isClaim) (es.filter OutEntry.isClaim)

theorem Shaped.claimsOf {es' es : List OutEntry} (h : Shaped es' es) : ClaimsOf es' es := by
  induction h with
  | nil => exact .nil
  | cons hlike _ ih =>
    rw [ClaimsOf, List.filter_cons, List.filter_cons, readsKind_isClaim _ _ hlike]
    split
    next => exact .cons hlike ih
    next => exact ih
  | cons_right _ ih =>
    rw [ClaimsOf, List.filter_cons]
    split
    next => exact .cons_right ih
    next => exact ih

theorem claimsOf_refl (es : List OutEntry) : ClaimsOf es es := (thinned_refl _).shaped

theorem claimsOf_append (es : List OutEntry) {e : OutEntry} (h : e.isClaim = false) : ClaimsOf (es ++ [e]) es := by
  rw [ClaimsOf, List.filter_append, List.filter_singleton, h]
  exact List.append_nil _ ▸ claimsOf_refl es

namespace ClaimsOf

variable {es' es : List OutEntry} (h : ClaimsOf es' es)

include h

theorem of_mem {e' : OutEntry} (he' : e' ∈ es') (hclaim : e'.isClaim = true) : ∃ e ∈ es, e.isClaim = true ∧ e.region = e'.region := by
  obtain ⟨e, he, hshape⟩ := Shaped.of_mem h (List.mem_filter.2 ⟨he', hclaim⟩)
  exact ⟨e, List.mem_of_mem_filter he, (List.mem_filter.1 he).2, hshape.1.symm⟩

theorem nodup (hnodup : ((es.filter OutEntry.isClaim).map (·.region)).Nodup) : ((es'.filter OutEntry.isClaim).map (·.region)).Nodup := by
  have hsub := Shaped.claimed_regions h
  simp only [List.filter_filter, Bool.and_self] at hsub
  exact hsub.nodup hnodup

end ClaimsOf

/-- The region is owned after a change only where it was, with the same copy and owner, at the same epoch. -/
def keepsOwned (s t : State) : Prop := ∀ q : Region, t.owns q = true → s.owns q = true ∧ t.table[q].copy = s.table[q].copy
  ∧ t.table[q].owner = s.table[q].owner ∧ t.table[q].stamp.epoch = s.table[q].stamp.epoch

theorem State.owns_congr {s t : State} {q : Region} (howner : t.table[q].owner = s.table[q].owner)
    (hnumber : t.ctl.number = s.ctl.number := by simp) : t.owns q = s.owns q := by
  rw [State.owns, State.owns, howner, State.own, State.own, hnumber]

/-- A change of the entries' other fields keeps the owned regions. -/
theorem keepsOwned_of_same {s t : State} (hcopy : ∀ q : Region, t.table[q].copy = s.table[q].copy)
    (hstamp : ∀ q : Region, t.table[q].stamp = s.table[q].stamp) (howner : ∀ q : Region, t.table[q].owner = s.table[q].owner)
    (hnumber : t.ctl.number = s.ctl.number) : keepsOwned s t := fun q hq =>
  ⟨State.owns_congr (howner q) hnumber ▸ hq, hcopy q, howner q, by rw [hstamp]⟩

/-- A change of one region that is not owned after it. -/
theorem keepsOwned_of_other {s t : State} {r : Region} (hr : t.owns r = false) (hother : ∀ q : Region, q ≠ r → t.table[q] = s.table[q])
    (hnumber : t.ctl.number = s.ctl.number := by simp) : keepsOwned s t := fun q hq => by
  have hne : q ≠ r := by
    rintro rfl
    rw [hr] at hq
    cases hq
  have hsame := hother q hne
  exact ⟨State.owns_congr (by rw [hsame]) hnumber ▸ hq, by rw [hsame], by rw [hsame], by rw [hsame]⟩

namespace State.ownershipOk

variable {s t : State} (h : s.ownershipOk)

include h

theorem current {r : Region} (hr : s.owns r = true) : s.table[r].copy = .current := (h.1 r hr).1

theorem not_owned {r : Region} (hr : s.table[r].copy ≠ .current) : s.owns r = false :=
  Bool.eq_false_iff.2 fun howns => hr (h.current howns)

/-- The region of a CLAIM being sent is CURRENT at the claim's stamp, and owned by another station or none. -/
theorem sent {c : ClaimFrame} {w : Option Region} (hslot : s.line.slot = some ⟨.claim c, w⟩) : s.table[c.region].copy = .current
    ∧ s.table[c.region].stamp = c.stamp ∧ s.owns c.region = false ∧ sendsClaim s.out.entries c.region := by
  obtain ⟨hcopy, hstamp, e, he, hclaim, hsending, hregion⟩ := h.2.2.2.2.1 c w hslot
  exact ⟨hcopy, hstamp, hregion ▸ h.2.2.1 e he hclaim, e, he, hclaim, hsending, hregion⟩

/-- The invariant through a change of everything, entries leaving or changed in their places. -/
theorem change (howned : keepsOwned s t) (hentries : ClaimsOf t.out.entries s.out.entries)
    (hslot : ∀ c w, t.line.slot = some ⟨.claim c, w⟩ → s.line.slot = some ⟨.claim c, w⟩
      ∧ t.table[c.region].copy = s.table[c.region].copy ∧ t.table[c.region].stamp = s.table[c.region].stamp
      ∧ sendsClaim t.out.entries c.region)
    (hstate : t.ctl.state = .offline → s.ctl.state = .offline := by simp)
    (hrx : t.line.rx = s.line.rx ∨ t.line.rx = none := by simp) (hnumber : t.ctl.number = s.ctl.number := by simp) :
    t.ownershipOk := by
  have hshrinks {q : Region} (hq : s.owns q = false) : t.owns q = false :=
    Bool.eq_false_iff.2 fun howns => by
      rw [(howned q howns).1] at hq
      cases hq
  obtain ⟨hcurrent, hoffline, hclaims, hnodup, -, hheard⟩ := id h
  refine ⟨fun q hq => ?_, fun hoff q => hshrinks (hoffline (hstate hoff) q), fun e' he' hclaim => ?_,
    hentries.nodup hnodup, fun c w hs => ?_, fun f bit acked hf => ?_⟩
  · obtain ⟨hq', hcopy, howner, hepoch⟩ := howned q hq
    obtain ⟨hcopy', o, ho, hoe⟩ := hcurrent q hq'
    exact ⟨hcopy.trans hcopy', o, howner.trans ho, hoe.trans hepoch.symm⟩
  · obtain ⟨e, he, hclaim', hregion⟩ := hentries.of_mem he' hclaim
    exact hregion ▸ hshrinks (hclaims e he hclaim')
  · obtain ⟨hs', hcopy, hstamp, hsends⟩ := hslot c w hs
    obtain ⟨hcopy', hstamp', -⟩ := h.sent hs'
    exact ⟨hcopy.trans hcopy', hstamp.trans hstamp', hsends⟩
  · have hown : t.own = s.own := hnumber
    rw [hown]
    rcases hrx with hrx | hrx <;> rw [hrx] at hf
    · exact hheard f bit acked hf
    · cases hf

/-- The invariant through a change of the regions. -/
theorem retable (howned : keepsOwned s t) (hentries : t.out.entries = s.out.entries)
    (hkept : ∀ q : Region, s.table[q].copy = .current → s.owns q = false → t.table[q].copy = s.table[q].copy
      ∧ t.table[q].stamp = s.table[q].stamp)
    (hslot : t.line.slot = s.line.slot := by simp) (hstate : t.ctl.state = .offline → s.ctl.state = .offline := by simp)
    (hrx : t.line.rx = s.line.rx := by simp) (hnumber : t.ctl.number = s.ctl.number := by simp) : t.ownershipOk := by
  refine h.change howned (hentries ▸ claimsOf_refl _) (fun c w hs => ?_) hstate (.inl hrx) hnumber
  rw [hslot] at hs
  obtain ⟨hcopy, -, hother, hsends⟩ := h.sent hs
  obtain ⟨hcopy', hstamp'⟩ := hkept _ hcopy hother
  exact ⟨hs, hcopy', hstamp', hentries ▸ hsends⟩

/-- The invariant through a change with the transmit slot empty after it. -/
theorem unsent (howned : keepsOwned s t) (hentries : ClaimsOf t.out.entries s.out.entries) (hslot : t.line.slot = none)
    (hstate : t.ctl.state = .offline → s.ctl.state = .offline := by simp)
    (hrx : t.line.rx = s.line.rx ∨ t.line.rx = none := by simp) (hnumber : t.ctl.number = s.ctl.number := by simp) :
    t.ownershipOk :=
  h.change howned hentries (fun c w hs => by rw [hslot] at hs; cases hs) hstate hrx hnumber

/-- The invariant through a change of the Outbox that leaves the entries being sent. -/
theorem rebox (htable : ∀ q : Region, t.table[q].copy = s.table[q].copy ∧ t.table[q].stamp = s.table[q].stamp
      ∧ t.table[q].owner = s.table[q].owner)
    (hentries : ClaimsOf t.out.entries s.out.entries) (hsends : ∀ r, sendsClaim s.out.entries r → sendsClaim t.out.entries r)
    (hslot : t.line.slot = s.line.slot := by simp) (hstate : t.ctl.state = .offline → s.ctl.state = .offline := by simp)
    (hrx : t.line.rx = s.line.rx := by simp) (hnumber : t.ctl.number = s.ctl.number := by simp) : t.ownershipOk := by
  refine h.change (keepsOwned_of_same (fun q => (htable q).1) (fun q => (htable q).2.1) (fun q => (htable q).2.2) hnumber) hentries
    (fun c w hs => ?_) hstate (.inl hrx) hnumber
  rw [hslot] at hs
  exact ⟨hs, (htable _).1, (htable _).2.1, hsends _ (h.sent hs).2.2.2⟩

/-- A CLAIM entry joins for a region that the station neither owns nor claims. -/
theorem claims {r : Region} {e : OutEntry} (hentries : t.out.entries = s.out.entries ++ [e]) (hr : e.region = r)
    (hother : s.owns r = false) (hnone : ∀ x ∈ s.out.entries, x.isClaim = true → x.region ≠ r)
    (htable : t.table = s.table := by rfl) (hctl : t.ctl = s.ctl := by rfl) (hline : t.line = s.line := by rfl) : t.ownershipOk := by
  have howns (q : Region) : t.owns q = s.owns q := State.owns_congr (by rw [htable]) (by rw [hctl])
  obtain ⟨hcurrent, hoffline, hclaims, hnodup, hsent, hheard⟩ := h
  refine ⟨fun q hq => ?_, fun hoff q => ?_, fun x hx hclaim => ?_, ?_, fun c w hs => ?_, fun f bit acked hf => ?_⟩
  · rw [htable]
    exact hcurrent q (howns q ▸ hq)
  · rw [howns]
    exact hoffline (hctl ▸ hoff) q
  · rw [howns]
    rw [hentries] at hx
    rcases List.mem_append.1 hx with hx | hx
    · exact hclaims x hx hclaim
    · rw [List.mem_singleton.1 hx, hr]
      exact hother
  · rw [hentries, List.filter_append, List.map_append, List.nodup_append]
    refine ⟨hnodup, ?_, fun a ha b hb hab => ?_⟩
    · rw [List.filter_singleton]
      cases e.isClaim <;> simp
    · obtain ⟨x, hx, rfl⟩ := List.mem_map.1 ha
      obtain ⟨y, hy, rfl⟩ := List.mem_map.1 hb
      obtain ⟨hxin, hxclaim⟩ := List.mem_filter.1 hx
      rw [List.mem_singleton.1 (List.mem_of_mem_filter hy), hr] at hab
      exact hnone x hxin hxclaim hab
  · rw [hline] at hs
    rw [htable]
    obtain ⟨hcopy, hstamp, x, hx, hrest⟩ := hsent c w hs
    exact ⟨hcopy, hstamp, x, by rw [hentries]; exact List.mem_append_left _ hx, hrest⟩
  · rw [hline] at hf
    show f.origin ≠ t.ctl.number
    rw [hctl]
    exact hheard f bit acked hf

end State.ownershipOk

theorem SameCore.ownershipOk {s t : State} (hs : SameCore s t) (h : s.ownershipOk) : t.ownershipOk := by
  refine h.change (keepsOwned_of_same hs.copy hs.stamp hs.owner hs.number) (hs.entries ▸ claimsOf_refl _) (fun c w hslot => ?_)
    (fun hoff => hs.state ▸ hoff) hs.rx hs.number
  rcases hs.slot with hsame | hnone
  · rw [hsame] at hslot
    exact ⟨hslot, hs.copy _, hs.stamp _, hs.entries ▸ (h.sent hslot).2.2.2⟩
  · rw [hnone] at hslot
    cases hslot

/-! ### Entries being sent -/

theorem sendsClaim_keptEntries {p : OutEntry → Bool} {cut : Bool} {es : List OutEntry} {r : Region} (h : sendsClaim es r) :
    sendsClaim (keptEntries p cut es) r := by
  obtain ⟨e, he, hclaim, hsending, hregion⟩ := h
  have hmark : (e.markedBy p cut).isClaim = true ∧ (e.markedBy p cut).sending = true ∧ (e.markedBy p cut).region = r := by
    rw [readsKind_isClaim _ e (markedBy_like p cut e).shape, (markedBy_like p cut e).1]
    refine ⟨hclaim, ?_, hregion⟩
    unfold OutEntry.markedBy
    split <;> exact hsending
  refine ⟨_, List.mem_map.2 ⟨e, List.mem_filter.2 ⟨he, ?_⟩, rfl⟩, hmark⟩
  simp [goesNow, hsending]

theorem sendsClaim_removalAsked {p : OutEntry → Bool} {es : List OutEntry} {r : Region} (h : sendsClaim es r) :
    sendsClaim (removalAsked p es) r := by
  rw [← keptEntries_eq_removalAsked]
  exact sendsClaim_keptEntries h

/-- A change of UPDATE entries alone leaves the CLAIM being sent. -/
theorem sendsClaim_of_mem {es' es : List OutEntry} {r : Region} (hmem : ∀ e ∈ es, e.isUpdate = false → e ∈ es') (h : sendsClaim es r) :
    sendsClaim es' r := by
  obtain ⟨e, he, hclaim, hrest⟩ := h
  refine ⟨e, hmem e he ?_, hclaim, hrest⟩
  rcases e with ⟨q, _ | _ | _ | _, sending, doom⟩ <;> simp_all [OutEntry.isClaim, OutEntry.isUpdate]

theorem mem_map_mapUpdate {f : UpdateEntry → UpdateEntry} {es : List OutEntry} {e : OutEntry} (he : e ∈ es) (hother : e.isUpdate = false) :
    e ∈ es.map (OutEntry.mapUpdate f) := by
  refine List.mem_map.2 ⟨e, he, ?_⟩
  rcases e with ⟨q, _ | _ | _ | _, sending, doom⟩
  · cases hother
  all_goals rfl

theorem mem_mapYoungest {r : Region} {f : UpdateEntry → UpdateEntry} {es : List OutEntry} {e : OutEntry} (he : e ∈ es)
    (hother : e.isUpdate = false) : e ∈ mapYoungest r f es := by
  induction es with
  | nil => cases he
  | cons x rest ih =>
    rw [mapYoungest]
    split_ifs with hlater hx
    · rcases List.mem_cons.1 he with rfl | he
      · exact List.mem_cons_self
      · exact List.mem_cons_of_mem _ (ih he)
    · rcases List.mem_cons.1 he with rfl | he
      · simp [OutEntry.updates, hother] at hx
      · exact List.mem_cons_of_mem _ he
    · exact he

end Sys2Proof.Machine
end

section
/-! SUPPORT. The ownership invariant through the changes of Outbox, WRITE and serving records. -/

namespace Sys2Proof.Machine

-- One proof at a time: the proofs that wait for each other would hold the memory of the whole text.
set_option Elab.async false

theorem OutEntry.isClaim_iff_body {e : OutEntry} : e.isClaim = true ↔ ∃ source, e.body = .claim source := by
  rcases e with ⟨r, _ | _ | _ | _, sending, doom⟩ <;> simp [OutEntry.isClaim]

/-- A change beside regions, line and Outbox entries. -/
theorem State.ownershipOk.same {s t : State} (h : s.ownershipOk) (htable : t.table = s.table := by simp)
    (hentries : t.out.entries = s.out.entries := by simp) (hslot : t.line.slot = s.line.slot := by simp)
    (hstate : t.ctl.state = .offline → s.ctl.state = .offline := by simp) (hrx : t.line.rx = s.line.rx := by simp)
    (hnumber : t.ctl.number = s.ctl.number := by simp) : t.ownershipOk :=
  h.rebox (fun _ => by rw [htable]; exact ⟨rfl, rfl, rfl⟩) (hentries ▸ claimsOf_refl _) (fun _ => by rw [hentries]; exact id) hslot hstate hrx
    hnumber

/-- No CLAIM entry stands for a region that neither the host nor the sweep claims. -/
theorem Outbox.boxOk.unclaimed {o : Outbox} {r : Region} (h : o.boxOk) (hhost : o.hostClaim ≠ some r)
    (hsweep : ∀ e ∈ o.entries, e.isSweep = true → e.region ≠ r) : ∀ e ∈ o.entries, e.isClaim = true → e.region ≠ r := by
  rintro e he hclaim rfl
  obtain ⟨source, hb⟩ := OutEntry.isClaim_iff_body.1 hclaim
  cases source with
  | host => exact hhost ((h.2.1 e he).1 hb)
  | sweep => exact hsweep e he (by rw [OutEntry.isSweep, hb]) rfl

theorem State.sweepAct_ownershipOk {s : State} (hnone : s.out.sweep.outstanding = none) (hbox : s.out.boxOk) (h : s.ownershipOk) :
    s.sweepAct.1.ownershipOk := by
  have hpassed : (s.setSweep (s.out.sweep.pass s.out.sweep.position)).ownershipOk := h.same rfl rfl rfl id rfl rfl
  have hlost : ((s.setSweep (s.out.sweep.pass s.out.sweep.position)).dropHeld s.out.sweep.position).ownershipOk :=
    (sameCore_flags _ _ (f := ({ · with held := false })) fun _ => ⟨rfl, rfl, rfl⟩).ownershipOk hpassed
  unfold State.sweepAct
  dsimp only
  split_ifs with hpass
  · exact hpassed
  · exact hlost.same
  · exact hlost.same
  · simp only [Bool.or_eq_true, Bool.not_eq_true', beq_iff_eq, not_or, Bool.not_eq_false, Bool.not_eq_true] at hpass
    obtain ⟨⟨-, hother⟩, hhost⟩ := hpass
    refine h.claims (r := s.out.sweep.position) rfl rfl hother (hbox.unclaimed hhost fun e he hsweep => ?_)
    exact absurd hsweep (List.countP_eq_zero.1 (hbox.no_sweep hnone) e he)

theorem State.hostClaim_ownershipOk {s : State} {r : Region} {guardPin : Bool} (hother : s.owns r = false)
    (hcheck : s.claimRefusal r guardPin = none) (hbox : s.out.boxOk) (h : s.ownershipOk) :
    ((s.appendEntry r (.claim .host)).mapOut ({ · with hostClaim := some r })).ownershipOk := by
  obtain ⟨hnone, -, hsweep⟩ := State.claimRefusal_none hcheck
  exact h.claims rfl rfl hother (hbox.unclaimed (by simp [hnone]) hsweep)

/-- An entry that is no CLAIM joins. -/
theorem State.ownershipOk.append {s t : State} {e : OutEntry} (h : s.ownershipOk) (hentries : t.out.entries = s.out.entries ++ [e])
    (hother : e.isClaim = false) (htable : t.table = s.table := by simp) (hslot : t.line.slot = s.line.slot := by simp)
    (hstate : t.ctl.state = .offline → s.ctl.state = .offline := by simp) (hrx : t.line.rx = s.line.rx := by simp)
    (hnumber : t.ctl.number = s.ctl.number := by simp) : t.ownershipOk := by
  refine h.rebox (fun _ => by rw [htable]; exact ⟨rfl, rfl, rfl⟩) (hentries ▸ claimsOf_append _ hother) (fun r hr => ?_) hslot hstate hrx
    hnumber
  obtain ⟨x, hx, hrest⟩ := hr
  exact ⟨x, by rw [hentries]; exact List.mem_append_left _ hx, hrest⟩

theorem State.queuePull_ownershipOk {s : State} (p : PullRecord) (h : s.ownershipOk) : (s.queuePull p).ownershipOk := by
  unfold State.queuePull
  split
  next => exact h.append rfl rfl
  next => exact h

/-! ### The entry that goes out -/

theorem pickEntry_find {es : List OutEntry} {e : OutEntry} (h : pickEntry es = some e) :
    es.find? (fun x => x.offerable && x.priority == e.priority) = some e := by
  unfold pickEntry at h
  obtain ⟨p, -, hfind⟩ := List.exists_of_findSome?_eq_some h
  have hp := List.find?_some hfind
  rw [Bool.and_eq_true, beq_iff_eq] at hp
  rw [hp.2]
  exact hfind

/-- An entry that goes out is the one picked; a CLAIM among them is not withdrawn (R89). -/
theorem State.nextOffer_entry {s : State} {e : OutEntry} (h : s.nextOffer = .entry e) : pickEntry s.out.entries = some e
    ∧ (e.isClaim = true → s.withdrawReason e.region = none) := by
  unfold State.nextOffer at h
  split at h
  next => cases h
  next =>
    split at h
    next =>
      split at h
      next => cases h
      next x hpick =>
        unfold State.offerOf at h
        split at h
        next =>
          split at h
          next => cases h
          next hreason =>
            cases h
            exact ⟨hpick, fun _ => hreason⟩
        all_goals
          next hb =>
            cases h
            exact ⟨hpick, fun hclaim => by rw [OutEntry.isClaim, hb] at hclaim; cases hclaim⟩
    next => cases h

theorem mapFirst_of_find {p : OutEntry → Bool} (f : OutEntry → OutEntry) {es : List OutEntry} {e : OutEntry} (h : es.find? p = some e) :
    ∃ before after, es = before ++ e :: after ∧ mapFirst p f es = before ++ f e :: after := by
  obtain ⟨hp, before, after, rfl, hbefore⟩ := List.find?_eq_some_iff_append.1 h
  exact ⟨before, after, rfl, mapFirst_of_split f (fun x hx => by simpa using hbefore x hx) hp⟩

/-- A CLAIM goes out with the stamp of its CURRENT copy (R89, R97). -/
theorem State.sendEntry_ownershipOk {s : State} {e : OutEntry} (hnext : s.nextOffer = .entry e) (h : s.ownershipOk) :
    (s.sendEntry e).ownershipOk := by
  obtain ⟨hpick, hreason⟩ := State.nextOffer_entry hnext
  obtain ⟨before, after, hes, hmap⟩ := mapFirst_of_find s.startSending (pickEntry_find hpick)
  have hentries : (s.sendEntry e).out.entries = before ++ s.startSending e :: after := hmap
  obtain ⟨hregion, -, -, -, -, hclaim, -⟩ := s.startSending_kind e
  obtain ⟨hcurrent, hoffline, hclaims, hnodup, -, hheard⟩ := h
  refine ⟨hcurrent, hoffline, fun x hx hxclaim => ?_, ?_, fun c w hslot => ?_, hheard⟩
  · show s.owns x.region = false
    rw [hentries] at hx
    by_cases hxe : x = s.startSending e
    · rw [hxe, hregion]
      exact hclaims e (by rw [hes]; simp) (by rw [← hclaim, ← hxe]; exact hxclaim)
    · refine hclaims x ?_ hxclaim
      rw [hes]
      simp only [List.mem_append, List.mem_cons] at hx ⊢
      tauto
  · rw [hentries, List.filter_append, List.filter_cons, hclaim]
    rw [hes, List.filter_append, List.filter_cons] at hnodup
    split at hnodup
    next hc => rwa [if_pos hc, List.map_append, List.map_cons, hregion, ← List.map_cons, ← List.map_append]
    next hc => rwa [if_neg hc]
  · have hframe : s.frameOf e = .claim c := congrArg TxSlot.frame (Option.some.inj hslot)
    have hkind : e.isClaim = true ∧ c = ⟨s.own, e.region, s.table[e.region].stamp⟩ := by
      unfold State.frameOf at hframe
      split at hframe
      case h_2 source hb => exact ⟨OutEntry.isClaim_iff_body.2 ⟨source, hb⟩, (Frame.claim.inj hframe).symm⟩
      all_goals cases hframe
    obtain ⟨hisClaim, rfl⟩ := hkind
    refine ⟨?_, rfl, s.startSending e, by rw [hentries]; simp, hclaim.trans hisClaim, ?_, hregion⟩
    · have hnone := hreason hisClaim
      unfold State.withdrawReason at hnone
      dsimp only at hnone
      split_ifs at hnone with hbad
      exact not_not.1 fun hcopy => hbad (.inl hcopy)
    · obtain ⟨source, hb⟩ := OutEntry.isClaim_iff_body.1 hisClaim
      rw [State.startSending, hb]

/-! ### WRITE -/

theorem State.releaseHold_claims (s : State) : ClaimsOf s.releaseHold.out.entries s.out.entries
    ∧ ∀ r, sendsClaim s.out.entries r → sendsClaim s.releaseHold.out.entries r :=
  ⟨s.releaseHold_shaped.claimsOf, fun _ => sendsClaim_of_mem fun _ => mem_map_mapUpdate⟩

theorem State.takeWrite_ownershipOk {s : State} (w : WriteWork) (h : s.ownershipOk) :
    ((s.takeRoom w.region).work (.write w)).ownershipOk := by
  unfold State.takeRoom
  split
  next => exact h.same rfl rfl rfl id rfl rfl
  next =>
    refine h.rebox (fun _ => ⟨rfl, rfl, rfl⟩) (Shaped.claimsOf ?_) (fun _ => sendsClaim_of_mem fun _ => mem_mapYoungest) rfl id rfl rfl
    exact mapYoungest_shaped _ (f := fun u => { u with held := true }) (fun _ => id) _

theorem State.abandonWrite_ownershipOk {s : State} (r : Region) (h : s.ownershipOk) : (s.abandonWrite r).ownershipOk := by
  rw [State.abandonWrite_eq]
  split
  next => exact h.rebox (fun _ => ⟨rfl, rfl, rfl⟩) s.releaseHold_claims.1 s.releaseHold_claims.2 rfl id rfl rfl
  next => exact h

theorem State.restartServing_sends (s : State) (r q : Region) (h : sendsClaim s.out.entries q) :
    sendsClaim (s.restartServing r).out.entries q := by
  cases hv : s.servingOf r with
  | none => rwa [State.restartServing, hv]
  | some v =>
    obtain ⟨hout, -⟩ := State.restartServing_of_record hv
    rw [hout]
    exact sendsClaim_removalAsked h

theorem State.queueWrite_claims (s : State) (w : WriteWork) (e : RegionEntry) : ClaimsOf (s.queueWrite w e).out.entries s.out.entries
    ∧ ∀ r, sendsClaim s.out.entries r → sendsClaim (s.queueWrite w e).out.entries r := by
  unfold State.queueWrite
  split
  next => exact ⟨claimsOf_refl _, fun _ => id⟩
  next =>
    show ClaimsOf (Outbox.afterWrite _ _ _ _ _) _ ∧ ∀ r, _ → sendsClaim (Outbox.afterWrite _ _ _ _ _) r
    unfold Outbox.afterWrite
    split
    next =>
      exact ⟨(mapYoungest_shaped _ (f := fun u => { u with data := w.data, result := (nextVersion e.stamp).version }) (fun _ => id)
        _).claimsOf, fun _ => sendsClaim_of_mem fun _ => mem_mapYoungest⟩
    next => exact ⟨claimsOf_append _ rfl, fun r ⟨x, hx, hrest⟩ => ⟨x, List.mem_append_left _ hx, hrest⟩⟩

theorem State.concludeWrite_claims (s : State) (w : WriteWork) : ClaimsOf (s.concludeWrite w).out.entries s.out.entries
    ∧ ∀ r, sendsClaim s.out.entries r → sendsClaim (s.concludeWrite w).out.entries r := by
  unfold State.concludeWrite
  split
  next =>
    let u := s.mapEntry w.region ({ · with stamp := nextVersion s.table[w.region].stamp })
    obtain ⟨hqueued, hsends⟩ := u.queueWrite_claims w s.table[w.region]
    obtain ⟨hreleased, hsends'⟩ := (u.queueWrite w s.table[w.region]).releaseHold_claims
    have hrestarted := ((u.queueWrite w s.table[w.region]).releaseHold.restartServing_shaped w.region).1.claimsOf
    exact ⟨hrestarted.trans (hreleased.trans hqueued), fun r hr => State.restartServing_sends _ _ _ (hsends' r (hsends r hr))⟩
  next => exact s.releaseHold_claims

/-- A WRITE raises the version of a region that is owned, and leaves its epoch (R63). -/
theorem State.concludeWrite_ownershipOk {s : State} (w : WriteWork) (h : s.ownershipOk) : (s.concludeWrite w).ownershipOk := by
  obtain ⟨hclaims, hsends⟩ := s.concludeWrite_claims w
  refine h.change (fun q hq => ?_) hclaims (fun c x hslot => ?_)
  · obtain ⟨hold, hread⟩ := s.concludeWrite_read w q
    have howner : (s.concludeWrite w).table[q].owner = s.table[q].owner := by rw [hread]
    refine ⟨State.owns_congr howner ▸ hq, by rw [hread], howner, ?_⟩
    rw [hread]
    dsimp only
    split
    next => rw [nextVersion_eq]
    next => rfl
  · have hslot' : s.line.slot = some ⟨.claim c, x⟩ := by simpa using hslot
    obtain ⟨-, -, hother, hsent⟩ := h.sent hslot'
    obtain ⟨hold, hread⟩ := s.concludeWrite_read w c.region
    rw [hread]
    refine ⟨hslot', rfl, ?_, hsends _ hsent⟩
    rw [if_neg fun howns => ?_]
    rw [← howns.2, hother] at howns
    cases howns.1

/-! ### Serving records -/

theorem State.chunkRead_ownershipOk {s : State} (r : Region) (k : Chunk) (stamp : Stamp) (live : Bool) (h : s.ownershipOk) :
    (s.chunkRead r k stamp live).ownershipOk := by
  unfold State.chunkRead
  split
  next =>
    split_ifs
    · exact h.same
    · exact h.same
    · exact h.append rfl rfl
  next => exact h.same

theorem State.endServing_ownershipOk {s : State} (r : Region) (h : s.ownershipOk) : (s.endServing r).ownershipOk := by
  have hout := s.endServing_out r
  refine h.rebox (fun q => ?_) ?_ (fun q hq => ?_)
  · rw [s.endServing_table]
    exact ⟨rfl, rfl, rfl⟩
  · rw [hout]
    exact (thinned_removalAsked _ _).shaped.claimsOf
  · rw [hout]
    exact sendsClaim_removalAsked hq

end Sys2Proof.Machine
end

section
/-! SUPPORT. The ownership invariant through pulls, marks, station states and resets. -/

namespace Sys2Proof.Machine

-- One proof at a time: the proofs that wait for each other would hold the memory of the whole text.
set_option Elab.async false

theorem State.fetching_of_pulled {s : State} {r : Region} (h : s.pullsOk) (hr : ∃ p ∈ s.catchup.pulls, p.region = r) :
    s.table[r].copy.isFetching = true := by
  obtain ⟨p, hp, rfl⟩ := hr
  rw [h.1 p.region, List.any_eq_true]
  exact ⟨p, hp, beq_self_eq_true _⟩

theorem CopyState.not_current_of_fetching {c : CopyState} (h : c.isFetching = true) : c ≠ .current := by
  rintro rfl
  cases h

/-- The copy of a region that is not CURRENT changes, and its owner stays. -/
theorem State.ownershipOk.reregion {s t : State} {r : Region} (h : s.ownershipOk) (hr : s.table[r].copy ≠ .current)
    (howner : t.table[r].owner = s.table[r].owner) (hother : ∀ q : Region, q ≠ r → t.table[q] = s.table[q])
    (hentries : ClaimsOf t.out.entries s.out.entries := by exact claimsOf_refl _)
    (hsends : ∀ q, sendsClaim s.out.entries q → sendsClaim t.out.entries q := by exact fun _ => id)
    (hslot : t.line.slot = s.line.slot := by simp) (hstate : t.ctl.state = .offline → s.ctl.state = .offline := by simp)
    (hrx : t.line.rx = s.line.rx := by simp) (hnumber : t.ctl.number = s.ctl.number := by simp) : t.ownershipOk := by
  have hnot : t.owns r = false := (State.owns_congr howner hnumber).trans (h.not_owned hr)
  refine h.change (keepsOwned_of_other hnot hother hnumber) hentries (fun c w hs => ?_) hstate (.inl hrx) hnumber
  rw [hslot] at hs
  obtain ⟨hcurrent, -, -, hsent⟩ := h.sent hs
  rw [hother c.region fun heq => hr (heq ▸ hcurrent)]
  exact ⟨hs, rfl, rfl, hsends _ hsent⟩

theorem State.closePull_ownershipOk {s : State} (r : Region) (park : Bool) (hpulls : s.pullsOk) (h : s.ownershipOk) :
    (s.closePull r park).ownershipOk := by
  cases hp : s.pullOf r with
  | none => rwa [State.closePull, hp]
  | some p =>
    have hfetching := State.fetching_of_pulled hpulls ⟨p, List.mem_of_find?_eq_some hp, by simpa using List.find?_some hp⟩
    have hout := s.closePull_out r park
    refine h.reregion (CopyState.not_current_of_fetching hfetching) ?_ (fun q hq => s.closePull_table_other park hq) ?_ (fun q hq => ?_)
    · rw [s.closePull_table park hp, if_pos rfl]
    · rw [hout]
      exact (thinned_removalAsked _ _).shaped.claimsOf
    · rw [hout]
      exact sendsClaim_removalAsked hq

/-- A pull opens for a STALE region (R113). -/
theorem State.stale_of_nextPull {s : State} {r : Region} {n : Station} {k : Cause} (h : s.nextPull = some (r, n, k)) :
    s.table[r].copy = .stale k := by
  unfold State.nextPull at h
  split at h
  next =>
    obtain ⟨q, -, hfor⟩ := Option.bind_eq_some_iff.1 h
    unfold State.pullFor at hfor
    split at hfor
    next c o hcopy _ =>
      cases hfor
      exact hcopy
    next => cases hfor
  next => cases h

theorem State.opening_ownershipOk {s : State} {r : Region} {n : Station} {k : Cause} (hnext : s.nextPull = some (r, n, k))
    (h : s.ownershipOk) : (s.opening r n k).ownershipOk := by
  refine h.reregion (by rw [State.stale_of_nextPull hnext]; exact CopyState.noConfusion) ?_ (fun q hq => s.opening_table_other n k hq)
    (hslot := rfl) (hstate := id) (hrx := rfl) (hnumber := rfl)
  rw [s.opening_table]

theorem State.endPull_ownershipOk {s : State} {r : Region} (g : RegionEntry → Stamp) (hpulls : s.pullsOk)
    (hp : ∃ p ∈ s.catchup.pulls, p.region = r) (h : s.ownershipOk) :
    ((s.mapEntry r fun e => { e with stamp := g e, copy := .current }).dropPull r).ownershipOk := by
  refine h.reregion (CopyState.not_current_of_fetching (State.fetching_of_pulled hpulls hp)) ?_ (fun q hq => ?_)
  · rw [State.dropPull_table, State.mapEntry_read, if_pos rfl]
  · rw [State.dropPull_table, State.mapEntry_read, if_neg hq]

/-- A change of a region that another station owns, or none, with the transmit slot empty. -/
theorem State.ownershipOk.elsewhere {s t : State} {r : Region} (h : s.ownershipOk) (hr : t.owns r = false) (hslot : t.line.slot = none)
    (hother : ∀ q : Region, q ≠ r → t.table[q] = s.table[q]) (hentries : t.out.entries = s.out.entries := by simp)
    (hstate : t.ctl.state = .offline → s.ctl.state = .offline := by simp) (hrx : t.line.rx = s.line.rx := by simp)
    (hnumber : t.ctl.number = s.ctl.number := by simp) : t.ownershipOk :=
  h.unsent (keepsOwned_of_other hr hother hnumber) (hentries ▸ claimsOf_refl _) hslot hstate (.inl hrx) hnumber

theorem State.markStale_ownershipOk {s : State} (r : Region) (c : Cause) (hslot : s.line.slot = none) (hother : s.owns r = false)
    (h : s.ownershipOk) : (s.markStale r c).ownershipOk := by
  refine h.elsewhere (r := r) ?_ (by simpa using hslot) (fun q hq => by rw [s.markStale_table, if_neg hq])
  rw [← hother]
  exact State.owns_congr (by rw [s.markStale_table, if_pos rfl])

theorem State.takeStamp_ownershipOk {s : State} (r : Region) (stamp : Stamp) (hslot : s.line.slot = none) (hother : s.owns r = false)
    (h : s.ownershipOk) : (s.mapEntry r ({ · with stamp := stamp })).ownershipOk := by
  refine h.elsewhere (r := r) ?_ hslot (fun q hq => by rw [State.mapEntry_read, if_neg hq])
  rw [← hother]
  exact State.owns_congr (by rw [State.mapEntry_read, if_pos rfl])

theorem State.setOwner_owns {s : State} (r : Region) {o : Option Owner} (ho : s.isSelf o = false) :
    (s.mapEntry r ({ · with owner := o })).owns r = false := by
  rw [← State.isSelf_owner, State.mapEntry_read, if_pos rfl]
  exact ho

theorem State.setOwner_ownershipOk {s : State} (r : Region) (o : Option Owner) (ho : s.isSelf o = false) (h : s.ownershipOk) :
    (s.mapEntry r ({ · with owner := o })).ownershipOk := by
  refine h.retable (keepsOwned_of_other (State.setOwner_owns r ho) fun q hq => by rw [State.mapEntry_read, if_neg hq]) rfl
    fun q _ _ => ?_
  rw [State.mapEntry_read]
  split
  next hq => rw [hq]; exact ⟨rfl, rfl⟩
  next => exact ⟨rfl, rfl⟩

theorem State.formatNext_table (s : State) (r : Region) (k : Chunk) :
    (s.formatNext r k).table = if k = 15 then (s.formatRegionDone r).table else s.table := by
  unfold State.formatNext
  by_cases hk : k = 15
  · rw [if_pos hk, if_pos hk]
    by_cases hr : r = 63
    · rw [if_pos hr, State.answer_table]
    · rw [if_neg hr, State.work_table]
  · rw [if_neg hk, if_neg hk, State.work_table]

theorem State.formatRegionDone_owner (s : State) (r q : Region) : (s.formatRegionDone r).table[q].owner = s.table[q].owner := by
  unfold State.formatRegionDone
  rw [State.setIntent_table, State.mapEntry_read]
  split
  next hq => rw [hq]; rfl
  next => rfl

theorem State.formatNext_owner (s : State) (r q : Region) (k : Chunk) : (s.formatNext r k).table[q].owner = s.table[q].owner := by
  have htable := s.formatNext_table r k
  by_cases hk : k = 15
  · rw [if_pos hk] at htable
    rw [htable]
    exact s.formatRegionDone_owner r q
  · rw [if_neg hk] at htable
    rw [htable]

theorem State.formatStep_owner (s : State) (r q : Region) (k : Chunk) : (s.formatStep r k).table[q].owner = s.table[q].owner := by
  unfold State.formatStep
  rw [State.formatNext_owner, State.endOp_table, State.writeArray_table]

theorem State.formatStep_ownershipOk {s : State} (r : Region) (k : Chunk) (hoff : s.ctl.state = .offline) (hslot : s.line.slot = none)
    (h : s.ownershipOk) : (s.formatStep r k).ownershipOk := by
  refine h.unsent (fun q hq => ?_) (by simpa using claimsOf_refl _) (by simpa using hslot)
  rw [State.owns_congr (s.formatStep_owner r q k), h.2.1 hoff q] at hq
  cases hq

/-! ### Station states and resets -/

/-- No region is owned, nothing is sent and nothing received. -/
theorem State.ownershipOk_of_none {t : State} (hnone : ∀ r : Region, t.owns r = false) (hentries : t.out.entries = [])
    (hslot : t.line.slot = none) (hrx : t.line.rx = none) : t.ownershipOk := by
  refine ⟨fun r hr => ?_, fun _ => hnone, fun e he => ?_, ?_, fun c w hs => ?_, fun f bit acked hf => ?_⟩
  · rw [hnone] at hr
    cases hr
  · rw [hentries] at he
    cases he
  · rw [hentries]
    exact List.nodup_nil
  · rw [hslot] at hs
    cases hs
  · rw [hrx] at hf
    cases hf

/-- Entry to HALTED leaves owned what it does not clear (R167). -/
theorem State.halt_keepsOwned (s : State) (c : HaltCause) (h : s.ownershipOk) : keepsOwned s (s.halt c) := fun q hq => by
  obtain ⟨-, hregions, -⟩ := s.halt_from c
  obtain ⟨hstamp, -, -, -, hcopy, hgone, hkept⟩ := hregions q
  by_cases hcleared : ∃ e ∈ s.applyQ.drop (if s.arb.op = some .apply then 1 else 0), e.region = q
  · cases howns : s.owns q with
    | true =>
      have hnone := (hgone hcleared howns).1
      rw [State.owns, hnone] at hq
      cases hq
    | false =>
      rw [State.owns_congr (hkept (.inr howns)).1, howns] at hq
      cases hq
  · have howner := (hkept (.inl hcleared)).1
    have howns : s.owns q = true := State.owns_congr howner ▸ hq
    refine ⟨howns, hcopy hcleared fun k hk => ?_, howner, by rw [hstamp]⟩
    have hcurrent := h.current howns
    rw [hk] at hcurrent
    cases hcurrent

theorem State.halt_ownershipOk {s : State} (c : HaltCause) (h : s.ownershipOk) : (s.halt c).ownershipOk := by
  obtain ⟨hstate, hslot, hrx, -, -, -, -, -, hentries, -⟩ := s.halt_clear c
  refine h.unsent (s.halt_keepsOwned c h) ?_ hslot (fun hoff => ?_) (.inr hrx)
  · rw [hentries]
    exact .nil
  · rw [hstate] at hoff
    cases hoff

theorem State.goOffline_ownershipOk {s : State} (hentries : s.out.entries = []) : s.goOffline.ownershipOk := by
  refine State.ownershipOk_of_none (fun r => ?_) ?_ ?_ ?_ <;> rw [s.goOffline_eq]
  · simp [State.owns]
  · exact hentries

theorem State.clearWorking_ownershipOk (s : State) (p : Power) : (s.clearWorking p).ownershipOk :=
  State.ownershipOk_of_none (fun r => by simp [State.owns, State.clearWorking, Retained.table, NvRegion.working]) rfl rfl rfl

theorem State.recover_ownershipOk (s : State) (c : ResetCause) (straps : Straps) : (s.recover c straps).ownershipOk :=
  State.ownershipOk_of_none (fun r => by simp [State.owns, State.recover, Retained.table, NvRegion.working]) rfl rfl rfl

/-- LEAVE closes the pulls: their copies were FETCHING (R163). -/
theorem State.startLeaving_ownershipOk {s : State} (h : s.ownershipOk) : s.startLeaving.ownershipOk := by
  have hentries : s.startLeaving.out.entries = s.leavingEnded.out.entries := by rw [s.startLeaving_eq]
  have hread (q : Region) : s.startLeaving.table[q] = s.leavingEnded.table[q] := by rw [s.startLeaving_eq]
  have hcurrent {q : Region} (hq : s.table[q].copy = .current) : s.startLeaving.table[q].copy = s.table[q].copy := by
    rw [hread, s.leavingEnded_table, hq]
  have howner (q : Region) : s.startLeaving.table[q].owner = s.table[q].owner := by rw [hread, s.leavingEnded_table]
  have hstamp (q : Region) : s.startLeaving.table[q].stamp = s.table[q].stamp := by rw [hread, s.leavingEnded_table]
  refine h.change (fun q hq => ?_) ?_ (fun c w hslot => ?_) (fun hoff => ?_) (.inl (by simp))
  · have howns : s.owns q = true := State.owns_congr (howner q) ▸ hq
    exact ⟨howns, hcurrent (h.current howns), howner q, by rw [hstamp]⟩
  · rw [hentries, s.leavingEnded_entries]
    exact (thinned_removalAsked _ _).shaped.claimsOf
  · have hslot' : s.line.slot = some ⟨.claim c, w⟩ := by simpa using hslot
    obtain ⟨hcopy, -, -, hsent⟩ := h.sent hslot'
    refine ⟨hslot', hcurrent hcopy, hstamp _, ?_⟩
    rw [hentries, s.leavingEnded_entries]
    exact sendsClaim_removalAsked hsent
  · rw [s.startLeaving_eq] at hoff
    have hctl : s.leavingEnded.ctl.state = .offline := hoff
    rw [s.leavingEnded_rest.2.2.2] at hctl
    cases hctl

theorem State.holdFrame_ownershipOk {s : State} {f : Frame} (bit acked : Bool) (ho : f.origin ≠ s.own) (h : s.ownershipOk) :
    (s.holdFrame f bit acked).ownershipOk := by
  obtain ⟨hcurrent, hoffline, hclaims, hnodup, hsent, -⟩ := h
  refine ⟨hcurrent, hoffline, hclaims, hnodup, hsent, fun g b a hg => ?_⟩
  have hheld : (⟨f, bit, acked⟩ : RxFrame) = ⟨g, b, a⟩ := Option.some.inj hg
  have hsame : f = g := congrArg RxFrame.frame hheld
  rw [← hsame]
  exact ho

end Sys2Proof.Machine
end

section
/-! SUPPORT. Every change of which commands consist keeps the ownership invariant (R5, R9, R89, R97). -/

namespace Sys2Proof.Machine

-- One proof at a time: the proofs that wait for each other would hold the memory of the whole text.
set_option Elab.async false

/-- Ownership beside pulls and Outbox. -/
def State.ownOk (s : State) : Prop := s.sendOk ∧ s.ownershipOk

theorem State.not_offline_of_onLine {s : State} (h : s.ctl.state.onLine = true) : s.ctl.state ≠ .offline := fun hoff => by
  rw [hoff] at h
  cases h

/-- With the station off the line the slot is empty (Table 2-1). -/
theorem State.pullsOk.noSlot {s : State} (h : s.pullsOk) (hst : s.ctl.state = .offline) : s.line.slot = none := by
  by_contra hne
  exact State.not_offline_of_onLine (h.2.2.2 hne) hst

/-- The changes of which commands consist keep the ownership invariant. -/
theorem own_invariant : Invariant State.ownOk where
  core hs h := ⟨outbox_invariant.core hs h.1, hs.ownershipOk h.2⟩
  port f hf h := ⟨outbox_invariant.port f hf h.1, h.2.same⟩
  discard {s} p cut h := ⟨outbox_invariant.discard p cut h.1, h.2.rebox (fun q => by rw [State.discardEntries_table]; exact ⟨rfl, rfl, rfl⟩)
    (by rw [State.discardEntries_entries]; exact (thinned_keptEntries p cut _).shaped.claimsOf)
    (fun r hr => by rw [State.discardEntries_entries]; exact sendsClaim_keptEntries hr)⟩
  fewer es hes hslot h := ⟨outbox_invariant.fewer es hes hslot h.1,
    h.2.unsent (fun q hq => ⟨hq, rfl, rfl, rfl⟩) (thinned_of_sublist hes).shaped.claimsOf hslot⟩
  putBack f hf hslot h := ⟨outbox_invariant.putBack f hf hslot h.1,
    h.2.unsent (fun q hq => ⟨hq, rfl, rfl, rfl⟩) (thinned_putsBack hf _).shaped.claimsOf hslot⟩
  sweepAct hrun hnone h := ⟨outbox_invariant.sweepAct hrun hnone h.1, State.sweepAct_ownershipOk hnone h.1.2.box h.2⟩
  hostClaim r g hst howns hcheck h := ⟨outbox_invariant.hostClaim r g hst howns hcheck h.1,
    State.hostClaim_ownershipOk howns hcheck h.1.2.box h.2⟩
  queuePull p hne h := ⟨outbox_invariant.queuePull p hne h.1, State.queuePull_ownershipOk p h.2⟩
  sendBeacon {s} hnext h := ⟨outbox_invariant.sendBeacon hnext h.1,
    h.2.change (fun q hq => ⟨hq, rfl, rfl, rfl⟩) (claimsOf_refl _) (fun c w hs => nomatch hs)⟩
  sendEntry e hnext hslot h := ⟨outbox_invariant.sendEntry e hnext hslot h.1, State.sendEntry_ownershipOk hnext h.2⟩
  openFence hport h := ⟨outbox_invariant.openFence hport h.1, h.2.rebox (fun _ => ⟨rfl, rfl, rfl⟩)
    (shaped_map _ (mapUpdate_shape (f := fun u => { u with sealed := true, inFence := true }) fun _ _ => rfl) _).claimsOf
    fun _ => sendsClaim_of_mem fun _ => mem_map_mapUpdate⟩
  drainEnd {s} h := ⟨outbox_invariant.drainEnd h.1, h.2.same⟩
  takeWrite w g hport hcheck h := ⟨outbox_invariant.takeWrite w g hport hcheck h.1, State.takeWrite_ownershipOk w h.2⟩
  abandon r h := ⟨outbox_invariant.abandon r h.1, State.abandonWrite_ownershipOk r h.2⟩
  conclude w hport h := ⟨outbox_invariant.conclude w hport h.1, State.concludeWrite_ownershipOk w h.2⟩
  chunkRead r k st live hop h := ⟨outbox_invariant.chunkRead r k st live hop h.1, State.chunkRead_ownershipOk r k st live h.2⟩
  putServing v w hv hr hread h := ⟨outbox_invariant.putServing v w hv hr hread h.1, h.2.same⟩
  requestRead r h := ⟨outbox_invariant.requestRead r h.1, h.2.same⟩
  grantImage v hv h := ⟨outbox_invariant.grantImage v hv h.1, h.2.same⟩
  serve r q hst h := ⟨outbox_invariant.serve r q hst h.1, h.2.same⟩
  endServing r h := ⟨outbox_invariant.endServing r h.1, State.endServing_ownershipOk r h.2⟩
  closePull r park h := ⟨outbox_invariant.closePull r park h.1, State.closePull_ownershipOk r park h.1.1 h.2⟩
  opening r n k hnext h := ⟨outbox_invariant.opening r n k hnext h.1, State.opening_ownershipOk hnext h.2⟩
  endPull r g hp h := ⟨outbox_invariant.endPull r g hp h.1, State.endPull_ownershipOk g h.1.1 hp h.2⟩
  unpark r h := ⟨outbox_invariant.unpark r h.1, h.2.same⟩
  markStale r c hslot howns h := ⟨outbox_invariant.markStale r c hslot howns h.1, State.markStale_ownershipOk r c hslot howns h.2⟩
  setOwner r o ho h := ⟨outbox_invariant.setOwner r o ho h.1, State.setOwner_ownershipOk r o ho h.2⟩
  takeStamp r st hslot howns h := ⟨outbox_invariant.takeStamp r st hslot howns h.1, State.takeStamp_ownershipOk r st hslot howns h.2⟩
  startFormat hoff h := ⟨outbox_invariant.startFormat hoff h.1, h.2.same⟩
  formatStep {s} r k hport h := by
    have hoff := h.1.1.2.2.1 r k hport
    exact ⟨outbox_invariant.formatStep r k hport h.1, State.formatStep_ownershipOk r k hoff (h.1.1.noSlot hoff) h.2⟩
  halt c hst h := ⟨outbox_invariant.halt c hst h.1, State.halt_ownershipOk c h.2⟩
  goOffline {s} hst hphase h := ⟨outbox_invariant.goOffline hst hphase h.1,
    State.goOffline_ownershipOk (h.1.2.phases.noEntries (by rw [Controller.mayHoldEntries, hst, hphase]; rfl))⟩
  leavingSent {s} b w ack hslot hm hst h := by
    obtain ⟨-, hphase⟩ := h.1.2.phases.2.2.2.2.1 b w hslot hm
    have hentries := h.1.2.phases.noEntries (by rw [Controller.mayHoldEntries, hst, hphase]; rfl)
    exact ⟨outbox_invariant.leavingSent b w ack hslot hm hst h.1, State.goOffline_ownershipOk hentries⟩
  cleared s p := ⟨outbox_invariant.cleared s p, s.clearWorking_ownershipOk p⟩
  recovered s c straps := ⟨outbox_invariant.recovered s c straps, s.recover_ownershipOk c straps⟩
  listening hst hport h := ⟨outbox_invariant.listening hst hport h.1, h.2.same rfl rfl rfl (fun hoff => nomatch hoff) rfl rfl⟩
  leaving hst hport h := ⟨outbox_invariant.leaving hst hport h.1, State.startLeaving_ownershipOk h.2⟩
  dozing hst hport hidle h := ⟨outbox_invariant.dozing hst hport hidle h.1, h.2.same rfl rfl rfl (fun hoff => nomatch hoff) rfl rfl⟩
  woken {s} c hst h := ⟨outbox_invariant.woken c hst h.1, h.2.same rfl rfl rfl (fun hoff => by
    unfold State.woken at hoff
    dsimp only at hoff
    split at hoff <;> cases hoff) rfl rfl⟩
  joined st hst hw h := ⟨outbox_invariant.joined st hst hw h.1, h.2.same rfl rfl rfl (fun hoff => by
    have hstate : st = .offline := hoff
    rw [hstate] at hw
    cases hw) rfl rfl⟩
  isolated hst h := ⟨outbox_invariant.isolated hst h.1, h.2.same rfl rfl rfl (fun hoff => nomatch hoff) rfl rfl⟩
  activated hst h := ⟨outbox_invariant.activated hst h.1, h.2.same rfl rfl rfl (fun hoff => nomatch hoff) rfl rfl⟩
  sends h := h.1.1.2.2.2
  holdFrame f bit acked ho h := ⟨outbox_invariant.holdFrame f bit acked ho h.1, State.holdFrame_ownershipOk bit acked ho h.2⟩
  beaconTimer ht h := ⟨outbox_invariant.beaconTimer ht h.1, h.2.same rfl rfl rfl id rfl rfl⟩
  loseBeacon {s} b w hslot h := ⟨outbox_invariant.loseBeacon b w hslot h.1, by
    unfold State.returnBeacon
    split
    next => exact h.2.unsent (fun q hq => ⟨hq, rfl, rfl, rfl⟩) (claimsOf_refl _) rfl
    next => exact h.2.unsent (fun q hq => ⟨hq, rfl, rfl, rfl⟩) (claimsOf_refl _) rfl⟩

/-! ### Effective claims (R96) -/

theorem State.applyClaim_number (s : State) (c : Station) (r : Region) (stamp : Stamp) :
    (s.applyClaim c r stamp).ctl.number = s.ctl.number := by simp

/-- Another station's effective claim: the region is the claimant's (R96, R98). -/
theorem State.applyClaim_ownershipOk {s : State} {c : Station} (r : Region) (stamp : Stamp) (hc : c ≠ s.own)
    (hslot : ∀ c w, s.line.slot ≠ some ⟨.claim c, w⟩) (h : s.ownershipOk) : (s.applyClaim c r stamp).ownershipOk := by
  obtain ⟨howner, -, -, -, -, hother⟩ := s.applyClaim_table c r stamp
  have hnot : (s.applyClaim c r stamp).owns r = false := by
    rw [State.owns, howner]
    exact beq_false_of_ne (by simpa [State.own] using hc)
  exact h.change (keepsOwned_of_other hnot hother) (s.applyClaim_shaped c r stamp).claimsOf
    (fun c w hs => absurd (by simpa using hs) (hslot c w))

/-- The station's own effective claim, with its entry gone: the region is owned, CURRENT at its owner epoch (R96, R97). -/
theorem State.ownClaim_ownershipOk {s : State} {r : Region} {stamp : Stamp} (hpulls : s.pullsOk) (hline : s.ctl.state.onLine = true)
    (hslot : s.line.slot = none) (hcopy : s.table[r].copy = .current) (hstamp : s.table[r].stamp = stamp)
    (hfree : ∀ e ∈ s.out.entries, e.isClaim = true → e.region ≠ r) (h : s.ownershipOk) : (s.applyClaim s.own r stamp).ownershipOk := by
  obtain ⟨howner, hstamp', hcopy', -, -, hother⟩ := s.applyClaim_table s.own r stamp
  have hnumber := s.applyClaim_number s.own r stamp
  have hkept {q : Region} (hq : q ≠ r) : (s.applyClaim s.own r stamp).owns q = s.owns q :=
    State.owns_congr (by rw [hother q hq]) hnumber
  have hnone : s.pullOf r = none := by
    cases hp : s.pullOf r with
    | none => rfl
    | some p =>
      exact absurd hcopy (CopyState.not_current_of_fetching
        (State.fetching_of_pulled hpulls ⟨p, List.mem_of_find?_eq_some hp, by simpa using List.find?_some hp⟩))
  rw [hnone, if_pos hstamp] at hcopy'
  rw [if_pos hstamp] at hstamp'
  have hclaims := (s.applyClaim_shaped s.own r stamp).claimsOf
  refine ⟨fun q hq => ?_, fun hoff => ?_, fun e' he' hclaim => ?_, hclaims.nodup h.2.2.2.1, fun c w hs => ?_, fun f bit acked hf => ?_⟩
  · by_cases hqr : q = r
    · subst hqr
      exact ⟨hcopy'.trans hcopy, _, howner, by rw [hstamp']⟩
    · rw [hother q hqr]
      exact h.1 q (hkept hqr ▸ hq)
  · exact absurd (by simpa using hoff) (State.not_offline_of_onLine hline)
  · obtain ⟨e, he, heclaim, hregion⟩ := hclaims.of_mem he' hclaim
    rw [← hregion, hkept (hfree e he heclaim)]
    exact h.2.2.1 e he heclaim
  · rw [s.applyClaim_line, hslot] at hs
    cases hs
  · rw [s.applyClaim_line] at hf
    rw [State.own, hnumber]
    exact h.2.2.2.2.2 f bit acked hf

theorem State.claimOver_ownOk {s : State} (r : Region) (source : ClaimSource) (won : Bool) (hnone : noClaim source s.out.entries)
    (h : s.ownOk) : (s.claimOver r source won).ownOk := by
  cases source with
  | host => exact ⟨State.claimOver_sendOk r .host won hnone h.1, h.2.same rfl rfl rfl id rfl rfl⟩
  | sweep =>
    have hheld : (s.unheldUnless won r).ownOk := by
      cases won with
      | true => exact h
      | false => exact own_invariant.dropHeld r h
    have hsame : (s.unheldUnless won r).out = s.out := by cases won <;> rfl
    refine own_invariant.sweepWalk ⟨⟨hheld.1.1.change hheld.1.1.1, State.closeSweep_outboxOk (by rwa [hsame]) (fun hrun => ?_) hheld.1.2⟩,
      hheld.2.same rfl rfl rfl id rfl rfl⟩
    rw [hsame]
    exact (s.out.sweep.pass_keeps r).2 hrun

/-- With the CLAIM that was sent gone, no other stands for its region (R65). -/
theorem State.no_claim_of_removeSending {s : State} {r : Region} (h : s.ownershipOk) (hsent : sendsClaim s.out.entries r) :
    ∀ e ∈ s.removeSending.out.entries, e.isClaim = true → e.region ≠ r := by
  rintro e he hclaim rfl
  obtain ⟨x, hx, hxclaim, hxsending, hregion⟩ := hsent
  obtain ⟨hmem, hwait⟩ := List.mem_filter.1 he
  have hsame : x = e := List.inj_on_of_nodup_map h.2.2.2.1 (List.mem_filter.2 ⟨hx, hxclaim⟩) (List.mem_filter.2 ⟨hmem, hclaim⟩) hregion
  rw [← hsame, hxsending] at hwait
  cases hwait

/-- Every step keeps the ownership invariant. -/
theorem own_step : StepInvariant State.ownOk where
  toInvariant := own_invariant
  withdraw {s} e source why hnext hslot h := by
    obtain ⟨hb, before, after, hes, herased⟩ := State.nextOffer_withdrawn hnext
    have hone := h.1.2.box.oneClaim source
    rw [hes] at hone
    refine State.claimOver_ownOk _ _ _ ?_ (own_invariant.post _ (own_invariant.fewer _ List.eraseP_sublist hslot h))
    show noClaim source (s.out.entries.eraseP _)
    rw [herased]
    exact noClaim_of_split hb hone
  dropDoomed {s} e cut he hslot h := by
    have hgone := own_invariant.countCut cut (own_invariant.removeSending hslot h)
    have hsame : (Outbox.without (s.removeSending.mapCtl (·.countCut cut)).out e).entries = s.removeSending.out.entries := by
      rcases e with ⟨r, u | (_ | _) | _ | _, sending, doom⟩
      · unfold Outbox.without
        dsimp only
        split <;> rfl
      all_goals rfl
    exact ⟨outbox_step.dropDoomed e cut he hslot h.1, hgone.2.same rfl hsame rfl id rfl rfl⟩
  ownClaimEnd {s} c w ack hslot h := by
    have hdone := own_invariant.attemptDone h
    obtain ⟨hcopy, hstamp, -, hsent⟩ := h.2.sent hslot
    have hline : s.ctl.state.onLine = true := h.1.1.2.2.2 (by rw [hslot]; exact Option.some_ne_none _)
    unfold State.ownClaimEnd State.claimDecided
    split
    next r source sending doom he =>
      have hnone : noClaim source s.attemptDone.removeSending.out.entries := State.noClaim_of_removeSending hdone.1.2.box he rfl
      have hgone : s.attemptDone.removeSending.ownOk := own_invariant.removeSending rfl hdone
      split
      next =>
        refine State.claimOver_ownOk _ _ _ (hnone.shaped (State.applyClaim_shaped _ _ _ _)) (own_invariant.post _ ⟨?_, ?_⟩)
        · exact outbox_free.applyClaim _ _ _ hgone.1
        · exact State.ownClaim_ownershipOk hgone.1.1 hline rfl hcopy hstamp (State.no_claim_of_removeSending hdone.2 hsent) hgone.2
      next => exact State.claimOver_ownOk _ _ _ hnone (own_invariant.post _ hgone)
    next => exact hdone
  claimHeard {s} c bit acked ack hrx hslot h := by
    have ho : c.origin ≠ s.own := h.2.2.2.2.2.2 _ bit acked hrx
    have hdone := own_invariant.receptionDone h
    refine ⟨outbox_free.claimHeard c acked ack h.1, ?_⟩
    unfold State.claimHeard State.decideClaim
    split
    next =>
      have hvoted := own_invariant.endVote c.region hdone
      split
      next => exact State.applyClaim_ownershipOk _ _ (by simpa [State.own] using ho) (by simpa using hslot) hvoted.2
      next => exact hvoted.2
    next => exact hdone.2

/-- Settles O59: pulls, catch-up list and ownership by the changes of which commands consist. -/
theorem stepKeepsPullsAndCopies : Obligations.StepKeepsPullsAndCopies :=
  ⟨fun _ _ hpulls hstep => pulls_step.step hstep hpulls, fun _ _ hpulls hlist hstep => (list_step.step hstep ⟨hpulls, hlist⟩).2,
    fun _ _ hpulls hout hown hstep => (own_step.step hstep ⟨⟨hpulls, hout⟩, hown⟩).2⟩

end Sys2Proof.Machine
end
